-- ==== Sys2Proof/Word.lean ====
section
/-!
DEFINITION. The word types of the SK-7 frame, the names of its parties, slots, doorways, axes and
channels, and the plain-data operands its commands carry.
-/

namespace Sys2Proof

abbrev Byte := BitVec 8

/-- A slot in the order of R34: P0, P1, E0, C0, C1, H0, H1, A0 to A3, F0, F1, L0. -/
abbrev Slot := Fin 14
/-- Core module C0 or C1. -/
abbrev CoreId := Fin 2
/-- Doorway 0 or 1. -/
abbrev Doorway := Fin 2
/-- Axis 0 to 3; also the axis module in slot A0 to A3. -/
abbrev Axis := Fin 4
/-- Field channel 0 to 63 (chapter 06). -/
abbrev Chan := Fin 64
/-- Field group 0 to 7. -/
abbrev Group := Fin 8
/-- Load channel 1 to 12, stored as 0 to 11. -/
abbrev LoadCh := Fin 12
/-- Host port P0 or P1. -/
abbrev HostPort := Fin 2
/-- Port with descriptors: P0, P1, P2, P4 in that order. -/
abbrev PortId := Fin 4
/-- Port with a CAN receive queue: P0, P1, P4 in that order. -/
abbrev RxPortId := Fin 3

/-- The parties that send requests, in the code order of the manual's events; `none` is 0xFF. -/
inductive Party where
  | sv | tl | p0 | p1 | p2 | p3 | p4
  deriving DecidableEq, Repr

/-- The two CAN buses. -/
inductive Bus where
  | d | t
  deriving DecidableEq, Repr

/-- A CAN frame as a controller hands it over or sends it (Tables MB-6 and MB-7). -/
structure CanFrame where
  fmt : Nat                         -- 0 classical, 1 FD, 2 XL
  ide : Bool := false               -- extended identifier
  rtr : Bool := false
  brs : Bool := false
  sec : Bool := false
  esi : Bool := false
  id : BitVec 29
  sdt : Byte := 0
  vcid : Byte := 0
  af : BitVec 32 := 0
  data : List Byte := []
  deriving DecidableEq, Repr

/-- The common part of a request: who sent it, its numbers and flags (Table HR-12), and the
content of its host buffer where it names one (none: it names none, or the host memory read failed). -/
structure Req where
  party : Party
  hseq : BitVec 32 := 0
  sq : BitVec 4 := 0
  cq : BitVec 4 := 0
  core : CoreId := 0                -- the core whose port received it (P4, R279)
  partialOk : Bool := false         -- descriptor flag partial_ok (R229)
  zsVouched : Bool := false         -- descriptor flag zs_vouched (R46)
  noIrq : Bool := false             -- descriptor flag no_irq (R305)
  timed : Bool := false             -- it has entered the resolver at its execution time (R371)
  buf : Option (List Byte) := none
  bufLen : Nat := 0                 -- length of the named host buffer
  stamp : Option (BitVec 48) := none -- start of frame of the CAN frame that carried it (P2, R360)
  deriving DecidableEq, Repr

/-- What a descriptor asks for, one constructor per opcode of Table RF-6, its arguments as raw
numbers. -/
inductive Op where
  | nop
  | claim (code : BitVec 32)
  | releaseClaims (codes : List (BitVec 32))
  | completionReplay (first : BitVec 32) (count ring : Nat)
  | heartbeat
  | wait (target alarm : Nat)
  | releaseHold
  | serviceDrop (slot : Nat)
  | coreHandover
  | restWindow
  | doorOpen (d : Nat)
  | doorClose (d : Nat)
  | doorStop (d : Nat)
  | doorEvacOpen (d : Nat)
  | doorReset (d : Nat)
  | stepRequest (d : Nat)
  | doorObstacle (d : Nat)
  | doorStatus (d : Nat)
  | axisMove (a : Nat) (pos : Int)
  | axisHalt (a : Nat)
  | axisReference (a : Nat)
  | axisSetPosition (a : Nat) (pos : Int)
  | segTableLoad (a number count : Nat) (x0 : Int)
  | mstepTableLoad (a : Nat)
  | fioSet (mask state : BitVec 64)
  | loadSet (mask state : BitVec 16)
  | loadRearm (mask : BitVec 16)
  | ioRead
  | paramRead (first count : Nat)
  | paramWrite (entries : List (Nat × Nat))
  | paramSetLoad
  | paramSetRead
  | timeSet (tai : Nat) (tick : BitVec 32) (err taiUtc : Nat)
  | timeRead
  | schedCancel (hseq : BitVec 32)
  | canTx (bus : Nat) (fmt : Byte) (len : Nat) (id : BitVec 32) (sdt vcid : Byte)
      (af : BitVec 32) (data : List Byte)
  | canTxAbort (hseq : BitVec 32)
  | canRxRead (max min wait : Nat) (fromOldest : Bool)
  | canRxAck (rseq : BitVec 32)
  | canFilterSet (index : Nat) (bits : Byte) (id mask : BitVec 32) (sdt sdtMask vcid vcidMask : Byte)
  | canStatus (bus : Nat)
  | canRecover (bus : Nat)
  | journalRead (reader mode area typeMask doorId count start wait : Nat)
  | journalStatus
  | journalRetain (first count : Nat)
  | journalRelease
  | journalNote (code : BitVec 16) (text : List Byte)
  | updateBegin
  | updateChunk (index : Nat) (hash : List Byte)
  | updateVerify (kind : Nat)
  | updateActivate (kind : Nat) (mask : BitVec 16)
  | updateConfirm (mask : BitVec 16)
  | updateAbort (kind : Nat) (mask : BitVec 16)
  | updateStatus
  | sessionChallenge (level : Nat)
  | sessionOpen (level : Nat) (response : BitVec 40)
  | sessionClose
  | keyProvision
  deriving DecidableEq, Repr

/-- One item of an event's data, packed little-endian in the order given (Table HR-14a: each
item takes the smallest of 1, 2 or 4 bytes; the first eight bytes travel in a ring event). -/
inductive Item where
  | u8 (n : Nat)
  | u16 (n : Nat)
  | u32 (n : Nat)
  deriving DecidableEq, Repr

/-- What a failed host memory access was for (R306). -/
inductive DmaKind where
  | descriptor (q : Fin 16) | buffer | completion (q : Fin 16) | event | status | shadow
  deriving DecidableEq, Repr

/-- Obstacle sources, Table OB-1, in code order from 1. -/
inductive ObSource where
  | edge | grid | following | proof | command | panel | link
  deriving DecidableEq, Repr

/-- The edges of a doorway: edge of leaf 0, edge of leaf 1, step edge. -/
inductive EdgeId where
  | edge0 | edge1 | step
  deriving DecidableEq, Repr

/-- Input faults of R146. -/
inductive InFault where
  | openWire | shortSupply | overvoltage
  deriving DecidableEq, Repr

/-- The readings of one phase in a resistance check (Table AX-3). -/
structure CheckPhase where
  diff : Nat                        -- leaving and returning currents differ by, mA
  trip : Bool                       -- overcurrent trip during the check
  mA : Nat                          -- current reached at 24 V
  milliOhm : Nat                    -- R_m
  deriving DecidableEq, Repr

/-- Time sources that can be lost (R358, R359). -/
inductive TimeSrcId where
  | frames | tpi
  deriving DecidableEq, Repr

end Sys2Proof
end

