-- ==== Sys2Proof/Syntax.lean ====
section
/-!
DEFINITION. The commands of the SK-7 frame: one constructor per row of the command table, with the
operands the row's event brings from outside. Rows whose name begins with op are requests of a party;
the others are events of a pin, a module, a bus, a host register or a timer.
-/

namespace Sys2Proof

/-- The commands, in the order of the chapters. -/
inductive Instr where
  -- Frame and modules (chapter 01)
  | tickPass
  | downlinkFrame (slot : Slot) (core : CoreId) (frame : List Byte)
  | missedTick (slot : Slot) (twoActive : Bool)
  | uplinkFrame (slot : Slot) (core : CoreId) (frame : List Byte)
  | linkLost (slot : Slot) (core : CoreId)
  | presAsserted (slot : Slot) (sid : BitVec 4) (sidp : Bool)
  | presenceDebounceDone (slot : Slot)
  | identityData (slot : Slot) (block : List Byte) (lowRail : Option (Nat × Nat))
  | identityTimeout (slot : Slot)
  | moduleInService (slot : Slot)
  | removeRequest (slot : Slot)
  | removeGateMet (slot : Slot)
  | latchReopenConfirm (slot : Slot)
  | opServiceDrop (r : Req) (slot : Slot)
  | hostGraceExpired (slot : Slot)
  | removalComplete (slot : Slot)
  | removeCancelled (slot : Slot)
  | moduleRemoved (slot : Slot)
  | unannouncedPull (slot : Slot)
  | latchFault (slot : Slot)
  -- Doorway sequences, interlocks and arbitration (chapter 02)
  | safe2Discrepancy (core : CoreId) (c : Chan)
  | safe2Cleared (core : CoreId) (c : Chan)
  | unlockTimeout (d : Doorway)
  | openTimeout (d : Doorway)
  | closeTimeout (d : Doorway)
  | lockTimeout (d : Doorway)
  | stepTimeout (d : Doorway)
  | warnTimeExpired (d : Doorway)
  | dwellClose (d : Doorway)
  | reopenPauseExpired (d : Doorway)
  | emergencyHandle (d : Doorway)
  | handleResetAllowed (d : Doorway)
  | isolationKeyOn (d : Doorway)
  | isolationKeyOff (d : Doorway)
  | proofLost (d : Doorway)
  | releaseLost (d : Doorway)
  | zsLostOpen (d : Doorway)
  | releaseEdge (d : Doorway)
  | pushbuttonPress (d : Doorway)
  | closeTrainlineEdge
  | evacuationInput
  | loopCloseDelay (core : CoreId)
  | loopDisagreement
  | tlTakeover (d : Doorway)
  | p2Timeout
  | pcieLinkChange (p : HostPort) (core : CoreId) (isUp : Bool) (gen : BitVec 3)
  | opDoorOpen (r : Req) (d : Doorway)
  | opDoorClose (r : Req) (d : Doorway)
  | opDoorStop (r : Req) (d : Doorway)
  | opDoorEvacOpen (r : Req) (d : Doorway)
  | opDoorReset (r : Req) (d : Doorway)
  | opStepRequest (r : Req) (d : Doorway)
  | opDoorObstacle (r : Req) (d : Doorway)
  | opDoorStatus (r : Req) (d : Doorway)
  | opClaim (r : Req) (code : BitVec 32)
  | opReleaseClaims (r : Req) (codes : List (BitVec 32))
  -- Motion generation (chapter 03)
  | moveEnd (a : Axis)
  | standstillSettle (a : Axis)
  | wakeRampEnd (a : Axis)
  | limitReached (a : Axis) (b : Bool)
  | opAxisMove (r : Req) (a : Nat) (pos : Int)
  | opAxisHalt (r : Req) (a : Nat)
  | opAxisReference (r : Req) (a : Nat)
  | opAxisSetPosition (r : Req) (a : Nat) (pos : Int)
  | opSegTableLoad (r : Req) (a number count : Nat) (x0 : Int)
  | opMstepTableLoad (r : Req) (a : Nat)
  | refSwitchMet (a : Axis)
  | refLatch (a : Axis) (latchCount : BitVec 32)
  | refSearchFail (a : Axis)
  | refLatchFail (a : Axis)
  | encDirection (a : Axis)
  | refLockTimeout (a : Axis)
  -- Axis modules and twin-lane axes (chapter 04)
  | overcurrentTrip (m : Axis) (phaseB : Bool)
  | peakLimit (m : Axis)
  | busRangeFault (m : Axis) (mV : Nat)
  | busRangeClear (m : Axis)
  | encFault (m : Axis) (reason : Nat)
  | motorTemp (m : Axis) (ohm : Nat)
  | heatsink (m : Axis) (celsius : Int)
  | resistanceCheck (m : Axis) (phase : Vector CheckPhase 2)
  | axConfigMismatch (m : Axis)
  | lossState (m : Axis)
  | following (a : Axis)
  | laneLost (m : Axis)
  | laneLeft (m : Axis)
  | laneRejoin (m : Axis)
  | twinJoined (m : Axis)
  | laneDisagree (a : Axis) (encoders : Bool) (difference : Nat)
  -- Obstacles and the urgent path (chapter 05)
  | obObstacle (d : Doorway) (src : ObSource) (sampleToTick : Nat)
  | edgeFault (d : Doorway) (edge : EdgeId) (fault : Nat)
  | edgeCleared (d : Doorway) (edge : EdgeId)
  | gridFault (d : Doorway) (fault : Nat)
  | stepObstacle (d : Doorway) (following : Bool)
  | relayWeld (core : CoreId) (relay : Fin 2)
  | journalGapRecord
  -- Field inputs and outputs (chapter 06)
  | groupSupplyChange (g : Group) (deciVolt : Int)
  | filterConfirm (c : Chan) (active : Bool)
  | inputFault (c : Chan) (kind : InFault) (data : Nat)
  | inputFaultClear (c : Chan)
  | bandResolve (c : Chan) (data : Nat)
  | bandHold (c : Chan) (data : Nat)
  | outOverload (c : Chan)
  | outOvertemp (c : Chan)
  | outOpenOn (c : Chan) (mA : Nat)
  | outOpenOff (c : Chan) (deciVolt : Nat)
  | outShortSupply (c : Chan) (deciVolt : Nat)
  | rearmDue (load : Bool) (c : Nat)
  | parallelFault (c member : Chan) (mA : Nat)
  | barrierFrame (m : Fin 2) (good : Bool)
  | barrierCmdFrame (m : Fin 2) (good : Bool)
  | fiSafeState (m : Fin 2) (barrier : Bool)
  | fiConfigApply (m : Fin 2)
  | fiConfigMismatch (m : Fin 2)
  -- Protected load switches (chapter 07)
  | loadSupplyChange (deciVolt : Int)
  | lsOverload (c : LoadCh) (why : Nat)
  | inrushWindowEnd (c : LoadCh) (inLimit : Bool)
  | wireModelUpdate (mA : Vector Nat 12)
  | lsOvertemp (c : LoadCh) (celsius : Nat)
  | clampPulse (c : LoadCh) (mJ avg : Nat)
  | clampHoldEnd (c : LoadCh) (avg : Nat)
  | lsOpenOn (c : LoadCh) (mA : Nat)
  | lsOpenOff (c : LoadCh) (deciVolt : Nat)
  | lsShortSupply (c : LoadCh) (deciVolt : Nat)
  | opLoadSet (r : Req) (mask state : BitVec 16)
  | opLoadRearm (r : Req) (mask : BitVec 16)
  | lsSafeState
  | lsConfigApply
  | lsConfigMismatch
  | ls24OvervoltSwitch (deciVolt : Nat)
  | lsDiagCleared (c : LoadCh)
  -- Supply, shut-down and service power (chapter 08)
  | powerModuleEnergised (p : Fin 2) (deciVolt : Int)
  | feedCrossing (p : Fin 2) (deciVolt : Int)
  | feedQualified (p : Fin 2)
  | feedInterruptEnd (p : Fin 2)
  | shareFault (share0 share1 : Nat)
  | suOverload (p : Fin 2) (pOut rail : Nat)
  | lossRideExpired
  | shutdownStepEnd
  | shutdownCap
  | hostHoldExpired
  | fastRestart
  | fullStart
  | svcAttach (core : CoreId) (pd : Bool) (offers : List (Nat × Nat)) (typeC : Nat)
  | svcTransitionAccept (core : CoreId) (volts : Nat)
  | svcPsRdy (core : CoreId)
  | svcLoadsReturn (core : CoreId)
  | svcBrownout (core : CoreId)
  | svcDetach (core : CoreId)
  | pdHardReset (core : CoreId)
  -- The energy store and motion admission (chapter 09)
  | cellFault (cell kind value : Nat)
  | cellTemp (cell : Nat) (celsius : Int)
  | boostLimit (budget : Bool)
  | emLossTimeout
  | reserveFloor
  | lastAction
  | restWindowStart
  | restWindowDone (c esr : Nat)
  | windowAborted (cause : Nat)
  | estFitAfter
  | estStaleAfter
  | restWanted
  | opRestWindow (r : Req)
  | boostCutoff
  -- Power states and wake (chapter 10)
  | opWait (r : Req) (target : Nat) (alarm : Nat)
  | pwrModeConsent (p : HostPort) (core : CoreId) (v : BitVec 32)
  | pwrWakeCauseClear (p : HostPort) (core : CoreId) (v : BitVec 32)
  | tlConsent
  | entryStepEnd
  | entryAborted (cause : Nat)
  | entryWindowEnd (wk : Byte)
  | wakeEvent (causes : BitVec 32) (retentionFailed : Bool) (slept : Nat)
  | wakeFrame (f : CanFrame) (slept : Nat)
  | wakeTimetableRow (ready : Bool)
  | wakeFailRepeat
  | opReleaseHold (r : Req)
  | holdAutoRelease
  -- The core pair and handover (chapter 11)
  | listenTimeout (core : CoreId)
  | dualActive (how : Nat)
  | mirrorFrame (frame : List Byte)
  | returnFrame (frame : List Byte)
  | standbyAckLost
  | standbyInStep
  | coreFault (core : CoreId) (cause : Nat)
  | chargePumpExpired (core : CoreId)
  | takeover
  | tickFault
  | mirrorLost
  | plannedHandover (acknowledged : Bool)
  | coverageHandover
  | opCoreHandover (r : Req)
  | catchupDone
  | coreRestart (core : CoreId)
  | hostLinkGrace
  -- Host slots and descriptor rings (chapter 12)
  | hostPowerTrip (p : HostPort) (mA : Nat)
  | sqTailDoorbell (p : HostPort) (core : CoreId) (q : Fin 16) (t : BitVec 32)
  | cqHeadDoorbell (p : HostPort) (core : CoreId) (q : Fin 16) (h : BitVec 32)
  | evqHeadDoorbell (p : HostPort) (core : CoreId) (h : BitVec 32)
  | shadowPoll (p : HostPort) (area : Option (List Byte))
  | ringCfgWrite (p : HostPort) (core : CoreId) (evq : Bool) (v : BitVec 32)
  | portEnable (p : HostPort) (core : CoreId) (v : BitVec 32)
  | portDisable (p : HostPort) (core : CoreId) (v : BitVec 32)
  | registerWrite (p : HostPort) (core : CoreId) (offset : BitVec 12) (v : BitVec 32)
  | descriptorFetch (p : PortId) (q : Fin 16) (desc : Option (List Byte)) (buf : Option (List Byte))
  | laybyDrain (p : PortId)
  | eventsDroppedReport (p : PortId)
  | opCompletionReplay (r : Req) (first : BitVec 32) (count : Nat) (ring : Nat)
  | msixMessage (p : HostPort) (ring : Option (Fin 16))
  | dmaError (p : HostPort) (kind : DmaKind)
  | opNop (r : Req)
  | opHeartbeat (r : Req)
  | opParamRead (r : Req) (first count : Nat)
  | opParamWrite (r : Req) (entries : List (Nat × Nat))
  | opParamSetLoad (r : Req)
  | opParamSetRead (r : Req)
  | opIoRead (r : Req)
  | opFioSet (r : Req) (mask state : BitVec 64)
  -- CAN buses D and T (chapter 13)
  | canFrameReceived (bus : Bus) (f : CanFrame)
  | protocolException (bus : Bus)
  | busStateChange (core : CoreId) (bus : Bus) (new : Nat) (tec rec : Nat)
  | mbErrorRate (bus : Bus)
  | busoffDelayExpired (bus : Bus)
  | rateCandidateTimeout (bus : Bus)
  | rateFail (bus : Bus)
  | opCanTx (r : Req) (bus : Nat) (fmt : Byte) (len : Nat) (id : BitVec 32) (sdt vcid : Byte)
      (af : BitVec 32) (data : List Byte)
  | canTxDone (bus : Bus) (index : Nat) (stamp : BitVec 48) (delay : Option Nat)
  | opCanTxAbort (r : Req) (hseq : BitVec 32)
  | opCanRxRead (r : Req) (max min wait : Nat) (fromOldest : Bool)
  | rxReadWaitExpired (p : RxPortId)
  | opCanRxAck (r : Req) (rseq : BitVec 32)
  | rxDroppedReport (p : RxPortId)
  | opCanFilterSet (r : Req) (index : Nat) (bits : Byte) (id mask : BitVec 32)
      (sdt sdtMask vcid vcidMask : Byte)
  | opCanStatus (r : Req) (bus : Nat)
  | opCanRecover (r : Req) (bus : Nat)
  | p2DescriptorFrame (id : BitVec 29) (xl : Bool) (stamp : BitVec 48) (data : List Byte)
  | p2StatusPeriod
  | fallbackHeartbeat
  | doorCmd (id : BitVec 29) (data : List Byte)
  | statusReq (id : BitVec 29) (data : List Byte)
  | canBusError (bus : Bus) (index : Option Nat) (kind tec rec : Nat)
  -- The panel bus (chapter 14)
  | panelAddrPoll (pins : BitVec 4)
  | panelWriteTransfer (bytes : List Byte)
  | panelReadTransfer (count : Nat) (stop : Bool)
  | accessReq (d : Doorway)
  | panelObstacle (d : Doorway)
  | intercomInd (d : Doorway) (state : Nat)
  | intercomBlink (d : Doorway)
  | stretchLimit (cmd : List Byte)
  | pbBusTimeout
  | pbBusStuck (lines : Nat)
  | pbBusFree
  | panelRequest
  | requestCollision
  -- Time and scheduled actions (chapter 15)
  | timeFrame (stamp : BitVec 48) (data : List Byte)
  | tpiEdge (stamp : BitVec 48) (width : Nat)
  | sourceLoss (src : TimeSrcId)
  | hostRefreshExpired
  | opTimeSet (r : Req) (tai : Nat) (tick : BitVec 32) (err : Nat) (taiUtc : Nat)
  | offsetMeasure
  | timeStep
  | tpoPulse
  | schedExec (p : PortId) (hseq : BitVec 32)
  | opSchedCancel (r : Req) (hseq : BitVec 32)
  | opTimeRead (r : Req)
  -- The journal (chapter 16)
  | priorityTailProgram (core : CoreId)
  | ordinaryWaitExpired (core : CoreId)
  | journalProgramDone (core : CoreId) (good : Bool) (page plane : Nat) (blockBad : Bool)
  | opJournalRead (r : Req) (reader mode area typeMask doorId count : Nat) (start : Nat) (wait : Nat)
      (bad : List Nat)
  | journalReadWaitExpired (reader : Fin 4)
  | opJournalStatus (r : Req)
  | opJournalRetain (r : Req) (first count : Nat)
  | retainCopyDone
  | opJournalRelease (r : Req)
  | opJournalNote (r : Req) (code : BitVec 16) (text : List Byte)
  -- Firmware updates and service access (chapter 17)
  | opUpdateBegin (r : Req)
  | opUpdateChunk (r : Req) (index : Nat) (hash : List Byte)
  | opUpdateVerify (r : Req) (kind : Nat)
  | opUpdateActivate (r : Req) (kind : Nat) (mask : BitVec 16)
  | slotActivationStart (slot : Slot)
  | memoryFrame (slot : Slot) (core : CoreId) (frame : List Byte)
  | bankWriteDone (slot : Slot) (good : Bool)
  | moduleBoot (slot : Slot)
  | opUpdateConfirm (r : Req) (mask : BitVec 16)
  | autoConfirm (slot : Slot)
  | trialTimeout (slot : Slot)
  | opUpdateAbort (r : Req) (kind : Nat) (mask : BitVec 16)
  | opUpdateStatus (r : Req)
  | opKeyProvision (r : Req)
  | usbContainer (core : CoreId) (bytes : List Byte)
  | opSessionChallenge (r : Req) (level : Nat)
  | opSessionOpen (r : Req) (level : Nat) (response : BitVec 40)
  | opSessionClose (r : Req)
  | sessionIdle (core : CoreId)
  | lockoutEnd (core : CoreId)
  deriving DecidableEq, Repr

end Sys2Proof
end

