-- ==== Sys2Proof/Decode.lean ====
section
/-!
DEFINITION. The command a word of the table spells. The table gives no row of this hardware any bits: a
command comes from outside with its operands, so no word spells one.
-/

namespace Sys2Proof

/-- No row of the command table has bits, so every word is refused. -/
def decodeTableWord (_nbits _w : Nat) : Option Instr := none

end Sys2Proof
end

