-- ==== Sys2Proof/Config.lean ====
section
/-!
DEFINITION. What the manual leaves open or an implementation fixes, as constants without a body: a claim
that mentions one holds whatever its value is (log 2).
-/

namespace Sys2Proof.Config

/-- A fresh value the manual does not state, by the state's counter of free values (log 2). -/
opaque freeNat : Nat → Nat

/-- The vendor's signature check: does the signature over the message hold under the vendor key (R396)?
The key is the vendor's and not in the manual. -/
opaque vendorSigned : (message signature : List Byte) → Bool

/-- ECDSA P-256 verification under a public key of 64 bytes (R396, R413). -/
opaque ecdsaVerify : (key message signature : List Byte) → Bool

/-- Each core's service key of 256 bits, set at manufacture and never readable (R416). -/
opaque serviceKey : Fin 2 → List (BitVec 8)

/-- The random 40-bit challenges of R416, by the state's counter of free values. -/
opaque challenge : Nat → BitVec 40

/-- Each core module's serial number (identity block, Table FR-7). -/
opaque coreSerial : Fin 2 → BitVec 32

/-- Each core module's identity block (Table FR-7). -/
opaque coreIdentity : Fin 2 → List (BitVec 8)

/-- The firmware a module of a serial number brings when it is fitted: header and body (R412, log 2). -/
opaque fittedImage : BitVec 32 → List (BitVec 8) × List (BitVec 8)

/-- The identity block a module in a slot answers an identity read with (Tables FR-7 and UD-5). -/
opaque identity : Fin 14 → List (BitVec 8)

end Sys2Proof.Config
end

