-- ==== Sys2Proof/Machine/Codes.lean ====
section
/-!
DEFINITION. The code numbers of the reference tables: events (Table RF-4), completion statuses
(Table RF-5) and opcodes (Table RF-6).
-/

namespace Sys2Proof.Machine

/-! ### Event codes, Table RF-4 -/

abbrev Ev.FR_MODULE_INSERTED : BitVec 10 := 0x000
abbrev Ev.FR_MODULE_IN_SERVICE : BitVec 10 := 0x001
abbrev Ev.FR_REMOVE_REQUEST : BitVec 10 := 0x002
abbrev Ev.FR_FREE_TO_PULL : BitVec 10 := 0x003
abbrev Ev.FR_MODULE_REMOVED : BitVec 10 := 0x004
abbrev Ev.FR_UNANNOUNCED_PULL : BitVec 10 := 0x005
abbrev Ev.FR_REMOVE_REFUSED : BitVec 10 := 0x006
abbrev Ev.FR_REMOVE_WAITING : BitVec 10 := 0x007
abbrev Ev.FR_REMOVE_CANCELLED : BitVec 10 := 0x008
abbrev Ev.FR_IDENTITY_MISMATCH : BitVec 10 := 0x009
abbrev Ev.FR_IDENTITY_INVALID : BitVec 10 := 0x00A
abbrev Ev.FR_SLOT_ID_FAULT : BitVec 10 := 0x00B
abbrev Ev.FR_LINK_CRC : BitVec 10 := 0x00C
abbrev Ev.FR_LINK_LOST : BitVec 10 := 0x00D
abbrev Ev.FR_TIER_CHANGE : BitVec 10 := 0x00E
abbrev Ev.FR_MODULE_FAULT : BitVec 10 := 0x00F
abbrev Ev.FR_PRECHARGE_FAULT : BitVec 10 := 0x010
abbrev Ev.FR_LATCH_FAULT : BitVec 10 := 0x011
abbrev Ev.FR_DUAL_ACTIVE : BitVec 10 := 0x012
abbrev Ev.DW_STATE : BitVec 10 := 0x040
abbrev Ev.DW_STEP_STATE : BitVec 10 := 0x041
abbrev Ev.DW_INTERLOCK : BitVec 10 := 0x042
abbrev Ev.DW_DISCREPANCY : BitVec 10 := 0x043
abbrev Ev.DW_ISOLATION_PENDING : BitVec 10 := 0x044
abbrev Ev.DW_EMERGENCY_HANDLE : BitVec 10 := 0x045
abbrev Ev.DW_LOCK_LOST : BitVec 10 := 0x046
abbrev Ev.DW_TIMEOUT : BitVec 10 := 0x047
abbrev Ev.DW_LOOP : BitVec 10 := 0x048
abbrev Ev.DW_AUTONOMOUS : BitVec 10 := 0x049
abbrev Ev.DW_CLAIM : BitVec 10 := 0x04A
abbrev Ev.DW_CONFLICT : BitVec 10 := 0x04B
abbrev Ev.DW_ZS_LOST_OPEN : BitVec 10 := 0x04C
abbrev Ev.DW_RESET : BitVec 10 := 0x04D
abbrev Ev.MS_WARN_START : BitVec 10 := 0x050
abbrev Ev.MS_CLOSE_START : BitVec 10 := 0x051
abbrev Ev.MS_PASSABLE : BitVec 10 := 0x052
abbrev Ev.MS_CLOSED : BitVec 10 := 0x053
abbrev Ev.MS_LOCKED : BitVec 10 := 0x054
abbrev Ev.MS_STEP_STOWED : BitVec 10 := 0x055
abbrev Ev.OB_OBSTACLE : BitVec 10 := 0x090
abbrev Ev.OB_REOPEN_DONE : BitVec 10 := 0x091
abbrev Ev.OB_PERSISTENT : BitVec 10 := 0x092
abbrev Ev.OB_EDGE_FAULT : BitVec 10 := 0x093
abbrev Ev.OB_GRID_FAULT : BitVec 10 := 0x094
abbrev Ev.OB_STALE_INPUT : BitVec 10 := 0x095
abbrev Ev.OB_STEP_OBSTACLE : BitVec 10 := 0x096
abbrev Ev.OB_FORCE_CAP : BitVec 10 := 0x097
abbrev Ev.OB_LATENCY : BitVec 10 := 0x098
abbrev Ev.OB_EDGE_CLEARED : BitVec 10 := 0x099
abbrev Ev.OB_RELAY_WELD : BitVec 10 := 0x09A
abbrev Ev.MO_MOVE_START : BitVec 10 := 0x0C0
abbrev Ev.MO_MOVE_END : BitVec 10 := 0x0C1
abbrev Ev.MO_REPLAN : BitVec 10 := 0x0C2
abbrev Ev.MO_FREEZE : BitVec 10 := 0x0C3
abbrev Ev.MO_POS_UNCERTAIN : BitVec 10 := 0x0C4
abbrev Ev.MO_REF_START : BitVec 10 := 0x0C5
abbrev Ev.MO_REF_DONE : BitVec 10 := 0x0C6
abbrev Ev.MO_REF_FAIL : BitVec 10 := 0x0C7
abbrev Ev.MO_LIMIT : BitVec 10 := 0x0C8
abbrev Ev.MO_VOLT_LIMIT : BitVec 10 := 0x0C9
abbrev Ev.MO_TABLE_LOADED : BitVec 10 := 0x0CA
abbrev Ev.MO_TABLE_REFUSED : BitVec 10 := 0x0CB
abbrev Ev.MO_SEG_MARK : BitVec 10 := 0x0CC
abbrev Ev.MO_RESYNC : BitVec 10 := 0x0CD
abbrev Ev.MO_ENC_DIRECTION : BitVec 10 := 0x0CE
abbrev Ev.MO_STANDSTILL : BitVec 10 := 0x0CF
abbrev Ev.AX_CHECK_PASS : BitVec 10 := 0x100
abbrev Ev.AX_OVERCURRENT : BitVec 10 := 0x101
abbrev Ev.AX_PHASE_OPEN : BitVec 10 := 0x102
abbrev Ev.AX_PHASE_SHORT : BitVec 10 := 0x103
abbrev Ev.AX_PHASE_GROUND : BitVec 10 := 0x104
abbrev Ev.AX_BUS_RANGE : BitVec 10 := 0x105
abbrev Ev.AX_HEATSINK : BitVec 10 := 0x106
abbrev Ev.AX_MOTOR_TEMP : BitVec 10 := 0x107
abbrev Ev.AX_TEMP_SENSOR : BitVec 10 := 0x108
abbrev Ev.AX_ENC_FAULT : BitVec 10 := 0x109
abbrev Ev.AX_CHECK_HIGH : BitVec 10 := 0x10A
abbrev Ev.AX_FOLLOWING : BitVec 10 := 0x10B
abbrev Ev.AX_TICK_MISSED : BitVec 10 := 0x10C
abbrev Ev.AX_LOSS_STATE : BitVec 10 := 0x10D
abbrev Ev.AX_CONFIG_MISMATCH : BitVec 10 := 0x10E
abbrev Ev.AX_PEAK_LIMIT : BitVec 10 := 0x10F
abbrev Ev.AX_TWIN_JOINED : BitVec 10 := 0x110
abbrev Ev.AX_LANE_LOST : BitVec 10 := 0x111
abbrev Ev.AX_LANE_LEFT : BitVec 10 := 0x112
abbrev Ev.AX_TWIN_DERATE : BitVec 10 := 0x113
abbrev Ev.AX_LANE_DISAGREE : BitVec 10 := 0x114
abbrev Ev.AX_LIMIT_BOTH : BitVec 10 := 0x115
abbrev Ev.FI_CHANGE : BitVec 10 := 0x140
abbrev Ev.FI_BAND : BitVec 10 := 0x141
abbrev Ev.FI_BAND_CLEARED : BitVec 10 := 0x142
abbrev Ev.FI_OPEN_WIRE : BitVec 10 := 0x143
abbrev Ev.FI_SHORT_SUPPLY : BitVec 10 := 0x144
abbrev Ev.FI_OUT_OVERLOAD : BitVec 10 := 0x145
abbrev Ev.FI_OUT_OPEN_ON : BitVec 10 := 0x146
abbrev Ev.FI_OUT_OPEN_OFF : BitVec 10 := 0x147
abbrev Ev.FI_OUT_OVERTEMP : BitVec 10 := 0x148
abbrev Ev.FI_OUT_SHORT_SUPPLY : BitVec 10 := 0x149
abbrev Ev.FI_GROUP_SUPPLY : BitVec 10 := 0x14A
abbrev Ev.FI_SAFE_STATE : BitVec 10 := 0x14B
abbrev Ev.FI_SAFE_LEFT : BitVec 10 := 0x14C
abbrev Ev.FI_BARRIER_CRC : BitVec 10 := 0x14D
abbrev Ev.FI_CONFIG_MISMATCH : BitVec 10 := 0x14E
abbrev Ev.FI_CHATTER : BitVec 10 := 0x14F
abbrev Ev.FI_DIAG_CLEARED : BitVec 10 := 0x150
abbrev Ev.FI_WR_OVERVOLT : BitVec 10 := 0x151
abbrev Ev.FI_PARALLEL_FAULT : BitVec 10 := 0x152
abbrev Ev.FI_HOLD : BitVec 10 := 0x153
abbrev Ev.LS_SUPPLY : BitVec 10 := 0x240
abbrev Ev.LS_OVERLOAD : BitVec 10 := 0x241
abbrev Ev.LS_WIRE_WARN : BitVec 10 := 0x242
abbrev Ev.LS_WIRE_TRIP : BitVec 10 := 0x243
abbrev Ev.LS_OPEN_ON : BitVec 10 := 0x244
abbrev Ev.LS_OPEN_OFF : BitVec 10 := 0x245
abbrev Ev.LS_OVERTEMP : BitVec 10 := 0x246
abbrev Ev.LS_SHORT_SUPPLY : BitVec 10 := 0x247
abbrev Ev.LS_CLAMP_OVER : BitVec 10 := 0x248
abbrev Ev.LS_CLAMP_HOT : BitVec 10 := 0x249
abbrev Ev.LS_SAFE_STATE : BitVec 10 := 0x24A
abbrev Ev.LS_SAFE_LEFT : BitVec 10 := 0x24B
abbrev Ev.LS_CONFIG_MISMATCH : BitVec 10 := 0x24C
abbrev Ev.LS_HOLD : BitVec 10 := 0x24D
abbrev Ev.LS_SHED : BitVec 10 := 0x24E
abbrev Ev.LS_DIAG_CLEARED : BitVec 10 := 0x24F
abbrev Ev.LS_REARM : BitVec 10 := 0x250
abbrev Ev.SU_FEED_STATE : BitVec 10 := 0x2A0
abbrev Ev.SU_FEED_REVERSED : BitVec 10 := 0x2A1
abbrev Ev.SU_FEED_OVER : BitVec 10 := 0x2A2
abbrev Ev.SU_BAND_AT_START : BitVec 10 := 0x2A3
abbrev Ev.SU_INTERRUPT_BRIDGED : BitVec 10 := 0x2A4
abbrev Ev.SU_SHARE_FAULT : BitVec 10 := 0x2A5
abbrev Ev.SU_PM_FAULT : BitVec 10 := 0x2A6
abbrev Ev.SU_UN_STORED : BitVec 10 := 0x2A7
abbrev Ev.SU_OVERLOAD : BitVec 10 := 0x2A8
abbrev Ev.SU_SHUTDOWN_STEP : BitVec 10 := 0x2B0
abbrev Ev.SU_SHUTDOWN_ABANDONED : BitVec 10 := 0x2B1
abbrev Ev.SU_SUPPLY_LOSS : BitVec 10 := 0x2B2
abbrev Ev.SU_FAST_RESTART : BitVec 10 := 0x2B3
abbrev Ev.SU_SHUTDOWN_CAP : BitVec 10 := 0x2B4
abbrev Ev.SU_SVC_ATTACH : BitVec 10 := 0x2C0
abbrev Ev.SU_SVC_DETACH : BitVec 10 := 0x2C1
abbrev Ev.SU_SVC_TRANSITION : BitVec 10 := 0x2C2
abbrev Ev.SU_SVC_BROWNOUT : BitVec 10 := 0x2C3
abbrev Ev.SU_SVC_INSUFFICIENT : BitVec 10 := 0x2C4
abbrev Ev.SU_SVC_ONLY : BitVec 10 := 0x2C5
abbrev Ev.EN_STATE : BitVec 10 := 0x2E0
abbrev Ev.EN_READY : BitVec 10 := 0x2E1
abbrev Ev.EN_ADMIT_REFUSED : BitVec 10 := 0x2E2
abbrev Ev.EN_ADMIT_PARTIAL : BitVec 10 := 0x2E3
abbrev Ev.EN_ABORT_LINE : BitVec 10 := 0x2E4
abbrev Ev.EN_STRANDED : BitVec 10 := 0x2E5
abbrev Ev.EN_RESERVE_FLOOR : BitVec 10 := 0x2E6
abbrev Ev.EN_EST_UPDATE : BitVec 10 := 0x2E7
abbrev Ev.EN_EST_STATE : BitVec 10 := 0x2E8
abbrev Ev.EN_REST_WANTED : BitVec 10 := 0x2E9
abbrev Ev.EN_WINDOW_ABORTED : BitVec 10 := 0x2EA
abbrev Ev.EN_CELL_FAULT : BitVec 10 := 0x2EB
abbrev Ev.EN_CELL_TEMP : BitVec 10 := 0x2EC
abbrev Ev.EN_BOOST_LIMIT : BitVec 10 := 0x2ED
abbrev Ev.EN_CHARGER_FAULT : BitVec 10 := 0x2EE
abbrev Ev.EN_END_OF_LIFE : BitVec 10 := 0x2EF
abbrev Ev.EN_LOSS_ACTION : BitVec 10 := 0x2F0
abbrev Ev.EN_LAST_ACTION : BitVec 10 := 0x2F1
abbrev Ev.PW_CONSENT : BitVec 10 := 0x320
abbrev Ev.PW_ENTRY_REFUSED : BitVec 10 := 0x321
abbrev Ev.PW_ENTRY_ABORTED : BitVec 10 := 0x322
abbrev Ev.PW_ENTER : BitVec 10 := 0x323
abbrev Ev.PW_WAKE : BitVec 10 := 0x324
abbrev Ev.PW_WINDOW_CHANGE : BitVec 10 := 0x325
abbrev Ev.PW_REG_RETRY : BitVec 10 := 0x326
abbrev Ev.PW_DETOUR_WAKE : BitVec 10 := 0x327
abbrev Ev.PW_WAKE_FAILED : BitVec 10 := 0x328
abbrev Ev.PW_OSC_FALLBACK : BitVec 10 := 0x329
abbrev Ev.PW_PLL_FAIL : BitVec 10 := 0x32A
abbrev Ev.PW_RETENTION_LOST : BitVec 10 := 0x32B
abbrev Ev.PW_HOLD_RELEASED : BitVec 10 := 0x32C
abbrev Ev.PW_TL_ENTRY : BitVec 10 := 0x32D
abbrev Ev.CP_ROLE : BitVec 10 := 0x340
abbrev Ev.CP_HANDOVER : BitVec 10 := 0x341
abbrev Ev.CP_TAKEOVER : BitVec 10 := 0x342
abbrev Ev.CP_COLD_TAKEOVER : BitVec 10 := 0x343
abbrev Ev.CP_STANDBY_STATE : BitVec 10 := 0x344
abbrev Ev.CP_MIRROR_CRC : BitVec 10 := 0x345
abbrev Ev.CP_MIRROR_LOST : BitVec 10 := 0x346
abbrev Ev.CP_DUAL_ACTIVE : BitVec 10 := 0x347
abbrev Ev.CP_SET_HASH_MISMATCH : BitVec 10 := 0x348
abbrev Ev.CP_PROTOCOL_MISMATCH : BitVec 10 := 0x349
abbrev Ev.CP_CATCHUP_DONE : BitVec 10 := 0x34A
abbrev Ev.CP_BACKFILL : BitVec 10 := 0x34B
abbrev Ev.CP_HANDOVER_REFUSED : BitVec 10 := 0x34C
abbrev Ev.CP_COVERAGE : BitVec 10 := 0x34D
abbrev Ev.CP_CORE_FAULT : BitVec 10 := 0x34E
abbrev Ev.CP_TICK_FAULT : BitVec 10 := 0x34F
abbrev Ev.CP_BOTH_SILENT : BitVec 10 := 0x350
abbrev Ev.CP_CROSSCHECK : BitVec 10 := 0x351
abbrev Ev.HR_PORT_UP : BitVec 10 := 0x360
abbrev Ev.HR_PORT_DOWN : BitVec 10 := 0x361
abbrev Ev.HR_LINK : BitVec 10 := 0x362
abbrev Ev.HR_EVENTS_DROPPED : BitVec 10 := 0x363
abbrev Ev.HR_LAYBY : BitVec 10 := 0x364
abbrev Ev.HR_RING_ERROR : BitVec 10 := 0x365
abbrev Ev.HR_DMA_ERROR : BitVec 10 := 0x366
abbrev Ev.HR_DOORBELL_STANDBY : BitVec 10 := 0x367
abbrev Ev.HR_SLOT_REMOVE : BitVec 10 := 0x368
abbrev Ev.HR_IDENTITY : BitVec 10 := 0x369
abbrev Ev.HR_HOST_POWER : BitVec 10 := 0x36A
abbrev Ev.HR_DUPLICATE : BitVec 10 := 0x36B
abbrev Ev.MB_BUS_STATE : BitVec 10 := 0x380
abbrev Ev.MB_RATE_DETECTED : BitVec 10 := 0x381
abbrev Ev.MB_RATE_FAIL : BitVec 10 := 0x382
abbrev Ev.MB_RX_DROPPED : BitVec 10 := 0x383
abbrev Ev.MB_TX_ERROR : BitVec 10 := 0x384
abbrev Ev.MB_ERROR_RATE : BitVec 10 := 0x385
abbrev Ev.MB_TDC_RANGE : BitVec 10 := 0x386
abbrev Ev.MB_FALLBACK_CMD : BitVec 10 := 0x387
abbrev Ev.MB_FALLBACK_REQ : BitVec 10 := 0x388
abbrev Ev.MB_P2_DROPPED : BitVec 10 := 0x389
abbrev Ev.MB_P2_LINK : BitVec 10 := 0x38A
abbrev Ev.MB_PROTOCOL_EXCEPTION : BitVec 10 := 0x38B
abbrev Ev.MB_ID_CLASH : BitVec 10 := 0x38C
abbrev Ev.MB_TX_REPEATED : BitVec 10 := 0x38D
abbrev Ev.PB_MAILBOX_CMD : BitVec 10 := 0x3C0
abbrev Ev.PB_ACCESS_REQ : BitVec 10 := 0x3C1
abbrev Ev.PB_INTERCOM : BitVec 10 := 0x3C2
abbrev Ev.PB_STRETCH_LIMIT : BitVec 10 := 0x3C3
abbrev Ev.PB_BUS_TIMEOUT : BitVec 10 := 0x3C4
abbrev Ev.PB_BUS_STUCK : BitVec 10 := 0x3C5
abbrev Ev.PB_BUS_FREE : BitVec 10 := 0x3C6
abbrev Ev.PB_REQUEST_COLLISION : BitVec 10 := 0x3C7
abbrev Ev.PB_ADDR_CHANGED : BitVec 10 := 0x3C8
abbrev Ev.PB_WRITE_REFUSED : BitVec 10 := 0x3C9
abbrev Ev.TM_QUALITY : BitVec 10 := 0x3D0
abbrev Ev.TM_SOURCE : BitVec 10 := 0x3D1
abbrev Ev.TM_SLEW_START : BitVec 10 := 0x3D2
abbrev Ev.TM_SLEW_DONE : BitVec 10 := 0x3D3
abbrev Ev.TM_STEP_PENDING : BitVec 10 := 0x3D4
abbrev Ev.TM_STEP : BitVec 10 := 0x3D5
abbrev Ev.TM_TPI_FAULT : BitVec 10 := 0x3D6
abbrev Ev.TM_FRAME_FAULT : BitVec 10 := 0x3D7
abbrev Ev.TM_SCHED_EXEC : BitVec 10 := 0x3D8
abbrev Ev.TM_SCHED_REFUSED : BitVec 10 := 0x3D9
abbrev Ev.TM_SCHED_CANCELLED : BitVec 10 := 0x3DA
abbrev Ev.TM_HOST_SET : BitVec 10 := 0x3DB
abbrev Ev.TM_RTC : BitVec 10 := 0x3DC
abbrev Ev.TM_UNSET : BitVec 10 := 0x3DD
abbrev Ev.TM_LEAP : BitVec 10 := 0x3DE
abbrev Ev.JR_COMMIT_SLOW : BitVec 10 := 0x3E0
abbrev Ev.JR_STAGING_HIGH : BitVec 10 := 0x3E1
abbrev Ev.JR_GAP : BitVec 10 := 0x3E2
abbrev Ev.JR_WRAP : BitVec 10 := 0x3E3
abbrev Ev.JR_BAD_BLOCK : BitVec 10 := 0x3E4
abbrev Ev.JR_SPARES_LOW : BitVec 10 := 0x3E5
abbrev Ev.JR_PROGRAM_FAIL : BitVec 10 := 0x3E6
abbrev Ev.JR_RECOVERY : BitVec 10 := 0x3E7
abbrev Ev.JR_MIRROR_MISSING : BitVec 10 := 0x3E8
abbrev Ev.JR_RETAIN : BitVec 10 := 0x3E9
abbrev Ev.JR_RETAIN_FULL : BitVec 10 := 0x3EA
abbrev Ev.JR_READ_OVERRUN : BitVec 10 := 0x3EB
abbrev Ev.JR_NOTE_DROPPED : BitVec 10 := 0x3EC
abbrev Ev.JR_CRC : BitVec 10 := 0x3ED
abbrev Ev.JR_NAND_FAULT : BitVec 10 := 0x3EE
abbrev Ev.UD_STAGE : BitVec 10 := 0x3F0
abbrev Ev.UD_CHUNK_FAIL : BitVec 10 := 0x3F1
abbrev Ev.UD_VERIFY_FAIL : BitVec 10 := 0x3F2
abbrev Ev.UD_ACTIVATED : BitVec 10 := 0x3F3
abbrev Ev.UD_CONFIRMED : BitVec 10 := 0x3F4
abbrev Ev.UD_ROLLBACK : BitVec 10 := 0x3F5
abbrev Ev.UD_SEC_COUNTER : BitVec 10 := 0x3F6
abbrev Ev.UD_RESUMED : BitVec 10 := 0x3F7
abbrev Ev.UD_ALIGN : BitVec 10 := 0x3F8
abbrev Ev.UD_IMAGE_REFUSED : BitVec 10 := 0x3F9
abbrev Ev.UD_SUSPENDED : BitVec 10 := 0x3FA
abbrev Ev.UD_SESSION_OPEN : BitVec 10 := 0x3FB
abbrev Ev.UD_SESSION_CLOSE : BitVec 10 := 0x3FC
abbrev Ev.UD_AUTH_FAIL : BitVec 10 := 0x3FD
abbrev Ev.UD_LOCKOUT : BitVec 10 := 0x3FE
abbrev Ev.UD_KEY : BitVec 10 := 0x3FF

/-! ### Completion statuses, Table RF-5 -/

abbrev ST_OK : Byte := 0x00
abbrev ST_PARTIAL : Byte := 0x01
abbrev ST_PREEMPTED : Byte := 0x02
abbrev ST_CONFLICT : Byte := 0x03
abbrev ST_NOT_OWNER : Byte := 0x04
abbrev ST_INTERLOCK : Byte := 0x05
abbrev ST_STATE : Byte := 0x06
abbrev ST_RANGE : Byte := 0x07
abbrev ST_BAD_FIELD : Byte := 0x08
abbrev ST_BAD_OPCODE : Byte := 0x09
abbrev ST_PORT : Byte := 0x0A
abbrev ST_ENERGY : Byte := 0x0B
abbrev ST_UNCERTAIN : Byte := 0x0C
abbrev ST_LIMIT : Byte := 0x0D
abbrev ST_REF_FAIL : Byte := 0x0E
abbrev ST_DUPLICATE : Byte := 0x0F
abbrev ST_DMA : Byte := 0x10
abbrev ST_TIME_QUALITY : Byte := 0x11
abbrev ST_SIGNATURE : Byte := 0x20
abbrev ST_SECURITY_VERSION : Byte := 0x21
abbrev ST_IMAGE : Byte := 0x22
abbrev ST_CHUNK : Byte := 0x23
abbrev ST_SESSION : Byte := 0x24
abbrev ST_AUTH : Byte := 0x25
abbrev ST_LOCKED_OUT : Byte := 0x26
abbrev ST_UPDATE_STATE : Byte := 0x27
abbrev ST_SERVICE_DROP : Byte := 0x28

/-! ### Opcodes, Table RF-6 -/

abbrev Opc.OP_NOP : BitVec 15 := 0x0001
abbrev Opc.OP_CLAIM : BitVec 15 := 0x0002
abbrev Opc.OP_RELEASE_CLAIMS : BitVec 15 := 0x0003
abbrev Opc.OP_COMPLETION_REPLAY : BitVec 15 := 0x0004
abbrev Opc.OP_HEARTBEAT : BitVec 15 := 0x0005
abbrev Opc.OP_WAIT : BitVec 15 := 0x0006
abbrev Opc.OP_RELEASE_HOLD : BitVec 15 := 0x0007
abbrev Opc.OP_SERVICE_DROP : BitVec 15 := 0x0008
abbrev Opc.OP_CORE_HANDOVER : BitVec 15 := 0x0009
abbrev Opc.OP_REST_WINDOW : BitVec 15 := 0x000A
abbrev Opc.OP_DOOR_OPEN : BitVec 15 := 0x0100
abbrev Opc.OP_DOOR_CLOSE : BitVec 15 := 0x0101
abbrev Opc.OP_DOOR_STOP : BitVec 15 := 0x0102
abbrev Opc.OP_DOOR_EVAC_OPEN : BitVec 15 := 0x0103
abbrev Opc.OP_DOOR_RESET : BitVec 15 := 0x0104
abbrev Opc.OP_STEP_REQUEST : BitVec 15 := 0x0105
abbrev Opc.OP_DOOR_OBSTACLE : BitVec 15 := 0x0106
abbrev Opc.OP_DOOR_STATUS : BitVec 15 := 0x0107
abbrev Opc.OP_AXIS_MOVE : BitVec 15 := 0x0200
abbrev Opc.OP_AXIS_HALT : BitVec 15 := 0x0201
abbrev Opc.OP_AXIS_REFERENCE : BitVec 15 := 0x0202
abbrev Opc.OP_AXIS_SET_POSITION : BitVec 15 := 0x0203
abbrev Opc.OP_SEG_TABLE_LOAD : BitVec 15 := 0x0204
abbrev Opc.OP_MSTEP_TABLE_LOAD : BitVec 15 := 0x0205
abbrev Opc.OP_FIO_SET : BitVec 15 := 0x0300
abbrev Opc.OP_LOAD_SET : BitVec 15 := 0x0301
abbrev Opc.OP_LOAD_REARM : BitVec 15 := 0x0302
abbrev Opc.OP_IO_READ : BitVec 15 := 0x0303
abbrev Opc.OP_PARAM_READ : BitVec 15 := 0x0400
abbrev Opc.OP_PARAM_SET_READ : BitVec 15 := 0x0403
abbrev Opc.OP_PARAM_WRITE : BitVec 15 := 0x0401
abbrev Opc.OP_PARAM_SET_LOAD : BitVec 15 := 0x0402
abbrev Opc.OP_TIME_SET : BitVec 15 := 0x0500
abbrev Opc.OP_TIME_READ : BitVec 15 := 0x0501
abbrev Opc.OP_SCHED_CANCEL : BitVec 15 := 0x0502
abbrev Opc.OP_CAN_TX : BitVec 15 := 0x0600
abbrev Opc.OP_CAN_TX_ABORT : BitVec 15 := 0x0601
abbrev Opc.OP_CAN_RX_READ : BitVec 15 := 0x0602
abbrev Opc.OP_CAN_RX_ACK : BitVec 15 := 0x0603
abbrev Opc.OP_CAN_FILTER_SET : BitVec 15 := 0x0604
abbrev Opc.OP_CAN_RECOVER : BitVec 15 := 0x0606
abbrev Opc.OP_CAN_STATUS : BitVec 15 := 0x0605
abbrev Opc.OP_JOURNAL_READ : BitVec 15 := 0x0700
abbrev Opc.OP_JOURNAL_STATUS : BitVec 15 := 0x0701
abbrev Opc.OP_JOURNAL_RETAIN : BitVec 15 := 0x0702
abbrev Opc.OP_JOURNAL_RELEASE : BitVec 15 := 0x0703
abbrev Opc.OP_JOURNAL_NOTE : BitVec 15 := 0x0704
abbrev Opc.OP_UPDATE_BEGIN : BitVec 15 := 0x0800
abbrev Opc.OP_UPDATE_CHUNK : BitVec 15 := 0x0801
abbrev Opc.OP_UPDATE_VERIFY : BitVec 15 := 0x0802
abbrev Opc.OP_UPDATE_ACTIVATE : BitVec 15 := 0x0803
abbrev Opc.OP_UPDATE_CONFIRM : BitVec 15 := 0x0804
abbrev Opc.OP_UPDATE_ABORT : BitVec 15 := 0x0805
abbrev Opc.OP_UPDATE_STATUS : BitVec 15 := 0x0806
abbrev Opc.OP_SESSION_CHALLENGE : BitVec 15 := 0x0810
abbrev Opc.OP_SESSION_OPEN : BitVec 15 := 0x0811
abbrev Opc.OP_SESSION_CLOSE : BitVec 15 := 0x0812
abbrev Opc.OP_KEY_PROVISION : BitVec 15 := 0x0820

end Sys2Proof.Machine
end

