-- ==== Sys2Proof/Machine/Operands.lean ====
section
/-!
DEFINITION. Operand helpers: little-endian fields of byte strings, bit fields of stored words, and the
integer arithmetic (rounded division, square and cube roots, sine) the manual's formulas need.
-/

namespace Sys2Proof.Machine

/-! ### Byte strings: every multi-byte field of the manual is little-endian -/

/-- Byte `i` of a string; 0 beyond its end. -/
def byteAt (bs : List Byte) (i : Nat) : Nat := (bs.getD i 0).toNat

/-- The `n`-byte little-endian number at offset `i`. -/
def leAt (bs : List Byte) (i : Nat) : Nat → Nat
  | 0 => 0
  | n + 1 => byteAt bs i + 256 * leAt bs (i + 1) n

def u16At (bs : List Byte) (i : Nat) : Nat := leAt bs i 2
def u32At (bs : List Byte) (i : Nat) : Nat := leAt bs i 4
def u64At (bs : List Byte) (i : Nat) : Nat := leAt bs i 8

/-- The two's-complement value of the low `w` bits of `n`. -/
def signed (w n : Nat) : Int :=
  if n % 2 ^ w < 2 ^ (w - 1) then (n % 2 ^ w : Nat) else ((n % 2 ^ w : Nat) : Int) - 2 ^ w

/-- The low `w` bits of an integer, as a number. -/
def unsigned (w : Nat) (i : Int) : Nat := (i % (2 ^ w : Int)).toNat

def s8At (bs : List Byte) (i : Nat) : Int := signed 8 (byteAt bs i)
def s16At (bs : List Byte) (i : Nat) : Int := signed 16 (u16At bs i)
def s32At (bs : List Byte) (i : Nat) : Int := signed 32 (u32At bs i)

/-- The little-endian bytes of `n`. -/
def leBytes : Nat → Nat → List Byte
  | 0, _ => []
  | k + 1, n => BitVec.ofNat 8 n :: leBytes k (n / 256)

/-- The big-endian bytes of `n`. -/
def beBytes (k n : Nat) : List Byte := (leBytes k n).reverse

/-- `n` bytes from offset `i`, padded with zeros to `n`. -/
def slice (bs : List Byte) (i n : Nat) : List Byte :=
  let part := (bs.drop i).take n
  part ++ List.replicate (n - part.length) 0

/-- Replace bytes from offset `i`; bytes beyond the end are dropped. -/
def putBytes (bs : List Byte) (i : Nat) (new : List Byte) : List Byte :=
  (bs.take i ++ new ++ bs.drop (i + new.length)).take bs.length

/-- Bits `lo` to `lo + w − 1` of a number. -/
def bits (n lo w : Nat) : Nat := n / 2 ^ lo % 2 ^ w

/-- Bit `i` of a number. -/
def bit (n i : Nat) : Bool := bits n i 1 == 1

def Bool.nat (b : Bool) : Nat := if b then 1 else 0

/-- A mask with bit `i` set where `f i`. -/
def maskOf (n : Nat) (f : Nat → Bool) : Nat :=
  (List.range n).foldl (fun m i => if f i then m + 2 ^ i else m) 0

/-- Saturating counters. -/
def satAdd (w a b : Nat) : Nat := min (a + b) (2 ^ w - 1)

/-! ### Numbers of parties, slots and ports -/

def Party.code : Party → Nat
  | .sv => 0 | .tl => 1 | .p0 => 2 | .p1 => 3 | .p2 => 4 | .p3 => 5 | .p4 => 6

/-- The code of a party or 0xFF for none (R310). -/
def partyCode : Option Party → Nat
  | none => 0xFF
  | some p => Party.code p

/-- The port whose rings a party uses. -/
def portOf : Party → Option PortId
  | .p0 => some 0
  | .p1 => some 1
  | .p2 => some 2
  | .p4 => some 3
  | _ => none

/-- The number of a port in event data: P0, P1, P2 and P4. -/
def portNum (p : PortId) : Nat := if p = 3 then 4 else p.val

/-- The party of a port. -/
def partyOf (p : PortId) : Party :=
  if p = 0 then .p0 else if p = 1 then .p1 else if p = 2 then .p2 else .p4

def hostParty (p : HostPort) : Party := if p = 0 then .p0 else .p1

def hostPort (p : HostPort) : PortId := if p = 0 then 0 else 1

/-- The slot of an axis module, a core, a power module or a field module (R34's order). -/
def axisSlot (a : Axis) : Slot := ⟨7 + a.val, by omega⟩
def coreSlot (c : CoreId) : Slot := ⟨3 + c.val, by omega⟩
def pmSlot (p : Fin 2) : Slot := ⟨p.val, by omega⟩
def hostSlot (p : HostPort) : Slot := ⟨5 + p.val, by omega⟩
def fieldSlot (m : Fin 2) : Slot := ⟨11 + m.val, by omega⟩
def e0Slot : Slot := 2
def l0Slot : Slot := 13

def otherCore (c : CoreId) : CoreId := if c = 0 then 1 else 0

/-- A raw number as a bounded index. -/
def asFin (n k : Nat) : Option (Fin n) := if h : k < n then some ⟨k, h⟩ else none

/-! ### Integer arithmetic -/

/-- Division rounded to the nearest integer, halves away from zero. -/
def rdiv (a : Int) (b : Nat) : Int :=
  if b = 0 then 0
  else if 0 ≤ a then (2 * a + b) / (2 * b) else -((-(2 * a) + b) / (2 * b))

/-- Natural division rounded to nearest, halves up. -/
def ndiv (a b : Nat) : Nat := if b = 0 then 0 else (2 * a + b) / (2 * b)

/-- One digit of the square root: the largest `r` whose square is at most `n`, from the bits above. -/
def isqrtFrom (n : Nat) : Nat → Nat → Nat
  | 0, r => r
  | k + 1, r =>
    let t := r + 2 ^ k
    isqrtFrom n k (if t * t ≤ n then t else r)

/-- The integer square root. -/
def isqrt (n : Nat) : Nat := isqrtFrom n (n.log2 / 2 + 1) 0

def icbrtFrom (n : Nat) : Nat → Nat → Nat
  | 0, r => r
  | k + 1, r =>
    let t := r + 2 ^ k
    icbrtFrom n k (if t * t * t ≤ n then t else r)

/-- The integer cube root. -/
def icbrt (n : Nat) : Nat := icbrtFrom n (n.log2 / 3 + 1) 0

/-- π as a ratio, to 15 decimals. -/
def piNum : Nat := 3141592653589793
def piDen : Nat := 10 ^ 15

/-- Terms of the sine series at scale 10^18: x is the angle in 1e-18 rad, between 0 and π/2. -/
def sinTerms (x2 : Int) : Nat → Nat → Int → Int
  | 0, _, _ => 0
  | k + 1, i, term => term + sinTerms x2 k (i + 2) (-(term * x2 / (10 ^ 18 * ((i + 1) * (i + 2)))))

/-- Sine of an angle in 1e-18 rad, between 0 and π/2, in 1e-18. -/
def sin18 (x : Int) : Int := sinTerms (x * x / 10 ^ 18) 14 1 x

/-- Entry `n` of the built-in microstep table (R67): round(2,047 × sin(2π n / 1,024)). -/
def mstepEntry (n : Nat) : Int :=
  let q := n % 1024
  let quarter (m : Nat) : Int :=
    (2 * 2047 * sin18 ((2 * piNum * m * 1000 / 1024 : Nat) : Int) + 10 ^ 18) / (2 * 10 ^ 18)
  if q ≤ 256 then quarter q
  else if q ≤ 512 then quarter (512 - q)
  else if q ≤ 768 then -quarter (q - 512)
  else -quarter (1024 - q)

/-- The sign of an integer as −1, 0 or 1. -/
def sgn (i : Int) : Int := if 0 < i then 1 else if i < 0 then -1 else 0

/-! ### Items of event data -/

def Item.bytes : Item → List Byte
  | .u8 n => leBytes 1 n
  | .u16 n => leBytes 2 n
  | .u32 n => leBytes 4 n

/-- Event data packed in order (Table HR-14a). -/
def packItems (is : List Item) : List Byte := is.flatMap Item.bytes

def item8 (b : Bool) : Item := .u8 (Bool.nat b)
/-- A signed value as a u32 item. -/
def itemS (i : Int) : Item := .u32 (unsigned 32 i)

end Sys2Proof.Machine
end

