-- ==== Sys2Proof/Machine/Flags.lean ====
section
/-!
DEFINITION. Check codes: CRC-32 (R16), CRC-16/CCITT (R156), SHA-256
and HMAC-SHA-256 (R309, R396, R416).
-/

namespace Sys2Proof.Machine

/-! ### CRC-32 of R16: polynomial 0x04C11DB7, initial value and final XOR 0xFFFFFFFF, reflected -/

def crc32Bit : Nat → BitVec 32 → BitVec 32
  | 0, c => c
  | k + 1, c => crc32Bit k (if c.getLsbD 0 then (c >>> 1) ^^^ 0xEDB88320 else c >>> 1)

def crc32Step (c : BitVec 32) (b : Byte) : BitVec 32 := crc32Bit 8 (c ^^^ b.setWidth 32)

def crc32 (bs : List Byte) : BitVec 32 := bs.foldl crc32Step 0xFFFFFFFF ^^^ 0xFFFFFFFF

/-! ### CRC-16/CCITT of R156: polynomial 0x1021, initial value 0xFFFF -/

def crc16Bit : Nat → BitVec 16 → BitVec 16
  | 0, c => c
  | k + 1, c => crc16Bit k (if c.getLsbD 15 then (c <<< 1) ^^^ 0x1021 else c <<< 1)

def crc16 (bs : List Byte) : BitVec 16 :=
  bs.foldl (fun (c : BitVec 16) (b : Byte) => crc16Bit 8 (c ^^^ (b.setWidth 16 <<< (8 : Nat)))) 0xFFFF

/-! ### SHA-256 and HMAC -/

def shaK : List (BitVec 32) :=
  [0x428a2f98, 0x71374491, 0xb5c0fbcf, 0xe9b5dba5, 0x3956c25b, 0x59f111f1, 0x923f82a4, 0xab1c5ed5,
   0xd807aa98, 0x12835b01, 0x243185be, 0x550c7dc3, 0x72be5d74, 0x80deb1fe, 0x9bdc06a7, 0xc19bf174] ++
  [0xe49b69c1, 0xefbe4786, 0x0fc19dc6, 0x240ca1cc, 0x2de92c6f, 0x4a7484aa, 0x5cb0a9dc, 0x76f988da,
   0x983e5152, 0xa831c66d, 0xb00327c8, 0xbf597fc7, 0xc6e00bf3, 0xd5a79147, 0x06ca6351, 0x14292967] ++
  [0x27b70a85, 0x2e1b2138, 0x4d2c6dfc, 0x53380d13, 0x650a7354, 0x766a0abb, 0x81c2c92e, 0x92722c85,
   0xa2bfe8a1, 0xa81a664b, 0xc24b8b70, 0xc76c51a3, 0xd192e819, 0xd6990624, 0xf40e3585, 0x106aa070] ++
  [0x19a4c116, 0x1e376c08, 0x2748774c, 0x34b0bcb5, 0x391c0cb3, 0x4ed8aa4a, 0x5b9cca4f, 0x682e6ff3,
   0x748f82ee, 0x78a5636f, 0x84c87814, 0x8cc70208, 0x90befffa, 0xa4506ceb, 0xbef9a3f7, 0xc67178f2]

def shaInit : List (BitVec 32) :=
  [0x6a09e667, 0xbb67ae85, 0x3c6ef372, 0xa54ff53a, 0x510e527f, 0x9b05688c, 0x1f83d9ab, 0x5be0cd19]

/-- One more word of the message schedule, the schedule held newest first. -/
def shaExtend (w : List (BitVec 32)) : List (BitVec 32) :=
  let g (i : Nat) : BitVec 32 := w.getD i 0
  let s0 := (g 14).rotateRight 7 ^^^ (g 14).rotateRight 18 ^^^ (g 14 >>> 3)
  let s1 := (g 1).rotateRight 17 ^^^ (g 1).rotateRight 19 ^^^ (g 1 >>> 10)
  (g 15 + s0 + g 6 + s1) :: w

def shaSchedule : Nat → List (BitVec 32) → List (BitVec 32)
  | 0, w => w
  | k + 1, w => shaSchedule k (shaExtend w)

def shaRound (h : List (BitVec 32)) (kw : BitVec 32 × BitVec 32) : List (BitVec 32) :=
  match h with
  | [a, b, c, d, e, f, g, hh] =>
    let s1 := e.rotateRight 6 ^^^ e.rotateRight 11 ^^^ e.rotateRight 25
    let ch := (e &&& f) ^^^ (~~~e &&& g)
    let t1 := hh + s1 + ch + kw.1 + kw.2
    let s0 := a.rotateRight 2 ^^^ a.rotateRight 13 ^^^ a.rotateRight 22
    let maj := (a &&& b) ^^^ (a &&& c) ^^^ (b &&& c)
    [t1 + (s0 + maj), a, b, c, d + t1, e, f, g]
  | other => other

/-- The big-endian words of a block. -/
def beWords : List Byte → List (BitVec 32)
  | a :: b :: c :: d :: rest => (a ++ b ++ c ++ d) :: beWords rest
  | _ => []

def shaBlock (h : List (BitVec 32)) (block : List Byte) : List (BitVec 32) :=
  let w := (shaSchedule 48 (beWords block).reverse).reverse
  List.zipWith (· + ·) h ((shaK.zip w).foldl shaRound h)

/-- The blocks of a padded message, `n` of them. -/
def shaBlocks : Nat → List Byte → List (BitVec 32) → List (BitVec 32)
  | 0, _, h => h
  | n + 1, m, h => shaBlocks n (m.drop 64) (shaBlock h (m.take 64))

/-- SHA-256, 32 bytes. -/
def sha256 (m : List Byte) : List Byte :=
  let pad := (119 - m.length % 64) % 64
  let padded := m ++ [0x80] ++ List.replicate pad 0 ++ beBytes 8 (8 * m.length)
  (shaBlocks (padded.length / 64) padded shaInit).flatMap fun w => beBytes 4 w.toNat

/-- HMAC-SHA-256. -/
def hmacSha256 (key m : List Byte) : List Byte :=
  let k0 := if key.length ≤ 64 then key else sha256 key
  let k := k0 ++ List.replicate (64 - k0.length) 0
  let inner := sha256 (k.map (· ^^^ 0x36) ++ m)
  sha256 (k.map (· ^^^ 0x5c) ++ inner)

end Sys2Proof.Machine
end

