-- ==== Sys2Proof/Machine/State.lean ====
section
/-!
DEFINITION. The state of the SK-7 frame: everything the manual gives it, chapter by chapter, as plain
data, with the queue of waiting commands. Times are in ns of the frame's own clock unless a field says
otherwise. `State.reset` is the unpowered frame with default parameters (assumption log 1 to 7).
-/

namespace Sys2Proof.Machine

/-! ### Host ports and rings (chapter 12) -/

/-- A completion, Table HR-13 (the phase bit and sq_head are set when it is written to its ring). -/
structure Completion where
  opcode : BitVec 15
  status : Byte
  sq : BitVec 4 := 0
  cq : BitVec 4 := 0                -- completion ring it is written to
  hseq : BitVec 32
  dseq : BitVec 32
  sqHead : Nat := 0                 -- head of the submission ring when written
  replay : Bool := false            -- flags bit 0 (R303)
  viaLayby : Bool := false          -- flags bit 1
  core : BitVec 1 := 0              -- flags bit 2, writing core
  phase : Bool := false             -- opcode word bit 15
  noIrq : Bool := false             -- the descriptor's no_irq flag: not counted towards an MSI-X message
  detail : BitVec 32 := 0
  result : List Byte := []          -- bytes 20 to 31; the rest are 0
  deriving DecidableEq, Repr

/-- An event, Table HR-14a. -/
structure Event where
  code : BitVec 10
  core : BitVec 1 := 0              -- flags bit 0, raising core
  viaLayby : Bool := false          -- flags bit 1
  phase : Bool := false             -- code word bit 15
  dseq : BitVec 32
  hseqMark : BitVec 32
  stamp : Nat                       -- TAI ns
  err : Nat                         -- time error estimate in ns
  data : List Byte := []            -- bytes 24 to 31
  deriving DecidableEq, Repr

/-- One ring's set-up and indexes: RING_CFG (Table HR-7), RING_STATUS (Table HR-8). -/
structure Ring where
  base : BitVec 64 := 0
  cfg : BitVec 32 := 0
  dev : Nat := 0                    -- head (submission) or write index (completion, event)
  host : Nat := 0                   -- last tail (submission) or last head (completion, event) accepted
  error : Bool := false
  reason : BitVec 3 := 0
  phase : Bool := true              -- phase of the next entry (R290, R296)
  reserved : Nat := 0               -- completion places reserved in this ring (R300)
  unsignalled : Nat := 0            -- entries counted towards the next MSI-X message (R305)
  firstUnsignalled : Nat := 0       -- when the first of them was written
  deriving DecidableEq, Repr

/-- One port of descriptors, completions and events: P0 and P1 over PCIe, and P2 and P4 whose rings the frame keeps. -/
structure PortSt where
  ctrl : BitVec 32 := 4             -- PORT_CTRL (Table HR-4)
  running : Bool := false           -- PORT_STATUS.running
  up : Bool := false                -- the port is up (R60)
  links : Vector Bool 2 := .replicate 2 false -- PORT_STATUS.link_c0, link_c1
  gens : Vector (BitVec 3) 2 := .replicate 2 0 -- generation of each link
  fetchStopped : Bool := false      -- PORT_STATUS.fetch_stopped (R300)
  error : BitVec 6 := 0             -- PORT_ERROR (Table HR-6)
  evFilter : BitVec 15 := 0x7FFF    -- EV_FILTER
  statusBase : BitVec 64 := 0
  shadowBase : BitVec 64 := 0
  ringSel : BitVec 5 := 0           -- RING_SEL
  evq : Ring := {}
  sq : Vector Ring 16 := .replicate 16 {}
  cq : Vector Ring 16 := .replicate 16 {}
  cqEntries : Vector (List Completion) 16 := .replicate 16 [] -- entries written and not yet returned
  evqEntries : List Event := []
  hseqConsumed : BitVec 32 := 0     -- HSEQ_CONSUMED
  hseqAny : Bool := false           -- some hseq has been consumed
  hseqSeen : List (BitVec 32) := [] -- consumed values within 4,096 of the highest (R301)
  sqLastHseq : Vector (BitVec 32) 16 := .replicate 16 0
  dseqNext : BitVec 32 := 1         -- DSEQ_NEXT (R302)
  evDropped : BitVec 32 := 0        -- EV_DROPPED, saturating
  dropRun : Nat := 0                -- events dropped since the last HR_EVENTS_DROPPED
  dropFirst : BitVec 32 := 0        -- first dseq of that run
  laybyCq : List Completion := []   -- completion lay-by, at most 64
  laybyEv : List Event := []        -- event lay-by, at most 256
  laybyReserved : Nat := 0          -- completion places reserved in the lay-by (R300)
  laybyRaised : Nat := 0            -- last HR_LAYBY value: 0 cleared, 1 in use, 2 fetch stopped
  kept : List Completion := []      -- the last 256 completions, newest first (R303)
  writeCount : BitVec 32 := 0       -- status block write_count
  statusWrites : Nat := 0           -- status block writes still due this tick
  rotate : Nat := 0                 -- submission ring last served (R297)
  standbyDoorbells : Nat := 0       -- doorbells on the standby in the running second (R294)
  standbyRaisedAt : Option Nat := none
  msix : Nat := 0                   -- MSI-X messages sent
  lastBuf : List Byte := []         -- the data last copied into a host buffer of this port
  h12On : Bool := false             -- H12 switched on (R287)
  h12Tripped : Bool := false
  deriving DecidableEq, Repr


/-! ### The journal (chapter 16) -/

/-- The cycle record of a doorway while its cycle runs and when it ends (Table JR-2); offsets in ticks. -/
structure CycleRec where
  stamp : Nat := 0                  -- TICK edge at which the cycle began, TAI ns
  doorId : Nat := 0
  opener : Byte := 0xFF
  closer : Byte := 0xFF
  endKind : Nat := 0                -- 0 CLOSED_LOCKED, 1 shut-down or brown-out, 2 low-power entry
  flags : Byte := 0
  obstacles : Nat := 0
  sources : Byte := 0
  tOpen : Option Nat := none
  tWarn : Option Nat := none
  tClose : Option Nat := none
  tPassOpen : Option Nat := none
  tPassClose : Option Nat := none
  tClosed : Option Nat := none
  tLocked : Option Nat := none
  tStepDeployed : Option Nat := none
  tStepStowed : Option Nat := none
  widthMax : Nat := 0
  lockRetries : Nat := 0
  stepRetries : Nat := 0
  iClose : Nat := 0
  iOpen : Nat := 0
  vBusMin : Nat := 0xFFFF
  followMax : Nat := 0
  eStore : Nat := 0                 -- mJ
  xLock0 : Int := 0
  xLock1 : Int := 0
  forceCaps : Nat := 0
  tMotor : Int := -128
  supply : Byte := 0
  tier : Nat := 0
  cycleNo : Nat := 0
  deriving DecidableEq, Repr

/-- The bodies of the seven record types (Tables JR-2 and JR-3). -/
inductive RecBody where
  | cycle (c : CycleRec)
  | event (code : BitVec 10) (core : BitVec 1) (items : List Item)
  | timeStep (old new : Nat) (offset : Int) (source crossed qBefore qAfter eBefore : Nat)
  | gapUnstaged (count firstStamp lastStamp : Nat)
  | gapSkipped (first count : Nat)
  | shutdown (bytes : List Byte)    -- body bytes 32 to 78
  | start (bytes : List Byte)       -- body bytes 32 to 59
  | note (party : Byte) (code : BitVec 16) (text : List Byte)
  deriving DecidableEq, Repr

/-- A journal record (Table JR-1); its number is given when it enters a page image (R381). -/
structure Record where
  number : Nat := 0
  byC1 : Bool := false
  priority : Bool := false
  quality : Nat := 0
  stamp : Nat := 0
  err : Nat := 0
  frameId : Nat := 0
  startCount : Nat := 0
  committed : Nat := 0              -- commit time of its page, TAI ns (R391); kept in the MRAM page index
  body : RecBody
  noteFor : Option Req := none      -- the request a note record completes (R393); not part of the record's bytes
  deriving DecidableEq, Repr

/-- What a NAND program in progress writes (R382). -/
inductive NandProgram where
  | tail | journal
  deriving DecidableEq, Repr

/-- One core's NAND journal (R381 to R387). -/
structure NandSt where
  held : List Record := []          -- committed records, newest first (at most 8,388,608)
  image : List (Record × Nat) := [] -- records of the open page image not yet committed, oldest first, and when each entered
  imageFill : Nat := 0              -- records in the open page image, 0 to 32, committed ones counted
  program : Option (NandProgram × Nat) := none -- program in progress, and how many image records it contains
  failRun : Nat := 0                -- failed programs in a row (R386)
  spares : Nat := 128               -- spare blocks left
  retired : Nat := 0                -- blocks retired beyond the spares
  faulted : Bool := false           -- NAND faulted (R386)
  wrapped : Nat := 0                -- records erased by wrapping so far (R385)
  writeSlot : Nat := 0              -- record slots of the journal area written since manufacture
  retention : List Record := []     -- retention area, oldest first (R387)
  backfillOldest : Nat := 0         -- oldest number received by back-fill (Table JR-6)
  backfillRunning : Bool := false
  backfillTotal : Nat := 0          -- records of the running back-fill, and those received (R282)
  backfillDone : Nat := 0
  lastShutdown : Nat := 0           -- number of the last shut-down record committed
  deriving DecidableEq, Repr

/-- A waiting mode-2 read (R391). -/
structure WaitingRead where
  req : Req
  reader : Fin 4
  area : Nat
  typeMask : Nat
  doorId : Nat
  count : Nat
  bufLen : Nat
  dueAt : Nat
  deriving DecidableEq, Repr

/-- The journal: staging (R137), numbering (R381), readers (R390) and both cores' NAND. -/
structure JournalSt where
  stagedPrio : List Record := []    -- staging, priority records, oldest first
  stagedOrd : List Record := []     -- staging, ordinary records, oldest first
  unstaged : Nat := 0               -- event records not staged since the last gap record (R137)
  unstagedFirst : Nat := 0
  unstagedLast : Nat := 0
  highRaised : Bool := false        -- JR_STAGING_HIGH raised for this fill
  nextNumber : Nat := 1             -- number of the next record (MRAM, R381)
  startCount : BitVec 16 := 0       -- starts since manufacture (Table JR-1)
  cycleNo : Vector Nat 2 := .replicate 2 0 -- cycle_no of each doorway (MRAM)
  cycleFrom : Vector (Option Nat) 2 := .replicate 2 none -- tick in which the running cycle began
  cycle : Vector CycleRec 2 := .replicate 2 {}
  nand : Vector NandSt 2 := .replicate 2 {}
  cursors : Vector (Option Nat) 4 := .replicate 4 none -- number after the last record copied, per reader
  waiting : List WaitingRead := []
  retain : List (Req × Nat × Nat) := [] -- copies asked for, the running one first: first number and count (R387)
  notes : Vector Nat 4 := .replicate 4 0  -- notes of each port in the running second (R393)
  notesDropped : Vector Nat 4 := .replicate 4 0
  notesFrom : Vector Nat 4 := .replicate 4 0
  mirrored : Nat := 0               -- newest number sent to the standby (R388)
  missingRaised : Bool := false     -- JR_MIRROR_MISSING raised for this episode
  deriving DecidableEq, Repr

/-! ### CAN buses D and T (chapter 13) -/

/-- Bus states, Table MB-4 in code order. -/
inductive BusState where
  | off | detecting | errorActive | errorPassive | busOff | listenOnly | sleep
  deriving DecidableEq, Repr

/-- One CAN controller of one core (R312 to R320). -/
structure CanCtl where
  state : BusState := .off
  txErr : Nat := 0                  -- transmit error counter TEC
  rxErr : Nat := 0                  -- receive error counter REC
  errors : Nat := 0                 -- errors in the running second
  errorsLast : Nat := 0             -- errors in the last second
  exceptions : Nat := 0             -- protocol exceptions met (R313)
  exceptionRaisedAt : Option Nat := none
  exceptionsRaised : Nat := 0       -- the count when MB_PROTOCOL_EXCEPTION was last raised
  busOffAt : Nat := 0               -- when bus-off was entered
  recovering : Bool := false        -- the bus-off recovery of ISO 11898-1 runs
  recover : List Req := []          -- pending OP_CAN_RECOVER
  rateFound : Bool := false         -- nominal rate detected
  nomRate : Nat := 500              -- kbit/s in use
  dataRate : Nat := 20              -- 100 kbit/s in use, FD
  xlRate : Nat := 50                -- 100 kbit/s in use, XL
  dataFound : Bool := true
  xlFound : Bool := true
  dataCand : Nat := 0               -- index of the FD data candidate tried, and its consecutive good frames
  dataGood : Nat := 0
  xlCand : Nat := 0                 -- the same for the XL data phase
  xlGood : Nat := 0
  candidate : Nat := 0              -- index of the nominal candidate tried; 0 is the rate stored in MRAM
  good : Nat := 0                   -- consecutive frames without error on the candidate
  candErrors : Nat := 0             -- errors on the candidate
  candFrom : Nat := 0               -- when the candidate was first tried
  framesSeen : Nat := 0             -- frames seen since detection began
  storedRate : Option (Nat × Nat × Nat) := none -- rates last stored in MRAM
  loopDelay : Nat := 0              -- measured loop delay in ns (R316)
  capped : Bool := false            -- R319's cap on the internal clock
  deriving DecidableEq, Repr

/-- An acceptance filter (R321, OP_CAN_FILTER_SET). -/
structure CanFilter where
  bits : Byte := 0                  -- byte 17: buses, formats, IDE value, IDE compare
  id : BitVec 32 := 0
  mask : BitVec 32 := 0
  sdt : Byte := 0
  sdtMask : Byte := 0
  vcid : Byte := 0
  vcidMask : Byte := 0
  deriving DecidableEq, Repr

/-- A receive entry (Table MB-6); one stamp for each core's bus counter (R324). -/
structure RxEntry where
  bus : Bus
  frame : CanFrame
  filter : Nat
  stamps : Vector (BitVec 48) 2
  rseq : BitVec 32
  deriving DecidableEq, Repr

/-- A pending OP_CAN_RX_READ (R323). -/
structure PendingRead where
  req : Req
  max : Nat
  min : Nat
  bufLen : Nat
  dueAt : Nat
  deriving DecidableEq, Repr

/-- The receive side of one port, P0, P1 or P4 (R321 to R324). -/
structure RxPort where
  filters : Vector CanFilter 32 := .replicate 32 {}
  queue : List RxEntry := []        -- oldest first, at most 256
  rseqNext : BitVec 32 := 1
  copied : Nat := 0                 -- entries at the front of the queue already copied by a read
  dropped : Nat := 0                -- frames dropped since the last MB_RX_DROPPED
  dropFirst : BitVec 32 := 0
  dropReason : Nat := 0             -- 1 queue, 2 pool
  dropBus : Nat := 0
  droppedSinceRead : Nat := 0       -- dropped since the last read (Table MB-13)
  read : Option PendingRead := none
  deriving DecidableEq, Repr

/-- Who a transmit frame belongs to (R327). -/
inductive TxOwner where
  | port (r : Req)                  -- a host port's OP_CAN_TX
  | own (tag : Nat)                 -- the frame's own traffic: 0 fallback set, 1 P2, 2 last-gasp
  deriving DecidableEq, Repr

/-- A pending transmit frame. -/
structure TxEntry where
  owner : TxOwner
  bus : Bus
  frame : CanFrame
  inBuffer : Bool := false          -- holds a transmit buffer
  started : Bool := false           -- being sent
  attempts : Nat := 0
  confirmed : Bool := false         -- its confirmation has been mirrored (R279)
  raised : Bool := false            -- MB_TX_ERROR raised
  mark : BitVec 32 := 0             -- mirror frame whose acknowledgement lets it go (R267)
  deriving DecidableEq, Repr

/-- The message buses D and T, the fallback set and the transport of P2. -/
structure CanSt where
  ctl : Vector (Vector CanCtl 2) 2 := .replicate 2 (.replicate 2 {}) -- by core, then bus
  rx : Vector RxPort 3 := .replicate 3 {}    -- ports P0, P1, P4
  tx : List TxEntry := []                    -- pending frames, in fetch order
  sent : List (Bus × CanFrame) := []         -- frames sent since the last tick
  p2Queue : List (List Byte × BitVec 48) := [] -- P2's descriptor queue with each frame's stamp, at most 16
  p2Status : Nat := 0                        -- port status frames due
  p2DroppedFull : Nat := 0
  p2DroppedLen : Nat := 0
  p2Beat : Nat := 0                          -- when the last OP_HEARTBEAT of P2 arrived
  hbSeq : Byte := 0                          -- HEARTBEAT sequence
  hbAt : Nat := 0                            -- when the last HEARTBEAT was sent
  doorCmds : List (List Byte × Nat) := []    -- commands of the last 1 s, with their times (R335)
  faultsSent : Nat := 0                      -- FAULT messages in the running second (R337)
  faultsFrom : Nat := 0
  faultsMissed : Nat := 0                    -- faults counted for the next FAULT's data
  lastGaspUntil : Option Nat := none         -- LAST_GASP is tried until then (R336)
  idClash : Nat := 0                         -- messages met with this frame's own frame_id
  deriving DecidableEq, Repr

/-! ### The panel bus (chapter 14) -/

/-- A mailbox command of the panel (Table PB-5). -/
structure PanelCmd where
  cmd : Byte := 0
  door : Byte := 0
  arg : Byte := 0
  seq : Byte := 0
  check : Byte := 0
  deriving DecidableEq, Repr

/-- The panel target and its window (chapter 14). -/
structure PanelSt where
  powered : Bool := false
  window : List Byte := List.replicate 256 0  -- the window last swapped in (R343)
  snapshot : Option (List Byte) := none       -- the window of a running read transfer
  pointer : Byte := 0                         -- window pointer (R342)
  box : List Byte := List.replicate 5 0       -- bytes last written to 0xE0 to 0xE4
  waiting : Option PanelCmd := none           -- a command taken and not yet collected (R346)
  last : Option (PanelCmd × Nat × Byte) := none -- the last command, when, and its result
  resultSeq : Byte := 0
  resultCmd : Byte := 0
  result : Byte := 0
  taken : Byte := 0
  reqFlags : Byte := 0                        -- bits of Table PB-3 set since the window was swapped in
  reqHeld : Byte := 0                         -- bits the window shows that no read has cleared (R345)
  readOut : List Byte := []                   -- bytes the last read transfer returned
  stretched : Option (PanelCmd × Nat) := none -- a command whose check byte is stretched since then (R349)
  pins : BitVec 4 := 15                       -- AD[3:0] as last read
  inUse : BitVec 4 := 15                      -- pins read when it was powered: its address is 0x30 + them (R340)
  refused : Nat := 0                          -- bytes refused since PB_WRITE_REFUSED was last raised (R342)
  refusedLast : Byte := 0                     -- last offset refused
  refusedAt : Option Nat := none              -- when PB_WRITE_REFUSED was last raised
  collisions : Nat := 0                       -- collisions since PB_REQUEST_COLLISION was last raised
  collisionsAt : Option Nat := none
  stuckFrom : Option Nat := none              -- the bus has been reported stuck since
  requestAt : Option Nat := none              -- when the last in-band request was made
  requestOn : Bool := false                   -- SDA is held for a request
  requestDue : Bool := false                  -- a window has set a selected bit since the last request
  intercom : Vector Nat 2 := .replicate 2 0   -- indicator state of each doorway
  blinkOn : Vector Bool 2 := .replicate 2 false
  blinkAt : Vector Nat 2 := .replicate 2 0    -- when the blink phase last changed
  faultCount : Byte := 0                      -- fault summary, 0x30 to 0x3F
  faultSeq : Byte := 0
  faultCode : BitVec 16 := 0
  faultDoor : Byte := 0
  faultTier : Byte := 0
  faultData : List Byte := List.replicate 4 0
  faultTai : Nat := 0
  frameHigh : Byte := 0                       -- frame_state bits 7 to 5 last shown
  msSeq : Vector Byte 2 := .replicate 2 0
  msLast : Vector Byte 2 := .replicate 2 0
  shown : Vector (Nat × Nat × Nat) 2 := .replicate 2 (0, 0, 0) -- leaf, step and tier last shown
  deriving DecidableEq, Repr

/-! ### Time and scheduled actions (chapter 15) -/

/-- Time sources, Table TM-9's codes in order: none, frames with TPI, host set, TPI alone, holdover, RTC since start. -/
inductive TimeSource where
  | none | frames | host | tpi | holdover | rtc
  deriving DecidableEq, Repr

/-- Time quality, Table TM-3 in code order. -/
inductive Quality where
  | locked | holdover | free
  deriving DecidableEq, Repr

/-- A pending scheduled action (R370 to R373). -/
structure SchedAction where
  req : Req
  op : Op
  execTime : Nat
  needLocked : Bool
  deriving DecidableEq, Repr

/-- Frame time, its sources and the schedule (chapter 15). -/
structure TimeSt where
  te : Nat := 0                     -- frame time T_e of the coming edge, in 1e-9 ns (R356)
  ce : Vector (BitVec 48) 2 := .replicate 2 0 -- bus counter of each core at the same edge, 10 ns counts
  steer : Int := 0                  -- part of r that follows the source's rate, ppb (R363)
  slew : Int := 0                   -- part of r that slews, ppb
  slewLeft : Int := 0               -- offset still to slew, in 1e-9 ns (R363)
  valid : Vector Bool 3 := .replicate 3 false -- validity of sources 1, 2 and 3
  source : TimeSource := .none
  labelled : Option (Nat × BitVec 48) := none -- a time frame's label and start of frame, waiting for its edge
  lastLabel : Option Nat := none    -- label of the last edge, where it had one
  labelRun : Nat := 0               -- consecutive labelled edges (R358)
  masterClass : Nat := 0
  lastLabelledAt : Nat := 0         -- when the last labelled edge arrived
  frameFaults : Nat := 0            -- frames with a wrong check byte or DLC (R358)
  tpiStamp : Option (BitVec 48) := none -- stamp of the last accepted TPI edge
  tpiAt : Nat := 0                  -- when it arrived
  tpiRun : Nat := 0                 -- consecutive accepted edges (R359)
  tpiRunOk : Bool := false          -- the error estimate at the first of them was below 500 ms
  hostSetAt : Nat := 0              -- when the last accepted host set was made (R360)
  offset : Int := 0                 -- latest measured offset, ns
  measuredAt : Nat := 0             -- when it was measured
  reference : Option Int := none    -- frame time less source's time at an edge not yet measured, ns
  slewFrom : Nat := 0               -- when the running slew began
  slewRaised : Bool := false        -- TM_SLEW_START raised for it
  stepPending : Option Int := none  -- offset waiting for a quiet point (R364)
  stepFirst : Bool := false         -- the first offset after unset time is stepped whatever its size (R368)
  lastStep : Nat := 0               -- frame time of the last step, ns
  goodRun : Nat := 0                -- measurements in a row with e of 10 us or less (Table TM-3)
  quality : Quality := .free
  err : Nat := 0xFFFFFFFF           -- error estimate e, ns (R362)
  e0 : Nat := 0xFFFFFFFF            -- estimate when the last source was lost
  holdFrom : Nat := 0               -- when it was lost
  srcErr : Nat := 0                 -- source error of the source in use (Table TM-1)
  roleErr : Nat := 0                -- 100 ns for each role change since the last measurement (R365)
  unset : Bool := true              -- R368
  rtc : Nat := 0                    -- RTC of the always-on domain, ns (R367)
  rtcValid : Bool := false
  rtcErr : Nat := 0                 -- estimate held at entry to OFF
  taiUtc : Option Nat := none       -- TAI - UTC last received (R366)
  tpo : Bool := false               -- TPO high
  tpoAt : Option Nat := none        -- when TPO last rose
  tpoSecond : Nat := 0              -- last whole second of frame time met
  tpoStepped : Bool := false        -- a step since TPO last rose (R365)
  sched : List SchedAction := []    -- pending actions, at most 32 (R370)
  deriving DecidableEq, Repr

/-! ### Doorways (chapter 02) -/

/-- Leaf states, Table MB-11 in code order. -/
inductive Leaf where
  | closedLocked | unlocking | opening | opened | warn | closing | reopening | locking
  | isolated | emergencyReleased | fault
  deriving DecidableEq, Repr

/-- Step states, Table MB-11 in code order. -/
inductive StepSt where
  | stowed | deploying | deployed | stowing | stepFault
  deriving DecidableEq, Repr

/-- The three values of a SAFE2 pair (R38). -/
inductive PairVal where
  | inactive | active | discrepant
  deriving DecidableEq, Repr

/-- One SAFE2 pair as one core evaluates it (R38, R39). -/
structure Pair where
  val : PairVal := .inactive
  differFrom : Option Nat := none   -- since when its channels disagree
  lowFrom : Option Nat := none      -- since when both read inactive, while DISCREPANT
  deriving DecidableEq, Repr

/-- What an accepted doorway command asks for (R61, R62). -/
inductive DoorCmdKind where
  | open (partialOk : Bool) | evac | close | stop | reset
  deriving DecidableEq, Repr

/-- An accepted doorway command that has not completed, with every merged request. -/
structure DoorCmdSt where
  kind : DoorCmdKind
  reqs : List Req
  deriving DecidableEq, Repr

/-- A doorway (chapter 02, and its obstacle state of chapter 05). -/
structure DoorSt where
  leaf : Leaf := .closedLocked
  step : StepSt := .stowed
  leafSince : Nat := 0              -- when the leaf state was entered
  stepSince : Nat := 0
  moved : Bool := false             -- a leaf transition has been taken in this tick (R40)
  cmd : Option DoorCmdSt := none    -- the command that runs
  resetCmd : Option DoorCmdSt := none -- a running reset (class 5)
  openAsked : Bool := false         -- an accepted open waits for the leaf machine
  openPartial : Bool := false       -- the open was admitted to the passable width (R229)
  closeAsked : Bool := false
  stopAsked : Bool := false
  evacAsked : Bool := false
  resetAsked : Bool := false
  rampToOpen : Bool := false        -- ramping to rest before OPEN is entered
  warnAfterRest : Bool := false     -- a loss action closes once OPEN is entered (R49)
  stepRequest : Bool := false       -- OP_STEP_REQUEST or an accessibility request since CLOSED_LOCKED
  stepAsked : Bool := false         -- the accepted open asks for the step
  stepResetAsked : Bool := false
  stepRestow : Option Nat := none   -- the step deploys again after a step obstacle, since (R125)
  lockRetries : Nat := 0
  stepRetries : Nat := 0
  keyOn : Bool := false             -- isolation key as last read
  isolationPending : Bool := false  -- R51
  handleInactiveAt : Option Nat := none -- since when the handle has read INACTIVE
  handleMayReset : Bool := false    -- the handle has been INACTIVE for 1 s (R50)
  assisted : Bool := false          -- the assist drive of R50 has been made
  zsWas : Bool := false             -- zero speed was ACTIVE at the last pass
  releaseWas : Bool := false        -- the release of the side was ACTIVE at the last pass
  buttonWas : Bool := false
  restSince : Option Nat := none    -- at rest in OPEN since (R58)
  widthWas : Nat := 0               -- clear width at the last pass, mm
  stamps : Vector Nat 6 := .replicate 6 0 -- milestone stamps, TAI ns, in the order of Table DW-6
  warnLamp : Bool := false          -- demands of the doorway's outputs (R53)
  chime : Bool := false
  lockDrive : Bool := false         -- demand of the lock channel (R41)
  tlFrom : Nat := 0                 -- since when no host port holds the claim (R57)
  reopens : Nat := 0                -- reopen count (R122)
  reopenDone : Bool := false        -- the reopen target is reached: the pause runs
  pauseFrom : Nat := 0
  persistent : Bool := false
  dwellSuspended : Bool := false    -- R122
  revFrom : Option Nat := none      -- when the running reversal was commanded (R138)
  creep : Bool := false             -- the close runs in creep (R118)
  stranded : Bool := false          -- R233
  stops : List Req := []            -- accepted stops that wait for rest (R62)
  settleWhy : Nat := 0              -- why it ramps to OPEN: 1 stop or loss, 2 abort line, 3 following watch
  energyDetail : Nat := 0           -- detail of ST_ENERGY at the crossing that stopped it (R232)
  isoLost : Bool := false           -- a proof is missing while ISOLATED (R52)
  emergStage : Nat := 0             -- R50: 0 stopping, 1 unlocking, 2 assist drive, 3 coils off, 4 report only
  deriving DecidableEq, Repr

/-- What a claim names (Table DW-7, R308). -/
inductive Resource where
  | doorway (d : Nat) | axis (a : Nat) | field (c : Nat) | load (c : Nat) | paramSet | reader (n : Nat)
  deriving DecidableEq, Repr

/-- A request waiting for the resolver (R61). -/
structure Waiting where
  req : Req
  op : Op
  deriving DecidableEq, Repr

/-- The resolver, the claims and the loop relays. -/
structure DoorsSt where
  door : Vector DoorSt 2 := .replicate 2 {}
  claims : List (Resource × Party) := []
  requests : List Waiting := []     -- arrived since the last pass, in order of arrival
  fetched : Vector Nat 4 := .replicate 4 0 -- descriptors fetched for the coming pass, P0, P1, P2, P4 (R297)
  pairs : Vector (Vector Pair 64) 2 := .replicate 2 (.replicate 64 {}) -- by core, by lower channel
  closeTlWas : Bool := false        -- close trainline at the last pass
  evacWas : Bool := false           -- evacuation input at the last pass (R47)
  svDrop : Bool := false            -- SV asks a loop drop
  relays : Vector Bool 2 := .replicate 2 false -- each core's loop relay pair commanded closed (R55)
  relaysOffAt : Vector Nat 2 := .replicate 2 0 -- when each was last driven off
  weld : Vector Bool 2 := .replicate 2 false   -- relay weld found (R135)
  condFrom : Vector (Option Nat) 2 := .replicate 2 none -- since when the loop conditions hold
  disagreeFrom : Option Nat := none -- since when the standby's proof readings disagree (R56)
  disagreed : Bool := false
  deriving DecidableEq, Repr

/-! ### Motion generation (chapter 03) -/

/-- One segment of a segment table (Table MO-6). -/
structure Segment where
  duration : Nat                    -- us
  endPos : Int                      -- usteps
  endVel : Int                      -- usteps/s
  flags : BitVec 32
  deriving DecidableEq, Repr

/-- A stored segment table (R74 to R76). -/
structure SegTable where
  number : Nat
  x0 : Int
  segs : List Segment
  deriving DecidableEq, Repr

/-- What a plan is for (EV 0x0C0 and the sequences of chapters 02 and 03). -/
inductive PlanKind where
  | open | close | lockIn | lockOut | deploy | stow | jog | reopen | rampStop | evacUncertain
  | refSearch | refBack | refRest | refLock
  deriving DecidableEq, Repr

/-- One phase of constant jerk: jerk in 1/65536 ustep/s^3, duration in ns (Table MO-4). -/
structure Phase where
  jerk : Int
  dur : Nat
  deriving DecidableEq, Repr

/-- How a plan moves: phases from a start state, or the segments of a table (R70, R75). -/
inductive PlanBody where
  | phases (x0 v0 a0 : Int) (ps : List Phase)
  | table (number : Nat) (p0 : Int) (v0 : Int) (segs : List Segment)
  deriving DecidableEq, Repr

/-- A plan. Positions are in 1/65536 ustep. -/
structure Plan where
  kind : PlanKind
  target : Int
  body : PlanBody
  elapsed : Nat := 0                -- ns since the plan began
  segDone : Nat := 0                -- segments of a table already ended
  deriving DecidableEq, Repr

/-- Stages of a re-reference (R87, R89). -/
inductive RefStage where
  | check | search | back | rest | lock | waitProof
  deriving DecidableEq, Repr

/-- A running re-reference. -/
structure RefSt where
  stage : RefStage
  startX : Int := 0                 -- where the present stage began
  startEnc : Int := 0               -- encoder count there
  encChecked : Bool := false        -- R88's test has been passed
  proofFrom : Nat := 0              -- when the lock travel ended (R89)
  forDoor : Bool := false           -- part of OP_DOOR_RESET (R43)
  deriving DecidableEq, Repr

/-- An accepted axis command that has not completed. -/
structure AxisCmd where
  req : Req
  merged : List Req := []           -- requests that merged with it (R61)
  opcode : BitVec 15
  deriving DecidableEq, Repr

/-- One motion generator (chapter 03). x, v, a are in 1/65536 ustep, /s, /s^2. -/
structure AxisSt where
  x : Int := 0
  v : Int := 0
  a : Int := 0
  plan : Option Plan := none
  replanned : Bool := false         -- a new plan was accepted in this tick
  stopDue : Bool := false           -- a ramp stop was asked in this tick (Table MO-10, rank 3)
  freezeDue : Option Nat := none    -- a freeze cause of this tick (rank 1)
  limitStopDue : Bool := false      -- a limit switch in ramp mode (rank 2)
  target : Int := 0                 -- target of the last plan
  eOff : BitVec 10 := 0             -- electrical offset (R64)
  address : BitVec 10 := 0          -- emitted address
  amplitude : BitVec 12 := 0
  lead : Int := 0
  band : Nat := 0                   -- resolution band (Table MO-3)
  exactPrev : Int := 0              -- exact address position of the last tick, usteps
  history : List (BitVec 16 × BitVec 10 × Int) := [] -- tick, address and position of recent downlinks (R79)
  uncertain : Bool := true          -- R80
  referenced : Bool := false        -- referenced under R87 since the module entered service (R81)
  driving : Bool := false           -- the bridge is driven (mode DRIVE)
  settleFrom : Option Nat := none   -- a plan ended or a freeze began then (R85)
  wakeFrom : Option Nat := none     -- the amplitude ramp of R85 runs since then
  coilsOff : Bool := false          -- switched off by an emergency release (R50)
  voltRaised : Bool := false        -- MO_VOLT_LIMIT raised for this move (R91)
  capRaised : Bool := false         -- OB_FORCE_CAP raised for this move (R128)
  vBusAt : Nat := 0                 -- when the last valid bus reading arrived
  vBus : Nat := 66000               -- mV in use (R91)
  tables : List SegTable := []      -- stored segment tables, by number
  custom : Option (List Int) := none -- custom microstep table (R68)
  customNext : Option (List Int) := none -- a loaded table waiting for rest
  tableInUse : Nat := 0             -- microstep table in use
  cmd : Option AxisCmd := none
  ref : Option RefSt := none
  cRef : Int := 0                   -- encoder count at the latch point (R104)
  enc : Int := 0                    -- unwrapped encoder count
  encUsable : Bool := false         -- no encoder fault since the last passing re-reference (R95)
  encSupplyLost : Bool := false     -- the lane that supplies the encoder is lost (R111)
  evacEnded : Bool := false         -- an evacuation open of the uncertain axis has run to its end (R80)
  watch : Nat := 0                  -- following watch count (R105)
  watchMax : Nat := 0               -- largest following error of the cycle, usteps
  derated : Bool := false           -- derated limits in force (R110)
  leaving : Option (Fin 2) := none  -- lane of an announced removal (R112)
  rejoining : Option (Fin 2 × Option Nat) := none -- lane rejoining, and when its ramp began (R113)
  lanes : Vector Bool 2 := .replicate 2 true -- lanes that drive the axis (lower, upper)
  differFrom : Option Nat := none   -- since when the lanes' limits or encoders differ (R114)
  disagree : Option Nat := none     -- AX_LANE_DISAGREE raised: 1 limits, 2 encoders
  limits : Vector Bool 2 := .replicate 2 false -- limit A and B as taken by the core
  bothRaised : Bool := false        -- AX_LIMIT_BOTH raised
  tempCap : Bool := false           -- currents capped at 70 % (R96), for moves that start
  capMove : Bool := false           -- the running move started under the cap
  deriving DecidableEq, Repr

/-! ### Axis modules (chapter 04) -/

/-- The uplink readings of an axis module (Table AX-6) as a core holds them. -/
structure AxUplink where
  encCount : BitVec 32 := 0
  latchCount : BitVec 32 := 0
  vBus : BitVec 16 := 0
  iA : BitVec 16 := 0
  iB : BitVec 16 := 0
  inputs : Byte := 0
  state : Byte := 0
  rTemp : BitVec 16 := 0xFFFF
  tSink : Byte := 0
  fault : Byte := 0
  rA : BitVec 16 := 0
  rB : BitVec 16 := 0
  cfgCrc : BitVec 16 := 0
  missed : BitVec 16 := 0
  tick : BitVec 16 := 0             -- tick number echoed
  valid : Bool := false             -- a valid uplink has arrived in this tick
  deriving DecidableEq, Repr

/-- The command block of Table AX-4. -/
structure AxBlock where
  address : BitVec 10 := 0
  amplitude : BitVec 12 := 0
  mode : Byte := 0                  -- 0 OFF, 1 SHORT, 2 DRIVE, 3 CHECK
  ackLoss : Bool := false
  armLatch : Bool := false
  latchSrc : BitVec 2 := 0
  deriving DecidableEq, Repr

/-- Verdicts of the resistance check in the order of Table AX-3, with their fault codes. -/
inductive Verdict where
  | ground | short | open | high | pass
  deriving DecidableEq, Repr

/-- An axis module: its own state (chapter 04) and the core's view of it. -/
structure AxModSt where
  block : AxBlock := {}             -- the command block it plays
  next : Option AxBlock := none     -- received, applied at the next TICK edge (R17)
  missRun : Nat := 0                -- ticks missed in a row (R102)
  missed : BitVec 16 := 0           -- ticks missed since enable, saturating
  lossState : Bool := false
  lossFrom : Nat := 0               -- when the loss state began
  cfg : Vector (Option (BitVec 32)) 8 := .replicate 8 none -- records held (Table AX-5)
  checkPassed : Bool := false
  checkRunning : Bool := false
  fault : Nat := 0                  -- latched or standing drive fault (Table AX-7)
  peakFlag : Bool := false
  peakBudget : Nat := 2000000       -- us left above 11.3 A (R93)
  encFault : Bool := false
  tempLevel : Nat := 0              -- core: 0 normal, 1 warn, 2 trip
  sensorFault : Bool := false       -- core: the sensor reads open or short
  sinkWarned : Bool := false
  uplink : AxUplink := {}           -- core: last valid uplink
  cfgSent : Nat := 0                -- core: next configuration index to send
  mismatchRun : Nat := 0            -- core: ticks in a row with a differing CRC (R100)
  missedBase : Nat := 0             -- core: missed counter at the start of the running second
  missedFrom : Nat := 0
  missedRaised : Bool := false
  ackDue : Bool := false            -- core: ack_loss is to be sent
  down : AxBlock := {}              -- core: the block placed in the next downlink
  armed : Bool := false             -- core: arm_latch is to be sent
  latchSrc : BitVec 2 := 0
  deriving DecidableEq, Repr

/-! ### Obstacles (chapter 05) -/

/-- Obstacle bookkeeping of one doorway that the leaf machine does not hold (chapter 05). -/
structure ObstSt where
  edgeFaulty : Vector Bool 3 := .replicate 3 false -- edge 0, edge 1 and the step edge in fault (R118)
  gridFaulty : Bool := false
  lastSource : Nat := 0             -- last obstacle source (EV 0x092)
  raised : Option Nat := none       -- obstacle source raised in this tick
  seen : Vector (Option Nat) 2 := .replicate 2 none -- source each core has seen and not yet acted on (R133)
  stepRaised : Bool := false        -- step obstacle raised in this tick (R125)
  staleRaised : Bool := false       -- OB_STALE_INPUT raised for a missing uplink (R132)
  stopWithRev : Bool := false       -- obstacle and ramp stop in one tick (R123)
  latency : Nat := 0                -- last measured reversal latency, us (R138)
  deriving DecidableEq, Repr

/-! ### Field inputs and outputs (chapter 06) -/

/-- Group supply states, Table FI-7's g_state codes in order. -/
inductive GroupState where
  | ok | low | high | missing | reversed | notWired
  deriving DecidableEq, Repr

/-- One field channel on the field side (chapter 06), and what the core keeps of it. -/
structure ChanSt where
  value : Bool := false             -- reported input value
  valid : Bool := false             -- state code 0: it has a valid value
  code : Nat := 1                   -- state code (Table FI-5)
  sinceNoValue : Nat := 0           -- when the event came that left it without a value (R149)
  on : Bool := false                -- output switch on
  latched : Nat := 0                -- latched output fault: 0, 8 or 11
  trippedAt : Nat := 0              -- when it tripped (R154)
  hot : Bool := false               -- junction not yet below 130 C (R152)
  onAt : Nat := 0                   -- last turn-on (inrush window, R152)
  offAt : Nat := 0
  diag : Nat := 0                   -- unlatched output diagnosis: 0, 9, 10, 12 or 13
  heldOn : Bool := false            -- on in the first frame with the hold flag (R159)
  heldLost : Bool := false          -- a held output lost with its group supply (R159)
  demand : Bool := false            -- core: demand of the owner or of a doorway
  doorDemand : Bool := false        -- core: what a doorway that names it last demanded (R53, R348)
  cycledOff : Bool := false         -- core: commanded off since the trip (R154)
  rearm : Bool := false             -- core: bit sent in rearm
  doorRearmAt : Option Nat := none  -- core: last re-arm by a doorway's turn-on
  changes : Nat := 0                -- core: confirmed changes in the running second (R148)
  changesFrom : Nat := 0
  chatter : Bool := false           -- core: FI_CHANGE suppressed
  quiet : Nat := 0                  -- core: consecutive quiet seconds
  deriving DecidableEq, Repr

/-- The input image of one field module as a core reads it (Table FI-7). -/
structure FiUplink where
  value : BitVec 32 := 0
  valid : BitVec 32 := 0
  band : BitVec 32 := 0
  fault : BitVec 32 := 0
  stale : BitVec 32 := 0
  outState : BitVec 32 := 0
  outFault : BitVec 32 := 0
  vGroup : BitVec 32 := 0
  gState : BitVec 16 := 0
  sampleAge : Byte := 0
  flags : Byte := 0
  cfgCrc : BitVec 16 := 0
  diagChannel : Byte := 0
  diagCode : Byte := 0
  diagI : BitVec 16 := 0
  diagV : BitVec 16 := 0
  tField : Byte := 0
  crcErrors : BitVec 16 := 0
  fresh : Bool := false             -- a valid uplink has arrived in this tick
  deriving DecidableEq, Repr

/-- A field module: logic side, field side and the cores' view. -/
structure FieldModSt where
  outCmd : BitVec 32 := 0           -- logic side: last commands (Table FI-6)
  rearmCmd : BitVec 32 := 0
  ackSafe : Bool := false
  hold : Bool := false              -- hold flag of the last command
  cmdNext : Option (BitVec 32 × BitVec 32 × Bool × Bool) := none -- received, applied at the next TICK edge
  cmdValid : Bool := false          -- R157
  missRun : Nat := 0                -- ticks without a valid active frame
  fieldMiss : Nat := 0              -- 100 us frames missed by the field side
  fieldHold : Bool := false         -- field side: hold active
  fieldUp : Bool := false           -- field side up
  safe : Bool := false              -- safe states applied (R158)
  badRun : Nat := 0                 -- bad barrier frames in a row (R131)
  crcErrors : BitVec 16 := 0        -- bad barrier frames since enable, saturating
  errBase : Nat := 0
  errFrom : Nat := 0
  errRaised : Bool := false
  staged : Vector (Option (BitVec 32)) 103 := .replicate 103 none -- configuration records staged (R160)
  applied : Vector (BitVec 32) 103 := .replicate 103 0
  appliedAny : Bool := false        -- a set has been applied since enable
  cfgCrc : BitVec 16 := 0           -- cfg_crc last received
  staleEdges : Bool := false        -- EDGE inputs restrictive and stale (R131)
  image : FiUplink := {}            -- logic side: image latched from the field side
  resolved : Bool := false          -- core: no input channel has reported code 1 since in service (R151)
  views : Vector FiUplink 2 := .replicate 2 {} -- each core's last uplink
  cfgSent : Nat := 0                -- core: next configuration index to send
  mismatchRun : Nat := 0           -- core: ticks since the intended set and the applied one differ
  ackDue : Bool := false            -- core: ack_safe is to be sent
  out : BitVec 32 := 0              -- core: out_cmd of the next downlink
  holdDown : Bool := false          -- core: hold flag of the next downlink
  deriving DecidableEq, Repr

/-- One group supply (R141). -/
structure GroupSt where
  state : GroupState := .missing
  voltage : Nat := 0                -- 0.1 V as last judged
  deriving DecidableEq, Repr

/-- Field inputs and outputs. -/
structure FieldSt where
  chan : Vector ChanSt 64 := .replicate 64 {}
  group : Vector GroupSt 8 := .replicate 8 {}
  mods : Vector FieldModSt 2 := .replicate 2 {}
  deriving DecidableEq, Repr

/-! ### Protected load switches (chapter 07) -/

/-- Load supply states, Table LS-11's sup_state codes in order. -/
inductive LoadSupply where
  | ok | low | high | missing | reversed
  deriving DecidableEq, Repr

/-- One load channel, 1 to 12 (chapter 07): the module's state and what the core keeps. -/
structure LoadChSt where
  on : Bool := false                -- switch on
  latched : Nat := 0                -- latched code: 0, 1, 2, 5 or 8 (Table LS-7)
  diag : Nat := 0                   -- unlatched code: 0, 3, 4 or 6
  heat : Nat := 400000000000        -- wire model H in units of 1e-12 (R168: 0.4 when the power side comes up)
  warned : Bool := false            -- LS_WIRE_WARN raised, not re-armed (R168)
  trippedAt : Nat := 0
  hot : Bool := false               -- junction not yet below 130 C (R169)
  onAt : Nat := 0                   -- last turn-on (inrush window)
  offAt : Nat := 0
  clampAvg : Nat := 0               -- 10 s average of clamp power, mW
  clampLast : Nat := 0              -- energy of the last clamp pulse, mJ
  holdingBack : Bool := false       -- turn-ons held back (R170, code 9)
  heldOn : Bool := false            -- on in the first frame with the hold flag (R178)
  heldLost : Bool := false          -- held state lost with the load supply (R178)
  cmd : Bool := false               -- module: out_cmd bit it follows
  owned : Bool := false             -- core: state last set by OP_LOAD_SET (R174)
  demand : Bool := false            -- core: demand of the tick
  doorDemand : Bool := false        -- core: what a doorway that names it last demanded (R41)
  cycledOff : Bool := false         -- core: demand has gone off since the trip (R173)
  rearm : Bool := false             -- core: rearm bit to be sent
  doorRearmAt : Option Nat := none
  deriving DecidableEq, Repr

/-- A pending OP_LOAD_SET (R176). -/
structure PendingLoadSet where
  req : Req
  merged : List Req := []           -- requests that merged with it (R61)
  mask : BitVec 12
  state : BitVec 12
  before : BitVec 12 := 0           -- demands it replaced
  tick : BitVec 32 := 0             -- tick in which it was fetched
  deriving DecidableEq, Repr

/-- The load switch module in slot L0. -/
structure LoadSt where
  chan : Vector LoadChSt 12 := .replicate 12 {}
  supply : LoadSupply := .missing
  voltage : Int := 0                -- load supply in 0.1 V
  inputOpen : Bool := false         -- SK7-LS24 input switch open (R434)
  inputOpenBelow : Option Nat := none -- since when LSUP has been below 36 V
  hold : Bool := false              -- hold active
  safe : Bool := false              -- safe states applied
  shed : Bool := false              -- shed active in the module
  holdCmd : Bool := false           -- core: hold flag of the next downlink
  shedCmd : Bool := false           -- core: shed flag (R179)
  ackDue : Bool := false
  ackSafe : Bool := false
  cmdNext : Option (BitVec 12 × BitVec 12 × Bool × Bool × Bool) := none -- received, applied at the next TICK edge
  missRun : Nat := 0
  powerUp : Bool := false           -- power side up
  staged : Vector (Option (BitVec 32)) 13 := .replicate 13 none
  applied : Vector (BitVec 32) 13 := .replicate 13 0
  appliedAny : Bool := false
  cfgCrc : BitVec 16 := 0
  cfgSent : Nat := 0
  mismatchRun : Nat := 0
  repOn : BitVec 12 := 0            -- core: out_state last reported
  repFault : BitVec 12 := 0
  repFlags : Byte := 0
  repCrc : BitVec 16 := 0
  repSupply : Nat := 3
  repDiagChannel : Nat := 0
  repDiagCode : Nat := 0
  repHeat : Nat := 0
  repCurrent : Vector Nat 12 := .replicate 12 0
  setPending : List PendingLoadSet := []
  rearmPending : List (Req × BitVec 12) := []
  deriving DecidableEq, Repr

/-! ### Supply and shut-down (chapter 08) -/

/-- Feed states, Table SU-2 in code order. -/
inductive Feed where
  | stopped | qualifying | good | interrupted | reversed | over
  deriving DecidableEq, Repr

/-- A power module and its feed (chapter 08). -/
structure PmSt where
  feed : Feed := .stopped           -- the module's own judgement
  energised : Bool := false         -- its input is energised
  vIn : Int := 0                    -- feed voltage in 0.1 V as last judged
  qualFrom : Nat := 0               -- since when the feed has been at or above 0.72 Un
  interruptedAt : Nat := 0
  band : Bool := false              -- band at power-up (R187)
  unCode : Byte := 0                -- configuration cell: un_code last received; 0 none (R185)
  outputOn : Bool := false
  shareShed : Bool := false
  rails : Vector Bool 2 := .replicate 2 false -- H12 to H0 and H1 switched on
  fault : Byte := 0                 -- fault code (Table SU-10)
  currentLimit : Bool := false
  overloadAt : Option Nat := none   -- when SU_OVERLOAD was last raised
  repFeed : Feed := .stopped        -- core: feed_state last reported
  repFlags : Byte := 0              -- core: flags last reported
  repVIn : Int := 0
  repVDrv : Nat := 0
  repPOut : Nat := 0
  repUn : Byte := 0
  outputCmd : Bool := false         -- core: output_on of the next downlink
  shedCmd : Bool := false           -- core: share_shed of the next downlink
  cmdNext : Option (Byte × Byte) := none -- bytes 0 and 1 of the last command, applied at the next TICK edge (R208)
  deriving DecidableEq, Repr

/-- Steps of the shut-down sequence (Table SU-5). -/
inductive ShutStep where
  | s1 | s2 | s3 | s4 | s5 | s6 | s7
  deriving DecidableEq, Repr

/-- One core's service port as a USB Power Delivery sink (R201 to R207). -/
structure SinkSt where
  attached : Bool := false
  volts : Nat := 0                  -- contracted voltage
  mA : Nat := 0                     -- contracted current
  transition : Bool := false        -- from Accept to PS_RDY (R204)
  newVolts : Nat := 0               -- voltage of the running transition
  readyAt : Option Nat := none      -- when PS_RDY came: the loads return 10 ms later
  shed : Bool := false              -- service loads switched off for a transition
  deriving DecidableEq, Repr

/-- What a committed shut-down record keeps for the next start (R199, Table JR-3). -/
structure ShutRecord where
  number : Nat
  leaf : Vector Leaf 2
  step : Vector StepSt 2
  pos : Vector Int 4
  uncertain : Vector Bool 4
  eOff : Vector (BitVec 10) 4
  e0Serial : Option (BitVec 32)     -- serial number of E0 (R430)
  at_ : Nat                         -- RTC time of the record, ns
  kind : Nat
  deriving DecidableEq, Repr

/-- Supply, shut-down and service power. -/
structure SupplySt where
  pm : Vector PmSt 2 := .replicate 2 {}
  onStore : Bool := false           -- a supply loss is declared (R193)
  lossAt : Nat := 0                 -- when it was declared
  step : Option ShutStep := none    -- running shut-down step
  stepFrom : Nat := 0
  s1At : Nat := 0                   -- when S1 began
  compressed : Bool := false        -- R195
  capped : Bool := false            -- S3 ended by supply.shutdown.max
  byReserve : Bool := false         -- ended by the reserve (R218)
  hostRailsOff : Bool := false      -- the host rails were switched off (R196)
  cancelled : Nat := 0              -- scheduled actions cancelled at S1 (Table JR-3)
  padHold : Bool := false           -- pad hold in force (S6, N4)
  record : Option ShutRecord := none -- last committed shut-down or entry record
  cleanOff : Bool := false          -- OFF was reached with a committed shut-down record (R200)
  serviceOnly : Bool := false       -- service-only operation (R207)
  sinks : Vector SinkSt 2 := .replicate 2 {}
  svcPowered : Vector Bool 2 := .replicate 2 false -- cores fed by the service rail
  svcField : Bool := false          -- logic sides of F0 and F1 fed by the service rail
  svcPanel : Bool := false          -- panel bus target fed by the service rail
  deriving DecidableEq, Repr

/-! ### The energy store (chapter 09) -/

/-- Estimator states (Table EN-3). -/
inductive EstState where
  | init | rest | fit | stale
  deriving DecidableEq, Repr

/-- Energy module states, Table EN-8 byte 12 in code order. -/
inductive EmState where
  | off | charging | float | boosting | empty | fault
  deriving DecidableEq, Repr

/-- The energy module, the estimator and admission (chapter 09). C in 0.01 F, ESR in 0.1 mOhm. -/
structure EnergySt where
  state : EmState := .off           -- as last reported
  fault : Byte := 0                 -- fault code latched or reported
  flags : Byte := 0
  vBank : Nat := 0                  -- mV
  iBank : Int := 0                  -- 10 mA
  pBoost : Nat := 0                 -- 0.1 W
  vCellMax : Nat := 0
  vCellMin : Nat := 0
  tCellMax : Int := 25
  tCellMin : Int := 25
  windowSeq : Byte := 0
  budget : Nat := 100               -- boost budget, %
  chargerOff : Bool := false        -- charger switched off by a cell limit (R210)
  derate : Bool := false            -- charge derated at 55 C
  charging : Bool := false          -- module: charger runs
  boostOn : Bool := false           -- module: boost permitted
  boostCut : Bool := false          -- module: boost stopped at 12.0 V (R212)
  missMs : Nat := 0                 -- module: time without a valid active frame, us
  chargeEn : Bool := false          -- core: charge_en of the next downlink
  boostEn : Bool := false
  windowCmd : Bool := false
  vFloor : Nat := 0                 -- mV, as last sent
  vCharge : Nat := 24000
  modFloor : Nat := 0               -- module: v_floor held
  modCharge : Nat := 0
  cmdNext : Option (Byte × Nat × Nat) := none -- command received, applied at the next TICK edge (R235)
  est : EstState := .init
  cW : Nat := 4500                  -- last window
  esrW : Nat := 200
  cF : Option Nat := none           -- fitted values (R222)
  esrF : Option Nat := none
  fitSteps : List Nat := []         -- the last 16 ESR steps
  runCharge : Int := 0              -- integrated bank current of the running boost, uAs
  runFrom : Option (Nat × Nat) := none -- start of the running boost: time and open-circuit voltage
  lastWindow : Option Nat := none   -- when the last window completed
  wantedAt : Option Nat := none     -- when EN_REST_WANTED was last raised
  window : Option Nat := none       -- a rest window runs since then
  windowReq : Option Req := none    -- OP_REST_WINDOW that runs
  blockUntil : Option Nat := none   -- door and axis commands are blocked until then (R224)
  ready : Bool := false             -- R213
  pStand : Nat := 0                 -- standing draw over the last 1 s, 0.1 W
  eRem : Vector Nat 4 := .replicate 4 0 -- remaining prediction of each axis' running move, mJ (R231)
  crossed : Bool := false           -- the abort line is crossed: EN_ABORT_LINE raised
  floorReached : Bool := false      -- R217
  budgets : BitVec 5 := 0           -- budgets of Table EN-2 begun (R218)
  lossActions : Vector (Option Nat) 2 := .replicate 2 none -- loss action waiting in the resolver (R234)
  priced : Nat := 0                 -- mJ admitted in this tick's resolver pass (R230)
  drawSum : Nat := 0                -- sum of the drive-bus draw of the running second's ticks, 0.1 W (R226)
  drawTicks : Nat := 0
  serial : Option (BitVec 32) := none -- serial number of E0 the estimates belong to (R430)
  deriving DecidableEq, Repr

/-! ### Power states (chapter 10) -/

/-- The frame's power states (Table PW-1), with the unpowered frame before its first start. -/
inductive PowerState where
  | run | sleep | deep | off
  deriving DecidableEq, Repr

/-- Entry steps (Table PW-3). -/
inductive EntryStep where
  | n1 | n2 | n3 | n4 | n5 | n6
  deriving DecidableEq, Repr

/-- Rows of the wake timetable (Table PW-6). -/
inductive WakeRow where
  | regEnable | regCheck | tcxoCheck | pllCheck | resume | linksUp | fieldUp | precharge | axesReady
  deriving DecidableEq, Repr

/-- A pending OP_WAIT (R239). -/
structure PendingWait where
  req : Req
  target : Nat                      -- 2 SLEEP, 3 DEEP, 4 OFF
  alarm : Nat                       -- TAI ns, 0 none
  deriving DecidableEq, Repr

/-- A wake that runs its timetable (R251). -/
structure WakeSt where
  src : PowerState                  -- the state left
  at_ : Nat                         -- when the wake event came
  row : WakeRow                     -- next row to run
  shift : Nat := 0                  -- ns by which later times are shifted (R256)
  retried : Bool := false
  detour : Bool := false            -- a detour wake: the DEEP column (R256)
  abort : Bool := false             -- modules return after an aborted entry (R244)
  start : Nat := 0                  -- 1 a full start, 2 a fast restart runs until RUN at `runAt` (R198, R200)
  runAt : Nat := 0
  off : Nat := 0                    -- ns spent off before the start
  deriving DecidableEq, Repr

/-- Power states and wake (chapter 10). Register values are per PCIe port where Table PW-10 says so. -/
structure PowerSt where
  state : PowerState := .off
  idle : Bool := false              -- IDLE within RUN (R237)
  waits : List PendingWait := []
  mode : Vector (BitVec 32) 2 := .replicate 2 4 -- PWR_MODE of P0 and P1 (Table PW-10)
  consents : Vector Bool 5 := .replicate 5 false -- P0, P1, P2, P4, TL
  tlIdleFrom : Option Nat := none   -- since when TL's doorways are idle (R240)
  lastState : BitVec 3 := 0         -- PWR_STATUS.last_state
  wakeMs : BitVec 16 := 0           -- PWR_STATUS.wake_ms
  cause : BitVec 32 := 0            -- PWR_WAKE_CAUSE (Table PW-12)
  entry : Option EntryStep := none
  entryFrom : Nat := 0              -- when the running step began
  entryAt : Nat := 0                -- when N1 ran
  target : Nat := 0                 -- state being entered
  alarm : Nat := 0                  -- RTC alarm, TAI ns, 0 none
  wkStart : Byte := 0               -- wake inputs at the start of the entry window
  wk : Byte := 0                    -- wake inputs WK0 to WK7 as last read
  windowChange : Byte := 0          -- inputs that differed at its ends (R245)
  wake : Option WakeSt := none
  hold : Bool := false              -- the hold of N3 is active (R254)
  holdFrom : Option Nat := none     -- RUN was reached with the hold active
  retentionLost : Bool := false     -- R250
  osc : Vector Bool 2 := .replicate 2 false -- core runs on its RC clock (R257)
  failedAttempts : Nat := 0         -- failed wakes since the last successful one
  failAt : Option Nat := none       -- when the wake-failure message was last sent
  failSent : Nat := 0
  failedCheck : Nat := 0            -- 1 regulator, 2 PLL
  faultOut : Bool := false          -- FAULT_OUT on X11
  parked : Bool := false            -- axis modules parked, coils shorted (S5, N3)
  hbFrom : Nat := 0                 -- last heartbeat in SLEEP
  slept : Nat := 0                  -- when the low-power state was entered
  deriving DecidableEq, Repr

/-! ### The core pair (chapter 11) -/

/-- Standby states, Table CP-3 in code order. -/
inductive StandbyState where
  | absent | catchingUp | inStep | outOfStep | unpaired | faulted
  deriving DecidableEq, Repr

/-- What a planned handover waits for (R274 to R276, R397). -/
inductive HandoverCause where
  | request | coverage | removal | self | update
  deriving DecidableEq, Repr

/-- One core module of the pair (chapter 11). -/
structure CoreSt where
  present : Bool := false           -- powered and past its own power-up
  active : Bool := false            -- drives TICK
  faulted : Bool := false           -- silent after a fault
  cause : Nat := 0                  -- fault cause left in MRAM (Table CP-4)
  silentAt : Nat := 0               -- when it fell silent
  restarts : List Nat := []         -- times of its restarts in the running hour (R284)
  listenFrom : Option Nat := none   -- listening for TICK since (R261)
  selfTest : Bool := true           -- its self-test has passed
  version : Nat := 1                -- mirror protocol version
  tcxoReady : Bool := false
  nandHealthy : Bool := true
  pumpAt : Nat := 0                 -- last refresh of the charge pumps (R270)
  deriving DecidableEq, Repr

/-- The core pair: mirroring, standby, takeover and handover. -/
structure PairSt where
  core : Vector CoreSt 2 := .replicate 2 {}
  standby : StandbyState := .absent
  outSince : Nat := 0               -- when the standby last left IN_STEP
  missing : Nat := 0                -- consecutive ticks without an acknowledgement (R267)
  mseq : BitVec 32 := 0             -- sequence of the last mirror frame sent
  mseqApplied : BitVec 32 := 0      -- sequence last applied by the standby
  mseqAck : BitVec 32 := 0          -- sequence last acknowledged
  mirrorAt : Nat := 0               -- when the standby last received a good mirror frame
  goodRun : Nat := 0                -- consecutive good ticks towards IN_STEP (R266)
  badFrames : Nat := 0              -- bad mirror frames in the running second
  badFrom : Nat := 0
  badRaised : Bool := false
  heldCompletions : List (BitVec 32 × PortId × Completion) := [] -- outputs held, each for the frame to acknowledge (R267)
  heldEvents : List (BitVec 32 × PortId × Event) := []
  handover : Option HandoverCause := none -- a planned handover is pending
  handoverReq : Option Req := none
  lastHandover : Option Nat := none -- R275's hold-off
  coverageRun : Nat := 0            -- ticks in a row in which the standby covers more (R275)
  graceFrom : Option Nat := none    -- host-link grace since (R275)
  firstMissing : Option Nat := none -- first journal record the standby lacks (R388)
  cross : Vector (Vector Bool 4) 2 := .replicate 2 (.replicate 4 false) -- disagreements reported, by doorway (R268)
  enabledAt : Nat := 0              -- when the core in catch-up was enabled
  deriving DecidableEq, Repr

/-! ### Updates and sessions (chapter 17) -/

/-- Update states of a slot, Table UD-4 in code order. -/
inductive UpdState where
  | idle | downloading | verified | waiting | writing | trial | rollbackPending | suspended
  deriving DecidableEq, Repr

/-- One copy of a boot pointer (Table UD-3). -/
structure BootPtr where
  seq : Nat := 0
  bank : Fin 2 := 0
  trial : Bool := false             -- state: 0 confirmed, 1 trial
  tries : Nat := 0                  -- boots of a trial image
  minSec : Nat := 0                 -- lowest sec_version allowed to boot
  valid : Bool := true              -- its CRC holds
  deriving DecidableEq, Repr

/-- What a firmware bank holds: an image's header and body. -/
structure Image where
  header : List Byte := []          -- 256 bytes, Table UD-2
  body : List Byte := []
  deriving DecidableEq, Repr

/-- The firmware of the module in one slot and its update (chapter 17). -/
structure FirmSt where
  ptr : Vector BootPtr 2 := .replicate 2 {}   -- the two copies of the boot pointer (R398)
  banks : Vector Image 2 := .replicate 2 {}   -- banks A and B
  running : Option (Fin 2) := some 0          -- bank that runs; none: it stays in its bootloader
  state : UpdState := .idle
  resume : UpdState := .idle        -- state held while SUSPENDED
  serviceFrom : Nat := 0            -- in service on the trial image since
  outAt : Nat := 0                  -- when its activation took it out of service
  trialRun : Nat := 0               -- ticks the trial image has run in RUN (R405)
  fails : Nat := 0                  -- failed programs of the running bank write (R406)
  armedAt : Option Nat := none      -- an armed drop: when OP_SERVICE_DROP was given (R409)
  reported : Bool := false          -- in service on the trial image: UD_ACTIVATED raised
  serial : Option (BitVec 32) := none -- serial number of the module the firmware belongs to
  restarting : Bool := false        -- powered or restarted, and its bootloader has not run yet (R398)
  workTaken : Bool := false         -- step 2 of R402 has begun
  rollbackWhy : Nat := 0            -- cause of a rollback that waits: 1 time, 3 abort (R405)
  reply : List Byte := []           -- payload of the last memory frame answered (Table UD-5)
  deriving DecidableEq, Repr

/-- A staged image (R395, R400). -/
structure Staged where
  header : List Byte
  chunks : List (Nat × List Byte) := []       -- verified chunks, by index
  verified : Bool := false                    -- R401
  mirrored : Nat := 0                         -- bytes of its chunks sent through bulk kind 7 (R395)
  deriving DecidableEq, Repr

/-- An OP_UPDATE_ACTIVATE that runs: its slots still to be activated (R402). -/
structure Activation where
  req : Req
  kind : Nat
  slots : List Slot
  done : Nat := 0                   -- slots activated
  first : List Slot := []           -- all slots it named
  deriving DecidableEq, Repr

/-- A service session of one core's port (R416 to R419). -/
structure SessionSt where
  level : Nat := 0                  -- 0: none open
  lastUsed : Nat := 0
  challenge : Option (BitVec 40 × Nat × Nat) := none -- challenge, level and when it was given
  failures : Nat := 0               -- failures in a row (MRAM)
  lockedUntil : Option Nat := none
  lockTime : Nat := 0               -- length of the last lockout, s
  buffers : List (BitVec 64 × List Byte) := []  -- kind-2 data, by tag (R415)
  deriving DecidableEq, Repr

/-- The integrator key (R413). -/
structure IntKey where
  key : List Byte                   -- x then y, 64 bytes
  ident : BitVec 32
  deriving DecidableEq, Repr

/-- Firmware updates and service access. -/
structure UpdateSt where
  firm : Vector FirmSt 14 := .replicate 14 {}
  staged : Vector (Option Staged) 7 := .replicate 7 none      -- by image type 1 to 6
  download : Option Nat := none                               -- type in download (R399)
  baseline : Vector (Option Image) 7 := .replicate 7 none     -- by image type (R395)
  counter : Vector Nat 7 := .replicate 7 0                    -- security version counters (R397)
  activation : Option Activation := none
  pairUpdate : Bool := false                                  -- a core update under R411 runs its entry
  key : Option IntKey := none
  session : Vector SessionSt 2 := .replicate 2 {}
  asOne : Bool := false                                       -- both cores are updated as one slot (R411)
  p4Queue : List (CoreId × List Byte) := []                   -- P4's descriptor queue, at most 16 (R415)
  usbOut : List (List Byte) := []                             -- containers sent in the last tick (Table UD-9)
  deriving DecidableEq, Repr

/-! ### The frame and its slots (chapter 01) -/

/-- Why a module is held out of service (R2, R20, R21, R100, R160, R180, R407). -/
inductive HeldOut where
  | mismatch | invalid | slotId | precharge | config | image
  deriving DecidableEq, Repr

/-- Why a removal request waits (Table FR-15, EV 0x007): 1 turn, 2 gate, 3 confirmation, 4 zero speed. -/
inductive WaitReason where
  | turn | gate | confirmation | zeroSpeed
  deriving DecidableEq, Repr

/-- Stage of one removal request (R22 to R28). -/
inductive RemStage where
  | waiting (why : WaitReason)
  | running (step : Nat)
  | free
  deriving DecidableEq, Repr

/-- One slot of the frame as the cores see it (Tables FR-1, FR-6, FR-8, FR-13). -/
structure SlotSt where
  pres : Bool := false              -- presence contact PRES (R21)
  presSince : Nat := 0              -- when PRES was made
  debounced : Bool := false         -- PRES has held for the debounce time
  latchClosed : Bool := false       -- LATCH pin
  latchFault : Bool := false        -- FR_LATCH_FAULT raised: the latch is ignored (FR-16)
  latchClosedAt : Nat := 0          -- when the latch last closed again after opening (R24's window)
  latchReclosed : Bool := false     -- the latch was closed again after an opening
  sid : BitVec 4 := 0               -- slot identity pins (FR-1)
  sidp : Bool := false              -- slot identity parity pin
  identAsked : Bool := false        -- the identity read has been started (R20)
  identAt : Nat := 0                -- when PRES was qualified
  ident : Option (List Byte) := none -- identity block as read (FR-7)
  enable : Bool := false            -- enable flag of the downlink (R21)
  enabledAt : Nat := 0              -- when enable was set
  railsOn : Bool := false           -- uplink flag: main rails on (FR-4), or the host rail of H0, H1
  inService : Bool := false         -- the module reports in service (FR-8)
  standbyRole : Bool := false       -- a core module that is in service as the standby
  fault : Option Nat := none        -- the fault code its uplink reports (EV 0x00F)
  heldOut : Option HeldOut := none  -- held out of service, and why
  lost : Bool := false              -- treated as lost (R27, R103)
  removal : Option RemStage := none -- the removal request of this slot
  confirmed : Bool := false         -- R24's confirmation has been given
  requestedAt : Nat := 0            -- when removal was requested (R22)
  stepFrom : Nat := 0               -- when the removal sequence began; for a host slot its grace
  refusedAt : Option Nat := none    -- removal refused under R25: red 4 Hz for 5 s
  crcErrs : Vector Nat 2 := .replicate 2 0   -- CRC errors of this second, per core (R16)
  crcRaised : Vector Bool 2 := .replicate 2 false
  uplinkMissed : Vector Nat 2 := .replicate 2 0 -- ticks without a valid uplink, per core (R103)
  linkUp : Vector Bool 2 := .replicate 2 false  -- the core's link to this module is covered
  deriving DecidableEq, Repr

/-- The status lamp patterns of Table FR-13. -/
inductive StatusLamp where
  | off | green | green1Hz | green4Hz | red | red1Hz | redGreen1Hz | red4Hz
  deriving DecidableEq, Repr

/-- The blue lamp patterns of Table FR-13. -/
inductive BlueLamp where
  | off | on | blink1Hz | blink4Hz
  deriving DecidableEq, Repr

/-- The five values a tier takes (R29, R30): none below evacuation. -/
inductive Tier where
  | none | evacuation | restricted | revenue
  deriving DecidableEq, Repr

/-- The frame's slots, lamps and tiers. -/
structure FrameSt where
  slots : Vector SlotSt 14 := .replicate 14 {}
  statusLamps : Vector StatusLamp 14 := .replicate 14 .off
  blueLamps : Vector BlueLamp 14 := .replicate 14 .off
  lampTestFrom : Option Nat := none          -- R33's start-up lamp test
  doorTier : Vector Tier 2 := .replicate 2 .none
  frameTier : Tier := .none
  secondFrom : Nat := 0                      -- start of the running second of the CRC counts (R16)
  deriving DecidableEq, Repr

/-! ### The restart image and the whole frame -/

/-- What the restart image keeps of one port (R428). -/
structure PortImage where
  hseqConsumed : BitVec 32
  hseqAny : Bool
  hseqSeen : List (BitVec 32)
  dseqNext : BitVec 32
  evDropped : BitVec 32
  laybyCq : List Completion
  laybyEv : List Event
  kept : List Completion
  deriving DecidableEq, Repr

/-- The restart image in MRAM (R428). -/
structure RestartImage where
  ports : Vector PortImage 4
  rseq : Vector (BitVec 32) 3
  filters : Vector (Vector CanFilter 32) 3
  stamps : Vector (Vector Nat 6) 2
  tick : BitVec 32
  mode : Vector (BitVec 32) 2       -- target and rail_keep fields of PWR_MODE
  good : Bool := true               -- its CRC-32 holds
  deriving DecidableEq, Repr

/-- The SK-7 frame. -/
structure State where
  now : Nat := 0                    -- ns of the frame's clock at the coming TICK edge
  tick : BitVec 32 := 0             -- TICK_COUNT (R429); tick numbers of frames are its low 16 bits
  free : Nat := 0                   -- the model's own counter of free values (log 2)
  params : List (Nat × Nat) := []   -- parameters that differ from their defaults, by rising index (R423)
  paramsValid : Vector Bool 2 := .replicate 2 true -- each core's MRAM copy of the set passes its CRC
  frame : FrameSt := {}
  doors : DoorsSt := {}
  obst : Vector ObstSt 2 := .replicate 2 {}
  axes : Vector AxisSt 4 := .replicate 4 {}
  axMods : Vector AxModSt 4 := .replicate 4 {}
  field : FieldSt := {}
  load : LoadSt := {}
  supply : SupplySt := {}
  energy : EnergySt := {}
  power : PowerSt := {}
  pair : PairSt := {}
  ports : Vector PortSt 4 := .replicate 4 {}   -- P0, P1, P2, P4
  can : CanSt := {}
  panel : PanelSt := {}
  time : TimeSt := {}
  journal : JournalSt := {}
  update : UpdateSt := {}
  restart : Option RestartImage := none
  pending : List Instr := []        -- commands that wait, first in, first out
  deriving DecidableEq, Repr

/-- Why the machine stops. -/
inductive Fault where
  /-- Raised by the commands that report a terminal's voltage when it lies beyond Table EL-1: R432
  says that such stress may damage the frame and gives no effect. Safe: the model says nothing of a
  damaged frame. -/
  | overstress
  deriving DecidableEq, Repr

/-- Why a command has no meaning. -/
inductive Refusal where
  /-- Raised by an arm of `exec` whose command has not been given its meaning. Safe. -/
  | notModelled (mnemonic : String)
  deriving DecidableEq, Repr

/-- The frame before its first start: unpowered, parameters at their defaults, every register at the
value of Table RF-7 for a full start, every item of Table RF-8 at its full-start value, and no
command waiting. -/
def State.reset : State := {}

end Sys2Proof.Machine
end

