-- ==== Sys2Proof/Machine/Profile.lean ====
section
/-!
DEFINITION. The mathematics of motion: limited-jerk profiles (R70, R71), replanning (R72), ramp stops
(R78), segment tables (R74 to R76) and the energy prediction of a movement (R225). Positions, speeds,
accelerations and jerks are in 1/65536 microstep and its rates per second, times in ns (log 8).
-/

namespace Sys2Proof.Machine

/-- One full step in 1/65536 microstep. -/
def fullStep : Nat := 16777216
/-- One microstep. -/
def ustep : Nat := 65536
/-- Nanoseconds in a second. -/
def sec : Nat := 1000000000

/-- The limits of a profile. -/
structure Limits where
  v : Nat
  a : Nat
  j : Nat
  deriving DecidableEq, Repr

/-- Limits given in full steps per s, s², s³, under the caps of *Limited-jerk profiles*. -/
def limitsFs (v a j : Nat) : Limits :=
  { v := min v 8000 * fullStep, a := min a 200000 * fullStep, j := min j 10000000 * fullStep }

/-- T_j and T_a of a ramp between rest and a peak (or between two speeds a distance `dv` apart), R70
and R71. -/
def rampTimes (lim : Limits) (dv : Nat) : Nat × Nat :=
  if lim.a * lim.a ≤ dv * lim.j then
    let tj := ndiv (lim.a * sec) lim.j
    (tj, ndiv (dv * sec) lim.a - tj)
  else (isqrt (dv * sec * sec / lim.j), 0)

/-- Duration of a ramp over a speed difference. -/
def rampTime (lim : Limits) (dv : Nat) : Nat :=
  let t := rampTimes lim dv
  t.2 + 2 * t.1

/-- Distance of a ramp from speed `v1` to `v2`, both with a = 0. -/
def rampDist (lim : Limits) (v1 v2 : Nat) : Nat :=
  (v1 + v2) * rampTime lim (if v1 ≤ v2 then v2 - v1 else v1 - v2) / (2 * sec)

/-- D_a of R70 for a peak. -/
def rampD (lim : Limits) (v : Nat) : Nat := rampDist lim 0 v

/-- The peak velocity of a rest-to-rest move too short for v_max (R71). -/
def peakOf (lim : Limits) (d : Nat) : Nat :=
  let r := lim.a * sec / lim.j
  let s := isqrt (r * r + 4 * d * sec * sec / lim.a)
  let vp := lim.a * (s - r) / (2 * sec)
  if lim.a * lim.a ≤ vp * lim.j then min vp lim.v
  else min (icbrt (d * d * lim.j / 4)) lim.v

def mkPhase (j : Int) (d : Nat) : List Phase := if d = 0 then [] else [{ jerk := j, dur := d }]

/-- The phases of a ramp that changes the speed by `dv` in direction `dir` (+1 or −1). -/
def rampPhases (lim : Limits) (dir : Int) (dv : Nat) : List Phase :=
  let t := rampTimes lim dv
  mkPhase (dir * lim.j) t.1 ++ mkPhase 0 t.2 ++ mkPhase (-(dir * lim.j)) t.1

/-- The seven phases of a rest-to-rest move over the signed distance `d` (Table MO-4). -/
def restToRest (lim : Limits) (d : Int) : List Phase :=
  let dist := d.natAbs
  let dir := sgn d
  if dist = 0 then []
  else
    let v := if 2 * rampD lim lim.v ≤ dist then lim.v else peakOf lim dist
    let cruise := if v = 0 then 0 else ndiv ((dist - 2 * rampD lim v) * sec) v
    rampPhases lim dir v ++ mkPhase 0 cruise ++ rampPhases lim (-dir) v

/-! ### Evaluation -/

/-- Position, speed and acceleration after `t` ns of a phase of jerk `j` (R70). -/
def phaseAt (x v a j : Int) (t : Nat) : Int × Int × Int :=
  (x + rdiv (6 * v * t * sec * sec + 3 * a * t * t * sec + j * t * t * t) (6 * sec * sec * sec),
   v + rdiv (2 * a * t * sec + j * t * t) (2 * sec * sec),
   a + rdiv (j * t) sec)

/-- State of a list of phases after `t` ns; none once they are all over. -/
def phasesAt : List Phase → Int → Int → Int → Nat → Option (Int × Int × Int)
  | [], _, _, _, _ => none
  | p :: ps, x, v, a, t =>
    if t < p.dur then some (phaseAt x v a p.jerk t)
    else
      let e := phaseAt x v a p.jerk p.dur
      phasesAt ps e.1 e.2.1 e.2.2 (t - p.dur)

/-- Where a list of phases ends. -/
def phasesEnd : List Phase → Int → Int → Int → Int × Int × Int
  | [], x, v, a => (x, v, a)
  | p :: ps, x, v, a =>
    let e := phaseAt x v a p.jerk p.dur
    phasesEnd ps e.1 e.2.1 e.2.2

def phasesDur (ps : List Phase) : Nat := ps.foldl (fun n p => n + p.dur) 0

/-! ### Segment tables -/

/-- Duration of a segment in ns. -/
def Segment.ns (g : Segment) : Nat := g.duration * 1000

/-- Position, speed and acceleration `t` ns into a segment of duration `T` ns from (p0, v0) to (p1, v1),
in microsteps and microsteps/s, by R75. -/
def hermiteAt (T t : Nat) (p0 v0 p1 v1 : Int) : Int × Int × Int :=
  let T' : Int := T
  let t' : Int := t
  let w0 := v0 * T'
  let w1 := v1 * T'
  let u : Int := ustep
  (u * p0 + rdiv (u * ((2 * t' ^ 3 - 3 * t' ^ 2 * T') * (p0 - p1) * sec
      + (t' ^ 3 - 2 * t' ^ 2 * T' + t' * T' ^ 2) * w0 + (t' ^ 3 - t' ^ 2 * T') * w1)) (T ^ 3 * sec),
   rdiv (u * ((6 * t' ^ 2 - 6 * t' * T') * (p0 - p1) * sec
      + (3 * t' ^ 2 - 4 * t' * T' + T' ^ 2) * w0 + (3 * t' ^ 2 - 2 * t' * T') * w1)) (T ^ 3),
   rdiv (u * sec * ((12 * t' - 6 * T') * (p0 - p1) * sec
      + (6 * t' - 4 * T') * w0 + (6 * t' - 2 * T') * w1)) (T ^ 3))

/-- State of a table after `t` ns, with the number of segments ended; none once it is over. -/
def tableAt : List Segment → Nat → Int → Int → Nat → Option ((Int × Int × Int) × Nat)
  | [], _, _, _, _ => none
  | g :: gs, n, p0, v0, t =>
    if t < g.ns then some (hermiteAt g.ns t p0 v0 g.endPos g.endVel, n)
    else tableAt gs (n + 1) g.endPos g.endVel (t - g.ns)

def tableDur (gs : List Segment) : Nat := gs.foldl (fun n g => n + g.ns) 0

/-- State of a plan after `t` ns; none at and after its end. -/
def planAt (b : PlanBody) (t : Nat) : Option ((Int × Int × Int) × Nat) :=
  match b with
  | .phases x v a ps => (phasesAt ps x v a t).map fun s => (s, 0)
  | .table _ p0 v0 gs => tableAt gs 0 p0 v0 t

def planDur : PlanBody → Nat
  | .phases _ _ _ ps => phasesDur ps
  | .table _ _ _ gs => tableDur gs

/-! ### Ramps to rest and replanning -/

/-- A ramp to rest from any state (R78; also the ramp down of R72's reversal): the start acceleration
and the phases. -/
def rampToRest (lim : Limits) (v a : Int) : Int × List Phase :=
  let w := v.natAbs
  let d := a.natAbs
  let dir := sgn v
  if v = 0 then (0, [])
  else if a = 0 ∨ sgn a = dir then
    let ta := ndiv (d * sec) lim.j
    let back := mkPhase (-(dir * lim.j)) ta
    let w' := w + d * d / (2 * lim.j)
    (a, back ++ rampPhases lim (-dir) w')
  else if 2 * lim.j * w < d * d then
    let d' := isqrt (2 * lim.j * w)
    (-(dir * d'), mkPhase (dir * lim.j) (ndiv (d' * sec) lim.j))
  else
    let top := max lim.a d
    let peak := isqrt (lim.j * w + d * d / 2)
    let p := min peak top
    let hold := if peak ≤ top then 0
      else ndiv ((2 * lim.j * w + d * d - 2 * p * p) * sec) (2 * lim.j * p)
    (a, mkPhase (-(dir * lim.j)) (ndiv ((p - d) * sec) lim.j) ++ mkPhase 0 hold
        ++ mkPhase (dir * lim.j) (ndiv (p * sec) lim.j))

/-- The 24 bisection steps of R72 for the peak speed: the largest v_p that fits `rest`. -/
def bisect (lim : Limits) (v' rest : Nat) : Nat → Nat → Nat → Nat
  | 0, lo, _ => lo
  | k + 1, lo, hi =>
    let m := (lo + hi) / 2
    if rampDist lim v' m + rampD lim m ≤ rest then bisect lim v' rest k m hi
    else bisect lim v' rest k lo m

/-- R72's plan from (x, v, a) to a target under the limits of the new move: start acceleration, phases,
and whether it reverses. -/
def replan (lim : Limits) (x v a target : Int) : Int × List Phase × Bool :=
  let ta := ndiv (a.natAbs * sec) lim.j
  let first := mkPhase (-(sgn a * lim.j)) ta
  let s := phasesEnd first x v a
  let x' := s.1
  let v' := s.2.1
  let ahead := v' = 0 ∨ 0 ≤ (target - x') * sgn v'
  if a ≠ 0 ∧ ¬ ahead then
    let r := rampToRest lim v a
    let e := phasesEnd r.2 x v r.1
    (r.1, r.2 ++ restToRest lim (target - e.1), true)
  else
    let pre := if a = 0 then [] else first
    if v' = 0 then (a, pre ++ restToRest lim (target - x'), false)
    else
      let w := v'.natAbs
      let rest := ((target - x') * sgn v')
      if ((rampD lim w : Nat) : Int) ≤ rest then
        let room := rest.toNat
        let vp := if rampDist lim w lim.v + rampD lim lim.v ≤ room then lim.v
          else bisect lim w room 24 0 lim.v
        let up := if w ≤ vp then rampPhases lim (sgn v') (vp - w) else rampPhases lim (-(sgn v')) (w - vp)
        let used := rampDist lim w vp + rampD lim vp
        let cruise := if vp = 0 then 0 else ndiv ((room - used) * sec) vp
        (a, pre ++ up ++ mkPhase 0 cruise ++ rampPhases lim (-(sgn v')) vp, false)
      else
        let down := rampPhases lim (-(sgn v')) w
        let e := phasesEnd down x' v' 0
        (a, pre ++ down ++ restToRest lim (target - e.1), true)

/-! ### Load check of a segment table (R74 to R76) -/

/-- Which test of R76 a segment fails, for R309's naming of parameters. -/
inductive SegFail where
  | form | position | accel | jerk | speed
  deriving DecidableEq, Repr

/-- Position test of one point, in microsteps. -/
def inTravel (lo hi : Int) (p : ℚ) : Bool := decide ((lo : ℚ) ≤ p) && decide (p ≤ (hi : ℚ))

/-- Points u in (0, 1), at a resolution of 2^-40, where the velocity A u² + B u + C of a segment is 0. -/
def velocityZeros (A B C : Int) : List ℚ :=
  let keep (u : ℚ) : List ℚ := if 0 < u ∧ u < 1 then [u] else []
  if A = 0 then (if B = 0 then [] else keep ((-C : ℚ) / B))
  else
    let disc := B * B - 4 * A * C
    if disc < 0 then []
    else
      let r : ℚ := (isqrt (disc.toNat * 2 ^ 80) : ℚ) / 2 ^ 40
      keep ((-B + r) / (2 * A)) ++ keep ((-B - r) / (2 * A))

/-- The first test of R76 that one segment fails. `lo`, `hi` bound the position in microsteps; the
limits are in full steps. -/
def segCheck (lo hi : Int) (vMax aMax jMax : Nat) (isLast : Bool) (p0 v0 : Int) (g : Segment) :
    Option SegFail :=
  let T : ℚ := (g.duration : ℚ) / 1000000
  let dp : ℚ := ((g.endPos - p0 : Int) : ℚ)
  let q0 : ℚ := (v0 : ℚ)
  let q1 : ℚ := (g.endVel : ℚ)
  let a0 := (6 * dp - 4 * T * q0 - 2 * T * q1) / (T * T)
  let a1 := (-6 * dp + 2 * T * q0 + 4 * T * q1) / (T * T)
  let jk := (a1 - a0) / T
  -- velocity in microsteps per (duration unit of 1e-6 s): A u² + B u + C, scaled by the duration in us
  let d : Int := g.duration
  let A := -6 * (g.endPos - p0) * 1000000 + 3 * d * v0 + 3 * d * g.endVel
  let B := 6 * (g.endPos - p0) * 1000000 - 4 * d * v0 - 2 * d * g.endVel
  let C := d * v0
  let posAt (u : ℚ) : ℚ := (2 * u ^ 3 - 3 * u ^ 2 + 1) * p0 + (u ^ 3 - 2 * u ^ 2 + u) * T * q0
    + (-2 * u ^ 3 + 3 * u ^ 2) * g.endPos + (u ^ 3 - u ^ 2) * T * q1
  let velAt (u : ℚ) : ℚ := ((A : ℚ) * u * u + B * u + C) / d
  let vLim : ℚ := 256 * vMax
  let extremum : List ℚ := if A = 0 then [] else
    let u : ℚ := (-B : ℚ) / (2 * A)
    if 0 < u ∧ u < 1 then [velAt u] else []
  if g.duration % 50 ≠ 0 ∨ g.duration < 50 ∨ 60000000 < g.duration then some .form
  else if g.flags.getLsbD 0 ≠ isLast then some .form
  else if isLast ∧ g.endVel ≠ 0 then some .form
  else if 4 ≤ g.flags.toNat then some .form
  else if ¬ (inTravel lo hi g.endPos ∧ (velocityZeros A B C).all fun u => inTravel lo hi (posAt u)) then
    some .position
  else if 256 * (aMax : ℚ) < |a0| ∨ 256 * (aMax : ℚ) < |a1| then some .accel
  else if 256 * (jMax : ℚ) < |jk| then some .jerk
  else if vLim < |q0| ∨ vLim < |q1| ∨ extremum.any fun v => vLim < |v| then some .speed
  else none

/-- The first failing segment of a table and its failing test. -/
def segsCheck (lo hi : Int) (vMax aMax jMax : Nat) : Nat → Int → Int → List Segment → Option (Nat × SegFail)
  | _, _, _, [] => none
  | n, p0, v0, g :: gs =>
    match segCheck lo hi vMax aMax jMax gs.isEmpty p0 v0 g with
    | some f => some (n, f)
    | none => segsCheck lo hi vMax aMax jMax (n + 1) g.endPos g.endVel gs

/-- Peak speed of a table in microsteps/s, rounded up (R126). -/
def tablePeak : Int → Int → List Segment → Nat
  | _, _, [] => 0
  | p0, v0, g :: gs =>
    let d : Int := g.duration
    let A := -6 * (g.endPos - p0) * 1000000 + 3 * d * v0 + 3 * d * g.endVel
    let B := 6 * (g.endPos - p0) * 1000000 - 4 * d * v0 - 2 * d * g.endVel
    -- extremum value of the velocity: (C − B² / 4A) / d
    let inner : Nat := if A = 0 ∨ (-B) * sgn A ≤ 0 ∨ 2 * A.natAbs ≤ B.natAbs then 0
      else (4 * A * d * v0 - B * B).natAbs / (4 * A.natAbs * g.duration) + 1
    max (max (max v0.natAbs g.endVel.natAbs) inner) (tablePeak g.endPos g.endVel gs)

/-! ### Energy of one axis movement (R225), in mJ without margin and boost efficiency -/

/-- The motor data of a movement. -/
structure MotorData where
  r : Nat                           -- mOhm
  ke : Nat                          -- uV s/rad
  iAcc : Nat                        -- mA
  iRun : Nat
  iHold : Nat
  settle : Nat                      -- ms
  bridge : Nat                      -- W
  deriving DecidableEq, Repr

/-- Copper and conversion loss of a time `t` ns and a distance `d` (1/65536 ustep) at current `i`, in
1e-18 J. -/
def copperLoss (m : MotorData) (i t d : Nat) : Nat :=
  m.r * i * i * t + m.ke * i * d * sec / fullStep * piNum / (2 * piDen)

/-- Each phase's loss: i_acc where a ≠ 0 and i_run in cruise (R90). -/
def phasesLoss (m : MotorData) : List Phase → Int → Int → Int → Nat
  | [], _, _, _ => 0
  | p :: ps, x, v, a =>
    let e := phaseAt x v a p.jerk p.dur
    let i := if p.jerk = 0 ∧ a = 0 then m.iRun else m.iAcc
    copperLoss m i p.dur (e.1 - x).natAbs + phasesLoss m ps e.1 e.2.1 e.2.2

/-- Each segment's loss; a segment whose acceleration is 0 throughout cruises. -/
def segsLoss (m : MotorData) : List Segment → Int → Int → Nat
  | [], _, _ => 0
  | g :: gs, p0, v0 =>
    let flat := v0 = g.endVel ∧ (g.endPos - p0) * 1000000 = v0 * g.duration
    let i := if flat then m.iRun else m.iAcc
    copperLoss m i g.ns ((g.endPos - p0).natAbs * ustep) + segsLoss m gs g.endPos g.endVel

/-- E_axes of one lane's movement, in 1e-18 J; the settle term where `last`. -/
def bodyEnergy (m : MotorData) (b : PlanBody) (last : Bool) : Nat :=
  let loss := match b with
    | .phases x v a ps => phasesLoss m ps x v a
    | .table _ p0 v0 gs => segsLoss m gs p0 v0
  loss + m.bridge * planDur b * sec
    + (if last then m.r * m.iHold * m.iHold * m.settle * 1000000 else 0)

/-- E_pred of R225 in mJ, rounded up: (1 + margin) × E_axes / efficiency, percentages. -/
def predict (margin eff : Nat) (axesAttoJ : Nat) : Nat :=
  (axesAttoJ * (100 + margin) + eff * 10 ^ 15 - 1) / (eff * 10 ^ 15)

end Sys2Proof.Machine
end

