-- ==== Sys2Proof/Machine/Params.lean ====
section
/-!
DEFINITION. The parameter set (R423): its defaults and ranges, chapter by chapter, and every load check
that compares parameters. A set is held as the list of the values that differ from their defaults.
-/

namespace Sys2Proof.Machine

/-! ### Ranges -/

def inRange (lo hi v : Nat) : Bool := decide (lo ≤ v) && decide (v ≤ hi)
/-- In range, or 0xFF for none. -/
def orNone (lo hi v : Nat) : Bool := v == 0xFF || inRange lo hi v
/-- In range, or 0 for off. -/
def orZero (lo hi v : Nat) : Bool := v == 0 || inRange lo hi v

/-- One parameter: its default and whether a value lies in its own range. -/
structure PSpec where
  dflt : Nat
  lo : Nat
  hi : Nat
  extra : Option Nat := none        -- one more value allowed: 0 off, 0xFF none, 0xFFFF none
  among : List Nat := []            -- where not empty, the only values allowed
  deriving DecidableEq, Repr

def PSpec.ok (p : PSpec) (v : Nat) : Bool :=
  if p.among.isEmpty then inRange p.lo p.hi v || p.extra == some v else p.among.contains v

/-- A reserved index holds 0. -/
def PSpec.reserved : PSpec := { dflt := 0, lo := 0, hi := 0 }

def pspec (dflt lo hi : Nat) : PSpec := { dflt := dflt, lo := lo, hi := hi }
def pspecOr (dflt lo hi e : Nat) : PSpec := { dflt := dflt, lo := lo, hi := hi, extra := some e }
def pAny (dflt : Nat) : PSpec := pspec dflt 0 0xFFFFFFFF

/-- Codes each slot accepts (Table FR-1), the slots in the order of R34. -/
def slotCodes (k : Nat) : List Nat :=
  match k with
  | 0 | 1 => [0, 1, 2]
  | 2 => [0, 3]
  | 3 => [4]
  | 4 => [0, 4]
  | 5 | 6 => [0, 9, 10, 11]
  | 7 | 8 | 9 | 10 => [0, 5]
  | 11 => [6]
  | 12 => [0, 6]
  | _ => [0, 7, 8]

/-- Default of frame.slot.k.code (Table FR-14). -/
def slotDefault (k : Nat) : Nat := match k with
  | 3 | 4 => 4
  | 5 | 6 => 11
  | 11 => 6
  | _ => 0

/-- Frame, core-pair and host-port parameters: Tables FR-14, CP-10, HR-18. -/
def specFrame (i : Nat) : PSpec :=
  if inRange 0x010 0x01D i then { dflt := slotDefault (i - 0x010), lo := 0, hi := 0, among := slotCodes (i - 0x010) }
  else if inRange 0x020 0x02D i then pspec 0x03FFFFFF 1 0x03FFFFFF
  else match i with
    | 0x030 => pspec 1 0 1
    | 0x031 => pspec 5 2 10
    | 0x032 => pspec 2000 0 30000
    | 0x033 => pspec 100 20 500
    | 0x034 => pspec 10 1 1000
    | 0x040 => pspec 10 1 600
    | 0x041 => pspecOr 20 3 1000 0
    | 0x042 => pspec 1000 100 10000
    | 0x043 => pspec 1 0 1
    | 0x050 => pspec 1000 100 10000
    | 0x051 => pspec 3 1 3
    | _ => .reserved

/-- Frame-wide doorway parameters: Table DW-11. -/
def specDoors (i : Nat) : PSpec := match i with
  | 0x080 => pspec 0 0 2047
  | 0x081 => pspec 0 0 2
  | 0x082 => pspec 2000 0 10000
  | 0x083 => pspecOr 0xFF 0 62 0xFF
  | 0x084 => pspecOr 0xFF 0 62 0xFF
  | 0x085 => pspec 0 0 62
  | 0x086 => pspecOr 0xFF 0 63 0xFF
  | 0x087 => pspecOr 0xFF 0 7 0xFF
  | 0x088 => pspec 50 10 500
  | 0x089 => pspec 100 20 1000
  | 0x08A => pspec 1 0 1
  | 0x08B => pspec 0 0 1
  | 0x08C => pspec 1000 100 10000
  | _ => .reserved

/-- Per-doorway parameters by offset: Table DW-12. -/
def specDoor (d o : Nat) : PSpec := match o with
  | 0x00 => pspec 0 0 1
  | 0x01 => pspec 0 0 1
  | 0x02 => pspec 1 1 2
  | 0x03 => pspec (2 * d) 0 3
  | 0x04 => pspecOr 0xFF 0 3 0xFF
  | 0x05 => pspec 0 0 2
  | 0x06 => pspecOr 0xFF 0 3 0xFF
  | 0x07 => pspec 0 0 2
  | 0x08 => pspecOr 0xFF 1 12 0xFF
  | 0x09 | 0x0A | 0x0B | 0x0C | 0x0D | 0x0E => pspecOr 0xFF 0 63 0xFF
  | 0x0F => pspecOr 0xFF 0 62 0xFF
  | 0x10 | 0x11 => pspecOr 0xFF 0 63 0xFF
  | 0x12 | 0x13 => pspecOr 0xFF 0x00 0x4B 0xFF
  | 0x14 => pspec 1 0 1
  | 0x15 => pspec 800 100 2000
  | 0x16 => pspec 500 100 2000
  | 0x17 => pspec 3000 500 10000
  | 0x18 => pspecOr 0 1000 600000 0
  | 0x19 => pspec 500 100 2000
  | 0x1A => pspec 8000 1000 30000
  | 0x1B => pspec 10000 1000 30000
  | 0x1C => pspec 500 100 2000
  | 0x1D => pspec 1 0 2
  | 0x1E => pspec 4000 500 10000
  | 0x1F => pspec 2 0 3
  | 0x20 | 0x21 => pspec 0 0 1
  | _ => .reserved

/-- Per-doorway obstacle parameters: Table OB-8. -/
def specObst (o : Nat) : PSpec := match o with
  | 0x00 | 0x01 | 0x02 | 0x10 => pspecOr 0xFF 0 63 0xFF
  | 0x03 => pspec 0 0 1
  | 0x04 => pspec 0 0 300
  | 0x05 => pspec 10 0 50
  | 0x06 | 0x07 => pspec 0 0 1
  | 0x08 => pspec 200 50 2000
  | 0x09 => pspec 3 1 10
  | 0x0A => pspec 1000 0 10000
  | 0x0B => pspec 100 20 1000
  | 0x0C => pspec 10000 100 100000
  | 0x0D => pspec 40 1 500
  | 0x0E => pspec 100 10 400
  | 0x0F => pspec 60 20 1000
  | 0x11 => pspec 1 0 1
  | 0x12 => pspec 0xF 0 0xF
  | _ => .reserved

/-- Per-axis motion parameters: Table MO-15. -/
def specAxis (o : Nat) : PSpec := match o with
  | 0x00 => pspec 0 0 1
  | 0x01 => pspec 250 10 5000
  | 0x02 => pspec 0 0 300
  | 0x03 => pspec 4000 100 200000
  | 0x04 => pspec 1200 1 8000
  | 0x05 => pspec 2000 1 8000
  | 0x06 => pspec 4000 100 200000
  | 0x07 => pspec 100000 1000 10000000
  | 0x08 => pspec 8000 100 200000
  | 0x09 => pspec 400000 1000 10000000
  | 0x0A | 0x0B => pspecOr 0xFF 0 15 0xFF
  | 0x0C => pspec 0 0 2000
  | 0x0D => pspec 200 1 2000
  | 0x0E => pspec 0 0 1
  | 0x0F => pspec 500 10 20000
  | 0x10 => pspec 2000 50 50000
  | 0x11 => pspec 1500 100 50000
  | 0x12 => pspec 4000 100 11300
  | 0x13 => pspec 5000 100 12000
  | 0x14 => pspec 1000 0 11300
  | 0x15 => pspec 3890 0 4095
  | 0x16 => pspec 200 10 10000
  | 0x17 => pspec 2 1 2
  | 0x18 => pspec 10 1 100
  | 0x19 => pspec 20 0 200
  | 0x1A => pspec 1 0 1
  | 0x1B => pspec 0 0 3
  | 0x1C => pspec 0 0 3
  | 0x1D => pspec 200 10 1000
  | 0x1E => pspec 20 1 200
  | 0x1F => pAny 0                   -- signed: see `paramOk`
  | 0x20 => pspec 4400 100 200000
  | 0x21 => pspec 4 0 4
  | 0x22 => pspec 400 10 2000
  | _ => .reserved

/-- Per-axis module parameters: Table AX-9. -/
def specAxMod (o : Nat) : PSpec := match o with
  | 0 => pspec 0 0 4
  | 1 => pspec 0 0 1048576
  | 2 => pspec 0 0 1
  | 3 => pspec 250 0 500
  | 4 => pspec 200 48 1000
  | 5 => pspecOr 0 64 4096 0
  | 6 => pspec 10 1 200
  | _ => pspec 0 0 2

/-- Twin-lane parameters: Table AX-10. -/
def specTwin (o : Nat) : PSpec := match o with
  | 0 => pspec 0 0 1
  | 1 => pspec 1 0 1
  | 2 => pspec 50 10 100
  | 3 => pspec 60 10 100
  | 4 => pspec 0 0 1023
  | 5 => pspec 8 1 1000
  | _ => .reserved

/-- Field module parameters: Table FI-10. -/
def specFieldMod (o : Nat) : PSpec := match o with
  | 0 => pspec 20 1 100
  | 1 => pspec 50 10 1000
  | 2 => pspecOr 500 10 5000 0
  | 3 => pspec 50 5 500
  | _ => .reserved

/-- Field channel parameters (Table FI-11); their fields are checked by `fieldChanOff`. -/
def specFieldChan (o : Nat) : PSpec := match o with
  | 0 => pAny 0x00000030
  | 1 => pAny 0x00001420
  | _ => pAny 0x001E3C18

/-- Load channel parameters: Table LS-13. -/
def specLoadChan (o : Nat) : PSpec := match o with
  | 0 => pAny 0x00000A28
  | 1 => pspec 50 1 400
  | 2 => pspecOr 0 1 1200 0
  | _ => .reserved

/-- Supply, energy and power-state parameters: Tables SU-11, EN-9, PW-13. -/
def specPower (i : Nat) : PSpec := match i with
  | 0x480 | 0x481 => { dflt := 24, lo := 0, hi := 0, among := [24, 36, 48, 72, 96, 110] }
  | 0x482 => pspec 0 0 5000
  | 0x483 => pspec 60 5 60
  | 0x484 => pspec 10 0 60
  | 0x485 => pspec 0 0 1
  | 0x486 => pspec 20 5 50
  | 0x487 => { dflt := 20, lo := 0, hi := 0, among := [5, 9, 15, 20] }
  | 0x4A0 => pspec 20 5 100
  | 0x4A1 => pspec 90 70 98
  | 0x4A2 => pspec 1000 200 5000
  | 0x4A3 => pspec 24 1 72
  | 0x4A4 => pspec 72 24 720
  | 0x4A5 => pspec 60 10 1440
  | 0x4A6 => pspec 3 0 20
  | 0x4A7 | 0x4A8 => pspec 0 0 2
  | 0x4A9 => pspec 3000 2500 3000
  | 0x4AA => pspec 1 0 1
  | 0x4C0 | 0x4C1 | 0x4C3 => pspec 0 0 0xFF
  | 0x4C2 => pspec 0xFF 0 0xFF
  | 0x4C4 => pspec 1 0 1
  | 0x4C5 => pspec 1 0 2
  | 0x4C6 | 0x4C7 => pAny 0
  | 0x4C8 => pspecOr 0xFF 0 8 0xFF
  | 0x4C9 | 0x4CA | 0x4CB | 0x4CC => pAny 0
  | 0x4CD => pspec 0 0 1
  | 0x4CE => pspec 1 0 1
  | 0x4CF => pspecOr 14000 6000 20000 0
  | 0x4D0 => pspecOr 0 600 604800 0
  | 0x4D1 => pspec 0x33 0x03 0xFF
  | 0x4D2 => pspec 0 0 1
  | 0x4D3 => pspec 3 2 4
  | 0x4D4 => pspec 1800 10 86400
  | 0x4D5 => pspecOr 5000 500 600000 0
  | 0x4D6 => pspec 100 0 1000
  | 0x4D7 => pspecOr 1000 100 60000 0
  | _ => .reserved

/-- Time parameters: Table TM-10. -/
def specTime (i : Nat) : PSpec := match i with
  | 0x4E0 => pspec 7 0 7
  | 0x4E1 => pspec 0x1E000000 0 0x1FFFFFFF
  | 0x4E2 => pspec 0 0 100000
  | 0x4E3 => pspec 0 0 1
  | 0x4E4 => pspec 50 10 1000
  | 0x4E5 => pspec 10 1 3600
  | 0x4E6 => pspec 3 2 60
  | 0x4E7 => pspec 2000 200 100000
  | 0x4E8 => pspec 3600 1 86400
  | 0x4E9 => pspec 1 0 1
  | 0x4EA => pspec 37 0 255
  | _ => .reserved

/-- CAN parameters: Tables MB-14 (by bus and offset) and MB-15. -/
def specBus (b o : Nat) : PSpec := match o with
  | 0 => pspec (b + 1) 0 3
  | 1 => pspec 0 0 1
  | 2 => pAny 0x00F1E7C1
  | 3 => pAny 0x00912380
  | 4 => pspecOr 30 1 127 0
  | 5 => pspec 0 0 1
  | 6 => pspec 100 0 10000
  | 7 => pspec 20 1 1000
  | 8 => if b = 1 then pAny 0x00306140 else .reserved
  | 9 => if b = 1 then pspecOr 12 1 127 0 else .reserved
  | 10 => if b = 1 then pspec 1 0 1 else .reserved
  | _ => .reserved

def specCan (i : Nat) : PSpec := match i with
  | 0x520 => pspec 1 0 1
  | 0x521 => pspec 30 0 31
  | 0x522 => pspecOr 1000 100 60000 0
  | 0x523 => pspec 0 0 1
  | 0x524 => pspec 1 0 1
  | 0x528 => pspec 0 0 1
  | 0x529 => pspec 6 0 7
  | 0x52A => pspec 0 0 1
  | 0x52B => pspec 0x7FFF 0 0x7FFF
  | 0x52C | 0x52D => pspec 0 0 255
  | _ => .reserved

/-- Panel, journal and update parameters: Tables PB-8, JR-8, UD-14. -/
def specRest (i : Nat) : PSpec := match i with
  | 0x540 => pspec 1 0 1
  | 0x541 => pspec 1 0 2
  | 0x542 => pspec 5 0 31
  | 0x543 => pspec 2000 0 2000
  | 0x544 => pspec 0 0 1
  | 0x545 => pspec 7 0 0x1F
  | 0x546 => pspec 10 2 100
  | 0x547 => pspec 20 5 1000
  | 0x548 => pspecOr 100 10 1000 0
  | 0x549 => pspec 25 10 100
  | 0x550 | 0x558 => pspec 1 0 1
  | 0x551 | 0x559 => pspecOr 0xFF 0 0x4B 0xFF
  | 0x560 => pspec 0x7FFF 0 0x7FFF
  | 0x561 | 0x562 | 0x563 | 0x564 => pspecOr 0xFFFF 0 0x3FF 0xFFFF
  | 0x565 => pspec 100 20 1000
  | 0x566 => pspec 10 0 50
  | 0x570 => pspec 0 0 1
  | 0x571 => pspec 60 10 540
  | 0x572 => pspec 1 0 1
  | 0x573 => pspec 30 1 240
  | 0x574 => pspec 3 1 3
  | 0x575 => pspec 5 3 10
  | _ => .reserved

/-- The parameter at an index of the 1,536-entry set (Table RF-1). -/
def paramSpec (i : Nat) : PSpec :=
  if i < 0x080 then specFrame i
  else if i < 0x0A0 then specDoors i
  else if i < 0x160 then specDoor ((i - 0x0A0) / 0x60) ((i - 0x0A0) % 0x60)
  else if i < 0x170 then (if i = 0x160 then pspec 1100 500 1100 else .reserved)
  else if i < 0x1B0 then specObst ((i - 0x170) % 0x20)
  else if i < 0x210 then .reserved
  else if i < 0x2D0 then specAxis ((i - 0x210) % 0x30)
  else if i < 0x2F0 then specAxMod ((i - 0x2D0) % 8)
  else if i < 0x300 then specTwin ((i - 0x2F0) % 8)
  else if i < 0x310 then specFieldMod ((i - 0x300) % 8)
  else if i < 0x318 then pspec 1 0 1
  else if i < 0x320 then .reserved
  else if i < 0x3E0 then specFieldChan ((i - 0x320) % 3)
  else if i < 0x400 then .reserved
  else if i = 0x400 then pspec 20 1 100
  else if i < 0x410 then .reserved
  else if i < 0x440 then specLoadChan ((i - 0x410) % 4)
  else if i < 0x4E0 then specPower i
  else if i < 0x500 then specTime i
  else if i < 0x520 then specBus ((i - 0x500) / 0x10) ((i - 0x500) % 0x10)
  else if i < 0x540 then specCan i
  else if i < 0x5C0 then specRest i
  else pAny 0

/-- How many parameters the set has. -/
def paramCount : Nat := 1536

def paramDefault (i : Nat) : Nat := (paramSpec i).dflt

/-- Is the offset axis.a.ref.offset, the one signed parameter? -/
def isSignedParam (i : Nat) : Bool := inRange 0x210 0x2CF i && (i - 0x210) % 0x30 == 0x1F

/-- Does a value lie in its parameter's own range? -/
def paramOk (i v : Nat) : Bool :=
  decide (v < 2 ^ 32) &&
  (if isSignedParam i then decide (-16777216 ≤ signed 32 v) && decide (signed 32 v ≤ 16777215)
   else (paramSpec i).ok v)

/-- Is the index marked reserved (R423)? Every index with no parameter holds only 0. -/
def isReservedParam (i : Nat) : Bool := paramSpec i == PSpec.reserved

/-! ### The stored set -/

/-- The value of a parameter in a set. -/
def paramGet (l : List (Nat × Nat)) (i : Nat) : Nat :=
  match l with
  | [] => paramDefault i
  | (k, v) :: rest => if k = i then v else paramGet rest i

/-- Insert an entry at its place, in rising order. -/
def insertEntry (i v : Nat) : List (Nat × Nat) → List (Nat × Nat)
  | [] => [(i, v)]
  | (k, w) :: rest =>
    if i < k then (i, v) :: (k, w) :: rest
    else if i = k then (i, v) :: rest
    else (k, w) :: insertEntry i v rest

/-- The set with one parameter changed; an entry that equals its default is left out. -/
def paramPut (l : List (Nat × Nat)) (i v : Nat) : List (Nat × Nat) :=
  if v = paramDefault i then l.filter fun e => e.1 ≠ i else insertEntry i v l

/-- The set made of `n` values in index order from index `i`. -/
def paramsFrom (i : Nat) : List Nat → List (Nat × Nat)
  | [] => []
  | v :: vs => if v = paramDefault i then paramsFrom (i + 1) vs else (i, v) :: paramsFrom (i + 1) vs

/-- The canonical form of a set: indices rise, lie in the set, and no entry equals its default. -/
def paramsWf : List (Nat × Nat) → Bool
  | [] => true
  | [(k, v)] => decide (k < paramCount) && decide (v ≠ paramDefault k)
  | (k, v) :: (k', v') :: rest =>
    decide (k < paramCount) && decide (v ≠ paramDefault k) && decide (k < k') && paramsWf ((k', v') :: rest)

/-! ### Names of the parameters -/

def pSlotCode (k : Nat) : Nat := 0x010 + k
def pSlotIssues (k : Nat) : Nat := 0x020 + k
def pDoor (d o : Nat) : Nat := 0x0A0 + 0x60 * d + o
def pObst (d o : Nat) : Nat := 0x170 + 0x20 * d + o
def pAxis (a o : Nat) : Nat := 0x210 + 0x30 * a + o
def pAxMod (a o : Nat) : Nat := 0x2D0 + 8 * a + o
def pTwin (p o : Nat) : Nat := 0x2F0 + 8 * p + o
def pFieldMod (m o : Nat) : Nat := 0x300 + 8 * m + o
def pGroup (g : Nat) : Nat := 0x310 + g
def pFieldChan (c o : Nat) : Nat := 0x320 + 3 * c + o
/-- Load channel 1 to 12. -/
def pLoad (c o : Nat) : Nat := 0x410 + 4 * (c - 1) + o
def pBus (b o : Nat) : Nat := 0x500 + 0x10 * b + o
def pPanelDoor (d o : Nat) : Nat := 0x550 + 8 * d + o

/-! ### Load checks between parameters

Each check answers the indices at which it offends (R309). `g` is the set, `tabs` the stored segment
tables and `custom` whether a custom microstep table is stored, by axis. -/

/-- The indices at which a rule offends, if it fails. -/
def off (fails : Bool) (is : List Nat) : List Nat := if fails then is else []

/-- An input that a doorway or the frame names: index of the parameter, channel, classes that suit it. -/
structure NamedInput where
  index : Nat
  chan : Nat
  std : Bool                        -- class STD suits it
  safe2 : Bool                      -- class SAFE2 suits it
  edge : Bool := false              -- class EDGE suits it
  deriving DecidableEq, Repr

def chanMode (g : Nat → Nat) (c : Nat) : Nat := bits (g (pFieldChan c 0)) 0 2
def chanClass (g : Nat → Nat) (c : Nat) : Nat := bits (g (pFieldChan c 0)) 2 2
def chanFilter (g : Nat → Nat) (c : Nat) : Nat := bits (g (pFieldChan c 0)) 4 5
def chanSuper (g : Nat → Nat) (c : Nat) : Nat := bits (g (pFieldChan c 0)) 9 2
def outParallel (g : Nat → Nat) (c : Nat) : Nat := bits (g (pFieldChan c 1)) 2 3

/-- Field module of a channel. -/
def chanSlot (c : Nat) : Nat := if c < 32 then 11 else 12

/-- A named input: its slot is declared, and its mode and class suit it (R36, R116, R145). -/
def inputOff (g : Nat → Nat) (n : NamedInput) : List Nat :=
  let c := n.chan
  let inMode := chanMode g c == 1 || chanMode g c == 2
  let cls := chanClass g c
  off (g (pSlotCode (chanSlot c)) == 0) [n.index, pSlotCode (chanSlot c)] ++
  off (!(inMode && ((n.std && cls == 0) || (n.safe2 && cls == 2 && c % 2 == 0) || (n.edge && cls == 1))))
    [n.index, pFieldChan c 0]

def dEnabled (g : Nat → Nat) (d : Nat) : Bool := g (pDoor d 0x00) == 1
def twoLeaves (g : Nat → Nat) (d : Nat) : Bool := g (pDoor d 0x02) == 2
def hasStep (g : Nat → Nat) (d : Nat) : Bool := g (pDoor d 0x05) != 0

/-- Inputs of the doorway chapter and the obstacle chapter that a doorway names. -/
def doorInputs (g : Nat → Nat) (d : Nat) : List NamedInput :=
  let proof (o : Nat) : NamedInput := { index := pDoor d o, chan := g (pDoor d o), std := true, safe2 := true }
  let std (o : Nat) : NamedInput := { index := pDoor d o, chan := g (pDoor d o), std := true, safe2 := false }
  let edge (o : Nat) : NamedInput :=
    { index := pObst d o, chan := g (pObst d o), std := false, safe2 := false, edge := true }
  ([proof 0x09, proof 0x0B]
    ++ (if twoLeaves g d then [proof 0x0A, proof 0x0C] else [])
    ++ (if hasStep g d then [proof 0x0D, std 0x0E] else [])
    ++ [{ index := pDoor d 0x0F, chan := g (pDoor d 0x0F), std := false, safe2 := true }, std 0x10, std 0x11,
        edge 0x00, edge 0x01, edge 0x10,
        { index := pObst d 0x02, chan := g (pObst d 0x02), std := true, safe2 := false, edge := true }]).filter
    fun n => n.chan ≠ 0xFF

/-- Channels an input claims: both channels of a SAFE2 pair. -/
def claimed (g : Nat → Nat) (n : NamedInput) : List Nat :=
  if chanClass g n.chan == 2 then [n.chan, n.chan + 1] else [n.chan]

/-- Axes a doorway names, with the naming parameter. -/
def doorAxes (g : Nat → Nat) (d : Nat) : List (Nat × Nat) :=
  ([(pDoor d 0x03, g (pDoor d 0x03))]
    ++ (if twoLeaves g d then [(pDoor d 0x04, g (pDoor d 0x04))] else [])
    ++ (if hasStep g d then [(pDoor d 0x06, g (pDoor d 0x06))] else [])).filter fun p => p.2 ≠ 0xFF

def leafAxes (g : Nat → Nat) (d : Nat) : List Nat :=
  ([g (pDoor d 0x03)] ++ (if twoLeaves g d then [g (pDoor d 0x04)] else [])).filter (· ≠ 0xFF)

/-- Output references a doorway names: warning lamp, chime, intercom indicator (R348). -/
def outputRefs (g : Nat → Nat) (d : Nat) : List (Nat × Nat) :=
  [(pDoor d 0x12, g (pDoor d 0x12)), (pDoor d 0x13, g (pDoor d 0x13)),
   (pPanelDoor d 1, g (pPanelDoor d 1))].filter fun p => p.2 ≠ 0xFF

def lockUsed (g : Nat → Nat) (d : Nat) : Bool := g (pDoor d 0x07) != 0 && g (pDoor d 0x08) != 0xFF

/-- R36 for one doorway. -/
def doorOff (g : Nat → Nat) (d : Nat) : List Nat :=
  if !dEnabled g d then [] else
  let p (o : Nat) := pDoor d o
  let axes := doorAxes g d
  let lock := g (p 0x08)
  let side := if g (p 0x01) = 0 then 0x083 else 0x084
  (axes.flatMap fun x => off (g (pSlotCode (7 + x.2)) == 0) [x.1, pSlotCode (7 + x.2)])
  ++ (axes.flatMap fun x => axes.flatMap fun y => off (decide (x.1 < y.1) && x.2 == y.2) [x.1, y.1])
  ++ ((doorInputs g d).flatMap fun n => inputOff g n)
  ++ ((outputRefs g d).flatMap fun r =>
      if r.2 < 0x40 then
        off (g (pSlotCode (chanSlot r.2)) == 0) [r.1, pSlotCode (chanSlot r.2)]
        ++ off (chanMode g r.2 != 3 || outParallel g r.2 == 7) [r.1, pFieldChan r.2 0, pFieldChan r.2 1]
      else
        off (g (pSlotCode 13) == 0) [r.1, pSlotCode 13]
        ++ off (bits (g (pLoad (r.2 - 0x3F) 0)) 0 2 == 0) [r.1, pLoad (r.2 - 0x3F) 0])
  ++ off (twoLeaves g d && g (p 0x04) == 0xFF) [p 0x02, p 0x04]
  ++ off (g (p 0x09) == 0xFF) [p 0x09] ++ off (g (p 0x0B) == 0xFF) [p 0x0B]
  ++ off (twoLeaves g d && g (p 0x0A) == 0xFF) [p 0x02, p 0x0A]
  ++ off (twoLeaves g d && g (p 0x0C) == 0xFF) [p 0x02, p 0x0C]
  ++ off (g (p 0x07) != 0 && lock == 0xFF) [p 0x07, p 0x08]
  ++ (if lockUsed g d then
        off (g (pSlotCode 13) == 0) [p 0x08, pSlotCode 13]
        ++ off (bits (g (pLoad lock 0)) 0 2 == 0) [p 0x08, pLoad lock 0]
        ++ off (bit (g (pLoad lock 0)) 10) [p 0x08, pLoad lock 0]
        ++ off (bits (g (pLoad lock 0)) 7 2 == 1) [p 0x07, p 0x08, pLoad lock 0]
      else [])
  ++ off (hasStep g d && g (p 0x06) == 0xFF) [p 0x05, p 0x06]
  ++ off (hasStep g d && g (p 0x0D) == 0xFF) [p 0x05, p 0x0D]
  ++ off (g side == 0xFF) [side, p 0x01]

/-- Checks between the two doorways, and of lock channels against output references (R36, R175). -/
def doorsOff (g : Nat → Nat) : List Nat :=
  let both := dEnabled g 0 && dEnabled g 1
  let on (d : Nat) := dEnabled g d
  (if both then
    ((doorAxes g 0).flatMap fun x => (doorAxes g 1).flatMap fun y => off (x.2 == y.2) [x.1, y.1])
    ++ ((doorInputs g 0).flatMap fun x => (doorInputs g 1).flatMap fun y =>
        off ((claimed g x).any fun c => (claimed g y).contains c) [x.index, y.index])
    ++ off (lockUsed g 0 && lockUsed g 1 && g (pDoor 0 0x08) == g (pDoor 1 0x08))
        [pDoor 0 0x08, pDoor 1 0x08]
   else [])
  ++ ([0, 1].flatMap fun d => [0, 1].flatMap fun d' =>
      if on d && lockUsed g d && on d' then
        (outputRefs g d').flatMap fun r => off (r.2 == 0x3F + g (pDoor d 0x08)) [pDoor d 0x08, r.1]
      else [])
  ++ (if on 0 || on 1 then
      let safe2 (i : Nat) : List Nat :=
        if g i = 0xFF then [] else inputOff g { index := i, chan := g i, std := false, safe2 := true }
      safe2 0x083 ++ safe2 0x084 ++ safe2 0x085
      ++ (if g 0x086 = 0xFF then []
          else inputOff g { index := 0x086, chan := g 0x086, std := true, safe2 := false })
     else [])
  ++ ([0, 1].flatMap fun d =>
      off (decide (g (pDoor d 0x15) < g (pDoor d 0x16))) [pDoor d 0x15, pDoor d 0x16])

/-- x_open of R65 in microsteps, for one leaf axis of a doorway, rounded to nearest. -/
def xOpenOf (g : Nat → Nat) (d a : Nat) : Nat :=
  ndiv (256000 * (g (pDoor d 0x15) + g (pDoor d 0x02) * g (pAxis a 0x02)))
    (g (pDoor d 0x02) * g (pAxis a 0x01))

/-- Is axis `a` the lower lane of an enabled twin-lane pair? -/
def isTwin (g : Nat → Nat) (a : Nat) : Bool := a % 2 == 0 && g (pTwin (a / 2) 0) == 1

/-- The stored segment table an axis uses by number. -/
def findTable (ts : List SegTable) (n : Nat) : Option SegTable := ts.find? fun t => t.number == n

/-- R65, R116's masks, R126, R128, R139 for one doorway's leaves and obstacle settings. -/
def leafOff (g : Nat → Nat) (tabs : Nat → List SegTable) (d : Nat) : List Nat :=
  if !dEnabled g d then [] else
  let o (k : Nat) := pObst d k
  (leafAxes g d).flatMap (fun a =>
    let peak := match findTable (tabs a) (g (pAxis a 0x0B)) with
      | some t => tablePeak t.x0 0 t.segs
      | none => 0
    let v := max (256 * g (pAxis a 0x04)) peak
    let um := g (pAxis a 0x01)
    let half := if isTwin g a && g (pTwin (a / 2) 1) == 0 then 2 else 1
    let tooMuch (f : Nat) : Bool := decide (11300 * piNum * g (pAxis a 0x11) * half < 2000 * um * f * piDen)
    off (decide (256 * g (pAxis a 0x03) < xOpenOf g d a))
      [pDoor d 0x02, pDoor d 0x15, pAxis a 0x01, pAxis a 0x02, pAxis a 0x03]
    ++ off (decide (2 * g (o 0x0C) * 10 ^ 9 * 65536 < g (o 0x0D) * (v * um) ^ 2))
      [o 0x0C, o 0x0D, pAxis a 0x01, pAxis a 0x04, pAxis a 0x0B]
    ++ off (tooMuch (g (o 0x0B))) [o 0x0B, pAxis a 0x01, pAxis a 0x11]
    ++ off (tooMuch (g (o 0x0F))) [o 0x0F, pAxis a 0x01, pAxis a 0x11]
    ++ off (decide (g (pAxis a 0x04) < g (o 0x0E))) [o 0x0E, pAxis a 0x04])
  ++ off (decide (g (o 0x0B) < g (o 0x0F))) [o 0x0B, o 0x0F]
  ++ off (!bit (g (o 0x12)) 2 && g (o 0x00) == 0xFF && g (o 0x01) == 0xFF) [o 0x00, o 0x01, o 0x12]
  ++ ([0x00, 0x01, 0x10].flatMap fun k =>
      off (g (o k) != 0xFF && chanMode g (g (o k)) != 1) [o k, pFieldChan (g (o k)) 0])

/-- The motor data of an axis for R225. -/
def motorOf (g : Nat → Nat) (a : Nat) : MotorData :=
  { r := g (pAxis a 0x0F), ke := g (pAxis a 0x11), iAcc := g (pAxis a 0x13), iRun := g (pAxis a 0x12),
    iHold := g (pAxis a 0x14), settle := g (pAxis a 0x16), bridge := g 0x4A6 }

/-- Limits of an axis by use: opening, closing, lock travel, jog, ramp stop. -/
def openLimits (g : Nat → Nat) (a : Nat) : Limits := limitsFs (g (pAxis a 5)) (g (pAxis a 6)) (g (pAxis a 7))
def closeLimits (g : Nat → Nat) (a : Nat) : Limits := limitsFs (g (pAxis a 4)) (g (pAxis a 6)) (g (pAxis a 7))
def lockLimits (g : Nat → Nat) (a : Nat) : Limits := limitsFs (g (pAxis a 0x0D)) (g (pAxis a 6)) (g (pAxis a 7))
def jogLimits (g : Nat → Nat) (a : Nat) : Limits := limitsFs (g (pAxis a 0x22)) (g (pAxis a 6)) (g (pAxis a 7))
def stopLimits (g : Nat → Nat) (a : Nat) : Limits := limitsFs (g (pAxis a 5)) (g (pAxis a 8)) (g (pAxis a 9))

/-- The stow of a step axis from x_dep to 0 (R216), as a plan body. -/
def stowBody (g : Nat → Nat) (tabs : Nat → List SegTable) (a : Nat) : PlanBody :=
  match findTable (tabs a) (g (pAxis a 0x0B)) with
  | some t => .table t.number t.x0 0 t.segs
  | none => .phases (g (pAxis a 3) * fullStep : Nat) 0 0
      (restToRest (closeLimits g a) (-((g (pAxis a 3) * fullStep : Nat) : Int)))

def lanesOf (g : Nat → Nat) (a : Nat) : Nat := if isTwin g a then 2 else 1

/-- R216. -/
def stowOff (g : Nat → Nat) (tabs : Nat → List SegTable) (d : Nat) : List Nat :=
  let a := g (pDoor d 0x06)
  if dEnabled g d && hasStep g d && a != 0xFF then
    off (decide (90000 < predict (g 0x4A0) (g 0x4A1)
        (lanesOf g a * bodyEnergy (motorOf g a) (stowBody g tabs a) true))) [pDoor d 0x05, pDoor d 0x06]
  else []

/-- Checks of one axis: R92, R115 and its stored tables (R76, R309). -/
def axisOff (g : Nat → Nat) (tabs : Nat → List SegTable) (custom : Nat → Bool) (a : Nat) : List Nat :=
  let p (o : Nat) := pAxis a o
  let stored (n : Nat) := (findTable (tabs a) n).isSome
  let vMax := max (g (p 4)) (g (p 5))
  let lo : Int := -(256 * (g (p 0x0C) : Int))
  let hi : Int := 256 * (g (p 3) : Int)
  off (decide (g (p 0x12) < g (p 0x14))) [p 0x12, p 0x14]
  ++ off (decide (g (p 0x1D) < g (p 0x1E))) [p 0x1D, p 0x1E]
  ++ off (g (p 0x0E) == 1 && !custom a) [p 0x0E]
  ++ off (g (p 0x0A) != 0xFF && !stored (g (p 0x0A))) [p 0x0A]
  ++ off (g (p 0x0B) != 0xFF && !stored (g (p 0x0B))) [p 0x0B]
  ++ off (g (pAxMod a 0) != 0 && g (pAxMod a 1) == 0) [pAxMod a 0, pAxMod a 1]
  ++ off (g (pAxMod a 5) != 0 && g (pAxMod a 0) == 0) [pAxMod a 0, pAxMod a 5]
  ++ (tabs a).flatMap fun t =>
      off (!(inTravel lo hi t.x0)) [p 3, p 0x0C] ++
      (match segsCheck lo hi vMax (g (p 6)) (g (p 7)) 0 t.x0 0 t.segs with
      | some (_, .position) => [p 3, p 0x0C]
      | some (_, .accel) => [p 6]
      | some (_, .jerk) => [p 7]
      | some (_, .speed) => [p 4, p 5]
      | _ => [])

/-- R107 for one pair. -/
def twinOff (g : Nat → Nat) (k : Nat) : List Nat :=
  let lo := 2 * k
  let hi := 2 * k + 1
  if g (pTwin k 0) ≠ 1 then [] else
  off (g (pSlotCode (7 + lo)) != 5) [pSlotCode (7 + lo), pTwin k 0]
  ++ off (g (pSlotCode (7 + hi)) != 5) [pSlotCode (7 + hi), pTwin k 0]
  ++ ([0, 1].flatMap fun d => if dEnabled g d then
      (doorAxes g d).flatMap fun x => off (x.2 == hi) [x.1, pTwin k 0] else [])
  ++ off (g (pTwin k 1) == 1 && (g (pAxMod lo 1) != g (pAxMod hi 1) || g (pAxMod lo 4) != g (pAxMod hi 4)))
      [pTwin k 1, pAxMod lo 1, pAxMod hi 1, pAxMod lo 4, pAxMod hi 4]
  ++ off (decide (12000 < g (pAxis lo 0x13))) [pAxis lo 0x13]

/-- Is the channel a member of a complete paralleled set, and not its lead (R155)? -/
def hasLead (g : Nat → Nat) (c : Nat) : Bool :=
  [1, 2, 3].any fun k => decide (k ≤ c) && decide ((c - k) / 8 = c / 8) && chanMode g (c - k) == 3 &&
    decide (k < outParallel g (c - k)) && decide (outParallel g (c - k) ≤ 4) &&
    (List.range k).all fun i => outParallel g (c - i) == 7 && chanMode g (c - i) == 3

/-- R145, R155 and the bit tables FI-12 to FI-14 for one channel. -/
def fieldChanOff (g : Nat → Nat) (c : Nat) : List Nat :=
  let iIn := pFieldChan c 0
  let iOut := pFieldChan c 1
  let iWr := pFieldChan c 2
  let mode := chanMode g c
  let cls := chanClass g c
  let other := if c % 2 = 0 then c + 1 else c - 1
  let isIn := mode == 1 || mode == 2
  let par := outParallel g c
  let wr := g iWr
  off (cls == 3 || chanSuper g c == 3 || decide (2 ^ 13 ≤ g iIn)) [iIn]
  ++ off (bits (g iOut) 0 2 == 3 || par == 1 || par == 5 || par == 6 || bits (g iOut) 6 2 != 0
      || decide (2 ^ 16 ≤ g iOut)) [iOut]
  ++ off (decide (2 ^ 24 ≤ wr)) [iWr]
  ++ off (cls == 1 && !isIn) [iIn]
  ++ off (cls == 2 && chanClass g other != 2) [iIn, pFieldChan other 0]
  ++ off (cls == 2 && chanClass g other == 2 &&
      (chanMode g other != mode || chanFilter g other != chanFilter g c || chanSuper g other != chanSuper g c))
      [iIn, pFieldChan other 0]
  ++ off (chanSuper g c != 0 && mode != 1) [iIn]
  ++ off (isIn && cls != 1 && !inRange 1 20 (chanFilter g c)) [iIn]
  ++ off (mode == 2 && (!([24, 36, 48, 72, 96, 110].contains (bits wr 0 8)) || !inRange 30 90 (bits wr 8 8)
      || !inRange 10 80 (bits wr 16 8) || decide (bits wr 8 8 < bits wr 16 8 + 10))) [iWr]
  ++ off (mode == 3 && decide (100 < bits (g iOut) 8 8)) [iOut]
  ++ off (mode == 3 && inRange 2 4 par &&
      !((List.range (par - 1)).all fun k => decide ((c + k + 1) / 8 = c / 8) && chanMode g (c + k + 1) == 3
        && outParallel g (c + k + 1) == 7))
      (iIn :: iOut :: (List.range (par - 1)).flatMap fun k => [pFieldChan (c + k + 1) 0, pFieldChan (c + k + 1) 1])
  ++ off (mode == 3 && par == 7 && !hasLead g c) [iOut]

/-- Table LS-14 for one load channel. -/
def loadChanOff (g : Nat → Nat) (c : Nat) : List Nat :=
  let v := g (pLoad c 0)
  off (decide (2 ≤ bits v 0 2) || decide (6 ≤ bits v 2 3) || bits v 5 2 == 3 || bits v 7 2 == 3
    || decide (2 ^ 12 ≤ v)) [pLoad c 0]

/-! CAN timing words (Table MB-2). -/

def twPresc (w : Nat) : Nat := bits w 0 5 + 1
def twSeg1 (w : Nat) : Nat := bits w 5 8 + 1
def twSeg2 (w : Nat) : Nat := bits w 13 7 + 1
def twSjw (w : Nat) : Nat := bits w 20 7 + 1
def twBit (w : Nat) : Nat := 1 + twSeg1 w + twSeg2 w
def twPhase (w : Nat) : Nat := min (twSeg1 w) (twSeg2 w)

/-- A timing word breaks its own rules (R314): fields, sample point, SJW. -/
def wordBad (nominal : Bool) (w : Nat) : Bool :=
  let s1 := twSeg1 w
  let s2 := twSeg2 w
  (if nominal then decide (s1 < 2) || decide (s2 < 2)
   else decide (32 < s1) || decide (16 < s2) || decide (16 < twSjw w))
  || decide (2 ^ 27 ≤ w)
  || decide (100 * (1 + s1) < 50 * twBit w) || decide (95 * twBit w < 100 * (1 + s1))
  || decide (s2 < twSjw w)

/-- Is num / den below 0.10 %? -/
def below01 (num den : Nat) : Bool := decide (num * 1000 < den)

/-- The switching condition of R314 for a data or XL word against the nominal word. -/
def switchBad (n w : Nat) : Bool :=
  below01 (twPhase n * twPresc n)
    (2 * ((6 * twBit w - twSeg2 w) * twPresc w + 7 * twBit n * twPresc n))

/-- R312, R314, R317 for one bus. -/
def busOff (g : Nat → Nat) (b : Nat) : List Nat :=
  let m := g (pBus b 0)
  let n := g (pBus b 2)
  let word (i : Nat) : List Nat :=
    off (wordBad false (g i) || below01 (twSjw (g i)) (20 * twBit (g i))) [i]
    ++ off (switchBad n (g i)) [pBus b 2, i]
  off (b == 0 && m == 3) [pBus 0 0]
  ++ (if m = 0 then [] else
      off (wordBad true n || below01 (twPhase n) (2 * (13 * twBit n - twSeg2 n))
        || below01 (twSjw n) (20 * twBit n)) [pBus b 2])
  ++ (if 2 ≤ m then word (pBus b 3) else [])
  ++ (if m = 3 ∧ b = 1 then
      word (pBus 1 8)
      ++ off (g (pBus 1 10) == 0 && decide (twPresc (g (pBus 1 8)) * twBit (g (pBus 1 8)) < 16))
          [pBus 1 0, pBus 1 8, pBus 1 10]
     else [])

/-- R184, R209, R236, R259, R338, R341, R351, R376. -/
def otherOff (g : Nat → Nat) : List Nat :=
  ([0, 1].flatMap fun k =>
    let un := g (0x480 + k)
    off ((g (pSlotCode k) == 1 && !([24, 36, 48].contains un))
      || (g (pSlotCode k) == 2 && !([72, 96, 110].contains un))) [pSlotCode k, 0x480 + k])
  ++ off (g 0x482 != 0 && g 0x030 == 0) [0x030, 0x482]
  ++ off (decide (g 0x4A4 ≤ g 0x4A3)) [0x4A3, 0x4A4]
  ++ ([0x4A7, 0x4A8].flatMap fun i => off (g i != 0 && g 0x030 == 0) [0x030, i])
  ++ off (bits (g 0x4D1) 0 2 != 3) [0x4D1]
  ++ off (g 0x528 == 1 && decide (g (pBus 1 0) < 2)) [pBus 1 0, 0x528]
  ++ off (g 0x52A == 1 && g (pBus 1 0) != 3) [pBus 1 0, 0x52A]
  ++ off (g 0x541 != 0 && decide (g 0x542 < 3)) [0x541, 0x542]
  ++ off (g 0x541 == 2 && decide (12 < g 0x542)) [0x541, 0x542]
  ++ off (g 0x541 == 0 && decide (g 0x546 < 10)) [0x541, 0x546]
  ++ off (g 0x528 == 1 && bits (g 0x4E1) 26 3 == g 0x529) [0x4E1, 0x528, 0x529]

/-- Every index at which a set offends: own ranges first, then the rules between parameters. -/
def setOffences (g : Nat → Nat) (tabs : Nat → List SegTable) (custom : Nat → Bool) : List Nat :=
  ((List.range paramCount).filter fun i => !paramOk i (g i))
  ++ doorOff g 0 ++ doorOff g 1 ++ doorsOff g
  ++ leafOff g tabs 0 ++ leafOff g tabs 1 ++ stowOff g tabs 0 ++ stowOff g tabs 1
  ++ ((List.range 4).flatMap fun a => axisOff g tabs custom a)
  ++ twinOff g 0 ++ twinOff g 1
  ++ ((List.range 64).flatMap fun c => fieldChanOff g c)
  ++ ((List.range 12).flatMap fun c => loadChanOff g (c + 1))
  ++ busOff g 0 ++ busOff g 1 ++ otherOff g

/-- The first offending index of a set (R309): the lowest; none where every rule holds. -/
def firstOffence (g : Nat → Nat) (tabs : Nat → List SegTable) (custom : Nat → Bool) : Option Nat :=
  (setOffences g tabs custom).min?

end Sys2Proof.Machine
end

