-- ==== Sys2Proof/Machine/Ops.lean ====
section
/-!
DEFINITION. The named operations over the state: reading parameters, changing one sub-structure, claims,
events, completions and journal staging. Every meaning goes through them.
-/

namespace Sys2Proof.Machine

/-! ### One element of a vector -/

/-- Change one element. -/
def updV {α : Type} {n : Nat} (v : Vector α n) (i : Fin n) (f : α → α) : Vector α n := v.set i (f v[i])

/-- Change every element by its index. -/
def mapV {α : Type} {n : Nat} (v : Vector α n) (f : Fin n → α → α) : Vector α n :=
  Vector.ofFn fun i => f i v[i]

/-! ### Parameters and times -/

def State.param (s : State) (i : Nat) : Nat := paramGet s.params i
def State.tables (s : State) (a : Nat) : List SegTable :=
  match asFin 4 a with
  | some k => s.axes[k].tables
  | none => []
def State.hasCustom (s : State) (a : Nat) : Bool :=
  match asFin 4 a with
  | some k => s.axes[k].custom.isSome || s.axes[k].customNext.isSome
  | none => false

def msec : Nat := 1000000
def usec : Nat := 1000
/-- A tick in ns. -/
def tickNs : Nat := 50000

/-- Time since an instant of the frame's clock. -/
def State.since (s : State) (t : Nat) : Nat := s.now - t

/-- Frame time at the TICK edge, TAI ns (R356). -/
def State.tai (s : State) : Nat := s.time.te / 10 ^ 9

/-- The low 16 bits of the tick number (Table FR-3). -/
def State.tick16 (s : State) : Nat := s.tick.toNat % 65536

def qualityCode : Quality → Nat
  | .locked => 0 | .holdover => 1 | .free => 2

def tierCode : Tier → Nat
  | .none => 0 | .evacuation => 1 | .restricted => 2 | .revenue => 3

/-- Door identity of a doorway (R35). -/
def State.doorId (s : State) (d : Nat) : Nat := 2 * s.param 0x080 + d

/-- The active core; C0 where none is active. -/
def State.activeCore (s : State) : CoreId := if s.pair.core[(1 : Fin 2)].active then 1 else 0
def State.anyActive (s : State) : Bool := s.pair.core[(0 : Fin 2)].active || s.pair.core[(1 : Fin 2)].active
def State.standbyCore (s : State) : CoreId := otherCore s.activeCore

/-- Is a slot's module in service? -/
def State.inService (s : State) (k : Slot) : Bool := s.frame.slots[k].inService

/-- Declared code of a slot. -/
def State.declared (s : State) (k : Slot) : Nat := s.param (pSlotCode k.val)

/-- A fresh free value (log 2): the value, and the state with the counter advanced. -/
def State.fresh (s : State) : Nat × State := (Config.freeNat s.free, { s with free := s.free + 1 })

/-! ### Changing one sub-structure -/

def State.modSlot (s : State) (k : Slot) (f : SlotSt → SlotSt) : State :=
  { s with frame := { s.frame with slots := updV s.frame.slots k f } }
def State.modDoor (s : State) (d : Doorway) (f : DoorSt → DoorSt) : State :=
  { s with doors := { s.doors with door := updV s.doors.door d f } }
def State.modObst (s : State) (d : Doorway) (f : ObstSt → ObstSt) : State :=
  { s with obst := updV s.obst d f }
def State.modAxis (s : State) (a : Axis) (f : AxisSt → AxisSt) : State :=
  { s with axes := updV s.axes a f }
def State.modAxMod (s : State) (a : Axis) (f : AxModSt → AxModSt) : State :=
  { s with axMods := updV s.axMods a f }
def State.modChan (s : State) (c : Chan) (f : ChanSt → ChanSt) : State :=
  { s with field := { s.field with chan := updV s.field.chan c f } }
def State.modFieldMod (s : State) (m : Fin 2) (f : FieldModSt → FieldModSt) : State :=
  { s with field := { s.field with mods := updV s.field.mods m f } }
def State.modGroup (s : State) (g : Group) (f : GroupSt → GroupSt) : State :=
  { s with field := { s.field with group := updV s.field.group g f } }
def State.modLoad (s : State) (c : LoadCh) (f : LoadChSt → LoadChSt) : State :=
  { s with load := { s.load with chan := updV s.load.chan c f } }
def State.modPm (s : State) (p : Fin 2) (f : PmSt → PmSt) : State :=
  { s with supply := { s.supply with pm := updV s.supply.pm p f } }
def State.modSink (s : State) (c : CoreId) (f : SinkSt → SinkSt) : State :=
  { s with supply := { s.supply with sinks := updV s.supply.sinks c f } }
def State.modEnergy (s : State) (f : EnergySt → EnergySt) : State := { s with energy := f s.energy }
def State.modPower (s : State) (f : PowerSt → PowerSt) : State := { s with power := f s.power }
def State.modPair (s : State) (f : PairSt → PairSt) : State := { s with pair := f s.pair }
def State.modCore (s : State) (c : CoreId) (f : CoreSt → CoreSt) : State :=
  { s with pair := { s.pair with core := updV s.pair.core c f } }
def State.modPort (s : State) (p : PortId) (f : PortSt → PortSt) : State :=
  { s with ports := updV s.ports p f }
def State.modCan (s : State) (f : CanSt → CanSt) : State := { s with can := f s.can }
def State.modPanel (s : State) (f : PanelSt → PanelSt) : State := { s with panel := f s.panel }
def State.modTime (s : State) (f : TimeSt → TimeSt) : State := { s with time := f s.time }
def State.modJournal (s : State) (f : JournalSt → JournalSt) : State := { s with journal := f s.journal }
def State.modNand (s : State) (c : CoreId) (f : NandSt → NandSt) : State :=
  { s with journal := { s.journal with nand := updV s.journal.nand c f } }
def State.modUpdate (s : State) (f : UpdateSt → UpdateSt) : State := { s with update := f s.update }
def State.modFirm (s : State) (k : Slot) (f : FirmSt → FirmSt) : State :=
  { s with update := { s.update with firm := updV s.update.firm k f } }
def State.modSession (s : State) (c : CoreId) (f : SessionSt → SessionSt) : State :=
  { s with update := { s.update with session := updV s.update.session c f } }

/-- Run an operation over a list, in order. -/
def State.each {α : Type} (s : State) (l : List α) (f : State → α → State) : State := l.foldl f s

/-- Apply an operation where a condition holds. -/
def State.when (s : State) (b : Bool) (f : State → State) : State := if b then f s else s

/-! ### Rings of a port (R290, R296, R300, R332, R415) -/

/-- log2 size of a ring from its RING_CFG. -/
def Ring.log2 (r : Ring) : Nat := bits r.cfg.toNat 0 4
def Ring.enabled (r : Ring) : Bool := r.cfg.getLsbD 4
def Ring.size (r : Ring) : Nat := 2 ^ r.log2

/-- Is it a port whose rings the frame keeps itself: P2 or P4? -/
def ownRings (p : PortId) : Bool := p == 2 || p == 3

/-- Entries that may still be written to completion ring `q`. -/
def PortSt.cqRoom (t : PortSt) (own : Bool) (q : Fin 16) : Nat :=
  if own then (if q = 0 then 64 - t.cqEntries[q].length else 0)
  else if t.cq[q].enabled && !t.cq[q].error then t.cq[q].size - 1 - t.cqEntries[q].length else 0

/-- Entries that may still be written to the event ring. -/
def PortSt.evRoom (t : PortSt) (own : Bool) : Nat :=
  if own then 256 - t.evqEntries.length
  else if t.evq.enabled && !t.evq.error then t.evq.size - 1 - t.evqEntries.length else 0

/-- Advance a device index, the phase changing at each wrap (R296). -/
def Ring.advance (r : Ring) (own : Bool) : Ring :=
  let size := if own then 4096 else r.size
  let next := (r.dev + 1) % size
  { r with dev := next, phase := if next = 0 then !r.phase else r.phase }

/-- Write one completion to its ring. -/
def PortSt.putCompletion (t : PortSt) (own : Bool) (now : Nat) (c : Completion) : PortSt :=
  let q : Fin 16 := ⟨c.cq.toNat, by have := c.cq.isLt; omega⟩
  let sq : Fin 16 := ⟨c.sq.toNat, by have := c.sq.isLt; omega⟩
  let ring := t.cq[q]
  let entry := { c with phase := ring.phase, sqHead := t.sq[sq].dev }
  let counted := if c.noIrq then ring else
    { ring with unsignalled := ring.unsignalled + 1,
                firstUnsignalled := if ring.unsignalled = 0 then now else ring.firstUnsignalled }
  { t with
    cqEntries := updV t.cqEntries q fun l => l ++ [entry],
    cq := updV t.cq q fun _ => counted.advance own,
    statusWrites := 1 }

/-- Write one event to the event ring. -/
def PortSt.putEvent (t : PortSt) (own : Bool) (now : Nat) (e : Event) : PortSt :=
  let ring := t.evq
  let counted := { ring with unsignalled := ring.unsignalled + 1,
                             firstUnsignalled := if ring.unsignalled = 0 then now else ring.firstUnsignalled }
  { t with
    evqEntries := t.evqEntries ++ [{ e with phase := ring.phase }],
    evq := counted.advance own, statusWrites := 1 }

/-- A completion lets go of its reservation (R300), of its ring first. -/
def PortSt.unreserve (t : PortSt) (q : Fin 16) (ring : Bool) : PortSt :=
  if ring && t.cq[q].reserved != 0 || t.laybyReserved == 0 then
    { t with cq := updV t.cq q fun r => { r with reserved := r.reserved - 1 } }
  else { t with laybyReserved := t.laybyReserved - 1 }

/-- Hand a completion to the port: to its ring where there is room and nothing older for the ring
waits, otherwise to the lay-by (R300, R304). -/
def PortSt.deliver (t : PortSt) (own : Bool) (now : Nat) (c : Completion) : PortSt :=
  let q : Fin 16 := ⟨c.cq.toNat, by have := c.cq.isLt; omega⟩
  if t.running && decide (0 < t.cqRoom own q) && !(t.laybyCq.any fun k => k.cq == c.cq) then
    (t.unreserve q true).putCompletion own now c
  else
    let u := t.unreserve q false
    { u with laybyCq := u.laybyCq ++ [{ c with viaLayby := true }] }

/-- Hand an event to the port: event ring, lay-by of 256, or dropped and counted (R302). -/
def PortSt.deliverEvent (t : PortSt) (own : Bool) (now : Nat) (e : Event) : PortSt :=
  if t.running && decide (0 < t.evRoom own) && t.laybyEv.isEmpty then t.putEvent own now e
  else if t.laybyEv.length < 256 then { t with laybyEv := t.laybyEv ++ [{ e with viaLayby := true }] }
  else
    { t with
      evDropped := if t.evDropped = 0xFFFFFFFF then t.evDropped else t.evDropped + 1,
      dropRun := t.dropRun + 1,
      dropFirst := if t.dropRun = 0 then e.dseq else t.dropFirst }

/-! ### Events -/

/-- The range of an event code, and so its filter bit (Table RF-3). -/
def evRange (code : Nat) : Nat :=
  if code < 0x040 then 0 else if code < 0x0C0 then 1 else if code < 0x140 then 2
  else if code < 0x240 then 3 else if code < 0x2A0 then 4 else if code < 0x2E0 then 5
  else if code < 0x320 then 6 else if code < 0x340 then 7 else if code < 0x360 then 8
  else if code < 0x380 then 9 else if code < 0x3C0 then 10 else if code < 0x3D0 then 11
  else if code < 0x3E0 then 12 else if code < 0x3F0 then 13 else 14

/-- Does the port create an event of this code (R302)? P2's filter is mb.p2.ev_filter (R332). -/
def State.createsEvent (s : State) (p : PortId) (code : BitVec 10) : Bool :=
  let n := evRange code.toNat
  if p = 2 then s.param 0x528 == 1 && bit (s.param 0x52B) n
  else s.ports[p].evFilter.getLsbD n

/-- Create an event on one port: it takes the next dseq, and it is held while the standby has yet to
acknowledge the tick (R267). -/
def State.portEvent (s : State) (p : PortId) (code : BitVec 10) (stamp : Nat) (data : List Byte) : State :=
  if s.createsEvent p code then
    let t := s.ports[p]
    let e : Event :=
      { code := code, core := BitVec.ofNat 1 s.activeCore.val, dseq := t.dseqNext,
        hseqMark := t.hseqConsumed, stamp := stamp, err := s.time.err, data := data.take 8 }
    let s' := s.modPort p fun t => { t with dseqNext := t.dseqNext + 1 }
    if s.pair.standby = .inStep then
      s'.modPair fun q => { q with heldEvents := q.heldEvents ++ [(q.mseq + 1, p, e)] }
    else s'.modPort p fun t => t.deliverEvent (ownRings p) s.now e
  else s

/-- The events that always enter staging, and as priority records (R137, R380). -/
def alwaysStaged (code : BitVec 10) : Bool :=
  [Ev.OB_PERSISTENT, Ev.OB_EDGE_FAULT, Ev.OB_GRID_FAULT, Ev.OB_RELAY_WELD].contains code

/-- Records staged. -/
def JournalSt.staged (j : JournalSt) : Nat := j.stagedPrio.length + j.stagedOrd.length

/-- A record with the common header of Table JR-1; its number comes with its page image (R381). -/
def State.mkRecord (s : State) (priority : Bool) (stamp : Nat) (body : RecBody) (note : Option Req) : Record :=
  { byC1 := s.activeCore == 1, priority := priority, quality := qualityCode s.time.quality,
    stamp := stamp, err := s.time.err, frameId := s.param 0x080,
    startCount := s.journal.startCount.toNat, body := body, noteFor := note }

/-- Place a record in staging (R137, R380). -/
def State.stage (s : State) (r : Record) : State :=
  s.modJournal fun j =>
    if r.priority then { j with stagedPrio := j.stagedPrio ++ [r] }
    else { j with stagedOrd := j.stagedOrd ++ [r] }

/-- Offer an event to staging (R137, R380): not when its range or code is excluded, and not while 448
or more records are staged unless it always enters. -/
def State.stageEvent (s : State) (code : BitVec 10) (stamp : Nat) (items : List Item) : State :=
  let always := alwaysStaged code
  let wanted := bit (s.param 0x560) (evRange code.toNat) &&
    !([0x561, 0x562, 0x563, 0x564].any fun i => s.param i == code.toNat)
  if !(always || wanted) then s
  else if !always && decide (448 ≤ s.journal.staged) then
    s.modJournal fun j => { j with
      unstaged := j.unstaged + 1,
      unstagedFirst := if j.unstaged = 0 then stamp else j.unstagedFirst,
      unstagedLast := stamp }
  else s.stage (s.mkRecord always stamp
    (.event code (BitVec.ofNat 1 s.activeCore.val) (items.take 20)) none)

/-- The events sent as FAULT messages and entered in the panel's summary (R337, Table PB-1). -/
def isFaultEvent (code : BitVec 10) : Bool :=
  [Ev.FR_TIER_CHANGE, Ev.DW_LOCK_LOST, Ev.DW_TIMEOUT, Ev.DW_EMERGENCY_HANDLE, Ev.OB_PERSISTENT,
   Ev.OB_RELAY_WELD, Ev.EN_STRANDED, Ev.CP_CORE_FAULT, Ev.CP_TAKEOVER, Ev.SU_SUPPLY_LOSS].contains code

/-- The fault events that belong to a doorway: their first item is a door identity. -/
def isDoorFault (code : BitVec 10) : Bool :=
  [Ev.DW_LOCK_LOST, Ev.DW_TIMEOUT, Ev.DW_EMERGENCY_HANDLE, Ev.OB_PERSISTENT, Ev.EN_STRANDED].contains code

/-- Identifier of a fallback message of one type (R334). -/
def State.fallbackId (s : State) (type : Nat) : BitVec 29 :=
  BitVec.ofNat 29 (s.param 0x521 * 2 ^ 24 + type * 2 ^ 21 + s.param 0x080 * 2 ^ 10)

/-- Queue one of the frame's own frames for transmission. -/
def State.sendOwn (s : State) (tag : Nat) (bus : Bus) (f : CanFrame) : State :=
  s.modCan fun c => { c with tx := c.tx ++ [{ owner := .own tag, bus := bus, frame := f, mark := s.pair.mseq + 1 }] }

/-- Send a fallback message on bus D while mb.fb.enable is 1 (R334). -/
def State.sendFallback (s : State) (type : Nat) (data : List Byte) : State :=
  if s.param 0x520 = 1 then
    s.sendOwn 0 .d { fmt := 0, ide := true, id := s.fallbackId type, data := data }
  else s

/-- FAULT message of an event (R337, Table MB-12), at most 10 per second; further faults are counted
for the next one. -/
def State.sendFault (s : State) (code : BitVec 10) (door : Nat) (data : List Byte) : State :=
  let fresh := decide (sec ≤ s.since s.can.faultsFrom)
  let sent := if fresh then 0 else s.can.faultsSent
  let s1 := s.modCan fun c => { c with
    faultsFrom := if fresh then s.now else c.faultsFrom, faultsSent := sent }
  if sent < 10 then
    (s1.sendFallback 3 (leBytes 2 code.toNat ++ leBytes 1 door ++ leBytes 1 (tierCode s.frame.frameTier)
        ++ (if s.can.faultsMissed = 0 then slice data 0 4
            else slice data 0 3 ++ leBytes 1 (min s.can.faultsMissed 255)))).modCan fun c =>
      { c with faultsSent := sent + 1, faultsMissed := 0 }
  else s1.modCan fun c => { c with faultsMissed := c.faultsMissed + 1 }

/-- A fault enters the panel's summary (Tables PB-1, PB-3). -/
def PanelSt.enterFault (p : PanelSt) (code : BitVec 10) (door tier : Nat) (data : List Byte) (tai : Nat) : PanelSt :=
  { p with
    faultCount := if p.faultCount = 0xFF then p.faultCount else p.faultCount + 1,
    faultSeq := p.faultSeq + 1, faultCode := BitVec.ofNat 16 code.toNat, faultDoor := BitVec.ofNat 8 door,
    faultTier := BitVec.ofNat 8 tier, faultData := slice data 0 4, faultTai := tai % 2 ^ 48,
    reqFlags := p.reqFlags ||| 0x04 }

/-- Raise an event once: to every port that passes it, to staging, and as a fault. -/
def State.raiseOnce (s : State) (code : BitVec 10) (stamp : Nat) (items : List Item) : State :=
  let data := packItems items
  let s1 := (((s.portEvent 0 code stamp data).portEvent 1 code stamp data).portEvent 2 code stamp data).portEvent
    3 code stamp data
  let s2 := s1.stageEvent code stamp items
  if isFaultEvent code then
    let door := if isDoorFault code then byteAt data 0 % 2 else 0xF
    (s2.sendFault code door data).modPanel fun p =>
      p.enterFault code door (tierCode s.frame.frameTier) data stamp
  else s2

/-- Raise an event at a stamp; JR_STAGING_HIGH follows where staging reaches 448 (R137). -/
def State.raiseAt (s : State) (code : BitVec 10) (stamp : Nat) (items : List Item) : State :=
  let s1 := s.raiseOnce code stamp items
  if decide (448 ≤ s1.journal.staged) && !s1.journal.highRaised then
    (s1.modJournal fun j => { j with highRaised := true }).raiseOnce Ev.JR_STAGING_HIGH stamp
      [.u16 s1.journal.staged]
  else s1

/-- Raise an event at the TICK edge. -/
def State.raise (s : State) (code : BitVec 10) (items : List Item) : State := s.raiseAt code s.tai items

/-! ### Completions -/

/-- HR_LAYBY at a change: 1 the completion lay-by in use, 2 fetching stopped, 0 cleared (R300). -/
def State.noteLayby (s : State) (p : PortId) : State :=
  let t := s.ports[p]
  let v := if t.fetchStopped then 2 else if t.laybyCq.isEmpty then 0 else 1
  if v = t.laybyRaised then s
  else (s.modPort p fun t => { t with laybyRaised := v }).raise Ev.HR_LAYBY [.u8 (portNum p), .u8 v]

/-- Write or hold a completion on a port; it takes the next dseq and is kept for replay (R302, R303). -/
def State.emit (s : State) (p : PortId) (c : Completion) : State :=
  let t := s.ports[p]
  let c' := { c with dseq := t.dseqNext }
  let s1 := s.modPort p fun t =>
    { t with dseqNext := t.dseqNext + 1, kept := (c' :: t.kept).take 256 }
  if s.pair.standby = .inStep then
    s1.modPair fun q => { q with heldCompletions := q.heldCompletions ++ [(q.mseq + 1, p, c')] }
  else (s1.modPort p fun t => t.deliver (ownRings p) s.now c').noteLayby p

/-- Complete a request (Table HR-13). A request of SV, TL or P3 has no completion. -/
def State.complete (s : State) (r : Req) (opcode : BitVec 15) (status : Byte) (detail : Nat)
    (result : List Byte) : State :=
  match portOf r.party with
  | none => s
  | some p => s.emit p
      { opcode := opcode, status := status, sq := r.sq, cq := r.cq, hseq := r.hseq, dseq := 0,
        core := BitVec.ofNat 1 s.activeCore.val, noIrq := r.noIrq, detail := BitVec.ofNat 32 detail,
        result := slice result 0 12 }

def State.ok (s : State) (r : Req) (opcode : BitVec 15) (result : List Byte) : State :=
  s.complete r opcode ST_OK 0 result

def State.fail (s : State) (r : Req) (opcode : BitVec 15) (status : Byte) (detail : Nat) : State :=
  s.complete r opcode status detail []

/-- Complete every request of a list alike. -/
def State.completeAll (s : State) (rs : List Req) (opcode : BitVec 15) (status : Byte) (detail : Nat)
    (result : List Byte) : State :=
  s.each rs fun s r => s.complete r opcode status detail result

/-- Is mirror frame `mark` at or before `ack`? -/
def ackedBy (ack mark : BitVec 32) : Bool := decide (0 ≤ (ack - mark).toInt)

/-- Release the held outputs that a test names, completions before events (R267). -/
def State.releaseIf (s : State) (f : BitVec 32 → Bool) : State :=
  let cs := s.pair.heldCompletions.filter fun c => f c.1
  let es := s.pair.heldEvents.filter fun e => f e.1
  let s1 := s.modPair fun q => { q with
    heldCompletions := q.heldCompletions.filter fun c => !f c.1, heldEvents := q.heldEvents.filter fun e => !f e.1 }
  let s2 := s1.each cs fun s c =>
    (s.modPort c.2.1 fun t => t.deliver (ownRings c.2.1) s.now c.2.2).noteLayby c.2.1
  s2.each es fun s e => s.modPort e.2.1 fun t => t.deliverEvent (ownRings e.2.1) s.now e.2.2

/-- Release everything held for the standby's acknowledgement (R267). -/
def State.releaseHeld (s : State) : State := s.releaseIf fun _ => true

/-! ### Claims (R57, R59, R60, Table DW-7) -/

def State.ownerOf (s : State) (r : Resource) : Option Party :=
  (s.doors.claims.find? fun c => c.1 == r).map Prod.snd

/-- Resource code of R308. -/
def resourceCode : Resource → Nat
  | .doorway d => 1 + 256 * d
  | .axis a => 2 + 256 * a
  | .field c => 3 + 256 * c
  | .load c => 4 + 256 * c
  | .paramSet => 5
  | .reader n => 6 + 256 * n

/-- Change the owner of a resource and raise DW_CLAIM: resource, old owner, new owner, reason (log 17: 0
a request, 1 port down, 2 TL takes it, 3 shut-down or low-power entry, 4 session ended). A doorway left
without an owner starts TL's takeover time (R57). -/
def State.setOwner (s : State) (r : Resource) (p : Option Party) (reason : Nat) : State :=
  let old := s.ownerOf r
  if old = p then s
  else
    let rest := s.doors.claims.filter fun c => !(c.1 == r)
    let s1 := { s with doors := { s.doors with claims := match p with
      | none => rest
      | some q => (r, q) :: rest } }
    let s2 := match r, p with
      | .doorway n, none => (match asFin 2 n with
        | some d => s1.modDoor d fun x => { x with tlFrom := s.now }
        | none => s1)
      | _, _ => s1
    s2.raise Ev.DW_CLAIM [.u32 (resourceCode r), .u8 (partyCode old), .u8 (partyCode p), .u8 reason]

/-- All claims of a party, oldest last. -/
def State.claimsOf (s : State) (p : Party) : List Resource :=
  (s.doors.claims.filter fun c => c.2 == p).map Prod.fst

/-- A reader's cursor is lost when its claim is released (R390). -/
def State.dropCursor (s : State) (r : Resource) : State :=
  match r with
  | .reader n => match asFin 4 n with
    | some k => s.modJournal fun j => { j with cursors := j.cursors.set k none }
    | none => s
  | _ => s

/-- Release one claim. -/
def State.releaseClaim (s : State) (reason : Nat) (r : Resource) : State :=
  (s.setOwner r none reason).dropCursor r

/-- Release all claims of a party (R60). -/
def State.releaseAll (s : State) (p : Party) (reason : Nat) : State :=
  s.each (s.claimsOf p) fun s r => s.releaseClaim reason r

/-! ### The set hash (R309) -/

/-- A segment record (Table MO-6). -/
def Segment.bytes (g : Segment) : List Byte :=
  leBytes 4 g.duration ++ leBytes 4 (unsigned 32 g.endPos) ++ leBytes 4 (unsigned 32 g.endVel)
    ++ leBytes 4 g.flags.toNat

def SegTable.bytes (t : SegTable) : List Byte := t.segs.flatMap Segment.bytes

/-- The stored tables of one axis in the order of R309. -/
def AxisSt.tableBytes (a : Nat) (x : AxisSt) : List Byte :=
  (((List.range 16).filterMap fun n => findTable x.tables n).flatMap fun t =>
    leBytes 1 a ++ leBytes 1 t.number ++ leBytes 1 t.segs.length ++ [0] ++ leBytes 4 (unsigned 32 t.x0) ++ t.bytes)
  ++ (match x.customNext.or x.custom with
    | none => []
    | some es => leBytes 1 a ++ [0xFF] ++ List.replicate 6 0 ++ es.flatMap fun e => leBytes 2 (unsigned 16 e))

/-- The 6,144 value bytes of the set. -/
def State.setBytes (s : State) : List Byte := (List.range paramCount).flatMap fun i => leBytes 4 (s.param i)

def State.setHash (s : State) : List Byte :=
  sha256 (s.setBytes ++ (List.finRange 4).flatMap fun a => AxisSt.tableBytes a.val s.axes[a])

end Sys2Proof.Machine
end

