-- ==== Sys2Proof/Machine/Inputs.lean ====
section
/-!
DEFINITION. What a core reads: field inputs and SAFE2 pairs (R37 to R39, R147), the proofs of a doorway,
its axes and lanes in service, the clear width (R65), the service tiers (R29 to R31) and the loop
conditions (R55). Also the clock's move by a command that reports a passage of time.
-/

namespace Sys2Proof.Machine

/-! ### The clock -/

/-- Rate correction r in ppb: steering and slewing together, within the bound of R356. -/
def TimeSt.rate (t : TimeSt) : Int := max (-100000) (min 100000 (t.steer + t.slew))

/-- What `d` ns of slewing remove, in 1e-9 ns: no more than is left (R363). -/
def TimeSt.slewGain (t : TimeSt) (d : Nat) : Int :=
  if t.slewLeft.natAbs ≤ (t.slew * d).natAbs then -t.slewLeft else t.slew * d

/-- Frame time, its bus counters and the RTC move on by `d` ns (R356, R363). -/
def TimeSt.pass (t : TimeSt) (d : Nat) : TimeSt :=
  let g := t.slewGain d
  let gain : Int := max (-(100000 * d : Int)) (min (100000 * d : Int) (t.steer * d + g))
  { t with
    te := ((t.te + d * 10 ^ 9 : Nat) + gain).toNat, slewLeft := t.slewLeft + g,
    slew := if t.slewLeft + g = 0 then 0 else t.slew,
    ce := t.ce.map fun c => c + BitVec.ofNat 48 (d / 10), rtc := t.rtc + d }

/-- Let `d` ns pass: clock, tick number, frame time, bus counters and RTC (R356, R367; log 1). The tick number
stands while TICK is stopped (R429). -/
def State.pass (s : State) (d : Nat) : State :=
  { s with
    now := s.now + d, tick := if s.power.state = .run then s.tick + BitVec.ofNat 32 (d / tickNs) else s.tick,
    time := s.time.pass d }

/-- A command that reports the end of a time moves a clock that lags behind to that end (log 1). -/
def State.until (s : State) (t : Nat) : State := s.pass (t - s.now)

/-! ### Field inputs -/

def chanMod (c : Nat) : Fin 2 := if c < 32 then 0 else 1

/-- What a core reads from an input: none where it reads BAND, open wire or short to supply, or its
module is out of service (R37, R147). -/
def State.reading (s : State) (core : CoreId) (c : Nat) : Option Bool :=
  let v := s.field.mods[chanMod c].views[core]
  if s.inService (fieldSlot (chanMod c)) && v.valid.getLsbD (c % 32) then some (v.value.getLsbD (c % 32)) else none

/-- An input of class STD that counts only while it reads active; 0xFF names none. -/
def State.stdActive (s : State) (core : CoreId) (c : Nat) : Bool := c ≠ 0xFF && s.reading core c == some true

/-- Both channels of a pair can be read. -/
def State.pairReadable (s : State) (core : CoreId) (c : Nat) : Bool :=
  (s.reading core c).isSome && (s.reading core (c + 1)).isSome

/-- The value of a pair as one core holds it. -/
def State.pairVal (s : State) (core : CoreId) (c : Nat) : PairVal :=
  match asFin 64 c with
  | some k => s.doors.pairs[core][k].val
  | none => .inactive

/-- A SAFE2 input whose restrictive value is inactive (Table DW-1). -/
def State.pairActive (s : State) (core : CoreId) (c : Nat) : Bool :=
  c ≠ 0xFF && s.pairReadable core c && s.pairVal core c == .active

/-- A proof: class STD or SAFE2 (Table DW-1); restrictive value inactive. -/
def State.proof (s : State) (core : CoreId) (c : Nat) : Bool :=
  if chanClass s.param c == 2 then s.pairActive core c else s.stdActive core c

def State.dp (s : State) (d : Doorway) (o : Nat) : Nat := s.param (pDoor d.val o)
def State.op (s : State) (d : Doorway) (o : Nat) : Nat := s.param (pObst d.val o)
def State.ap (s : State) (a : Axis) (o : Nat) : Nat := s.param (pAxis a.val o)

def State.enabled (s : State) (d : Doorway) : Bool := dEnabled s.param d.val
def State.enabledDoors (s : State) : List Doorway := [0, 1].filter s.enabled

/-- The release input of a doorway's side. -/
def State.releaseChan (s : State) (d : Doorway) : Nat := if s.dp d 0x01 = 0 then s.param 0x083 else s.param 0x084
def State.released (s : State) (core : CoreId) (d : Doorway) : Bool := s.pairActive core (s.releaseChan d)
def State.zeroSpeed (s : State) (core : CoreId) : Bool := s.pairActive core (s.param 0x085)
/-- The zero-speed pair cannot be read because its field module is out of service (R47). -/
def State.zsModuleOut (s : State) : Bool := !s.inService (fieldSlot (chanMod (s.param 0x085)))
def State.closeTl (s : State) (core : CoreId) : Bool := s.stdActive core (s.param 0x086)

/-- The emergency handle reads INACTIVE; without a named handle it always does (R37). -/
def State.handleInactive (s : State) (core : CoreId) (d : Doorway) : Bool :=
  let c := s.dp d 0x0F
  c == 0xFF || (s.pairReadable core c && s.pairVal core c == .inactive)

def State.keyActive (s : State) (core : CoreId) (d : Doorway) : Bool := s.stdActive core (s.dp d 0x10)
def State.button (s : State) (core : CoreId) (d : Doorway) : Bool := s.stdActive core (s.dp d 0x11)

/-- A wake input of X11 reads active under its polarity pw.wk.polarity (R246). -/
def State.wkActive (s : State) (n : Nat) : Bool := s.power.wk.getLsbD n == bit (s.param 0x4C2) n

/-- Parked by a low-power entry that runs (N3 on). -/
def State.entryParked (s : State) : Bool := s.power.entry.isSome && s.power.hold

/-! ### Proofs of a doorway -/

def State.closedProofs (s : State) (core : CoreId) (d : Doorway) : List Bool :=
  s.proof core (s.dp d 0x09) :: (if twoLeaves s.param d.val then [s.proof core (s.dp d 0x0A)] else [])
def State.lockedProofs (s : State) (core : CoreId) (d : Doorway) : List Bool :=
  s.proof core (s.dp d 0x0B) :: (if twoLeaves s.param d.val then [s.proof core (s.dp d 0x0C)] else [])

def State.allClosed (s : State) (core : CoreId) (d : Doorway) : Bool := (s.closedProofs core d).all id
def State.allLocked (s : State) (core : CoreId) (d : Doorway) : Bool := (s.lockedProofs core d).all id
def State.noneLocked (s : State) (core : CoreId) (d : Doorway) : Bool := !(s.lockedProofs core d).any id
def State.allProven (s : State) (core : CoreId) (d : Doorway) : Bool := s.allClosed core d && s.allLocked core d

/-- Missing proofs as a mask: bits 0 and 1 closed, bits 2 and 3 locked, by leaf (EV 0x046, log 17). -/
def State.missingProofs (s : State) (core : CoreId) (d : Doorway) : Nat :=
  maskOf 2 (fun i => (s.closedProofs core d).getD i true == false)
  + 4 * maskOf 2 (fun i => (s.lockedProofs core d).getD i true == false)

/-- The step-stowed proof; a doorway without a step counts as STOWED and proven (R44). -/
def State.stowedProof (s : State) (core : CoreId) (d : Doorway) : Bool :=
  !hasStep s.param d.val || s.proof core (s.dp d 0x0D)
def State.stepStowed (s : State) (core : CoreId) (d : Doorway) : Bool :=
  !hasStep s.param d.val || (s.doors.door[d].step == .stowed && s.proof core (s.dp d 0x0D))

/-! ### Axes and lanes -/

/-- An axis as a bounded number. -/
def State.leafAxesOf (s : State) (d : Doorway) : List Axis := (leafAxes s.param d.val).filterMap (asFin 4)
def State.stepAxisOf (s : State) (d : Doorway) : Option Axis :=
  if hasStep s.param d.val then asFin 4 (s.dp d 0x06) else none
def State.axesOf (s : State) (d : Doorway) : List Axis :=
  s.leafAxesOf d ++ (match s.stepAxisOf d with | some a => [a] | none => [])

/-- The enabled doorway an axis belongs to. -/
def State.doorOfAxis (s : State) (a : Axis) : Option Doorway :=
  s.enabledDoors.find? fun d => (s.axesOf d).contains a
def State.isLeafAxis (s : State) (a : Axis) : Bool :=
  s.enabledDoors.any fun d => (s.leafAxesOf d).contains a

/-- Is the axis an enabled twin-lane pair's lower lane? -/
def State.twin (s : State) (a : Axis) : Bool := isTwin s.param a.val
/-- The axis that a lane belongs to: a pair's lower lane or the lane itself. -/
def State.axisOfLane (s : State) (m : Axis) : Axis :=
  if m = 1 ∧ s.twin 0 then 0 else if m = 3 ∧ s.twin 2 then 2 else m
def upperLane (a : Axis) : Axis := if a = 0 then 1 else if a = 2 then 3 else a
/-- The modules of an axis. -/
def State.modulesOf (s : State) (a : Axis) : List Axis := if s.twin a then [a, upperLane a] else [a]
def laneIndex (m : Axis) : Fin 2 := if m = 1 ∨ m = 3 then 1 else 0
def State.laneLossContinues (s : State) (a : Axis) : Bool := s.param (pTwin (a.val / 2) 1) == 1

/-- The module in a slot A0 to A3 is in service. -/
def State.axModIn (s : State) (m : Axis) : Bool := s.inService (axisSlot m)
/-- The axis is in service: its module, or for a pair both or, with lane loss 1, at least one. -/
def State.axisIn (s : State) (a : Axis) : Bool :=
  if s.twin a then
    if s.laneLossContinues a then (s.modulesOf a).any s.axModIn else (s.modulesOf a).all s.axModIn
  else s.axModIn a
/-- A module of the axis reports a drive fault. -/
def State.driveFault (s : State) (a : Axis) : Bool :=
  let bad (m : Axis) : Bool := s.axMods[m].uplink.fault != 0
  if s.twin a && s.laneLossContinues a then (s.modulesOf a).all bad else (s.modulesOf a).any bad
/-- The axis counts for a tier: in service and re-referenced (Table FR-8; log 18). -/
def State.axisCounts (s : State) (a : Axis) : Bool :=
  s.axisIn a && (s.axes[a].referenced || !s.axes[a].uncertain)

def State.hasEncoder (s : State) (a : Axis) : Bool := s.param (pAxMod a.val 0) != 0

/-! ### Clear width (R65), in 1/65536 of 1/256000 mm -/

def mmUnit : Nat := 65536 * 256000

def State.leafWidthU (s : State) (a : Axis) : Nat :=
  (s.axes[a].x * (s.ap a 1 : Int) - ((s.ap a 2 * mmUnit : Nat) : Int)).toNat
def State.widthU (s : State) (d : Doorway) : Nat := (s.leafAxesOf d).foldl (fun n a => n + s.leafWidthU a) 0
/-- Clear width of a doorway in mm, rounded down. -/
def State.width (s : State) (d : Doorway) : Nat := s.widthU d / mmUnit

/-- Open target of a leaf in 1/65536 microstep (R65). -/
def State.xOpen (s : State) (d : Doorway) (a : Axis) : Int := ((xOpenOf s.param d.val a.val * ustep : Nat) : Int)
/-- Passable point of a leaf (R229): its own contribution equals passable_width / leaves. -/
def State.xPassable (s : State) (d : Doorway) (a : Axis) : Int :=
  (((256000 * (s.dp d 0x16 + s.dp d 0x02 * s.ap a 2) * ustep + s.dp d 0x02 * s.ap a 1 - 1)
    / (s.dp d 0x02 * s.ap a 1) : Nat) : Int)
/-- x_dep of R449. -/
def State.xDep (s : State) (a : Axis) : Int := ((s.ap a 3 * fullStep : Nat) : Int)
/-- Locked position of a leaf with lock type 0 (R65). -/
def State.xLock (s : State) (a : Axis) : Int := -((s.ap a 0x0C * fullStep : Nat) : Int)

def State.lockType (s : State) (d : Doorway) : Nat := s.dp d 0x07

/-- Position of an axis in microsteps, rounded. -/
def AxisSt.pos (x : AxisSt) : Int := rdiv x.x ustep

/-- Is any leaf of the doorway uncertain? -/
def State.anyUncertain (s : State) (d : Doorway) : Bool := (s.leafAxesOf d).any fun a => s.axes[a].uncertain
/-- No plan runs on any leaf. -/
def State.leavesAtRest (s : State) (d : Doorway) : Bool := (s.leafAxesOf d).all fun a => s.axes[a].plan.isNone
/-- No plan runs on any axis of the doorway. -/
def State.doorAtRest (s : State) (d : Doorway) : Bool := (s.axesOf d).all fun a => s.axes[a].plan.isNone

/-- A start of a move towards an active limit is refused (R83). -/
def State.limitAgainst (s : State) (a : Axis) (towards : Int) : Option Nat :=
  let l := s.axes[a].limits
  if l[(0 : Fin 2)] && l[(1 : Fin 2)] then some 2
  else if decide (towards < 0) && l[(0 : Fin 2)] then some 0
  else if decide (0 < towards) && l[(1 : Fin 2)] then some 1
  else none

/-! ### Tiers (R29 to R31, Table FR-10) -/

/-- A power module in service with its feed GOOD (Table FR-8). An INTERRUPTED feed counts as GOOD, so that an
interruption that is bridged changes no function of the frame (R188, log 41). -/
def State.pmGood (s : State) (p : Fin 2) : Bool :=
  s.inService (pmSlot p) && (s.supply.pm[p].repFeed == .good || s.supply.pm[p].repFeed == .interrupted)
def State.anyPm (s : State) : Bool := s.pmGood 0 || s.pmGood 1
def State.e0Ready (s : State) : Bool := s.inService e0Slot && s.energy.ready
def State.anyCore (s : State) : Bool := s.inService 3 || s.inService 4
/-- Channels that make F1 part of the restricted set (tier rule 3). -/
def State.f1Counts (s : State) (d : Doorway) : Bool :=
  let named := [s.releaseChan d, s.param 0x085]
    ++ ((doorInputs s.param d.val).filter fun n =>
        !([pDoor d.val 0x0E, pDoor d.val 0x0F, pDoor d.val 0x10, pDoor d.val 0x11].contains n.index)).map (·.chan)
  named.any fun c => c ≠ 0xFF && decide (32 ≤ c)
/-- Its lock or step proofs lie on F1 (R30). -/
def State.proofsOnF1 (s : State) (d : Doorway) : Bool :=
  ([s.dp d 0x0B, s.dp d 0x0C, s.dp d 0x0D].any fun c => c ≠ 0xFF && decide (32 ≤ c))

def State.isolatedProven (s : State) (core : CoreId) (d : Doorway) : Bool :=
  s.doors.door[d].leaf == .isolated && s.allLocked core d

/-- A field module in service whose inputs have resolved (Table FR-8, R151). -/
def State.fieldCounts (s : State) (m : Fin 2) : Bool := s.inService (fieldSlot m) && s.field.mods[m].resolved

/-- Tier of a doorway, with the service of one slot taken away where `without` names it. -/
def State.tierOf (s : State) (d : Doorway) (without : Option Slot := none) : Tier :=
  let keeps (k : Slot) : Bool := without != some k
  let core := s.activeCore
  let pm := (s.pmGood 0 && keeps 0) || (s.pmGood 1 && keeps 1)
  let cores := (s.inService 3 && keeps 3) || (s.inService 4 && keeps 4)
  let axis (a : Axis) : Bool :=
    if s.twin a && s.laneLossContinues a then
      (s.modulesOf a).any (fun m => s.axModIn m && keeps (axisSlot m)) && s.axisCounts a
    else (s.modulesOf a).all (fun m => keeps (axisSlot m)) && s.axisCounts a
  let free := s.isolatedProven core d
  let l0 := s.lockType d == 0 || (s.inService l0Slot && keeps l0Slot)
  let f := s.fieldCounts 0 && keeps 11 && (!s.f1Counts d || (s.fieldCounts 1 && keeps 12))
  let evac := (pm || (s.e0Ready && keeps e0Slot)) && cores && (free || (s.leafAxesOf d).all axis) && l0
  let restricted := pm && cores && (free || (s.axesOf d).all axis) && f && l0
  let revenue := restricted && (s.param 0x030 == 0 || (s.e0Ready && keeps e0Slot))
  if revenue then .revenue else if restricted then .restricted else if evac then .evacuation else .none

/-- Frame tier from the doorway tiers (R30). -/
def State.frameTierOf (s : State) (without : Option Slot := none) : Tier :=
  let keeps (k : Slot) : Bool := without != some k
  let open_ := s.enabledDoors.filter fun d => s.doors.door[d].leaf != .isolated
  match open_ with
  | [] =>
    let pm := (s.pmGood 0 && keeps 0) || (s.pmGood 1 && keeps 1)
    let cores := (s.inService 3 && keeps 3) || (s.inService 4 && keeps 4)
    let f1 := s.enabledDoors.any s.proofsOnF1
    let base := pm && cores && s.fieldCounts 0 && keeps 11 && (!f1 || (s.fieldCounts 1 && keeps 12))
    if base && (s.param 0x030 == 0 || (s.inService e0Slot && keeps e0Slot)) then .revenue
    else if base then .restricted else .none
  | ds =>
    let worst := ds.foldl (fun n d => min n (tierCode (s.tierOf d without))) 3
    if worst = 3 then .revenue else if worst = 2 then .restricted else if worst = 1 then .evacuation else .none

/-- Judge the tiers and raise FR_TIER_CHANGE for each change, naming the slot that caused it (R31). -/
def State.judgeTiers (s : State) (cause : Nat) : State :=
  let one (s : State) (d : Doorway) : State :=
    let new := if s.enabled d then s.tierOf d else .none
    let old := s.frame.doorTier[d]
    if new = old then s
    else { s with frame := { s.frame with doorTier := updV s.frame.doorTier d fun _ => new } }.raise
      Ev.FR_TIER_CHANGE [.u8 d.val, .u8 (tierCode old), .u8 (tierCode new), .u8 cause]
  let s1 := one (one s 0) 1
  let new := s1.frameTierOf
  let old := s1.frame.frameTier
  if new = old then s1
  else { s1 with frame := { s1.frame with frameTier := new } }.raise
    Ev.FR_TIER_CHANGE [.u8 0xF, .u8 (tierCode old), .u8 (tierCode new), .u8 cause]

/-- The removal or loss of a slot would take a doorway that is not ISOLATED below restricted (R24). -/
def State.dropsLoop (s : State) (k : Slot) : Bool :=
  s.enabledDoors.any fun d => s.doors.door[d].leaf != .isolated &&
    decide (2 ≤ tierCode (s.tierOf d)) && decide (tierCode (s.tierOf d (some k)) < 2)

/-! ### The loop (R55) -/

/-- Conditions of R55 by one core's own readings, but for its relay weld. -/
def State.loopShut (s : State) (core : CoreId) : Bool :=
  s.enabledDoors.all fun d =>
    ((s.doors.door[d].leaf == .closedLocked && s.allProven core d)
      || (s.doors.door[d].leaf == .isolated && s.allProven core d)) && s.stepStowed core d

def State.loopConditions (s : State) (core : CoreId) : Bool :=
  s.loopShut core && decide (2 ≤ tierCode s.frame.frameTier) && !s.doors.svDrop && !s.entryParked

end Sys2Proof.Machine
end

