-- ==== Sys2Proof/Machine/Pricing.lean ====
section
/-!
DEFINITION. Limits of a move (Limited-jerk profiles, R110), the tables a move may use (R77), the estimate
of the bank (Table EN-3), usable energy (R226), the price of a move (R225) and its peak (R227).
-/

namespace Sys2Proof.Machine

/-! ### Limits and targets of moves -/

/-- Derating factor of an axis in percent (R110). -/
def State.derateV (s : State) (a : Axis) : Nat :=
  if s.axes[a].derated then s.param (pTwin (a.val / 2) 3) else 100
def State.derateA (s : State) (a : Axis) : Nat :=
  if s.axes[a].derated then s.param (pTwin (a.val / 2) 2) else 100

/-- Limits at a speed in full steps/s, with the axis's acceleration and jerk. -/
def State.limitsAt (s : State) (a : Axis) (v : Nat) : Limits :=
  let l := limitsFs v (s.ap a 6) (s.ap a 7)
  { l with a := max 1 (l.a * s.derateA a / 100) }

def State.openLim (s : State) (a : Axis) : Limits :=
  let l := s.limitsAt a (s.ap a 5); { l with v := max 1 (l.v * s.derateV a / 100) }
/-- Closing limits; in creep at no more than obst.d.creep.v_max (R118). -/
def State.closeLim (s : State) (a : Axis) (creep : Option Nat) : Limits :=
  let l := s.limitsAt a (s.ap a 4)
  let v := max 1 (l.v * s.derateV a / 100)
  { l with v := match creep with
    | some c => min v (c * fullStep)
    | none => v }
def State.lockLim (s : State) (a : Axis) : Limits := s.limitsAt a (s.ap a 0x0D)
def State.searchLim (s : State) (a : Axis) : Limits := s.limitsAt a (s.ap a 0x1D)
def State.latchLim (s : State) (a : Axis) : Limits := s.limitsAt a (s.ap a 0x1E)
/-- A jog; on an uncertain axis at no more than axis.a.ref.v_search (R80). -/
def State.jogLim (s : State) (a : Axis) : Limits :=
  let l := s.limitsAt a (s.ap a 0x22)
  let v := max 1 (l.v * s.derateV a / 100)
  { l with v := if s.axes[a].uncertain then min v (s.ap a 0x1D * fullStep) else v }
/-- Ramp-stop limits (R78, R110). -/
def State.stopLim (s : State) (a : Axis) : Limits :=
  let l := limitsFs (s.ap a 5) (s.ap a 8) (s.ap a 9)
  { l with a := max 1 (l.a * s.derateA a / 100) }

/-- The table an axis names for a direction: axis.a.open.table or axis.a.close.table. -/
def State.namedTable (s : State) (a : Axis) (opening : Bool) : Option SegTable :=
  let n := s.ap a (if opening then 0x0A else 0x0B)
  if n = 0xFF then none else findTable s.axes[a].tables n

def SegTable.endPos (t : SegTable) : Int := (t.segs.getLast?.map (·.endPos)).getD t.x0

/-- Target of a full move: the named table's last end_pos, or its own (R77). -/
def State.fullTarget (s : State) (a : Axis) (opening : Bool) (own : Int) : Int :=
  match s.namedTable a opening with
  | some t => t.endPos * ustep
  | none => own

/-- Open target of a leaf: its full target, or its passable point (R229). -/
def State.openTarget (s : State) (d : Doorway) (a : Axis) (toPassable : Bool) : Int :=
  if toPassable then s.xPassable d a else s.fullTarget a true (s.xOpen d a)

/-- A table serves a move (R77): its end is the target, the axis is at rest within 256 microsteps of
x_0, certain and not derated. -/
def State.usableTable (s : State) (a : Axis) (opening : Bool) (target : Int) : Option SegTable :=
  let x := s.axes[a]
  match s.namedTable a opening with
  | some t =>
    if t.endPos * ustep = target ∧ x.plan.isNone ∧ x.v = 0 ∧ x.uncertain = false ∧ x.derated = false ∧
        (x.x - t.x0 * ustep).natAbs ≤ 256 * ustep then some t
    else none
  | none => none

/-- The plan body of a move: table, rest-to-rest profile, or R72's replan; with the start acceleration
and the reversal flag. -/
def State.moveBody (s : State) (a : Axis) (table : Option Bool) (target : Int) (lim : Limits) :
    PlanBody × Int × Bool :=
  let x := s.axes[a]
  match table.bind fun o => s.usableTable a o target with
  | some t => (.table t.number (rdiv x.x ustep) 0 t.segs, 0, false)
  | none =>
    if x.v = 0 ∧ x.a = 0 then (.phases x.x 0 0 (restToRest lim (target - x.x)), 0, false)
    else
      let r := replan lim x.x x.v x.a target
      (.phases x.x x.v r.1 r.2.1, r.1, r.2.2)

/-! ### Estimate and usable energy (Table EN-3, R226) -/

/-- Temperature factor of ESR in thousandths (R221). -/
def tempFactor (t : Int) : Nat :=
  if 0 ≤ t then 1000
  else if -20 ≤ t then 1000 + (30 * t.natAbs)
  else if -40 ≤ t then 1600 + 45 * (t.natAbs - 20)
  else 2500

/-- C_adm in 0.0001 F, exact for estimates in 0.01 F. -/
def EnergySt.cAdm (e : EnergySt) : Nat :=
  let rest := 97 * e.cW
  let fit := match e.cF with
    | some c => min (90 * c) rest
    | none => rest
  match e.est with
  | .init => 315000
  | .rest => rest
  | .fit => fit
  | .stale => min fit 315000

/-- ESR_hi in 1e-9 Ω with the factor of the coldest cell, exact for estimates in 0.1 mΩ. -/
def EnergySt.esrHi (e : EnergySt) : Nat :=
  let base := match e.est with
    | .init => 40000
    | .rest => 110 * e.esrW
    | _ => match e.esrF with
      | some r => 125 * r
      | none => 110 * e.esrW
  base * tempFactor e.tCellMin

/-- Open-circuit voltage in mV. -/
def EnergySt.vOc (e : EnergySt) : Nat := ((e.vBank : Int) + e.iBank * e.esrHi / 10 ^ 8).toNat

/-- Lower-bound energy above 12.0 V, in mJ. -/
def EnergySt.aboveFloor (e : EnergySt) : Int :=
  (e.cAdm : Int) * ((e.vOc : Int) ^ 2 - 144000000) / 20000000

/-- Usable energy of R226 in mJ, for a horizon in ns and the remaining predictions given. -/
def State.eUse (s : State) (horizon eRem : Nat) : Int :=
  s.energy.aboveFloor - 600000
    - ((s.energy.pStand * horizon * 10 / (s.param 0x4A1 * 1000000) : Nat) : Int) - eRem

/-- v_floor: the bank voltage at which ½ C_adm (v² − 12²) equals 600 J (R235), mV. -/
def EnergySt.floorMv (e : EnergySt) : Nat :=
  if e.cAdm = 0 then 0 else isqrt (144000000 + 12 * 10 ^ 12 / e.cAdm)

/-! ### The price of a move (R225) -/

/-- A movement of one axis within a move. -/
structure Movement where
  axis : Axis
  from_ : Nat                       -- start within the move, ns
  body : PlanBody
  settles : Bool                    -- the axis comes to a standstill after it
  deriving DecidableEq, Repr

def State.motor (s : State) (a : Axis) : MotorData := motorOf s.param a.val
def State.lanes (s : State) (a : Axis) : Nat := if s.twin a then 2 else 1

def Movement.attoJ (s : State) (m : Movement) : Nat := s.lanes m.axis * bodyEnergy (s.motor m.axis) m.body m.settles
def Movement.endsAt (m : Movement) : Nat := m.from_ + planDur m.body

/-- E_pred of a move in mJ. -/
def State.ePred (s : State) (ms : List Movement) : Nat :=
  predict (s.param 0x4A0) (s.param 0x4A1) (ms.foldl (fun n m => n + m.attoJ s) 0)
def movesDur (ms : List Movement) : Nat := ms.foldl (fun n m => max n m.endsAt) 0

/-- A stretch of constant jerk of a movement: start and end in ns, start speed, acceleration, jerk, and
current in mA. -/
structure Stretch where
  t0 : Nat
  t1 : Nat
  v : Int
  a : Int
  j : Int
  i : Nat
  deriving DecidableEq, Repr

def phaseStretches (m : MotorData) : List Phase → Nat → Int → Int → Int → List Stretch
  | [], _, _, _, _ => []
  | p :: ps, t, x, v, a =>
    let e := phaseAt x v a p.jerk p.dur
    { t0 := t, t1 := t + p.dur, v := v, a := a, j := p.jerk, i := if p.jerk = 0 ∧ a = 0 then m.iRun else m.iAcc }
      :: phaseStretches m ps (t + p.dur) e.1 e.2.1 e.2.2

def segStretches (m : MotorData) : List Segment → Nat → Int → Int → List Stretch
  | [], _, _, _ => []
  | g :: gs, t, p0, v0 =>
    let s0 := hermiteAt g.ns 0 p0 v0 g.endPos g.endVel
    let s1 := hermiteAt g.ns g.ns p0 v0 g.endPos g.endVel
    let flat := v0 = g.endVel ∧ (g.endPos - p0) * 1000000 = v0 * g.duration
    { t0 := t, t1 := t + g.ns, v := s0.2.1, a := s0.2.2,
      j := rdiv ((s1.2.2 - s0.2.2) * sec) g.ns, i := if flat then m.iRun else m.iAcc }
      :: segStretches m gs (t + g.ns) g.endPos g.endVel

def stretches (m : MotorData) (from_ : Nat) (b : PlanBody) : List Stretch :=
  match b with
  | .phases x v a ps => phaseStretches m ps from_ x v a
  | .table _ p0 v0 gs => segStretches m gs from_ p0 v0

/-- Drive power of a stretch at an instant, in mW, without the lanes: R I² + k (π/2) |v| I + P_br. -/
def stretchPower (m : MotorData) (g : Stretch) (t : Nat) : Nat :=
  let v := (phaseAt 0 g.v g.a g.j (t - g.t0)).2.1.natAbs
  m.r * g.i * g.i / 1000000 + m.ke * g.i * v / fullStep * piNum / (2 * piDen) / 1000000 + m.bridge * 1000

/-- Power of all movements at an instant, in mW. -/
def powerAt (gs : List (MotorData × Nat × Stretch)) (t : Nat) : Nat :=
  gs.foldl (fun n g =>
    if g.2.2.t0 ≤ t ∧ t ≤ g.2.2.t1 then n + g.2.1 * stretchPower g.1 g.2.2 t else n) 0

/-- Numbers in rising order. -/
def insertNat (n : Nat) : List Nat → List Nat
  | [] => [n]
  | k :: rest => if n ≤ k then n :: k :: rest else k :: insertNat n rest
def sortNat (l : List Nat) : List Nat := l.foldr insertNat []

/-- Instants at which the sum may be largest: every end of a stretch, and between neighbours the
instant at which the summed slope is zero. -/
def peakInstants (gs : List (MotorData × Nat × Stretch)) : List Nat :=
  let ends := sortNat (gs.flatMap fun g => [g.2.2.t0, g.2.2.t1])
  let inner := (ends.zip (ends.drop 1)).flatMap fun e =>
    let live := gs.filter fun g => decide (g.2.2.t0 ≤ e.1) && decide (e.2 ≤ g.2.2.t1) && decide (e.1 < e.2)
    let slope : Int := live.foldl (fun (n : Int) g =>
      let st := phaseAt 0 g.2.2.v g.2.2.a g.2.2.j (e.1 - g.2.2.t0)
      n + ((g.2.1 * g.1.ke * g.2.2.i : Nat) : Int) * st.2.2 * (if 0 ≤ st.2.1 then 1 else -1)) 0
    let bend : Int := live.foldl (fun (n : Int) g =>
      let st := phaseAt 0 g.2.2.v g.2.2.a g.2.2.j (e.1 - g.2.2.t0)
      n + ((g.2.1 * g.1.ke * g.2.2.i : Nat) : Int) * g.2.2.j * (if 0 ≤ st.2.1 then 1 else -1)) 0
    if bend < 0 ∧ 0 < slope ∧ e.1 + (slope * sec / (-bend)).toNat < e.2 then
      [e.1 + (slope * sec / (-bend)).toNat] else []
  ends ++ inner

def State.stretchesOf (s : State) (ms : List Movement) : List (MotorData × Nat × Stretch) :=
  ms.flatMap fun m => (stretches (s.motor m.axis) m.from_ m.body).map fun g => (s.motor m.axis, s.lanes m.axis, g)

/-- P_out in mW. -/
def State.pOut (s : State) (ms : List Movement) : Nat :=
  let gs := s.stretchesOf ms
  (peakInstants gs).foldl (fun n t => max n (powerAt gs t)) 0

/-- Predicted time above 400 W, counted in ticks, in ms (log 8). -/
def State.above400 (s : State) (ms : List Movement) : Nat :=
  let gs := s.stretchesOf ms
  if s.pOut ms + s.energy.pStand * 100 ≤ 400000 then 0
  else ((List.range (movesDur ms / tickNs + 1)).countP fun k =>
    decide (400000 < powerAt gs (k * tickNs) + s.energy.pStand * 100)) / 20

/-- The peak test of R227. -/
def State.peakOk (s : State) (ms : List Movement) : Bool :=
  let p := s.pOut ms + s.energy.pStand * 100          -- mW
  let pb := p * 100 / s.param 0x4A1
  let v := s.energy.vOc
  -- mV²: 4 × ESR × P_b, ESR in 1e-9 Ω and P_b in mW
  let disc : Int := (v : Int) ^ 2 - 4 * ((s.energy.esrHi * pb / 10 ^ 6 : Nat) : Int)
  decide (p ≤ 1200000) && decide (s.above400 ms ≤ 50 * s.energy.budget) && decide (0 ≤ disc)
    && decide (24000 ≤ v + isqrt disc.toNat)

/-- Remaining time of the running plans, in ns. -/
def Plan.left (p : Plan) : Nat := planDur p.body - p.elapsed
def State.runningLeft (s : State) : Nat :=
  (List.finRange 4).foldl (fun n a => max n ((s.axes[a].plan.map Plan.left).getD 0)) 0
def State.eRemSum (s : State) : Nat := s.energy.eRem.toList.foldl (· + ·) 0

/-- Usable energy for a candidate, after what this resolver pass has admitted (R226, R230). -/
def State.usableFor (s : State) (ms : List Movement) : Int :=
  s.eUse (max s.runningLeft (movesDur ms)) s.eRemSum - s.energy.priced

/-- Does a move fit: E_pred ≤ E_use and the peak test (R226, R227)? While the supply is present no move
is priced (R214). -/
def State.fits (s : State) (ms : List Movement) : Bool :=
  !s.supply.onStore || (decide ((s.ePred ms : Int) ≤ s.usableFor ms) && s.peakOk ms)

/-- No move is admitted: on service power (R201), and from S1 on but for evacuation opens and SV's supply-loss
actions (Table SU-5). -/
def State.noMoves (s : State) (last : Bool) : Bool := s.supply.serviceOnly || (s.supply.step.isSome && !last)

/-- Detail of ST_ENERGY (Table HR-16): predicted and usable J. -/
def State.energyDetail (s : State) (ms : List Movement) : Nat :=
  min (s.ePred ms / 1000) 65535 + 65536 * min ((s.usableFor ms).toNat / 1000) 65535

/-- EN_ADMIT_REFUSED for a door identity or axis. -/
def State.raiseRefused (s : State) (who : Nat) (ms : List Movement) : State :=
  s.raise Ev.EN_ADMIT_REFUSED [.u16 who, .u16 (s.ePred ms / 1000), .u16 ((s.usableFor ms).toNat / 1000),
    .u8 (if (s.ePred ms : Int) ≤ s.usableFor ms then 2 else 1)]

/-! ### The movements of a door move -/

/-- One axis's movement to a target from its present state, or from a given position at rest. -/
def State.movement (s : State) (a : Axis) (from_ : Nat) (start : Option Int) (table : Option Bool)
    (target : Int) (lim : Limits) (settles : Bool) : Movement :=
  let body := match start with
    | some x => .phases x 0 0 (restToRest lim (target - x))
    | none => (s.moveBody a table target lim).1
  { axis := a, from_ := from_, body := body, settles := settles }

/-- An open (R225): the step deploy if asked, the lock travel of a type-0 lock, the leaf moves. -/
def State.openMoves (s : State) (d : Doorway) (toPassable withStep : Bool) : List Movement :=
  let door := s.doors.door[d]
  let step := match s.stepAxisOf d with
    | some a => if withStep && s.doors.door[d].step != .deployed then
        [s.movement a 0 none (some true) (s.fullTarget a true (s.xDep a)) (s.openLim a) true] else []
    | none => []
  let t0 := movesDur step
  let unlocks := s.lockType d == 0 && (door.leaf == .closedLocked || door.leaf == .unlocking)
  let locks := if unlocks then (s.leafAxesOf d).map fun a => s.movement a t0 none none 0 (s.lockLim a) false else []
  let t1 := max t0 (movesDur locks)
  step ++ locks ++ (s.leafAxesOf d).map fun a =>
    s.movement a t1 (if unlocks then some 0 else none) (some true) (s.openTarget d a toPassable) (s.openLim a) true

/-- A close (R225): the leaf moves, the lock travel, and the step stow but in S1 to S3. -/
def State.closeMoves (s : State) (d : Doorway) : List Movement :=
  let leaves := (s.leafAxesOf d).map fun a =>
    s.movement a 0 none (some false) (s.fullTarget a false 0) (s.closeLim a none) (s.lockType d != 0)
  let t0 := movesDur leaves
  let locks := if s.lockType d == 0 then
    (s.leafAxesOf d).map fun a => s.movement a t0 (some 0) none (s.xLock a) (s.lockLim a) true else []
  let t1 := max t0 (movesDur locks)
  let last := s.supply.step == some .s1 || s.supply.step == some .s2 || s.supply.step == some .s3
  let stow := match s.stepAxisOf d with
    | some a => if s.doors.door[d].step == .deployed && !last then
        [s.movement a t1 none (some false) (s.fullTarget a false 0) (s.closeLim a none) true] else []
    | none => []
  leaves ++ locks ++ stow

/-- The rest of a running plan as a body (R231's E_finish). -/
def dropPhases : List Phase → Int → Int → Int → Nat → PlanBody
  | [], x, v, a, _ => .phases x v a []
  | p :: ps, x, v, a, t =>
    if t < p.dur then
      let e := phaseAt x v a p.jerk t
      .phases e.1 e.2.1 e.2.2 ({ p with dur := p.dur - t } :: ps)
    else
      let e := phaseAt x v a p.jerk p.dur
      dropPhases ps e.1 e.2.1 e.2.2 (t - p.dur)

/-- The phases of the rest of a table: each segment is a phase of constant jerk (R75). -/
def segPhases : List Segment → Int → Int → Nat → List (Int × Int × Int × Phase)
  | [], _, _, _ => []
  | g :: gs, p0, v0, t =>
    if t < g.ns then
      let s0 := hermiteAt g.ns t p0 v0 g.endPos g.endVel
      let s1 := hermiteAt g.ns g.ns p0 v0 g.endPos g.endVel
      (s0.1, s0.2.1, s0.2.2, { jerk := rdiv ((s1.2.2 - s0.2.2) * sec) (g.ns - t), dur := g.ns - t })
        :: segPhases gs g.endPos g.endVel 0
    else segPhases gs g.endPos g.endVel (t - g.ns)

/-- Energy of the rest of a plan, in 1e-18 J. -/
def State.finishAtto (s : State) (a : Axis) (p : Plan) : Nat :=
  match p.body with
  | .phases x v ac ps => bodyEnergy (s.motor a) (dropPhases ps x v ac p.elapsed) true
  | .table _ p0 v0 gs =>
    let parts := segPhases gs p0 v0 p.elapsed
    parts.foldl (fun n q => n + bodyEnergy (s.motor a) (.phases q.1 q.2.1 q.2.2.1 [q.2.2.2]) false) 0
      + (s.motor a).r * (s.motor a).iHold * (s.motor a).iHold * (s.motor a).settle * 1000000

/-- E_rem of R231 for the running plan of an axis, in mJ. -/
def State.eRemOf (s : State) (a : Axis) : Nat :=
  match s.axes[a].plan with
  | none => 0
  | some p =>
    let r := rampToRest (s.stopLim a) s.axes[a].v s.axes[a].a
    let stop := bodyEnergy (s.motor a) (.phases s.axes[a].x s.axes[a].v r.1 r.2) true
    predict (s.param 0x4A0) (s.param 0x4A1) (s.lanes a * max (s.finishAtto a p) stop)

/-! ### Rest windows (R220, R224) -/

/-- Door and axis commands are blocked: by OP_REST_WINDOW (R224), or from N1 of a low-power entry on until RUN
(R243, R244). -/
def State.blocked (s : State) : Bool :=
  s.power.entry.isSome || s.power.wake.isSome || (match s.energy.blockUntil with
    | some t => decide (s.now < t)
    | none => false)

/-- Door commands are blocked as well while a hold is active (R255). -/
def State.doorBlocked (s : State) : Bool := s.blocked || s.power.hold || s.supply.padHold

/-- A running window is aborted (R220): cause 1 a move request, 2 a scheduled action, 3 a supply loss
(log 17); OP_REST_WINDOW completes ST_PREEMPTED and its block ends (R224). -/
def State.abortWindow (s : State) (cause : Nat) : State :=
  if s.energy.window.isNone then s
  else
    let req := s.energy.windowReq
    let s1 := (s.modEnergy fun e => { e with
      window := none, windowReq := none, windowCmd := false, blockUntil := none }).raise
        Ev.EN_WINDOW_ABORTED [.u8 cause]
    match req with
    | some r => s1.complete r Opc.OP_REST_WINDOW ST_PREEMPTED 0 []
    | none => s1

end Sys2Proof.Machine
end

