-- ==== Sys2Proof/Machine/Axes.lean ====
section
/-!
DEFINITION. The operations of a motion generator: starting and replacing plans (R72, R77), ramp stops (R78),
reversals (R120), freezes (R79), uncertainty (R80, R81), standstill (R85), re-references (R87 to R89), and
the generator's tick (R64, R66, R69, R90, R91, R127, R128).
-/

namespace Sys2Proof.Machine

def leafCode : Leaf → Nat
  | .closedLocked => 0 | .unlocking => 1 | .opening => 2 | .opened => 3 | .warn => 4 | .closing => 5
  | .reopening => 6 | .locking => 7 | .isolated => 8 | .emergencyReleased => 9 | .fault => 10

def stepCode : StepSt → Nat
  | .stowed => 0 | .deploying => 1 | .deployed => 2 | .stowing => 3 | .stepFault => 4

/-- Detail of ST_STATE for an axis: the leaf state of its doorway, or 0xFF (R450). -/
def State.axisStateDetail (s : State) (a : Axis) : Nat :=
  match s.doorOfAxis a with
  | some d => leafCode s.doors.door[d].leaf
  | none => 0xFF

/-- Kind byte of EV 0x0C0: 0 profile, 1 jog, 2 lock, 16 + n table n (log 17). -/
def planKindCode (k : PlanKind) (b : PlanBody) : Nat :=
  match b with
  | .table n _ _ _ => 16 + n
  | .phases _ _ _ _ => match k with
    | .jog => 1
    | .lockIn | .lockOut | .refLock => 2
    | _ => 0

/-- Freeze causes of EV 0x0C3 (log 17): 1 doorway FAULT, 2 limit, 3 OP_AXIS_HALT, 4 SV, 5 drive fault,
6 reserve floor, 7 takeover, 8 encoder direction. -/
abbrev FreezeCause := Nat

/-- Speed in full steps per second, rounded. -/
def AxisSt.speedFs (x : AxisSt) : Nat := ndiv x.v.natAbs fullStep

/-! ### Plans -/

/-- Put a plan in place (R66, Table MO-10): discarded in a tick whose stop or freeze outranks it. A coil
that was off or shorted first ramps its amplitude up (R85). -/
def State.beginPlan (s : State) (a : Axis) (kind : PlanKind) (target : Int) (body : PlanBody) (a0 : Int)
    (reversal : Bool) : State :=
  let x := s.axes[a]
  if x.freezeDue.isSome || x.stopDue then s
  else
    let moving := x.plan.isSome
    let s1 := s.modAxis a fun x => { x with
      plan := some { kind := kind, target := target, body := body },
      a := a0, target := target, replanned := true, driving := true, coilsOff := false, settleFrom := none,
      evacEnded := false,
      wakeFrom := if x.driving then x.wakeFrom else some s.now,
      voltRaised := x.voltRaised && moving, capRaised := x.capRaised && moving,
      capMove := if moving then x.capMove else x.tempCap }
    if moving then
      s1.raise Ev.MO_REPLAN [.u8 a.val, itemS (rdiv x.target ustep), itemS (rdiv target ustep), item8 reversal]
    else
      s1.raise Ev.MO_MOVE_START [.u8 a.val, .u8 (planKindCode kind body), itemS (rdiv target ustep),
        .u32 (planDur body / msec)]

/-- Move an axis to a target from its present state; `table` allows a table of that direction (R77). -/
def State.moveTo (s : State) (a : Axis) (kind : PlanKind) (table : Option Bool) (target : Int) (lim : Limits) :
    State :=
  let b := s.moveBody a table target lim
  s.beginPlan a kind target b.1 b.2.1 b.2.2

/-- Ramp to rest under the stop limits (R78); position kept. -/
def State.rampStop (s : State) (a : Axis) : State :=
  let x := s.axes[a]
  if x.plan.isNone || x.freezeDue.isSome then s
  else if x.v = 0 ∧ x.a = 0 then
    s.modAxis a fun x => { x with plan := none, target := x.x, wakeFrom := none, settleFrom := some s.now,
                                  stopDue := true }
  else
    let r := rampToRest (s.stopLim a) x.v x.a
    let stop := (phasesEnd r.2 x.x x.v r.1).1
    s.modAxis a fun x => { x with
      plan := some { kind := .rampStop, target := stop, body := .phases x.x x.v r.1 r.2 },
      a := r.1, target := stop, stopDue := true }

/-- The ramp-down of R120: full stop deceleration at once, or the lowered one, then the exit jerk phase. -/
def obstacleRamp (lim : Limits) (v : Int) : Int × List Phase :=
  let w := v.natAbs
  let dir := sgn v
  if w = 0 then (0, [])
  else if 2 * lim.j * w < lim.a * lim.a then
    let d := isqrt (2 * lim.j * w)
    (-(dir * d), mkPhase (dir * lim.j) (ndiv (d * sec) lim.j))
  else
    (-(dir * lim.a), mkPhase 0 (ndiv ((w - lim.a * lim.a / (2 * lim.j)) * sec) lim.a)
      ++ mkPhase (dir * lim.j) (ndiv (lim.a * sec) lim.j))

/-- Reverse an axis to a target (R120); without a target only the ramp-down runs (R123). -/
def State.reverseTo (s : State) (a : Axis) (kind : PlanKind) (target : Option Int) (lim : Limits) : State :=
  let x := s.axes[a]
  let r := obstacleRamp (s.stopLim a) x.v
  let rest := (phasesEnd r.2 x.x x.v r.1).1
  let goal := target.getD rest
  let body : PlanBody := .phases x.x x.v r.1 (r.2 ++ restToRest lim (goal - rest))
  (s.modAxis a fun x => { x with stopDue := false }).beginPlan a kind goal body r.1 true

/-! ### Uncertainty, freezes -/

/-- R80's causes in EV 0x0C4 (log 17): 1 freeze at speed, 2 loss behaviour, 3 module re-entered,
4 emergency release, 5 re-reference failed. -/
def State.makeUncertain (s : State) (a : Axis) (cause : Nat) : State :=
  if s.axes[a].uncertain then s
  else (s.modAxis a fun x => { x with uncertain := true }).raise Ev.MO_POS_UNCERTAIN [.u8 a.val, .u8 cause]

/-- Complete the axis command that runs. -/
def State.endAxisCmd (s : State) (a : Axis) (status : Byte) (detail : Nat) (result : List Byte) : State :=
  match s.axes[a].cmd with
  | none => s
  | some c => (s.modAxis a fun x => { x with cmd := none }).completeAll (c.req :: c.merged) c.opcode status detail result

/-- A re-reference that ends without success (Table MO-12). With reason 5 the axis keeps its reference. -/
def State.refFail (s : State) (a : Axis) (reason : Nat) : State :=
  match s.axes[a].ref with
  | none => s
  | some r =>
    let s1 := ((s.modAxis a fun x => { x with ref := none }).modAxMod a fun m =>
      { m with armed := false }).raise Ev.MO_REF_FAIL [.u8 a.val, .u8 reason]
    let s2 := if reason = 5 then s1 else s1.makeUncertain a 5
    let s3 := s2.endAxisCmd a ST_REF_FAIL reason []
    if r.forDoor then
      match s3.doorOfAxis a with
      | some d =>
        let s4 := match s3.doors.door[d].resetCmd with
          | some c => s3.completeAll c.reqs Opc.OP_DOOR_RESET ST_REF_FAIL reason []
          | none => s3
        s4.modDoor d fun x => { x with resetCmd := none, resetAsked := false, stepResetAsked := false }
      | none => s3
    else s3

/-- Position of the held address (R79): the commanded position nearest to the present one whose address
it is. -/
def State.heldPos (s : State) (a : Axis) (address : Nat) (x : Int) : Int :=
  let dir : Int := if s.ap a 0 = 1 then -1 else 1
  let e := s.axes[a].eOff.toNat + dir * rdiv x ustep
  let diff := ((address : Int) - e + 512) % 1024 - 512
  (rdiv x ustep + dir * diff) * ustep

/-- An address freeze (R79): x at the held address, v and a 0; uncertain above axis.a.freeze.v_safe; a
re-reference and a jog end. -/
def State.freeze (s : State) (a : Axis) (cause : FreezeCause) (status : Byte) (detail : Nat) : State :=
  let x := s.axes[a]
  let m := s.axMods[a]
  let loss := m.uplink.state.getLsbD 2
  let held := if loss then x.history.find? fun h => h.1 == m.uplink.tick else none
  let pos := match held with
    | some h => s.heldPos a h.2.1.toNat (h.2.2 * ustep)
    | none => if x.plan.isNone && x.v == 0 then x.x else s.heldPos a x.address.toNat x.x
  let fast := decide (s.ap a 0x19 * fullStep < x.v.natAbs)
  let s1 := (s.modAxis a fun x => { x with
      x := pos, v := 0, a := 0, plan := none, target := pos, freezeDue := some cause, wakeFrom := none,
      settleFrom := some s.now, band := 0 }).raise Ev.MO_FREEZE
    [.u8 a.val, .u8 cause, .u16 x.speedFs, itemS (rdiv pos ustep)]
  let s2 := if loss then s1.makeUncertain a 2 else if fast then s1.makeUncertain a 1 else s1
  let s3 := if s2.axes[a].ref.isSome then s2.refFail a 4 else s2
  s3.endAxisCmd a status detail []

/-- Encoder position of an axis in 1/65536 microstep (R104). While the lanes' encoders disagree it is the one that lies
further from the commanded position (R114). -/
def State.xEnc (s : State) (a : Axis) : Int :=
  let x := s.axes[a]
  let dir : Int := if s.param (pAxMod a.val 2) = 1 then -1 else 1
  let cpr := max 1 (s.param (pAxMod a.val 1))
  let at_ (enc : Int) : Int := (signed 32 (s.ap a 0x1F)) * ustep
    + rdiv (dir * (enc - x.cRef) * 256 * s.param (pAxMod a.val 4) * ustep) cpr
  let p := at_ x.enc
  if x.disagree = some 2 then
    let q := at_ (x.enc + (s.axMods[upperLane a].uplink.encCount - s.axMods[a].uplink.encCount).toInt)
    if (x.x - p).natAbs < (x.x - q).natAbs then q else p
  else p

/-- The encoder may be used (R95): declared and without a fault since the last passing re-reference. -/
def State.encOk (s : State) (a : Axis) : Bool := s.hasEncoder a && s.axes[a].encUsable && !s.axes[a].encSupplyLost

/-- Set the commanded position, the emitted address staying (R64, R81). -/
def State.assignX (s : State) (a : Axis) (new : Int) : State :=
  let dir : Int := if s.ap a 0 = 1 then -1 else 1
  s.modAxis a fun x => { x with
    x := new, target := new,
    eOff := BitVec.ofNat 10 (unsigned 10 (x.eOff.toNat + dir * (rdiv x.x ustep - rdiv new ustep))) }

/-- Resynchronise with the encoder at standstill (R81). -/
def State.resync (s : State) (a : Axis) : State :=
  if s.encOk a && s.axes[a].referenced && s.axisIn a then
    let diff := s.xEnc a - s.axes[a].x
    if diff.natAbs ≤ 512 * ustep ∧ (diff ≠ 0 ∨ s.axes[a].uncertain = true) then
      ((s.assignX a (s.xEnc a)).modAxis a fun x => { x with uncertain := false }).raise Ev.MO_RESYNC
        [.u8 a.val, itemS (rdiv diff ustep)]
    else s
  else s

/-- The settle time is over (R85): the standstill mode, or shorted coils on a stranded doorway (R233). -/
def State.standstill (s : State) (a : Axis) : State :=
  let stranded : Bool := match s.doorOfAxis a with
    | some d => s.doors.door[d].stranded
    | none => false
  let mode := if stranded then 2 else s.ap a 0x17
  ((s.modAxis a fun x => { x with settleFrom := none, driving := false, amplitude := 0, lead := 0 }).raise
    Ev.MO_STANDSTILL [.u8 a.val, .u8 mode]).resync a

/-- Switch the coils of an axis off at once (R50, Table FR-9). -/
def State.coilsOff (s : State) (a : Axis) : State :=
  s.modAxis a fun x => { x with driving := false, coilsOff := true, settleFrom := none, wakeFrom := none,
                                amplitude := 0, lead := 0, plan := none, v := 0, a := 0 }

/-! ### Re-references (R87) -/

/-- The direction of the search: towards A for methods 0 and 2, towards B for method 1. -/
def State.searchDir (s : State) (a : Axis) : Int := if s.ap a 0x1C = 1 then 1 else -1
/-- The reference switch of the method is active. -/
def State.refSwitch (s : State) (a : Axis) : Bool :=
  s.axes[a].limits[(if s.ap a 0x1C = 1 then (1 : Fin 2) else 0)]

/-- Begin a re-reference with the resistance check (R87, R97). -/
def State.refStart (s : State) (a : Axis) (req : Option AxisCmd) (party : Party) (forDoor : Bool) : State :=
  ((s.each (s.modulesOf a) fun s m => s.modAxMod m fun k =>
      { k with checkRunning := true, checkPassed := false }).modAxis a fun x => { x with
    ref := some { stage := .check, forDoor := forDoor, startX := x.x, startEnc := x.enc }, cmd := req }).raise
    Ev.MO_REF_START [.u8 a.val, .u8 (s.ap a 0x1C), .u8 (Party.code party)]

def State.setStage (s : State) (a : Axis) (st : RefStage) : State :=
  s.modAxis a fun x => { x with
    stopDue := false, ref := x.ref.map fun r => { r with stage := st, startX := x.x, startEnc := x.enc } }

/-- Step 3 of R87: away from the switch at axis.a.ref.v_latch, the latch armed. -/
def State.refBack (s : State) (a : Axis) : State :=
  let method := s.ap a 0x1C
  let s1 := ((s.setStage a .back).modAxMod a fun m => { m with
    armed := true, latchSrc := if method = 0 then 0 else if method = 1 then 1 else 3 })
  s1.moveTo a .refBack none (s1.axes[a].x - s.searchDir a * (64 * fullStep : Nat)) (s.latchLim a)

/-- The check has passed: search, or back off where the switch is active already. -/
def State.refChecked (s : State) (a : Axis) : State :=
  if s.refSwitch a then s.refBack a
  else
    let s1 := s.setStage a .search
    s1.moveTo a .refSearch none (s1.axes[a].x + s.searchDir a * (s.ap a 0x20 * fullStep : Nat)) (s.searchLim a)

/-- The switch has been met: ramp stop (R87, step 2). -/
def State.refMet (s : State) (a : Axis) : State :=
  let s1 := s.rampStop a
  if s1.axes[a].plan.isNone then s1.refBack a else s1

/-- The module whose encoder readings an axis uses: the lower lane where it drives, else the upper (R111). -/
def State.readLane (s : State) (a : Axis) : Axis :=
  if s.twin a && !(s.axModIn a && s.axes[a].lanes[(0 : Fin 2)]) && s.axModIn (upperLane a) then upperLane a else a

/-- The latch point (R87, step 4): x, e_off, encoder reference; then ramp to rest. -/
def State.refLatched (s : State) (a : Axis) (count : BitVec 32) : State :=
  let offset := signed 32 (s.ap a 0x1F) * ustep
  let raw := s.axMods[s.readLane a].uplink.encCount
  let s1 := (s.assignX a offset).modAxis a fun x => { x with
    uncertain := false, referenced := true, encUsable := true,
    cRef := x.enc - (raw - count).toInt,
    ref := x.ref.map fun r => { r with stage := .rest } }
  (s1.each (s.modulesOf a) fun s m => s.modAxMod m fun k => { k with armed := false }).rampStop a

/-- A re-reference ends well: MO_REF_DONE and the completion with e_off. -/
def State.refDone (s : State) (a : Axis) : State :=
  let x := s.axes[a]
  let s1 := (s.modAxis a fun x => { x with ref := none }).raise Ev.MO_REF_DONE
    [.u8 a.val, .u8 (s.ap a 0x1C), .u16 x.eOff.toNat, itemS x.cRef]
  s1.endAxisCmd a ST_OK 0 (leBytes 2 x.eOff.toNat)

/-- Is it a leaf with lock type 0 of an ISOLATED doorway (R89)? -/
def State.returnsToLock (s : State) (a : Axis) : Bool :=
  match s.doorOfAxis a with
  | some d => (s.leafAxesOf d).contains a && s.lockType d == 0 && s.doors.door[d].leaf == .isolated
  | none => false

/-- What follows the end of a plan in a re-reference. -/
def State.refPlanEnd (s : State) (a : Axis) (met : Bool) : State :=
  match s.axes[a].ref with
  | none => s
  | some r => match r.stage with
    | .search => if met then s.refBack a else s.refFail a 1
    | .back => s.refFail a 2
    | .rest =>
      if s.returnsToLock a then
        (s.setStage a .lock).moveTo a .refLock none (s.xLock a) (s.lockLim a)
      else s.refDone a
    | .lock => s.modAxis a fun x => { x with
        ref := x.ref.map fun r => { r with stage := .waitProof, proofFrom := s.now } }
    | _ => s

/-- A plan reaches its end (R70): x exactly at the target, at rest; the settle time starts (R85). The
result byte of MO_MOVE_END is 0 at the target, 1 after a ramp stop (log 17). -/
def State.planEnd (s : State) (a : Axis) : State :=
  match s.axes[a].plan with
  | none => s
  | some p =>
    let stopped := p.kind == .rampStop
    let s1 := (s.modAxis a fun x => { x with
        x := p.target, v := 0, a := 0, plan := none, target := p.target, settleFrom := some s.now,
        band := 0, evacEnded := p.kind == .evacUncertain }).raise Ev.MO_MOVE_END [.u8 a.val, itemS (rdiv p.target ustep), .u8 (Bool.nat stopped)]
    let s2 := if p.kind == .jog then s1.endAxisCmd a ST_OK 0 (leBytes 4 (unsigned 32 (rdiv p.target ustep))) else s1
    s2.refPlanEnd a stopped

/-! ### The generator's tick (R66) -/

/-- Band limits of Table MO-3: lower bound in full steps/s and grid spacing. -/
def bandEnter (b : Nat) : Nat := match b with
  | 0 => 0 | 1 => 600 | 2 => 1500 | 3 => 3000 | _ => 5000
def bandGrid (b : Nat) : Nat := 4 ^ b

/-- The band that a speed asks for from a present band (R69). -/
def wantBand (cap present : Nat) (v : Nat) : Nat :=
  let up := (List.range (cap + 1)).foldl (fun n b => if bandEnter b * fullStep ≤ v then b else n) 0
  let down := (List.range (present + 1)).foldl (fun n b =>
    if 9 * bandEnter b * fullStep ≤ 10 * v then b else n) 0
  min cap (if present < up then up else down)

/-- Lead in addresses without its sign: round(1024 × atan2(U_q, U_p) / 2π), by bisection (R90). -/
def leadOf (up uq : Nat) : Nat → Nat → Nat → Nat
  | 0, lo, _ => lo
  | k + 1, lo, hi =>
    let m := (lo + hi + 1) / 2
    if m ≤ lo then lo
    else
      -- is the angle at least (m − ½) × 2π / 1024?
      let th := (2 * m - 1) * piNum * 1000 / 1024
      let quarter := piNum * 1000 / 2
      if sin18 th * up ≤ sin18 ((quarter : Int) - th) * uq then leadOf up uq k m hi
      else leadOf up uq k lo (m - 1)

/-- Doorway state in which the closing cap holds (R91, R127), and its force. -/
def State.closingForce (s : State) (a : Axis) : Option Nat :=
  match s.enabledDoors.find? fun d => (s.leafAxesOf d).contains a &&
      (s.doors.door[d].leaf == .closing || s.doors.door[d].leaf == .locking) with
  | some d => some (if s.doors.door[d].creep then s.op d 0x0F else s.op d 0x0B)
  | none => none

/-- Force current I_F of R127 for one lane, in mA. -/
def State.forceCurrent (s : State) (a : Axis) (f : Nat) : Nat :=
  let lanes := if s.twin a && !s.axes[a].derated then 2 else 1
  2000 * s.ap a 1 * f * piDen / (piNum * s.ap a 0x11 * lanes)

/-- Current amplitude in mA (R90), capped at 70 % for moves started hot (R96). -/
def State.currentOf (s : State) (a : Axis) : Nat :=
  let x := s.axes[a]
  if x.plan.isNone then s.ap a 0x14
  else
    let i := if x.a ≠ 0 then s.ap a 0x13 else if x.v ≠ 0 then s.ap a 0x12 else s.ap a 0x14
    if x.capMove then i * 70 / 100 else i

/-- Address, amplitude and lead of this tick (R64, R69, R90, R91, R128), with the demanded code and the
two limits that may cut it. -/
structure Drive where
  address : Nat
  lead : Int
  demanded : Nat
  forceCap : Option Nat
  amplitude : Nat
  band : Nat
  exact : Int
  deriving DecidableEq, Repr

def State.driveOf (s : State) (a : Axis) : Drive :=
  let x := s.axes[a]
  let dir : Int := if s.ap a 0 = 1 then -1 else 1
  let v := x.v.natAbs
  let i := s.currentOf a
  let vBus := max 1 x.vBus
  let up := s.ap a 0x0F * i + s.ap a 0x11 * v / fullStep * piNum / (2 * piDen)    -- uV
  let uq := s.ap a 0x10 * i * v / fullStep * piNum / (2 * piDen) / 1000           -- uV
  let u := isqrt (up * up + uq * uq)
  let lead : Int := if v = 0 then 0 else dir * sgn x.v * leadOf up uq 9 0 256
  let code := ndiv (4095 * u) (1000 * vBus)
  let force := (s.closingForce a).map fun f =>
    let wl := s.ap a 0x10 * v / fullStep * piNum / (2 * piDen)                    -- uOhm
    let z := isqrt ((s.ap a 0x0F * 1000) ^ 2 + wl ^ 2)
    ndiv (4095 * s.forceCurrent a f * z) (1000000 * vBus)
  let amp0 := min (min code (s.ap a 0x15)) (force.getD 4095)
  let amp := match x.wakeFrom with
    | some t => amp0 * min (s.since t) (s.ap a 0x18 * msec) / (s.ap a 0x18 * msec)
    | none => amp0
  let exact := (x.eOff.toNat : Int) + dir * rdiv x.x ustep + lead
  let crossed := (exact - 128) / 256 ≠ (x.exactPrev - 128) / 256 ∨ (exact - 128) % 256 = 0
  let want := wantBand (s.ap a 0x21) x.band v
  let band := if v = 0 ∧ x.plan.isNone then 0 else if crossed then want else x.band
  let g : Int := bandGrid band
  let address := if dir * sgn x.v < 0 then -((-(exact - 128)) / g * g) + 128
    else (exact - 128) / g * g + 128
  { address := unsigned 10 address, lead := lead, demanded := code, forceCap := force, amplitude := min amp 4095,
    band := band, exact := exact }

/-- Place the block of this tick in the downlink of the axis's modules (R99, R109). -/
def State.placeBlocks (s : State) (a : Axis) : State :=
  let x := s.axes[a]
  let checking : Bool := match x.ref with
    | some r => r.stage == .check
    | none => false
  let stranded : Bool := match s.doorOfAxis a with
    | some d => s.doors.door[d].stranded
    | none => false
  s.each (s.modulesOf a) fun s m =>
    let shift := if m = a then 0 else s.param (pTwin (a.val / 2) 4)
    let lane := x.lanes[laneIndex m] || !s.twin a
    let ramp := s.ap a 0x18 * msec
    let rejoin : Option Nat := match x.rejoining with
      | some (l, some t) => if l = laneIndex m then some t else none
      | _ => none
    let amp : Nat := match rejoin with
      | some t => x.amplitude.toNat * min (s.since t) ramp / max 1 ramp
      | none => x.amplitude.toNat
    let lane := lane || rejoin.isSome
    let checking := checking || (match x.rejoining with
      | some (l, none) => l == laneIndex m
      | _ => false)
    let mode : Nat := if checking then 3 else if s.power.parked then 1 else if !lane || x.coilsOff then 0
      else if x.driving then 2
      else if stranded then 1 else if s.ap a 0x17 = 1 then 0 else 1
    s.modAxMod m fun k => { k with down := {
      address := BitVec.ofNat 10 (x.address.toNat + shift),
      amplitude := if lane && x.driving then BitVec.ofNat 12 amp else 0,
      mode := BitVec.ofNat 8 mode, ackLoss := k.ackDue, armLatch := k.armed, latchSrc := k.latchSrc } }

/-- Segments of a table that have ended with the mark flag (R74). -/
def State.raiseMarks (s : State) (a : Axis) (p : Plan) (from_ upto : Nat) : State :=
  match p.body with
  | .table n _ _ gs => s.each ((List.range upto).filter fun k => decide (from_ ≤ k)) fun s k =>
      match gs[k]? with
      | some g => if g.flags.getLsbD 1 then s.raise Ev.MO_SEG_MARK [.u8 a.val, .u8 n, .u8 k] else s
      | none => s
  | .phases _ _ _ _ => s

/-- Advance the plan by one tick; the amplitude ramp comes first (R85). -/
def State.advancePlan (s : State) (a : Axis) : State :=
  let x := s.axes[a]
  match x.plan with
  | none => s
  | some p =>
    match x.wakeFrom with
    | some t =>
      if s.since t < s.ap a 0x18 * msec then s
      else s.modAxis a fun x => { x with wakeFrom := none }
    | none =>
      let t := p.elapsed + tickNs
      match planAt p.body t with
      | some (st, seg) =>
        (s.modAxis a fun x => { x with
          x := st.1, v := st.2.1, a := st.2.2, plan := some { p with elapsed := t, segDone := seg } }).raiseMarks
          a p p.segDone seg
      | none =>
        let n := match p.body with
          | .table _ _ _ gs => gs.length
          | .phases _ _ _ _ => 0
        (s.raiseMarks a p p.segDone n).planEnd a

/-- Take over a loaded microstep table or its selection at rest (R68). -/
def State.switchTable (s : State) (a : Axis) : State :=
  if s.axes[a].plan.isNone then s.modAxis a fun x => { x with
    custom := if x.customNext.isSome then x.customNext else x.custom, customNext := none,
    tableInUse := s.ap a 0x0E }
  else s

/-- One generator's tick after the requests: advance, address, amplitude, downlink. -/
def State.motionTick (s : State) (a : Axis) : State :=
  let s1 := (s.advancePlan a).switchTable a
  let x := s1.axes[a]
  let s2 := if decide (20 * tickNs < s1.since x.vBusAt) then s1.modAxis a fun x => { x with vBus := 66000 } else s1
  let d := s2.driveOf a
  let cut := decide (s2.ap a 0x15 < d.demanded) && x.driving && x.plan.isSome
  let capped := x.driving && x.plan.isSome && (match d.forceCap with
    | some c => decide (c < d.demanded)
    | none => false)
  let s3 := s2.modAxis a fun x => { x with
    address := if x.driving then BitVec.ofNat 10 d.address else x.address,
    amplitude := if x.driving then BitVec.ofNat 12 d.amplitude else 0,
    lead := d.lead, band := d.band, exactPrev := d.exact,
    voltRaised := x.voltRaised || cut, capRaised := x.capRaised || capped,
    history := (BitVec.ofNat 16 s2.tick16, BitVec.ofNat 10 d.address, rdiv x.x ustep) :: x.history.take 7,
    stopDue := false, freezeDue := none, replanned := false, limitStopDue := false }
  let s4 := if cut && !x.voltRaised then s3.raise Ev.MO_VOLT_LIMIT [.u8 a.val, .u16 d.demanded, .u32 x.vBus] else s3
  let s5 := if capped && !x.capRaised then
    s4.raise Ev.OB_FORCE_CAP [.u8 a.val, .u16 d.demanded, .u16 (d.forceCap.getD 0)] else s4
  s5.placeBlocks a

end Sys2Proof.Machine
end

