-- ==== Sys2Proof/Machine/Motion.lean ====
section
/-!
DEFINITION. Motion generation, chapter 03: the axis opcodes (Table MO-14, R450), the ends of plans and
settle times, limit switches (R83) and the events of a re-reference (R87 to R89).
-/

namespace Sys2Proof.Machine

/-! ### Checks shared by the axis opcodes -/

/-- An argument out of range: detail 0x8000 plus its byte offset (Table HR-16). -/
def argOff (i : Nat) : Nat := 0x8000 + i

/-- An axis number that names an axis: 0 to 3, and no upper lane of a pair (R107; log 20). -/
def State.axisArg (s : State) (a : Nat) : Option Axis :=
  match asFin 4 a with
  | some k => if s.axisOfLane k = k then some k else none
  | none => none

/-- Refuse a command whose party does not own the resource (R59). -/
def State.notOwner (s : State) (r : Req) (res : Resource) : Bool := s.ownerOf res != some r.party

def State.failOwner (s : State) (r : Req) (opcode : BitVec 15) (res : Resource) : State :=
  s.fail r opcode ST_NOT_OWNER (partyCode (s.ownerOf res))

/-- Its doorway is ISOLATED, or it belongs to none (Table DW-7). -/
def State.axisFree (s : State) (a : Axis) : Bool :=
  match s.doorOfAxis a with
  | some d => s.doors.door[d].leaf == .isolated
  | none => true

/-- A leaf axis whose lock proof is present (R52). -/
def State.lockedLeaf (s : State) (a : Axis) : Bool :=
  match s.doorOfAxis a with
  | some d => (s.leafAxesOf d).contains a && (s.lockedProofs s.activeCore d).any id
  | none => false

/-! ### Opcodes -/

/-- OP_AXIS_MOVE: a jog under axis.a.jog.v_max (Table MO-14, R450, R52, R80, R83, R228). -/
def State.doAxisMove (s : State) (r : Req) (n : Nat) (pos : Int) : State :=
  let oc := Opc.OP_AXIS_MOVE
  match s.axisArg n with
  | none => s.fail r oc ST_RANGE (argOff 16)
  | some a =>
    if s.notOwner r (.axis a.val) then s.failOwner r oc (.axis a.val)
    else if s.blocked || !s.axisIn a || s.driveFault a || !s.axisFree a || s.lockedLeaf a
        || s.axes[a].ref.isSome then s.fail r oc ST_STATE (s.axisStateDetail a)
    else
      let target := pos * ustep
      match s.limitAgainst a (target - s.axes[a].x) with
      | some w => s.fail r oc ST_LIMIT (a.val + 256 * w)
      | none =>
        let b := s.moveBody a none target (s.jogLim a)
        let ms : List Movement := [{ axis := a, from_ := 0, body := b.1, settles := true }]
        if s.noMoves false || !s.fits ms then (s.raiseRefused a.val ms).fail r oc ST_ENERGY (s.energyDetail ms)
        else
          let s1 := (s.abortWindow 1).endAxisCmd a ST_PREEMPTED r.hseq.toNat []
          let s2 := s1.modEnergy fun e => { e with
            priced := e.priced + (if s.supply.onStore then s.ePred ms else 0) }
          (s2.modAxis a fun x => { x with cmd := some { req := r, opcode := oc } }).beginPlan a .jog target
            b.1 b.2.1 b.2.2

def execOpAxisMove (r : Req) (a : Nat) (pos : Int) (s : State) : Host.Outcome State Fault Refusal :=
  .next (s.doAxisMove r a pos)

/-- OP_AXIS_HALT: the axis owner freezes the axis (R79). -/
def State.doAxisHalt (s : State) (r : Req) (n : Nat) : State :=
  let oc := Opc.OP_AXIS_HALT
  match s.axisArg n with
  | none => s.fail r oc ST_RANGE (argOff 16)
  | some a =>
    if s.notOwner r (.axis a.val) then s.failOwner r oc (.axis a.val)
    else if s.blocked then s.fail r oc ST_STATE (s.axisStateDetail a)
    else (s.freeze a 3 ST_PREEMPTED r.hseq.toNat).ok r oc []

def execOpAxisHalt (r : Req) (a : Nat) (s : State) : Host.Outcome State Fault Refusal := .next (s.doAxisHalt r a)

/-- OP_AXIS_REFERENCE (R87, R89, R450). -/
def State.doAxisReference (s : State) (r : Req) (n : Nat) : State :=
  let oc := Opc.OP_AXIS_REFERENCE
  match s.axisArg n with
  | none => s.fail r oc ST_RANGE (argOff 16)
  | some a =>
    let lockOk := !s.lockedLeaf a || (match s.doorOfAxis a with
      | some d => s.lockType d == 0
      | none => true)
    if s.notOwner r (.axis a.val) then s.failOwner r oc (.axis a.val)
    else if s.blocked || !s.axisIn a || s.axes[a].plan.isSome || s.axes[a].ref.isSome || s.ap a 0x1C == 3
        || !s.axisFree a || !lockOk then s.fail r oc ST_STATE (s.axisStateDetail a)
    else (s.abortWindow 1).refStart a (some { req := r, opcode := oc }) r.party false

def execOpAxisReference (r : Req) (a : Nat) (s : State) : Host.Outcome State Fault Refusal :=
  .next (s.doAxisReference r a)

/-- OP_AXIS_SET_POSITION: method 3 declares the position (Table MO-11, R104). -/
def State.doAxisSetPosition (s : State) (r : Req) (n : Nat) (pos : Int) : State :=
  let oc := Opc.OP_AXIS_SET_POSITION
  match s.axisArg n with
  | none => s.fail r oc ST_RANGE (argOff 16)
  | some a =>
    if s.notOwner r (.axis a.val) then s.failOwner r oc (.axis a.val)
    else if s.blocked || !s.axisIn a || s.driveFault a || s.ap a 0x1C != 3 || !s.axisFree a
        || s.axes[a].plan.isSome then s.fail r oc ST_STATE (s.axisStateDetail a)
    else
      let dir : Int := if s.param (pAxMod a.val 2) = 1 then -1 else 1
      let counts := dir * rdiv ((pos - signed 32 (s.ap a 0x1F)) * s.param (pAxMod a.val 1))
        (256 * s.param (pAxMod a.val 4))
      let s1 := (s.assignX a (pos * ustep)).modAxis a fun x => { x with
        uncertain := false, referenced := true, encUsable := true, cRef := x.enc - counts }
      s1.ok r oc (leBytes 4 (unsigned 32 pos))

def execOpAxisSetPosition (r : Req) (a : Nat) (pos : Int) (s : State) : Host.Outcome State Fault Refusal :=
  .next (s.doAxisSetPosition r a pos)

/-- The segments of a table image (Table MO-6). -/
def segsOf (bs : List Byte) (count : Nat) : List Segment :=
  (List.range count).map fun k =>
    { duration := u32At bs (16 * k), endPos := s32At bs (16 * k + 4), endVel := s32At bs (16 * k + 8),
      flags := BitVec.ofNat 32 (u32At bs (16 * k + 12)) }

/-- Reason byte of MO_TABLE_REFUSED (log 17). -/
def segFailCode : SegFail → Nat
  | .form => 1 | .position => 2 | .accel => 3 | .jerk => 4 | .speed => 5

/-- Put a table among the stored ones, in number order. -/
def putTable (ts : List SegTable) (t : SegTable) : List SegTable :=
  (ts.filter fun u => decide (u.number < t.number)) ++ [t] ++ (ts.filter fun u => decide (t.number < u.number))

/-- A stored table runs on an axis (R76). -/
def State.tableRunning (s : State) (a : Axis) (number : Nat) : Bool :=
  match s.axes[a].plan with
  | some p => (match p.body with
    | .table k _ _ _ => k == number
    | .phases _ _ _ _ => false)
  | none => false

/-- OP_SEG_TABLE_LOAD (R74 to R76). -/
def State.doSegTableLoad (s : State) (r : Req) (n number count : Nat) (x0 : Int) : State :=
  let oc := Opc.OP_SEG_TABLE_LOAD
  match asFin 4 n with
  | none => s.fail r oc ST_RANGE (argOff 16)
  | some a =>
    if 15 < number then s.fail r oc ST_RANGE (argOff 17)
    else if count = 0 ∨ 64 < count then s.fail r oc ST_RANGE (argOff 18)
    else if r.bufLen ≠ 16 * count then s.fail r oc ST_RANGE (argOff 32)
    else if s.notOwner r .paramSet then s.failOwner r oc .paramSet
    else
      if s.tableRunning a number then s.fail r oc ST_STATE (s.axisStateDetail a)
      else match r.buf with
        | none => s.fail r oc ST_DMA 24
        | some bs =>
          let segs := segsOf bs count
          let lo : Int := -(256 * (s.ap a 0x0C : Int))
          let hi : Int := 256 * (s.ap a 3 : Int)
          match segsCheck lo hi (max (s.ap a 4) (s.ap a 5)) (s.ap a 6) (s.ap a 7) 0 x0 0 segs with
          | some (k, why) =>
            (s.raise Ev.MO_TABLE_REFUSED [.u8 0, .u8 a.val, .u8 number, .u16 k, .u8 (segFailCode why)]).fail
              r oc ST_RANGE (0xC000 + 16 * k)
          | none =>
            if !inTravel lo hi x0 then
              (s.raise Ev.MO_TABLE_REFUSED [.u8 0, .u8 a.val, .u8 number, .u16 0, .u8 2]).fail
                r oc ST_RANGE (argOff 20)
            else
              let crc := crc32 (slice bs 0 (16 * count))
              let s1 := s.modAxis a fun x => { x with
                tables := putTable x.tables { number := number, x0 := x0, segs := segs } }
              (s1.raise Ev.MO_TABLE_LOADED [.u8 0, .u8 a.val, .u8 number, .u32 crc.toNat]).ok r oc
                (leBytes 4 crc.toNat)

def execOpSegTableLoad (r : Req) (a number count : Nat) (x0 : Int) (s : State) :
    Host.Outcome State Fault Refusal := .next (s.doSegTableLoad r a number count x0)

/-- The first failure of a microstep image (R68): case 1 to 4, entry, and byte offset. -/
def mstepFail (bs : List Byte) : Option (Nat × Nat × Nat) :=
  let es := (List.range 1024).map fun n => s16At bs (2 * n)
  if (crc32 (slice bs 0 2048)).toNat ≠ u32At bs 2048 then some (1, 0, 2048)
  else match es.findIdx? fun e => decide (2047 < e.natAbs) with
    | some n => some (2, n, 2 * n)
    | none => match (List.range 512).find? fun n => es.getD (n + 512) 0 != -(es.getD n 0) with
      | some n => some (3, n, 2 * n + 1024)
      | none => if es.all fun e => decide (e < 1024) then some (4, 0, 0) else none

/-- OP_MSTEP_TABLE_LOAD (R68). -/
def State.doMstepTableLoad (s : State) (r : Req) (n : Nat) : State :=
  let oc := Opc.OP_MSTEP_TABLE_LOAD
  match asFin 4 n with
  | none => s.fail r oc ST_RANGE (argOff 16)
  | some a =>
    if r.bufLen ≠ 2052 then s.fail r oc ST_RANGE (argOff 32)
    else if s.notOwner r .paramSet then s.failOwner r oc .paramSet
    else match r.buf with
      | none => s.fail r oc ST_DMA 24
      | some bs => match mstepFail bs with
        | some (why, entry, at_) =>
          (s.raise Ev.MO_TABLE_REFUSED [.u8 1, .u8 a.val, .u8 1, .u16 entry, .u8 why]).fail r oc ST_RANGE
            (0xC000 + at_)
        | none =>
          let es := (List.range 1024).map fun n => s16At bs (2 * n)
          let s1 := s.modAxis a fun x => { x with customNext := some es }
          ((s1.switchTable a).raise Ev.MO_TABLE_LOADED [.u8 1, .u8 a.val, .u8 1, .u32 (u32At bs 2048)]).ok r oc []

def execOpMstepTableLoad (r : Req) (a : Nat) (s : State) : Host.Outcome State Fault Refusal :=
  .next (s.doMstepTableLoad r a)

/-! ### Ends of plans and settle times -/

/-- MOVE_END (R70). -/
def execMoveEnd (a : Axis) (s : State) : Host.Outcome State Fault Refusal :=
  .next (match s.axes[a].plan with
    | some p => (s.until (s.now + p.left)).planEnd a
    | none => s)

/-- STANDSTILL_SETTLE (R85). -/
def execStandstillSettle (a : Axis) (s : State) : Host.Outcome State Fault Refusal :=
  .next (match s.axes[a].settleFrom with
    | some t => (s.until (t + s.ap a 0x16 * msec)).standstill a
    | none => s)

/-- WAKE_RAMP_END (R85). -/
def execWakeRampEnd (a : Axis) (s : State) : Host.Outcome State Fault Refusal :=
  .next (match s.axes[a].wakeFrom with
    | some t => (s.until (t + s.ap a 0x18 * msec)).modAxis a fun x => { x with wakeFrom := none }
    | none => s)

/-! ### Limit switches (R83) -/

/-- A limit input becomes active while the axis moves towards it: freeze in hard mode, ramp stop in ramp
mode; during a re-reference the reference sequence acts instead, and an evacuation open of an uncertain
leaf ends there (R80). -/
def State.limitMet (s : State) (a : Axis) (b : Bool) : State :=
  let x := s.axes[a]
  let s0 := s.modAxis a fun x => { x with limits := updV x.limits (if b then (1 : Fin 2) else 0) fun _ => true }
  let towards := if b then decide (0 < x.v) else decide (x.v < 0)
  if x.ref.isSome || !towards then s0
  else
    let hard := s.ap a 0x1A = 0
    let evac := b && x.plan.any fun p => p.kind == .evacUncertain
    let s1 := (s0.modAxis a fun x => { x with evacEnded := evac }).raise Ev.MO_LIMIT [.u8 a.val, .u8 (Bool.nat b), .u8 (s.ap a 0x1A), .u16 x.speedFs]
    let detail := a.val + 256 * Bool.nat b
    if hard then s1.freeze a 2 ST_LIMIT detail
    else (s1.rampStop a).endAxisCmd a ST_LIMIT detail []

def execLimitReached (a : Axis) (b : Bool) (s : State) : Host.Outcome State Fault Refusal := .next (s.limitMet a b)

/-! ### Re-reference events -/

def State.refStageIs (s : State) (a : Axis) (st : RefStage) : Bool :=
  match s.axes[a].ref with
  | some r => r.stage == st
  | none => false

/-- REF_SWITCH_MET (R87, step 2). -/
def execRefSwitchMet (a : Axis) (s : State) : Host.Outcome State Fault Refusal :=
  let w : Fin 2 := if s.ap a 0x1C = 1 then 1 else 0
  let s1 := s.modAxis a fun x => { x with limits := updV x.limits w fun _ => true }
  .next (if s.refStageIs a .search then s1.refMet a else s1)

/-- REF_LATCH (R87, step 4). -/
def execRefLatch (a : Axis) (latchCount : BitVec 32) (s : State) : Host.Outcome State Fault Refusal :=
  let w : Fin 2 := if s.ap a 0x1C = 1 then 1 else 0
  let s1 := s.modAxis a fun x => { x with limits := updV x.limits w fun _ => false }
  .next (if s.refStageIs a .back then s1.refLatched a latchCount else s)

/-- REF_SEARCH_FAIL (R87): the search has run its whole length. -/
def execRefSearchFail (a : Axis) (s : State) : Host.Outcome State Fault Refusal :=
  .next (if s.refStageIs a .search then
    ((s.modAxis a fun x => { x with ref := x.ref.map fun r => { r with stage := .waitProof } }).planEnd a).refFail a 1
  else s)

/-- REF_LATCH_FAIL (R87): backing off has run 64 full steps. -/
def execRefLatchFail (a : Axis) (s : State) : Host.Outcome State Fault Refusal :=
  .next (if s.refStageIs a .back then
    ((s.modAxis a fun x => { x with ref := x.ref.map fun r => { r with stage := .waitProof } }).planEnd a).refFail a 2
  else s)

/-- Counts the encoder scale predicts for 64 full steps (R88). -/
def State.expected64 (s : State) (a : Axis) : Nat := 64 * s.param (pAxMod a.val 1) / max 1 (s.param (pAxMod a.val 4))

/-- The encoder shows too few counts in the commanded direction (R88): freeze, MO_ENC_DIRECTION, reason 3. -/
def State.encWrong (s : State) (a : Axis) : State :=
  match s.axes[a].ref with
  | some r =>
    let seen := s.axes[a].enc - r.startEnc
    let s1 := s.modAxis a fun x => { x with ref := none }
    let s2 := s1.raise Ev.MO_ENC_DIRECTION [.u8 a.val, itemS seen, .u32 (s.expected64 a)]
    let c := s2.axes[a].cmd
    let s3 := (s2.modAxis a fun x => { x with cmd := none }).freeze a 8 ST_REF_FAIL 3
    (s3.modAxis a fun x => { x with ref := some r, cmd := c }).refFail a 3
  | none => s

def execEncDirection (a : Axis) (s : State) : Host.Outcome State Fault Refusal :=
  .next (if s.hasEncoder a && (s.refStageIs a .search || s.refStageIs a .back) then s.encWrong a else s)

/-- REF_LOCK_TIMEOUT (R89): reason 5; the axis keeps its reference. -/
def execRefLockTimeout (a : Axis) (s : State) : Host.Outcome State Fault Refusal :=
  .next (match s.axes[a].ref, s.doorOfAxis a with
    | some r, some d =>
      if r.stage == .waitProof then (s.until (r.proofFrom + s.dp d 0x1C * msec)).refFail a 5 else s
    | _, _ => s)

/-- The per-tick side of a re-reference: the encoder test at 64 full steps (R88) and the return of the lock
proofs (R89). -/
def State.refTick (s : State) (a : Axis) : State :=
  match s.axes[a].ref with
  | none => s
  | some r =>
    let gone := (s.axes[a].x - r.startX).natAbs
    if (r.stage == .search || r.stage == .back) && s.hasEncoder a && !r.encChecked
        && decide (64 * fullStep ≤ gone) then
      let dir : Int := (if s.param (pAxMod a.val 2) = 1 then -1 else 1) * sgn (s.axes[a].x - r.startX)
      if 2 * (dir * (s.axes[a].enc - r.startEnc)) < (s.expected64 a : Int) then s.encWrong a
      else s.modAxis a fun x => { x with ref := x.ref.map fun r => { r with encChecked := true } }
    else if r.stage == .search && s.refSwitch a && s.axes[a].plan.any (fun p => p.kind == .refSearch) then s.refMet a
    else if (r.stage == .rest || r.stage == .lock) && s.axes[a].plan.isNone then s.refPlanEnd a true
    else if r.stage == .waitProof then
      match s.doorOfAxis a with
      | some d =>
        if s.allLocked s.activeCore d then s.refDone a
        else if decide (s.dp d 0x1C * msec ≤ s.since r.proofFrom) then s.refFail a 5 else s
      | none => s.refDone a
    else s

end Sys2Proof.Machine
end

