-- ==== Sys2Proof/Machine/Sequences.lean ====
section
/-!
DEFINITION. The doorway's sequences (chapter 02): leaf and step machines (Tables DW-3, DW-4), locks (R41),
milestones (R54), the emergency handle (R50), isolation (R51, R52), obstacles' reaction (R120 to R125), and
the checks and acceptance of door commands (R43, R46, R47, R62).
-/

namespace Sys2Proof.Machine

/-- Cause byte of EV 0x040 and EV 0x041 (log 17). -/
inductive Cause where
  | command | input | timeout | obstacle | done | lossAction | energy | reset | power
  deriving DecidableEq, Repr

def causeCode : Cause → Nat
  | .command => 0 | .input => 1 | .timeout => 2 | .obstacle => 3 | .done => 4 | .lossAction => 5
  | .energy => 6 | .reset => 7 | .power => 8

/-! ### Cycle records (R378) -/

/-- Ticks since the running cycle began. -/
def State.cycleTick (s : State) (d : Doorway) : Nat :=
  match s.journal.cycleFrom[d] with
  | some t => (s.now - t) / tickNs
  | none => 0

/-- Note something in the running cycle record. -/
def State.noteCycle (s : State) (d : Doorway) (f : CycleRec → CycleRec) : State :=
  if s.journal.cycleFrom[d].isSome then
    s.modJournal fun j => { j with cycle := updV j.cycle d f }
  else s

/-- A cycle begins as CLOSED_LOCKED is left. -/
def State.beginCycle (s : State) (d : Doorway) : State :=
  s.modJournal fun j => { j with
    cycleFrom := updV j.cycleFrom d fun _ => some s.now,
    cycle := updV j.cycle d fun c => { c with stamp := s.tai, doorId := s.doorId d.val } }

/-- A cycle ends: its record is staged (Table JR-2). -/
def State.endCycle (s : State) (d : Doorway) (kind : Nat) : State :=
  if s.journal.cycleFrom[d].isNone then s
  else
    let c := { s.journal.cycle[d] with
      endKind := kind, tier := tierCode s.frame.doorTier[d], cycleNo := s.journal.cycleNo[d] + 1 }
    (s.stage (s.mkRecord true c.stamp (.cycle c) none)).modJournal fun j => { j with
      cycleNo := updV j.cycleNo d fun n => n + 1,
      cycleFrom := updV j.cycleFrom d fun _ => none,
      cycle := updV j.cycle d fun _ => {} }

/-! ### Milestones (R54, Table DW-6) -/

/-- Stamp milestone `k` and report it; its data are the door identity and the direction. -/
def State.milestone (s : State) (d : Doorway) (k : Fin 6) (direction : Nat) : State :=
  let t := s.cycleTick d
  let s1 := s.noteCycle d fun c =>
    if k = 0 then { c with tWarn := some t }
    else if k = 1 then { c with tClose := some t }
    else if k = 2 then
      if direction = 1 then { c with tPassOpen := if c.tPassOpen.isSome then c.tPassOpen else some t }
      else { c with tPassClose := some t }
    else if k = 3 then { c with tClosed := some t }
    else if k = 4 then { c with tLocked := some t }
    else { c with tStepStowed := some t }
  let s2 := ((s1.modDoor d fun x => { x with stamps := updV x.stamps k fun _ => s.tai }).modPanel fun p => { p with
    msSeq := updV p.msSeq d (· + 1),
    msLast := updV p.msLast d fun _ => BitVec.ofNat 8 (k.val + (if k = 2 then 16 * direction else 0)),
    reqFlags := p.reqFlags ||| 0x01 }).raise
    (Ev.MS_WARN_START + BitVec.ofNat 10 k.val) [.u16 (s.doorId d.val), .u8 direction]
  if s.param 0x524 = 1 then
    s2.sendFallback 4 (leBytes 1 (k.val + 8 * d.val + 16 * direction) ++ leBytes 1 (qualityCode s.time.quality)
      ++ leBytes 6 s.tai)
  else s2

/-- Byte 7 of the STATUS message (Table MB-12). -/
def State.statusFlags (s : State) (d : Doorway) : Nat :=
  let core := s.activeCore
  maskOf 6 fun i => match i with
    | 0 => s.anyUncertain d
    | 1 => s.doors.door[d].isolationPending
    | 2 => !s.handleInactive core d
    | 3 => s.released core d
    | 4 => s.zeroSpeed core
    | _ => s.allLocked core d

/-- STATUS message of a doorway (Table MB-12). -/
def State.sendStatus (s : State) (d : Doorway) : State :=
  let x := s.doors.door[d]
  let flags := s.statusFlags d
  s.sendFallback 5 (leBytes 1 d.val ++ leBytes 1 (leafCode x.leaf)
    ++ leBytes 1 (if hasStep s.param d.val then stepCode x.step else 15)
    ++ leBytes 1 (partyCode (s.ownerOf (.doorway d.val))) ++ leBytes 2 (s.width d) ++ leBytes 1 (min 255 x.reopens)
    ++ leBytes 1 flags)

/-! ### Completions of door commands -/

def kindOpcode : DoorCmdKind → BitVec 15
  | .open _ => Opc.OP_DOOR_OPEN | .evac => Opc.OP_DOOR_EVAC_OPEN | .close => Opc.OP_DOOR_CLOSE
  | .stop => Opc.OP_DOOR_STOP | .reset => Opc.OP_DOOR_RESET

/-- Complete the command that runs, with every merged request. -/
def State.endCmd (s : State) (d : Doorway) (status : Byte) (detail : Nat) (result : List Byte) : State :=
  match s.doors.door[d].cmd with
  | none => s
  | some c => (s.modDoor d fun x => { x with cmd := none }).completeAll c.reqs (kindOpcode c.kind) status detail result

/-- An open ends in OPEN: ST_OK, or ST_PARTIAL when it was admitted to the passable width (R229). -/
def State.endOpen (s : State) (d : Doorway) : State :=
  let w := s.width d
  if s.doors.door[d].openPartial then
    (s.noteCycle d fun c => { c with flags := c.flags ||| 0x02 }).endCmd d ST_PARTIAL w (leBytes 2 w)
  else s.endCmd d ST_OK 0 (leBytes 2 w)

/-! ### States -/

def DoorSt.clearAsks (x : DoorSt) : DoorSt :=
  { x with openAsked := false, evacAsked := false, closeAsked := false }

/-- Enter a leaf state: DW_STATE, the outputs of R53, milestones, and the cycle record. -/
def State.enterLeaf (s : State) (d : Doorway) (new : Leaf) (cause : Cause) : State :=
  let old := s.doors.door[d].leaf
  let s0 := if old == .closedLocked && new != .closedLocked && new != .isolated then s.beginCycle d else s
  let s1 := ((s0.modDoor d fun x => { x with
      leaf := new, leafSince := s.now, moved := true,
      rampToOpen := false, settleWhy := 0,
      chime := new == .warn,
      warnLamp := if new == .warn then true else if new == .opened || new == .opening then false else x.warnLamp,
      creep := x.creep && new == .closing,
      reopenDone := false, restSince := none,
      stranded := x.stranded && new == .opened,
      lockRetries := if new == .locking && old != .locking then 0 else x.lockRetries,
      warnAfterRest := x.warnAfterRest && (new == .opened || new == .opening) }).raise
    Ev.DW_STATE [.u16 (s.doorId d.val), .u8 (leafCode old), .u8 (leafCode new), .u8 (causeCode cause)]).sendStatus d
  match new with
  | .warn => s1.milestone d 0 0
  | .closing => if old == .warn then s1.milestone d 1 0 else s1
  | .locking => if old == .locking then s1 else s1.milestone d 3 0
  | .opened => s1.noteCycle d fun c => { c with tOpen := if c.tOpen.isSome then c.tOpen else some (s.cycleTick d) }
  | .closedLocked =>
    let s2 := s1.modDoor d fun x => { x with
      reopens := 0, stepRequest := false, warnLamp := if old == .locking then false else x.warnLamp }
    let s3 := if old == .locking then s2.milestone d 4 0 else s2
    let xs := s.leafAxesOf d
    let posOf (k : Nat) : Int := match xs[k]? with
      | some a => s.axes[a].pos
      | none => 0
    (s3.noteCycle d fun c => { c with xLock0 := posOf 0, xLock1 := posOf 1 }).endCycle d 0
  | .emergencyReleased => s1.noteCycle d fun c => { c with flags := c.flags ||| 0x10 }
  | .fault => s1.noteCycle d fun c => { c with flags := c.flags ||| 0x20 }
  | .isolated => s1.modDoor d fun x => { x with isolationPending := false, isoLost := false }
  | _ => s1

/-- Enter a step state: DW_STEP_STATE, MS_STEP_STOWED and the cycle record. -/
def State.enterStep (s : State) (d : Doorway) (new : StepSt) (cause : Cause) : State :=
  let old := s.doors.door[d].step
  let s1 := (s.modDoor d fun x => { x with
      step := new, stepSince := s.now,
      stepRestow := if new == .deployed then x.stepRestow else none,
      stepRetries := if new == .stowed then 0 else x.stepRetries }).raise
    Ev.DW_STEP_STATE [.u16 (s.doorId d.val), .u8 (stepCode old), .u8 (stepCode new), .u8 (causeCode cause)]
  match new with
  | .stowed => if old == .stowing then s1.milestone d 5 0 else s1
  | .deployed => s1.noteCycle d fun c => { c with tStepDeployed := some (s.cycleTick d), flags := c.flags ||| 0x40 }
  | .stepFault => match s.stepAxisOf d with
    | some a => s1.rampStop a
    | none => s1
  | _ => s1

/-- Stop every running leaf plan with a ramp. -/
def State.rampLeaves (s : State) (d : Doorway) : State := s.each (s.leafAxesOf d) fun s a => s.rampStop a

/-- Enter FAULT (R43): the leaf axes freeze, the lock stays, the command ends with the cause (R62). -/
def State.enterFault (s : State) (d : Doorway) (cause : Cause) : State :=
  let s1 := s.each (s.leafAxesOf d) fun s a =>
    if s.axes[a].plan.isSome then s.freeze a 1 ST_PREEMPTED 0 else s
  ((s1.enterLeaf d .fault cause).endCmd d ST_STATE (leafCode .fault) []).modDoor d fun x => x.clearAsks

/-- DW_TIMEOUT, then FAULT. -/
def State.leafTimeout (s : State) (d : Doorway) (n : Nat) : State :=
  (s.raise Ev.DW_TIMEOUT [.u16 (s.doorId d.val), .u8 n]).enterFault d .timeout

/-! ### Locks (R41) -/

def State.releaseLock (s : State) (d : Doorway) : State :=
  if s.lockType d = 0 then
    s.each (s.leafAxesOf d) fun s a =>
      if s.axes[a].x < 0 then s.moveTo a .lockOut none 0 (s.lockLim a) else s
  else s.modDoor d fun x => { x with lockDrive := s.lockType d == 1 }

def State.engageLock (s : State) (d : Doorway) : State :=
  if s.lockType d = 0 then
    s.each (s.leafAxesOf d) fun s a =>
      if s.xLock a < s.axes[a].x then s.moveTo a .lockIn none (s.xLock a) (s.lockLim a) else s
  else s.modDoor d fun x => { x with lockDrive := s.lockType d == 2 }

/-! ### Moves of a doorway -/

/-- Start or replace the open move (R42, R47); an uncertain leaf of an evacuation open runs at
axis.a.ref.v_search to its open-side limit (R80). -/
def State.startOpen (s : State) (d : Doorway) (evac : Bool) : State :=
  s.each (s.leafAxesOf d) fun s a =>
    if evac && s.axes[a].uncertain then
      if s.axes[a].limits[(1 : Fin 2)] then s.modAxis a fun x => { x with evacEnded := true }
      else s.moveTo a .evacUncertain none (s.axes[a].x + (s.ap a 3 * fullStep : Nat)) (s.searchLim a)
    else s.moveTo a .open (some true) (s.openTarget d a s.doors.door[d].openPartial) (s.openLim a)

/-- A leaf is at a position within one microstep. -/
def AxisSt.at_ (x : AxisSt) (target : Int) : Bool := decide ((x.x - target).natAbs < ustep)

/-- Every leaf is at its open target. -/
def State.atOpenTarget (s : State) (d : Doorway) : Bool :=
  (s.leafAxesOf d).all fun a => s.axes[a].at_ (s.openTarget d a s.doors.door[d].openPartial)

/-- The open move is over: every leaf at rest at its target, or, uncertain, at the end of its travel. -/
def State.openReached (s : State) (d : Doorway) : Bool :=
  s.leavesAtRest d && (s.leafAxesOf d).all fun a =>
    (s.axes[a].uncertain && s.axes[a].evacEnded) || s.axes[a].at_ (s.openTarget d a s.doors.door[d].openPartial)

/-- The speed the close may have (R118). -/
def State.creepCap (s : State) (d : Doorway) : Option Nat :=
  if s.doors.door[d].creep then some (s.op d 0x0E) else none

def State.startClose (s : State) (d : Doorway) : State :=
  s.each (s.leafAxesOf d) fun s a =>
    s.moveTo a .close (some false) (s.fullTarget a false 0) (s.closeLim a (s.creepCap d))

/-- Is the step asked for by an accepted open (Table DW-4, R45)? -/
def State.stepWanted (s : State) (d : Doorway) : Bool :=
  match s.stepAxisOf d with
  | some a => s.doors.door[d].step != .stepFault && s.axisIn a
      && (s.dp d 0x05 == 1 || s.doors.door[d].stepRequest)
  | none => false

/-- Deploy: a move to x_dep (R449). -/
def State.startDeploy (s : State) (d : Doorway) (cause : Cause) : State :=
  match s.stepAxisOf d with
  | some a => (s.enterStep d .deploying cause).moveTo a .deploy (some true) (s.fullTarget a true (s.xDep a)) (s.openLim a)
  | none => s

def State.startStow (s : State) (d : Doorway) (cause : Cause) : State :=
  match s.stepAxisOf d with
  | some a => (s.enterStep d .stowing cause).moveTo a .stow (some false) (s.fullTarget a false 0) (s.closeLim a none)
  | none => s

/-! ### Obstacles (R117 to R125) -/

/-- Reopen target of a leaf (R121). -/
def State.reopenTarget (s : State) (d : Doorway) (a : Axis) : Int :=
  let full := s.xOpen d a
  if s.op d 0x07 = 1 then full
  else min full (s.axes[a].x + (ndiv (256000 * s.op d 0x08 * ustep) (s.dp d 0x02 * max 1 (s.ap a 1)) : Nat))

/-- An obstacle on a doorway in CLOSING or LOCKING (R120, R122, R123). -/
def State.obstacle (s : State) (d : Doorway) (src : Nat) : State :=
  let x := s.doors.door[d]
  if x.leaf == .closing || x.leaf == .locking then
    let both := x.stopAsked || x.rampToOpen
    let s1 := s.each (s.leafAxesOf d) fun s a =>
      s.reverseTo a .reopen (if both then none else some (s.reopenTarget d a)) (s.openLim a)
    let s2 := if s.lockType d = 0 then s1
      else s1.modDoor d fun x => { x with lockDrive := s.lockType d == 1 && x.leaf == .locking }
    let s3 := (s2.enterLeaf d .reopening .obstacle).modDoor d fun x => { x with
      reopens := x.reopens + 1, revFrom := some s.now }
    let s4 := s3.modObst d fun o => { o with lastSource := src, raised := none, stopWithRev := both }
    let s5 := s4.noteCycle d fun c => { c with
      obstacles := min 255 (c.obstacles + 1), sources := c.sources ||| BitVec.ofNat 8 (2 ^ src) }
    s5.raise Ev.OB_OBSTACLE [.u16 (s.doorId d.val), .u8 src, .u16 (s.width d), .u8 (x.reopens + 1)]
  else s

/-- The reopen target is reached (R122): OB_REOPEN_DONE, then the pause, or OPEN with OB_PERSISTENT. -/
def State.reopenEnd (s : State) (d : Doorway) : State :=
  let x := s.doors.door[d]
  let s1 := (s.raise Ev.OB_REOPEN_DONE [.u16 (s.doorId d.val), .u16 (s.width d)]).modDoor d fun x =>
    { x with reopenDone := true, pauseFrom := s.now }
  if s.op d 0x09 ≤ x.reopens then
    let s2 := (s1.enterLeaf d .opened .obstacle).modDoor d fun x =>
      { x with persistent := true, dwellSuspended := true }
    let s3 := s2.noteCycle d fun c => { c with flags := c.flags ||| 0x08 }
    (s3.raise Ev.OB_PERSISTENT [.u16 (s.doorId d.val), .u8 s.obst[d].lastSource]).endCmd d ST_STATE
      (leafCode .opened) []
  else s1

/-- A step obstacle in STOWING (R125, Table DW-4): deploy again, or STEP_FAULT with no retries left. -/
def State.stepObstacle (s : State) (d : Doorway) (src : Nat) : State :=
  match s.stepAxisOf d with
  | none => s
  | some a =>
    let x := s.doors.door[d]
    if x.step != .stowing then s
    else
      let left := s.dp d 0x1F - x.stepRetries
      let s1 := (s.raise Ev.OB_STEP_OBSTACLE [.u16 (s.doorId d.val), .u8 src, .u8 (left - 1)]).noteCycle d fun c =>
        { c with stepRetries := min 255 (c.stepRetries + 1) }
      if left = 0 then
        (s1.reverseTo a .deploy none (s.openLim a)).enterStep d .stepFault .obstacle
      else
        let s2 := (s1.enterStep d .deploying .obstacle).modDoor d fun x =>
          { x with stepRetries := x.stepRetries + 1, stepRestow := some 0 }
        s2.reverseTo a .deploy (some (s.xDep a)) (s.openLim a)

/-! ### Emergency handle (R50) -/

/-- Enter EMERGENCY_RELEASED: report, stop with a ramp, and release where zero speed is ACTIVE or
door.d.emerg.at_speed is 1. -/
def State.emergency (s : State) (d : Doorway) : State :=
  let zs := s.zeroSpeed s.activeCore
  let release := zs || s.dp d 0x21 == 1
  let assist := release && zs && s.dp d 0x20 == 1
  let s1 := (s.rampLeaves d).each ((s.stepAxisOf d).toList) fun s a => s.rampStop a
  let s2 := (s1.enterLeaf d .emergencyReleased .input).modDoor d fun x => { x.clearAsks with
    emergStage := if release then 0 else 4, assisted := assist, handleMayReset := false,
    handleInactiveAt := none, stopAsked := false }
  let zsCode := match s.pairVal s.activeCore (s.param 0x085) with
    | .inactive => 0 | .active => 1 | .discrepant => 2
  let s3 := s2.raise Ev.DW_EMERGENCY_HANDLE
    [.u16 (s.doorId d.val), .u8 zsCode, .u8 (if assist then 2 else if release then 1 else 0)]
  s3.endCmd d ST_STATE (leafCode .emergencyReleased) []

/-- The sequence of R50 as the leaves come to rest. -/
def State.emergencyStep (s : State) (d : Doorway) : State :=
  let x := s.doors.door[d]
  let free (s : State) : State :=
    (s.each (s.leafAxesOf d) fun s a => (s.coilsOff a).makeUncertain a 4).modDoor d fun x => { x with emergStage := 3 }
  if !s.leavesAtRest d then s
  else match x.emergStage with
    | 0 => (s.releaseLock d).modDoor d fun x => { x with emergStage := 1 }
    | 1 =>
      if x.assisted then
        ((s.modDoor d fun x => { x with emergStage := 2, openPartial := false }).startOpen d true)
      else free s
    | 2 => free s
    | _ => s

/-! ### The leaf machine (Table DW-3) -/

/-- Come to rest in OPEN after a ramp: the open, or the stranded close, completes (R106, R232, R233). -/
def State.settleOpen (s : State) (d : Doorway) : State :=
  let x := s.doors.door[d]
  let w := s.width d
  let s1 := s.enterLeaf d .opened (if x.settleWhy = 2 then .energy else .command)
  match x.cmd with
  | none => s1
  | some c => match c.kind with
    | .close =>
      if x.stranded then
        let s2 := s1.raise Ev.EN_STRANDED ([.u16 (s.doorId d.val)]
          ++ ((s.leafAxesOf d).map fun a => itemS s.axes[a].pos) ++ [.u16 w])
        (s2.noteCycle d fun c => { c with flags := c.flags ||| 0x04 }).endCmd d ST_ENERGY x.energyDetail []
      else s1
    | .open _ | .evac =>
      if x.settleWhy = 2 then
        if s.dp d 0x16 ≤ w then
          (s1.noteCycle d fun c => { c with flags := c.flags ||| 0x02 }).endCmd d ST_PARTIAL w (leBytes 2 w)
        else s1.endCmd d ST_ENERGY x.energyDetail []
      else if x.settleWhy = 3 then s1.endCmd d ST_PREEMPTED 0 []
      else s1.endOpen d
    | _ => s1

/-- An open accepted while the leaves move or rest: OPENING, or OPEN where they are at the target. -/
def State.takeOpen (s : State) (d : Doorway) : State :=
  let evac := s.doors.door[d].evacAsked
  let s1 := s.modDoor d fun x => { x.clearAsks with rampToOpen := false, settleWhy := 0 }
  if s1.atOpenTarget d && s1.leavesAtRest d then
    (if s1.doors.door[d].leaf == .opened then s1 else s1.enterLeaf d .opened .command).endOpen d
  else (s1.enterLeaf d .opening .command).startOpen d evac

/-- The warning is over (R53, R228): the close is priced on store energy, then CLOSING. -/
def State.endWarn (s : State) (d : Doorway) : State :=
  let ms := s.closeMoves d
  if !s.fits ms then
    ((s.raiseRefused (s.doorId d.val) ms).enterLeaf d .opened .energy).endCmd d ST_ENERGY (s.energyDetail ms) []
  else
    let s1 := s.noteCycle d fun c => if s.supply.onStore then { c with eStore := c.eStore + s.ePred ms } else c
    (s1.enterLeaf d .closing .command).startClose d

/-- One evaluation of Table DW-3: the first transition whose condition holds, at most one per tick. -/
def State.leafStep (s : State) (d : Doorway) : State :=
  let x := s.doors.door[d]
  let core := s.activeCore
  let asked := x.openAsked || x.evacAsked
  let waited (o : Nat) : Bool := decide (s.dp d o * msec ≤ s.since x.leafSince)
  if x.moved || !s.enabled d then s
  else if x.leaf != .isolated && x.leaf != .emergencyReleased && !s.handleInactive core d then s.emergency d
  else match x.leaf with
    | .closedLocked =>
      if x.keyOn && s.stepStowed core d then
        ((s.enterLeaf d .isolated .input).endCmd d ST_STATE (leafCode .isolated) []).modDoor d DoorSt.clearAsks
      else if !s.allProven core d then
        (s.raise Ev.DW_LOCK_LOST [.u16 (s.doorId d.val), .u8 (s.missingProofs core d)]).enterFault d .input
      else if asked && (!x.stepAsked || x.step == .deployed || x.step == .stepFault) then
        (s.enterLeaf d .unlocking .command).releaseLock d
      else s
    | .unlocking =>
      if s.noneLocked core d then
        let s1 := (s.enterLeaf d .opening .command).modDoor d DoorSt.clearAsks
        if x.stopAsked then s1.modDoor d fun x => { x with rampToOpen := true, settleWhy := 1 }
        else s1.startOpen d x.evacAsked
      else if waited 0x19 then s.leafTimeout d 1 else s
    | .opening =>
      if x.stopAsked && !x.rampToOpen then
        (s.rampLeaves d).modDoor d fun x => { x with rampToOpen := true, settleWhy := 1 }
      else if x.closeAsked then
        ((s.modDoor d DoorSt.clearAsks).enterLeaf d .warn .command).rampLeaves d
      else if asked then s.takeOpen d
      else if x.rampToOpen then (if s.leavesAtRest d then s.settleOpen d else s)
      else if s.openReached d then (s.enterLeaf d .opened .done).endOpen d
      else if waited 0x1A then s.leafTimeout d 2 else s
    | .opened =>
      if x.closeAsked || (x.warnAfterRest && s.leavesAtRest d) then
        ((s.modDoor d DoorSt.clearAsks).enterLeaf d .warn (if x.closeAsked then .command else .lossAction)).rampLeaves d
      else if asked then s.takeOpen d else s
    | .warn =>
      if asked then s.takeOpen d
      else if x.stopAsked then s.enterLeaf d .opened .command
      else if waited 0x17 && s.leavesAtRest d then s.endWarn d else s
    | .closing =>
      match s.obst[d].raised with
      | some src => s.obstacle d src
      | none =>
        if asked then s.takeOpen d
        else if x.stopAsked && !x.rampToOpen then
          (s.rampLeaves d).modDoor d fun x => { x with rampToOpen := true, settleWhy := 1 }
        else if x.rampToOpen then (if s.leavesAtRest d then s.settleOpen d else s)
        else if s.allClosed core d then (s.enterLeaf d .locking .done).engageLock d
        else if waited 0x1B then s.leafTimeout d 3 else s
    | .reopening =>
      if x.reopenDone then
        if decide (s.op d 0x0A * msec ≤ s.since x.pauseFrom) then s.enterLeaf d .warn .obstacle else s
      else if x.stopAsked && !s.obst[d].stopWithRev then
        (s.rampLeaves d).modObst d fun o => { o with stopWithRev := true }
      else if s.leavesAtRest d then
        if s.obst[d].stopWithRev then s.settleOpen d else s.reopenEnd d
      else s
    | .locking =>
      if !s.allClosed core d then s.obstacle d 4
      else match s.obst[d].raised with
        | some src => s.obstacle d src
        | none =>
          if s.allLocked core d then s.enterLeaf d .closedLocked .done
          else if waited 0x1C then
            if x.lockRetries < s.dp d 0x1D then
              let s1 := (s.enterLeaf d .locking .timeout).modDoor d fun x => { x with lockRetries := x.lockRetries + 1 }
              (s1.noteCycle d fun c => { c with lockRetries := min 255 (c.lockRetries + 1) }).engageLock d
            else s.leafTimeout d 4
          else s
    | .isolated =>
      if !x.keyOn then
        if s.allProven core d && s.stepStowed core d then s.enterLeaf d .closedLocked .input else s.enterFault d .input
      else if !s.allProven core d && !x.isoLost then
        (s.modDoor d fun x => { x with isoLost := true }).raise Ev.DW_LOCK_LOST
          [.u16 (s.doorId d.val), .u8 (s.missingProofs core d)]
      else s.modDoor d fun x => { x with isoLost := x.isoLost && !s.allProven core d }
    | .emergencyReleased => s.emergencyStep d
    | .fault =>
      if x.evacAsked && (s.leafAxesOf d).all s.axisIn then
        let s1 := if s.lockType d = 0 then s else s.releaseLock d
        (((s1.modDoor d DoorSt.clearAsks).enterLeaf d .opening .command).startOpen d true)
      else s

/-! ### The step machine (Table DW-4) -/

/-- One evaluation of Table DW-4. -/
def State.stepStep (s : State) (d : Doorway) : State :=
  let x := s.doors.door[d]
  let core := s.activeCore
  let waited := decide (s.dp d 0x1E * msec ≤ s.since x.stepSince)
  match s.stepAxisOf d with
  | none => s
  | some a =>
    if !s.enabled d then s
    else match x.step with
      | .stowed =>
        if !s.proof core (s.dp d 0x0D) then s.enterStep d .stepFault .input
        else if (x.openAsked || x.evacAsked) && x.stepAsked then s.startDeploy d .command else s
      | .deploying =>
        let arrived := if s.dp d 0x0E = 0xFF then s.axes[a].plan.isNone && s.axes[a].at_ (s.xDep a)
          else s.stdActive core (s.dp d 0x0E)
        if arrived then
          (s.enterStep d .deployed .done).modDoor d fun y =>
            { y with stepRestow := x.stepRestow.map fun _ => s.now }
        else if waited then
          (s.raise Ev.DW_TIMEOUT [.u16 (s.doorId d.val), .u8 5]).enterStep d .stepFault .timeout
        else s
      | .deployed =>
        let paused := match x.stepRestow with
          | some t => decide (s.since t < s.op d 0x0A * msec)
          | none => false
        if x.leaf == .closedLocked && !(x.openAsked || x.evacAsked) && !paused && s.axisIn a then
          s.startStow d .command
        else s
      | .stowing =>
        if x.openAsked || x.evacAsked then s.startDeploy d .command
        else if s.obst[d].stepRaised then s.stepObstacle d 1
        else if s.proof core (s.dp d 0x0D) then s.enterStep d .stowed .done
        else if waited then
          (s.raise Ev.DW_TIMEOUT [.u16 (s.doorId d.val), .u8 5]).enterStep d .stepFault .timeout
        else s
      | .stepFault => s

/-! ### Resets (R43, R50, Table DW-4) -/

/-- A leaf axis that a reset must re-reference first: uncertain, or with a latched drive fault (R43, R98). -/
def State.needsRef (s : State) (a : Axis) : Bool :=
  s.axes[a].uncertain || (s.modulesOf a).any fun m => s.axMods[m].uplink.fault != 0

/-- The running reset (R43): once the re-references are done the doorway enters OPEN, the step stows, and the
reset completes ST_OK. -/
def State.resetStep (s : State) (d : Doorway) : State :=
  let x := s.doors.door[d]
  let done (a : Axis) : Bool := s.axes[a].ref.isNone && !s.axes[a].uncertain
  if !x.resetAsked && !x.stepResetAsked then s
  else if x.resetAsked && !(s.leafAxesOf d).all done then s
  else if x.stepResetAsked && !((s.stepAxisOf d).toList.all fun a => s.axes[a].ref.isNone) then s
  else
    let s1 := if x.resetAsked && (x.leaf == .fault || x.leaf == .emergencyReleased) then
        s.enterLeaf d .opened .reset else s
    let s2 := if x.stepResetAsked && x.step == .stepFault then s1.startStow d .reset else s1
    let s3 := match x.resetCmd with
      | some c => s2.completeAll c.reqs Opc.OP_DOOR_RESET ST_OK 0 []
      | none => s2
    s3.modDoor d fun x => { x with resetAsked := false, stepResetAsked := false, resetCmd := none }

/-- Completions that follow from the state reached: a close in CLOSED_LOCKED with the step stowed (R40), and
stops at rest (R62). -/
def State.finishDoor (s : State) (d : Doorway) : State :=
  let x := s.doors.door[d]
  let closeDone := x.leaf == .closedLocked && s.stepStowed s.activeCore d && (match x.cmd with
    | some c => c.kind == .close
    | none => false)
  let s1 := if closeDone then (s.endCmd d ST_OK 0 []).modDoor d fun x => { x with closeAsked := false } else s
  let rest := s1.leavesAtRest d && !x.rampToOpen && x.leaf != .unlocking && x.leaf != .locking && x.leaf != .reopening
  if x.stopAsked && rest then
    (s1.completeAll x.stops Opc.OP_DOOR_STOP ST_OK 0 []).modDoor d fun x => { x with stopAsked := false, stops := [] }
  else s1

/-- The machines of a doorway once, with what completes by it. -/
def State.runDoor (s : State) (d : Doorway) : State :=
  ((((s.leafStep d).stepStep d).resetStep d).finishDoor d)

/-! ### Commands: checks, pricing, acceptance -/

/-- Interlock mask of Table DW-5 for an open. -/
def State.interlocks (s : State) (d : Doorway) (p : Party) : Nat :=
  let x := s.doors.door[d]
  let core := s.activeCore
  maskOf 6 fun i => match i with
    | 0 => !s.released core d
    | 1 => !s.zeroSpeed core
    | 2 => x.leaf == .isolated || x.isolationPending
    | 3 => x.leaf == .emergencyReleased || x.leaf == .fault
    | 4 => decide (tierCode s.frame.doorTier[d] < 2)
    | _ => p == .tl && s.closeTl core

/-- What a door request asks. -/
inductive DoorOp where
  | open | evac | close | stop | reset
  deriving DecidableEq, Repr

def doorOpcode : DoorOp → BitVec 15
  | .open => Opc.OP_DOOR_OPEN | .evac => Opc.OP_DOOR_EVAC_OPEN | .close => Opc.OP_DOOR_CLOSE
  | .stop => Opc.OP_DOOR_STOP | .reset => Opc.OP_DOOR_RESET

/-- Leaf states in which an open is valid; REOPENING and LOCKING list none in Table DW-3 (log 21). -/
def openValid (l : Leaf) : Bool :=
  l == .closedLocked || l == .unlocking || l == .opening || l == .opened || l == .warn || l == .closing
def closeValid (l : Leaf) : Bool :=
  l == .closedLocked || l == .opening || l == .opened || l == .warn || l == .closing || l == .locking

def State.uncertainLeaf (s : State) (d : Doorway) : Option Axis := (s.leafAxesOf d).find? fun a => s.axes[a].uncertain

/-- Steps 1 and 2 of R61 for one door request: the refusal, with its detail. -/
def State.checkDoor (s : State) (d : Doorway) (op : DoorOp) (r : Req) : Option (Byte × Nat) :=
  let x := s.doors.door[d]
  let stateCode := leafCode x.leaf
  let safety := op == .stop || op == .evac
  let axesIn := (s.leafAxesOf d).all s.axisIn
  if !s.enabled d then some (ST_STATE, 15)
  else if !safety && r.party != .sv && s.notOwner r (.doorway d.val) then
    some (ST_NOT_OWNER, partyCode (s.ownerOf (.doorway d.val)))
  else if !safety && s.doorBlocked then some (ST_STATE, stateCode)
  else match op with
    | .stop => none
    | .open =>
      let m := s.interlocks d r.party
      if m ≠ 0 then some (ST_INTERLOCK, m)
      else if !openValid x.leaf then some (ST_STATE, stateCode)
      else (s.uncertainLeaf d).map fun a => (ST_UNCERTAIN, a.val)
    | .evac =>
      let vouched := s.zsModuleOut && (r.party == .sv || (r.zsVouched && (r.party == .p0 || r.party == .p1
        || r.party == .p2)))
      if x.leaf == .isolated then some (ST_STATE, stateCode)
      else if !s.zeroSpeed s.activeCore && !vouched then some (ST_INTERLOCK, 2)
      else if !(openValid x.leaf || x.leaf == .fault) || !axesIn then some (ST_STATE, stateCode)
      else none
    | .close =>
      if !closeValid x.leaf then some (ST_STATE, stateCode)
      else if x.leaf == .closedLocked then none
      else (s.uncertainLeaf d).map fun a => (ST_UNCERTAIN, a.val)
    | .reset =>
      let declare (a : Axis) : Bool := s.axes[a].uncertain && s.ap a 0x1C == 3
      let standing (a : Axis) : Bool := (s.modulesOf a).any fun m =>
        s.axMods[m].uplink.fault == 5 || s.axMods[m].uplink.fault == 6 || s.axMods[m].uplink.fault == 8
      let stepOk : Bool := match s.stepAxisOf d with
        | some a => x.step == .stepFault && s.axisIn a && !declare a
        | none => false
      if x.leaf == .fault then
        if !axesIn || (s.leafAxesOf d).any declare || (s.leafAxesOf d).any standing then some (ST_STATE, stateCode)
        else none
      else if x.leaf == .emergencyReleased then
        if !x.handleMayReset || (s.leafAxesOf d).any declare then some (ST_STATE, stateCode) else none
      else if stepOk then none else some (ST_STATE, stateCode)

/-- The pricing of an open (R228, R229): in full, to the passable point, or not at all. -/
inductive Admit where
  | full | partial_ | refused
  deriving DecidableEq, Repr

/-- May it be cut to the passable width? SV's evacuation opens always may (R229). -/
def mayCut (op : DoorOp) (r : Req) : Bool := r.partialOk || (op == .evac && r.party == .sv)

def State.admitOpen (s : State) (d : Doorway) (op : DoorOp) (r : Req) : Admit :=
  if s.noMoves (op == .evac || r.party == .sv) then .refused
  else if s.fits (s.openMoves d false (s.stepWanted d)) then .full
  else if mayCut op r && s.fits (s.openMoves d true (s.stepWanted d)) then .partial_
  else .refused

/-- A running command is overtaken (R40). -/
def State.preempt (s : State) (d : Doorway) (r : Req) : State := s.endCmd d ST_PREEMPTED r.hseq.toNat []

/-- Count what this pass has admitted (R230). -/
def State.charge (s : State) (d : Doorway) (ms : List Movement) : State :=
  if s.supply.onStore then
    (s.modEnergy fun e => { e with priced := e.priced + s.ePred ms }).modJournal fun j =>
      { j with cycle := updV j.cycle d fun c => { c with eStore := c.eStore + s.ePred ms } }
  else s

/-- Accept an open, evacuation open, close, stop or reset that has passed its checks (R40, R43, R62). -/
def State.acceptDoor (s : State) (d : Doorway) (op : DoorOp) (r : Req) (grant : Admit) : State :=
  let x := s.doors.door[d]
  let s0 := if op == .stop then s else s.abortWindow 1
  match op with
  | .open | .evac =>
    let toPass := grant == .partial_
    let ms := s.openMoves d toPass (s.stepWanted d)
    let s1 := (s0.preempt d r).charge d ms
    let s2 := s1.modDoor d fun x => { x.clearAsks with
      cmd := some { kind := if op == .open then .open r.partialOk else .evac, reqs := [r] },
      openAsked := op == .open, evacAsked := op == .evac, openPartial := toPass, stopAsked := false,
      stepAsked := s.stepWanted d, warnAfterRest := false, dwellSuspended := false }
    let s3 := s2.modJournal fun j => { j with cycle := updV j.cycle d fun c => { c with
      opener := BitVec.ofNat 8 (Party.code r.party),
      flags := if op == .evac then c.flags ||| 0x01 else c.flags } }
    if toPass then
      s3.raise Ev.EN_ADMIT_PARTIAL [.u16 (s.doorId d.val), .u16 (s.ePred ms / 1000), .u16 (s.dp d 0x16)]
    else s3
  | .close =>
    let ms := s.closeMoves d
    let s1 := (s0.preempt d r).charge d (if x.leaf == .closedLocked then [] else ms)
    let s2 := s1.modDoor d fun y => { y.clearAsks with
      cmd := some { kind := .close, reqs := [r] },
      closeAsked := x.leaf == .opening || x.leaf == .opened,
      reopens := if x.leaf == .opened then 0 else y.reopens, stopAsked := false,
      warnAfterRest := false, dwellSuspended := false, persistent := false }
    s2.noteCycle d fun c => { c with
      closer := BitVec.ofNat 8 (Party.code r.party), flags := if r.timed then c.flags ||| 0x80 else c.flags }
  | .stop =>
    if x.leaf == .isolated then s0.ok r Opc.OP_DOOR_STOP []
    else
      let s1 := (s0.preempt d r).modDoor d fun y => { y.clearAsks with
        stopAsked := true, stops := y.stops ++ [r],
        evacAsked := y.evacAsked && x.leaf == .unlocking, openAsked := y.openAsked && x.leaf == .unlocking }
      if r.party == .sv then s1.each (s.axesOf d) fun s a =>
        if s.axes[a].plan.isSome then s.freeze a 4 ST_PREEMPTED 0 else s
      else s1
  | .reset =>
    let leafPart := x.leaf == .fault || x.leaf == .emergencyReleased
    let refs := if leafPart then (s.leafAxesOf d).filter s.needsRef else []
    let stepRefs := if x.step == .stepFault then (s.stepAxisOf d).toList.filter fun a =>
      s.axisIn a && s.ap a 0x1C != 3 else []
    let s1 := (s0.modDoor d fun y => { y with
        resetCmd := some { kind := .reset, reqs := [r] }, resetAsked := leafPart,
        stepResetAsked := x.step == .stepFault && (s.stepAxisOf d).isSome }).raise
      Ev.DW_RESET [.u16 (s.doorId d.val), .u8 (Party.code r.party), item8 (!(refs ++ stepRefs).isEmpty)]
    s1.each (refs ++ stepRefs) fun s a => s.refStart a none r.party true

/-- A doorway field: 0 or 1, on P2 the door identity (R35, R308). -/
def State.doorArg (s : State) (p : Party) (n : Nat) : Option Doorway :=
  if p = .p2 then (if n / 2 = s.param 0x080 then asFin 2 (n % 2) else none) else asFin 2 n

/-- Requests identical to one just accepted join it, and receive its completions (R61). -/
def State.addMerged (s : State) (d : Doorway) (op : DoorOp) (r : Req) (rest : List Req) : State :=
  let join (c : Option DoorCmdSt) : Option DoorCmdSt := c.map fun c => { c with reqs := c.reqs ++ rest }
  match op with
  | .stop =>
    if s.doors.door[d].stops.contains r then s.modDoor d fun x => { x with stops := x.stops ++ rest }
    else s.completeAll rest Opc.OP_DOOR_STOP ST_OK 0 []
  | .reset => s.modDoor d fun x => { x with resetCmd := join x.resetCmd }
  | _ => s.modDoor d fun x => { x with cmd := join x.cmd }

/-- How a door request that passed its checks is priced; the supply-loss close of SV is priced at the end of WARN only
(R234). -/
def State.admitDoor (s : State) (d : Doorway) (op : DoorOp) (r : Req) : Admit :=
  match op with
  | .open | .evac => s.admitOpen d op r
  | .close =>
    if s.doors.door[d].leaf != .closedLocked && r.party != .sv && (s.noMoves false || !s.fits (s.closeMoves d)) then .refused
    else .full
  | _ => .full

/-- Run a door request that has been priced, with the requests that merged with it. -/
def State.runDoorOp (s : State) (r : Req) (rest : List Req) (d : Doorway) (op : DoorOp) (grant : Admit) : State :=
  if grant == .refused then
    let ms := if op == .close then s.closeMoves d else s.openMoves d (mayCut op r) (s.stepWanted d)
    (s.raiseRefused (s.doorId d.val) ms).completeAll (r :: rest) (doorOpcode op) ST_ENERGY (s.energyDetail ms) []
  else ((s.acceptDoor d op r grant).addMerged d op r rest).runDoor d

/-- One door request by itself: checks, pricing, acceptance, and the machines of its doorway. -/
def State.doDoor (s : State) (r : Req) (d : Doorway) (op : DoorOp) : State :=
  match s.checkDoor d op r with
  | some (st, detail) => s.fail r (doorOpcode op) st detail
  | none => s.runDoorOp r [] d op (s.admitDoor d op r)

/-! ### Losses of release and zero speed (R49) -/

/-- Release lost in OPENING or OPEN. -/
def State.releaseLost (s : State) (d : Doorway) : State :=
  let x := s.doors.door[d]
  if x.leaf == .opening || x.leaf == .opened then
    let s1 := s.rampLeaves d
    s1.modDoor d fun x => { x with
      rampToOpen := x.rampToOpen || x.leaf == .opening,
      settleWhy := if x.leaf == .opening && x.settleWhy = 0 then 1 else x.settleWhy,
      warnAfterRest := x.warnAfterRest || s.param 0x08A == 1 }
  else s

/-- Zero speed lost while the doorway is neither CLOSED_LOCKED nor ISOLATED. The action byte is 0 none, 1 ramp
to rest, 2 to WARN (log 17). -/
def State.zsLost (s : State) (d : Doorway) : State :=
  let x := s.doors.door[d]
  if x.leaf == .closedLocked || x.leaf == .isolated then s
  else
    let closes := x.leaf == .opened && s.param 0x08B == 1
    let s1 := s.raise Ev.DW_ZS_LOST_OPEN [.u16 (s.doorId d.val), .u8 (leafCode x.leaf),
      .u8 (if x.leaf == .opening then 1 else if closes then 2 else 0)]
    if x.leaf == .opening then
      (s1.rampLeaves d).modDoor d fun x => { x with
        rampToOpen := true, settleWhy := if x.settleWhy = 0 then 1 else x.settleWhy }
    else if closes then s1.modDoor d fun x => { x with warnAfterRest := true } else s1

/-! ### The isolation key (R51) -/

def State.keyTurnedOn (s : State) (d : Doorway) : State :=
  let x := s.doors.door[d]
  let s1 := s.modDoor d fun x => { x with keyOn := true }
  if x.leaf == .isolated then s1
  else if x.leaf == .closedLocked && s.stepStowed s.activeCore d then s1.leafStep d
  else (s1.modDoor d fun x => { x with isolationPending := true }).raise Ev.DW_ISOLATION_PENDING
    [.u16 (s.doorId d.val), .u8 (leafCode x.leaf)]

def State.keyTurnedOff (s : State) (d : Doorway) : State :=
  (s.modDoor d fun x => { x with keyOn := false, isolationPending := false }).leafStep d

end Sys2Proof.Machine
end

