-- ==== Sys2Proof/Machine/Doorway.lean ====
section
/-!
DEFINITION. Doorway commands and events, chapter 02: two-channel inputs (R38), timers of the leaf and step
machines, the door loop (R55, R56), TL's readings (R57, R58) and claims (R59, R60, Table DW-7).
-/

namespace Sys2Proof.Machine

/-- Place a request of SV, TL or P3 before the resolver (R61). -/
def State.ask (s : State) (p : Party) (op : Op) : State :=
  { s with doors := { s.doors with requests := s.doors.requests ++ [{ req := { party := p }, op := op }] } }

/-! ### Two-channel inputs (R38, R39) -/

def State.modPairOf (s : State) (core : CoreId) (c : Chan) (f : Pair → Pair) : State :=
  { s with doors := { s.doors with pairs := updV s.doors.pairs core fun v => updV v c f } }

def pairCode : PairVal → Nat
  | .inactive => 0 | .active => 1 | .discrepant => 2

/-- Is the pair a release or the zero-speed input (EV 0x042)? -/
def State.interlockPair (s : State) (c : Nat) : Bool :=
  c == s.param 0x083 || c == s.param 0x084 || c == s.param 0x085

/-- Give a pair a value; DW_INTERLOCK follows a change of a release or the zero-speed pair. -/
def State.setPair (s : State) (core : CoreId) (c : Chan) (v : PairVal) : State :=
  let old := s.doors.pairs[core][c].val
  let s1 := s.modPairOf core c fun p => { p with val := v }
  if old != v && s.interlockPair c.val then
    s1.raise Ev.DW_INTERLOCK [.u8 c.val, .u8 (pairCode v), .u8 core.val]
  else s1

/-- What a channel of a pair counts as: an unreadable one takes its restrictive value (R37). -/
def State.pairChan (s : State) (core : CoreId) (c : Nat) : Bool := s.reading core c == some true

/-- The pair becomes DISCREPANT (R38). -/
def State.pairDiscrepant (s : State) (core : CoreId) (c : Chan) : State :=
  let a := s.pairChan core c.val
  let b := s.pairChan core (c.val + 1)
  let s1 := (s.setPair core c .discrepant).modPairOf core c fun p => { p with
    differFrom := none, lowFrom := if !a && !b then some s.now else none }
  s1.raise Ev.DW_DISCREPANCY [.u8 c.val, .u8 (Bool.nat a + 2 * Bool.nat b), .u8 core.val]

/-- The pair leaves DISCREPANT, always for INACTIVE (R38). -/
def State.pairCleared (s : State) (core : CoreId) (c : Chan) : State :=
  (s.setPair core c .inactive).modPairOf core c fun p => { p with lowFrom := none, differFrom := none }

/-- One evaluation of a pair by one core. -/
def State.pairTick (s : State) (core : CoreId) (c : Chan) : State :=
  let p := s.doors.pairs[core][c]
  let a := s.pairChan core c.val
  let b := s.pairChan core (c.val + 1)
  if !s.inService (fieldSlot (chanMod c.val)) then
    (s.setPair core c .inactive).modPairOf core c fun _ => {}
  else if p.val == .discrepant then
    if a || b then s.modPairOf core c fun p => { p with lowFrom := none }
    else
      let from_ := p.lowFrom.getD s.now
      if decide (100 * msec ≤ s.since from_) then s.pairCleared core c
      else s.modPairOf core c fun p => { p with lowFrom := some from_ }
  else if a == b then
    (s.setPair core c (if a then .active else .inactive)).modPairOf core c fun p => { p with differFrom := none }
  else
    let from_ := p.differFrom.getD s.now
    if decide (s.param 0x088 * msec ≤ s.since from_) then s.pairDiscrepant core c
    else s.modPairOf core c fun p => { p with differFrom := some from_ }

/-- The lower channels of the SAFE2 pairs the parameters declare. -/
def State.pairChans (s : State) : List Chan :=
  (List.finRange 64).filter fun c => c.val % 2 == 0 && chanClass s.param c.val == 2

/-- SAFE2_DISCREPANCY (R38): the channels have disagreed for door.safe2.discrepancy. -/
def execSafe2Discrepancy (core : CoreId) (c : Chan) (s : State) : Host.Outcome State Fault Refusal :=
  let p := s.doors.pairs[core][c]
  .next (if p.val == .discrepant then s
    else (s.until (p.differFrom.getD s.now + s.param 0x088 * msec)).pairDiscrepant core c)

/-- SAFE2_CLEARED (R38): both channels have read inactive together for 100 ms. -/
def execSafe2Cleared (core : CoreId) (c : Chan) (s : State) : Host.Outcome State Fault Refusal :=
  let p := s.doors.pairs[core][c]
  .next (if p.val == .discrepant then (s.until (p.lowFrom.getD s.now + 100 * msec)).pairCleared core c else s)

/-! ### Timers of the two machines (R40, R44) -/

/-- The end of a leaf timeout: the clock reaches it, and `act` follows in the state it belongs to. -/
def State.leafTimer (s : State) (d : Doorway) (inState : Leaf) (o : Nat) (act : State → State) : State :=
  let x := s.doors.door[d]
  if s.enabled d && x.leaf == inState then act (s.until (x.leafSince + s.dp d o * msec)) else s

def execUnlockTimeout (d : Doorway) (s : State) : Host.Outcome State Fault Refusal :=
  .next (s.leafTimer d .unlocking 0x19 fun s => s.leafTimeout d 1)

def execOpenTimeout (d : Doorway) (s : State) : Host.Outcome State Fault Refusal :=
  .next (s.leafTimer d .opening 0x1A fun s => s.leafTimeout d 2)

def execCloseTimeout (d : Doorway) (s : State) : Host.Outcome State Fault Refusal :=
  .next (s.leafTimer d .closing 0x1B fun s => s.leafTimeout d 3)

/-- The lock action is repeated while retries are left (Table DW-3). -/
def State.lockTimeout (s : State) (d : Doorway) : State :=
  let x := s.doors.door[d]
  if x.lockRetries < s.dp d 0x1D then
    let s1 := (s.enterLeaf d .locking .timeout).modDoor d fun x => { x with lockRetries := x.lockRetries + 1 }
    (s1.noteCycle d fun c => { c with lockRetries := min 255 (c.lockRetries + 1) }).engageLock d
  else s.leafTimeout d 4

def execLockTimeout (d : Doorway) (s : State) : Host.Outcome State Fault Refusal :=
  .next (s.leafTimer d .locking 0x1C fun s => s.lockTimeout d)

/-- STEP_TIMEOUT (R44). -/
def execStepTimeout (d : Doorway) (s : State) : Host.Outcome State Fault Refusal :=
  let x := s.doors.door[d]
  .next (if s.enabled d && (x.step == .deploying || x.step == .stowing) then
    let s1 := s.until (x.stepSince + s.dp d 0x1E * msec)
    (s1.raise Ev.DW_TIMEOUT [.u16 (s1.doorId d.val), .u8 5]).enterStep d .stepFault .timeout
  else s)

/-- WARN_TIME_EXPIRED (R53, R228): the close is priced on store energy, and CLOSING is entered once the
leaves are at rest. -/
def execWarnTimeExpired (d : Doorway) (s : State) : Host.Outcome State Fault Refusal :=
  .next (s.leafTimer d .warn 0x17 fun s => if s.leavesAtRest d then s.endWarn d else s)

/-- REOPEN_PAUSE_EXPIRED (R122): WARN with the full door.d.warn.time. -/
def execReopenPauseExpired (d : Doorway) (s : State) : Host.Outcome State Fault Refusal :=
  let x := s.doors.door[d]
  .next (if x.leaf == .reopening && x.reopenDone then
    (s.until (x.pauseFrom + s.op d 0x0A * msec)).enterLeaf d .warn .obstacle
  else s)

/-! ### Handle, isolation key and proofs (R40, R50 to R52) -/

/-- EMERGENCY_HANDLE (R50). -/
def execEmergencyHandle (d : Doorway) (s : State) : Host.Outcome State Fault Refusal :=
  let x := s.doors.door[d]
  .next (if s.enabled d && x.leaf != .isolated && x.leaf != .emergencyReleased then s.emergency d else s)

/-- The handle is watched while EMERGENCY_RELEASED: a reset is accepted once it has been INACTIVE for 1 s. -/
def State.handleTick (s : State) (d : Doorway) : State :=
  let x := s.doors.door[d]
  if x.leaf != .emergencyReleased then s
  else if s.handleInactive s.activeCore d then
    let from_ := x.handleInactiveAt.getD s.now
    s.modDoor d fun x => { x with
      handleInactiveAt := some from_, handleMayReset := decide (sec ≤ s.since from_) }
  else s.modDoor d fun x => { x with handleInactiveAt := none, handleMayReset := false }

/-- HANDLE_RESET_ALLOWED (R50). -/
def execHandleResetAllowed (d : Doorway) (s : State) : Host.Outcome State Fault Refusal :=
  let x := s.doors.door[d]
  .next (if x.leaf == .emergencyReleased then
    let from_ := x.handleInactiveAt.getD s.now
    (s.until (from_ + sec)).modDoor d fun x => { x with handleInactiveAt := some from_, handleMayReset := true }
  else s)

def execIsolationKeyOn (d : Doorway) (s : State) : Host.Outcome State Fault Refusal :=
  .next (if s.enabled d && !s.doors.door[d].keyOn then s.keyTurnedOn d else s)

def execIsolationKeyOff (d : Doorway) (s : State) : Host.Outcome State Fault Refusal :=
  .next (if s.enabled d && s.doors.door[d].keyOn then s.keyTurnedOff d else s)

/-- PROOF_LOST: without a command in CLOSED_LOCKED (FAULT) and ISOLATED (it stays so, R52); in LOCKING it
counts as an obstacle (Table DW-3). -/
def execProofLost (d : Doorway) (s : State) : Host.Outcome State Fault Refusal :=
  let x := s.doors.door[d]
  let lost := s.raise Ev.DW_LOCK_LOST [.u16 (s.doorId d.val), .u8 (s.missingProofs s.activeCore d)]
  .next (if !s.enabled d then s else match x.leaf with
    | .closedLocked => lost.enterFault d .input
    | .isolated => if x.isoLost then s else lost.modDoor d fun x => { x with isoLost := true }
    | .locking => s.obstacle d 4
    | _ => s)

/-! ### Release and zero speed (R49) -/

/-- RELEASE_LOST (R49). -/
def execReleaseLost (d : Doorway) (s : State) : Host.Outcome State Fault Refusal :=
  .next (if s.enabled d && s.doors.door[d].releaseWas then
    (s.releaseLost d).modDoor d fun x => { x with releaseWas := false }
  else s)

/-- ZS_LOST_OPEN (R49). -/
def execZsLostOpen (d : Doorway) (s : State) : Host.Outcome State Fault Refusal :=
  .next (if s.enabled d && s.doors.door[d].zsWas then
    (s.zsLost d).modDoor d fun x => { x with zsWas := false }
  else s)

/-! ### TL and SV (R47, R57, R58) -/

def State.tlOwns (s : State) (d : Doorway) : Bool := s.ownerOf (.doorway d.val) == some .tl

/-- A release edge to ACTIVE: the dwell close resumes (R122), and with open mode 0 TL asks for an open. -/
def State.releaseEdge (s : State) (d : Doorway) : State :=
  let s1 := s.modDoor d fun x => { x with releaseWas := true, dwellSuspended := false }
  if s.tlOwns d && s.dp d 0x14 == 0 && !s.closeTl s.activeCore then s1.ask .tl (.doorOpen d.val) else s1

def execReleaseEdge (d : Doorway) (s : State) : Host.Outcome State Fault Refusal :=
  .next (if s.enabled d && !s.doors.door[d].releaseWas then s.releaseEdge d else s)

/-- A push button or a panel accessibility request, while released: TL asks for an open (R58). -/
def State.buttonPressed (s : State) (d : Doorway) : State :=
  if s.enabled d && s.tlOwns d && s.dp d 0x14 == 1 && s.released s.activeCore d && !s.closeTl s.activeCore then
    s.ask .tl (.doorOpen d.val)
  else s

def execPushbuttonPress (d : Doorway) (s : State) : Host.Outcome State Fault Refusal :=
  .next (if s.doors.door[d].buttonWas then s
    else (s.modDoor d fun x => { x with buttonWas := true }).buttonPressed d)

/-- The close trainline becomes active (R50, R58, R122). -/
def State.closeTlEdge (s : State) : State :=
  let s1 := { s with doors := { s.doors with closeTlWas := true } }
  s1.each s.enabledDoors fun s d =>
    let s2 := s.modDoor d fun x => { x with dwellSuspended := false }
    if !s.tlOwns d then s2
    else if s.doors.door[d].leaf == .emergencyReleased then s2.ask .tl (.doorReset d.val)
    else s2.ask .tl (.doorClose d.val)

def execCloseTrainlineEdge (s : State) : Host.Outcome State Fault Refusal :=
  .next (if s.doors.closeTlWas then s else s.closeTlEdge)

/-- The evacuation input becomes active: SV requests an evacuation open of each enabled doorway (R47). -/
def State.evacEdge (s : State) : State :=
  ({ s with doors := { s.doors with evacWas := true } }).each s.enabledDoors fun s d => s.ask .sv (.doorEvacOpen d.val)

def execEvacuationInput (s : State) : Host.Outcome State Fault Refusal :=
  .next (if s.param 0x087 = 0xFF || s.doors.evacWas then s else s.evacEdge)

/-- The dwell close is due (R58). -/
def State.dwellDue (s : State) (d : Doorway) : Option Nat :=
  let x := s.doors.door[d]
  if s.enabled d && x.leaf == .opened && s.tlOwns d && s.dp d 0x18 ≠ 0 && !x.dwellSuspended then
    x.restSince.map fun t => t + s.dp d 0x18 * msec
  else none

def execDwellClose (d : Doorway) (s : State) : Host.Outcome State Fault Refusal :=
  .next (match s.dwellDue d with
    | some t => (s.until t).ask .tl (.doorClose d.val)
    | none => s)

/-- TL takes a doorway (R57). -/
def State.tlTakes (s : State) (d : Doorway) : State :=
  (s.setOwner (.doorway d.val) (some .tl) 2).raise Ev.DW_AUTONOMOUS
    [.u16 (s.doorId d.val), .u8 1, .u8 (Party.code .tl)]

/-- May TL take it: mode 0, and no owner? -/
def State.tlMayTake (s : State) (d : Doorway) : Bool :=
  s.enabled d && s.param 0x081 == 0 && (s.ownerOf (.doorway d.val)).isNone

def execTlTakeover (d : Doorway) (s : State) : Host.Outcome State Fault Refusal :=
  .next (if s.tlMayTake d then (s.until (s.doors.door[d].tlFrom + s.param 0x082 * msec)).tlTakes d else s)

/-! ### The loop (R55, R56) -/

def State.modDoors (s : State) (f : DoorsSt → DoorsSt) : State := { s with doors := f s.doors }

/-- A core may close its relays: R55, no weld of its own (R135), and on the standby in step (Table CP-3) and without
a disagreement (R56). -/
def State.mayClose (s : State) (core : CoreId) : Bool :=
  s.pair.core[core].present && s.loopConditions core && !s.doors.weld[core]
    && (core == s.activeCore || (s.pair.standby == .inStep && !s.doors.disagreed))

/-- Cause of a loop drop (EV 0x048). -/
def State.dropCause (s : State) (core : CoreId) : Nat :=
  if s.doors.svDrop then 4
  else if core != s.activeCore && s.doors.disagreed then 3
  else if tierCode s.frame.frameTier < 2 then 2 else 1

def State.loopDrop (s : State) (core : CoreId) (cause : Nat) : State :=
  (s.modDoors fun x => { x with
    relays := updV x.relays core fun _ => false, relaysOffAt := updV x.relaysOffAt core fun _ => s.now,
    condFrom := updV x.condFrom core fun _ => none }).raise Ev.DW_LOOP [.u8 core.val, .u8 0, .u8 cause]

def State.loopClose (s : State) (core : CoreId) : State :=
  (s.modDoors fun x => { x with relays := updV x.relays core fun _ => true }).raise Ev.DW_LOOP
    [.u8 core.val, .u8 1, .u8 0]

/-- One evaluation of R55 by one core. -/
def State.loopTick (s : State) (core : CoreId) : State :=
  if s.mayClose core then
    let from_ := s.doors.condFrom[core].getD s.now
    let s1 := s.modDoors fun x => { x with condFrom := updV x.condFrom core fun _ => some from_ }
    if !s.doors.relays[core] && decide (s.param 0x089 * msec ≤ s.since from_) then s1.loopClose core else s1
  else if s.doors.relays[core] then s.loopDrop core (s.dropCause core)
  else s.modDoors fun x => { x with condFrom := updV x.condFrom core fun _ => none }

/-- LOOP_CLOSE_DELAY (R55). -/
def execLoopCloseDelay (core : CoreId) (s : State) : Host.Outcome State Fault Refusal :=
  .next (if s.mayClose core then
    let from_ := s.doors.condFrom[core].getD s.now
    let s1 := (s.until (from_ + s.param 0x089 * msec)).modDoors fun x => { x with
      condFrom := updV x.condFrom core fun _ => some from_ }
    if s.doors.relays[core] then s1 else s1.loopClose core
  else if s.doors.relays[core] then s.loopDrop core (s.dropCause core) else s)

/-- A core's own proof readings of every enabled doorway. -/
def State.proofReadings (s : State) (core : CoreId) : List Bool :=
  s.enabledDoors.flatMap fun d => s.closedProofs core d ++ s.lockedProofs core d ++ [s.stowedProof core d]

/-- The standby's readings have disagreed for too long (R56): its relays stay open. -/
def State.loopDisagree (s : State) : State :=
  let core := s.standbyCore
  (s.modDoors fun x => { x with
    disagreed := true, relays := updV x.relays core fun _ => false,
    relaysOffAt := if x.relays[core] then updV x.relaysOffAt core fun _ => s.now else x.relaysOffAt }).raise
    Ev.DW_LOOP [.u8 core.val, .u8 0, .u8 3]

/-- One comparison of the standby's readings with the active core's. -/
def State.disagreeTick (s : State) : State :=
  if !s.pair.core[s.standbyCore].present || s.proofReadings 0 == s.proofReadings 1 then
    s.modDoors fun x => { x with disagreeFrom := none, disagreed := false }
  else
    let from_ := s.doors.disagreeFrom.getD s.now
    let s1 := s.modDoors fun x => { x with disagreeFrom := some from_ }
    if !s.doors.disagreed && decide (s.param 0x088 * msec ≤ s.since from_) then s1.loopDisagree else s1

/-- LOOP_DISAGREEMENT (R56). -/
def execLoopDisagreement (s : State) : Host.Outcome State Fault Refusal :=
  .next (if s.doors.disagreed || !s.pair.core[s.standbyCore].present then s
    else (s.until (s.doors.disagreeFrom.getD s.now + s.param 0x088 * msec)).loopDisagree)

/-! ### Door opcodes -/

/-- OP_STEP_REQUEST: the step is asked for at the next opening of a doorway in step mode 2 (Table DW-4); an
ISOLATED doorway takes no door command (R52). -/
def State.doStepRequest (s : State) (r : Req) (d : Doorway) : State :=
  let oc := Opc.OP_STEP_REQUEST
  let x := s.doors.door[d]
  if !s.enabled d then s.fail r oc ST_STATE 15
  else if s.notOwner r (.doorway d.val) then s.failOwner r oc (.doorway d.val)
  else if s.dp d 0x05 = 0 || x.leaf == .isolated then s.fail r oc ST_STATE (leafCode x.leaf)
  else (s.modDoor d fun x => { x with stepRequest := true }).ok r oc []

def execOpStepRequest (r : Req) (d : Doorway) (s : State) : Host.Outcome State Fault Refusal :=
  .next (s.doStepRequest r d)

/-- OP_DOOR_OBSTACLE (R119). -/
def State.doDoorObstacle (s : State) (r : Req) (d : Doorway) : State :=
  let oc := Opc.OP_DOOR_OBSTACLE
  let x := s.doors.door[d]
  if !s.enabled d then s.fail r oc ST_STATE 15
  else if s.notOwner r (.doorway d.val) then s.failOwner r oc (.doorway d.val)
  else if bit (s.op d 0x12) 3 && (x.leaf == .closing || x.leaf == .locking) then (s.obstacle d 5).ok r oc []
  else s.fail r oc ST_STATE (leafCode x.leaf)

def execOpDoorObstacle (r : Req) (d : Doorway) (s : State) : Host.Outcome State Fault Refusal :=
  .next (s.doDoorObstacle r d)

/-- Result of OP_DOOR_STATUS (Table HR-15). -/
def State.doorStatusBytes (s : State) (d : Doorway) : List Byte :=
  let x := s.doors.door[d]
  leBytes 1 (leafCode x.leaf) ++ leBytes 1 (stepCode x.step) ++ leBytes 1 (partyCode (s.ownerOf (.doorway d.val)))
    ++ leBytes 1 (tierCode s.frame.doorTier[d]) ++ leBytes 2 (s.width d) ++ leBytes 1 x.reopens
    ++ leBytes 1 (Bool.nat (s.anyUncertain d) + 2 * Bool.nat x.isolationPending)

def State.doDoorStatus (s : State) (r : Req) (d : Doorway) : State :=
  s.ok r Opc.OP_DOOR_STATUS (s.doorStatusBytes d)

def execOpDoorStatus (r : Req) (d : Doorway) (s : State) : Host.Outcome State Fault Refusal :=
  .next (s.doDoorStatus r d)

/-! ### Claims -/

/-- A resource code (R308); P2 names a doorway by its door identity (R35). -/
def State.resourceOf (s : State) (p : Party) (code : BitVec 32) : Option Resource :=
  let n := code.toNat
  let i := bits n 8 16
  if n / 2 ^ 24 ≠ 0 then none
  else match n % 256 with
    | 1 => (s.doorArg p i).map fun d => .doorway d.val
    | 2 => (s.axisArg i).map fun a => .axis a.val
    | 3 => if i < 64 then some (.field i) else none
    | 4 => if 1 ≤ i ∧ i ≤ 12 then some (.load i) else none
    | 5 => if i = 0 then some .paramSet else none
    | 6 => if i < 4 then some (.reader i) else none
    | _ => none

/-- The kinds a party may claim (Table DW-7). -/
def mayClaim (p : Party) (kind : Nat) : Bool :=
  match kind with
  | 1 | 3 | 4 => p == .p0 || p == .p1 || p == .p2
  | _ => p == .p0 || p == .p1 || p == .p2 || p == .p4

/-- The enabled doorway that uses a field channel: one of its inputs, or an output it names. -/
def State.doorOfChan (s : State) (c : Nat) : Option Doorway :=
  s.enabledDoors.find? fun d =>
    ((doorInputs s.param d.val).any fun n => (claimed s.param n).contains c)
      || (outputRefs s.param d.val).any fun r => r.2 == c

/-- The enabled doorway that uses a load channel: its lock, or an output it names. -/
def State.doorOfLoad (s : State) (c : Nat) : Option Doorway :=
  s.enabledDoors.find? fun d =>
    (lockUsed s.param d.val && s.dp d 0x08 == c) || (outputRefs s.param d.val).any fun r => r.2 == 0x3F + c

/-- Why a resource may not be claimed now: the leaf state of the doorway that keeps it. -/
def State.claimState (s : State) (res : Resource) : Option Nat :=
  let leaf (d : Doorway) : Nat := leafCode s.doors.door[d].leaf
  match res with
  | .doorway n => (match asFin 2 n with
    | some d => if s.enabled d then none else some 15
    | none => some 15)
  | .axis n => (match asFin 4 n with
    | some a => (s.doorOfAxis a).bind fun d => if s.doors.door[d].leaf == .isolated then none else some (leaf d)
    | none => some 0xFF)
  | .field c => (s.doorOfChan c).map leaf
  | .load c => (s.doorOfLoad c).map leaf
  | _ => none

/-- OP_CLAIM (R57, R59, R427). -/
def State.doClaim (s : State) (r : Req) (code : BitVec 32) : State :=
  let oc := Opc.OP_CLAIM
  if !mayClaim r.party (code.toNat % 256) then s.fail r oc ST_PORT ((portOf r.party).elim 3 portNum)
  else match s.resourceOf r.party code with
  | none => s.fail r oc ST_RANGE (argOff 16)
  | some res =>
    let own := s.ownerOf res
    let yields := own == some .tl && s.param 0x081 == 0
    match s.claimState res with
      | some detail => s.fail r oc ST_STATE detail
      | none =>
        if own.isSome && !yields then s.fail r oc ST_CONFLICT (partyCode own)
        else
          let s1 := s.setOwner res (some r.party) 0
          let s2 := match res with
            | .doorway n => if yields then s1.raise Ev.DW_AUTONOMOUS
                [.u16 (s.doorId n), .u8 0, .u8 (Party.code r.party)] else s1
            | _ => s1
          s2.ok r oc []

def execOpClaim (r : Req) (code : BitVec 32) (s : State) : Host.Outcome State Fault Refusal :=
  .next (s.doClaim r code)

/-- A re-reference whose axis claim is gone fails with reason 4 (Table MO-12). -/
def State.refsWithoutClaim (s : State) : State :=
  s.each (List.finRange 4) fun s a =>
    match s.axes[a].ref, s.axes[a].cmd with
    | some rf, some c =>
      if !rf.forDoor && s.notOwner c.req (.axis a.val) then (s.rampStop a).refFail a 4 else s
    | _, _ => s

/-- Release the claims of a party that is gone (R60). -/
def State.loseClaims (s : State) (p : Party) (reason : Nat) : State := (s.releaseAll p reason).refsWithoutClaim

/-- OP_RELEASE_CLAIMS: all of the sender's claims, or those it lists (R59). -/
def State.doReleaseClaims (s : State) (r : Req) (codes : List (BitVec 32)) : State :=
  let oc := Opc.OP_RELEASE_CLAIMS
  let named := codes.map (s.resourceOf r.party)
  match named.findIdx? Option.isNone with
  | some k => s.fail r oc ST_RANGE (argOff (20 + 4 * k))
  | none =>
    let mine := s.claimsOf r.party
    let gone := if codes.isEmpty then mine else (named.filterMap id).dedup.filter mine.contains
    ((s.each gone fun s res => s.releaseClaim 0 res).refsWithoutClaim).ok r oc (leBytes 1 gone.length)

end Sys2Proof.Machine
end

