-- ==== Sys2Proof/Machine/AxisModule.lean ====
section
/-!
DEFINITION. Axis modules and twin-lane axes, chapter 04: drive faults (R93 to R98), configuration (R100), the
loss state (R102), the following watch (R105, R106) and the two lanes of a pair (R110 to R114).
-/

namespace Sys2Proof.Machine

/-- Slot number of an axis module, as events carry it. -/
def axSlotNo (m : Axis) : Nat := 7 + m.val

/-- The other lane of a pair. -/
def otherLane (m : Axis) : Axis := if m = 0 then 1 else if m = 1 then 0 else if m = 2 then 3 else 2

/-! ### Configuration records (R100, Table AX-5) -/

/-- Lane role: 0 single axis, 1 lower lane, 2 upper lane. -/
def State.laneRole (s : State) (m : Axis) : Nat :=
  if s.axisOfLane m ≠ m then 2 else if s.twin m then 1 else 0

/-- The value the core sends at a configuration index; each lane keeps its own block of Table AX-9, and the
motion parameters are those of the axis (R107). -/
def State.axCfgValue (s : State) (m : Axis) (i : Nat) : Nat :=
  let a := s.axisOfLane m
  match i with
  | 0 => s.ap a 0x0F
  | 1 => s.ap a 0x17
  | 2 => s.ap a 0x16
  | 3 => s.param (pAxMod m.val 0)
  | 4 => s.param (pAxMod m.val 3)
  | 5 => s.ap a 0x1B
  | 6 => s.param (pAxMod m.val 7)
  | _ => s.laneRole m

/-- The CRC the module should report. -/
def State.axCfgCrc (s : State) (m : Axis) : BitVec 16 :=
  crc16 ((List.range 8).flatMap fun i => leBytes 4 (s.axCfgValue m i))

/-- The CRC over the records a module holds; a module that lacks one reports 0 for it. -/
def AxModSt.cfgCrc (k : AxModSt) : BitVec 16 :=
  crc16 (k.cfg.toList.flatMap fun v => leBytes 4 (v.elim 0 BitVec.toNat))

/-- A configuration value in range at its index (Table AX-5). -/
def axCfgOk (i : Nat) (v : BitVec 32) : Bool :=
  match i with
  | 0 => inRange 10 20000 v.toNat
  | 1 => inRange 1 2 v.toNat
  | 2 => inRange 10 10000 v.toNat
  | 3 => decide (v.toNat ≤ 4)
  | 4 => decide (v.toNat ≤ 500)
  | 5 => decide (v.toNat ≤ 3)
  | 6 => decide (v.toNat ≤ 2)
  | 7 => decide (v.toNat ≤ 2)
  | _ => false

/-! ### Taking a module out of service -/

/-- A slot's module is treated as lost: it is out of service, a running removal ends with the blue lamp lit
(R28), and the tiers are judged (R31). -/
def State.takeOut (s : State) (k : Slot) : State :=
  (s.modSlot k fun x => { x with
    inService := false, lost := true,
    removal := match x.removal with
      | some (.running _) => some .free
      | r => r }).judgeTiers k.val

/-! ### Limits of a running plan and derating (R110) -/

/-- Limits under which a plan of a kind runs. -/
def State.kindLim (s : State) (a : Axis) (k : PlanKind) : Limits :=
  match k with
  | .open | .deploy | .reopen => s.openLim a
  | .close => s.closeLim a ((s.doorOfAxis a).bind s.creepCap)
  | .stow => s.closeLim a none
  | .lockIn | .lockOut | .refLock => s.lockLim a
  | .jog => s.jogLim a
  | .refSearch | .evacUncertain => s.searchLim a
  | .refBack => s.latchLim a
  | .rampStop | .refRest => s.stopLim a

/-- Replan a running plan to its target under the limits now in force (R72, R110). -/
def State.replanNow (s : State) (a : Axis) : State :=
  match s.axes[a].plan with
  | some p => if p.kind == .rampStop || p.kind == .refRest then s
      else s.moveTo a p.kind none p.target (s.kindLim a p.kind)
  | none => s

/-- Change between full and derated limits: AX_TWIN_DERATE, and a running plan follows. -/
def State.setDerated (s : State) (a : Axis) (d : Bool) : State :=
  if s.axes[a].derated == d then s
  else
    let s1 := (s.modAxis a fun x => { x with derated := d }).raise Ev.AX_TWIN_DERATE [.u8 a.val, item8 d]
    if d then s1.replanNow a else s1

/-! ### Losing a lane or an axis (R103, R111) -/

/-- The axis is lost: it freezes as for a drive fault, and its command ends. -/
def State.axisLost (s : State) (a : Axis) : State :=
  s.freeze a 5 ST_STATE (s.axisStateDetail a)

/-- The encoder supply of an axis goes with a lane that declares it (R111, R112). -/
def State.encSupplyGone (s : State) (m : Axis) : State :=
  let form := s.param (pAxMod m.val 0)
  if form = 1 ∨ form = 3 then
    (s.modAxis (s.axisOfLane m) fun x => { x with encSupplyLost := true, watch := 0 })
  else s

/-- One lane of a pair is lost (R111): the axis continues derated, or stops and leaves service; with both
lanes lost it freezes and is uncertain. A single axis freezes. -/
def State.laneGone (s : State) (m : Axis) : State :=
  let a := s.axisOfLane m
  let o := otherLane m
  if !s.twin a then s.axisLost a
  else if !s.axes[a].lanes[laneIndex m] then s
  else
    let s0 := s.modAxis a fun x => { x with lanes := updV x.lanes (laneIndex m) fun _ => false, leaving := none }
    if !(s.axModIn o && s.axes[a].lanes[laneIndex o]) then (s0.axisLost a).makeUncertain a 2
    else
      let continues := s.laneLossContinues a
      let s1 := (s0.raise Ev.AX_LANE_LOST [.u8 a.val, .u8 (axSlotNo m), item8 continues]).encSupplyGone m
      let s2 := s1.takeOut (axisSlot m)
      if continues then s2.setDerated a true
      else
        let s3 := s2.modAxis a fun x => { x with derated := true }
        ((s3.raise Ev.AX_TWIN_DERATE [.u8 a.val, .u8 1]).rampStop a).endAxisCmd a ST_STATE (s.axisStateDetail a) []

/-! ### Drive faults (Table AX-7) -/

/-- A module latches or reports a drive fault: the uplink flag, FR_MODULE_FAULT, the event of its code, and
the freeze of R79 or the lost lane of R111. -/
def State.driveFaultOn (s : State) (m : Axis) (code : Nat) (ev : BitVec 10) (items : List Item) : State :=
  if s.axMods[m].fault = code then s
  else
    let s1 := s.modAxMod m fun k => { k with
      fault := code, uplink := { k.uplink with fault := BitVec.ofNat 8 code } }
    let s2 := (s1.modSlot (axisSlot m) fun x => { x with fault := some code }).raise Ev.FR_MODULE_FAULT
      [.u8 (axSlotNo m), .u8 code]
    let s3 := s2.raise ev items
    if s.axModIn m then s3.laneGone m else s3

/-- A drive fault clears. -/
def State.driveFaultOff (s : State) (m : Axis) : State :=
  (s.modAxMod m fun k => { k with fault := 0, uplink := { k.uplink with fault := 0 } }).modSlot (axisSlot m)
    fun x => { x with fault := none }

/-- Axis and slot, the first items of every event of chapter 04. -/
def State.axItems (s : State) (m : Axis) : List Item := [.u8 (s.axisOfLane m).val, .u8 (axSlotNo m)]

/-- OVERCURRENT_TRIP (R93): 16 A, the bridge off, drive fault 1. -/
def execOvercurrentTrip (m : Axis) (phaseB : Bool) (s : State) : Host.Outcome State Fault Refusal :=
  .next (s.driveFaultOn m 1 Ev.AX_OVERCURRENT (s.axItems m ++ [item8 phaseB]))

/-- PEAK_LIMIT (R93): the budget is used up, and the peak flag is set. -/
def execPeakLimit (m : Axis) (s : State) : Host.Outcome State Fault Refusal :=
  .next ((s.modAxMod m fun k => { k with peakFlag := true, peakBudget := 0 }).raise Ev.AX_PEAK_LIMIT (s.axItems m))

/-- BUS_RANGE_FAULT (R94): fault 5 below 36 V, fault 6 above 70 V. -/
def execBusRangeFault (m : Axis) (mV : Nat) (s : State) : Host.Outcome State Fault Refusal :=
  let code := if mV < 36000 then 5 else if 70000 < mV then 6 else 0
  let s1 := s.modAxMod m fun k => { k with uplink := { k.uplink with vBus := BitVec.ofNat 16 (mV / 10) } }
  .next (if code = 0 then s1
    else s1.driveFaultOn m code Ev.AX_BUS_RANGE (s.axItems m ++ [.u16 (mV / 10)]))

/-- BUS_RANGE_CLEAR (R94). -/
def execBusRangeClear (m : Axis) (s : State) : Host.Outcome State Fault Refusal :=
  .next (if s.axMods[m].fault = 5 ∨ s.axMods[m].fault = 6 then s.driveFaultOff m else s)

/-- An encoder fault (R95): no reading of that axis is used until the next passing re-reference. -/
def State.encFaultOn (s : State) (m : Axis) (reason : Nat) : State :=
  ((s.modAxMod m fun k => { k with encFault := true }).modAxis (s.axisOfLane m) fun x => { x with
    encUsable := false, watch := 0 }).raise Ev.AX_ENC_FAULT (s.axItems m ++ [.u8 reason])

def execEncFault (m : Axis) (reason : Nat) (s : State) : Host.Outcome State Fault Refusal :=
  .next (s.encFaultOn m reason)

/-! ### Temperatures (R96, Table AX-2) -/

/-- What a motor temperature reading means. The NTC's 110 °C and 120 °C are 776 and 617 ohm (β 3,435 K). -/
inductive TempReading where
  | normal | warn | trip | fault
  deriving DecidableEq, Repr

def tempReading (mode ohm : Nat) : TempReading :=
  match mode with
  | 1 => if ohm < 20 ∨ 20000 < ohm then .fault else if 3000 < ohm then .trip else if 1500 < ohm then .warn else .normal
  | 2 => if ohm < 100 ∨ 400000 < ohm then .fault else if ohm ≤ 617 then .trip else if ohm ≤ 776 then .warn else .normal
  | _ => .normal

/-- A new motor temperature reading: events at each level, and the 70 % cap (R96). -/
def State.motorTempRead (s : State) (m : Axis) (ohm : Nat) : State :=
  let a := s.axisOfLane m
  let k := s.axMods[m]
  let r := tempReading (s.param (pAxMod m.val 7)) ohm
  let reading : Item := .u32 ohm
  let other := s.twin a && (s.axMods[otherLane m].tempLevel != 0 || s.axMods[otherLane m].sensorFault)
  match r with
  | .normal =>
    let s1 := (s.modAxMod m fun k => { k with tempLevel := 0, sensorFault := false }).modAxis a fun x =>
      { x with tempCap := other && x.tempCap }
    if k.tempLevel = 0 && !k.sensorFault then s1 else s1.raise Ev.AX_MOTOR_TEMP (s.axItems m ++ [reading, .u8 2])
  | .warn =>
    let s1 := s.modAxMod m fun k => { k with tempLevel := 1, sensorFault := false }
    if k.tempLevel = 0 then s1.raise Ev.AX_MOTOR_TEMP (s.axItems m ++ [reading, .u8 0]) else s1
  | .trip =>
    let s1 := (s.modAxMod m fun k => { k with tempLevel := 2, sensorFault := false }).modAxis a fun x =>
      { x with tempCap := true }
    if k.tempLevel = 2 then s1 else s1.raise Ev.AX_MOTOR_TEMP (s.axItems m ++ [reading, .u8 1])
  | .fault =>
    let s1 := (s.modAxMod m fun k => { k with sensorFault := true }).modAxis a fun x => { x with tempCap := true }
    if k.sensorFault then s1 else s1.raise Ev.AX_TEMP_SENSOR (s.axItems m ++ [reading])

def execMotorTemp (m : Axis) (ohm : Nat) (s : State) : Host.Outcome State Fault Refusal := .next (s.motorTempRead m ohm)

/-- A heatsink reading (R96): 90 °C warns, 105 °C is drive fault 7. -/
def State.heatsinkRead (s : State) (m : Axis) (celsius : Int) : State :=
  let items (k : Nat) : List Item := s.axItems m ++ [.u8 (unsigned 8 celsius), .u8 k]
  if 105 ≤ celsius then
    (s.modAxMod m fun k => { k with sinkWarned := true }).driveFaultOn m 7 Ev.AX_HEATSINK (items 1)
  else if 90 ≤ celsius then
    if s.axMods[m].sinkWarned then s
    else (s.modAxMod m fun k => { k with sinkWarned := true }).raise Ev.AX_HEATSINK (items 0)
  else s.modAxMod m fun k => { k with sinkWarned := false }

def execHeatsink (m : Axis) (celsius : Int) (s : State) : Host.Outcome State Fault Refusal := .next (s.heatsinkRead m celsius)

/-! ### Resistance check (R97, R98, Table AX-3) -/

def phaseShort (r : Nat) (p : CheckPhase) : Bool := p.trip || (decide (100 ≤ p.mA) && decide (10 * p.milliOhm < 6 * r))
def phaseOpen (p : CheckPhase) : Bool := decide (p.mA < 100)
def phaseHigh (r : Nat) (p : CheckPhase) : Bool := decide (16 * r < 10 * p.milliOhm)

/-- The verdict, tried in the order of Table AX-3, and the phase that gave it. -/
def checkVerdict (r : Nat) (ps : Vector CheckPhase 2) : Verdict × Nat :=
  let a := ps[(0 : Fin 2)]
  let b := ps[(1 : Fin 2)]
  let pick (f : CheckPhase → Bool) : Option Nat := if f a then some 0 else if f b then some 1 else none
  match pick (fun p => decide (50 < p.diff)) with
  | some n => (.ground, n)
  | none => match pick (phaseShort r) with
    | some n => (.short, n)
    | none => match pick phaseOpen with
      | some n => (.open, n)
      | none => match pick (phaseHigh r) with
        | some n => (.high, n)
        | none => (.pass, 0)

/-- Code and event of a verdict other than pass, with its data. -/
def State.verdictFault (s : State) (m : Axis) (v : Verdict) (n : Nat) (ps : Vector CheckPhase 2) : State :=
  let p := if n = 0 then ps[(0 : Fin 2)] else ps[(1 : Fin 2)]
  let items := s.axItems m ++ [.u8 n]
  match v with
  | .ground => s.driveFaultOn m 4 Ev.AX_PHASE_GROUND (items ++ [.u16 p.diff])
  | .short => s.driveFaultOn m 3 Ev.AX_PHASE_SHORT (items ++ [.u16 p.milliOhm])
  | .open => s.driveFaultOn m 2 Ev.AX_PHASE_OPEN items
  | .high => s.driveFaultOn m 10 Ev.AX_CHECK_HIGH (items ++ [.u16 p.milliOhm])
  | .pass => s

/-- The check of a rejoining lane runs (R113). -/
def State.rejoinChecks (s : State) (m : Axis) : Bool :=
  match s.axes[s.axisOfLane m].rejoining with
  | some (l, none) => l == laneIndex m
  | _ => false

/-- A check ends. A pass clears the faults of R98, lets a re-reference go on once every lane has passed (R87)
and starts the amplitude ramp of a rejoining lane (R113); any other verdict is a latched drive fault. -/
def State.checkEnds (s : State) (m : Axis) (ps : Vector CheckPhase 2) : State :=
  let a := s.axisOfLane m
  let r := (s.axMods[m].cfg[(0 : Fin 8)]).elim (s.ap a 0x0F) BitVec.toNat
  let v := checkVerdict r ps
  let s1 := s.modAxMod m fun k => { k with
    checkRunning := false, checkPassed := v.1 == .pass,
    uplink := { k.uplink with
      rA := BitVec.ofNat 16 (min 65535 ps[(0 : Fin 2)].milliOhm),
      rB := BitVec.ofNat 16 (min 65535 ps[(1 : Fin 2)].milliOhm) } }
  let checking := s.refStageIs a .check
  let rejoins := s.rejoinChecks m
  if v.1 == .pass then
    let f := s.axMods[m].fault
    let s2 := if f = 5 ∨ f = 6 ∨ f = 8 then s1 else s1.driveFaultOff m
    let s3 := s2.raise Ev.AX_CHECK_PASS (s.axItems m ++ [.u16 ps[(0 : Fin 2)].milliOhm, .u16 ps[(1 : Fin 2)].milliOhm])
    if checking then
      if (s3.modulesOf a).all fun k => !s3.axMods[k].checkRunning || !s3.axModIn k then s3.refChecked a else s3
    else if rejoins then s3.modAxis a fun x => { x with rejoining := some (laneIndex m, some s.now) }
    else s3
  else
    let s2 := if checking then s1.refFail a 6 else s1
    let s3 := if rejoins then s2.modAxis a fun x => { x with rejoining := none } else s2
    s3.verdictFault m v.1 v.2 ps

def execResistanceCheck (m : Axis) (phase : Vector CheckPhase 2) (s : State) : Host.Outcome State Fault Refusal :=
  .next (s.checkEnds m phase)

/-! ### Configuration mismatch and loss state (R100, R102) -/

/-- The reported CRC has differed for 32 ticks: drive fault 8, and the module is held out of service. -/
def State.axMismatch (s : State) (m : Axis) : State :=
  let s1 := s.driveFaultOn m 8 Ev.AX_CONFIG_MISMATCH
    (s.axItems m ++ [.u16 s.axMods[m].uplink.cfgCrc.toNat, .u16 (s.axCfgCrc m).toNat])
  (s1.modSlot (axisSlot m) fun x => { x with inService := false, heldOut := some .config }).judgeTiers (axSlotNo m)

def execAxConfigMismatch (m : Axis) (s : State) : Host.Outcome State Fault Refusal := .next (s.axMismatch m)

/-- The core learns of a module's loss state: the axis freezes at the address the module holds and is
uncertain, then ack_loss is due (R79, R102); a lane of a pair is lost instead (R111). -/
def State.lossReported (s : State) (m : Axis) : State :=
  let a := s.axisOfLane m
  let s0 := (s.modAxMod m fun k => { k with
      uplink := { k.uplink with state := k.uplink.state ||| 0x04 } }).raise Ev.AX_LOSS_STATE
    (s.axItems m ++ [.u16 s.axMods[m].block.address.toNat])
  let single := !s.twin a || !(s.axModIn (otherLane m) && s.axes[a].lanes[laneIndex (otherLane m)])
  let s1 := s0.laneGone m
  if single then (s1.makeUncertain a 2).modAxMod m fun k => { k with ackDue := true } else s1

/-- The module enters the loss state on its third missed tick in a row (R102): a single axis or lower lane
holds its block, an upper lane opens its coils at once. -/
def State.lossEnter (s : State) (m : Axis) : State :=
  let a := s.axisOfLane m
  let open_ := s.laneRole m = 2 ∨ (s.laneRole m = 1 ∧ s.axModIn (otherLane m))
  let s1 := s.modAxMod m fun k => { k with
    lossState := true, lossFrom := s.now, missRun := max 3 k.missRun,
    block := if open_ then { k.block with mode := 0, amplitude := 0 } else k.block }
  if s.axModIn m || s.axModIn a then s1.lossReported m else s1

def execLossState (m : Axis) (s : State) : Host.Outcome State Fault Refusal :=
  .next (if s.axMods[m].lossState then s else s.lossEnter m)

/-! ### The following watch (R105, R106) -/

/-- The following error x − x_enc in microsteps. -/
def State.followError (s : State) (a : Axis) : Int := rdiv (s.axes[a].x - s.xEnc a) ustep

/-- The watch fires: an obstacle on a leaf that closes or locks and on a step that stows, a ramp stop during any
other move, a report in the settle time. -/
def State.followFires (s : State) (a : Axis) : State :=
  let e := s.followError a
  let say (s : State) (n : Nat) : State := s.raise Ev.AX_FOLLOWING [.u8 a.val, itemS e, .u8 n]
  let stop (s : State) : State := ((say s 1).rampStop a).endAxisCmd a ST_PREEMPTED 0 []
  if s.axes[a].plan.isNone then say s 2
  else match s.doorOfAxis a with
    | none => if s.axes[a].ref.isSome then ((say s 1).rampStop a).refFail a 4 else stop s
    | some d =>
      let x := s.doors.door[d]
      if s.axes[a].ref.isSome then ((say s 1).rampStop a).refFail a 4
      else if (s.leafAxesOf d).contains a then
        if x.leaf == .closing || x.leaf == .locking then
          if bit (s.op d 0x12) 2 then (say s 0).obstacle d 3 else say s 0
        else if x.leaf == .opening then
          ((stop s).rampLeaves d).modDoor d fun x => { x with
            rampToOpen := true, settleWhy := if x.settleWhy = 0 then 3 else x.settleWhy }
        else stop s
      else if x.step == .stowing then (say s 0).stepObstacle d 3
      else stop s

def execFollowing (a : Axis) (s : State) : Host.Outcome State Fault Refusal :=
  .next (s.followFires a)

/-- Is the watch armed (R105)? -/
def State.followArmed (s : State) (a : Axis) : Bool :=
  let x := s.axes[a]
  s.param (pAxMod a.val 5) != 0 && s.encOk a && !x.uncertain &&
    ((x.plan.isSome && x.wakeFrom.isNone) || (x.plan.isNone && (match x.settleFrom with
      | some t => decide (s.since t < s.ap a 0x16 * msec)
      | none => false)))

/-- One tick of the watch: a tick without a valid uplink neither advances nor clears it (R103). -/
def State.followTick (s : State) (a : Axis) : State :=
  if !((s.modulesOf a).any fun m => s.axMods[m].uplink.valid) then s
  else if !s.followArmed a then s.modAxis a fun x => { x with watch := 0 }
  else
    let e := (s.axes[a].x - s.xEnc a).natAbs
    let s1 := s.modAxis a fun x => { x with watchMax := max x.watchMax (e / ustep) }
    if s.param (pAxMod a.val 5) * ustep < e then
      let n := s.axes[a].watch + 1
      let s2 := s1.modAxis a fun x => { x with watch := n }
      if n = s.param (pAxMod a.val 6) then s2.followFires a else s2
    else s1.modAxis a fun x => { x with watch := 0 }

/-! ### Twin-lane axes (R111 to R114) -/

/-- LANE_LOST (R111). -/
def execLaneLost (m : Axis) (s : State) : Host.Outcome State Fault Refusal := .next (s.laneGone m)

/-- The plan lies within the derated limits (R112). -/
def State.withinDerated (s : State) (a : Axis) : Bool :=
  match s.axes[a].plan with
  | none => true
  | some p =>
    let l := s.kindLim a p.kind
    decide (s.axes[a].v.natAbs ≤ l.v) && decide (s.axes[a].a.natAbs ≤ l.a)

/-- The leaving lane's amplitude is zeroed and its mode is OFF (R112). -/
def State.laneLeaves (s : State) (m : Axis) : State :=
  let a := s.axisOfLane m
  ((s.modAxis a fun x => { x with
    lanes := updV x.lanes (laneIndex m) fun _ => false, leaving := none }).encSupplyGone m).raise Ev.AX_LANE_LEFT
    [.u8 a.val, .u8 (axSlotNo m), itemS s.axes[a].pos]

/-- LANE_LEFT (R112): while an announced removal of that lane runs. -/
def execLaneLeft (m : Axis) (s : State) : Host.Outcome State Fault Refusal :=
  .next (if s.axes[s.axisOfLane m].leaving == some (laneIndex m) && s.twin (s.axisOfLane m) then s.laneLeaves m else s)

/-- May a lane rejoin: in service, not driving, the axis at rest with no plan, and its other lane driving? -/
def State.mayRejoin (s : State) (m : Axis) : Bool :=
  let x := s.axes[s.axisOfLane m]
  s.twin (s.axisOfLane m) && s.axModIn m && !x.lanes[laneIndex m] && x.lanes[laneIndex (otherLane m)]
    && x.plan.isNone && x.rejoining.isNone && x.ref.isNone

/-- LANE_REJOIN (R113): the rejoin check starts; ack_loss is sent to a lane in its loss state (R102). -/
def State.laneRejoins (s : State) (m : Axis) : State :=
  (s.modAxis (s.axisOfLane m) fun x => { x with rejoining := some (laneIndex m, none) }).modAxMod m fun k => { k with
    checkRunning := true, checkPassed := false, ackDue := k.lossState }

def execLaneRejoin (m : Axis) (s : State) : Host.Outcome State Fault Refusal :=
  .next (if s.mayRejoin m then s.laneRejoins m else s)

/-- The rejoining lane's ramp has ended: full limits, AX_TWIN_JOINED. -/
def State.laneJoined (s : State) (m : Axis) : State :=
  let a := s.axisOfLane m
  let s1 := s.modAxis a fun x => { x with
    lanes := updV x.lanes (laneIndex m) fun _ => true, rejoining := none,
    encSupplyLost := if s.param (pAxMod m.val 0) = 1 ∨ s.param (pAxMod m.val 0) = 3 then false else x.encSupplyLost }
  (s1.raise Ev.AX_TWIN_JOINED (s.axItems m)).setDerated a false

/-- TWIN_JOINED (R113). -/
def execTwinJoined (m : Axis) (s : State) : Host.Outcome State Fault Refusal :=
  let a := s.axisOfLane m
  .next (match s.axes[a].rejoining with
    | some (l, some t) =>
      if l = laneIndex m then (s.until (t + s.ap a 0x18 * msec)).laneJoined m else s
    | _ => s)

/-- The lanes have disagreed for more than 5 ms (R114). -/
def State.lanesDisagree (s : State) (a : Axis) (encoders : Bool) (difference : Nat) : State :=
  (s.modAxis a fun x => { x with disagree := some (if encoders then 2 else 1) }).raise Ev.AX_LANE_DISAGREE
    [.u8 a.val, .u8 (if encoders then 2 else 1), .u32 difference]

/-- LANE_DISAGREE (R114). -/
def execLaneDisagree (a : Axis) (encoders : Bool) (difference : Nat) (s : State) : Host.Outcome State Fault Refusal :=
  .next (if s.twin a && s.axes[a].disagree.isNone then
    (match s.axes[a].differFrom with
      | some t => s.until (t + 5 * msec)
      | none => s).lanesDisagree a encoders difference
  else s)

/-- Limit inputs as one lane reports them. -/
def AxModSt.limit (k : AxModSt) (b : Bool) : Bool := k.uplink.inputs.getLsbD (if b then 1 else 0)

/-- The limits as the core takes them: of the lanes in service, the restrictive reading (R114). Both limits of
a lane active at once raise AX_LIMIT_BOTH. A limit that has become active acts under R83. -/
def State.limitTick (s : State) (a : Axis) : State :=
  let ms := (s.modulesOf a).filter s.axModIn
  let was := s.axes[a].limits
  let on (b : Bool) : Bool := ms.any fun m => s.axMods[m].limit b
  let both := ms.find? fun m => s.axMods[m].limit false && s.axMods[m].limit true
  let s1 := s.modAxis a fun x => { x with limits := #v[on false, on true], bothRaised := both.isSome }
  let s2 := match both with
    | some m => if s.axes[a].bothRaised then s1 else s1.raise Ev.AX_LIMIT_BOTH (s.axItems m)
    | none => s1
  let s3 := if on false && !was[(0 : Fin 2)] then s2.limitMet a false else s2
  if on true && !was[(1 : Fin 2)] then s3.limitMet a true else s3

/-- The comparison of the two lanes' readings in a tick (R114). -/
def State.compareLanes (s : State) (a : Axis) : State :=
  let o := upperLane a
  if !(s.twin a && s.axModIn a && s.axModIn o) then s
  else
    let p := s.axMods[a]
    let q := s.axMods[o]
    let limits := p.limit false != q.limit false || p.limit true != q.limit true
    let gap := (p.uplink.encCount.toInt - q.uplink.encCount.toInt).natAbs
    let encs := s.hasEncoder a && s.hasEncoder o && decide (s.param (pTwin (a.val / 2) 5) < gap)
    if !limits && !encs then s.modAxis a fun x => { x with differFrom := none, disagree := none }
    else
      let from_ := s.axes[a].differFrom.getD s.now
      let s1 := s.modAxis a fun x => { x with differFrom := some from_ }
      if s.axes[a].disagree.isNone && decide (5 * msec < s.since from_) then
        s1.lanesDisagree a (!limits) (if limits then 1 else gap)
      else s1

/-- What time and the plan bring to a pair in a tick: a leaving lane, a rejoin, its ramp. -/
def State.laneTick (s : State) (a : Axis) : State :=
  if !s.twin a then s
  else
    let s1 := match s.axes[a].leaving with
      | some l => if s.withinDerated a then s.laneLeaves (if l = 0 then a else upperLane a) else s
      | none => s
    let s2 := s1.each [a, upperLane a] fun s m => if s.mayRejoin m then s.laneRejoins m else s
    match s2.axes[a].rejoining with
    | some (l, none) =>
      -- a plan that starts during the check aborts it
      if s2.axes[a].plan.isSome then s2.modAxis a fun x => { x with rejoining := none } else s2
    | some (l, some t) =>
      if s2.ap a 0x18 * msec ≤ s2.since t then s2.laneJoined (if l = 0 then a else upperLane a) else s2
    | none => s2

end Sys2Proof.Machine
end

