-- ==== Sys2Proof/Machine/Obstacle.lean ====
section
/-!
DEFINITION. Obstacles and the urgent path, chapter 05: the sources of a doorway as each core evaluates them
(R116 to R118, R132, R133), edge and grid faults, step obstacles (R125) and relay welds (R135).
-/

namespace Sys2Proof.Machine

/-- Source codes of EV 0x090: Table OB-1's rows in order, then a missing uplink (R132). -/
def sourceCode : ObSource → Nat
  | .edge => 1 | .grid => 2 | .following => 3 | .proof => 4 | .command => 5 | .panel => 6 | .link => 7

/-- Edges of a doorway in the order edge 0, edge 1, step edge. -/
def edgeIndex : EdgeId → Fin 3
  | .edge0 => 0 | .edge1 => 1 | .step => 2

/-- Channel of an edge; 0xFF names none. -/
def State.edgeChan (s : State) (d : Doorway) (e : EdgeId) : Nat :=
  match e with
  | .edge0 => s.op d 0x00
  | .edge1 => s.op d 0x01
  | .step => s.op d 0x10

/-- The group supply of a channel, as the core last read it, is in service. -/
def State.supplyOk (s : State) (core : CoreId) (c : Nat) : Bool :=
  let g := bits s.field.mods[chanMod c].views[core].gState.toNat (3 * (c % 32 / 8)) 3
  g != 3 && g != 4

/-- The module of a channel is in service, and yet no valid uplink of it has arrived in this tick. -/
def State.uplinkMissing (s : State) (core : CoreId) (c : Nat) : Bool :=
  s.inService (fieldSlot (chanMod c)) && !s.field.mods[chanMod c].views[core].fresh

/-- Fault of a sensitive edge or grid input as one core reads it (R118): the input's state code, 16 for a
module out of service, 17 for its supply group (log 17). -/
def State.inputFaultOf (s : State) (core : CoreId) (c : Nat) : Option Nat :=
  if c = 0xFF then none
  else if !s.inService (fieldSlot (chanMod c)) then some 16
  else if !s.supplyOk core c then some 17
  else if (s.reading core c).isNone then
    (match asFin 64 c with
      | some k => some s.field.chan[k].code
      | none => some 16)
  else none

/-- The following watch of an axis is able to arm (R118). -/
def State.watchAble (s : State) (a : Axis) : Bool :=
  s.param (pAxMod a.val 5) != 0 && s.encOk a && s.axes[a].referenced && !s.axes[a].uncertain

/-- A faulted edge is ignored and the close runs in creep (R118). -/
def State.creepAllowed (s : State) (d : Doorway) : Bool :=
  s.op d 0x06 == 1 && bit (s.op d 0x12) 2 && (s.leafAxesOf d).all s.watchAble

/-- A leaf edge is evaluated: named, enabled in obst.d.src_mask and not muted at this width (R117). -/
def State.edgeJudged (s : State) (d : Doorway) (c : Nat) : Bool :=
  c ≠ 0xFF && bit (s.op d 0x12) 0 && decide (s.op d 0x05 * mmUnit ≤ s.widthU d)
def State.gridJudged (s : State) (d : Doorway) : Bool :=
  s.op d 0x02 ≠ 0xFF && bit (s.op d 0x12) 1 && decide (s.op d 0x04 * mmUnit ≤ s.widthU d)

/-- An edge as one core takes it: a faulted one is at its restrictive value unless creep is allowed. -/
def State.edgeActive (s : State) (core : CoreId) (d : Doorway) (c : Nat) : Bool :=
  if (s.inputFaultOf core c).isSome then !s.creepAllowed d else s.reading core c == some true

/-- The grid as one core takes it: a faulted one counts as interrupted. -/
def State.gridActive (s : State) (core : CoreId) (d : Doorway) : Bool :=
  match s.reading core (s.op d 0x02) with
  | none => true
  | some v => (s.inputFaultOf core (s.op d 0x02)).isSome || (if s.op d 0x03 = 1 then v else !v)

/-- Is the grid on the urgent path (class EDGE)? -/
def State.gridUrgent (s : State) (d : Doorway) : Bool := chanClass s.param (s.op d 0x02) == 1

/-- A judged urgent source whose module's uplink is missing in this tick (R132): its channel. -/
def State.linkSource (s : State) (core : CoreId) (d : Doorway) : Option Nat :=
  ([s.op d 0x00, s.op d 0x01].find? fun c => s.edgeJudged d c && s.uplinkMissing core c).or
    (if s.gridJudged d && s.gridUrgent d && s.uplinkMissing core (s.op d 0x02) then some (s.op d 0x02) else none)

/-- The obstacle source one core sees on a doorway in this tick. -/
def State.sourceSeen (s : State) (core : CoreId) (d : Doorway) : Option Nat :=
  if [s.op d 0x00, s.op d 0x01].any fun c => s.edgeJudged d c && s.edgeActive core d c then some 1
  else if s.gridJudged d && s.gridActive core d then some 2
  else if (s.linkSource core d).isSome then some 7 else none

def State.closingOrLocking (s : State) (d : Doorway) : Bool :=
  s.doors.door[d].leaf == .closing || s.doors.door[d].leaf == .locking

/-! ### Edge and grid faults (R118) -/

/-- An edge goes into fault: reported once. -/
def State.edgeFaults (s : State) (d : Doorway) (e : EdgeId) (fault : Nat) : State :=
  if s.obst[d].edgeFaulty[edgeIndex e] then s
  else (s.modObst d fun o => { o with edgeFaulty := updV o.edgeFaulty (edgeIndex e) fun _ => true }).raise
    Ev.OB_EDGE_FAULT [.u16 (s.doorId d.val), .u8 (s.edgeChan d e), .u8 fault,
      item8 (e != .step && s.creepAllowed d)]

def State.edgeClears (s : State) (d : Doorway) (e : EdgeId) : State :=
  if s.obst[d].edgeFaulty[edgeIndex e] then
    (s.modObst d fun o => { o with edgeFaulty := updV o.edgeFaulty (edgeIndex e) fun _ => false }).raise
      Ev.OB_EDGE_CLEARED [.u16 (s.doorId d.val), .u8 (s.edgeChan d e)]
  else s

def State.gridFaults (s : State) (d : Doorway) (fault : Nat) : State :=
  if s.obst[d].gridFaulty then s
  else (s.modObst d fun o => { o with gridFaulty := true }).raise Ev.OB_GRID_FAULT
    [.u16 (s.doorId d.val), .u8 (s.op d 0x02), .u8 fault]

/-- EDGE_FAULT (R118): at its restrictive value it is an obstacle of the doorway or step at once. -/
def execEdgeFault (d : Doorway) (edge : EdgeId) (fault : Nat) (s : State) : Host.Outcome State Fault Refusal :=
  let s1 := s.edgeFaults d edge fault
  .next (if !s.enabled d then s else match edge with
    | .step => s1.stepObstacle d 1
    | _ =>
      if s.closingOrLocking d && s.edgeJudged d (s.edgeChan d edge) then
        if s.creepAllowed d then
          (s1.modDoor d fun x => { x with creep := true }).each (s.leafAxesOf d) fun s a =>
            if s.axes[a].plan.any fun p => p.kind == .close then s.replanNow a else s
        else s1.obstacle d 1
      else s1)

/-- EDGE_CLEARED. -/
def execEdgeCleared (d : Doorway) (edge : EdgeId) (s : State) : Host.Outcome State Fault Refusal :=
  .next (s.edgeClears d edge)

/-- GRID_FAULT (R118): a grid in fault takes its restrictive value. -/
def execGridFault (d : Doorway) (fault : Nat) (s : State) : Host.Outcome State Fault Refusal :=
  let s1 := s.gridFaults d fault
  .next (if !s.enabled d then s
    else if s.closingOrLocking d && s.gridJudged d then s1.obstacle d 2 else s1)

/-! ### Obstacles -/

/-- Does a source count on this doorway (obst.d.src_mask, obst.d.panel.enable, mutes)? -/
def State.sourceCounts (s : State) (d : Doorway) (src : ObSource) : Bool :=
  match src with
  | .edge => [s.op d 0x00, s.op d 0x01].any (s.edgeJudged d)
  | .grid => s.gridJudged d
  | .following => bit (s.op d 0x12) 2
  | .proof => true
  | .command => bit (s.op d 0x12) 3
  | .panel => s.op d 0x11 == 1
  | .link => [s.op d 0x00, s.op d 0x01].any (s.edgeJudged d) || s.gridJudged d

def State.urgent (s : State) (d : Doorway) (src : ObSource) : Bool :=
  match src with
  | .edge => true
  | .grid => s.gridUrgent d
  | _ => false

/-- The measured reversal latency (R138): sample to the first reversal block, plus 525 us. -/
def State.latencyAlarm (s : State) (d : Doorway) (us : Nat) : State :=
  let s1 := s.modObst d fun o => { o with latency := us + 525 }
  if s.param 0x160 < us + 525 then s1.raise Ev.OB_LATENCY [.u16 (s.doorId d.val), .u16 (us + 525)] else s1

/-- OB_OBSTACLE (R120): an obstacle source fires on a doorway in CLOSING or LOCKING. -/
def execObObstacle (d : Doorway) (src : ObSource) (sampleToTick : Nat) (s : State) :
    Host.Outcome State Fault Refusal :=
  .next (if s.enabled d && s.closingOrLocking d && s.sourceCounts d src then
    let s1 := s.obstacle d (sourceCode src)
    if s.urgent d src then s1.latencyAlarm d sampleToTick else s1
  else s)

/-- STEP_OBSTACLE (R125). -/
def execStepObstacle (d : Doorway) (following : Bool) (s : State) : Host.Outcome State Fault Refusal :=
  .next (if s.enabled d then s.stepObstacle d (if following then 3 else 1) else s)

/-! ### One tick of the sources -/

/-- The faults of a doorway's edges and grid as the active core reads them. -/
def State.faultTick (s : State) (d : Doorway) : State :=
  let core := s.activeCore
  let edge (s : State) (e : EdgeId) : State :=
    let c := s.edgeChan d e
    if c = 0xFF then s
    else match s.inputFaultOf core c with
      | some n => s.edgeFaults d e n
      | none => s.edgeClears d e
  let s1 := [EdgeId.edge0, .edge1, .step].foldl edge s
  if s.op d 0x02 = 0xFF then s1
  else match s.inputFaultOf core (s.op d 0x02) with
    | some n => s1.gridFaults d n
    | none => s1.modObst d fun o => { o with gridFaulty := false }

/-- Creep follows R118 in every tick. -/
def State.creepTick (s : State) (d : Doorway) : State :=
  let x := s.doors.door[d]
  let closes := x.leaf == .warn || x.leaf == .closing || x.leaf == .locking
  let faulty := s.obst[d].edgeFaulty[(0 : Fin 3)] || s.obst[d].edgeFaulty[(1 : Fin 3)]
  let creep := closes && faulty && s.creepAllowed d
  let s1 := s.modDoor d fun x => { x with creep := creep }
  if creep && !x.creep && x.leaf == .closing then
    s1.each (s.leafAxesOf d) fun s a =>
      if s.axes[a].plan.any fun p => p.kind == .close then s.replanNow a else s
  else s1

/-- Sources of one doorway in a tick: the active core's raise an obstacle, the standby keeps what it sees
(R133); a missing uplink is reported (R132). -/
def State.obstacleTick (s : State) (d : Doorway) : State :=
  let core := s.activeCore
  let s1 := (s.faultTick d).creepTick d
  let seen := if s1.closingOrLocking d then s1.sourceSeen core d else none
  let other := if s1.closingOrLocking d then s1.sourceSeen s.standbyCore d else none
  let stepChan := s.op d 0x10
  let stowing := s.doors.door[d].step == .stowing && stepChan ≠ 0xFF && bit (s.op d 0x12) 0
  let stepLink := stowing && s.uplinkMissing core stepChan
  let stepSeen := stowing && (stepLink || (s1.inputFaultOf core stepChan).isSome || s1.reading core stepChan == some true)
  let missing := (if s1.closingOrLocking d then s1.linkSource core d else none).or
    (if stepLink then some stepChan else none)
  let s2 := match missing with
    | some c => if s.obst[d].staleRaised then s1
        else s1.raise Ev.OB_STALE_INPUT [.u8 (11 + c / 32), .u8 c, .u8 2]
    | none => s1
  s2.modObst d fun o => { o with
    raised := seen, seen := updV o.seen s.standbyCore fun _ => other, stepRaised := stepSeen,
    staleRaised := missing.isSome, stopWithRev := o.stopWithRev }

/-! ### Relay welds (R135) -/

/-- RELAY_WELD: a relay's feedback shows it closed 12 ms after being driven off; the core closes neither of
its relays again. -/
def execRelayWeld (core : CoreId) (relay : Fin 2) (s : State) : Host.Outcome State Fault Refusal :=
  .next (if s.doors.relays[core] || s.doors.weld[core] then s
    else ((s.until (s.doors.relaysOffAt[core] + 12 * msec)).modDoors fun x => { x with
      weld := updV x.weld core fun _ => true }).raise Ev.OB_RELAY_WELD [.u8 core.val, .u8 relay.val])

end Sys2Proof.Machine
end

