-- ==== Sys2Proof/Machine/FieldIO.lean ====
section
/-!
DEFINITION. Field inputs and outputs, chapter 06: group supplies (R141), the states of inputs (R146 to R151),
outputs and their re-arming (R152 to R155), barrier frames, safe states and hold (R131, R156 to R159) and the
configuration of a field module (R160).
-/

namespace Sys2Proof.Machine

/-! ### The configuration a field module applies (Table FI-8) -/

/-- A configuration value the module has applied. -/
def FieldModSt.cfg (m : FieldModSt) (i : Nat) : Nat := (m.applied.toList.getD i 0).toNat

/-- Parameter index of configuration record `i` of module `m`. -/
def fioParam (m i : Nat) : Nat :=
  if i < 0x20 then pFieldChan (32 * m + i) 0
  else if i < 0x40 then pFieldChan (32 * m + i - 0x20) 1
  else if i < 0x60 then pFieldChan (32 * m + i - 0x40) 2
  else if i < 0x64 then pGroup (4 * m + i - 0x60)
  else pFieldMod m (i - 0x64)

/-- A parameter as a record set of module `m` gives it. -/
def fioGet (m : Nat) (v : Nat → Nat) (p : Nat) : Nat :=
  let j := p - 0x320 - 96 * m
  if inRange (0x320 + 96 * m) (0x320 + 96 * m + 95) p then v (j / 3 + 32 * (j % 3)) else 0

/-- The CRC of the set the core intends (R160). -/
def State.fioCrc (s : State) (m : Nat) : BitVec 16 :=
  crc16 ((List.range 103).flatMap fun i => leBytes 4 (s.param (fioParam m i)))

/-- The CRC of the records a module has staged; none while one is missing. -/
def FieldModSt.stagedCrc (x : FieldModSt) : Option (BitVec 16) :=
  if x.staged.toList.all Option.isSome then
    some (crc16 (x.staged.toList.flatMap fun v => leBytes 4 (v.elim 0 BitVec.toNat)))
  else none

/-- No staged record carries a reserved bit or a value out of range (R145, R160). -/
def FieldModSt.stagedOk (x : FieldModSt) (m : Nat) : Bool :=
  let v (i : Nat) : Nat := (x.staged.toList.getD i none).elim 0 BitVec.toNat
  ((List.range 32).all fun c => (fieldChanOff (fioGet m v) (32 * m + c)).isEmpty)
  && [0x60, 0x61, 0x62, 0x63].all (fun i => decide (v i ≤ 1))
  && inRange 1 100 (v 0x64) && inRange 10 1000 (v 0x65) && orZero 10 5000 (v 0x66)

/-- The applied configuration as parameters. -/
def State.fioCfg (s : State) (c : Chan) : Nat → Nat := fioGet (chanMod c.val).val s.field.mods[chanMod c.val].cfg

def State.chanIsIn (s : State) (c : Chan) : Bool := chanMode (s.fioCfg c) c.val == 1 || chanMode (s.fioCfg c) c.val == 2
def State.chanIsOut (s : State) (c : Chan) : Bool := chanMode (s.fioCfg c) c.val == 3

/-- Field side up: the module's first set has matched (R160). -/
def State.fieldUp (s : State) (c : Chan) : Bool := s.field.mods[chanMod c.val].fieldUp

def chanGroup (c : Chan) : Group := ⟨c.val / 8, by omega⟩
def groupChans (g : Group) : List Chan := (List.range 8).filterMap fun i => asFin 64 (8 * g.val + i)
def modChans (m : Fin 2) : List Chan := (List.range 32).filterMap fun i => asFin 64 (32 * m.val + i)
def modGroups (m : Fin 2) : List Group := (List.range 4).filterMap fun i => asFin 8 (4 * m.val + i)
def fieldSlotNo (m : Fin 2) : Nat := 11 + m.val

/-- Restrictive value of an input: 0 for SAFE2, fio.c.in.restrict otherwise (R149). -/
def State.restrictive (s : State) (c : Chan) : Bool :=
  let v := s.fioCfg c (pFieldChan c.val 0)
  bits v 2 2 != 2 && bit v 11

/-- A group whose inputs read code 5 and whose outputs are off. -/
def GroupState.out : GroupState → Bool
  | .missing | .reversed => true
  | _ => false
/-- A group that drives its outputs (Table FI-2). -/
def GroupState.drives : GroupState → Bool
  | .ok | .low => true
  | _ => false

/-! ### Inputs (R146 to R150) -/

/-- The channel has no valid value from now on (R149). -/
def State.loseValue (s : State) (c : Chan) : State :=
  if s.chanIsIn c then
    s.modChan c fun x => { x with
      valid := false, value := s.restrictive c, sinceNoValue := s.now,
      code := if s.field.group[chanGroup c].state.out then 5 else 1 }
  else s.modChan c fun x => { x with valid := false, code := 15 }

/-- The channel takes its restrictive value with a state code. -/
def State.restrictTo (s : State) (c : Chan) (code : Nat) : State :=
  s.modChan c fun x => { x with valid := false, value := s.restrictive c, code := code }

/-- The channel's class becomes its valid value. -/
def State.takeValue (s : State) (c : Chan) (v : Bool) : State :=
  s.modChan c fun x => { x with valid := true, value := v, code := 0 }

/-- Filter time in ns: 0.5 ms for EDGE, else fio.c.in.filter. -/
def State.filterNs (s : State) (c : Chan) : Nat :=
  if chanClass (s.fioCfg c) c.val = 1 then 500 * usec else chanFilter (s.fioCfg c) c.val * msec

/-- Age of the samples an uplink carries, in us: 140 or 190 (R156). -/
def State.sampleAge (s : State) : Nat := if s.tick16 % 2 = 1 then 140 else 190

/-- A confirmed change is counted; FI_CHANGE and FI_CHATTER follow (R148). -/
def State.confirmedChange (s : State) (c : Chan) (v : Bool) : State :=
  let x := s.field.chan[c]
  let fresh := decide (sec ≤ s.since x.changesFrom)
  let n := if fresh then 1 else x.changes + 1
  let s1 := s.modChan c fun x => { x with
    changes := n, changesFrom := if fresh && !x.chatter then s.now else x.changesFrom }
  let s2 := if decide (s.param (pFieldMod (chanMod c.val).val 3) < n) && !x.chatter then
      (s1.modChan c fun x => { x with chatter := true, quiet := 0 }).raise Ev.FI_CHATTER [.u8 c.val, .u16 n]
    else s1
  if bit (s.param (pFieldChan c.val 0)) 12 && !s2.field.chan[c].chatter then
    let stamp := s.tai - s.sampleAge * usec - s.filterNs c
    s2.raiseAt Ev.FI_CHANGE stamp [.u8 c.val, item8 v]
  else s2

/-- Chattering ends after two quiet seconds in a row (R148). -/
def State.chatterTick (s : State) (c : Chan) : State :=
  let x := s.field.chan[c]
  if x.chatter && decide (sec ≤ s.since x.changesFrom) then
    let q := if x.changes ≤ s.param (pFieldMod (chanMod c.val).val 3) / 2 then x.quiet + 1 else 0
    s.modChan c fun x => { x with
      changes := 0, changesFrom := s.now, quiet := if 2 ≤ q then 0 else q, chatter := decide (q < 2) }
  else s

/-- Samples of one healthy class for the filter time (R146, R149). -/
def State.confirmInput (s : State) (c : Chan) (v : Bool) : State :=
  let x := s.field.chan[c]
  if !(s.fieldUp c && s.chanIsIn c) then s
  else match x.code with
    | 0 => if x.value == v then s else (s.takeValue c v).confirmedChange c v
    | 1 => s.takeValue c v
    | 2 => (s.takeValue c v).raise Ev.FI_BAND_CLEARED [.u8 c.val, item8 v]
    | _ => s

/-- FILTER_CONFIRM. -/
def execFilterConfirm (c : Chan) (active : Bool) (s : State) : Host.Outcome State Fault Refusal :=
  .next (s.confirmInput c active)

/-- INPUT_FAULT (R143, R144, R146): the state code at once, and the restrictive value. -/
def execInputFault (c : Chan) (kind : InFault) (data : Nat) (s : State) : Host.Outcome State Fault Refusal :=
  let mode := chanMode (s.fioCfg c) c.val
  let group := s.field.group[chanGroup c]
  .next (if !(s.fieldUp c && s.chanIsIn c) || group.state.out then s
    else match kind with
      | .openWire => if mode = 1 ∧ chanSuper (s.fioCfg c) c.val ≠ 0 then
          (s.restrictTo c 3).raise Ev.FI_OPEN_WIRE [.u8 c.val, .u16 data] else s
      | .shortSupply => if mode = 1 then
          (s.restrictTo c 4).raise Ev.FI_SHORT_SUPPLY [.u8 c.val, .u16 data, .u16 group.voltage] else s
      | .overvoltage => if mode = 2 then
          (s.restrictTo c 7).raise Ev.FI_WR_OVERVOLT [.u8 c.val, .u16 data] else s)

/-- INPUT_FAULT_CLEAR (R146): no valid value, state code 1 from this tick. -/
def execInputFaultClear (c : Chan) (s : State) : Host.Outcome State Fault Refusal :=
  let code := s.field.chan[c].code
  .next (if code = 3 ∨ code = 4 ∨ code = 7 then
      (s.loseValue c).raise Ev.FI_DIAG_CLEARED [.u8 c.val, .u8 code]
    else s)

/-- BAND_RESOLVE (R149): still unresolved fio.m.band_resolve after it lost its value. -/
def execBandResolve (c : Chan) (data : Nat) (s : State) : Host.Outcome State Fault Refusal :=
  let x := s.field.chan[c]
  .next (if s.chanIsIn c && x.code == 1 then
      ((s.until (x.sinceNoValue + s.field.mods[chanMod c.val].cfg 0x65 * msec)).restrictTo c 2).raise Ev.FI_BAND
        [.u8 c.val, .u16 data]
    else s)

/-- BAND_HOLD (R150); with fio.m.band_hold at 0 a valid value is held through the band. -/
def execBandHold (c : Chan) (data : Nat) (s : State) : Host.Outcome State Fault Refusal :=
  .next (if s.chanIsIn c && s.field.chan[c].code == 0 && s.field.mods[chanMod c.val].cfg 0x66 != 0 then
      (s.restrictTo c 2).raise Ev.FI_BAND [.u8 c.val, .u16 data]
    else s)

/-! ### Outputs (R152 to R155) -/

/-- Lead of the set a channel belongs to; the channel itself where it is single or a lead. -/
def State.leadOf (s : State) (c : Chan) : Chan :=
  let g := s.fioCfg c
  if outParallel g c.val = 7 then
    match [1, 2, 3].find? fun k => decide (k ≤ c.val) && decide ((c.val - k) / 8 = c.val / 8) &&
        chanMode g (c.val - k) == 3 && decide (k < outParallel g (c.val - k)) && decide (outParallel g (c.val - k) ≤ 4) with
    | some k => (asFin 64 (c.val - k)).getD c
    | none => c
  else c

/-- Members of the set a lead declares (R155). -/
def State.members (s : State) (lead : Chan) : List Chan :=
  let n := outParallel (s.fioCfg lead) lead.val
  if inRange 2 4 n then (List.range n).filterMap fun i => asFin 64 (lead.val + i) else [lead]

/-- Latched fault of a set: that of any member. -/
def State.setLatched (s : State) (lead : Chan) : Nat :=
  ((s.members lead).map fun c => s.field.chan[c].latched).foldl (fun a b => if a = 0 then b else a) 0

/-- A standing output diagnosis ends. -/
def State.endDiag (s : State) (c : Chan) (codes : List Nat) : State :=
  let d := s.field.chan[c].diag
  if codes.contains d then
    (s.modChan c fun x => { x with diag := 0 }).raise Ev.FI_DIAG_CLEARED [.u8 c.val, .u8 d]
  else s

/-- Switch one output on or off; a latched fault or the group's supply keeps it off (Table FI-2, R154). -/
def State.driveOutput (s : State) (lead c : Chan) (want : Bool) : State :=
  let x := s.field.chan[c]
  let may := s.chanIsOut c && s.field.group[chanGroup c].state.drives && s.setLatched lead == 0 && s.fieldUp c
  let on := want && may
  if on == x.on then s
  else if on then (s.modChan c fun x => { x with on := true, onAt := s.now }).endDiag lead [10, 12]
  else (s.modChan c fun x => { x with on := false, offAt := s.now }).endDiag lead [9]

/-- Drive a whole set (R155: every member at the same sample). -/
def State.driveSet (s : State) (lead : Chan) (want : Bool) : State :=
  s.each (s.members lead) fun s c => s.driveOutput lead c want

/-- The leads and single outputs of a module. -/
def State.outputs (s : State) (m : Fin 2) : List Chan := (modChans m).filter fun c => s.chanIsOut c && s.leadOf c == c

/-- A fault of any member switches the whole set off and latches (R152, R155). -/
def State.latchOutput (s : State) (c : Chan) (code : Nat) (ev : BitVec 10) (items : List Item) : State :=
  let lead := s.leadOf c
  if !(s.fieldUp c && s.chanIsOut c) || s.field.chan[c].latched != 0 then s
  else
    let s1 := s.modChan c fun x => { x with latched := code, trippedAt := s.now, hot := code == 11, rearm := false }
    let s2 := (s1.modChan lead fun x => { x with cycledOff := !x.demand, trippedAt := s.now }).driveSet lead false
    s2.raise ev (.u8 lead.val :: items)

/-- OUT_OVERLOAD (R152). -/
def execOutOverload (c : Chan) (s : State) : Host.Outcome State Fault Refusal :=
  let w := bits (s.fioCfg c (pFieldChan c.val 1)) 8 8 * msec
  .next (s.latchOutput c 8 Ev.FI_OUT_OVERLOAD [item8 (decide (s.since s.field.chan[c].onAt ≤ w) && w != 0)])

/-- OUT_OVERTEMP (R152). -/
def execOutOvertemp (c : Chan) (s : State) : Host.Outcome State Fault Refusal :=
  .next (s.latchOutput c 11 Ev.FI_OUT_OVERTEMP [])

/-- A diagnosis of an output that stands: it is reported once, through its lead. -/
def State.diagnose (s : State) (c : Chan) (on : Bool) (code : Nat) (ev : BitVec 10) (items : List Item) : State :=
  let lead := s.leadOf c
  let x := s.field.chan[lead]
  if s.fieldUp c && s.chanIsOut c && x.on == on && x.diag != code then
    (s.modChan lead fun x => { x with diag := code }).raise ev (.u8 lead.val :: items)
  else s

/-- OUT_OPEN_ON (R153): code 9, the channel stays on. -/
def execOutOpenOn (c : Chan) (mA : Nat) (s : State) : Host.Outcome State Fault Refusal :=
  .next (s.diagnose c true 9 Ev.FI_OUT_OPEN_ON [.u16 mA])

/-- OUT_OPEN_OFF (R153): code 10, with fio.c.out.offdiag 1 only. -/
def execOutOpenOff (c : Chan) (deciVolt : Nat) (s : State) : Host.Outcome State Fault Refusal :=
  .next (if bit (s.fioCfg c (pFieldChan c.val 1)) 5 then s.diagnose c false 10 Ev.FI_OUT_OPEN_OFF [.u16 deciVolt] else s)

/-- OUT_SHORT_SUPPLY (R153): code 12, whether or not offdiag is set. -/
def execOutShortSupply (c : Chan) (deciVolt : Nat) (s : State) : Host.Outcome State Fault Refusal :=
  .next (s.diagnose c false 12 Ev.FI_OUT_SHORT_SUPPLY [.u16 deciVolt])

/-- PARALLEL_FAULT (R155): the set stays on. -/
def execParallelFault (c member : Chan) (mA : Nat) (s : State) : Host.Outcome State Fault Refusal :=
  .next (s.raise Ev.FI_PARALLEL_FAULT [.u8 c.val, .u8 member.val, .u16 mA])

/-! ### Demands and re-arming on the core (R154) -/

/-- A new demand for an output; a turn-off of a latched output begins its re-arm cycle. -/
def State.setDemand (s : State) (c : Chan) (v : Bool) : State :=
  s.modChan c fun x => { x with
    demand := v, cycledOff := x.cycledOff || (!v && s.setLatched c != 0) }

/-- Does a doorway name the output? -/
def State.doorOutput (s : State) (c : Chan) : Option Doorway :=
  s.enabledDoors.find? fun d => (outputRefs s.param d.val).any fun p => p.2 == c.val

/-- What the doorways demand of an output they name (R53, R348). -/
def State.doorDemandOf (s : State) (c : Chan) : Bool :=
  s.enabledDoors.any fun d =>
    (s.dp d 0x12 == c.val && s.doors.door[d].warnLamp) || (s.dp d 0x13 == c.val && s.doors.door[d].chime)
    || (s.param (pPanelDoor d.val 1) == c.val &&
        (s.panel.intercom[d] == 2 || (s.panel.intercom[d] == 1 && s.panel.blinkOn[d])))

/-- A sequence step of a doorway moves an output it names; a turn-on also serves as the new demand of R154,
at most once in each 10 s. -/
def State.doorOutputTick (s : State) (c : Chan) : State :=
  match s.doorOutput c with
  | none => s
  | some _ =>
    let v := s.doorDemandOf c
    let x := s.field.chan[c]
    if v == x.doorDemand then s
    else
      let s1 := (s.modChan c fun x => { x with doorDemand := v }).setDemand c v
      let again := match x.doorRearmAt with
        | some t => decide (10 * sec ≤ s.since t)
        | none => true
      if v && s.setLatched c != 0 && again then
        s1.modChan c fun x => { x with cycledOff := true, doorRearmAt := some s.now }
      else s1

/-- The re-arm conditions but for the junction: latched, commanded off and on again, 100 ms after the trip. -/
def State.rearmAsked (s : State) (c : Chan) : Bool :=
  let x := s.field.chan[c]
  s.setLatched c != 0 && x.demand && x.cycledOff && decide (100 * msec ≤ s.since x.trippedAt)

def State.fieldRearmDue (s : State) (c : Chan) : Bool :=
  s.rearmAsked c && (s.members c).all fun m => !s.field.chan[m].hot

/-- The core sends the channel's bit in rearm. -/
def State.fieldRearm (s : State) (c : Chan) : State :=
  s.modChan c fun x => { x with rearm := true, cycledOff := false }

/-- REARM_DUE for a field channel: the conditions are met, so the junction is below 130 °C. -/
def State.fieldRearmEvent (s : State) (c : Chan) : State :=
  let s1 := s.until (s.field.chan[c].trippedAt + 100 * msec)
  let s2 := s1.each (s1.members c) fun s m => s.modChan m fun x => { x with hot := false }
  if s2.fieldRearmDue c then s2.fieldRearm c else s2

/-- The module takes a rearm bit: the latched faults of the set clear unless a junction is hot (R152, R154). -/
def State.clearLatched (s : State) (lead : Chan) : State :=
  if (s.members lead).any fun m => s.field.chan[m].hot then s
  else (s.modChan lead fun x => { x with rearm := false }).each (s.members lead) fun s m =>
    let k := s.field.chan[m].latched
    if k = 0 then s
    else (s.modChan m fun x => { x with latched := 0 }).raise Ev.FI_DIAG_CLEARED [.u8 lead.val, .u8 k]

/-- OP_FIO_SET (Table HR-16): the demands of the channels in the mask, all of them or none. -/
def State.doFioSet (s : State) (r : Req) (mask state : BitVec 64) : State :=
  let chans := (List.finRange 64).filter fun c => mask.getLsbD c.val
  let opc := Opc.OP_FIO_SET
  match chans.find? fun c => s.ownerOf (.field c.val) != some r.party with
  | some c => s.fail r opc ST_NOT_OWNER (partyCode (s.ownerOf (.field c.val)))
  | none =>
    if chans.all fun c => chanMode s.param c.val == 3 && outParallel s.param c.val != 7 then
      (s.each chans fun s c => s.setDemand c (state.getLsbD c.val)).ok r opc []
    else s.fail r opc ST_RANGE 0x8010

def execOpFioSet (r : Req) (mask state : BitVec 64) (s : State) : Host.Outcome State Fault Refusal :=
  .next (s.doFioSet r mask state)

/-! ### Group supplies (R141) -/

/-- Levels of Table FI-2 from REVERSED (0) to HIGH (4). -/
def groupLevel : GroupState → Nat
  | .reversed => 0 | .missing => 1 | .low => 2 | .ok => 3 | .high => 4 | .notWired => 3
def levelGroup : Nat → GroupState
  | 0 => .reversed | 1 => .missing | 2 => .low | 3 => .ok | _ => .high

/-- New level of a supply: each threshold at rising values, its hysteresis below it at falling ones. -/
def nextLevel (thresholds falls : List Int) (old : Nat) (v : Int) : Nat :=
  let up := (thresholds.filter (· ≤ v)).length
  let down := (falls.filter (· ≤ v)).length
  if old < up then up else if down < old then down else old

/-- State of a group at a voltage in 0.1 V. -/
def groupAt (old : GroupState) (v : Int) : GroupState :=
  levelGroup (nextLevel [-20, 90, 180, 330] [-25, 85, 175, 325] (groupLevel old) v)

def groupCode : GroupState → Nat
  | .ok => 0 | .low => 1 | .high => 2 | .missing => 3 | .reversed => 4 | .notWired => 5

/-- Safe state of an output: fio.c.out.safe, hold keeping it as it was (R157). -/
def State.safeState (s : State) (c : Chan) : State :=
  match bits (s.fioCfg c (pFieldChan c.val 1)) 0 2 with
  | 0 => s.driveSet c false
  | 1 => s.driveSet c true
  | _ => s

/-- A group's supply takes a new state. -/
def State.groupBecomes (s : State) (g : Group) (new : GroupState) (v : Int) : State :=
  let old := s.field.group[g].state
  let m : Fin 2 := chanMod (8 * g.val)
  let s1 := s.modGroup g fun x => { x with state := new, voltage := v.toNat }
  if new == old then s1
  else
    let s2 := s1.raise Ev.FI_GROUP_SUPPLY
      [.u8 g.val, .u8 (groupCode old), .u8 (groupCode new), .u16 (unsigned 16 v)]
    let fld := s2.field.mods[m]
    s2.each (groupChans g) fun s c =>
      if s.chanIsIn c then
        if new.out then s.restrictTo c 5 else if old.out then s.loseValue c else s
      else if s.chanIsOut c then
        if !new.drives then
          -- a held output is lost with MISSING; it stays off until hold is released (R159)
          let lost := fld.fieldHold && new == .missing && s.field.chan[c].heldOn
          let s1 := s.driveOutput (s.leadOf c) c false
          s1.modChan c fun x => { x with heldLost := x.heldLost || lost }
        else if !old.drives && fld.fieldHold then
          s.driveOutput (s.leadOf c) c (s.field.chan[c].heldOn && !s.field.chan[c].heldLost)
        else if !old.drives && fld.safe && s.leadOf c == c then s.safeState c
        else s
      else s

/-- GROUP_SUPPLY_CHANGE. Beyond ±36 V the input is outside Table EL-1 (R432). A group that is not wired is not
monitored. -/
def execGroupSupplyChange (g : Group) (deciVolt : Int) (s : State) : Host.Outcome State Fault Refusal :=
  if 360 < deciVolt.natAbs then .fault .overstress
  else .next (if s.field.group[g].state == .notWired then s
    else s.groupBecomes g (groupAt s.field.group[g].state deciVolt) deciVolt)

/-! ### The barrier (R131, R156) -/

/-- State code an output reports: a latched fault, its group supply, a diagnosis, then the safe state. -/
def State.outCode (s : State) (c : Chan) : Nat :=
  let lead := s.leadOf c
  if s.setLatched lead ≠ 0 then s.setLatched lead
  else if !s.field.group[chanGroup c].state.drives && s.field.group[chanGroup c].state != .notWired then 13
  else if s.field.chan[lead].diag ≠ 0 then s.field.chan[lead].diag
  else if s.field.mods[chanMod c.val].safe then 14 else 0

/-- State code a channel reports (Table FI-5). -/
def State.chanCode (s : State) (c : Chan) : Nat :=
  if s.chanIsIn c then
    if s.field.mods[chanMod c.val].staleEdges && chanClass (s.fioCfg c) c.val == 1 then 6 else s.field.chan[c].code
  else if s.chanIsOut c then s.outCode c else 15

/-- The image the logic side latches (Table FI-7), EDGE inputs restrictive and stale where R131 says so. -/
def State.fieldImage (s : State) (m : Fin 2) : FiUplink :=
  let at_ (i : Nat) : Chan := ⟨32 * m.val + i % 32, by omega⟩
  let mask (f : Chan → Bool) : BitVec 32 := BitVec.ofNat 32 (maskOf 32 fun i => f (at_ i))
  let code (c : Chan) : Nat := s.chanCode c
  let isIn (c : Chan) : Bool := s.chanIsIn c
  let value (c : Chan) : Bool := if code c = 6 then s.restrictive c else s.field.chan[c].value
  let group (i : Nat) : GroupSt := s.field.group[(⟨4 * m.val + i % 4, by omega⟩ : Group)]
  { s.field.mods[m].image with
    value := mask fun c => isIn c && value c,
    valid := mask fun c => isIn c && code c == 0,
    band := mask fun c => isIn c && (code c == 1 || code c == 2),
    fault := mask fun c => isIn c && inRange 3 7 (code c),
    stale := mask fun c => isIn c && code c == 6,
    outState := mask fun c => s.field.chan[c].on,
    outFault := mask fun c => s.chanIsOut c && inRange 8 13 (code c),
    vGroup := BitVec.ofNat 32 ((List.range 4).foldl (fun n i => n + 256 ^ i * min 255 ((group i).voltage / 2)) 0),
    gState := BitVec.ofNat 16 ((List.range 4).foldl (fun n i => n + 8 ^ i * groupCode (group i).state) 0),
    sampleAge := BitVec.ofNat 8 s.sampleAge,
    flags := BitVec.ofNat 8 (Bool.nat s.field.mods[m].fieldUp + 2 * Bool.nat s.field.mods[m].appliedAny
      + 4 * Bool.nat s.field.mods[m].safe + 8 * Bool.nat s.field.mods[m].fieldHold),
    cfgCrc := s.field.mods[m].image.cfgCrc }

def State.latchImage (s : State) (m : Fin 2) : State :=
  let img := s.fieldImage m
  s.modFieldMod m fun x => { x with image := img }

/-- FI_BARRIER_CRC when crc_errors rises by 10 within 1 s (Table FI-15). -/
def State.barrierCrcTick (s : State) (m : Fin 2) : State :=
  let x := s.field.mods[m]
  let n := x.crcErrors.toNat
  if sec ≤ s.since x.errFrom then s.modFieldMod m fun x => { x with errBase := n, errFrom := s.now, errRaised := false }
  else if decide (x.errBase + 10 ≤ n) && !x.errRaised then
    (s.modFieldMod m fun x => { x with errRaised := true }).raise Ev.FI_BARRIER_CRC [.u8 (fieldSlotNo m), .u16 n]
  else s

/-- A bad barrier frame: the last good content is kept; with the second in a row the EDGE inputs are
restrictive and stale (R131). -/
def State.badBarrier (s : State) (m : Fin 2) : State :=
  let s1 := s.modFieldMod m fun x => { x with
    badRun := x.badRun + 1, crcErrors := BitVec.ofNat 16 (satAdd 16 x.crcErrors.toNat 1),
    image := { x.image with flags := x.image.flags ||| 0x10 } }
  let s2 := if 2 ≤ s1.field.mods[m].badRun && !s1.field.mods[m].staleEdges then
      let edges := (modChans m).filter fun c => s1.chanIsIn c && chanClass (s1.fioCfg c) c.val == 1
      let s3 := s1.modFieldMod m fun x => { x with staleEdges := true }
      let img := s3.fieldImage m
      let s4 := s3.modFieldMod m fun x => { x with image := { x.image with
        value := (x.image.value &&& ~~~img.stale) ||| (img.value &&& img.stale),
        valid := x.image.valid &&& ~~~img.stale, fault := x.image.fault ||| img.stale, stale := img.stale } }
      s4.each edges fun s c => s.raise Ev.OB_STALE_INPUT [.u8 (fieldSlotNo m), .u8 c.val, .u8 1]
    else s1
  s2.barrierCrcTick m

/-- BARRIER_FRAME: the logic side latches a good frame and discards a bad one. -/
def execBarrierFrame (m : Fin 2) (good : Bool) (s : State) : Host.Outcome State Fault Refusal :=
  .next (if good then
      (s.modFieldMod m fun x => { x with badRun := 0, staleEdges := false }).latchImage m
    else s.badBarrier m)

/-! ### Commands, safe states and hold on the field side (R156 to R159) -/

/-- Every output follows its command bit. -/
def State.followCommands (s : State) (m : Fin 2) : State :=
  s.each (s.outputs m) fun s c => s.driveSet c (s.field.mods[m].outCmd.getLsbD (c.val % 32))

/-- Apply the safe states: cause 1 module link, 2 barrier. -/
def State.applySafe (s : State) (m : Fin 2) (cause : Nat) : State :=
  if s.field.mods[m].safe || s.field.mods[m].fieldHold then s
  else
    ((s.modFieldMod m fun x => { x with safe := true }).each (s.outputs m) fun s c => s.safeState c).raise
      Ev.FI_SAFE_STATE [.u8 (fieldSlotNo m), .u8 cause]

/-- Held outputs of a module that were lost with their group supply. -/
def State.heldLostCount (s : State) (m : Fin 2) : Nat := ((modChans m).filter fun c => s.field.chan[c].heldLost).length

/-- The hold flag of a frame (R159). -/
def State.takeHold (s : State) (m : Fin 2) : State :=
  let x := s.field.mods[m]
  if x.hold == x.fieldHold then s
  else if x.hold then
    ((s.modFieldMod m fun x => { x with fieldHold := true }).each (modChans m) fun s c =>
      s.modChan c fun x => { x with heldOn := x.on }).raise Ev.FI_HOLD [.u8 (fieldSlotNo m), .u8 1, .u8 0]
  else
    let n := s.heldLostCount m
    ((s.modFieldMod m fun x => { x with fieldHold := false }).each (modChans m) fun s c =>
      s.modChan c fun x => { x with heldLost := false }).raise Ev.FI_HOLD [.u8 (fieldSlotNo m), .u8 0, .u8 n]

/-- A good frame of commands reaches the field side. -/
def State.commandFrame (s : State) (m : Fin 2) : State :=
  let s1 := (s.modFieldMod m fun x => { x with fieldMiss := 0 }).takeHold m
  if !s1.field.mods[m].fieldUp then s1
  else
    let s2 := s1.each ((s1.outputs m).filter fun c => s1.field.mods[m].rearmCmd.getLsbD (c.val % 32)) fun s c =>
      s.clearLatched c
    if s2.field.mods[m].fieldHold then s2
    else if !s2.field.mods[m].cmdValid then s2.applySafe m 1
    else
      let s3 := if s2.field.mods[m].safe && s2.field.mods[m].ackSafe then
          (s2.modFieldMod m fun x => { x with safe := false }).raise Ev.FI_SAFE_LEFT [.u8 (fieldSlotNo m)]
        else s2
      if s3.field.mods[m].safe then s3 else s3.followCommands m

/-- BARRIER_CMD_FRAME: a bad frame is discarded, one more 100 us frame missed. -/
def execBarrierCmdFrame (m : Fin 2) (good : Bool) (s : State) : Host.Outcome State Fault Refusal :=
  .next (if good then s.commandFrame m else s.modFieldMod m fun x => { x with fieldMiss := x.fieldMiss + 1 })

/-- FI_SAFE_STATE (R157): over the module link cmd_valid is cleared first. -/
def execFiSafeState (m : Fin 2) (barrier : Bool) (s : State) : Host.Outcome State Fault Refusal :=
  let s1 := if barrier then s else s.modFieldMod m fun x => { x with cmdValid := false }
  .next (if s1.field.mods[m].fieldUp then s1.applySafe m (if barrier then 2 else 1) else s1)

/-! ### Configuration (R160) -/

/-- The whole staged set is applied at one TICK edge; at the first match the field side comes up. -/
def State.applyField (s : State) (m : Fin 2) : State :=
  let x := s.field.mods[m]
  let old (i : Nat) : Nat := x.cfg i
  let first := !x.appliedAny
  let s1 := s.modFieldMod m fun x => { x with
    applied := x.staged.map fun v => v.getD 0, appliedAny := true, fieldUp := true,
    image := { x.image with cfgCrc := x.cfgCrc } }
  let s2 := s1.each (modGroups m) fun s g =>
    let wired := s.field.mods[m].cfg (0x60 + g.val % 4) == 1
    s.modGroup g fun x => { x with
      state := if !wired then .notWired else if x.state == .notWired then .missing else x.state }
  s2.each (modChans m) fun s c =>
    let new := s.field.mods[m].cfg (c.val % 32)
    let was := old (c.val % 32)
    let changed := first || bits new 0 4 != bits was 0 4 || bits new 9 2 != bits was 9 2
    let s1 := if s.chanIsOut c then
        if changed then (s.modChan c fun x => { x with on := false, valid := false, code := 0, diag := 0 }) else s
      else (s.modChan c fun x => { x with on := false, latched := 0, diag := 0 })
    if changed && !s1.chanIsOut c then s1.loseValue c else s1

/-- The staged set matches cfg_crc (R160). -/
def State.fieldMatches (s : State) (m : Fin 2) : Bool :=
  let x := s.field.mods[m]
  x.stagedCrc == some x.cfgCrc && x.stagedOk m.val

/-- FI_CONFIG_APPLY. -/
def execFiConfigApply (m : Fin 2) (s : State) : Host.Outcome State Fault Refusal :=
  .next (if s.fieldMatches m then s.applyField m else s)

/-- The applied CRC has not matched within 32 ticks of a complete cycle: held out of service. -/
def State.fieldMismatch (s : State) (m : Fin 2) : State :=
  let s1 := s.raise Ev.FI_CONFIG_MISMATCH
    [.u8 (fieldSlotNo m), .u16 s.field.mods[m].image.cfgCrc.toNat, .u16 (s.fioCrc m.val).toNat]
  (s1.modSlot (fieldSlot m) fun x => { x with inService := false, heldOut := some .config }).judgeTiers (fieldSlotNo m)

/-- FI_CONFIG_MISMATCH. -/
def execFiConfigMismatch (m : Fin 2) (s : State) : Host.Outcome State Fault Refusal := .next (s.fieldMismatch m)

/-! ### What the core does for a field module in each tick -/

/-- The core's command bits: the demands, and the reported states while the module reports its safe states
(R158) or is held (R159). -/
def State.fieldCoreTick (s : State) (m : Fin 2) : State :=
  let x := s.field.mods[m]
  let view := x.views[s.activeCore]
  let s0 := s.each (modChans m) fun s c => ((s.doorOutputTick c).chatterTick c)
  let outs := (modChans m).filter fun c => chanMode s0.param c.val == 3 && outParallel s0.param c.val != 7
  let safe := view.fresh && view.flags.getLsbD 2
  let s1 := if safe && !x.holdDown then
      s0.each outs fun s c => s.modChan c fun y => { y with demand := view.outState.getLsbD (c.val % 32) }
    else s0
  let s2 := s1.each outs fun s c => if s.fieldRearmDue c then s.fieldRearm c else s
  let s3 := s2.modFieldMod m fun y => { y with
    ackDue := safe && !y.holdDown,
    out := if y.holdDown then view.outState else
      BitVec.ofNat 32 (maskOf 32 fun i => outs.any fun c => decide (c.val % 32 = i) && s2.field.chan[c].demand) }
  let resolved := (modChans m).all fun c => !(s3.chanIsIn c && s3.field.chan[c].code == 1)
  if s3.inService (fieldSlot m) && resolved && !s3.field.mods[m].resolved then
    (s3.modFieldMod m fun y => { y with resolved := true }).judgeTiers (fieldSlotNo m)
  else s3

end Sys2Proof.Machine
end

