-- ==== Sys2Proof/Machine/Load.lean ====
section
/-!
DEFINITION. Protected load switches, chapter 07: the load supply (R165), over-current, the wire model (R166 to
R169), inductive turn-off (R170), diagnostics (R172), re-arming (R173), demands and precedence (R174 to R179)
and the configuration (R180).
-/

namespace Sys2Proof.Machine

def State.modLoads (s : State) (f : LoadSt → LoadSt) : State := { s with load := f s.load }

/-- Channel number 1 to 12. -/
def loadNo (c : LoadCh) : Nat := c.val + 1

/-- The channel word the module has applied (Table LS-9). -/
def State.loadWord (s : State) (c : LoadCh) : Nat := (s.load.applied.toList.getD c.val 0).toNat
def State.loadMode (s : State) (c : LoadCh) : Bool := bits (s.loadWord c) 0 2 == 1
def State.loadInrush (s : State) (c : LoadCh) : Nat := bits (s.loadWord c) 16 9 * msec

/-- Is SK7-LS110 the declared variant? -/
def State.ls110 (s : State) : Bool := s.declared l0Slot == 8

/-- Rating of a channel in mA. -/
def loadRating (c : LoadCh) : Nat := if c.val < 8 then 3000 else 8000

/-- The channels of a mask, bit c − 1 for channel c. -/
def maskChans (m : BitVec 12) : List LoadCh := (List.finRange 12).filter fun c => m.getLsbD c.val
def chansMask (f : LoadCh → Bool) : BitVec 12 := BitVec.ofNat 12 (maskOf 12 fun i => match asFin 12 i with
  | some c => f c
  | none => false)

def LoadSupply.drives : LoadSupply → Bool
  | .ok | .low => true
  | _ => false

def loadSupplyCode : LoadSupply → Nat
  | .ok => 0 | .low => 1 | .high => 2 | .missing => 3 | .reversed => 4

/-! ### What a channel does: Table LS-8 -/

/-- The first row of Table LS-8 that holds for the channel. -/
def State.loadWants (s : State) (c : LoadCh) : Bool :=
  let x := s.load.chan[c]
  if x.latched ≠ 0 || !s.loadMode c || !s.load.appliedAny then false
  else if !s.load.supply.drives then false
  else if s.load.hold then x.heldOn && !x.heldLost
  else if s.load.safe then
    (match bits (s.loadWord c) 7 2 with
      | 0 => false
      | 1 => true
      | _ => x.on)
  else if s.load.shed && bit (s.loadWord c) 10 then false
  else if x.holdingBack && x.cmd && !x.on then false
  else x.cmd

/-- State code of a channel (Table LS-7). -/
def State.loadCode (s : State) (c : LoadCh) : Nat :=
  let x := s.load.chan[c]
  if x.latched ≠ 0 then x.latched
  else if !s.loadMode c then 11
  else if !s.load.supply.drives then 7
  else if s.load.safe then 10
  else if x.holdingBack && x.cmd && !x.on then 9
  else x.diag

/-- An unlatched fault ends. -/
def State.endLoadDiag (s : State) (c : LoadCh) (codes : List Nat) : State :=
  let d := s.load.chan[c].diag
  if codes.contains d then
    (s.modLoad c fun x => { x with diag := 0 }).raise Ev.LS_DIAG_CLEARED [.u8 (loadNo c), .u8 d]
  else s

/-- One channel follows Table LS-8; a turn-on begins an inrush window (R166). -/
def State.loadFollow (s : State) (c : LoadCh) : State :=
  let want := s.loadWants c
  if want == s.load.chan[c].on then s
  else if want then (s.modLoad c fun x => { x with on := true, onAt := s.now }).endLoadDiag c [4, 6]
  else (s.modLoad c fun x => { x with on := false, offAt := s.now }).endLoadDiag c [3]

def State.loadsFollow (s : State) : State := s.each (List.finRange 12) State.loadFollow

/-! ### Load supply (R165, R434) -/

def loadLevel : LoadSupply → Nat
  | .reversed => 0 | .missing => 1 | .low => 2 | .ok => 3 | .high => 4
def levelLoad : Nat → LoadSupply
  | 0 => .reversed | 1 => .missing | 2 => .low | 3 => .ok | _ => .high

/-- Supply state at a voltage in 0.1 V, with 2 % of each threshold as hysteresis below it. -/
def State.loadSupplyAt (s : State) (v : Int) : LoadSupply :=
  let old := loadLevel s.load.supply
  levelLoad (if s.ls110 then nextLevel [-20, 430, 504, 1375] [-20, 422, 494, 1348] old v
    else nextLevel [-20, 90, 168, 360] [-20, 89, 165, 353] old v)

/-- The load supply takes a new state; a held state is lost with MISSING (R178). -/
def State.loadSupplyBecomes (s : State) (new : LoadSupply) (v : Int) : State :=
  let old := s.load.supply
  let s1 := s.modLoads fun x => { x with supply := new, voltage := v }
  if new == old then s1
  else
    let s2 := s1.each (List.finRange 12) fun s c =>
      s.modLoad c fun x => { x with heldLost := x.heldLost || (s.load.hold && new == .missing && x.heldOn) }
    (s2.loadsFollow).raise Ev.LS_SUPPLY
      [.u8 (loadSupplyCode old), .u8 (loadSupplyCode new), .u16 (unsigned 16 v)]

/-- LOAD_SUPPLY_CHANGE. Beyond Table EL-1 (R432) the stress may damage the module. -/
def execLoadSupplyChange (deciVolt : Int) (s : State) : Host.Outcome State Fault Refusal :=
  if (if s.ls110 then 1750 else 1540) < deciVolt.natAbs then .fault .overstress
  else .next (s.loadSupplyBecomes (s.loadSupplyAt deciVolt) deciVolt)

/-- LS24_OVERVOLT_SWITCH (R434): open above 37.0 V, closed again after 10 ms below 36.0 V. -/
def execLs24OvervoltSwitch (deciVolt : Nat) (s : State) : Host.Outcome State Fault Refusal :=
  if (if s.ls110 then 1750 else 1540) < deciVolt then .fault .overstress
  else .next (if s.ls110 then s
    else if 370 < deciVolt then s.modLoads fun x => { x with inputOpen := true, inputOpenBelow := none }
    else if s.load.inputOpen && decide (deciVolt < 360) then
      (s.until (s.load.inputOpenBelow.getD s.now + 10 * msec)).modLoads fun x =>
        { x with inputOpen := false, inputOpenBelow := none }
    else s)

/-! ### Latched faults (R166 to R170) -/

/-- The channel latches a fault and switches off; it is re-armed under R173. -/
def State.latchLoad (s : State) (c : LoadCh) (code : Nat) (ev : BitVec 10) (items : List Item) : State :=
  if s.load.chan[c].latched ≠ 0 || !s.loadMode c then s
  else
    let s1 := s.modLoad c fun x => { x with
      latched := code, trippedAt := s.now, hot := code == 5, cycledOff := !x.demand, rearm := false }
    (s1.loadFollow c).raise ev (.u8 (loadNo c) :: items)

/-- LS_OVERLOAD (R166): 1 limit held, 2 dead short. -/
def execLsOverload (c : LoadCh) (why : Nat) (s : State) : Host.Outcome State Fault Refusal :=
  .next (s.latchLoad c 1 Ev.LS_OVERLOAD [.u8 why])

/-- INRUSH_WINDOW_END (R166). -/
def execInrushWindowEnd (c : LoadCh) (inLimit : Bool) (s : State) : Host.Outcome State Fault Refusal :=
  let s1 := s.until (s.load.chan[c].onAt + s.loadInrush c)
  .next (if s.load.chan[c].on then
      (if inLimit then s1.latchLoad c 1 Ev.LS_OVERLOAD [.u8 3] else s1)
    else s)

/-- LS_OVERTEMP (R169). -/
def execLsOvertemp (c : LoadCh) (celsius : Nat) (s : State) : Host.Outcome State Fault Refusal :=
  .next (s.latchLoad c 5 Ev.LS_OVERTEMP [.u8 celsius])

/-! The wire model (R167, R168): H in units of 1e-12. -/

/-- I_w in mA and τ in s of a wire class (Table LS-3). -/
def wireClass (w : Nat) : Nat × Nat :=
  match w with
  | 0 => (3000, 20) | 1 => (4000, 28) | 2 => (5000, 35) | 3 => (7000, 50) | 4 => (10000, 75) | _ => (14000, 110)

/-- f_amb in percent (Table LS-4). -/
def ambientPct (a : Nat) : Nat := match a with | 0 => 100 | 1 => 85 | _ => 70

/-- Trip current in mA (R167). -/
def State.tripCurrent (s : State) (c : LoadCh) : Nat :=
  let w := s.loadWord c
  min ((wireClass (bits w 2 3)).1 * ambientPct (bits w 5 2) / 100) (loadRating c)
def State.wireTau (s : State) (c : LoadCh) : Nat := (wireClass (bits (s.loadWord c) 2 3)).2

def heatUnit : Nat := 10 ^ 12

/-- One update of H, over 1 ms. -/
def wireUpdate (h tau iT mA : Nat) : Nat :=
  ((h : Int) + rdiv (((mA * mA * heatUnit / (iT * iT) : Nat) : Int) - h) (tau * 1000)).toNat

/-- Time from a trip until H has fallen below 0.4, in s: τ × ln 2.5. -/
def rearmSeconds (tau : Nat) : Nat := ndiv (tau * 916290732) (10 ^ 9)

/-- The update of one channel, its warning and its trip. -/
def State.wireStep (s : State) (c : LoadCh) (mA : Nat) : State :=
  if !s.loadMode c || !s.load.powerUp then s
  else
    let tau := s.wireTau c
    let h := wireUpdate s.load.chan[c].heat tau (s.tripCurrent c) mA
    let x := s.load.chan[c]
    let warn := decide (8 * heatUnit ≤ 10 * h)
    let s1 := s.modLoad c fun x => { x with
      heat := h, warned := if warn then true else if 10 * h < 7 * heatUnit then false else x.warned }
    let s2 := if warn && !x.warned then s1.raise Ev.LS_WIRE_WARN [.u8 (loadNo c), .u32 mA] else s1
    if decide (heatUnit ≤ h) then s2.latchLoad c 2 Ev.LS_WIRE_TRIP [.u32 mA, .u8 (rearmSeconds tau)] else s2

/-- WIRE_MODEL_UPDATE (R167): every 1 ms, with the measured currents. -/
def execWireModelUpdate (mA : Vector Nat 12) (s : State) : Host.Outcome State Fault Refusal :=
  .next (s.each (List.finRange 12) fun s c => s.wireStep c mA[c])

/-! Inductive turn-off (R170) -/

/-- Single-pulse clamp energy in mJ (Table LS-1). -/
def State.clampRating (s : State) (c : LoadCh) : Nat :=
  if s.ls110 then (if c.val < 8 then 250 else 800) else (if c.val < 8 then 400 else 1200)

/-- The doorway whose lock the channel drives. -/
def State.lockDoor (s : State) (c : LoadCh) : Option Doorway :=
  s.enabledDoors.find? fun d => lockUsed s.param d.val && s.dp d 0x08 == loadNo c

/-- CLAMP_PULSE. -/
def execClampPulse (c : LoadCh) (mJ avg : Nat) (s : State) : Host.Outcome State Fault Refusal :=
  let lock := (s.lockDoor c).isSome
  let passes := decide (1000 < avg) && decide (s.load.chan[c].clampAvg ≤ 1000)
  let s1 := s.modLoad c fun x => { x with
    clampAvg := avg, clampLast := mJ, holdingBack := x.holdingBack || (passes && !lock) }
  let s2 := if s.clampRating c < mJ then s1.latchLoad c 8 Ev.LS_CLAMP_OVER [.u16 mJ] else s1
  .next (if passes then s2.raise Ev.LS_CLAMP_HOT [.u8 (loadNo c), .u16 avg, item8 lock] else s2)

/-- CLAMP_HOLD_END: below 0.5 W a held-back turn-on that is still demanded is made. -/
def execClampHoldEnd (c : LoadCh) (avg : Nat) (s : State) : Host.Outcome State Fault Refusal :=
  let s1 := s.modLoad c fun x => { x with clampAvg := avg }
  .next (if avg < 500 then (s1.modLoad c fun x => { x with holdingBack := false }).loadFollow c else s1)

/-! ### Diagnostics (R172) -/

/-- A diagnosis is reported once; the channel keeps following its demand. -/
def State.loadDiagnose (s : State) (c : LoadCh) (on : Bool) (code : Nat) (ev : BitVec 10) (items : List Item) : State :=
  let x := s.load.chan[c]
  if s.loadMode c && x.on == on && x.diag != code then
    (s.modLoad c fun x => { x with diag := code }).raise ev (.u8 (loadNo c) :: items)
  else s

/-- LS_OPEN_ON, with ls.c.cfg.open_on 1. -/
def execLsOpenOn (c : LoadCh) (mA : Nat) (s : State) : Host.Outcome State Fault Refusal :=
  .next (if bit (s.loadWord c) 11 then s.loadDiagnose c true 3 Ev.LS_OPEN_ON [.u16 mA] else s)

/-- LS_OPEN_OFF, with ls.c.cfg.offdiag 1. -/
def execLsOpenOff (c : LoadCh) (deciVolt : Nat) (s : State) : Host.Outcome State Fault Refusal :=
  .next (if bit (s.loadWord c) 9 then s.loadDiagnose c false 4 Ev.LS_OPEN_OFF [.u16 deciVolt] else s)

/-- LS_SHORT_SUPPLY. -/
def execLsShortSupply (c : LoadCh) (deciVolt : Nat) (s : State) : Host.Outcome State Fault Refusal :=
  .next (s.loadDiagnose c false 6 Ev.LS_SHORT_SUPPLY [.u16 deciVolt])

/-- LS_DIAG_CLEARED: an unlatched fault has ended. -/
def execLsDiagCleared (c : LoadCh) (s : State) : Host.Outcome State Fault Refusal :=
  .next (s.endLoadDiag c [3, 4, 6])

/-! ### Demands and re-arming on the core (R173, R174) -/

def State.setLoadDemand (s : State) (c : LoadCh) (v : Bool) : State :=
  s.modLoad c fun x => { x with demand := v, cycledOff := x.cycledOff || (!v && x.latched != 0) }

/-- What the doorways demand of a load channel they name: the lock drive, or any output reference. -/
def State.loadDoorDemand (s : State) (c : LoadCh) : Bool :=
  let ref := 0x40 + c.val
  (match s.lockDoor c with
    | some d => s.doors.door[d].lockDrive
    | none => false)
  || s.enabledDoors.any fun d =>
    (s.dp d 0x12 == ref && s.doors.door[d].warnLamp) || (s.dp d 0x13 == ref && s.doors.door[d].chime)
    || (s.param (pPanelDoor d.val 1) == ref &&
        (s.panel.intercom[d] == 2 || (s.panel.intercom[d] == 1 && s.panel.blinkOn[d])))

/-- A doorway's demand as it changes; a turn-on also serves as the new demand of R173, once in 10 s. -/
def State.loadDoorTick (s : State) (c : LoadCh) : State :=
  match s.doorOfLoad (loadNo c) with
  | none => s
  | some _ =>
    let v := s.loadDoorDemand c
    let x := s.load.chan[c]
    if v == x.doorDemand then s
    else
      let s1 := (s.modLoad c fun x => { x with doorDemand := v }).setLoadDemand c v
      let again := match x.doorRearmAt with
        | some t => decide (10 * sec ≤ s.since t)
        | none => true
      if v && x.latched != 0 && again then
        s1.modLoad c fun x => { x with cycledOff := true, doorRearmAt := some s.now }
      else s1

/-- The conditions of R173 on the trip: 100 ms, a cooled wire, a cooled junction. -/
def State.loadCooled (s : State) (c : LoadCh) : Bool :=
  let x := s.load.chan[c]
  decide (100 * msec ≤ s.since x.trippedAt) && (x.latched != 2 || decide (10 * x.heat < 4 * heatUnit)) && !x.hot

def State.loadRearmDue (s : State) (c : LoadCh) : Bool :=
  let x := s.load.chan[c]
  x.latched != 0 && x.demand && x.cycledOff && s.loadCooled c

/-- The core sends the rearm bit; LS_REARM names the channel, the old code and the party. -/
def State.loadRearm (s : State) (c : LoadCh) (p : Nat) : State :=
  (s.modLoad c fun x => { x with rearm := true, cycledOff := false }).raise Ev.LS_REARM
    [.u8 (loadNo c), .u8 s.load.chan[c].latched, .u8 p]

/-- Party of a re-arm that no command asks: the owner, or SV for a doorway. -/
def State.rearmParty (s : State) (c : LoadCh) : Nat :=
  if (s.doorOfLoad (loadNo c)).isSome then 0 else partyCode (s.ownerOf (.load (loadNo c)))

/-- REARM_DUE (R154, R173): the conditions are met, so the junction is below 130 °C. -/
def State.loadRearmEvent (s : State) (c : LoadCh) : State :=
  let s1 := (s.until (s.load.chan[c].trippedAt + 100 * msec)).modLoad c fun x => { x with hot := false }
  if s1.loadRearmDue c then s1.loadRearm c (s1.rearmParty c) else s1

def execRearmDue (load : Bool) (c : Nat) (s : State) : Host.Outcome State Fault Refusal :=
  .next (if load then
      (match asFin 12 (c - 1) with
        | some k => if c = 0 then s else s.loadRearmEvent k
        | none => s)
    else match asFin 64 c with
      | some k => s.fieldRearmEvent (s.leadOf k)
      | none => s)

/-! ### OP_LOAD_SET and OP_LOAD_REARM (R173, R176) -/

/-- An empty channel mask, or one that sets bits 15 to 12. -/
def loadMaskBad (mask : BitVec 16) : Bool := mask == 0 || decide (4096 ≤ mask.toNat)

/-- The states in which R176 sets no channel. -/
def State.loadBlocked (s : State) (c : LoadCh) : Bool :=
  [1, 2, 5, 8, 7, 9, 10, 11].contains (s.loadCode c) || s.load.hold
    || (s.load.shed && bit (s.loadWord c) 10)

/-- The owner check of a channel: a doorway names it, or another party owns it. -/
def State.loadNotOwned (s : State) (r : Req) (c : LoadCh) : Bool :=
  (s.doorOfLoad (loadNo c)).isSome || s.ownerOf (.load (loadNo c)) != some r.party

/-- An overlapping earlier command completes ST_PREEMPTED; of one fetched in the same tick no channel keeps
an effect (R176). -/
def State.preemptLoad (s : State) (r : Req) (mask : BitVec 12) (p : PendingLoadSet) : State :=
  let s1 := if p.tick = s.tick then
      s.each (maskChans (p.mask &&& ~~~mask)) fun s c => s.setLoadDemand c (p.before.getLsbD c.val)
    else s
  s1.completeAll (p.req :: p.merged) Opc.OP_LOAD_SET ST_PREEMPTED r.hseq.toNat []

/-- OP_LOAD_SET. -/
def State.doLoadSet (s : State) (r : Req) (mask16 state16 : BitVec 16) : State :=
  let opc := Opc.OP_LOAD_SET
  let mask : BitVec 12 := mask16.setWidth 12
  let state : BitVec 12 := state16.setWidth 12
  if loadMaskBad mask16 then s.fail r opc ST_RANGE (argOff 16)
  else match (maskChans mask).find? (s.loadNotOwned r) with
  | some c => s.failOwner r opc (.load (loadNo c))
  | none =>
    let bad := chansMask fun c => mask.getLsbD c.val && s.loadBlocked c
    if bad ≠ 0 then s.fail r opc ST_STATE bad.toNat
    else
      let olds := s.load.setPending.filter fun p => p.mask &&& mask != 0
      let rest := s.load.setPending.filter fun p => p.mask &&& mask == 0
      let s1 := (s.each olds fun s p => s.preemptLoad r mask p).modLoads fun x => { x with setPending := rest }
      let before := chansMask fun c =>
        match olds.find? (fun p => p.tick == s.tick && p.mask.getLsbD c.val) with
        | some p => p.before.getLsbD c.val
        | none => s1.load.chan[c].demand
      let s2 := s1.each (maskChans mask) fun s c =>
        (s.setLoadDemand c (state.getLsbD c.val)).modLoad c fun x => { x with owned := true }
      s2.modLoads fun x => { x with setPending := x.setPending ++
        [{ req := r, mask := mask, state := state &&& mask, before := before &&& mask, tick := s.tick }] }

def execOpLoadSet (r : Req) (mask state : BitVec 16) (s : State) : Host.Outcome State Fault Refusal :=
  .next (s.doLoadSet r mask state)

/-- OP_LOAD_REARM. -/
def State.doLoadRearm (s : State) (r : Req) (mask16 : BitVec 16) : State :=
  let opc := Opc.OP_LOAD_REARM
  let mask : BitVec 12 := mask16.setWidth 12
  if loadMaskBad mask16 then s.fail r opc ST_RANGE (argOff 16)
  else match (maskChans mask).find? (s.loadNotOwned r) with
  | some c => s.failOwner r opc (.load (loadNo c))
  | none =>
    let latched := (maskChans mask).filter fun c => s.load.chan[c].latched != 0
    let bad := chansMask fun c => latched.contains c && !s.loadCooled c
    if bad ≠ 0 then s.fail r opc ST_STATE bad.toNat
    else if latched.isEmpty then s.ok r opc []
    else (s.each latched fun s c => s.loadRearm c (Party.code r.party)).modLoads fun x =>
      { x with rearmPending := x.rearmPending ++ [(r, mask)] }

def execOpLoadRearm (r : Req) (mask : BitVec 16) (s : State) : Host.Outcome State Fault Refusal :=
  .next (s.doLoadRearm r mask)

/-- The pending commands of a tick: ST_STATE where a channel has entered a state of R176, ST_OK once the
module reports what was commanded. -/
def State.loadPendingTick (s : State) : State :=
  let sets := s.load.setPending
  let rearms := s.load.rearmPending
  let bad (p : PendingLoadSet) : BitVec 12 := chansMask fun c => p.mask.getLsbD c.val && s.loadBlocked c
  let done (p : PendingLoadSet) : Bool := s.load.repOn &&& p.mask == p.state
  let s1 := s.each sets fun s p =>
    if bad p ≠ 0 then s.completeAll (p.req :: p.merged) Opc.OP_LOAD_SET ST_STATE (bad p).toNat []
    else if done p then s.completeAll (p.req :: p.merged) Opc.OP_LOAD_SET ST_OK 0 [] else s
  let rearmed (p : Req × BitVec 12) : Bool := (maskChans p.2).all fun c => s.load.chan[c].latched == 0
  let s2 := s1.each rearms fun s p => if rearmed p then s.ok p.1 Opc.OP_LOAD_REARM [] else s
  s2.modLoads fun x => { x with
    setPending := sets.filter (fun p => bad p == 0 && !done p),
    rearmPending := rearms.filter fun p => !rearmed p }

/-! ### Frames, safe states, hold and shedding (R177 to R179) -/

/-- LS_SAFE_STATE: each channel takes ls.c.cfg.safe; none is applied while held (R178). -/
def State.loadSafe (s : State) : State :=
  if s.load.safe || s.load.hold || !s.load.appliedAny then s
  else
    let s1 := (s.modLoads fun x => { x with safe := true }).loadsFollow
    s1.raise Ev.LS_SAFE_STATE [.u16 (chansMask fun c => s1.load.chan[c].on).toNat]

def execLsSafeState (s : State) : Host.Outcome State Fault Refusal := .next s.loadSafe

/-- The hold flag of a frame. -/
def State.loadTakeHold (s : State) (hold : Bool) : State :=
  if hold == s.load.hold then s
  else if hold then
    ((s.modLoads fun x => { x with hold := true }).each (List.finRange 12) fun s c =>
      s.modLoad c fun x => { x with heldOn := x.on, heldLost := false }).raise Ev.LS_HOLD [.u8 1, .u8 0]
  else
    let n := ((List.finRange 12).filter fun c => s.load.chan[c].heldLost).length
    ((s.modLoads fun x => { x with hold := false }).each (List.finRange 12) fun s c =>
      s.modLoad c fun x => { x with heldLost := false }).raise Ev.LS_HOLD [.u8 0, .u8 n]

/-- The module takes a rearm bit where the conditions of R168 and R169 allow it. -/
def State.loadTakeRearm (s : State) (c : LoadCh) : State :=
  let x := s.load.chan[c]
  if x.latched = 0 ∨ x.hot ∨ (x.latched = 2 ∧ 4 * heatUnit ≤ 10 * x.heat) then s
  else s.modLoad c fun x => { x with latched := 0, rearm := false }

/-- Commands take effect at the TICK edge that follows the frame (R181). -/
def State.loadCommand (s : State) (out rearm : BitVec 12) (ack hold shed : Bool) : State :=
  let s1 := s.each (List.finRange 12) fun s c => s.modLoad c fun x => { x with cmd := out.getLsbD c.val }
  let s2 := s1.each (maskChans rearm) State.loadTakeRearm
  let s3 := s2.loadTakeHold hold
  let s4 := if s3.load.safe && ack && !hold then
      (s3.modLoads fun x => { x with safe := false }).raise Ev.LS_SAFE_LEFT []
    else s3
  (s4.modLoads fun x => { x with shed := shed }).loadsFollow

/-! ### Configuration (R180) -/

/-- CRC of the set the core intends. -/
def State.loadCfgValue (s : State) (i : Nat) : Nat :=
  if i < 12 then s.param (pLoad (i + 1) 0) + s.param (pLoad (i + 1) 1) * 2 ^ 16 else s.param 0x400
def State.loadCfgCrc (s : State) : BitVec 16 := crc16 ((List.range 13).flatMap fun i => leBytes 4 (s.loadCfgValue i))

/-- A staged record without reserved bits, in range. -/
def loadRecordOk (i : Nat) (v : Nat) : Bool :=
  if i < 12 then
    decide (bits v 0 2 < 2) && decide (bits v 2 3 < 6) && decide (bits v 5 2 < 3) && decide (bits v 7 2 < 3)
      && bits v 12 4 == 0 && bits v 25 7 == 0 && inRange 1 400 (bits v 16 9)
  else inRange 1 100 v

def LoadSt.stagedCrc (x : LoadSt) : Option (BitVec 16) :=
  if x.staged.toList.all Option.isSome then
    some (crc16 (x.staged.toList.flatMap fun v => leBytes 4 (v.elim 0 BitVec.toNat)))
  else none

def State.loadMatches (s : State) : Bool :=
  s.load.stagedCrc == some s.load.cfgCrc
    && (List.range 13).all fun i => loadRecordOk i ((s.load.staged.toList.getD i none).elim 0 BitVec.toNat)

/-- The whole staged set is applied; at the first match the power side comes up, H at 0.4 (R168). -/
def State.applyLoad (s : State) : State :=
  let first := !s.load.appliedAny
  let s1 := s.modLoads fun x => { x with
    applied := x.staged.map fun v => v.getD 0, appliedAny := true, powerUp := true, repCrc := x.repCrc }
  let s2 := if first then s1.each (List.finRange 12) fun s c =>
      s.modLoad c fun x => { x with heat := 4 * 10 ^ 11, warned := false, on := false }
    else s1
  s2.loadsFollow

/-- LS_CONFIG_APPLY. -/
def execLsConfigApply (s : State) : Host.Outcome State Fault Refusal :=
  .next (if s.loadMatches then s.applyLoad else s)

/-- CRC of the set applied. -/
def LoadSt.appliedCrc (x : LoadSt) : BitVec 16 := crc16 (x.applied.toList.flatMap fun v => leBytes 4 v.toNat)

/-- LS_CONFIG_MISMATCH: held out of service. -/
def State.loadMismatch (s : State) : State :=
  let s1 := s.raise Ev.LS_CONFIG_MISMATCH [.u16 s.load.repCrc.toNat, .u16 s.loadCfgCrc.toNat]
  (s1.modSlot l0Slot fun x => { x with inService := false, heldOut := some .config }).judgeTiers 13

def execLsConfigMismatch (s : State) : Host.Outcome State Fault Refusal := .next s.loadMismatch

/-! ### What the core does for the load module in each tick -/

/-- Demands, the shed flag with LS_SHED, ack_safe, re-arms and the pending commands. -/
def State.loadCoreTick (s : State) : State :=
  let chans := List.finRange 12
  let s1 := s.each chans State.loadDoorTick
  let safe := s.load.repFlags.getLsbD 2
  let s2 := if safe && !s.load.holdCmd then
      s1.each chans fun s c => s.modLoad c fun x => { x with demand := s.load.repOn.getLsbD c.val }
    else s1
  let s3 := s2.modLoads fun x => { x with ackDue := safe && !x.holdCmd }
  let shed := s3.supply.onStore
  let s4 := if shed == s3.load.shedCmd then s3
    else (s3.modLoads fun x => { x with shedCmd := shed }).raise Ev.LS_SHED
      [item8 shed, .u16 (chansMask fun c => bit (s3.param (pLoad (loadNo c) 0)) 10).toNat]
  let s5 := s4.each chans fun s c => if s.loadRearmDue c then s.loadRearm c (s.rearmParty c) else s
  s5.loadPendingTick

end Sys2Proof.Machine
end

