-- ==== Sys2Proof/Machine/Energy.lean ====
section
/-!
DEFINITION. The energy store, chapter 09: the module's faults and limits (R210 to R213, R235), the reserve
(R217, R218), the estimator and its rest windows (R219 to R224), the abort line (R231 to R233) and the
supply-loss actions (R234).
-/

namespace Sys2Proof.Machine

/-! ### Faults and limits of the module -/

def emCode : EmState → Nat
  | .off => 0 | .charging => 1 | .float => 2 | .boosting => 3 | .empty => 4 | .fault => 5

/-- The module's state changes (EN_STATE). -/
def State.emBecomes (s : State) (new : EmState) : State :=
  let old := s.energy.state
  if new == old then s
  else (s.modEnergy fun e => { e with state := new }).raise Ev.EN_STATE
    [.u8 (emCode old), .u8 (emCode new), .u8 s.energy.fault.toNat]

/-- Usable energy of R226 with no moves and a horizon of 0, in J, not below 0. -/
def State.usableJ (s : State) : Nat := (s.eUse 0 s.eRemSum).toNat / 1000

/-- Ready (R213): in service, no latched fault, enough usable energy. -/
def State.readyNow (s : State) : Bool :=
  s.inService e0Slot && s.energy.fault == 0 && decide ((s.param 0x4A2 * 1000 : Int) ≤ s.eUse 0 0)

/-- EN_READY at each change of ready, with the tiers. -/
def State.judgeReady (s : State) : State :=
  let r := s.readyNow
  if r == s.energy.ready then s
  else ((s.modEnergy fun e => { e with ready := r }).raise Ev.EN_READY [item8 r, .u16 s.usableJ]).judgeTiers 2

/-- A fault code other than 0: the uplink fault flag, and the module is treated as lost (R235). -/
def State.emFaultOn (s : State) (code : Nat) : State :=
  let s1 := (s.modEnergy fun e => { e with
    fault := BitVec.ofNat 8 code, chargerOff := true, charging := false }).emBecomes .fault
  let s2 := (s1.modSlot e0Slot fun x => { x with fault := some code }).raise Ev.FR_MODULE_FAULT [.u8 2, .u8 code]
  (s2.takeOut e0Slot).judgeReady

/-- CELL_FAULT (R210): 1 over 3.10 V, 2 under 0.5 V, 3 imbalance, latched. -/
def execCellFault (cell kind value : Nat) (s : State) : Host.Outcome State Fault Refusal :=
  .next (if s.energy.fault ≠ 0 then s
    else (s.raise Ev.EN_CELL_FAULT [.u8 cell, .u8 kind, .u16 value]).emFaultOn kind)

/-- CELL_TEMP (R210): above 55 °C the charge is derated to 2.70 V a cell, above 70 °C the charger is off. -/
def execCellTemp (cell : Nat) (celsius : Int) (s : State) : Host.Outcome State Fault Refusal :=
  let e := s.energy
  let off := decide (70 < celsius)
  let hot := decide (55 < celsius)
  let s1 := s.modEnergy fun e => { e with
    tCellMax := celsius, derate := hot, chargerOff := off || e.fault != 0, charging := e.charging && !off }
  .next (if (off && !e.chargerOff) || (hot && !e.derate) then
      s1.raise Ev.EN_CELL_TEMP [.u8 cell, .u8 (unsigned 8 celsius)]
    else s1)

/-- BOOST_LIMIT (R212): 1 power, 2 budget. -/
def execBoostLimit (budget : Bool) (s : State) : Host.Outcome State Fault Refusal :=
  .next ((s.modEnergy fun e => { e with
    flags := e.flags ||| 0x08, budget := if budget then 0 else e.budget }).raise Ev.EN_BOOST_LIMIT
      [.u8 (if budget then 2 else 1)])

/-- BOOST_CUTOFF (R212): the bank is at 12.0 V, and the boost stops. -/
def execBoostCutoff (s : State) : Host.Outcome State Fault Refusal :=
  .next ((s.modEnergy fun e => { e with boostCut := true, boostOn := false }).emBecomes .empty)

/-- EM_LOSS_TIMEOUT (R235): it stops charging, keeps v_floor and v_charge, and keeps boosting. -/
def execEmLossTimeout (s : State) : Host.Outcome State Fault Refusal :=
  .next (s.modEnergy fun e => { e with charging := false, chargeEn := false, boostOn := !e.boostCut })

/-! ### The reserve (R217, R218) -/

/-- EN_LAST_ACTION when a budget of Table EN-2, by its row, starts to be drawn. -/
def State.beginBudget (s : State) (n : Nat) : State :=
  if s.energy.budgets.getLsbD (n - 1) then s
  else (s.modEnergy fun e => { e with budgets := e.budgets ||| BitVec.ofNat 5 (2 ^ (n - 1)) }).raise
    Ev.EN_LAST_ACTION [.u8 n, .u16 (min 600 (s.energy.aboveFloor.toNat / 1000))]

/-- The axis performs the stow of S3 (Table SU-5). -/
def State.s3Stow (s : State) (a : Axis) : Bool :=
  s.supply.step == some .s3 && (match s.axes[a].plan with
    | some p => p.kind == .stow
    | none => false)

/-- The motion floor is reached: every axis that is not performing an S3 stow freezes. -/
def State.floorReached (s : State) : State :=
  if s.energy.floorReached || !s.supply.onStore then s
  else
    let hit := (List.finRange 4).filter fun a => !s.s3Stow a && s.axes[a].driving
    let s1 := s.modEnergy fun e => { e with floorReached := true }
    let s2 := s1.each hit fun s a => (s.freeze a 6 ST_ENERGY (65536 * s.usableJ)).modAxis a fun x =>
      { x with driving := false }
    s2.raise Ev.EN_RESERVE_FLOOR [.u8 (maskOf 4 fun i => hit.any fun a => decide (a.val = i)), .u16 s.energy.vBank]

/-- RESERVE_FLOOR. -/
def execReserveFloor (s : State) : Host.Outcome State Fault Refusal := .next s.floorReached

/-- Switch the host rails off (R196, R217). -/
def State.hostRailsOff (s : State) : State :=
  let s1 : State := { s with supply := { s.supply with
    hostRailsOff := true, pm := mapV s.supply.pm fun _ (p : PmSt) => { p with rails := .replicate 2 false } } }
  let s2 := s1.each [(0 : PortId), 1] fun s p => s.modPort p fun t => { t with h12On := false }
  s2.each [(5 : Slot), 6] fun s k => s.modSlot k fun x => { x with railsOn := false, inService := false }

/-! ### The estimator (R219 to R224) -/

def estCode : EstState → Nat
  | .init => 0 | .rest => 1 | .fit => 2 | .stale => 3

def hourNs : Nat := 3600 * sec

/-- Whole hours since the last window. -/
def State.windowHours (s : State) : Nat := (s.since (s.energy.lastWindow.getD 0)) / hourNs

/-- EN_EST_STATE at each change. -/
def State.estBecomes (s : State) (new : EstState) : State :=
  let old := s.energy.est
  if new == old then s
  else (s.modEnergy fun e => { e with est := new }).raise Ev.EN_EST_STATE
    [.u8 (estCode old), .u8 (estCode new), .u16 s.windowHours]

/-- The module enters service: INIT, whatever it reported elsewhere (R221). -/
def State.estInit (s : State) : State :=
  (s.modEnergy fun e => { e with
    cW := 4500, esrW := 200, cF := none, esrF := none, fitSteps := [], runFrom := none, runCharge := 0,
    lastWindow := none, wantedAt := none }).estBecomes .init

/-- The conditions of R219 for a window of the frame's own. -/
def State.mayRest (s : State) : Bool :=
  let busy (d : Doorway) : Bool :=
    let l := s.doors.door[d].leaf
    l == .unlocking || l == .warn || l == .locking || s.doors.door[d].openAsked || s.doors.door[d].evacAsked
  s.anyPm && s.inService e0Slot && s.param 0x4AA == 1 && s.energy.window.isNone
    && (List.finRange 4).all (fun a => s.axes[a].plan.isNone)
    && !(s.enabledDoors.any busy)
    && s.time.sched.all (fun q => decide (s.tai + 3 * sec < q.execTime))
    && s.energy.state == .float && decide (s.energy.vCharge ≤ s.energy.vBank + 500)
    && (match s.energy.lastWindow with
      | some t => decide (s.param 0x4A5 * 60 * sec ≤ s.since t)
      | none => true)

/-- Start a window: charger and boost pause (R220). -/
def State.startWindow (s : State) : State :=
  s.modEnergy fun e => { e with window := some s.now, windowCmd := true, charging := false }

/-- REST_WINDOW_START. -/
def execRestWindowStart (s : State) : Host.Outcome State Fault Refusal :=
  .next (if s.mayRest then s.startWindow else s)

/-- A window completes with C_w in 0.01 F and ESR_w in 0.1 mΩ (R220 to R224). -/
def State.windowDone (s : State) (c esr : Nat) : State :=
  match s.energy.window with
  | none => s
  | some t =>
    let s1 := s.until (t + 2 * sec)
    let req := s1.energy.windowReq
    let s2 := (s1.modEnergy fun e => { e with
      window := none, windowReq := none, windowCmd := false, windowSeq := e.windowSeq + 1,
      cW := c, esrW := esr, cF := none, esrF := none, fitSteps := [],
      lastWindow := some s1.now, wantedAt := none }).raise Ev.EN_EST_UPDATE [.u8 0, .u16 c, .u16 esr]
    let s3 := s2.estBecomes .rest
    let s4 := if c < 3600 ∨ 400 < esr then s3.raise Ev.EN_END_OF_LIFE [.u16 c, .u16 esr] else s3
    match req with
    | some r => s4.ok r Opc.OP_REST_WINDOW (leBytes 2 c ++ leBytes 2 esr)
    | none => s4

/-- REST_WINDOW_DONE. -/
def execRestWindowDone (c esr : Nat) (s : State) : Host.Outcome State Fault Refusal := .next (s.windowDone c esr)

/-- WINDOW_ABORTED (R220): 1 a move request, 2 a scheduled action, 3 a supply loss. -/
def execWindowAborted (cause : Nat) (s : State) : Host.Outcome State Fault Refusal := .next (s.abortWindow cause)

/-- Hours since the last window at which FIT, STALE and the next EN_REST_WANTED come (R221, R223). -/
def State.estTick (s : State) : State :=
  match s.energy.lastWindow with
  | none => s
  | some t =>
    let age := s.since t
    let s1 := if s.energy.est == .rest && decide (s.param 0x4A3 * hourNs ≤ age) then s.estBecomes .fit else s
    let s2 := if s1.energy.est == .fit && decide (s.param 0x4A4 * hourNs ≤ age) then s1.estBecomes .stale else s1
    let due := match s2.energy.wantedAt with
      | some w => decide (24 * hourNs ≤ s.since w)
      | none => true
    if s2.energy.est == .stale && due then
      (s2.modEnergy fun e => { e with wantedAt := some s.now }).raise Ev.EN_REST_WANTED [.u16 s.windowHours]
    else s2

/-- EST_FIT_AFTER. -/
def execEstFitAfter (s : State) : Host.Outcome State Fault Refusal :=
  .next (match s.energy.est, s.energy.lastWindow with
    | .rest, some t => (s.until (t + s.param 0x4A3 * hourNs)).estTick
    | _, _ => s)

/-- EST_STALE_AFTER: STALE, and EN_REST_WANTED. -/
def execEstStaleAfter (s : State) : Host.Outcome State Fault Refusal :=
  .next (match s.energy.est, s.energy.lastWindow with
    | .rest, some t | .fit, some t => (s.until (t + s.param 0x4A4 * hourNs)).estTick
    | _, _ => s)

/-- REST_WANTED: every 24 h while STALE. -/
def execRestWanted (s : State) : Host.Outcome State Fault Refusal :=
  .next (if s.energy.est == .stale then
      (s.until (s.energy.wantedAt.getD s.now + 24 * hourNs)).estTick
    else s)

/-- An accepted OP_REST_WINDOW (R224). -/
def State.restRefusal (s : State) : Option Nat :=
  let shut (d : Doorway) : Bool := s.doors.door[d].leaf == .closedLocked || s.doors.door[d].leaf == .isolated
  match s.enabledDoors.find? fun d => !shut d with
  | some d => some (leafCode s.doors.door[d].leaf)
  | none =>
    if s.anyPm && s.inService e0Slot && (List.finRange 4).all (fun a => s.axes[a].plan.isNone) then none
    else some (leafCode s.doors.door[(0 : Doorway)].leaf)

def State.doRestWindow (s : State) (r : Req) : State :=
  match s.restRefusal with
  | some detail => s.fail r Opc.OP_REST_WINDOW ST_STATE detail
  | none =>
    let s1 := match s.energy.windowReq with
      | some q => s.complete q Opc.OP_REST_WINDOW ST_PREEMPTED r.hseq.toNat []
      | none => s
    s1.startWindow.modEnergy fun e => { e with windowReq := some r, blockUntil := some (s.now + 3 * sec) }

def execOpRestWindow (r : Req) (s : State) : Host.Outcome State Fault Refusal := .next (s.doRestWindow r)

/-- The in-motion fit from one reading of the bank (R222): voltage in mV, current in 10 mA. -/
def State.fitReading (s : State) (v : Nat) (i : Int) : State :=
  let e := s.energy
  let fitting := e.est == .fit || e.est == .stale
  if !fitting then s.modEnergy fun e => { e with vBank := v, iBank := i, runFrom := none, runCharge := 0 }
  else
    let di := i - e.iBank
    let dv := (e.vBank : Int) - v
    let steps := if 1000 ≤ di.natAbs then ((dv * 1000 / di).toNat :: e.fitSteps).take 16 else e.fitSteps
    let esrF := if steps.isEmpty then e.esrF else some (ndiv (steps.foldl (· + ·) 0) steps.length)
    let r := esrF.getD e.esrW
    let oc := ((v : Int) + i * r / 1000).toNat
    let s1 := s.modEnergy fun e => { e with vBank := v, iBank := i, fitSteps := steps, esrF := esrF }
    if e.boostOn && 0 < i then
      let (t0, v0) := e.runFrom.getD (s.now, oc)
      let q := e.runCharge + i / 2                    -- uAs over 50 us: 10 mA × 50 us
      let long := decide (500 * msec ≤ s.since t0) && decide (oc < v0)
      let c := if long then some (q.toNat * 100 / (v0 - oc) / 1000) else none
      let s2 := s1.modEnergy fun e => { e with runFrom := some (t0, v0), runCharge := q }
      match c with
      | some c => (s2.modEnergy fun e => { e with cF := some c, runFrom := none, runCharge := 0 }).raise
          Ev.EN_EST_UPDATE [.u8 1, .u16 c, .u16 r]
      | none => s2
    else s1.modEnergy fun e => { e with runFrom := none, runCharge := 0 }

/-! ### The abort line (R231 to R233) -/

/-- Prediction of every running move, and E_use without them. -/
def State.withERem (s : State) : State :=
  s.modEnergy fun e => { e with eRem := Vector.ofFn fun a => s.eRemOf a }
def State.overLine (s : State) : Bool := decide (s.eUse s.runningLeft 0 < (s.withERem.eRemSum : Int))

/-- Detail of ST_ENERGY at a crossing: Σ E_rem and usable J. -/
def State.lineDetail (s : State) : Nat :=
  min (s.withERem.eRemSum / 1000) 65535 + 65536 * min ((s.eUse s.runningLeft 0).toNat / 1000) 65535

/-- Stop a leaf move for the abort line: it settles in OPEN (R232, R233). -/
def State.lineStop (s : State) (d : Doorway) (stranded : Bool) (detail : Nat) : State :=
  let s1 := s.rampLeaves d
  if s.doors.door[d].leaf == .reopening then
    (s1.modObst d fun o => { o with stopWithRev := true }).modDoor d fun x =>
      { x with settleWhy := 2, energyDetail := detail }
  else s1.modDoor d fun x => { x with
    rampToOpen := true, settleWhy := 2, stranded := x.stranded || stranded, energyDetail := detail }

/-- Has an opening passed the passable point, each leaf its own; a reopen travel its reopen target? -/
def State.pastPassable (s : State) (d : Doorway) : Bool :=
  if s.doors.door[d].leaf == .reopening then
    (s.leafAxesOf d).all fun a => (match s.axes[a].plan with
      | some p => decide (p.target ≤ s.axes[a].x)
      | none => true)
  else (s.leafAxesOf d).all fun a => decide (s.xPassable d a ≤ s.axes[a].x)

def State.doorERem (s : State) (d : Doorway) : Nat := (s.leafAxesOf d).foldl (fun n a => n + s.eRemOf a) 0

def State.moving (s : State) (d : Doorway) : Bool := (s.leafAxesOf d).any fun a => (match s.axes[a].plan with
  | some p => p.kind != .rampStop
  | none => false)
def State.openingMoves (s : State) : List Doorway :=
  s.enabledDoors.filter fun d =>
    (s.doors.door[d].leaf == .opening || s.doors.door[d].leaf == .reopening) && s.moving d

/-- First step of R232: closings, jogs and step deploys. -/
def State.lineFirst (s : State) (detail : Nat) : State :=
  let closings := s.enabledDoors.filter fun d => s.doors.door[d].leaf == .closing && s.moving d
  let s1 := s.each closings fun s d => s.lineStop d true detail
  let s2 := s1.each (List.finRange 4) fun s a => match s.axes[a].plan with
    | some p => if p.kind == .jog then (s.rampStop a).endAxisCmd a ST_ENERGY detail [] else s
    | none => s
  s2.each s2.enabledDoors fun s d =>
    if s.doors.door[d].step == .deploying then
      (match s.stepAxisOf d with
        | some a => s.rampStop a
        | none => s)
    else s

/-- Replan an opening short of the passable point to that point, if its energy to there fits. -/
def State.lineCut (s : State) (d : Doorway) : State :=
  if s.doors.door[d].leaf != .opening || s.pastPassable d then s
  else
    let s1 := s.each (s.leafAxesOf d) fun s a => s.moveTo a .open none (s.xPassable d a) (s.openLim a)
    if (s1.doorERem d : Int) ≤ s1.eUse s1.runningLeft 0 then
      s1.modDoor d fun x => { x with openPartial := true }
    else s

/-- The opening doorway with the largest E_rem; the first among equals. -/
def State.largestOpening (s : State) : Option Doorway :=
  s.openingMoves.foldl (fun (m : Option Doorway) d => match m with
    | some k => if s.doorERem k < s.doorERem d then some d else m
    | none => some d) none

/-- Ramp stops of the openings left over, the largest E_rem first, until the sum fits. -/
def State.lineRest : Nat → State → Nat → State
  | 0, s, _ => s
  | k + 1, s, detail =>
    if !s.overLine then s
    else match s.largestOpening with
      | none => s
      | some d => State.lineRest k (s.lineStop d false detail) detail

/-- A crossing: the order of R232, recomputed after each step. -/
def State.crossLine (s : State) : State :=
  let detail := s.lineDetail
  let s1 := s.lineFirst detail
  if !s1.overLine then s1
  else
    let s2 := s1.each (s1.openingMoves.filter s1.pastPassable) fun s d => s.lineStop d false detail
    if !s2.overLine then s2
    else
      let s3 := s2.each (s2.openingMoves.filter fun d => !s2.pastPassable d) State.lineCut
      State.lineRest 2 s3 detail

/-- The abort line in one tick on store energy (R231): EN_ABORT_LINE once for each crossing. -/
def State.abortTick (s : State) : State :=
  if !s.supply.onStore then
    s.modEnergy fun e => { e with crossed := false, eRem := .replicate 4 0 }
  else
    let s0 := s.withERem
    let rem := s0.eRemSum
    let over_ := s0.overLine
    let s1 := s0.modEnergy fun e => { e with crossed := over_ }
    if over_ && !s.energy.crossed then
      let s2 := s1.raise Ev.EN_ABORT_LINE [.u16 (rem / 1000), .u16 ((s1.eUse s1.runningLeft 0).toNat / 1000)]
      s2.crossLine.withERem
    else s1

/-! ### Supply-loss actions (R234, Table EN-6) -/

/-- The request of SV for one doorway at the start of S1. -/
def State.lossAction (s : State) (d : Doorway) : State :=
  let x := s.doors.door[d]
  let action := s.param (0x4A7 + d.val)
  let s1 := s.raise Ev.EN_LOSS_ACTION [.u16 (s.doorId d.val), .u8 action, .u8 (leafCode x.leaf)]
  match action with
  | 1 => if x.leaf == .opened || x.leaf == .opening then s1.ask .sv (.doorClose d.val) else s1
  | 2 => if x.leaf == .closedLocked || x.leaf == .opened || x.leaf == .warn || x.leaf == .closing then
      s1.modEnergy fun e => { e with lossActions := updV e.lossActions d fun _ => some 2 }
    else s1
  | _ => if x.leaf == .warn then
      (s1.enterLeaf d .opened .lossAction).endCmd d ST_ENERGY (s1.energyDetail (s1.closeMoves d)) []
    else s1

/-- An open action waits in the resolver for zero speed, for as long as S1 to S3 last. -/
def State.lossActionTick (s : State) : State :=
  let lasts := s.supply.step == some .s1 || s.supply.step == some .s2 || s.supply.step == some .s3
  s.each [(0 : Doorway), 1] fun s d =>
    if s.energy.lossActions[d].isNone then s
    else if !lasts then s.modEnergy fun e => { e with lossActions := updV e.lossActions d fun _ => none }
    else if s.zeroSpeed s.activeCore then
      (s.modEnergy fun e => { e with lossActions := updV e.lossActions d fun _ => none }).ask .sv (.doorEvacOpen d.val)
    else s

/-! ### What the core does for the store in each tick -/

/-- Drive power the model gives an axis that is driven, both lanes, in 0.1 W. -/
def State.bridgeDraw (s : State) (a : Axis) : Nat :=
  if s.axes[a].driving then
    s.lanes a * ((s.motor a).r * s.currentOf a * s.currentOf a / 100000000 + (s.motor a).bridge * 10)
  else 0

/-- P_stand: the frame's drive-bus draw over the last 1 s, less the axis bridges (R226). -/
def State.drawTick (s : State) : State :=
  let total := s.supply.pm[(0 : Fin 2)].repPOut + s.supply.pm[(1 : Fin 2)].repPOut + s.energy.pBoost
  let bridges := (List.finRange 4).foldl (fun n a => n + s.bridgeDraw a) 0
  s.modEnergy fun e =>
    let sum := e.drawSum + (total - bridges)
    if 20000 ≤ e.drawTicks + 1 then { e with pStand := sum / (e.drawTicks + 1), drawSum := 0, drawTicks := 0 }
    else { e with drawSum := sum, drawTicks := e.drawTicks + 1 }

/-- The module's commands: charge on supply outside a window, boost while a core runs, and v_floor and v_charge
(R211, R220, R235). -/
def State.energyCommands (s : State) : State :=
  let e := s.energy
  let limited := s.supply.pm[(0 : Fin 2)].currentLimit || s.supply.pm[(1 : Fin 2)].currentLimit
  s.modEnergy fun x => { x with
    chargeEn := s.anyPm && !s.supply.onStore && e.window.isNone && !limited && !s.entryParked,
    boostEn := e.window.isNone && (s.anyPm || s.supply.onStore) && !s.supply.serviceOnly && !s.entryParked,
    windowCmd := e.window.isSome, vFloor := e.floorMv, vCharge := 8 * s.param 0x4A9 }

/-- A block of R224 that has passed, the estimator, ready, and R217's crossing with no move running. -/
def State.energyTick (s : State) : State :=
  let s1 := s.modEnergy fun e => { e with blockUntil := match e.blockUntil with
    | some t => if t ≤ s.now then none else some t
    | none => none }
  let s2 := (((s1.drawTick).energyCommands).estTick).judgeReady
  let s3 := if s2.mayRest then s2.startWindow else s2
  let still := (List.finRange 4).all fun a => s3.axes[a].plan.isNone
  let s4 := if s3.supply.onStore && still && decide (s3.eUse 0 0 ≤ 0) && !s3.supply.hostRailsOff && s3.inService e0Slot then
      s3.hostRailsOff.beginBudget 1
    else s3
  if s4.supply.onStore && s4.inService e0Slot && (s4.energy.flags.getLsbD 0 || decide (s4.energy.aboveFloor ≤ 600000)) then
    s4.floorReached
  else s4

end Sys2Proof.Machine
end

