-- ==== Sys2Proof/Machine/Records.lean ====
section
/-!
DEFINITION. The journal's records and their commit, chapter 16: the bytes of a record (Tables JR-1 to JR-3),
numbering (R381), programs of the page image (R382, R383), capacity and bad blocks (R385, R386), and the rebuild
at a start (R384).
-/

namespace Sys2Proof.Machine

/-! ### The bytes of a record (R377 to R379) -/

def RecBody.type : RecBody → Nat
  | .cycle _ => 1 | .event _ _ _ => 2 | .timeStep .. => 3 | .gapUnstaged .. => 4 | .gapSkipped .. => 4
  | .shutdown _ => 5 | .start _ => 6 | .note .. => 7

def tickOffset (t : Option Nat) : List Byte := leBytes 4 (t.getD 0xFFFFFFFF)

/-- Body of a cycle record from byte 32 (Table JR-2). -/
def CycleRec.bytes (c : CycleRec) : List Byte :=
  leBytes 2 c.doorId ++ [c.opener, c.closer] ++ leBytes 1 c.endKind ++ [c.flags] ++ leBytes 1 c.obstacles ++ [c.sources]
    ++ tickOffset c.tOpen ++ tickOffset c.tWarn ++ tickOffset c.tClose ++ tickOffset c.tPassOpen
    ++ tickOffset c.tPassClose ++ tickOffset c.tClosed ++ tickOffset c.tLocked ++ tickOffset c.tStepDeployed
    ++ tickOffset c.tStepStowed ++ leBytes 2 c.widthMax ++ leBytes 1 c.lockRetries ++ leBytes 1 c.stepRetries
    ++ leBytes 2 c.iClose ++ leBytes 2 c.iOpen ++ leBytes 2 c.vBusMin ++ leBytes 2 (min 65535 c.followMax)
    ++ leBytes 4 c.eStore ++ leBytes 4 (unsigned 32 c.xLock0) ++ leBytes 4 (unsigned 32 c.xLock1)
    ++ leBytes 1 (min 255 c.forceCaps) ++ leBytes 1 (unsigned 8 c.tMotor) ++ [c.supply] ++ leBytes 1 c.tier
    ++ leBytes 4 c.cycleNo

def itemVal : Item → Nat
  | .u8 n => n % 2 ^ 8
  | .u16 n => n % 2 ^ 16
  | .u32 n => n % 2 ^ 32

/-- Body bytes from byte 32 (Tables JR-2, JR-3). -/
def RecBody.bytes : RecBody → List Byte
  | .cycle c => c.bytes
  | .event code core items =>
    leBytes 2 code.toNat ++ leBytes 1 core.toNat ++ [0] ++ slice (packItems items) 0 8
      ++ items.flatMap fun i => leBytes 4 (itemVal i)
  | .timeStep old new offset source crossed qb qa eb =>
    leBytes 8 old ++ leBytes 8 new ++ leBytes 8 (unsigned 64 offset) ++ leBytes 1 source ++ leBytes 1 (min 255 crossed)
      ++ leBytes 1 qb ++ leBytes 1 qa ++ leBytes 4 eb
  | .gapUnstaged count first last => [1] ++ List.replicate 7 0 ++ leBytes 8 count ++ leBytes 4 0 ++ leBytes 8 first ++ leBytes 8 last
  | .gapSkipped first count => [2] ++ List.replicate 7 0 ++ leBytes 8 first ++ leBytes 4 count
  | .shutdown bs => bs
  | .start bs => bs
  | .note party code text => [party, 0] ++ leBytes 2 code.toNat ++ slice text 0 44

/-- The 128 bytes of a record (R377). -/
def Record.bytes (r : Record) : List Byte :=
  let head := leBytes 8 r.number ++ leBytes 1 r.body.type ++ [0x01]
    ++ leBytes 1 (Bool.nat r.byC1 + 2 * Bool.nat r.priority) ++ leBytes 1 r.quality ++ leBytes 8 r.stamp
    ++ leBytes 4 (min 0xFFFFFFFF r.err) ++ leBytes 2 r.frameId ++ leBytes 2 r.startCount ++ leBytes 4 0
  let body := head ++ slice r.body.bytes 0 92
  body ++ leBytes 4 (crc32 body).toNat

/-! ### Numbering (R381) -/

/-- A numbered record enters a core's page image. -/
def NandSt.enter (n : NandSt) (r : Record) (now : Nat) : NandSt :=
  { n with image := n.image ++ [(r, now)], imageFill := n.imageFill + 1 }

/-- Take records from staging, priority records first, while the page image has room. -/
def State.intake : Nat → State → State
  | 0, s => s
  | k + 1, s =>
    let n := s.journal.nand[s.activeCore]
    if 32 ≤ n.imageFill && !n.faulted then s
    else
      let take (r : Record) (j : JournalSt) : State :=
        let r' := { r with number := j.nextNumber }
        State.intake k (({ s with journal := { j with nextNumber := j.nextNumber + 1 } }).modNand s.activeCore fun n =>
          n.enter r' s.now)
      match s.journal.stagedPrio, s.journal.stagedOrd with
      | r :: rest, _ => take r { s.journal with stagedPrio := rest }
      | [], r :: rest => take r { s.journal with stagedOrd := rest }
      | [], [] => s

/-! ### Capacity (R385) -/

/-- Blocks of the journal area still in use. -/
def NandSt.blocks (n : NandSt) : Nat := 4096 - n.retired

/-- The write position moves by a page; reaching a block that holds old records erases its 2,048 oldest. -/
def State.pageWritten (s : State) (c : CoreId) : State :=
  let n := s.journal.nand[c]
  let slot := n.writeSlot + 32
  let s1 := s.modNand c fun n => { n with writeSlot := slot, imageFill := n.image.length }
  if slot % 2048 = 0 && decide (2048 * n.blocks ≤ slot) && decide (2048 * n.blocks ≤ n.held.length + 2048) then
    let keep := n.held.length - 2048
    let s2 := s1.modNand c fun n => { n with held := n.held.take keep, wrapped := n.wrapped + 2048 }
    let wrapped := n.wrapped + 2048
    if n.wrapped = 0 || wrapped / 1048576 ≠ n.wrapped / 1048576 then
      s2.raise Ev.JR_WRAP [.u32 (match s2.journal.nand[c].held.getLast? with
        | some r => r.number
        | none => 0)]
    else s2
  else s1

/-! ### Commit (R382) -/

/-- What follows from a record's commit: a note completes (R393), a gap is reported, a shut-down record is noted. -/
def State.recordCommitted (s : State) (c : CoreId) (r : Record) : State :=
  let s1 := match r.body with
    | .shutdown _ => s.modNand c fun n => { n with lastShutdown := r.number }
    | .gapUnstaged count _ _ => if c = s.activeCore then s.raise Ev.JR_GAP [.u8 1, .u16 (min 65535 count)] else s
    | .gapSkipped _ count => if c = s.activeCore then s.raise Ev.JR_GAP [.u8 2, .u16 (min 65535 count)] else s
    | _ => s
  match r.noteFor with
  | some q => if c = s.activeCore then s1.ok q Opc.OP_JOURNAL_NOTE (leBytes 8 r.number) else s1
  | none => s1

/-- The first `n` records of the image are committed; every record of the page takes its commit time (R391). -/
def State.commit (s : State) (c : CoreId) (n : Nat) : State :=
  let x := s.journal.nand[c]
  let new := (x.image.take n).map (·.1)
  let page := x.imageFill - x.image.length + new.length
  let held := new.reverse ++ x.held
  let dated := (held.take page).map fun r => { r with committed := s.tai, noteFor := none }
  (s.modNand c fun x => { x with held := dated ++ held.drop page, image := x.image.drop n }).each new
    fun s r => s.recordCommitted c r

/-- A program that was read back good. -/
def State.programGood (s : State) (c : CoreId) : State :=
  match s.journal.nand[c].program with
  | none => s
  | some (kind, n) =>
    let s1 := (s.modNand c fun x => { x with program := none, failRun := 0 }).commit c n
    if kind = .journal then s1.pageWritten c else s1

/-- Retire a block (R386). -/
def State.retireBlock (s : State) (c : CoreId) (block : Nat) : State :=
  let left := s.journal.nand[c].spares
  let s1 := (s.modNand c fun x =>
      if left = 0 then { x with retired := x.retired + 1 } else { x with spares := left - 1 }).raise Ev.JR_BAD_BLOCK
    [.u16 block, .u8 (left - 1)]
  if left = 17 then s1.raise Ev.JR_SPARES_LOW [.u8 16] else s1

/-- A program not read back good: reported, its block retired where it is bad, and eight in a row make the NAND
faulted (R386). A tail image is committed by the plane that is good; where both fail, it is programmed again
(R382). `plane` 2 is both planes. -/
def State.programBad (s : State) (c : CoreId) (page plane : Nat) (blockBad : Bool) : State :=
  match s.journal.nand[c].program with
  | none => s
  | some (kind, n) =>
    let run := s.journal.nand[c].failRun + 1
    let s1 := s.raise Ev.JR_PROGRAM_FAIL [.u32 page, .u8 plane]
    let s2 := if blockBad then s1.retireBlock c (page / 64) else s1
    let s3 := if kind = .tail && plane < 2 then s2.commit c n
      else if kind = .tail then
        (match s2.journal.nand[c].image.head? with
          | some (r, t) => s2.raise Ev.JR_COMMIT_SLOW [.u32 r.number, .u16 (min 65535 (s.since t / msec))]
          | none => s2)
      else s2
    let s4 := s3.modNand c fun x => { x with program := none, failRun := run }
    if run = 8 then
      ((s4.modNand c fun x => { x with faulted := true }).modCore c fun x => { x with nandHealthy := false }).raise
        Ev.JR_NAND_FAULT [.u8 c.val]
    else s4

/-- Begin a program of the present image. -/
def State.startProgram (s : State) (c : CoreId) (kind : NandProgram) : State :=
  let x := s.journal.nand[c]
  if x.program.isSome || x.faulted || x.image.isEmpty then s
  else s.modNand c fun x => { x with program := some (kind, x.image.length) }

/-- S4 and N2 program their last image into the journal area (R383). -/
def State.closingPage (s : State) : Bool :=
  s.supply.step == some .s4 || s.power.entry == some .n2

/-- When the oldest uncommitted record of a kind entered the image. -/
def NandSt.oldest (n : NandSt) (priority : Bool) : Option Nat :=
  (n.image.find? fun r => r.1.priority == priority).map (·.2)

/-- The program that is due on a core (R382, R383). -/
def State.programDue (s : State) (c : CoreId) : Option NandProgram :=
  let x := s.journal.nand[c]
  let past (t : Option Nat) (d : Nat) : Bool := t.any fun t => decide (t + d ≤ s.now)
  let staged := c = s.activeCore && decide (0 < s.journal.staged)
  if 32 ≤ x.imageFill then some .journal
  else if s.closingPage && !staged then some .journal
  else if past (x.oldest true) msec || past (x.oldest false) (s.param 0x565 * msec) then some .tail
  else none

/-- A core fed by the service rail alone is in a voltage transition: no NAND write, and transfers of its port wait
(R204). -/
def State.sinkStandby (s : State) (c : CoreId) : Bool := s.supply.sinks[c].shed && !s.anyPm

/-- One core's NAND in a tick. -/
def State.nandTick (s : State) (c : CoreId) : State :=
  if s.pair.core[c].present && !s.sinkStandby c then
    match s.programDue c with
    | some k => s.startProgram c k
    | none => s
  else s

/-- The gap record of events not staged (R137). -/
def State.gapRecord (s : State) : State :=
  let j := s.journal
  if j.unstaged ≠ 0 && decide (j.staged < 256) then
    (s.stage (s.mkRecord true s.tai (.gapUnstaged j.unstaged j.unstagedFirst j.unstagedLast) none)).modJournal fun j =>
      { j with unstaged := 0, unstagedFirst := 0, unstagedLast := 0 }
  else s

/-- After the tick pass: staging moves into the page image, and due programs begin. -/
def State.journalTick (s : State) : State :=
  let s1 := s.gapRecord
  let s2 := s1.modJournal fun j => { j with highRaised := j.highRaised && decide (256 ≤ j.staged) }
  ((s2.intake 32).nandTick 0).nandTick 1

/-- Everything staged is committed: nothing waits in staging or in an image of a core that works. -/
def State.journalEmpty (s : State) : Bool :=
  s.journal.staged == 0 && [(0 : CoreId), 1].all fun c =>
    !s.pair.core[c].present || s.journal.nand[c].faulted || s.journal.nand[c].image.isEmpty

/-- Commit everything there is, a page at a time (R383). -/
def State.flushPages : Nat → State → State
  | 0, s => s
  | k + 1, s =>
    let s1 := s.intake 32
    let c := s1.activeCore
    let n := s1.journal.nand[c]
    if n.image.isEmpty || n.faulted then s1
    else
      let s2 := (s1.commit c n.image.length).pageWritten c
      State.flushPages k (s2.modNand c fun x => { x with program := none })

/-- The last image is programmed, on both cores (R383). -/
def State.flushJournal (s : State) : State :=
  let s1 := State.flushPages (s.journal.staged / 32 + 2) s
  s1.each ([(0 : CoreId), 1].filter fun c => c != s.activeCore && s.pair.core[c].present && !s.journal.nand[c].faulted)
    fun s c =>
      if s.journal.nand[c].image.isEmpty then s
      else ((s.commit c s.journal.nand[c].image.length).pageWritten c).modNand c fun x => { x with program := none }

/-- The rebuild at a start (R384): what was not committed is lost, the open page is reopened. -/
def State.journalRecover (s : State) (c : CoreId) : State :=
  let x := s.journal.nand[c]
  let reopened := x.imageFill - x.image.length
  let s1 := s.modNand c fun x => { x with image := [], imageFill := reopened, program := none }
  s1.raise Ev.JR_RECOVERY [.u32 (match x.held with
    | r :: _ => r.number
    | [] => 0), .u8 reopened]

end Sys2Proof.Machine
end

