-- ==== Sys2Proof/Machine/Ports.lean ====
section
/-!
DEFINITION. What several chapters do to the ports and cores: a port that stops or loses its links (R60, R304, R429),
a service session that ends (R419), scheduled actions that are cancelled (Table TM-4), the restart image (R428),
the shut-down record (Table JR-3) and the last-gasp frame (R336).
-/

namespace Sys2Proof.Machine

/-! ### Ports -/

/-- The port stops: HR_PORT_DOWN with its reason 1 disabled, 2 links down, 3 slot emptied (R304). -/
def State.stopPort (s : State) (p : PortId) (reason : Nat) : State :=
  if s.ports[p].running then
    (s.modPort p fun t => { t with running := false, up := false }).raise Ev.HR_PORT_DOWN [.u8 (portNum p), .u8 reason]
  else s.modPort p fun t => { t with up := false }

/-- The port goes down: it stops and loses its claims (R60, R304). -/
def State.portDown (s : State) (p : PortId) (reason : Nat) : State :=
  (s.stopPort p reason).loseClaims (partyOf p) 1

/-- Set-up registers of Table RF-7 in the column "Both links down"; counters and lay-by are kept (R429). -/
def PortSt.linksDown (t : PortSt) : PortSt :=
  { t with
    ctrl := 4, running := false, up := false, error := 0, evFilter := 0x7FFF, statusBase := 0, shadowBase := 0,
    ringSel := 0, evq := {}, sq := .replicate 16 {}, cq := .replicate 16 {}, cqEntries := .replicate 16 [],
    evqEntries := [], statusWrites := 0, rotate := 0,
    -- places reserved in the rings that are gone move to the lay-by
    laybyReserved := t.laybyReserved + t.cq.foldl (fun n r => n + r.reserved) 0 }

/-- Both links of a port are down; its consent is gone with its PWR_MODE (Table RF-7). -/
def State.bothLinksDown (s : State) (p : HostPort) (reason : Nat) : State :=
  let s1 := s.portDown (hostPort p) reason
  (s1.modPort (hostPort p) PortSt.linksDown).modPower fun w => { w with
    mode := updV w.mode p fun m => m &&& ~~~1, consents := w.consents.set (if p = 0 then 0 else 1) false (by split <;> omega) }

/-- Take both links of a host slot down (N5, S7). -/
def State.dropLinks (s : State) (p : HostPort) : State :=
  let t := s.ports[hostPort p]
  let s1 := s.each [(0 : CoreId), 1] fun s c =>
    if t.links[c] then s.raise Ev.HR_LINK [.u8 p.val, .u8 c.val, .u8 0, .u8 t.gens[c].toNat] else s
  (s1.modPort (hostPort p) fun t => { t with links := .replicate 2 false }).bothLinksDown p 2

/-! ### Service sessions -/

/-- A session ends: P4's claims are released, and UD_SESSION_CLOSE gives 1 command, 2 detach, 3 idle, 4 takeover
(R419). -/
def State.endSession (s : State) (c : CoreId) (reason : Nat) : State :=
  if s.update.session[c].level = 0 then s
  else
    let s1 := s.modSession c fun x => { x with level := 0, buffers := [] }
    let s2 := (s1.loseClaims .p4 4).raise Ev.UD_SESSION_CLOSE [.u8 c.val, .u8 reason]
    if s2.update.session[otherCore c].level = 0 then s2.modPort 3 fun t => { t with running := false, up := false } else s2

/-! ### Scheduled actions -/

/-- Opcode of a scheduled request; only these five take a time (R370). -/
def schedOpcode : Op → BitVec 15
  | .doorOpen _ => Opc.OP_DOOR_OPEN
  | .doorClose _ => Opc.OP_DOOR_CLOSE
  | .axisMove _ _ => Opc.OP_AXIS_MOVE
  | .fioSet _ _ => Opc.OP_FIO_SET
  | _ => Opc.OP_LOAD_SET

/-- Every pending action is cancelled at S1 (Table TM-4). -/
def State.cancelSched (s : State) : State :=
  let acts := s.time.sched
  let s1 := s.modTime fun t => { t with sched := [] }
  s1.each acts fun s q =>
    (s.fail q.req (schedOpcode q.op) ST_PREEMPTED 0).raise Ev.TM_SCHED_CANCELLED
      [.u8 ((portOf q.req.party).elim 3 portNum), .u32 q.req.hseq.toNat, .u8 2]

/-! ### Restart image (R428) and shut-down record (Table JR-3) -/

def PortSt.image (t : PortSt) : PortImage :=
  { hseqConsumed := t.hseqConsumed, hseqAny := t.hseqAny, hseqSeen := t.hseqSeen, dseqNext := t.dseqNext,
    evDropped := t.evDropped, laybyCq := t.laybyCq, laybyEv := t.laybyEv, kept := t.kept }

def State.restartImage (s : State) : RestartImage :=
  { ports := s.ports.map PortSt.image, rseq := s.can.rx.map (·.rseqNext), filters := s.can.rx.map (·.filters),
    stamps := s.doors.door.map (·.stamps), tick := s.tick, mode := s.power.mode.map fun m => m &&& 0x1E }

def State.saveRestart (s : State) : State := { s with restart := some s.restartImage }

/-- Step states of both doorways in one byte, as byte 3 of LAST_GASP. -/
def State.stepsByte (s : State) : Nat :=
  let one (d : Doorway) : Nat :=
    if s.enabled d && hasStep s.param d.val then stepCode s.doors.door[d].step else 15
  one 0 + 16 * one 1
def State.leafByte (s : State) (d : Doorway) : Nat := if s.enabled d then leafCode s.doors.door[d].leaf else 15

def State.proofBits (s : State) (d : Doorway) : Nat :=
  if s.enabled d then
    Bool.nat (s.allClosed s.activeCore d) + 2 * Bool.nat (s.allLocked s.activeCore d)
      + 4 * Bool.nat (s.stowedProof s.activeCore d)
  else 0

/-- The loop is open: no core's relays are commanded closed. -/
def State.loopOpen (s : State) : Bool := !(s.doors.relays[(0 : CoreId)] || s.doors.relays[(1 : CoreId)])

/-- Bytes 32 to 78 of a shut-down record: its kind, the target of an entry and the time it counts from. -/
def State.shutBytes (s : State) (kind target from_ : Nat) : List Byte :=
  leBytes 1 kind
  ++ leBytes 1 (Bool.nat s.supply.capped + 2 * Bool.nat s.supply.byReserve + 4 * Bool.nat s.loopOpen)
  ++ leBytes 1 target ++ leBytes 1 (tierCode s.frame.frameTier)
  ++ leBytes 1 (s.leafByte 0) ++ leBytes 1 (s.leafByte 1) ++ leBytes 1 s.stepsByte
  ++ leBytes 1 (s.proofBits 0 + 16 * s.proofBits 1)
  ++ ((List.finRange 4).flatMap fun a => leBytes 4 (unsigned 32 s.axes[a].pos))
  ++ leBytes 2 (maskOf 4 fun i => (match asFin 4 i with
      | some a => s.axes[a].uncertain
      | none => false))
  ++ ((List.finRange 4).flatMap fun a => leBytes 2 s.axes[a].eOff.toNat)
  ++ s.setHash.take 8 ++ leBytes 2 s.usableJ ++ leBytes 2 (min 65535 (s.since from_ / msec))
  ++ leBytes 1 s.supply.cancelled

/-- What the record keeps for the next start (R199). -/
def State.shutRecord (s : State) (kind : Nat) : ShutRecord :=
  { number := s.journal.nextNumber + s.journal.stagedPrio.length,
    leaf := s.doors.door.map (·.leaf), step := s.doors.door.map (·.step), pos := s.axes.map (·.x),
    uncertain := s.axes.map (·.uncertain), eOff := s.axes.map (·.eOff), e0Serial := s.energy.serial,
    at_ := s.time.rtc, kind := kind }

/-- S4 and N2: the running cycles end, the restart image is written, and the shut-down record is staged. -/
def State.commitShutdown (s : State) (kind target from_ cycleEnd : Nat) : State :=
  let s1 := s.each [(0 : Doorway), 1] fun s d => s.endCycle d cycleEnd
  let r := s1.shutRecord kind
  let s2 := s1.saveRestart.stage (s1.mkRecord true s1.tai (.shutdown (s1.shutBytes kind target from_)) none)
  { s2 with supply := { s2.supply with record := some r } }

/-! ### The last gasp (R336, Table MB-12) -/

def State.lastGasp (s : State) (cause : Nat) : State :=
  let number := s.supply.record.elim 0 (·.number)
  let s1 := s.modCan fun c => { c with lastGaspUntil := some (s.now + 20 * msec) }
  if s.param 0x520 = 1 then
    s1.sendOwn 2 .d { fmt := 0, ide := true, id := s.fallbackId 0,
                      data := leBytes 1 cause ++ leBytes 1 (s.leafByte 0) ++ leBytes 1 (s.leafByte 1)
                        ++ leBytes 1 s.stepsByte
                        ++ leBytes 1 (Bool.nat s.supply.record.isSome + 2 * Bool.nat s.loopOpen)
                        ++ leBytes 3 number }
  else s1

/-! ### A wake begins (R246, R251) -/

/-- An active core whose CPU runs: not in SLEEP, DEEP or OFF. -/
def State.coreReads (s : State) : Bool := s.anyActive && s.power.state != .sleep && s.power.state != .deep

/-- The wake timetable starts, the causes entered in PWR_WAKE_CAUSE; from SLEEP its first three rows are skipped. -/
def State.beginWake (s : State) (src : PowerState) (causes : BitVec 32) : State :=
  s.modPower fun w => { w with
    wake := some { src := src, at_ := s.now, row := if src = .sleep then .pllCheck else .regEnable,
                   off := s.now - w.slept },
    cause := causes, osc := .replicate 2 false }

/-- In a low-power state, and no wake runs yet. -/
def State.asleep (s : State) : Bool :=
  (s.power.state == .sleep || s.power.state == .deep || s.power.state == .off) && s.power.wake.isNone

/-! ### Cores that lose their power -/

/-- A core is off: its relays are open, its session is over, and it drives no TICK. -/
def State.coreOff (s : State) (c : CoreId) : State :=
  let s1 := if s.doors.relays[c] then s.loopDrop c 1 else s
  let s2 := (s1.modCore c fun x => { x with present := false, active := false, listenFrom := none }).modSession c
    fun x => { x with level := 0, buffers := [] }
  s2.modSlot (coreSlot c) fun x => { x with inService := false, standbyRole := false }

/-- The frame is off (S7, N6, R205). -/
def State.frameOff (s : State) : State :=
  let s1 := (s.releaseHeld.coreOff 0).coreOff 1
  let s2 := (s1.modPair fun q => { q with
    standby := .absent, heldCompletions := [], heldEvents := [], handover := none, handoverReq := none }).modPower
    fun w => { w with state := .off, entry := none, idle := false, slept := s.now }
  { s2 with supply := { s2.supply with step := none, onStore := false },
            time := { s2.time with rtcErr := s.time.err, tpo := false } }

end Sys2Proof.Machine
end

