-- ==== Sys2Proof/Machine/Supply.lean ====
section
/-!
DEFINITION. Supply, shut-down and service power, chapter 08: feeds and their states (R184 to R189), sharing and
overload (R190, R191), supply loss (R193), the shut-down sequence (R194 to R198) and the service ports (R201 to
R207).
-/

namespace Sys2Proof.Machine

def State.modSupply (s : State) (f : SupplySt → SupplySt) : State := { s with supply := f s.supply }

/-! ### Feeds (Tables SU-1 to SU-3) -/

/-- Un of a un_code in V (Table SU-9). -/
def unVolts (code : Nat) : Nat :=
  match code with
  | 1 => 24 | 2 => 36 | 3 => 48 | 4 => 72 | 5 => 96 | 6 => 110 | _ => 0
def unCodeOf (v : Nat) : Nat :=
  if v = 24 then 1 else if v = 36 then 2 else if v = 48 then 3 else if v = 72 then 4 else if v = 96 then 5 else 6

/-- SK7-PS-HV is declared for the slot. -/
def State.pmHv (s : State) (p : Fin 2) : Bool := s.declared (pmSlot p) == 2

/-- Un a module judges its feed against: its configuration cell, or its variant's lowest (R185). -/
def State.unOf (s : State) (p : Fin 2) : Nat :=
  let v := unVolts s.supply.pm[p].unCode.toNat
  if v = 0 then (if s.pmHv p then 72 else 24) else v

/-- At or above 0.72 Un, below 0.62 Un; the feed in 0.1 V. -/
def State.aboveStart (s : State) (p : Fin 2) (v : Int) : Bool := decide ((72 * s.unOf p : Nat) ≤ 10 * v)
def State.belowStop (s : State) (p : Fin 2) (v : Int) : Bool := decide (10 * v < (62 * s.unOf p : Nat))
/-- Above the stop level of the input stage, and below its restart level (Table SU-1). -/
def State.aboveStopLevel (s : State) (p : Fin 2) (v : Int) : Bool := decide ((if s.pmHv p then 1540 else 700) < v)
def State.belowRestart (s : State) (p : Fin 2) (v : Int) : Bool := decide (v < (if s.pmHv p then 1400 else 620))

/-- The next state of a feed at a voltage (Table SU-3). -/
def State.nextFeed (s : State) (p : Fin 2) (v : Int) : Feed :=
  let x := s.supply.pm[p]
  let started := if s.aboveStart p v then Feed.qualifying else Feed.stopped
  if v < -50 then .reversed
  else if s.aboveStopLevel p v then .over
  else match x.feed with
    | .stopped => if s.aboveStart p v && !x.band then .qualifying
        else if s.aboveStart p v && decide (x.vIn < v) then .qualifying else .stopped
    | .qualifying => if s.belowStop p v then .stopped else .qualifying
    | .good => if s.belowStop p v then .interrupted else .good
    | .interrupted =>
      if decide (10 * msec < s.since x.interruptedAt) then started
      else if s.aboveStart p v then .good else .interrupted
    | .reversed => if 0 < v then .stopped else .reversed
    | .over => if s.belowRestart p v then started else .over

def feedCode : Feed → Nat
  | .stopped => 0 | .qualifying => 1 | .good => 2 | .interrupted => 3 | .reversed => 4 | .over => 5

/-- A feed counts as supplied (Table SU-2). -/
def Feed.supplied : Feed → Bool
  | .good | .interrupted => true
  | _ => false

/-! ### The shut-down sequence (R194 to R198, Table SU-5) -/

def stepNo : ShutStep → Nat
  | .s1 => 1 | .s2 => 2 | .s3 => 3 | .s4 => 4 | .s5 => 5 | .s6 => 6 | .s7 => 7

/-- A step starts: SU_SHUTDOWN_STEP. -/
def State.beginStep (s : State) (k : ShutStep) : State :=
  (s.modSupply fun u => { u with step := some k, stepFrom := s.now }).raise Ev.SU_SHUTDOWN_STEP
    [.u8 (stepNo k), .u16 (min 65535 (s.since s.supply.lossAt / msec)), .u16 s.usableJ]

/-- S2: every running move finishes under the abort line; in the compressed form every axis stops with a ramp
(R195). -/
def State.beginS2 (s : State) : State :=
  let s1 := s.beginStep .s2
  if s.supply.compressed then s1.each (List.finRange 4) State.rampStop else s1

/-- S1: moves are closed to admission, scheduled actions are cancelled, SV places the supply-loss actions; S1
ends at once. -/
def State.beginShutdown (s : State) : State :=
  let compressed := !s.energy.ready
  let s1 := s.modSupply fun u => { u with
    compressed := compressed, capped := false, byReserve := false, s1At := s.now, cancelled := s.time.sched.length }
  let s2 := (s1.beginStep .s1).cancelSched
  let s3 := if compressed then s2 else s2.each s2.enabledDoors State.lossAction
  s3.beginS2

/-- A supply loss is declared (R193); without a ready energy module, or with no ride-through, S1 follows at
once. -/
def State.supplyLoss (s : State) (feeds : Nat) : State :=
  let ride := s.param 0x482
  let s1 := (s.modSupply fun u => { u with onStore := true, lossAt := s.now }).modEnergy fun e => { e with
    floorReached := false, budgets := 0, blockUntil := none }
  let s2 := (s1.raise Ev.SU_SUPPLY_LOSS [.u8 feeds, .u16 ride]).abortWindow 3
  if !s.energy.ready || ride = 0 then s2.beginShutdown else s2

/-- The supply loss ends: a feed is GOOD before S1, or at the test of R197. -/
def State.lossEnds (s : State) : State :=
  (s.modSupply fun u => { u with onStore := false, step := none, compressed := false }).modEnergy fun e =>
    { e with lossActions := .replicate 2 none, crossed := false }

/-- Park (S5, N3): every axis to coils shorted. -/
def State.park (s : State) : State :=
  (s.modPower fun w => { w with parked := true }).each (List.finRange 4) fun s a =>
    s.modAxis a fun x => { x with driving := false, wakeFrom := none }

/-- The hold flag to the field and load modules (S6, N3). -/
def State.sendHold (s : State) : State :=
  (s.each [(0 : Fin 2), 1] fun s m => s.modFieldMod m fun x => { x with holdDown := true }).modLoads fun x =>
    { x with holdCmd := true }

/-- S4: staging is flushed and the shut-down record committed. -/
def State.beginS4 (s : State) : State :=
  ((s.beginStep .s4).beginBudget 3).commitShutdown (if s.supply.compressed then 2 else 1) 0 s.supply.lossAt 1

/-- The test of R197, at the moment S4 would begin. -/
def State.toS4 (s : State) : State :=
  if s.anyPm then
    let k := s.supply.step.elim 0 stepNo
    (s.lossEnds).raise Ev.SU_SHUTDOWN_ABANDONED [.u8 k, .u8 (if s.pmGood 0 then 0 else 1)]
  else s.beginS4

/-- Power the loads of Table SU-8 that the attached contracts allow, in mW. -/
def SinkSt.mW (x : SinkSt) : Nat := if x.attached then x.volts * x.mA else 0
def State.svcPower (s : State) : Nat := max s.supply.sinks[(0 : CoreId)].mW s.supply.sinks[(1 : CoreId)].mW
/-- Loads code: 0 nothing, 1 the attached core and the panel target, 2 everything. -/
def svcLoads (mW : Nat) : Nat := if mW < 7000 then 0 else if mW < 18000 then 1 else 2

/-- The service loads follow the contracts, a running transition shedding all but its core (R202, R204). With a
feed GOOD the rail is fed from the power modules (R203). -/
def State.svcApply (s : State) : State :=
  let load := svcLoads s.svcPower
  let shed := s.supply.sinks[(0 : CoreId)].shed || s.supply.sinks[(1 : CoreId)].shed
  let fed (c : CoreId) : Bool :=
    !s.anyPm && (decide (7000 ≤ s.supply.sinks[c].mW) || (load == 2 && !shed))
  s.modSupply fun u => { u with
    svcPowered := Vector.ofFn fed, svcField := !s.anyPm && load == 2 && !shed,
    svcPanel := !s.anyPm && decide (1 ≤ load) && !shed }

/-- S7: loop relays, host rails and links, host claims; then OFF, or service-only operation where a contract of
7 W or more is attached (R207). -/
def State.beginS7 (s : State) : State :=
  let s1 := s.beginStep .s7
  let s2 := s1.each [(0 : CoreId), 1] fun s c => if s.doors.relays[c] then s.loopDrop c 1 else s
  let s3 := (s2.hostRailsOff.dropLinks 0).dropLinks 1
  let s4 := ((s3.loseClaims .p2 3).loseClaims .p4 3).modSupply fun u => { u with cleanOff := u.record.isSome }
  if 7000 ≤ s4.svcPower then
    let s5 := (s4.modSupply fun u => { u with serviceOnly := true, onStore := false, step := none }).svcApply
    let s6 := s5.each [(0 : CoreId), 1] fun s c => if s.supply.svcPowered[c] then s else s.coreOff c
    s6.raise Ev.SU_SVC_ONLY [.u8 1]
  else s4.frameOff

/-- A step has ended, and the next begins. -/
def State.endStep (s : State) : State :=
  match s.supply.step with
  | none => s
  | some .s1 => s.beginS2
  | some .s2 => if s.supply.compressed then s.toS4 else s.beginStep .s3
  | some .s3 => s.toS4
  | some .s4 => (((s.flushJournal.beginStep .s5).park).beginBudget 4).lastGasp 1
  | some .s5 => ((s.beginStep .s6).modSupply fun u => { u with padHold := true }).sendHold
  | some .s6 => s.beginS7
  | some .s7 => s

/-- No move runs and none is about to: S2 ends (Table SU-5, R234). The lock travel of a doorway in LOCKING and the stow
of a step are what S3 does (Tables SU-5 and SU-7, R225; log 111). -/
def State.s2Done (s : State) : Bool :=
  (List.finRange 4).all (fun a => match s.axes[a].plan with
      | some p => p.kind == .lockIn || p.kind == .stow
      | none => true)
    && !(s.doors.requests.any fun w => w.req.party == .sv)
    && s.enabledDoors.all fun d =>
      let l := s.doors.door[d].leaf
      l != .unlocking && !(l == .warn && s.param (0x4A7 + d.val) == 1 && !s.supply.compressed)

/-- Every closed doorway is locked and every step of a locked one stowed or in STEP_FAULT: S3 ends. -/
def State.s3Done (s : State) : Bool :=
  s.enabledDoors.all fun d =>
    let x := s.doors.door[d]
    x.leaf != .locking && (x.leaf != .closedLocked || !hasStep s.param d.val || x.step == .stowed || x.step == .stepFault)

/-- Both field modules and the load module, where in service, report hold active: S6 ends. -/
def State.holdReported (s : State) : Bool :=
  ([(0 : Fin 2), 1].all fun m =>
    !s.inService (fieldSlot m) || s.field.mods[m].views[s.activeCore].flags.getLsbD 3)
  && (!s.inService l0Slot || s.load.repFlags.getLsbD 3)

/-- S3's stow on the reserve (Table EN-2), and the steps that end by what the frame sees. -/
def State.shutdownTick (s : State) : State :=
  match s.supply.step with
  | some .s2 => if s.s2Done then s.endStep else s
  | some .s3 =>
    let s1 := if (List.finRange 4).any s.s3Stow then s.beginBudget 2 else s
    if s1.s3Done then s1.endStep else s1
  | some .s4 => if s.journalEmpty then s.endStep else s
  | some .s6 => if s.holdReported then s.endStep else s
  | _ => s

/-- SHUTDOWN_STEP_END. -/
def execShutdownStepEnd (s : State) : Host.Outcome State Fault Refusal := .next s.endStep

def State.inS1toS3 (s : State) : Bool :=
  s.supply.step == some .s1 || s.supply.step == some .s2 || s.supply.step == some .s3

/-- SHUTDOWN_CAP (R194): supply.shutdown.max after S1 began. -/
def State.shutdownCap (s : State) : State :=
  if s.inS1toS3 then
    let s1 := s.until (s.supply.s1At + s.param 0x483 * sec)
    ((s1.modSupply fun u => { u with capped := true }).raise Ev.SU_SHUTDOWN_CAP [.u8 (s.supply.step.elim 0 stepNo)]).toS4
  else s
def execShutdownCap (s : State) : Host.Outcome State Fault Refusal := .next s.shutdownCap

/-- LAST_ACTION (R218): the reserve is down to 180 J during S1 to S3. -/
def State.reserveEnds (s : State) : State :=
  if s.inS1toS3 then (s.modSupply fun u => { u with byReserve := true }).toS4 else s
def execLastAction (s : State) : Host.Outcome State Fault Refusal := .next s.reserveEnds

/-- LOSS_RIDE_EXPIRED (R193). -/
def execLossRideExpired (s : State) : Host.Outcome State Fault Refusal :=
  .next (if s.supply.onStore && s.supply.step.isNone && !s.anyPm then
      (s.until (s.supply.lossAt + s.param 0x482 * msec)).beginShutdown
    else s)

/-- HOST_HOLD_EXPIRED (R196). -/
def execHostHoldExpired (s : State) : Host.Outcome State Fault Refusal :=
  .next (if s.supply.step.isSome && !s.supply.hostRailsOff then
      (s.until (s.supply.s1At + s.param 0x484 * sec)).hostRailsOff
    else s)

/-- What the clock brings to a supply loss in a tick. -/
def State.lossTick (s : State) : State :=
  let s1 := if s.supply.onStore && s.supply.step.isNone && decide (s.param 0x482 * msec ≤ s.since s.supply.lossAt) then
      s.beginShutdown else s
  let s2 := if s1.supply.step.isSome && !s1.supply.hostRailsOff && decide (s.param 0x484 * sec ≤ s1.since s1.supply.s1At) then
      s1.hostRailsOff else s1
  let s3 := if s2.inS1toS3 && decide (s.param 0x483 * sec ≤ s2.since s2.supply.s1At) then s2.shutdownCap else s2
  let s4 := if s3.inService e0Slot && !s3.supply.compressed && decide (s3.energy.aboveFloor ≤ 180000) then s3.reserveEnds
    else s3
  s4.shutdownTick

/-! ### What a core sees of a feed (R187 to R189, R193) -/

/-- Judge the supply after a change: a loss is declared, or one ends, and the tiers follow. -/
def State.judgeSupply (s : State) (p : Fin 2) (was : Nat) : State :=
  let supplied := [(0 : Fin 2), 1].any fun q => s.inService (pmSlot q) && s.supply.pm[q].repFeed.supplied
  let runs := s.anyActive && s.power.state == .run && !s.supply.serviceOnly
  let s1 := if runs && !supplied && !s.supply.onStore then s.supplyLoss was
    else if s.supply.onStore && s.anyPm && s.supply.step.isNone then s.lossEnds else s
  (s1.judgeTiers p.val).svcApply

/-- The feeds that are supplied, as a mask. -/
def State.feedMask (s : State) : Nat :=
  Bool.nat s.supply.pm[(0 : Fin 2)].repFeed.supplied + 2 * Bool.nat s.supply.pm[(1 : Fin 2)].repFeed.supplied

/-- A core reads a new feed state of a power module. -/
def State.feedReported (s : State) (p : Fin 2) (new : Feed) (v : Int) : State :=
  let old := s.supply.pm[p].repFeed
  let was := s.feedMask
  let s1 := s.modPm p fun x => { x with repFeed := new, repVIn := v }
  if new == old || !s.coreReads then s1
  else
    let s2 := s1.raise Ev.SU_FEED_STATE [.u8 p.val, .u8 (feedCode old), .u8 (feedCode new), .u16 (unsigned 16 v)]
    let s3 := match new with
      | .reversed => s2.raise Ev.SU_FEED_REVERSED [.u8 p.val, .u16 (unsigned 16 v)]
      | .over => s2.raise Ev.SU_FEED_OVER [.u8 p.val, .u16 (unsigned 16 v)]
      | _ => s2
    let s4 := if old == .interrupted && new == .good then
        s3.raise Ev.SU_INTERRUPT_BRIDGED
          [.u8 p.val, .u8 (s.since s.supply.pm[p].interruptedAt / 100000), .u16 s.supply.pm[p].repVDrv]
      else s3
    s4.judgeSupply p was

/-- The module's own feed state changes, and a running core reads it. -/
def State.feedBecomes (s : State) (p : Fin 2) (new : Feed) (v : Int) : State :=
  let restart := new == .qualifying && !(s.aboveStart p s.supply.pm[p].vIn && s.aboveStart p v
    && s.supply.pm[p].feed == .qualifying)
  let s1 := s.modPm p fun x => { x with
    feed := new, vIn := v, band := x.band && new == .stopped,
    qualFrom := if restart then s.now else x.qualFrom,
    interruptedAt := if new == .interrupted && x.feed != .interrupted then s.now else x.interruptedAt }
  -- in SLEEP and DEEP a feed that leaves GOOD for STOPPED asserts WAKE_B (R248)
  let gone := s.supply.pm[p].feed.supplied && new == .stopped
  if s.coreReads then s1.feedReported p new v
  else if gone && s.asleep && s.power.state != .off then s1.beginWake s.power.state 0x4000
  else s1

/-- The voltage is beyond the absolute maximum of Table EL-1 (R432). -/
def State.feedOverstress (s : State) (p : Fin 2) (v : Int) : Bool := decide ((if s.pmHv p then 1750 else 800) < v.natAbs)

/-- POWER_MODULE_ENERGISED (R185 to R187): a feed between 0.62 Un and 0.72 Un stays STOPPED, with
SU_BAND_AT_START where a core observes it. -/
def execPowerModuleEnergised (p : Fin 2) (deciVolt : Int) (s : State) : Host.Outcome State Fault Refusal :=
  if s.feedOverstress p deciVolt then .fault .overstress
  else
    let s0 := s.modPm p fun x => { x with energised := true, feed := .stopped, vIn := 0, band := false }
    let band := !s0.aboveStart p deciVolt && !s0.belowStop p deciVolt
    let s1 := s0.feedBecomes p (s0.nextFeed p deciVolt) deciVolt
    let s2 := s1.modPm p fun x => { x with band := band }
    .next (if band && s.coreReads then
        s2.raise Ev.SU_BAND_AT_START [.u8 p.val, .u16 (unsigned 16 deciVolt), .u8 (s.unOf p)]
      else s2)

/-- FEED_CROSSING (Table SU-3). -/
def execFeedCrossing (p : Fin 2) (deciVolt : Int) (s : State) : Host.Outcome State Fault Refusal :=
  if s.feedOverstress p deciVolt then .fault .overstress
  else .next (s.feedBecomes p (s.nextFeed p deciVolt) deciVolt)

/-- FEED_QUALIFIED: 200 ms without a break at or above 0.72 Un. -/
def execFeedQualified (p : Fin 2) (s : State) : Host.Outcome State Fault Refusal :=
  let x := s.supply.pm[p]
  .next (if x.feed == .qualifying then
      (s.until (x.qualFrom + 200 * msec)).feedBecomes p .good x.vIn
    else s)

/-- FEED_INTERRUPT_END: 10 ms have passed. -/
def execFeedInterruptEnd (p : Fin 2) (s : State) : Host.Outcome State Fault Refusal :=
  let x := s.supply.pm[p]
  .next (if x.feed == .interrupted then
      (s.until (x.interruptedAt + 10 * msec)).feedBecomes p .stopped x.vIn
    else s)

/-- SHARE_FAULT (R190): sharing continues. -/
def execShareFault (share0 share1 : Nat) (s : State) : Host.Outcome State Fault Refusal :=
  .next (s.raise Ev.SU_SHARE_FAULT [.u8 share0, .u8 share1])

/-- Whether an overload report of a power module is due: the first, then one per second. -/
def State.overloadDue (s : State) (p : Fin 2) : Bool :=
  match s.supply.pm[p].overloadAt with
  | some t => decide (sec ≤ s.since t)
  | none => true

/-- SU_OVERLOAD (R191): once per second while a module is in current limit. -/
def execSuOverload (p : Fin 2) (pOut rail : Nat) (s : State) : Host.Outcome State Fault Refusal :=
  let due := s.overloadDue p
  let s1 := s.modPm p fun x => { x with currentLimit := true, overloadAt := if due then some s.now else x.overloadAt }
  .next (if due then s1.raise Ev.SU_OVERLOAD [.u8 p.val, .u16 pOut, .u8 rail] else s1)

/-- A fault code of a power module (R208): the module is treated as lost. -/
def State.pmFaultOn (s : State) (p : Fin 2) (code : Nat) : State :=
  if s.supply.pm[p].fault.toNat = code then s
  else
    let was := s.feedMask
    let s1 := (s.modPm p fun x => { x with fault := BitVec.ofNat 8 code }).modSlot (pmSlot p) fun x =>
      { x with fault := some code }
    let s2 := (s1.raise Ev.FR_MODULE_FAULT [.u8 p.val, .u8 code]).raise Ev.SU_PM_FAULT [.u8 p.val, .u8 code]
    (s2.takeOut (pmSlot p)).judgeSupply p was

/-! ### Service ports (R201 to R207) -/

/-- The contract of R202: the highest offered voltage among 20, 15, 9 and 5 V up to svc.pd.max_v, at the highest
current offered there, up to 3 A; without Power Delivery 5 V at the advertised Type-C current. -/
def State.contract (s : State) (pd : Bool) (offers : List (Nat × Nat)) (typeC : Nat) : Nat × Nat :=
  let usable := offers.filter fun o => [20, 15, 9, 5].contains o.1 && decide (o.1 ≤ s.param 0x487)
  let v := usable.foldl (fun n o => max n o.1) 0
  if pd && v != 0 then
    (v, min 3000 ((usable.filter fun o => o.1 == v).foldl (fun n o => max n o.2) 0))
  else (5, min 3000 typeC)

/-- Cores that the service rail newly powers begin to start. -/
def State.svcCores (s : State) : State :=
  s.each [(0 : CoreId), 1] fun s c =>
    if s.supply.svcPowered[c] && !s.pair.core[c].present && !s.pair.core[c].faulted then
      s.modCore c fun x => { x with present := true, listenFrom := some s.now }
    else s

/-- SVC_ATTACH. -/
def execSvcAttach (core : CoreId) (pd : Bool) (offers : List (Nat × Nat)) (typeC : Nat) (s : State) :
    Host.Outcome State Fault Refusal :=
  let k := s.contract pd offers typeC
  let s1 := (s.modSink core fun x => { x with
    attached := true, volts := k.1, mA := k.2, transition := false, shed := false, readyAt := none }).svcApply
  let load := svcLoads (k.1 * k.2)
  let s2 := if !s.anyActive && !s.anyPm && load != 0 then
      (s1.modSupply fun u => { u with serviceOnly := true }).svcCores else s1.svcCores
  .next (if load = 0 then
      (if s.anyActive then s2.raise Ev.SU_SVC_INSUFFICIENT [.u8 core.val, .u32 (k.1 * k.2)] else s2)
    else s2.raise Ev.SU_SVC_ATTACH [.u8 core.val, .u8 k.1, .u16 k.2, .u8 load])

/-- SVC_TRANSITION_ACCEPT (R204): every service load but the attached core is switched off. -/
def execSvcTransitionAccept (core : CoreId) (volts : Nat) (s : State) : Host.Outcome State Fault Refusal :=
  .next (if s.supply.sinks[core].attached then
      (s.modSink core fun x => { x with transition := true, newVolts := volts, shed := true, readyAt := none }).svcApply
    else s)

/-- SVC_PS_RDY ends the transition; the loads return 10 ms later. -/
def execSvcPsRdy (core : CoreId) (s : State) : Host.Outcome State Fault Refusal :=
  .next (if s.supply.sinks[core].transition then
      s.modSink core fun x => { x with transition := false, readyAt := some s.now }
    else s)

/-- SVC_LOADS_RETURN. -/
def State.loadsReturn (s : State) (core : CoreId) : State :=
  match s.supply.sinks[core].readyAt with
  | none => s
  | some t =>
    let old := s.supply.sinks[core]
    let s1 := ((s.until (t + 10 * msec)).modSink core fun x => { x with
      volts := x.newVolts, shed := false, readyAt := none }).svcApply
    s1.svcCores.raise Ev.SU_SVC_TRANSITION [.u8 core.val, .u8 old.volts, .u8 old.newVolts]
def execSvcLoadsReturn (core : CoreId) (s : State) : Host.Outcome State Fault Refusal := .next (s.loadsReturn core)

/-- The contract of a port is gone (R206), and with it its session. -/
def State.svcGone (s : State) (core : CoreId) : State :=
  ((s.modSink core fun _ => {}).endSession core 2).svcApply

/-- The brown-out path of one core (R205): its journal is committed, and it enters OFF. -/
def State.brownout (s : State) (core : CoreId) : State :=
  let s1 := s.raise Ev.SU_SVC_BROWNOUT [.u8 core.val, .u8 s.supply.sinks[core].volts]
  let s2 := ((s1.commitShutdown 3 0 s.now 1).flushJournal.lastGasp 2).svcGone core
  let other := otherCore core
  let s3 := s2.modSupply fun u => { u with cleanOff := false }
  if s3.supply.svcPowered[other] && s3.pair.core[other].present then s3.coreOff core
  else (s3.frameOff).modSupply fun u => { u with serviceOnly := false }

/-- VBUS of a core's port is gone. -/
def State.vbusLost (s : State) (core : CoreId) : State :=
  if !s.supply.sinks[core].attached then s
  else if s.anyPm then s.svcGone core
  else
    -- a core still fed through the rail from another attached port does not take the path
    let other := s.supply.sinks[otherCore core]
    let fedByOther := svcLoads other.mW == 2 && !other.shed
    if !s.pair.core[core].present || fedByOther then s.svcGone core else s.brownout core

/-- SVC_BROWNOUT: VBUS below 4.4 V for 20 us. -/
def execSvcBrownout (core : CoreId) (s : State) : Host.Outcome State Fault Refusal := .next (s.vbusLost core)

/-- SVC_DETACH (R206). -/
def execSvcDetach (core : CoreId) (s : State) : Host.Outcome State Fault Refusal :=
  .next (if s.supply.sinks[core].attached then
      (if s.anyPm then (s.svcGone core).raise Ev.SU_SVC_DETACH [.u8 core.val] else s.vbusLost core)
    else s)

/-- PD_HARD_RESET (R204, R205): a transition, during which VBUS goes to vSafe0V. -/
def execPdHardReset (core : CoreId) (s : State) : Host.Outcome State Fault Refusal :=
  .next (if !s.supply.sinks[core].attached then s
    else if s.anyPm then
      (s.endSession core 2).modSink core fun x => { x with transition := true, newVolts := 5, shed := true, readyAt := none }
    else s.vbusLost core)

/-! ### What the core does for the supply in each tick -/

/-- Commands to the power modules (Table SU-9). A mismatched module keeps its output while no other is GOOD
(R192). -/
def State.supplyCommands (s : State) : State :=
  s.each [(0 : Fin 2), 1] fun s p =>
    let q : Fin 2 := if p = 0 then 1 else 0
    let held := s.frame.slots[pmSlot p].heldOut.isSome
    let leaving := match s.frame.slots[pmSlot p].removal with
      | some (.running _) => true
      | _ => false
    s.modPm p fun x => { x with outputCmd := !held || !s.pmGood q, shedCmd := leaving }

end Sys2Proof.Machine
end

