-- ==== Sys2Proof/Machine/Host.lean ====
section
/-!
DEFINITION. Host slots and descriptor rings, chapter 12: ring set-up (R290 to R292), doorbells and the shadow area
(R293, R294), lay-by and back-pressure (R300 to R305), host memory errors (R306), the general opcodes (R307), the
parameter opcodes (R309) and the PCIe links (R60).
-/

namespace Sys2Proof.Machine

/-! ### Layouts (Tables HR-13, HR-14a, HR-10) -/

/-- A completion as written (Table HR-13). -/
def Completion.bytes (c : Completion) : List Byte :=
  leBytes 2 (c.opcode.toNat + 32768 * Bool.nat c.phase) ++ [c.status] ++ leBytes 1 c.sq.toNat ++ leBytes 4 c.hseq.toNat
    ++ leBytes 4 c.dseq.toNat ++ leBytes 2 c.sqHead
    ++ leBytes 1 (Bool.nat c.replay + 2 * Bool.nat c.viaLayby + 4 * c.core.toNat) ++ [0]
    ++ leBytes 4 c.detail.toNat ++ slice c.result 0 12

/-- An event as written (Table HR-14a). -/
def Event.bytes (e : Event) : List Byte :=
  leBytes 2 (e.code.toNat + 32768 * Bool.nat e.phase) ++ leBytes 1 (e.core.toNat + 2 * Bool.nat e.viaLayby) ++ [0]
    ++ leBytes 4 e.dseq.toNat ++ leBytes 4 e.hseqMark.toNat ++ leBytes 8 e.stamp ++ leBytes 4 e.err ++ slice e.data 0 8

/-- The status block (Table HR-10). -/
def State.statusBlock (s : State) (p : HostPort) : List Byte :=
  let t := s.ports[hostPort p]
  leBytes 4 1 ++ leBytes 1 p.val ++ leBytes 1 s.activeCore.val
    ++ leBytes 1 (Bool.nat t.running + 2 * Bool.nat t.fetchStopped + 4 * Bool.nat (s.pair.standby == .inStep)) ++ [0]
    ++ leBytes 4 t.hseqConsumed.toNat ++ leBytes 4 t.dseqNext.toNat ++ leBytes 4 t.evDropped.toNat
    ++ leBytes 2 t.laybyCq.length ++ leBytes 2 t.laybyEv.length ++ leBytes 4 t.writeCount.toNat ++ leBytes 4 0
    ++ (t.sq.toList.flatMap fun r => leBytes 2 r.dev) ++ (t.sqLastHseq.toList.flatMap fun h => leBytes 4 h.toNat)
    ++ (t.cq.toList.flatMap fun r => leBytes 2 r.dev) ++ leBytes 2 t.evq.dev ++ List.replicate 6 0
    ++ leBytes 8 s.tai ++ s.setHash.take 16

/-! ### Doorbells (R293, R294) -/

/-- Number of a ring in HR_RING_ERROR: submission q, completion 16 + q, event ring 32 (log 17). -/
def ringErrorNo (kind q : Nat) : Nat := 16 * kind + q

/-- A value refused: the ring stops with its reason (R293). -/
def State.refuseIndex (s : State) (p : HostPort) (f : PortSt → PortSt) (ring reason : Nat) : State :=
  (s.modPort (hostPort p) fun t => let u := f t; { u with error := u.error ||| 0x20 }).raise Ev.HR_RING_ERROR
    [.u8 p.val, .u8 ring, .u8 reason]

def Ring.stop (r : Ring) (reason : Nat) : Ring := { r with error := true, reason := BitVec.ofNat 3 reason }

/-- What a new index does: 0 nothing, 1 it is taken, 2 refused as out of range, 3 refused as too far ahead. The
index must lie ahead of the one held and no more than `room` ahead of `from_` (R293). -/
def indexVerdict (size from_ held room t : Nat) : Nat :=
  if size ≤ t then 2
  else if t = held then 0
  else
    let new := (t + size - from_) % size
    let old := (held + size - from_) % size
    if old < new ∧ new ≤ room then 1 else 3

/-- A submission tail. -/
def State.takeTail (s : State) (p : HostPort) (q : Fin 16) (t : Nat) : State :=
  let r := s.ports[hostPort p].sq[q]
  if !r.enabled || r.error then s
  else match indexVerdict r.size r.dev r.host (r.size - 1) t with
    | 0 => s
    | 1 => s.modPort (hostPort p) fun x => { x with sq := updV x.sq q fun r => { r with host := t } }
    | k => s.refuseIndex p (fun x => { x with sq := updV x.sq q fun r => r.stop (k - 1) }) (ringErrorNo 0 q.val) (k - 1)

/-- A completion head: the host returns entries up to it. -/
def State.takeCqHead (s : State) (p : HostPort) (q : Fin 16) (h : Nat) : State :=
  let r := s.ports[hostPort p].cq[q]
  let unread := (r.dev + r.size - r.host) % r.size
  if !r.enabled || r.error then s
  else match indexVerdict r.size r.host r.host unread h with
    | 0 => s
    | 1 => s.modPort (hostPort p) fun x => { x with
        cq := updV x.cq q fun r => { r with host := h },
        cqEntries := updV x.cqEntries q fun l => l.drop ((h + r.size - r.host) % r.size) }
    | k => s.refuseIndex p (fun x => { x with cq := updV x.cq q fun r => r.stop (k - 1) }) (ringErrorNo 1 q.val) (k - 1)

/-- The event ring head. -/
def State.takeEvqHead (s : State) (p : HostPort) (h : Nat) : State :=
  let r := s.ports[hostPort p].evq
  let unread := (r.dev + r.size - r.host) % r.size
  if !r.enabled || r.error then s
  else match indexVerdict r.size r.host r.host unread h with
    | 0 => s
    | 1 => s.modPort (hostPort p) fun x => { x with
        evq := { x.evq with host := h }, evqEntries := x.evqEntries.drop ((h + r.size - r.host) % r.size) }
    | k => s.refuseIndex p (fun x => { x with evq := x.evq.stop (k - 1) }) (ringErrorNo 2 0) (k - 1)

/-- A doorbell written to the standby's window is ignored and counted; HR_DOORBELL_STANDBY comes at most once per
second (R294). -/
def State.standbyDoorbell (s : State) (p : HostPort) : State :=
  let t := s.ports[hostPort p]
  let due : Bool := t.standbyRaisedAt.elim true fun at_ => decide (sec ≤ s.since at_)
  if due then
    (s.modPort (hostPort p) fun x => { x with standbyDoorbells := 0, standbyRaisedAt := some s.now }).raise
      Ev.HR_DOORBELL_STANDBY [.u8 p.val, .u16 (t.standbyDoorbells + 1)]
  else s.modPort (hostPort p) fun x => { x with standbyDoorbells := x.standbyDoorbells + 1 }

/-- A write of the host reaches a core's window; only the active core's acts (R268). -/
def State.doorbell (s : State) (p : HostPort) (core : CoreId) (f : State → State) : State :=
  if core = s.activeCore then f s else s.standbyDoorbell p

def execSqTailDoorbell (p : HostPort) (core : CoreId) (q : Fin 16) (t : BitVec 32) (s : State) :
    Host.Outcome State Fault Refusal := .next (s.doorbell p core fun s => s.takeTail p q t.toNat)

def execCqHeadDoorbell (p : HostPort) (core : CoreId) (q : Fin 16) (h : BitVec 32) (s : State) :
    Host.Outcome State Fault Refusal := .next (s.doorbell p core fun s => s.takeCqHead p q h.toNat)

def execEvqHeadDoorbell (p : HostPort) (core : CoreId) (h : BitVec 32) (s : State) :
    Host.Outcome State Fault Refusal := .next (s.doorbell p core fun s => s.takeEvqHead p h.toNat)

/-- The whole shadow area is read (R294, Table HR-9); indexes lie in bits 11 to 0. -/
def State.readShadow (s : State) (p : HostPort) (area : List Byte) : State :=
  let at_ (o : Nat) : Nat := bits (u32At area o) 0 12
  let s1 := s.each (List.finRange 16) fun s q => s.takeTail p q (at_ (4 * q.val))
  let s2 := s1.each (List.finRange 16) fun s q => s.takeCqHead p q (at_ (0x40 + 4 * q.val))
  s2.takeEvqHead p (at_ 0x80)

/-- SHADOW_POLL: a read that fails sets PORT_ERROR.shadow_read. -/
def execShadowPoll (p : HostPort) (area : Option (List Byte)) (s : State) : Host.Outcome State Fault Refusal :=
  .next (match area with
    | none => s.modPort (hostPort p) fun t => { t with error := t.error ||| 2 }
    | some a => if s.ports[hostPort p].running then s.readShadow p a else s)

/-! ### Lay-by (R300, R302, R304) -/

/-- The port can reserve a place for a completion of ring `q` (R300). -/
def PortSt.canReserve (t : PortSt) (own : Bool) (q : Fin 16) : Bool :=
  decide (t.cq[q].reserved < t.cqRoom own q) || decide (t.laybyCq.length + t.laybyReserved < 64)

/-- Completions of the lay-by go to their rings, oldest first; one waits while an older one of its ring does. -/
def PortSt.drainCq (own : Bool) (now : Nat) : List Completion → List Completion → PortSt → PortSt
  | [], kept, t => { t with laybyCq := kept }
  | c :: cs, kept, t =>
    let q : Fin 16 := ⟨c.cq.toNat, by have := c.cq.isLt; omega⟩
    if decide (0 < t.cqRoom own q) && !(kept.any fun k => k.cq == c.cq) then
      PortSt.drainCq own now cs kept (t.putCompletion own now c)
    else PortSt.drainCq own now cs (kept ++ [c]) t

def PortSt.drainEv (own : Bool) (now : Nat) : List Event → PortSt → PortSt
  | [], t => { t with laybyEv := [] }
  | e :: es, t => if 0 < t.evRoom own then PortSt.drainEv own now es (t.putEvent own now e) else { t with laybyEv := e :: es }

/-- LAYBY_DRAIN: entries go to the rings that have room; HR_LAYBY at a change. -/
def State.drainLayby (s : State) (p : PortId) : State :=
  let own := ownRings p
  let t := s.ports[p]
  if !t.running then s
  else
    let s1 := s.modPort p fun t =>
      let u := PortSt.drainEv own s.now t.laybyEv (PortSt.drainCq own s.now t.laybyCq [] t)
      { u with fetchStopped := u.fetchStopped && !((List.finRange 16).any fun q => u.canReserve own q) }
    s1.noteLayby p

def execLaybyDrain (p : PortId) (s : State) : Host.Outcome State Fault Refusal := .next (s.drainLayby p)

/-- EVENTS_DROPPED_REPORT (R302): the event ring has room again after drops. -/
def State.reportDropped (s : State) (p : PortId) : State :=
  let t := s.ports[p]
  if t.running && decide (0 < t.dropRun) && decide (0 < t.evRoom (ownRings p)) && t.laybyEv.isEmpty then
    (s.modPort p fun t => { t with dropRun := 0 }).raise Ev.HR_EVENTS_DROPPED
      [.u8 (portNum p), .u32 t.dropFirst.toNat, .u16 (min 65535 t.dropRun)]
  else s

def execEventsDroppedReport (p : PortId) (s : State) : Host.Outcome State Fault Refusal := .next (s.reportDropped p)

/-! ### Set-up registers (R290 to R292, Tables HR-3 to HR-8) -/

/-- Writes reach only the active core's window (R268). -/
def State.setUpWrite (s : State) (core : CoreId) (f : State → State) : State := if core = s.activeCore then f s else s

def State.portError (s : State) (p : HostPort) (bit : Nat) : State :=
  s.modPort (hostPort p) fun t => { t with error := t.error ||| BitVec.ofNat 6 (2 ^ bit) }

/-- A ring's set-up may be enabled (R292): its size, its base and its reserved fields. -/
def cfgGood (submission : Bool) (base : BitVec 64) (v : Nat) : Bool :=
  inRange 4 12 (bits v 0 4) && base.toNat % 4096 == 0 && bits v 27 5 == 0
    && (if submission then bits v 6 21 == 0 else bits v 5 1 == 0)

/-- A write to a ring's configuration (R290): nothing but enable while it is enabled; setting enable resets it. -/
def Ring.write (r : Ring) (good : Bool) (v : BitVec 32) : Ring :=
  if r.enabled then (if v.getLsbD 4 then r else { r with cfg := r.cfg &&& ~~~0x10 })
  else if v.getLsbD 4 && good then
    { r with cfg := v, dev := 0, host := 0, error := false, reason := 0, phase := true, unsignalled := 0, firstUnsignalled := 0 }
  else { r with cfg := v &&& 0x07FFFFEF }

/-- RING_CFG_WRITE: EVQ_CFG, or RING_CFG of the ring RING_SEL selects. -/
def State.writeRingCfg (s : State) (p : HostPort) (evq : Bool) (v : BitVec 32) : State :=
  let t := s.ports[hostPort p]
  let sel := bits t.ringSel.toNat 0 4
  let q : Fin 16 := ⟨sel, by unfold sel bits; omega⟩
  let submission := !evq && !t.ringSel.getLsbD 4
  let old := if evq then t.evq else if submission then t.sq[q] else t.cq[q]
  let good := cfgGood submission old.base v.toNat && (!submission || t.cq[(0 : Fin 16)].enabled)
  let new := old.write good v
  let starts := !old.enabled && new.enabled
  let s1 := s.modPort (hostPort p) fun t =>
    if evq then { t with evq := new, evqEntries := if starts then [] else t.evqEntries }
    else if submission then { t with sq := t.sq.set q new }
    else { t with cq := t.cq.set q new,
                  cqEntries := if starts then t.cqEntries.set q [] else t.cqEntries }
  if !old.enabled && v.getLsbD 4 && !good then s1.portError p 4 else s1

def execRingCfgWrite (p : HostPort) (core : CoreId) (evq : Bool) (v : BitVec 32) (s : State) :
    Host.Outcome State Fault Refusal := .next (s.setUpWrite core fun s => s.writeRingCfg p evq v)

/-- What enable needs (R291). -/
def PortSt.mayRun (t : PortSt) : Bool :=
  t.statusBase != 0 && t.shadowBase != 0 && t.evq.base != 0 && t.evq.enabled && t.cq[(0 : Fin 16)].enabled

/-- PORT_CTRL with enable set (R291, R304): the lay-by buffers come before HR_PORT_UP. -/
def State.enablePort (s : State) (p : HostPort) (v : BitVec 32) : State :=
  let k := hostPort p
  let t := s.ports[k]
  if t.running then s.modPort k fun t => { t with ctrl := v &&& 7 }
  else if t.mayRun then
    let s1 := (s.modPort k fun t => { t with ctrl := v &&& 7, running := true, up := true, statusWrites := 1 }).drainLayby k
    s1.raise Ev.HR_PORT_UP [.u8 p.val, .u8 s.activeCore.val]
  else (s.modPort k fun t => { t with ctrl := v &&& 6 }).portError p 4

/-- PORT_CTRL with enable cleared (R304). -/
def State.disablePort (s : State) (p : HostPort) (v : BitVec 32) : State :=
  (s.modPort (hostPort p) fun t => { t with ctrl := v &&& 6 }).stopPort (hostPort p) 1

def execPortEnable (p : HostPort) (core : CoreId) (v : BitVec 32) (s : State) : Host.Outcome State Fault Refusal :=
  .next (s.setUpWrite core fun s => s.enablePort p (v ||| 1))

def execPortDisable (p : HostPort) (core : CoreId) (v : BitVec 32) (s : State) : Host.Outcome State Fault Refusal :=
  .next (s.setUpWrite core fun s => s.disablePort p v)

/-- Replace the low or the high word of an address register. -/
def setLo (b : BitVec 64) (v : BitVec 32) : BitVec 64 := BitVec.ofNat 64 (b.toNat / 2 ^ 32 * 2 ^ 32 + v.toNat)
def setHi (b : BitVec 64) (v : BitVec 32) : BitVec 64 := BitVec.ofNat 64 (b.toNat % 2 ^ 32 + v.toNat * 2 ^ 32)

/-- Change the base of a ring that is not enabled (R290). -/
def Ring.setBase (r : Ring) (f : BitVec 64 → BitVec 64) : Ring := if r.enabled then r else { r with base := f r.base }

def PortSt.setRingBase (t : PortSt) (f : BitVec 64 → BitVec 64) : PortSt :=
  let sel := bits t.ringSel.toNat 0 4
  let q : Fin 16 := ⟨sel, by unfold sel bits; omega⟩
  if t.ringSel.getLsbD 4 then { t with cq := updV t.cq q fun r => r.setBase f }
  else { t with sq := updV t.sq q fun r => r.setBase f }

/-- The plain registers of Table HR-3; a read-only or reserved offset takes no write, and reserved bits none (R13). -/
def PortSt.writeReg (t : PortSt) (o : Nat) (v : BitVec 32) : PortSt :=
  match o with
  | 0x010 => { t with error := t.error &&& ~~~(v.setWidth 6) }
  | 0x014 => { t with evFilter := v.setWidth 15 }
  | 0x018 => { t with statusBase := setLo t.statusBase v }
  | 0x01C => { t with statusBase := setHi t.statusBase v }
  | 0x020 => { t with shadowBase := setLo t.shadowBase v }
  | 0x024 => { t with shadowBase := setHi t.shadowBase v }
  | 0x028 => { t with evq := t.evq.setBase fun b => setLo b v }
  | 0x02C => { t with evq := t.evq.setBase fun b => setHi b v }
  | 0x048 => { t with ringSel := v.setWidth 5 }
  | 0x04C => t.setRingBase fun b => setLo b v
  | 0x050 => t.setRingBase fun b => setHi b v
  | _ => t

/-! ### Interrupts and host memory errors (R305, R306) -/

/-- Entries not yet signalled become one MSI-X message, while messages are permitted. -/
def State.msix (s : State) (p : HostPort) (ring : Option (Fin 16)) : State :=
  let t := s.ports[hostPort p]
  let n := match ring with
    | some q => t.cq[q].unsignalled
    | none => t.evq.unsignalled
  if n = 0 || !t.ctrl.getLsbD 1 then s
  else s.modPort (hostPort p) fun t => match ring with
    | some q => { t with msix := t.msix + 1, cq := updV t.cq q fun r => { r with unsignalled := 0 } }
    | none => { t with msix := t.msix + 1, evq := { t.evq with unsignalled := 0 } }

def execMsixMessage (p : HostPort) (ring : Option (Fin 16)) (s : State) : Host.Outcome State Fault Refusal :=
  .next (s.msix p ring)

/-- A message is due: coal_count entries (0 and 1 meaning each), or coal_time since the first (R305). -/
def Ring.messageDue (r : Ring) (now : Nat) : Bool :=
  r.unsignalled != 0 && (decide (max 1 (bits r.cfg.toNat 11 8) ≤ r.unsignalled)
    || decide (bits r.cfg.toNat 19 8 * 10000 ≤ now - r.firstUnsignalled))

def State.msixTick (s : State) (p : HostPort) : State :=
  let s1 := s.each (List.finRange 16) fun s q =>
    if s.ports[hostPort p].cq[q].messageDue s.now then s.msix p (some q) else s
  if s1.ports[hostPort p].evq.messageDue s1.now then s1.msix p none else s1

/-- A failed write stops the port as a cleared enable does (R306). -/
def State.writeFailed (s : State) (p : HostPort) (bit : Nat) : State :=
  let s1 := s.portError p bit
  (s1.raise Ev.HR_DMA_ERROR [.u8 p.val, .u8 s1.ports[hostPort p].error.toNat]).disablePort p s1.ports[hostPort p].ctrl

/-- DMA_ERROR: a completion or event whose write failed is kept in the lay-by; a failed buffer read completes its
own descriptor ST_DMA. -/
def execDmaError (p : HostPort) (kind : DmaKind) (s : State) : Host.Outcome State Fault Refusal :=
  let k := hostPort p
  .next (match kind with
    | .descriptor q => (s.modPort k fun t => { t with sq := updV t.sq q fun r => r.stop 3 }).raise Ev.HR_RING_ERROR
        [.u8 p.val, .u8 (ringErrorNo 0 q.val), .u8 3]
    | .buffer => s
    | .completion q =>
      (s.modPort k fun t => { t with
        laybyCq := t.cqEntries[q].getLast?.toList ++ t.laybyCq,
        cqEntries := updV t.cqEntries q List.dropLast, cq := updV t.cq q fun r => r.stop 4 }).writeFailed p 2
    | .event =>
      (s.modPort k fun t => { t with
        laybyEv := t.evqEntries.getLast?.toList ++ t.laybyEv, evqEntries := t.evqEntries.dropLast,
        evq := t.evq.stop 4 }).writeFailed p 3
    | .status => s.writeFailed p 0
    | .shadow => s.portError p 1)

/-! ### Links and power (R60, R287) -/

/-- PCIE_LINK_CHANGE: the link trains up to hr.link.gen_max or drops; with both links down the port goes down. -/
def State.linkChange (s : State) (p : HostPort) (core : CoreId) (isUp : Bool) (gen : BitVec 3) : State :=
  let k := hostPort p
  let g := if isUp then BitVec.ofNat 3 (min gen.toNat (s.param 0x051)) else 0
  let t := s.ports[k]
  if t.links[core] == isUp && t.gens[core] == g then s
  else
    let s1 := (s.modPort k fun t => { t with links := updV t.links core fun _ => isUp, gens := updV t.gens core fun _ => g }).raise
      Ev.HR_LINK [.u8 p.val, .u8 core.val, item8 isUp, .u8 (if isUp then g else t.gens[core]).toNat]
    let u := s1.ports[k]
    if u.links[(0 : CoreId)] || u.links[(1 : CoreId)] then s1 else s1.bothLinksDown p 2

def execPcieLinkChange (p : HostPort) (core : CoreId) (isUp : Bool) (gen : BitVec 3) (s : State) :
    Host.Outcome State Fault Refusal := .next (s.linkChange p core isUp gen)

/-- HOST_POWER_TRIP (R287): the rail latches off, and with it the card and its links. -/
def execHostPowerTrip (p : HostPort) (mA : Nat) (s : State) : Host.Outcome State Fault Refusal :=
  .next (if s.ports[hostPort p].h12Tripped then s
    else
      let s1 := (s.modPort (hostPort p) fun t => { t with h12On := false, h12Tripped := true }).modSlot (hostSlot p)
        fun x => { x with railsOn := false, inService := false }
      ((s1.raise Ev.HR_HOST_POWER [.u8 p.val, .u16 mA]).dropLinks p).judgeTiers (hostSlot p).val)

/-! ### General opcodes (R307) -/

/-- OP_COMPLETION_REPLAY (R303): kept completions of the range are written again, oldest first, while the ring has
room that is not reserved. -/
def State.doReplay (s : State) (r : Req) (first : BitVec 32) (count ring : Nat) : State :=
  let oc := Opc.OP_COMPLETION_REPLAY
  if count = 0 ∨ 256 < count then s.fail r oc ST_RANGE (argOff 20)
  else match asFin 16 ring, portOf r.party with
  | some q, some p =>
    let own := ownRings p
    let t := s.ports[p]
    if own && q != 0 || !own && !t.cq[q].enabled then s.fail r oc ST_RANGE (argOff 22)
    else
      let wanted := (t.kept.filter fun c => decide ((c.hseq - first).toNat < count)).reverse
      let room := t.cqRoom own q - t.cq[q].reserved
      let out := (wanted.take room).map fun c =>
        { c with replay := true, cq := BitVec.ofNat 4 q.val, noIrq := false }
      (s.modPort p fun t => out.foldl (fun t c => t.putCompletion own s.now c) t).ok r oc (leBytes 2 out.length)
  | _, _ => s.fail r oc ST_RANGE (argOff 22)

def execOpCompletionReplay (r : Req) (first : BitVec 32) (count : Nat) (ring : Nat) (s : State) :
    Host.Outcome State Fault Refusal := .next (s.doReplay r first count ring)

def State.doNop (s : State) (r : Req) : State := s.ok r Opc.OP_NOP []
def execOpNop (r : Req) (s : State) : Host.Outcome State Fault Refusal := .next (s.doNop r)

/-- OP_HEARTBEAT: on P2 it keeps the port up and asks for its status (R333). -/
def State.doHeartbeat (s : State) (r : Req) : State :=
  (if r.party = .p2 then s.modCan fun c => { c with p2Beat := s.now, p2Status := c.p2Status + 1 } else s).ok r
    Opc.OP_HEARTBEAT []
def execOpHeartbeat (r : Req) (s : State) : Host.Outcome State Fault Refusal := .next (s.doHeartbeat r)

/-- Copy data into the host buffer a request names. -/
def State.copyOut (s : State) (r : Req) (data : List Byte) : State :=
  match portOf r.party with
  | some p => s.modPort p fun t => { t with lastBuf := data }
  | none => s

/-! ### Parameters (R309, R423) -/

/-- OP_PARAM_READ: the range of indices, and a buffer of 4 × count bytes. -/
def State.doParamRead (s : State) (r : Req) (first count : Nat) : State :=
  let oc := Opc.OP_PARAM_READ
  if paramCount ≤ first then s.fail r oc ST_RANGE (argOff 16)
  else if count = 0 ∨ paramCount < first + count then s.fail r oc ST_RANGE (argOff 18)
  else if r.bufLen ≠ 4 * count then s.fail r oc ST_RANGE (argOff 32)
  else (s.copyOut r ((List.range count).flatMap fun i => leBytes 4 (s.param (first + i)))).ok r oc []

def execOpParamRead (r : Req) (first count : Nat) (s : State) : Host.Outcome State Fault Refusal :=
  .next (s.doParamRead r first count)

/-- The whole set is checked; an accepted one is written to both MRAM copies (R309). -/
def State.checkSet (s : State) (ps : List (Nat × Nat)) : Option Nat := firstOffence (paramGet ps) s.tables s.hasCustom
def State.takeSet (s : State) (r : Req) (oc : BitVec 15) (ps : List (Nat × Nat)) : State :=
  let s1 := { s with params := ps, paramsValid := .replicate 2 true }
  s1.ok r oc (s1.setHash.take 12)

/-- Entries of OP_PARAM_WRITE that name a reserved index, one outside the set, or one twice (R423). -/
def badEntries (es : List (Nat × Nat)) : List Nat :=
  let named := es.map (·.1)
  named.filter fun i => decide (paramCount ≤ i) || isReservedParam i || decide (1 < named.count i)

/-- OP_PARAM_WRITE. -/
def State.doParamWrite (s : State) (r : Req) (es : List (Nat × Nat)) : State :=
  let oc := Opc.OP_PARAM_WRITE
  if es.isEmpty ∨ 5 < es.length then s.fail r oc ST_RANGE (argOff 16)
  else if s.notOwner r .paramSet then s.failOwner r oc .paramSet
  else match (badEntries es).min? with
  | some i => s.fail r oc ST_RANGE i
  | none =>
    let ps := es.foldl (fun l e => paramPut l e.1 e.2) s.params
    match s.checkSet ps with
    | some i => s.fail r oc ST_RANGE i
    | none => s.takeSet r oc ps

def execOpParamWrite (r : Req) (entries : List (Nat × Nat)) (s : State) : Host.Outcome State Fault Refusal :=
  .next (s.doParamWrite r entries)

/-- OP_PARAM_SET_LOAD: the CRC-32 first, then every rule. -/
def State.doParamSetLoad (s : State) (r : Req) : State :=
  let oc := Opc.OP_PARAM_SET_LOAD
  if r.bufLen ≠ 6148 then s.fail r oc ST_RANGE (argOff 32)
  else if s.notOwner r .paramSet then s.failOwner r oc .paramSet
  else match r.buf with
  | none => s.fail r oc ST_DMA 24
  | some bs =>
    if (crc32 (slice bs 0 6144)).toNat ≠ u32At bs 6144 then s.fail r oc ST_RANGE (0xC000 + 6144)
    else
      let ps := paramsFrom 0 ((List.range paramCount).map fun i => u32At bs (4 * i))
      match s.checkSet ps with
      | some i => s.fail r oc ST_RANGE i
      | none => s.takeSet r oc ps

def execOpParamSetLoad (r : Req) (s : State) : Host.Outcome State Fault Refusal := .next (s.doParamSetLoad r)

/-- OP_PARAM_SET_READ: the 6,144 value bytes and their CRC-32. -/
def State.doParamSetRead (s : State) (r : Req) : State :=
  let oc := Opc.OP_PARAM_SET_READ
  if r.bufLen ≠ 6148 then s.fail r oc ST_RANGE (argOff 32)
  else (s.copyOut r (s.setBytes ++ leBytes 4 (crc32 s.setBytes).toNat)).ok r oc []

def execOpParamSetRead (r : Req) (s : State) : Host.Outcome State Fault Refusal := .next (s.doParamSetRead r)

/-- OP_IO_READ (Table HR-15). -/
def State.doIoRead (s : State) (r : Req) : State :=
  s.ok r Opc.OP_IO_READ (([(0 : Fin 2), 1].flatMap fun m => leBytes 4 s.field.mods[m].views[s.activeCore].value.toNat)
    ++ leBytes 2 s.load.repOn.toNat ++ leBytes 2 s.load.repFault.toNat)

def execOpIoRead (r : Req) (s : State) : Host.Outcome State Fault Refusal := .next (s.doIoRead r)

end Sys2Proof.Machine
end

