-- ==== Sys2Proof/Machine/Can.lean ====
section
/-!
DEFINITION. CAN buses D and T, chapter 13: bus states and errors (R313, R318, R319), rate detection (R320), receiving
(R321 to R324), transmitting (R326 to R329), port P2 (R331 to R333) and the fallback messages (R334 to R337).
-/

namespace Sys2Proof.Machine

def busNo : Bus → Fin 2
  | .d => 0 | .t => 1
def busOf (n : Nat) : Option Bus := if n = 0 then some .d else if n = 1 then some .t else none
def State.bp (s : State) (b : Bus) (o : Nat) : Nat := s.param (pBus (busNo b).val o)
def State.canCtl (s : State) (core : CoreId) (b : Bus) : CanCtl := s.can.ctl[core][busNo b]
def State.modCtl (s : State) (core : CoreId) (b : Bus) (f : CanCtl → CanCtl) : State :=
  s.modCan fun c => { c with ctl := updV c.ctl core fun v => updV v (busNo b) f }

/-! ### Bus states (R318, Table MB-4) -/

def busStateCode : BusState → Nat
  | .off => 0 | .detecting => 1 | .errorActive => 2 | .errorPassive => 3 | .busOff => 4 | .listenOnly => 5 | .sleep => 6
def busStateOf (n : Nat) : Option BusState :=
  [BusState.off, .detecting, .errorActive, .errorPassive, .busOff, .listenOnly, .sleep][n]?

/-- May the controller transmit host frames (Table MB-4)? -/
def BusState.sends : BusState → Bool
  | .errorActive | .errorPassive => true
  | _ => false

/-- Pending frames of the ports on a bus complete ST_STATE at bus-off; the frame's own are kept (R319). -/
def State.dropPortFrames (s : State) (b : Bus) : State :=
  let gone := s.can.tx.filter fun e => e.bus == b && (match e.owner with
    | .port _ => true
    | .own _ => false)
  let s1 := s.modCan fun c => { c with tx := c.tx.filter fun e => !gone.contains e }
  s1.each gone fun s e => match e.owner with
    | .port r => s.fail r Opc.OP_CAN_TX ST_STATE 0
    | .own _ => s

/-- A controller changes state; the active core's changes raise MB_BUS_STATE. -/
def State.busBecomes (s : State) (core : CoreId) (b : Bus) (new : BusState) (tec rec_ : Nat) : State :=
  let old := s.canCtl core b
  let s1 := s.modCtl core b fun x => { x with
    state := new, txErr := tec, rxErr := rec_,
    busOffAt := if new == .busOff && old.state != .busOff then s.now else x.busOffAt,
    recovering := x.recovering && new == .busOff }
  if core != s.activeCore || old.state == new then s1
  else
    let s2 := s1.raise Ev.MB_BUS_STATE [.u8 (busNo b).val, .u8 (busStateCode old.state), .u8 (busStateCode new),
      .u8 (min 255 tec), .u8 (min 255 rec_)]
    if new == .busOff then s2.dropPortFrames b
    else if new == .errorActive then
      (s2.modCtl core b fun x => { x with recover := [] }).completeAll old.recover Opc.OP_CAN_RECOVER ST_OK 0 []
    else s2

/-- BUS_STATE_CHANGE. -/
def execBusStateChange (core : CoreId) (bus : Bus) (new : Nat) (tec rec : Nat) (s : State) :
    Host.Outcome State Fault Refusal :=
  .next (match busStateOf new with
    | some st => s.busBecomes core bus st tec rec
    | none => s)

/-- Nominal rate of a bus in kbit/s from its timing word (R314). -/
def wordKbit (w : Nat) : Nat := 80000 / (twPresc w * twBit w)
def State.nominalRate (s : State) (core : CoreId) (b : Bus) : Nat :=
  if s.bp b 1 = 1 then (s.canCtl core b).nomRate else wordKbit (s.bp b 2)
/-- FD data rate in 100 kbit/s. -/
def State.dataRate (s : State) (core : CoreId) (b : Bus) : Nat :=
  if s.bp b 1 = 1 then (s.canCtl core b).dataRate else wordKbit (s.bp b 3) / 100

/-- The state a controller takes at a start, a wake or a role change: off, DETECTING (R320), listen-only on the standby
or under R319, and ERROR_ACTIVE otherwise. -/
def State.busStart (s : State) (core : CoreId) (b : Bus) : BusState :=
  if s.bp b 0 = 0 then .off
  else if core != s.activeCore then .listenOnly
  else if s.power.osc[core] && decide (500 < s.nominalRate core b) then .listenOnly
  else if s.bp b 1 = 1 && !(s.canCtl core b).rateFound then .detecting else .errorActive

/-- Controllers at a full start, a fast restart or a wake: counters 0, and detection begins anew where it is set
(R320, R330, Table RF-8). -/
def State.canStart (s : State) : State :=
  s.each [(0 : CoreId), 1] fun s core => s.each [Bus.d, Bus.t] fun s b =>
    let s1 := s.modCtl core b fun x => { x with
      recover := [], recovering := false, errors := 0, errorsLast := 0, rateFound := false,
      dataFound := s.bp b 1 != 1, xlFound := s.bp b 1 != 1,
      candidate := if x.storedRate.isSome then 0 else 1, good := 0, candErrors := 0, candFrom := s.now, framesSeen := 0,
      dataCand := 0, dataGood := 0, xlCand := 0, xlGood := 0, capped := s.power.osc[core] }
    s1.busBecomes core b (s1.busStart core b) 0 0

/-- Both buses go to standby (N5, Table PW-1); bus D answers in SLEEP. -/
def State.canSleep (s : State) : State :=
  s.each [(0 : CoreId), 1] fun s core => s.each [Bus.d, Bus.t] fun s b =>
    if (s.canCtl core b).state == .off then s else s.busBecomes core b .sleep 0 0

/-! ### Errors (R313, R318, R319) -/

/-- PROTOCOL_EXCEPTION (R313): counted, and raised at most once per second while the count rises. -/
def State.protocolException (s : State) (b : Bus) : State :=
  let core := s.activeCore
  let x := s.canCtl core b
  let n := x.exceptions + 1
  let due : Bool := x.exceptionRaisedAt.elim true fun t => decide (sec ≤ s.since t)
  let s1 := s.modCtl core b fun x => { x with exceptions := n }
  if due then
    (s1.modCtl core b fun x => { x with exceptionRaisedAt := some s.now, exceptionsRaised := n }).raise
      Ev.MB_PROTOCOL_EXCEPTION [.u8 (busNo b).val, .u32 n]
  else s1

def execProtocolException (bus : Bus) (s : State) : Host.Outcome State Fault Refusal := .next (s.protocolException bus)

/-- The end of a second: MB_ERROR_RATE above mb.b.err_alarm (R318). -/
def State.errorSecond (s : State) (b : Bus) : State :=
  let core := s.activeCore
  let n := (s.canCtl core b).errors
  let s1 := s.modCtl core b fun x => { x with errorsLast := n, errors := 0 }
  if s.bp b 7 < n then s1.raise Ev.MB_ERROR_RATE [.u8 (busNo b).val, .u16 n] else s1

def execMbErrorRate (bus : Bus) (s : State) : Host.Outcome State Fault Refusal := .next (s.errorSecond bus)

/-- BUSOFF_DELAY_EXPIRED (R319): the recovery of ISO 11898-1 starts in automatic mode. -/
def execBusoffDelayExpired (bus : Bus) (s : State) : Host.Outcome State Fault Refusal :=
  let core := s.activeCore
  let x := s.canCtl core bus
  .next (if x.state == .busOff && s.bp bus 5 == 0 && !x.recovering then
      (s.until (x.busOffAt + s.bp bus 6 * msec)).modCtl core bus fun x => { x with recovering := true }
    else s)

/-! ### Rate detection (R320, Table MB-5) -/

/-- Nominal candidates in order, after the rate stored in MRAM. -/
def candidateRate (x : CanCtl) : Nat :=
  match x.candidate with
  | 0 => x.storedRate.elim 125 (·.1)
  | n => [125, 250, 500, 1000].getD (n - 1) 125
def dataCandidate (n : Nat) : Nat := [10, 20, 40, 50].getD (n % 4) 10
def xlCandidate (n : Nat) : Nat := [20, 50, 80, 100].getD (n % 4) 20

/-- The next candidate of the phase still sought. -/
def CanCtl.nextCandidate (x : CanCtl) (now : Nat) : CanCtl :=
  if !x.rateFound then { x with candidate := x.candidate % 4 + 1, good := 0, candErrors := 0, candFrom := now }
  else if !x.dataFound then { x with dataCand := x.dataCand + 1, dataGood := 0, candErrors := 0, candFrom := now }
  else { x with xlCand := x.xlCand + 1, xlGood := 0, candErrors := 0, candFrom := now }

/-- Some rate is still sought: the nominal one, or a data rate of a format the mode enables. -/
def State.seeking (s : State) (b : Bus) : Bool :=
  let x := s.canCtl s.activeCore b
  s.bp b 1 == 1 && (!x.rateFound || (decide (2 ≤ s.bp b 0) && !x.dataFound) || (s.bp b 0 == 3 && !x.xlFound))

/-- RATE_CANDIDATE_TIMEOUT. -/
def execRateCandidateTimeout (bus : Bus) (s : State) : Host.Outcome State Fault Refusal :=
  .next (if s.seeking bus then
      let s1 := s.until ((s.canCtl s.activeCore bus).candFrom + 50 * msec)
      s1.modCtl s.activeCore bus fun x => x.nextCandidate s1.now
    else s)

/-- RATE_FAIL: 2 s of traffic without a match; it keeps trying. -/
def execRateFail (bus : Bus) (s : State) : Host.Outcome State Fault Refusal :=
  let x := s.canCtl s.activeCore bus
  .next (if x.state == .detecting then
      s.raise Ev.MB_RATE_FAIL [.u8 (busNo bus).val, .u32 x.framesSeen]
    else s)

/-- A frame received without error counts for the candidates it proves; four in a row accept one. -/
def State.rateGood (s : State) (b : Bus) (f : CanFrame) : State :=
  if !s.seeking b then s
  else
    let core := s.activeCore
    let s1 := s.modCtl core b fun x => { x with
      framesSeen := x.framesSeen + 1,
      good := if x.rateFound then x.good else x.good + 1,
      dataGood := if f.fmt == 1 && f.brs && !x.dataFound then x.dataGood + 1 else x.dataGood,
      xlGood := if f.fmt == 2 && !x.xlFound then x.xlGood + 1 else x.xlGood }
    let s2 := s1.modCtl core b fun x =>
      let y := if !x.dataFound && decide (4 ≤ x.dataGood) then
        { x with dataFound := true, dataRate := dataCandidate x.dataCand } else x
      if !y.xlFound && decide (4 ≤ y.xlGood) then { y with xlFound := true, xlRate := xlCandidate y.xlCand } else y
    let x := s2.canCtl core b
    let store (x : CanCtl) : CanCtl := { x with storedRate := some (x.nomRate, x.dataRate, x.xlRate) }
    if !x.rateFound && decide (4 ≤ x.good) then
      let s3 := s2.modCtl core b fun x => store { x with rateFound := true, nomRate := candidateRate x }
      let y := s3.canCtl core b
      let s4 := s3.raise Ev.MB_RATE_DETECTED [.u8 (busNo b).val, .u16 y.nomRate, .u16 y.dataRate, .u16 y.xlRate]
      s4.busBecomes core b (s4.busStart core b) 0 0
    else s2.modCtl core b fun x => if x.rateFound then store x else x

/-! ### Receiving (R321 to R324) -/

/-- Does a filter pass a frame (R321)? -/
def CanFilter.accepts (x : CanFilter) (b : Bus) (f : CanFrame) : Bool :=
  let bits_ := x.bits.toNat
  bit bits_ (busNo b).val && bit bits_ (2 + f.fmt)
    && (!bit bits_ 6 || bit bits_ 5 == f.ide)
    && (BitVec.ofNat 32 f.id.toNat &&& x.mask) == (x.id &&& x.mask)
    && (f.fmt != 2 || ((f.sdt &&& x.sdtMask) == (x.sdt &&& x.sdtMask) && (f.vcid &&& x.vcidMask) == (x.vcid &&& x.vcidMask)))

/-- Pool blocks an entry takes: XL data longer than 64 bytes (R322). -/
def poolBlocks (f : CanFrame) : Nat := if f.fmt = 2 ∧ 64 < f.data.length then (f.data.length + 63) / 64 else 0
def RxPort.poolUsed (x : RxPort) : Nat := x.queue.foldl (fun n e => n + poolBlocks e.frame) 0

def RxPort.drop (x : RxPort) (b : Bus) (rseq : BitVec 32) (reason n : Nat) : RxPort :=
  { x with
    dropped := x.dropped + n, droppedSinceRead := x.droppedSinceRead + n,
    dropFirst := if x.dropped = 0 then rseq else x.dropFirst,
    dropReason := if x.dropped = 0 then reason else x.dropReason,
    dropBus := if x.dropped = 0 then (busNo b).val else x.dropBus }

/-- A frame accepted for a port takes the next rseq and an entry, or is dropped and counted (R322). -/
def RxPort.take (x : RxPort) (b : Bus) (f : CanFrame) (filter : Nat) (stamps : Vector (BitVec 48) 2) : RxPort :=
  let y := { x with rseqNext := x.rseqNext + 1 }
  if 256 ≤ x.queue.length then y.drop b x.rseqNext 1 1
  else if 1024 < x.poolUsed + poolBlocks f then y.drop b x.rseqNext 2 1
  else { y with queue := x.queue ++ [{ bus := b, frame := f, filter := filter, stamps := stamps, rseq := x.rseqNext }] }

/-- A receive entry as it is copied (Table MB-6), with the active core's stamp. -/
def RxEntry.bytes (e : RxEntry) (core : CoreId) : List Byte :=
  let f := e.frame
  leBytes 1 (busNo e.bus).val
    ++ leBytes 1 (f.fmt + 4 * Bool.nat f.ide + 8 * Bool.nat f.rtr + 16 * Bool.nat f.brs + 32 * Bool.nat f.sec + 64 * Bool.nat f.esi)
    ++ leBytes 2 f.data.length ++ leBytes 4 f.id.toNat
    ++ (if f.fmt = 2 then [f.sdt, f.vcid] else [0, 0]) ++ leBytes 1 e.filter ++ [0]
    ++ leBytes 4 (if f.fmt = 2 then f.af.toNat else 0) ++ leBytes 6 e.stamps[core].toNat ++ [0, 0]
    ++ leBytes 4 e.rseq.toNat ++ List.replicate 4 0 ++ slice f.data 0 ((f.data.length + 7) / 8 * 8)

/-- Whole entries from the front that fit a buffer. -/
def entriesThatFit (core : CoreId) : List RxEntry → Nat → List RxEntry
  | [], _ => []
  | e :: es, room =>
    let n := (e.bytes core).length
    if n ≤ room then e :: entriesThatFit core es (room - n) else []

/-- Complete a read with what is unread (R323, Table MB-13). -/
def State.endRead (s : State) (p : RxPortId) : State :=
  match s.can.rx[p].read with
  | none => s
  | some q =>
    let x := s.can.rx[p]
    let unread := x.queue.drop x.copied
    let out := (entriesThatFit s.activeCore unread q.bufLen).take q.max
    let s1 := s.modCan fun c => { c with rx := updV c.rx p fun x => { x with read := none } }
    if out.isEmpty && !unread.isEmpty then s1.fail q.req Opc.OP_CAN_RX_READ ST_RANGE (argOff 32)
    else
      let s2 := s1.modCan fun c => { c with rx := updV c.rx p fun x => { x with
        copied := x.copied + out.length, droppedSinceRead := 0 } }
      (s2.copyOut q.req (out.flatMap fun e => e.bytes s.activeCore)).ok q.req Opc.OP_CAN_RX_READ
        (leBytes 2 out.length ++ leBytes 2 (unread.length - out.length)
          ++ leBytes 4 (out.head?.elim 0 fun e => e.rseq.toNat) ++ leBytes 4 x.droppedSinceRead)

/-- A read completes once `min` entries are unread, or its wait has passed. -/
def State.readTick (s : State) (p : RxPortId) : State :=
  let x := s.can.rx[p]
  match x.read with
  | none => s
  | some q => if decide (q.min ≤ x.queue.length - x.copied) || decide (q.dueAt ≤ s.now) then s.endRead p else s

/-- A frame received without error goes to every port whose filter matches (R321). -/
def State.acceptFrame (s : State) (b : Bus) (f : CanFrame) : State :=
  s.each (List.finRange 3) fun s p =>
    match (List.range 32).find? fun i => (s.can.rx[p].filters.toList.getD i {}).accepts b f with
    | none => s
    | some i => (s.modCan fun c => { c with rx := updV c.rx p fun x => x.take b f i s.time.ce }).readTick p

/-- The bus can receive. -/
def State.busHears (s : State) (b : Bus) : Bool :=
  let st := (s.canCtl s.activeCore b).state
  st != .off && st != .sleep && st != .busOff

/-- The mode enables a format (Table MB-1); under R319 FD and XL are met by protocol exception. -/
def State.formatOn (s : State) (b : Bus) (fmt : Nat) : Bool :=
  decide (fmt < s.bp b 0) && (fmt == 0 || !s.power.osc[s.activeCore])

/-- Does a fallback identifier carry this frame's own prefix and frame_id? -/
def State.ownFallback (s : State) (f : CanFrame) : Bool :=
  f.fmt == 0 && f.ide && bits f.id.toNat 24 5 == s.param 0x521 && bits f.id.toNat 10 11 == s.param 0x080
    && bits f.id.toNat 0 10 == 0

/-- CAN_FRAME_RECEIVED: exception, detection, acceptance, and MB_ID_CLASH for a message only this frame sends
(R334). -/
def State.frameReceived (s : State) (b : Bus) (f : CanFrame) : State :=
  if !s.busHears b then s
  else if !s.formatOn b f.fmt then s.protocolException b
  else
    let core := s.activeCore
    let s1 := (s.modCtl core b fun x => { x with rxErr := if x.rxErr < 128 then x.rxErr - 1 else 127 }).rateGood b f
    let s2 := s1.acceptFrame b f
    let type := bits f.id.toNat 21 3
    if b == .d && s.param 0x520 == 1 && s.ownFallback f && type != 2 && type != 6 then
      (s2.modCan fun c => { c with idClash := c.idClash + 1 }).raise Ev.MB_ID_CLASH [.u8 type, .u32 f.id.toNat]
    else s2

def execCanFrameReceived (bus : Bus) (f : CanFrame) (s : State) : Host.Outcome State Fault Refusal :=
  .next (s.frameReceived bus f)

def rxPortOf : Party → Option RxPortId
  | .p0 => some 0
  | .p1 => some 1
  | .p4 => some 2
  | _ => none

/-- OP_CAN_RX_READ (R323). -/
def State.doCanRxRead (s : State) (r : Req) (max_ min_ wait : Nat) (fromOldest : Bool) : State :=
  let oc := Opc.OP_CAN_RX_READ
  if max_ = 0 ∨ 64 < max_ then s.fail r oc ST_RANGE (argOff 16)
  else if min_ = 0 ∨ 64 < min_ ∨ max_ < min_ then s.fail r oc ST_RANGE (argOff 17)
  else if 10000 < wait then s.fail r oc ST_RANGE (argOff 18)
  else match rxPortOf r.party with
    | none => s.fail r oc ST_PORT ((portOf r.party).elim 3 portNum)
    | some p =>
      if s.can.rx[p].read.isSome then s.fail r oc ST_STATE 0
      else
        let s1 := s.modCan fun c => { c with rx := updV c.rx p fun x => { x with
          copied := if fromOldest then 0 else x.copied,
          read := some { req := r, max := max_, min := min_, bufLen := r.bufLen, dueAt := s.now + wait * msec } } }
        s1.readTick p

def execOpCanRxRead (r : Req) (max min wait : Nat) (fromOldest : Bool) (s : State) :
    Host.Outcome State Fault Refusal := .next (s.doCanRxRead r max min wait fromOldest)

/-- RX_READ_WAIT_EXPIRED. -/
def execRxReadWaitExpired (p : RxPortId) (s : State) : Host.Outcome State Fault Refusal :=
  .next (match s.can.rx[p].read with
    | some q => (s.until q.dueAt).endRead p
    | none => s)

/-- OP_CAN_RX_ACK frees every entry up to a value (R323). -/
def State.doCanRxAck (s : State) (r : Req) (rseq : BitVec 32) : State :=
  let oc := Opc.OP_CAN_RX_ACK
  match rxPortOf r.party with
  | none => s.fail r oc ST_PORT ((portOf r.party).elim 3 portNum)
  | some p =>
    let freed (e : RxEntry) : Bool := decide ((rseq - e.rseq).toNat < 2 ^ 31)
    let n := (s.can.rx[p].queue.filter freed).length
    (s.modCan fun c => { c with rx := updV c.rx p fun x => { x with
      queue := x.queue.filter fun e => !freed e, copied := x.copied - n } }).ok r oc (leBytes 2 n)

def execOpCanRxAck (r : Req) (rseq : BitVec 32) (s : State) : Host.Outcome State Fault Refusal :=
  .next (s.doCanRxAck r rseq)

/-- RX_DROPPED_REPORT (R322): room has returned after drops. -/
def State.rxDropped (s : State) (p : RxPortId) : State :=
  let x := s.can.rx[p]
  if decide (0 < x.dropped) && decide (x.queue.length < 256) then
    (s.modCan fun c => { c with rx := updV c.rx p fun x => { x with dropped := 0 } }).raise Ev.MB_RX_DROPPED
      [.u8 (if p = 2 then 4 else p.val), .u8 x.dropBus, .u32 x.dropFirst.toNat, .u8 (min 255 x.dropped), .u8 x.dropReason]
  else s

def execRxDroppedReport (p : RxPortId) (s : State) : Host.Outcome State Fault Refusal := .next (s.rxDropped p)

/-- Queued entries are lost and counted as dropped (Tables PW-7, RF-8). -/
def State.loseQueues (s : State) : State :=
  s.modCan fun c => { c with rx := c.rx.map fun x =>
    match x.queue with
    | [] => x
    | e :: _ => { x.drop e.bus e.rseq 1 x.queue.length with queue := [], copied := 0 } }

/-- OP_CAN_FILTER_SET (R321). -/
def State.doCanFilterSet (s : State) (r : Req) (index : Nat) (x : CanFilter) : State :=
  let oc := Opc.OP_CAN_FILTER_SET
  match rxPortOf r.party, asFin 32 index with
  | none, _ => s.fail r oc ST_PORT ((portOf r.party).elim 3 portNum)
  | _, none => s.fail r oc ST_RANGE (argOff 16)
  | some p, some i =>
    (s.modCan fun c => { c with rx := updV c.rx p fun y => { y with filters := y.filters.set i x } }).ok r oc []

def execOpCanFilterSet (r : Req) (index : Nat) (bits : Byte) (id mask : BitVec 32) (sdt sdtMask vcid vcidMask : Byte)
    (s : State) : Host.Outcome State Fault Refusal :=
  .next (s.doCanFilterSet r index { bits := bits, id := id, mask := mask, sdt := sdt, sdtMask := sdtMask,
                                     vcid := vcid, vcidMask := vcidMask })

/-- OP_CAN_STATUS (Table MB-13). -/
def State.doCanStatus (s : State) (r : Req) (bus : Nat) : State :=
  let oc := Opc.OP_CAN_STATUS
  match busOf bus with
  | none => s.fail r oc ST_RANGE (argOff 16)
  | some b =>
    let core := s.activeCore
    let x := s.canCtl core b
    let tdc := s.bp b 4 != 0 && decide (2 ≤ s.bp b 0) && decide (10 < s.dataRate core b)
    s.ok r oc (leBytes 1 (busStateCode x.state) ++ leBytes 1 (min 255 x.txErr) ++ leBytes 1 (min 255 x.rxErr)
      ++ leBytes 1 (Bool.nat x.rateFound + 2 * Bool.nat s.power.osc[core] + 4 * Bool.nat tdc)
      ++ leBytes 2 (s.nominalRate core b) ++ leBytes 2 (s.dataRate core b) ++ leBytes 2 (min 65535 x.errorsLast)
      ++ leBytes 2 x.loopDelay)

def execOpCanStatus (r : Req) (bus : Nat) (s : State) : Host.Outcome State Fault Refusal := .next (s.doCanStatus r bus)

/-- OP_CAN_RECOVER completes once ERROR_ACTIVE (R319). -/
def State.doCanRecover (s : State) (r : Req) (bus : Nat) : State :=
  let oc := Opc.OP_CAN_RECOVER
  match busOf bus with
  | none => s.fail r oc ST_RANGE (argOff 16)
  | some b =>
    if (s.canCtl s.activeCore b).state == .busOff then
      s.modCtl s.activeCore b fun x => { x with recovering := true, recover := x.recover ++ [r] }
    else s.fail r oc ST_STATE 0

def execOpCanRecover (r : Req) (bus : Nat) (s : State) : Host.Outcome State Fault Refusal := .next (s.doCanRecover r bus)

/-! ### Transmitting (R326 to R329) -/

/-- Does an entry belong to the port of a party? -/
def TxEntry.ofParty (e : TxEntry) (p : Party) : Bool :=
  match e.owner with
  | .port r => r.party == p
  | .own _ => false
def TxEntry.own (e : TxEntry) : Bool :=
  match e.owner with
  | .port _ => false
  | .own _ => true
/-- Same owner of buffers: one port, or the frame itself. -/
def TxEntry.sameOwner (e f : TxEntry) : Bool :=
  match e.owner, f.owner with
  | .port r, .port q => r.party == q.party
  | .own _, .own _ => true
  | _, _ => false

/-- Entries enter a buffer in fetch order while their owner holds fewer than eight on the bus (R327). -/
def fillBuffers : List TxEntry → List TxEntry → List TxEntry
  | [], done => done
  | e :: es, done =>
    let held := ((done ++ es).filter fun f => f.inBuffer && f.bus == e.bus && f.sameOwner e).length
    fillBuffers es (done ++ [if e.inBuffer then e else { e with inBuffer := decide (held < 8) }])

/-- The buffer that starts: the lowest identifier of a bus, and among equals the one filled first. -/
def startsFirst (tx : List TxEntry) (b : Bus) : Option TxEntry :=
  tx.foldl (fun best e =>
    if e.inBuffer && e.bus == b then
      match best with
      | some x => if e.frame.id.toNat < x.frame.id.toNat then some e else best
      | none => some e
    else best) none

/-- A frame leaves once the standby has acknowledged the tick it belongs to (R267). -/
def State.txReleased (s : State) (e : TxEntry) : Bool := s.pair.standby != .inStep || ackedBy s.pair.mseqAck e.mark

/-- The transmit side in each tick: buffers fill, own frames of a bus that is off are gone, LAST_GASP ends (R336),
and a bus that may transmit starts its lowest identifier. -/
def State.txTick (s : State) : State :=
  let gasp : Bool := s.can.lastGaspUntil.elim false fun t => decide (t ≤ s.now)
  let s1 := s.modCan fun c => { c with
    tx := fillBuffers (c.tx.filter fun e => !(gasp && e.owner == .own 2)
      && !(e.own && (s.canCtl s.activeCore e.bus).state == .off)) [],
    lastGaspUntil := if gasp then none else c.lastGaspUntil, sent := [] }
  s1.each [Bus.d, Bus.t] fun s b =>
    if !(s.canCtl s.activeCore b).state.sends || (s.can.tx.any fun e => e.bus == b && e.started) then s
    else match startsFirst (s.can.tx.filter s.txReleased) b with
      | none => s
      | some e => s.modCan fun c => { c with tx := c.tx.map fun f => if f == e then { f with started := true } else f }

/-- Bits of the frame byte (Table MB-7). -/
def txFrame (fmt : Byte) (id : BitVec 32) (sdt vcid : Byte) (af : BitVec 32) (data : List Byte) : CanFrame :=
  let n := fmt.toNat
  { fmt := bits n 0 2, ide := bit n 2, rtr := bit n 3, brs := bit n 4, sec := bit n 5, id := id.setWidth 29,
    sdt := sdt, vcid := vcid, af := af, data := data }

def lengthOk (fmt len : Nat) : Bool :=
  match fmt with
  | 0 => decide (len ≤ 8)
  | 1 => decide (len ≤ 8) || [12, 16, 20, 24, 32, 48, 64].contains len
  | _ => inRange 1 2048 len

/-- The refusals of R326 and R329, as the argument byte at fault. -/
def State.txRefusal (s : State) (b : Bus) (fmt : Nat) (len : Nat) (id : Nat) : Option Nat :=
  let kind := bits fmt 0 2
  if kind = 3 ∨ s.bp b 0 ≤ kind then some 17
  else if (bit fmt 3 && kind != 0) || (bit fmt 4 && kind != 1) || (bit fmt 5 && kind != 2) || (bit fmt 2 && kind == 2) then some 17
  else if !lengthOk kind len || (decide (32 < len) && !bit fmt 6) then some 18
  else if 2 ^ (if bit fmt 2 then 29 else 11) ≤ id then some 20
  else if bit fmt 2 && b == .d && s.param 0x520 == 1 && bits id 24 5 == s.param 0x521 then some 20
  else if bit fmt 2 && b == .t && s.param 0x528 == 1 && bits id 26 3 == s.param 0x529 then some 20
  else none

/-- OP_CAN_TX. -/
def State.doCanTx (s : State) (r : Req) (bus : Nat) (fmt : Byte) (len : Nat) (id : BitVec 32) (sdt vcid : Byte)
    (af : BitVec 32) (data : List Byte) : State :=
  let oc := Opc.OP_CAN_TX
  match busOf bus with
  | none => s.fail r oc ST_RANGE (argOff 16)
  | some b =>
    match s.txRefusal b fmt.toNat len id.toNat with
    | some o => s.fail r oc ST_RANGE (argOff o)
    | none =>
      let buffered := fmt.getLsbD 6
      if buffered && r.bufLen < len then s.fail r oc ST_RANGE (argOff 40)
      else if buffered && r.buf.isNone then s.fail r oc ST_DMA 32
      else
        let pending := (s.can.tx.filter fun e => e.ofParty r.party && e.bus == b).length
        if !(s.canCtl s.activeCore b).state.sends || decide (16 ≤ pending) then s.fail r oc ST_STATE 0
        else
          let bytes := if buffered then r.buf.getD [] else data
          s.modCan fun c => { c with tx := fillBuffers (c.tx ++ [{ owner := .port r, bus := b, frame := txFrame fmt id sdt vcid af (slice bytes 0 len), mark := s.pair.mseq + 1 }]) [] }

def execOpCanTx (r : Req) (bus : Nat) (fmt : Byte) (len : Nat) (id : BitVec 32) (sdt vcid : Byte) (af : BitVec 32)
    (data : List Byte) (s : State) : Host.Outcome State Fault Refusal :=
  .next (s.doCanTx r bus fmt len id sdt vcid af data)

/-- The `n`-th pending frame of a bus. -/
def State.txAt (s : State) (b : Bus) (n : Nat) : Option TxEntry := (s.can.tx.filter fun e => e.bus == b)[n]?
/-- Remove, or change, one pending frame. -/
def State.dropTx (s : State) (e : TxEntry) : State := s.modCan fun c => { c with tx := c.tx.erase e }
def replaceTx (e f : TxEntry) : List TxEntry → List TxEntry
  | [] => []
  | x :: xs => if x = e then f :: xs else x :: replaceTx e f xs

/-- CAN_TX_DONE: sent without error (R326); a loop delay above 800 ns raises MB_TDC_RANGE (R316). -/
def State.txDone (s : State) (b : Bus) (n : Nat) (stamp : BitVec 48) (delay : Option Nat) : State :=
  match s.txAt b n with
  | none => s
  | some e =>
    let st := (s.canCtl s.activeCore b).state
    if !e.inBuffer || !(st.sends || (st == .sleep && e.own)) then s
    else
      let s1 := (s.dropTx e).modCan fun c => { c with sent := c.sent ++ [(b, e.frame)] }
      let s2 := s1.modCtl s.activeCore b fun x => { x with
        txErr := x.txErr - 1, loopDelay := delay.getD x.loopDelay }
      let s3 : State := match delay with
        | some d => if 800 < d then s2.raise Ev.MB_TDC_RANGE [.u8 (busNo b).val, .u16 d] else s2
        | none => s2
      match e.owner with
      | .port r => s3.ok r Opc.OP_CAN_TX (leBytes 6 stamp.toNat ++ leBytes 1 (min 255 (e.attempts + 1)))
      | .own _ => s3

def execCanTxDone (bus : Bus) (index : Nat) (stamp : BitVec 48) (delay : Option Nat) (s : State) :
    Host.Outcome State Fault Refusal := .next (s.txDone bus index stamp delay)

/-- CAN_BUS_ERROR: the counters change and the frame is retried without limit; 16 failed attempts raise
MB_TX_ERROR (Table MB-16). Two errors end a detection candidate (R320). -/
def State.canError (s : State) (b : Bus) (index : Option Nat) (kind tec rec_ : Nat) : State :=
  let core := s.activeCore
  let s1 := s.modCtl core b fun x => { x with
    txErr := tec, rxErr := rec_, errors := x.errors + 1, good := 0, candErrors := x.candErrors + 1 }
  let s2 := if s1.seeking b && decide (2 ≤ (s1.canCtl core b).candErrors) then
      s1.modCtl core b fun x => x.nextCandidate s.now else s1
  match index.bind (s2.txAt b) with
  | none => s2
  | some e =>
    let f := { e with attempts := e.attempts + 1, started := false, raised := e.raised || decide (16 ≤ e.attempts + 1) }
    let s3 := s2.modCan fun c => { c with tx := replaceTx e f c.tx }
    if f.raised && !e.raised then
      s3.raise Ev.MB_TX_ERROR [.u8 (match e.owner with
        | .port r => (portOf r.party).elim 3 portNum
        | .own _ => 0xFF), .u8 (busNo b).val, .u32 e.frame.id.toNat, .u8 kind]
    else s3

def execCanBusError (bus : Bus) (index : Option Nat) (kind tec rec : Nat) (s : State) :
    Host.Outcome State Fault Refusal := .next (s.canError bus index kind tec rec)

/-- OP_CAN_TX_ABORT (R328). -/
def State.doCanTxAbort (s : State) (r : Req) (hseq : BitVec 32) : State :=
  let oc := Opc.OP_CAN_TX_ABORT
  let mine (e : TxEntry) : Bool := match e.owner with
    | .port q => q.party == r.party && q.hseq == hseq
    | .own _ => false
  match s.can.tx.find? mine with
  | none => s.fail r oc ST_RANGE (argOff 16)
  | some e =>
    if e.started then s.fail r oc ST_STATE 0
    else
      let s1 := s.dropTx e
      let s2 : State := match e.owner with
        | .port q => s1.fail q Opc.OP_CAN_TX ST_PREEMPTED r.hseq.toNat
        | .own _ => s1
      s2.ok r oc []

def execOpCanTxAbort (r : Req) (hseq : BitVec 32) (s : State) : Host.Outcome State Fault Refusal :=
  .next (s.doCanTxAbort r hseq)

/-- After a role change every frame without a mirrored confirmation is sent again (R279). -/
def State.txAgain (s : State) : State :=
  let s1 := s.modCan fun c => { c with tx := c.tx.map fun e => { e with started := false } }
  s1.each [Bus.d, Bus.t] fun s b =>
    let n := (s.can.tx.filter fun e => e.bus == b && e.inBuffer).length
    if n = 0 then s else s.raise Ev.MB_TX_REPEATED [.u8 (busNo b).val, .u8 n]

/-! ### Port P2 (R331 to R333) -/

/-- Identifier of a P2 frame (Table MB-8). -/
def State.p2Id (s : State) (kind : Nat) : BitVec 29 :=
  BitVec.ofNat 29 (s.param 0x529 * 2 ^ 26 + kind * 2 ^ 24 + s.param 0x080 * 2 ^ 13)

/-- Send data to the remote host, in the format of mb.p2.format. -/
def State.sendP2 (s : State) (kind : Nat) (data : List Byte) : State :=
  s.sendOwn 1 .t (if s.param 0x52A = 1 then
      { fmt := 2, id := s.p2Id kind, sdt := BitVec.ofNat 8 (s.param 0x52C), vcid := BitVec.ofNat 8 (s.param 0x52D), data := data }
    else { fmt := 1, ide := true, brs := true, id := s.p2Id kind, data := data })

/-- Port status (Table MB-9). -/
def State.p2StatusBytes (s : State) : List Byte :=
  let t := s.ports[(2 : PortId)]
  leBytes 4 t.hseqConsumed.toNat ++ leBytes 4 t.dseqNext.toNat ++ leBytes 4 t.evDropped.toNat
    ++ leBytes 1 (min 255 (t.cqEntries[(0 : Fin 16)].length + t.laybyCq.length))
    ++ leBytes 1 (min 255 (t.evqEntries.length + t.laybyEv.length))
    ++ leBytes 1 (Bool.nat t.running + 2 * Bool.nat t.fetchStopped + 4 * s.activeCore.val)
    ++ leBytes 1 s.can.p2Queue.length ++ leBytes 8 s.tai ++ s.setHash.take 8

def State.p2Up (s : State) : Bool := s.ports[(2 : PortId)].up

/-- P2_STATUS_PERIOD: every 100 ms while up. -/
def State.p2Status (s : State) : State := if s.p2Up then s.sendP2 3 s.p2StatusBytes else s
def execP2StatusPeriod (s : State) : Host.Outcome State Fault Refusal := .next s.p2Status

/-- Entries of P2 waiting to leave, in dseq order: the next run of one kind, at most `n`. -/
def p2Run (t : PortSt) (n : Nat) : Bool × Nat :=
  let cs := t.cqEntries[(0 : Fin 16)]
  let es := t.evqEntries
  match cs, es with
  | [], _ => (false, min n es.length)
  | _, [] => (true, min n cs.length)
  | c :: _, e :: _ =>
    if (e.dseq - c.dseq).toNat < 2 ^ 31 then (true, min n (cs.takeWhile fun c => decide ((e.dseq - c.dseq).toNat < 2 ^ 31)).length)
    else (false, min n (es.takeWhile fun e => decide ((c.dseq - e.dseq).toNat < 2 ^ 31)).length)

/-- One frame of completions or events per tick, while P2 is up and a kept buffer is free (R332). -/
def State.p2Tick (s : State) : State :=
  let t := s.ports[(2 : PortId)]
  let waiting := (s.can.tx.filter fun e => e.bus == .t && e.own).length
  let q := p2Run t (if s.param 0x52A = 1 then 32 else 2)
  let s1 := if s.can.p2Status = 0 then s else (s.modCan fun c => { c with p2Status := 0 }).p2Status
  if !t.up || 8 ≤ waiting || q.2 = 0 then s1
  else if q.1 then
    (s1.sendP2 1 ((t.cqEntries[(0 : Fin 16)].take q.2).flatMap Completion.bytes)).modPort 2 fun t =>
      { t with cqEntries := updV t.cqEntries 0 fun l => l.drop q.2 }
  else
    (s1.sendP2 2 ((t.evqEntries.take q.2).flatMap Event.bytes)).modPort 2 fun t => { t with evqEntries := t.evqEntries.drop q.2 }

/-- The identifier of a descriptor frame for this frame (R331). -/
def State.p2Addressed (s : State) (id : BitVec 29) : Bool :=
  s.param 0x528 == 1 && decide (2 ≤ s.bp .t 0) && id == s.p2Id 0

def chunks64 : Nat → List Byte → List (List Byte)
  | 0, _ => []
  | n + 1, bs => bs.take 64 :: chunks64 n (bs.drop 64)

/-- P2_DESCRIPTOR_FRAME: 64 bytes on FD, 1 to 16 descriptors on XL; dropped where the queue of 16 has no room, or
with a bad length. The port is up from the first valid frame (R333). -/
def State.p2Frame (s : State) (id : BitVec 29) (xl : Bool) (stamp : BitVec 48) (data : List Byte) : State :=
  let f : CanFrame := if xl then { fmt := 2, id := id, sdt := BitVec.ofNat 8 (s.param 0x52C), vcid := BitVec.ofNat 8 (s.param 0x52D), data := data }
    else { fmt := 1, ide := true, brs := true, id := id, data := data }
  if !s.busHears .t then s
  else
    let s0 := s.acceptFrame .t f
    if !s.p2Addressed id || xl != (s.param 0x52A == 1) then s0
    else
      let n := data.length / 64
      if data.length % 64 != 0 || n = 0 || (if xl then 16 else 1) < n then
        (s0.modCan fun c => { c with p2DroppedLen := c.p2DroppedLen + 1 }).raise Ev.MB_P2_DROPPED
          [.u16 (s.can.p2DroppedLen + 1), .u8 2]
      else
        let s1 := if s0.p2Up then s0 else
          ((s0.modPort 2 fun t => { t with up := true, running := true }).raise Ev.MB_P2_LINK [.u8 1]).modCan fun c =>
            { c with p2Beat := s.now }
        let s2 := s1.drainLayby 2
        if 16 < s2.can.p2Queue.length + n then
          (s2.modCan fun c => { c with p2DroppedFull := c.p2DroppedFull + 1 }).raise Ev.MB_P2_DROPPED
            [.u16 (s.can.p2DroppedFull + 1), .u8 1]
        else s2.modCan fun c => { c with p2Queue := c.p2Queue ++ (chunks64 n data).map fun d => (d, stamp) }

def execP2DescriptorFrame (id : BitVec 29) (xl : Bool) (stamp : BitVec 48) (data : List Byte) (s : State) :
    Host.Outcome State Fault Refusal := .next (s.p2Frame id xl stamp data)

/-- P2_TIMEOUT (R60): no heartbeat for door.p2.timeout. -/
def State.p2Down (s : State) : State :=
  if s.p2Up then (s.portDown 2 2).raise Ev.MB_P2_LINK [.u8 0] else s
def execP2Timeout (s : State) : Host.Outcome State Fault Refusal :=
  .next (if s.p2Up then (s.until (s.can.p2Beat + s.param 0x08C * msec)).p2Down else s)

/-! ### The fallback set (R334 to R337) -/

/-- HEARTBEAT (Table MB-12). -/
def State.heartbeatBytes (s : State) : List Byte :=
  let loop := s.doors.relays[(0 : CoreId)] || s.doors.relays[(1 : CoreId)]
  [s.can.hbSeq] ++ leBytes 1 ((if s.power.state = .sleep then 2 else 0) + 8 * s.activeCore.val
      + 16 * tierCode s.frame.frameTier + 64 * Bool.nat loop + 128 * Bool.nat s.power.faultOut)
    ++ leBytes 1 (s.leafByte 0) ++ leBytes 1 (s.leafByte 1) ++ leBytes 1 s.stepsByte
    ++ leBytes 1 (qualityCode s.time.quality + maskOf 4 (fun i => (s.ports.toList.getD i {}).up) * 4)
    ++ leBytes 2 (s.journal.nextNumber - 1)

def State.sendHeartbeat (s : State) : State :=
  (s.sendFallback 7 s.heartbeatBytes).modCan fun c => { c with hbSeq := c.hbSeq + 1, hbAt := s.now }

/-- Period of the heartbeat: mb.fb.hb_period, or pw.sleep.hb_period in SLEEP (R238, R334); ms, 0 off. -/
def State.hbPeriod (s : State) : Nat :=
  match s.power.state with
  | .run => s.param 0x522
  | .sleep => s.param 0x4D7
  | _ => 0

def execFallbackHeartbeat (s : State) : Host.Outcome State Fault Refusal :=
  .next (if s.hbPeriod = 0 || s.param 0x520 = 0 then s
    else (s.until (s.can.hbAt + s.hbPeriod * msec)).sendHeartbeat)

/-- Is it a fallback message of a type to this frame, with its DLC (R334)? -/
def State.fallbackFor (s : State) (id : BitVec 29) (type dlc : Nat) (data : List Byte) : Bool :=
  s.param 0x520 == 1 && id == s.fallbackId type && data.length == dlc

/-- The result of a DOOR_CMD (R335): 0 accepted, 1 refused by the resolver, 2 not owned by TL, 3 disabled, 4 check
failed. -/
def State.doorCmdResult (s : State) (data : List Byte) : Nat :=
  let b (i : Nat) : Byte := data.getD i 0
  if s.param 0x523 = 0 then 3
  else if b 3 != (0xFF ^^^ b 0 ^^^ b 1 ^^^ b 2) then 4
  else match asFin 2 (b 0).toNat with
    | none => 1
    | some d =>
      if b 1 == 3 then (if s.enabled d then 0 else 1)
      else if b 1 != 1 && b 1 != 2 then 1
      else if !s.tlOwns d then 2
      else if (s.checkDoor d (if b 1 = 1 then .open else .close) { party := .tl }).isSome then 1 else 0

/-- DOOR_CMD: an accepted one enters the resolver as TL's request, or as a safety-directed stop; STATUS follows. -/
def State.doorCommand (s : State) (id : BitVec 29) (data : List Byte) : State :=
  if !s.busHears .d then s
  else
    let s0 := s.acceptFrame .d { fmt := 0, ide := true, id := id, data := data }
    let recent := s.can.doorCmds.filter fun c => decide (s.since c.2 < sec)
    if !s.fallbackFor id 2 4 data || (recent.any fun c => c.1.take 3 == data.take 3) then s0
    else
      let res := s0.doorCmdResult data
      let s1 := (s0.modCan fun c => { c with doorCmds := recent ++ [(data, s.now)] }).raise Ev.MB_FALLBACK_CMD
        [.u8 (byteAt data 0), .u8 (byteAt data 1), .u8 res]
      let s2 := if res = 0 then s1.ask .tl (match byteAt data 1 with
          | 1 => .doorOpen (byteAt data 0)
          | 2 => .doorClose (byteAt data 0)
          | _ => .doorStop (byteAt data 0)) else s1
      match asFin 2 (byteAt data 0) with
      | some d => if s.enabled d then s2.sendStatus d else s2
      | none => s2

def execDoorCmd (id : BitVec 29) (data : List Byte) (s : State) : Host.Outcome State Fault Refusal :=
  .next (s.doorCommand id data)

/-- STATUS_REQ, answered in RUN and in SLEEP (R330, R334). -/
def State.statusRequest (s : State) (id : BitVec 29) (data : List Byte) : State :=
  let asleep := s.power.state == .sleep
  if !s.busHears .d && !asleep then s
  else
    let s0 := if asleep then s else s.acceptFrame .d { fmt := 0, ide := true, id := id, data := data }
    let q := byteAt data 0
    if !s.fallbackFor id 6 1 data || 3 < q then s0
    else
      let s1 := match q with
        | 3 => s0.sendHeartbeat
        | 0 => s0.each s0.enabledDoors State.sendStatus
        | n => s0.each (s0.enabledDoors.filter fun (d : Doorway) => d.val + 1 == n) State.sendStatus
      s1.raise Ev.MB_FALLBACK_REQ [.u8 q]

def execStatusReq (id : BitVec 29) (data : List Byte) (s : State) : Host.Outcome State Fault Refusal :=
  .next (s.statusRequest id data)

/-! ### The buses in each tick -/

/-- What the clock brings to the buses. -/
def State.canTick (s : State) : State :=
  let s1 := s.each [Bus.d, Bus.t] fun s b =>
    let core := s.activeCore
    let x := s.canCtl core b
    if x.state == .busOff && s.bp b 5 == 0 && !x.recovering && decide (s.bp b 6 * msec ≤ s.since x.busOffAt) then
      s.modCtl core b fun x => { x with recovering := true }
    else s
  let s2 := s1.each (List.finRange 3) fun s p => (s.readTick p).rxDropped p
  let s3 := if s2.p2Up && decide (s2.param 0x08C * msec ≤ s2.since s2.can.p2Beat) then s2.p2Down else s2
  let s4 := if s3.param 0x520 = 1 && s3.hbPeriod != 0 && decide (s3.hbPeriod * msec ≤ s3.since s3.can.hbAt) then
      s3.sendHeartbeat else s3
  let s5 := if s4.tick.toNat % 2000 = 0 then s4.p2Status else s4
  s5.p2Tick.txTick

end Sys2Proof.Machine
end

