-- ==== Sys2Proof/Machine/Panel.lean ====
section
/-!
DEFINITION. The panel bus, chapter 14: the window (Tables PB-1, PB-2), transfers (R342, R343, R345), the command
mailbox (R346, R347), clock stretching and bus faults (R349, R350) and the in-band request (R351, R352).
-/

namespace Sys2Proof.Machine

/-! ### The window -/

/-- Power, enable: the target is on the bus (R354, Table PB-8). -/
def State.panelOn (s : State) : Bool := s.panel.powered && s.param 0x540 == 1

/-- frame_state (Table PB-1). -/
def State.frameState (s : State) : Byte :=
  let low := if s.supply.serviceOnly then 7 else if s.power.state = .run && s.power.wake.isNone then 0 else 1
  BitVec.ofNat 8 (low + 8 * s.activeCore.val + 16 * tierCode s.frame.frameTier + 64 * Bool.nat (!s.loopOpen)
    + 128 * Bool.nat s.power.faultOut)

/-- The 16 bytes of a doorway (Table PB-2, R344). -/
def State.panelDoor (s : State) (d : Doorway) : List Byte :=
  let x := s.doors.door[d]
  if s.enabled d then
    leBytes 1 (leafCode x.leaf) ++ leBytes 1 (if hasStep s.param d.val then stepCode x.step else 15)
      ++ leBytes 1 (partyCode (s.ownerOf (.doorway d.val))) ++ leBytes 1 (tierCode s.frame.doorTier[d])
      ++ leBytes 2 (s.width d) ++ leBytes 1 (min 255 x.reopens) ++ leBytes 1 (s.statusFlags d)
      ++ [s.panel.msSeq[d], s.panel.msLast[d]] ++ leBytes 1 s.panel.intercom[d]
      ++ leBytes 1 (Bool.nat x.stepRequest) ++ leBytes 2 (s.doorId d.val) ++ [0, 0]
  else [15, 15] ++ List.replicate 10 0 ++ leBytes 2 (s.doorId d.val) ++ [0, 0]

/-- The window of the tick (Table PB-1). -/
def State.panelWindow (s : State) : List Byte :=
  let p := s.panel
  let stamps (d : Doorway) : List Byte := s.doors.door[d].stamps.toList.flatMap (leBytes 8)
  [0x01, s.frameState] ++ leBytes 1 s.tick.toNat ++ [p.reqHeld ||| p.reqFlags]
    ++ leBytes 2 (s.param 0x080) ++ leBytes 1 (qualityCode s.time.quality) ++ leBytes 1 (0x30 + p.inUse.toNat)
    ++ leBytes 8 s.tai ++ s.panelDoor 0 ++ s.panelDoor 1
    ++ [p.faultCount, p.faultSeq] ++ leBytes 2 p.faultCode.toNat ++ [p.faultDoor, p.faultTier]
    ++ slice p.faultData 0 4 ++ leBytes 6 p.faultTai ++ stamps 0 ++ stamps 1 ++ List.replicate 64 0
    ++ slice p.box 0 5 ++ List.replicate 11 0 ++ [p.resultSeq, p.resultCmd, p.result, p.taken]
    ++ List.replicate 12 0

/-- What a doorway shows for req_flags bit 1: leaf state, step state and tier. -/
def State.shownOf (s : State) (d : Doorway) : Nat × Nat × Nat :=
  (leafCode s.doors.door[d].leaf, stepCode s.doors.door[d].step, tierCode s.frame.doorTier[d])

/-- Swap the window in (R343): the conditions of Table PB-3 set their bits, and a selected bit asks for an
in-band request (R351). -/
def State.swapWindow (s : State) : State :=
  let high := s.frameState &&& 0xE0
  let shown := Vector.ofFn s.shownOf
  let s1 := s.modPanel fun p => { p with
    reqFlags := p.reqFlags ||| (if shown = p.shown then 0 else 0x02) ||| (if high = p.frameHigh then 0 else 0x10),
    shown := shown, frameHigh := high }
  let w := s1.panelWindow
  s1.modPanel fun p => { p with
    window := w,
    requestDue := p.requestDue || (p.reqFlags &&& BitVec.ofNat 8 (s.param 0x545)) != 0,
    reqHeld := if p.snapshot.isSome then p.reqHeld else p.reqHeld ||| p.reqFlags,
    reqFlags := if p.snapshot.isSome then p.reqFlags else 0 }

/-- The target is powered (R340, R342, R354). -/
def State.panelPower (s : State) : State :=
  (s.modPanel fun p => { p with
    powered := true, pointer := 0, faultCount := 0, taken := 0, inUse := p.pins, snapshot := none, waiting := none,
    stretched := none, requestOn := false, stuckFrom := none }).swapWindow

/-- The target loses its power; both lines are released (R354). -/
def State.panelOff (s : State) : State :=
  s.modPanel fun p => { p with
    powered := false, snapshot := none, waiting := none, stretched := none, requestOn := false, stuckFrom := none }

/-- PANEL_ADDR_POLL (R340): the pins are read again; a difference from the address in use is reported. -/
def execPanelAddrPoll (pins : BitVec 4) (s : State) : Host.Outcome State Fault Refusal :=
  let s1 := s.modPanel fun p => { p with pins := pins }
  .next (if s.panel.powered && pins != s.panel.inUse then
      s1.raise Ev.PB_ADDR_CHANGED [.u8 pins.toNat, .u8 (0x30 + s.panel.inUse.toNat)]
    else s1)

/-! ### The command mailbox (R346 to R348) -/

def PanelCmd.bytes (c : PanelCmd) : List Byte := [c.cmd, c.door, c.arg, c.seq, c.check]
def panelCmdOf (bs : List Byte) : PanelCmd :=
  { cmd := bs.getD 0 0, door := bs.getD 1 0, arg := bs.getD 2 0, seq := bs.getD 3 0, check := bs.getD 4 0 }
def PanelCmd.checks (c : PanelCmd) : Bool := c.check == 0xFF ^^^ c.cmd ^^^ c.door ^^^ c.arg ^^^ c.seq

/-- The accessibility request (Table PB-6). -/
def State.accessReq (s : State) (d : Doorway) : State × Nat :=
  if s.param (pPanelDoor d.val 0) = 0 then (s, 2)
  else
    let l := s.doors.door[d].leaf
    let dead := l == .isolated || l == .emergencyReleased || l == .fault
    let s1 := if dead then s else (s.modDoor d fun x => { x with stepRequest := true }).buttonPressed d
    (s1.raise Ev.PB_ACCESS_REQ [.u16 (s.doorId d.val), .u8 (partyCode (s.ownerOf (.doorway d.val)))], Bool.nat dead)

/-- The obstacle report (R119, Table PB-6). -/
def State.panelObstacle (s : State) (d : Doorway) : State × Nat :=
  if s.op d 0x11 = 0 then (s, 2)
  else if s.closingOrLocking d then (s.obstacle d 6, 0) else (s, 1)

/-- The intercom indicator (R348, Table PB-6). -/
def State.intercomInd (s : State) (d : Doorway) (state : Nat) : State :=
  let old := s.panel.intercom[d]
  let s1 := s.modPanel fun p => { p with
    intercom := updV p.intercom d fun _ => state,
    blinkOn := updV p.blinkOn d fun b => if old = state then b else state == 1,
    blinkAt := updV p.blinkAt d fun t => if old = state then t else s.now }
  if old = state then s1 else s1.raise Ev.PB_INTERCOM [.u16 (s.doorId d.val), .u8 old, .u8 state]

/-- Write a mailbox result (Table PB-1). -/
def State.panelResult (s : State) (c : PanelCmd) (result : Nat) : State :=
  s.modPanel fun p => { p with
    resultSeq := c.seq, resultCmd := c.cmd, result := BitVec.ofNat 8 result, reqFlags := p.reqFlags ||| 0x08 }

/-- Effect and result of a command (Tables PB-4, PB-6). -/
def State.panelEffect (s : State) (c : PanelCmd) : State × Nat :=
  if !c.checks then (s, 3)
  else if s.power.state != .run || s.power.wake.isSome || s.supply.serviceOnly then (s, 5)
  else if c.cmd = 0 || 3 < c.cmd.toNat then (s, 7)
  else match asFin 2 c.door.toNat with
    | none => (s, 6)
    | some d =>
      if !s.enabled d then (s, 6)
      else if (if c.cmd = 3 then 2 else 0) < c.arg.toNat then (s, 7)
      else if c.cmd = 1 then s.accessReq d
      else if c.cmd = 2 then s.panelObstacle d
      else (s.intercomInd d c.arg.toNat, 0)

/-- Is it a repetition of a command taken within the last 1 s (R346)? -/
def State.panelRepeat (s : State) (c : PanelCmd) : Option Byte :=
  match s.panel.last with
  | some (k, t, r) => if k = c ∧ s.since t ≤ sec then some r else none
  | none => none

/-- Collect a command: it acts, or repeats its result, and PB_MAILBOX_CMD follows. -/
def State.collect (s : State) (c : PanelCmd) : State :=
  let out := match s.panelRepeat c with
    | some r => (s, r.toNat)
    | none =>
      let e := s.panelEffect c
      (e.1.modPanel fun p => { p with last := some (c, s.now, BitVec.ofNat 8 e.2) }, e.2)
  (out.1.panelResult c out.2).raise Ev.PB_MAILBOX_CMD [.u8 c.door.toNat, .u8 c.cmd.toNat, .u8 c.arg.toNat, .u8 out.2]

/-- The stretch reaches its limit, or a busy mailbox does not stretch (R349). -/
def State.notTaken (s : State) (c : PanelCmd) : State :=
  ((s.modPanel fun p => { p with stretched := none }).panelResult c 4).raise Ev.PB_STRETCH_LIMIT
    [.u8 c.door.toNat, .u8 c.cmd.toNat]

/-- The target takes a command at the acknowledgement of its check byte. -/
def State.takeCmd (s : State) (c : PanelCmd) : State :=
  s.modPanel fun p => { p with
    waiting := some c, stretched := none, taken := p.taken + 1, box := c.bytes }

/-- Collect the command that waits; a stretched one is taken then (R346, R349). -/
def State.collectTick (s : State) : State :=
  match s.panel.waiting with
  | none => s
  | some c =>
    let s1 := match s.panel.stretched with
      | some (k, t) => if decide (s.param 0x543 * usec ≤ s.since t) then s.notTaken k else s
      | none => s
    let s2 := (s1.modPanel fun p => { p with waiting := none }).collect c
    match s1.panel.stretched with
    | some (k, _) => s2.takeCmd k
    | none => s2

/-- A command of the row's kind: the one that waits where it is that one, or else one with the sequence byte last
written. -/
def State.panelRow (s : State) (cmd door arg : Nat) : State :=
  let same (c : PanelCmd) : Bool := c.cmd.toNat == cmd && c.door.toNat == door && c.arg.toNat == arg
  let made (seq : Byte) : PanelCmd :=
    let a : Byte := BitVec.ofNat 8 cmd
    let b : Byte := BitVec.ofNat 8 door
    let g : Byte := BitVec.ofNat 8 arg
    { cmd := a, door := b, arg := g, seq := seq, check := 0xFF ^^^ a ^^^ b ^^^ g ^^^ seq }
  if !s.panelOn then s
  else match s.panel.waiting with
    | some c => if same c then s.collectTick else (s.modPanel fun p => { p with taken := p.taken + 1 }).collect (made c.seq)
    | none => (s.modPanel fun p => { p with taken := p.taken + 1 }).collect (made (s.panel.resultSeq + 1))

/-- ACCESS_REQ (R347). -/
def execAccessReq (d : Doorway) (s : State) : Host.Outcome State Fault Refusal := .next (s.panelRow 1 d.val 0)
/-- PANEL_OBSTACLE (R347). -/
def execPanelObstacle (d : Doorway) (s : State) : Host.Outcome State Fault Refusal := .next (s.panelRow 2 d.val 0)
/-- INTERCOM_IND (R347). -/
def execIntercomInd (d : Doorway) (state : Nat) (s : State) : Host.Outcome State Fault Refusal :=
  .next (s.panelRow 3 d.val (state % 256))

/-- INTERCOM_BLINK (R348). -/
def State.blink (s : State) (d : Doorway) : State :=
  s.modPanel fun p => { p with
    blinkOn := updV p.blinkOn d fun b => !b, blinkAt := updV p.blinkAt d fun _ => s.now }
def execIntercomBlink (d : Doorway) (s : State) : Host.Outcome State Fault Refusal :=
  .next (if s.panel.intercom[d] = 1 then (s.until (s.panel.blinkAt[d] + 500 * msec)).blink d else s)

/-! ### Transfers (R342, R343, R345, R349) -/

/-- A byte outside the mailbox: refused and counted (R342). -/
def State.refuseByte (s : State) (offset : Byte) : State :=
  s.modPanel fun p => { p with refused := p.refused + 1, refusedLast := offset }

/-- Report refused bytes, at most once per second (R342). -/
def State.refusedTick (s : State) : State :=
  let due := match s.panel.refusedAt with
    | some t => decide (sec ≤ s.since t)
    | none => true
  if s.panel.refused ≠ 0 && due then
    (s.modPanel fun p => { p with refused := 0, refusedAt := some s.now }).raise Ev.PB_WRITE_REFUSED
      [.u16 (min 65535 s.panel.refused), .u8 s.panel.refusedLast.toNat]
  else s

/-- The check byte of a complete command: taken, stretched while an earlier command waits, or not taken. -/
def State.checkByte (s : State) (c : PanelCmd) : State :=
  if s.panel.waiting.isNone then
    let s1 := s.takeCmd c
    -- before RUN no tick pass collects: the command gets result 5 (R354)
    if s.power.wake.isSome then s1.collectTick else s1
  else if s.param 0x543 = 0 then s.notTaken c
  else s.modPanel fun p => { p with stretched := some (c, s.now) }

/-- One data byte of a write transfer at the pointer. -/
def State.writeByte (s : State) (b : Byte) : State :=
  let o := s.panel.pointer.toNat
  if 0xE0 ≤ o ∧ o ≤ 0xE3 then
    s.modPanel fun p => { p with box := putBytes p.box (o - 0xE0) [b], pointer := p.pointer + 1 }
  else if o = 0xE4 then
    s.modPanel fun p => { p with box := putBytes p.box 4 [b], pointer := p.pointer + 1 }
  else s.refuseByte s.panel.pointer

/-- A write transfer: the pointer, then its data; five bytes from 0xE0 are a command. -/
def State.panelWrite (s : State) (bytes : List Byte) : State :=
  match bytes with
  | [] => s
  | ptr :: data =>
    let s1 := s.modPanel fun p => { p with pointer := ptr, requestOn := false }
    if ptr = 0xE0 ∧ 5 ≤ data.length then
      let s2 := s1.each (data.take 4) State.writeByte
      let s3 := (s2.modPanel fun p => { p with pointer := 0xE5 }).checkByte (panelCmdOf data)
      s3.each (data.drop 5) State.writeByte
    else s1.each data State.writeByte

/-- PANEL_WRITE_TRANSFER (R342). -/
def execPanelWriteTransfer (bytes : List Byte) (s : State) : Host.Outcome State Fault Refusal :=
  .next (if s.panelOn then (s.panelWrite bytes).refusedTick else s)

/-- The bytes of a read transfer (R342). -/
def readFrom (window : List Byte) : Nat → Byte → List Byte
  | 0, _ => []
  | n + 1, ptr => window.getD ptr.toNat 0xFF :: readFrom window n (ptr + 1)

/-- Does a transfer of `count` bytes from `ptr` include offset 0x03? -/
def readsFlags (ptr count : Nat) : Bool := decide ((3 + 256 - ptr) % 256 < count)

/-- PANEL_READ_TRANSFER (R343, R345): one whole window; with a STOP the flags it returned are cleared. -/
def execPanelReadTransfer (count : Nat) (stop : Bool) (s : State) : Host.Outcome State Fault Refusal :=
  .next (if s.panelOn then
      let w := s.panel.snapshot.getD s.panel.window
      s.modPanel fun p => { p with
        readOut := readFrom w count p.pointer, pointer := p.pointer + BitVec.ofNat 8 count, requestOn := false,
        snapshot := if stop then none else some w,
        reqHeld := if stop && readsFlags p.pointer.toNat count then p.reqHeld &&& ~~~(w.getD 3 0) else p.reqHeld }
    else s)

/-! ### Stretching, timeouts and stuck lines (R349, R350) -/

/-- STRETCH_LIMIT. -/
def execStretchLimit (cmd : List Byte) (s : State) : Host.Outcome State Fault Refusal :=
  .next (if !s.panelOn || s.panel.waiting.isNone then s
    else match s.panel.stretched with
      | some (k, t) => (s.until (t + s.param 0x543 * usec)).notTaken k
      | none => s.notTaken (panelCmdOf cmd))

/-- PB_BUS_TIMEOUT: the target abandons a transfer. -/
def execPbBusTimeout (s : State) : Host.Outcome State Fault Refusal :=
  .next (if s.panelOn then
      (s.modPanel fun p => { p with snapshot := none, stretched := none }).raise Ev.PB_BUS_TIMEOUT
        [.u8 s.panel.pointer.toNat]
    else s)

/-- PB_BUS_STUCK: a line has been low for 100 ms. -/
def execPbBusStuck (lines : Nat) (s : State) : Host.Outcome State Fault Refusal :=
  .next (if s.panelOn && s.panel.stuckFrom.isNone then
      (s.modPanel fun p => { p with stuckFrom := some (s.now - 100 * msec), requestOn := false }).raise Ev.PB_BUS_STUCK
        [.u8 lines]
    else s)

/-- PB_BUS_FREE: both lines high for 10 ms. -/
def execPbBusFree (s : State) : Host.Outcome State Fault Refusal :=
  .next (match s.panel.stuckFrom with
    | some t => (s.modPanel fun p => { p with stuckFrom := none }).raise Ev.PB_BUS_FREE
        [.u16 (min 65535 ((s.now - 10 * msec - t) / msec))]
    | none => s)

/-! ### The in-band request (R351, R352) -/

/-- May the target make a request now? -/
def State.mayRequest (s : State) : Bool :=
  let p := s.panel
  let selected := ((p.reqHeld ||| p.reqFlags) &&& BitVec.ofNat 8 (s.param 0x545)) != 0
  let repeats := match p.requestAt with
    | some t => s.param 0x548 != 0 && decide (s.param 0x548 * msec ≤ s.since t)
    | none => false
  let spaced := match p.requestAt with
    | some t => decide ((s.param 0x546 + s.param 0x547) * usec ≤ s.since t)
    | none => true
  s.panelOn && s.param 0x544 == 1 && selected && p.stuckFrom.isNone && p.snapshot.isNone
    && (p.requestDue || repeats) && spaced

/-- PANEL_REQUEST: SDA goes low for pb.req.time. -/
def execPanelRequest (s : State) : Host.Outcome State Fault Refusal :=
  .next (if s.mayRequest then
      s.modPanel fun p => { p with requestOn := true, requestAt := some s.now, requestDue := false }
    else s)

/-- Report collisions, at most once per second (R352). -/
def State.collisionTick (s : State) : State :=
  let due := match s.panel.collisionsAt with
    | some t => decide (sec ≤ s.since t)
    | none => true
  if s.panel.collisions ≠ 0 && due then
    (s.modPanel fun p => { p with collisions := 0, collisionsAt := some s.now }).raise Ev.PB_REQUEST_COLLISION
      [.u16 (min 65535 s.panel.collisions)]
  else s

/-- REQUEST_COLLISION: the controller's START wins, and the request is made again. -/
def execRequestCollision (s : State) : Host.Outcome State Fault Refusal :=
  .next (if s.panelOn && s.panel.requestOn then
      (s.modPanel fun p => { p with
        requestOn := false, requestDue := true, collisions := p.collisions + 1 }).collisionTick
    else s)

/-! ### The panel in each tick -/

/-- Mailbox, reports and blink, before the doorways run. -/
def State.panelTick (s : State) : State :=
  if s.panelOn then
    let s1 := (s.collectTick.refusedTick).collisionTick
    let s2 := s1.modPanel fun p => { p with
      requestOn := p.requestOn && (match p.requestAt with
        | some t => decide (s.since t < s.param 0x546 * usec)
        | none => false) }
    s2.each [(0 : Doorway), 1] fun s d =>
      if s.panel.intercom[d] = 1 && decide (500 * msec ≤ s.since s.panel.blinkAt[d]) then s.blink d else s
  else s

end Sys2Proof.Machine
end

