-- ==== Sys2Proof/Machine/Time.lean ====
section
/-!
DEFINITION. Time and scheduled actions, chapter 15: sources (R358 to R361), error and quality (R362), slew and step
(R363, R364), TPO (R365), the RTC (R367, R368) and the schedule (R370 to R373).
-/

namespace Sys2Proof.Machine

/-! ### Error and quality (R362, Table TM-3) -/

def sourceNo : TimeSource → Nat
  | .none => 0 | .frames => 1 | .host => 2 | .tpi => 3 | .holdover => 4 | .rtc => 5
/-- Is it a source of rank 1 to 3? -/
def TimeSource.measured : TimeSource → Bool
  | .frames | .host | .tpi => true
  | _ => false

/-- R257 is in force: the active core runs on its RC clock. -/
def State.oscFallback (s : State) : Bool := s.power.osc[s.activeCore]

def errMax : Nat := 0xFFFFFFFF

/-- The estimate e (R362): of a source its offset not yet removed plus the source error; in holdover it grows. -/
def State.errNow (s : State) : Nat :=
  let t := s.time
  if t.unset then errMax
  else if t.source.measured then
    let o := match t.stepPending with
      | some o => o.natAbs
      | none => t.slewLeft.natAbs / 10 ^ 9
    min errMax (o + t.srcErr + t.roleErr)
  else min errMax (t.e0 + t.roleErr + s.param 0x4E4 * s.since t.holdFrom / 10 ^ 9)

/-- The quality (Table TM-3). -/
def State.qualityNow (s : State) : Quality :=
  let t := s.time
  if t.unset || s.oscFallback then .free
  else if t.source.measured && decide (4 ≤ t.goodRun) && (t.source != .frames || t.masterClass == 0) then .locked
  else if s.errNow < 10 ^ 6 then .holdover else .free

/-- Judge e and the quality; TM_QUALITY at each change. -/
def State.judgeTime (s : State) : State :=
  let q := s.qualityNow
  let old := s.time.quality
  let s1 := s.modTime fun t => { t with err := s.errNow, quality := q }
  if q = old then s1
  else s1.raise Ev.TM_QUALITY [.u8 (qualityCode old), .u8 (qualityCode q), .u8 (sourceNo s.time.source),
    .u32 (s.errNow / 1000)]

/-! ### Choosing a source (R361) -/

/-- The highest-ranked valid source that is enabled. -/
def State.bestSource (s : State) : Option TimeSource :=
  let ok (k : Fin 3) : Bool := s.time.valid[k] && bit (s.param 0x4E0) k.val
  if ok 0 then some .frames else if ok 1 then some .host else if ok 2 then some .tpi else none

/-- Select the source; TM_SOURCE at each change. Losing the last one starts holdover from the present estimate;
the first one after unset time sets it (R368). -/
def State.selectSource (s : State) : State :=
  let old := s.time.source
  let new := match s.bestSource with
    | some k => k
    | none => if old.measured then .holdover else old
  if new = old then s
  else
    let e := s.errNow
    let s1 := s.modTime fun t => { t with
      source := new, reference := none,
      e0 := if new.measured then t.e0 else e, roleErr := if new.measured then t.roleErr else 0, holdFrom := if new.measured then t.holdFrom else s.now,
      srcErr := if new = .host then t.srcErr else 1000,
      stepFirst := t.stepFirst || (t.unset && new.measured), unset := t.unset && !new.measured }
    s1.raise Ev.TM_SOURCE [.u8 (sourceNo old), .u8 (sourceNo new)]

/-! ### Measurement, slew and step (R361, R363, R364) -/

/-- The rate a slew of `o` ns takes: gone in a second, and at most 100 us in each second (R363). -/
def slewRate (o : Int) : Int := -(sgn o) * (min o.natAbs 100000 : Nat)

/-- Take a measured offset: within the lock band, slewing, or a step pending; the action codes of OP_TIME_SET. The
steering of r towards the source's rate is a free value (log 2). -/
def State.takeOffset (s : State) (o : Int) : State × Nat :=
  let t := s.time
  let good := decide (o.natAbs + t.srcErr ≤ 10000)
  let free := s.fresh
  let steer : Int := (free.1 % 200001 : Nat) - 100000
  let s1 := free.2.modTime fun t => { t with
    offset := o, measuredAt := s.now, reference := none, roleErr := 0, goodRun := if good then min 4 (t.goodRun + 1) else 0,
    steer := steer }
  if t.stepFirst || decide (2000000 < o.natAbs) then
    let s2 := s1.modTime fun t => { t with stepPending := some o, slew := 0, slewLeft := 0, slewRaised := false }
    (if t.stepPending.isSome then s2
      else s2.raise Ev.TM_STEP_PENDING [itemS (o / 1000000), .u8 (sourceNo t.source)], 3)
  else
    let begins := decide (10000 < o.natAbs) && !t.slewRaised
    let s2 := s1.modTime fun t => { t with
      stepPending := none, slewLeft := o * 10 ^ 9, slew := slewRate o,
      slewRaised := t.slewRaised || begins, slewFrom := if begins then s.now else t.slewFrom }
    (if begins then s2.raise Ev.TM_SLEW_START [itemS (o / 1000), .u8 (sourceNo t.source)] else s2,
      if o.natAbs ≤ 10000 then 1 else 2)

/-- The once-a-second measurement of sources 1 and 3 (R361). -/
def State.measure (s : State) : State :=
  match s.time.reference with
  | some o => (s.takeOffset o).1.judgeTime
  | none => s

/-- OFFSET_MEASURE. -/
def execOffsetMeasure (s : State) : Host.Outcome State Fault Refusal := .next s.measure

/-- A slew is down to 10 us (R363). -/
def State.slewDone (s : State) : State :=
  if s.time.slewRaised && decide (s.time.slewLeft.natAbs ≤ 10000 * 10 ^ 9) then
    (s.modTime fun t => { t with slewRaised := false }).raise Ev.TM_SLEW_DONE
      [.u16 (min 65535 (s.since s.time.slewFrom / sec))]
  else s

/-- Leaf states in which no edge is quiet (R364). -/
def busyLeaf (l : Leaf) : Bool :=
  l == .unlocking || l == .opening || l == .warn || l == .closing || l == .reopening || l == .locking

/-- Frame time after a step by `o`. -/
def State.stepTo (s : State) (o : Int) : Int := (s.tai : Int) - o

/-- Is the edge a quiet point for a step by `o` (R364)? -/
def State.quietPoint (s : State) (o : Int) : Bool :=
  let near (t x : Int) : Bool := decide ((t - x).natAbs ≤ sec)
  let fromTpo := match s.time.tpoAt with
    | some t => if s.time.tpo || s.param 0x4E9 == 1 && !s.time.unset then s.since t else s.tai % sec
    | none => s.tai % sec
  (List.finRange 4).all (fun a => s.axes[a].plan.isNone && s.axes[a].cmd.isNone)
    && s.enabledDoors.all (fun d => !busyLeaf s.doors.door[d].leaf)
    && s.time.sched.all (fun q => !near q.execTime s.tai && !near q.execTime (s.stepTo o))
    && decide (150 * msec ≤ fromTpo) && decide (fromTpo ≤ 850 * msec)

/-- The pending step is made: crossed actions are refused, TM_STEP and a time-step record follow (R364). -/
def State.doTimeStep (s : State) (o : Int) : State :=
  let old := s.tai
  let new := (s.stepTo o).toNat
  let crossed := s.time.sched.filter fun q => decide (min old new < q.execTime) && decide (q.execTime < max old new)
  let s1 := s.modTime fun t => { t with
    sched := t.sched.filter fun q => !crossed.contains q,
    te := ((t.te : Int) - o * 10 ^ 9).toNat, stepPending := none, stepFirst := false, slewLeft := 0, slew := 0,
    lastStep := new, tpoStepped := true, tpoSecond := new / sec, reference := none }
  let s2 := s1.judgeTime
  let s3 := s2.each crossed fun s q =>
    (s.fail q.req (schedOpcode q.op) ST_TIME_QUALITY (qualityCode s.time.quality)).raise Ev.TM_SCHED_REFUSED
      [.u8 ((portOf q.req.party).elim 3 portNum), .u32 q.req.hseq.toNat, .u8 5]
  let s4 := s3.raise Ev.TM_STEP [itemS (((new : Int) - old) / 1000000), .u8 crossed.length]
  s4.stage (s4.mkRecord true s4.tai (.timeStep old new o (sourceNo s.time.source) crossed.length
    (qualityCode s.time.quality) (qualityCode s4.time.quality) s.time.err) none)

/-- TIME_STEP. -/
def State.stepTick (s : State) : State :=
  match s.time.stepPending with
  | some o => if s.quietPoint o then s.doTimeStep o else s
  | none => s
def execTimeStep (s : State) : Host.Outcome State Fault Refusal := .next s.stepTick

/-! ### Time frames and TPI (R358, R359, R366) -/

/-- TAI − UTC in use (R366). -/
def State.taiUtc (s : State) : Nat := s.time.taiUtc.getD (s.param 0x4EA)
def State.takeTaiUtc (s : State) (v : Nat) : State :=
  let old := s.taiUtc
  let s1 := s.modTime fun t => { t with taiUtc := some v }
  if old = v then s1 else s1.raise Ev.TM_LEAP [.u8 old, .u8 v]

/-- The check byte of a time frame (Table TM-2). -/
def timeFrameGood (data : List Byte) : Bool :=
  data.length == 8 && data.getD 7 0 == (data.take 7).foldl (fun (c : Byte) (b : Byte) => c ^^^ b) 0xFF

/-- A source that is no longer valid. -/
def State.sourceInvalid (s : State) (k : Fin 3) : State :=
  (s.modTime fun t => { t with
    valid := updV t.valid k fun _ => false, labelRun := if k = 0 then 0 else t.labelRun }).selectSource

/-- A time frame: its label waits for the edge that follows (R358). -/
def State.timeFrame (s : State) (stamp : BitVec 48) (data : List Byte) : State :=
  if !timeFrameGood data then
    (s.modTime fun t => { t with frameFaults := t.frameFaults + 1 }).raise Ev.TM_FRAME_FAULT [.u8 1]
  else
    let cls := byteAt data 6 % 4
    let s1 := (s.takeTaiUtc (byteAt data 5)).modTime fun t => { t with
      labelled := some (leAt data 0 5, stamp), masterClass := cls }
    if cls = 2 then (s1.raise Ev.TM_FRAME_FAULT [.u8 3]).sourceInvalid 0
    else if cls = 3 then s1.modTime fun t => { t with labelled := none, labelRun := 0 }
    else s1

/-- TIME_FRAME; it also reaches receive queues whose filters match (R358). -/
def execTimeFrame (stamp : BitVec 48) (data : List Byte) (s : State) : Host.Outcome State Fault Refusal :=
  .next (if s.busHears .t then
      (s.acceptFrame .t { fmt := 0, ide := true, id := BitVec.ofNat 29 (s.param 0x4E1), data := data }).timeFrame stamp data
    else s)

/-- Signed distance of two bus counter values. -/
def stampDiff (a b : BitVec 48) : Int := (a - b).toInt

/-- Frame time of a bus counter value of the active core, ns (R357). -/
def State.timeAt (s : State) (c : BitVec 48) : Int :=
  ((s.time.te : Int) + stampDiff c s.time.ce[s.activeCore] * 10 * (10 ^ 9 + s.time.rate)) / 10 ^ 9

/-- A label given to an edge (R358): a time frame whose start lies between 990 ms and 10 ms before it. -/
def TimeSt.labelOf (t : TimeSt) (stamp : BitVec 48) : Option Nat :=
  match t.labelled with
  | some (l, at_) =>
    let d := 10 * (stamp - at_).toNat
    if 10 * msec ≤ d ∧ d ≤ 990 * msec then some l else none
  | none => none

/-- The labels of the accepted edges (R358). -/
def State.takeLabel (s : State) (label : Option Nat) : State :=
  match label with
  | none => s.modTime fun t => { t with lastLabel := none, labelRun := 0, labelled := none }
  | some l =>
    let follows := match s.time.lastLabel with
      | some k => l == k + 1
      | none => true
    let s1 := s.modTime fun t => { t with
      lastLabel := some l, labelRun := if follows then t.labelRun + 1 else 1, lastLabelledAt := s.now, labelled := none }
    if follows then
      if 3 ≤ s1.time.labelRun && s1.time.masterClass < 2 then
        s1.modTime fun t => { t with valid := updV t.valid 0 fun _ => true }
      else s1
    else (s1.raise Ev.TM_FRAME_FAULT [.u8 2]).modTime fun t => { t with valid := updV t.valid 0 fun _ => false }

/-- An accepted edge: runs, validity, selection, and the offset at it (R359, R361). -/
def State.tpiAccept (s : State) (stamp : BitVec 48) : State :=
  let label := s.time.labelOf stamp
  let s1 := s.modTime fun t => { t with
    tpiStamp := some stamp, tpiAt := s.now, tpiRun := t.tpiRun + 1,
    tpiRunOk := if t.tpiRun = 0 then decide (s.errNow < 500 * msec) else t.tpiRunOk }
  let s2 := s1.takeLabel label
  let s3 := (s2.modTime fun t => { t with
    valid := if 3 ≤ t.tpiRun && t.tpiRunOk then updV t.valid 2 fun _ => true else t.valid }).selectSource
  let here := s.timeAt stamp - s.param 0x4E2
  let source := match s3.time.source, label with
    | .frames, some l => some (here - (l * sec : Nat))
    | .tpi, _ => some (here - ndiv here.toNat sec * (sec : Nat))
    | _, _ => none
  s3.modTime fun t => { t with reference := source.or t.reference }

/-- An edge that is ignored (R359). -/
def State.tpiFault (s : State) (kind : Nat) : State :=
  (s.modTime fun t => { t with tpiRun := 0, tpiStamp := none }).raise Ev.TM_TPI_FAULT [.u8 kind]

/-- TPI_EDGE (R359): an edge with its stamp and the width of its pulse in ns. -/
def execTpiEdge (stamp : BitVec 48) (width : Nat) (s : State) : Host.Outcome State Fault Refusal :=
  let period := match s.time.tpiStamp with
    | some t => decide ((10 * (stamp - t).toNat : Int) - sec ≤ msec) && decide (-(msec : Int) ≤ (10 * (stamp - t).toNat : Int) - sec)
    | none => true
  .next (if width < 10 * usec || 900 * msec < width then s.tpiFault 1
    else if !period then s.tpiFault 2
    else s.tpiAccept stamp)

/-- A source is lost: time.src.loss has passed without an edge (R358, R359). -/
def State.lossDue (s : State) (src : TimeSrcId) : Option Nat :=
  match src with
  | .frames => if s.time.valid[(0 : Fin 3)] then some (s.time.lastLabelledAt + s.param 0x4E6 * sec) else none
  | .tpi => if s.time.valid[(2 : Fin 3)] then some (s.time.tpiAt + s.param 0x4E6 * sec) else none
def State.sourceLost (s : State) (src : TimeSrcId) : State :=
  match src with
  | .frames => (s.sourceInvalid 0).judgeTime
  | .tpi => ((s.modTime fun t => { t with tpiRun := 0, tpiStamp := none }).sourceInvalid 2).judgeTime

/-- SOURCE_LOSS. -/
def execSourceLoss (src : TimeSrcId) (s : State) : Host.Outcome State Fault Refusal :=
  .next (match s.lossDue src with
    | some t => (s.until t).sourceLost src
    | none => s)

/-! ### Host set (R360) -/

/-- When the last host set lapses. -/
def State.refreshDue (s : State) : Option Nat :=
  if s.time.valid[(1 : Fin 3)] then some (s.time.hostSetAt + s.param 0x4E5 * sec) else none

/-- HOST_REFRESH_EXPIRED. -/
def execHostRefreshExpired (s : State) : Host.Outcome State Fault Refusal :=
  .next (match s.refreshDue with
    | some t => ((s.until t).sourceInvalid 1).judgeTime
    | none => s)

/-- Frame time at the reference moment of a host set, ns (R360). -/
def State.setMoment (s : State) (r : Req) (tick : BitVec 32) : Int :=
  match r.party, r.stamp with
  | .p2, some c => s.timeAt c
  | .p0, _ | .p1, _ => (s.tai : Int) - (s.tick - tick).toNat * tickNs
  | _, _ => s.tai

/-- OP_TIME_SET: not applied while source 1 is valid or sets are disabled. -/
def State.doTimeSet (s : State) (r : Req) (tai : Nat) (tick : BitVec 32) (err taiUtc : Nat) : State :=
  let oc := Opc.OP_TIME_SET
  let host := r.party == .p0 || r.party == .p1
  if host && decide (20000 < (s.tick - tick).toNat) then s.fail r oc ST_RANGE (argOff 24)
  else
    let o := s.setMoment r tick - tai
    let e := min errMax (if r.party = .p4 then err + msec else err)
    let out :=
      if s.time.valid[(0 : Fin 3)] || !bit (s.param 0x4E0) 1 then (s, 0)
      else
        let s1 := (s.modTime fun t => { t with
          valid := updV t.valid 1 fun _ => true, hostSetAt := s.now, srcErr := e }).selectSource
        s1.takeOffset o
    let s2 := if out.2 ≠ 0 && taiUtc ≠ 0xFF then out.1.takeTaiUtc taiUtc else out.1
    let s3 := s2.judgeTime.raise Ev.TM_HOST_SET
      [.u8 ((portOf r.party).elim 3 portNum), .u8 out.2, itemS (o / 1000), .u16 (min 65535 (e / 1000))]
    s3.ok r oc (leBytes 1 out.2 ++ [0, 0, 0] ++ leBytes 8 (unsigned 64 o))
def execOpTimeSet (r : Req) (tai : Nat) (tick : BitVec 32) (err : Nat) (taiUtc : Nat) (s : State) :
    Host.Outcome State Fault Refusal := .next (s.doTimeSet r tai tick err taiUtc)

/-- The time record (Table TM-9). -/
def State.timeRecord (s : State) : List Byte :=
  let t := s.time
  leBytes 8 s.tai ++ leBytes 8 t.ce[s.activeCore].toNat ++ leBytes 4 s.tick.toNat ++ leBytes 4 (unsigned 32 t.rate)
    ++ leBytes 4 t.err ++ leBytes 1 (qualityCode t.quality) ++ leBytes 1 (sourceNo t.source) ++ leBytes 1 s.taiUtc
    ++ leBytes 1 (maskOf 5 fun i => match i with
      | 0 => t.slewLeft != 0
      | 1 => t.stepPending.isSome
      | 2 => t.unset
      | 3 => s.oscFallback
      | _ => t.masterClass == 1 && t.source == .frames)
    ++ leBytes 4 (unsigned 32 (t.slewLeft / 10 ^ 9)) ++ leBytes 8 t.lastStep ++ leBytes 1 t.sched.length ++ [0, 0, 0]

/-- OP_TIME_READ (R357, Table TM-8). -/
def State.doTimeRead (s : State) (r : Req) : State :=
  let oc := Opc.OP_TIME_READ
  if r.bufLen ≠ 0 ∧ r.bufLen ≠ 48 then s.fail r oc ST_RANGE (argOff 32)
  else
    (if r.bufLen = 0 then s else s.copyOut r s.timeRecord).ok r oc
      (leBytes 8 s.tai ++ leBytes 1 (qualityCode s.time.quality) ++ leBytes 1 (sourceNo s.time.source)
        ++ leBytes 2 (min 65535 (s.time.err / 1000)))
def execOpTimeRead (r : Req) (s : State) : Host.Outcome State Fault Refusal := .next (s.doTimeRead r)

/-! ### TPO and the RTC (R365, R367) -/

/-- TPO rises at a whole second of frame time; the RTC is copied (R365, R367). -/
def State.tpoRise (s : State) (second : Nat) : State :=
  let late := s.tai - second * sec
  let spaced := match s.time.tpoAt with
    | some t => !s.time.tpoStepped || decide (sec ≤ s.now - late - t)
    | none => true
  if s.param 0x4E9 = 1 && !s.time.unset && spaced then
    s.modTime fun t => { t with
      tpo := true, tpoAt := some (s.now - late), tpoSecond := second, tpoStepped := false,
      rtc := s.tai, rtcValid := true, rtcErr := t.err }
  else s.modTime fun t => { t with tpoSecond := second }

/-- TPO_PULSE: the next whole second of frame time. -/
def execTpoPulse (s : State) : Host.Outcome State Fault Refusal :=
  let next := max (s.time.tpoSecond + 1) (s.tai / sec)
  let s1 := s.pass (next * sec - s.tai)
  .next (s1.tpoRise next)

/-- TPO in each tick: it rises at each whole second and stays high for 100 ms. -/
def State.tpoTick (s : State) : State :=
  let s1 := match s.time.tpoAt with
    | some t => if s.time.tpo && decide (100 * msec ≤ s.since t) then s.modTime fun t => { t with tpo := false } else s
    | none => s
  let s2 := if s1.param 0x4E9 = 0 || s1.time.unset then s1.modTime fun t => { t with tpo := false } else s1
  if s2.time.tpoSecond < s2.tai / sec then s2.tpoRise (s2.tai / sec) else s2

/-- Frame time from the RTC at a full start or fast restart, `off` ns after the frame went off; none within the
backup store's time leaves it unset (R367, R368). Beyond the seven days the manual states, whether the store lasts
is a free value (log 2). -/
def State.timeStart (s : State) (off : Nat) : State :=
  let free := s.fresh
  let alive := s.time.rtcValid && (decide (off ≤ 7 * 86400 * sec) || free.1 % 2 == 1)
  let base := free.2.modTime fun t => { t with
    steer := 0, slew := 0, slewLeft := 0, valid := .replicate 3 false, labelled := none, lastLabel := none, labelRun := 0,
    tpiStamp := none, tpiRun := 0, reference := none, slewRaised := false, stepPending := none, stepFirst := false,
    goodRun := 0, lastStep := 0, roleErr := 0, holdFrom := s.now, tpo := false, tpoAt := none, tpoStepped := false, source := .rtc,
    rtcValid := alive }
  if alive then
    let steps := s.time.rtc * 32768 / 10 ^ 9
    let now := steps * 10 ^ 9 / 32768
    let e := min errMax (s.time.rtcErr + 20000 * off / 10 ^ 9)
    let s1 := base.modTime fun t => { t with te := now * 10 ^ 9, unset := false, e0 := e, err := e, tpoSecond := now / sec }
    s1.judgeTime.raise Ev.TM_RTC [.u32 (off / sec), .u32 (e / 1000000)]
  else
    let last := match s.journal.nand[s.activeCore].held with
      | r :: _ => r.stamp
      | [] => 0
    let s1 := base.modTime fun t => { t with
      te := last * 10 ^ 9, unset := true, e0 := errMax, err := errMax, tpoSecond := last / sec, source := .none }
    s1.judgeTime.raise Ev.TM_UNSET []

/-- Time after SLEEP or DEEP (R369): no source is measured, and the estimate has grown at `ppb`. Without the time
bank the quality is FREE: e is free from 1 ms up (log 2). -/
def State.timeWake (s : State) (bank : Bool) (ppb slept : Nat) : State :=
  let free := s.fresh
  let e := if bank then min errMax (s.time.err + ppb * slept / 10 ^ 9) else min errMax (10 ^ 6 + free.1)
  (free.2.modTime fun t => { t with
    valid := .replicate 3 false, labelled := none, lastLabel := none, labelRun := 0, tpiStamp := none, tpiRun := 0,
    reference := none, goodRun := 0, source := if t.source.measured then .holdover else t.source,
    e0 := e, roleErr := 0, holdFrom := s.now, tpoSecond := s.tai / sec }).judgeTime

/-! ### The schedule (R370 to R373, R375) -/

/-- Checks of a scheduled descriptor after those of R298: the status, its detail, and the reason of Table TM-6. -/
def State.schedCheck (s : State) (p : PortId) (atTime needLocked : Bool) (exec : Nat) : Option (Byte × Nat × Nat) :=
  let q := s.time.quality
  let mine := (s.time.sched.filter fun a => portOf a.req.party == some p).length
  if needLocked && !atTime then some (ST_BAD_FIELD, 2, 0)
  else if exec = 0 then some (ST_BAD_FIELD, 8, 0)
  else if s.time.unset || s.oscFallback then some (ST_TIME_QUALITY, qualityCode q, 6)
  else if needLocked && q != .locked then some (ST_TIME_QUALITY, qualityCode q, 1)
  else if exec < s.tai + s.param 0x4E7 * usec ∨ s.tai + s.param 0x4E8 * sec < exec then some (ST_RANGE, argOff 8, 3)
  else if 32 ≤ s.time.sched.length ∨ 16 ≤ mine then some (ST_STATE, 0xFFFF, 4)
  else none

/-- A request that runs at its execution edge is placed ahead of those its party has fetched (R371). -/
def aheadOf (w : Waiting) : List Waiting → List Waiting
  | [] => [w]
  | k :: rest => if k.req.party = w.req.party then w :: k :: rest else k :: aheadOf w rest

/-- At its execution edge an action enters the resolver, or is refused (R371, R372). -/
def State.runSched (s : State) (q : SchedAction) : State :=
  let s1 := s.modTime fun t => { t with sched := t.sched.filter fun x => !(x == q) }
  let port := (portOf q.req.party).elim 3 portNum
  if q.needLocked && s.time.quality != .locked then
    (s1.fail q.req (schedOpcode q.op) ST_TIME_QUALITY (qualityCode s.time.quality)).raise Ev.TM_SCHED_REFUSED
      [.u8 port, .u32 q.req.hseq.toNat, .u8 2]
  else
    let s2 := { s1 with doors := { s1.doors with requests := aheadOf { req := { q.req with timed := true }, op := q.op } s1.doors.requests } }
    s2.raise Ev.TM_SCHED_EXEC [.u8 port, .u32 q.req.hseq.toNat, .u16 (schedOpcode q.op).toNat,
      .u8 (unsigned 8 (((s.tai : Int) - q.execTime) / 1000))]

/-- Is the edge the one nearest to the execution time, or past it? A tie goes to the later edge (R371). -/
def State.schedDue (s : State) (q : SchedAction) : Bool := decide (q.execTime < s.tai + 25000)

/-- In order of execution time; the order they came in among equals. -/
def insertSched (q : SchedAction) : List SchedAction → List SchedAction
  | [] => [q]
  | k :: rest => if q.execTime ≤ k.execTime then q :: k :: rest else k :: insertSched q rest

/-- The due actions of the tick, the earliest first. -/
def State.schedTick (s : State) : State :=
  let due := s.time.sched.filter s.schedDue
  s.each (due.foldr insertSched []) State.runSched

/-- SCHED_EXEC: a pending action reaches its execution edge. -/
def execSchedExec (p : PortId) (hseq : BitVec 32) (s : State) : Host.Outcome State Fault Refusal :=
  .next (match s.time.sched.find? fun q => portOf q.req.party == some p && q.req.hseq == hseq with
    | some q => (s.pass ((q.execTime - s.tai + 24999) / tickNs * tickNs)).runSched q
    | none => s)

/-- OP_SCHED_CANCEL (R375, Table TM-4). -/
def State.doSchedCancel (s : State) (r : Req) (hseq : BitVec 32) : State :=
  let oc := Opc.OP_SCHED_CANCEL
  match s.time.sched.find? fun q => q.req.party == r.party && q.req.hseq == hseq with
  | none => s.fail r oc ST_RANGE (argOff 16)
  | some q =>
    let s1 := s.modTime fun t => { t with sched := t.sched.filter fun x => !(x == q) }
    ((s1.fail q.req (schedOpcode q.op) ST_PREEMPTED r.hseq.toNat).raise Ev.TM_SCHED_CANCELLED
      [.u8 ((portOf q.req.party).elim 3 portNum), .u32 hseq.toNat, .u8 1]).ok r oc [1]
def execOpSchedCancel (r : Req) (hseq : BitVec 32) (s : State) : Host.Outcome State Fault Refusal :=
  .next (s.doSchedCancel r hseq)

/-! ### Time in each tick -/

/-- Losses, measurement, slew, step, TPO, quality, and the actions of the edge. -/
def State.timeTick (s : State) : State :=
  let passed (t : Option Nat) : Bool := t.any fun t => decide (t ≤ s.now)
  let s1 := if passed (s.lossDue .frames) then s.sourceLost .frames else s
  let s2 := if passed (s.lossDue .tpi) then s1.sourceLost .tpi else s1
  let s3 := if passed s.refreshDue then s2.sourceInvalid 1 else s2
  let s4 := s3.selectSource
  (((s4.measure.slewDone).stepTick.tpoTick).judgeTime).schedTick

end Sys2Proof.Machine
end

