-- ==== Sys2Proof/Machine/Journal.lean ====
section
/-!
DEFINITION. The journal's commands and timers, chapter 16: programs of the page image (R382), reading (R390 to R392),
the retention area (R387) and notes (R393).
-/

namespace Sys2Proof.Machine

/-- JOURNAL_GAP_RECORD (R137): staging falls below 256 after unstaged events. -/
def execJournalGapRecord (s : State) : Host.Outcome State Fault Refusal := .next s.gapRecord

/-- PRIORITY_TAIL_PROGRAM: 1 ms after a priority record entered the page image. -/
def execPriorityTailProgram (core : CoreId) (s : State) : Host.Outcome State Fault Refusal :=
  .next (match s.journal.nand[core].oldest true with
    | some t => (s.until (t + msec)).startProgram core .tail
    | none => s)

/-- ORDINARY_WAIT_EXPIRED: journal.ordinary.wait after the oldest uncommitted ordinary record entered it. -/
def execOrdinaryWaitExpired (core : CoreId) (s : State) : Host.Outcome State Fault Refusal :=
  .next (match s.journal.nand[core].oldest false with
    | some t => (s.until (t + s.param 0x565 * msec)).startProgram core .tail
    | none => s)

/-! ### Reading (R390 to R392) -/

/-- The core whose journal a party reads: its own port's on P4, else the active core's (R279, R392). -/
def State.readCore (s : State) (r : Req) : CoreId := if r.party = .p4 then r.core else s.activeCore

/-- Records of an area in number order. -/
def NandSt.area (n : NandSt) (area : Nat) : List Record := if area = 0 then n.held.reverse else n.retention

/-- Does a record pass the filters of a read (Table JR-5)? -/
def passesRead (typeMask doorId : Nat) (r : Record) : Bool :=
  (typeMask == 0 || bit typeMask r.body.type) && (match r.body with
    | .cycle c => doorId == 0xFFFF || c.doorId == doorId
    | _ => true)

def isGap (r : Record) : Bool :=
  match r.body with
  | .gapUnstaged .. | .gapSkipped .. => true
  | _ => false

/-- Where a read starts, and the flags 0 and 3 of its result with the records lost (R391). -/
def startOf (rs : List Record) (mode start : Nat) (cursor : Option Nat) : Nat × Bool × Nat :=
  let oldest := match rs with
    | r :: _ => r.number
    | [] => 0
  match mode with
  | 0 => (max start oldest, decide (start < oldest), 0)
  | 1 => (match rs.find? fun r => decide (start ≤ r.committed) with
      | some r => (r.number, false, 0)
      | none => (match rs.getLast? with
          | some r => r.number + 1
          | none => 0, false, 0))
  | _ => match cursor with
    | some k => (max k oldest, false, oldest - k)
    | none => (oldest, false, 0)

/-- Copy records until the count is met; `bad` are those that fail their CRC (R391). Answers the copied records and
the failed ones met, and whether the newest was reached. -/
def copyRecords (typeMask doorId : Nat) (bad : List Nat) : Nat → List Record → List Record → List Nat →
    List Record × List Nat × Bool
  | _, [], got, failed => (got.reverse, failed.reverse, true)
  | 0, _ :: _, got, failed => (got.reverse, failed.reverse, false)
  | k + 1, r :: rest, got, failed =>
    if !passesRead typeMask doorId r then copyRecords typeMask doorId bad (k + 1) rest got failed
    else if bad.contains r.number then copyRecords typeMask doorId bad (k + 1) rest got (r.number :: failed)
    else copyRecords typeMask doorId bad k rest (r :: got) failed

/-- Records on P2: kind 3, two FD frames each or up to 16 in an XL frame (R392). -/
def groups (n : Nat) : Nat → List Record → List (List Record)
  | 0, _ => []
  | k + 1, rs => if rs.isEmpty then [] else rs.take n :: groups n k (rs.drop n)
def State.sendRecords (s : State) (rs : List Record) : State :=
  if s.param 0x52A = 1 then s.each (groups 16 rs.length rs) fun s g => s.sendP2 3 (g.flatMap Record.bytes)
  else s.each rs fun s r => (s.sendP2 3 (r.bytes.take 64)).sendP2 3 (r.bytes.drop 64)

/-- A read that can be settled now: records, the result, the cursor (Table JR-6). -/
def State.readNow (s : State) (r : Req) (reader : Fin 4) (mode area typeMask doorId count start : Nat)
    (bad : List Nat) : State × Nat :=
  let rs := s.journal.nand[s.readCore r].area area
  let at_ := startOf rs mode start s.journal.cursors[reader]
  let copied := copyRecords typeMask doorId bad count (rs.filter fun x => decide (at_.1 ≤ x.number)) [] []
  let port := (portOf r.party).elim 3 portNum
  let s1 := if at_.2.2 = 0 then s else s.raise Ev.JR_READ_OVERRUN [.u8 port, .u8 reader.val, .u32 at_.2.2]
  let s2 := s1.each copied.2.1 fun s n => s.raise Ev.JR_CRC [.u32 n, .u8 area]
  let s3 := match copied.1.getLast? with
    | some x => s2.modJournal fun j => { j with cursors := updV j.cursors reader fun _ => some (x.number + 1) }
    | none => s2
  let s4 := if r.party = .p2 then s3.sendRecords copied.1 else s3.copyOut r (copied.1.flatMap Record.bytes)
  let flags := Bool.nat at_.2.1 + 2 * Bool.nat copied.2.2 + 4 * Bool.nat (copied.1.any isGap)
    + 8 * Bool.nat (decide (at_.2.2 ≠ 0))
  (s4.ok r Opc.OP_JOURNAL_READ (leBytes 8 (match copied.1 with
      | x :: _ => x.number
      | [] => 0) ++ leBytes 2 copied.1.length ++ leBytes 1 flags), copied.1.length)

/-- A mode-2 read with a wait has something to copy. -/
def State.readReady (s : State) (r : Req) (reader : Fin 4) (area typeMask doorId : Nat) : Bool :=
  let rs := s.journal.nand[s.readCore r].area area
  let at_ := startOf rs 2 0 s.journal.cursors[reader]
  rs.any fun x => decide (at_.1 ≤ x.number) && passesRead typeMask doorId x

/-- OP_JOURNAL_READ. -/
def State.doJournalRead (s : State) (r : Req) (reader mode area typeMask doorId count start wait : Nat) (bad : List Nat) :
    State :=
  let oc := Opc.OP_JOURNAL_READ
  match asFin 4 reader with
  | none => s.fail r oc ST_RANGE (argOff 16)
  | some k =>
    if 2 < mode then s.fail r oc ST_RANGE (argOff 17)
    else if 1 < area then s.fail r oc ST_RANGE (argOff 18)
    else if count = 0 ∨ 8192 < count then s.fail r oc ST_RANGE (argOff 22)
    else if r.party ≠ .p2 ∧ r.bufLen ≠ 128 * count then s.fail r oc ST_RANGE (argOff 32)
    else if 10000 < wait ∨ (mode ≠ 2 ∧ wait ≠ 0) then s.fail r oc ST_RANGE (argOff 44)
    else if s.notOwner r (.reader reader) then s.failOwner r oc (.reader reader)
    else if mode = 2 ∧ wait ≠ 0 ∧ !s.readReady r k area typeMask doorId then
      s.modJournal fun j => { j with waiting := j.waiting ++ [{
        req := r, reader := k, area := area, typeMask := typeMask, doorId := doorId, count := count,
        bufLen := r.bufLen, dueAt := s.now + wait * msec }] }
    else (s.readNow r k mode area typeMask doorId count start bad).1
def execOpJournalRead (r : Req) (reader mode area typeMask doorId count : Nat) (start : Nat) (wait : Nat)
    (bad : List Nat) (s : State) : Host.Outcome State Fault Refusal :=
  .next (s.doJournalRead r reader mode area typeMask doorId count start wait bad)

/-- A waiting read is settled. -/
def State.endWait (s : State) (w : WaitingRead) : State :=
  ((s.modJournal fun j => { j with waiting := j.waiting.filter fun x => !(x == w) }).readNow w.req w.reader 2 w.area
    w.typeMask w.doorId w.count 0 []).1

/-- JOURNAL_READ_WAIT_EXPIRED. -/
def execJournalReadWaitExpired (reader : Fin 4) (s : State) : Host.Outcome State Fault Refusal :=
  .next (match s.journal.waiting.find? fun w => w.reader == reader with
    | some w => (s.until w.dueAt).endWait w
    | none => s)

/-- Waiting reads that have a record, or whose wait has passed. -/
def State.waitingTick (s : State) : State :=
  s.each s.journal.waiting fun s w =>
    if w.dueAt ≤ s.now || s.readReady w.req w.reader w.area w.typeMask w.doorId then s.endWait w else s

/-- JOURNAL_PROGRAM_DONE (R382, R386); a waiting read may then have its record. -/
def execJournalProgramDone (core : CoreId) (good : Bool) (page plane : Nat) (blockBad : Bool) (s : State) :
    Host.Outcome State Fault Refusal :=
  .next (if good then (s.programGood core).waitingTick else (s.programBad core page plane blockBad).waitingTick)

/-! ### Status (Tables JR-5, JR-6) -/

def newestOf (n : NandSt) : Nat := match n.held with
  | r :: _ => r.number
  | [] => 0
def oldestOf (n : NandSt) : Nat := (n.held.getLast?.map (·.number)).getD 0

/-- The 64-byte status buffer. -/
def State.journalStatus (s : State) (c : CoreId) : List Byte :=
  let n := s.journal.nand[c]
  leBytes 8 (newestOf n) ++ leBytes 8 (oldestOf n)
    ++ leBytes 8 ((n.retention.head?.map (·.number)).getD 0) ++ leBytes 8 ((n.retention.getLast?.map (·.number)).getD 0)
    ++ leBytes 8 n.backfillOldest ++ leBytes 8 n.lastShutdown ++ leBytes 4 s.journal.stagedPrio.length
    ++ leBytes 4 s.journal.unstaged ++ leBytes 4 s.journal.startCount.toNat ++ leBytes 4 0

def State.doJournalStatus (s : State) (r : Req) : State :=
  let oc := Opc.OP_JOURNAL_STATUS
  let c := s.readCore r
  let n := s.journal.nand[c]
  if r.bufLen ≠ 0 ∧ r.bufLen ≠ 64 then s.fail r oc ST_RANGE (argOff 32)
  else
    (if r.bufLen = 0 then s else s.copyOut r (s.journalStatus c)).ok r oc
      (leBytes 8 (newestOf n) ++ leBytes 2 s.journal.staged ++ leBytes 1 (min 255 n.spares)
        ++ leBytes 1 (Bool.nat (!n.retention.isEmpty) + 2 * Bool.nat n.backfillRunning + 4 * Bool.nat n.faulted))
def execOpJournalStatus (r : Req) (s : State) : Host.Outcome State Fault Refusal := .next (s.doJournalStatus r)

/-! ### Retention (R387) -/

def retentionSize : Nat := 1048576

/-- The claim of OP_JOURNAL_RETAIN and OP_JOURNAL_RELEASE: the parameter set, except from P4. -/
def State.lacksSetClaim (s : State) (r : Req) : Bool := r.party != .p4 && s.notOwner r .paramSet

/-- OP_JOURNAL_RETAIN: the range must be held, and fit after what is there and what is being copied. -/
def State.doJournalRetain (s : State) (r : Req) (first count : Nat) : State :=
  let oc := Opc.OP_JOURNAL_RETAIN
  let n := s.journal.nand[s.activeCore]
  let used := n.retention.length + s.journal.retain.foldl (fun k q => k + q.2.2) 0
  if count = 0 ∨ retentionSize < count then s.fail r oc ST_RANGE (argOff 32)
  else if s.lacksSetClaim r then s.failOwner r oc .paramSet
  else if first < oldestOf n ∨ newestOf n < first + count - 1 ∨ n.held.isEmpty then s.fail r oc ST_RANGE (argOff 24)
  else if retentionSize < used + count then
    (s.raise Ev.JR_RETAIN_FULL [.u32 n.retention.length]).fail r oc ST_RANGE (argOff 32)
  else s.modJournal fun j => { j with retain := j.retain ++ [(r, first, count)] }
def execOpJournalRetain (r : Req) (first count : Nat) (s : State) : Host.Outcome State Fault Refusal :=
  .next (s.doJournalRetain r first count)

/-- One core copies the range it holds; a range it lacks is reported. -/
def State.retainOn (s : State) (c : CoreId) (first count : Nat) : State :=
  if !s.pair.core[c].present then s
  else
    let got := (s.journal.nand[c].area 0).filter fun r => decide (first ≤ r.number) && decide (r.number < first + count)
    let s1 := s.modNand c fun n => { n with retention := n.retention ++ got }
    if c != s.activeCore && decide (got.length < count) then
      s1.raise Ev.JR_RETAIN [.u8 3, .u32 first, .u32 got.length]
    else s1

/-- RETAIN_COPY_DONE: the last record of the running copy is copied. -/
def execRetainCopyDone (s : State) : Host.Outcome State Fault Refusal :=
  .next (match s.journal.retain with
    | [] => s
    | (r, first, count) :: rest =>
      let s1 := s.modJournal fun j => { j with retain := rest }
      (((s1.retainOn 0 first count).retainOn 1 first count).raise Ev.JR_RETAIN [.u8 1, .u32 first, .u32 count]).ok r
        Opc.OP_JOURNAL_RETAIN [])

/-- OP_JOURNAL_RELEASE: the whole area is erased, on each core. -/
def State.doJournalRelease (s : State) (r : Req) : State :=
  let oc := Opc.OP_JOURNAL_RELEASE
  if s.lacksSetClaim r then s.failOwner r oc .paramSet
  else
    let n := s.journal.nand[s.activeCore]
    let s1 := s.each [(0 : CoreId), 1] fun s c => s.modNand c fun n => { n with retention := [] }
    (s1.raise Ev.JR_RETAIN [.u8 2, .u32 ((n.retention.head?.map (·.number)).getD 0), .u32 n.retention.length]).ok r oc []
def execOpJournalRelease (r : Req) (s : State) : Host.Outcome State Fault Refusal := .next (s.doJournalRelease r)

/-! ### Notes (R393) -/

/-- OP_JOURNAL_NOTE: staged, and completed once committed; at most journal.note.rate in a second on a port. -/
def State.doJournalNote (s : State) (r : Req) (code : BitVec 16) (text : List Byte) : State :=
  match portOf r.party with
  | none => s
  | some p =>
    let fresh := decide (sec ≤ s.since s.journal.notesFrom[p])
    let sent := if fresh then 0 else s.journal.notes[p]
    if s.param 0x566 ≤ sent then
      (s.modJournal fun j => { j with notesDropped := updV j.notesDropped p (· + 1) }).fail r Opc.OP_JOURNAL_NOTE ST_STATE 0
    else
      let s1 := s.modJournal fun j => { j with
        notes := updV j.notes p fun _ => sent + 1, notesFrom := updV j.notesFrom p fun t => if fresh then s.now else t }
      s1.stage (s1.mkRecord false s1.tai (.note (BitVec.ofNat 8 (Party.code r.party)) code (slice text 0 44)) (some r))
def execOpJournalNote (r : Req) (code : BitVec 16) (text : List Byte) (s : State) : Host.Outcome State Fault Refusal :=
  .next (s.doJournalNote r code text)

/-- JR_NOTE_DROPPED once per second (R393); run as a second ends. -/
def State.notesSecond (s : State) : State :=
  s.each [(0 : PortId), 1, 2, 3] fun s p =>
    if s.journal.notesDropped[p] = 0 then s
    else (s.modJournal fun j => { j with notesDropped := updV j.notesDropped p fun _ => 0 }).raise Ev.JR_NOTE_DROPPED
      [.u8 (portNum p), .u16 (min 65535 s.journal.notesDropped[p])]

end Sys2Proof.Machine
end

