-- ==== Sys2Proof/Machine/CorePair.lean ====
section
/-!
DEFINITION. The core pair and handover, chapter 11: roles (R260 to R263), the mirror and return frames (Tables CP-1,
CP-2), the standby's states (R266, R267, Table CP-3), faults and takeover (R269 to R273), planned handover (R274 to
R277), and the replacement of a core (R281, R282).
-/

namespace Sys2Proof.Machine

/-! ### Names -/

def standbyCode : StandbyState → Nat
  | .absent => 0 | .catchingUp => 1 | .inStep => 2 | .outOfStep => 3 | .unpaired => 4 | .faulted => 5
def standbyOf (n : Nat) : StandbyState :=
  match n with
  | 1 => .catchingUp | 2 => .inStep | 3 => .outOfStep | 4 => .unpaired | 5 => .faulted | _ => .absent

/-- Trigger codes of CP_HANDOVER (log 17), in the order of Table CP-5. -/
def handoverCode : HandoverCause → Nat
  | .removal => 1 | .request => 2 | .coverage => 3 | .self => 4 | .update => 5

/-- Is there a standby that is powered? -/
def State.standbyPresent (s : State) : Bool := s.pair.core[s.standbyCore].present

/-! ### The standby's state (R266, R267) -/

/-- A change of the standby's state: CP_STANDBY_STATE with a reason (log 17: 0 conditions met, 1 mirror frame bad or
missing, 2 acknowledgements missing, 3 parameter set or version, 4 role change, 5 fault, 6 enabled or removed,
7 reported). Out of step everything held is released, and its relays open (Table CP-3). -/
def State.standbyBecomes (s : State) (new : StandbyState) (reason : Nat) : State :=
  let old := s.pair.standby
  if new = old then s
  else
    let s1 := (s.modPair fun q => { q with
      standby := new, outSince := s.now, goodRun := 0, missing := 0 }).raise Ev.CP_STANDBY_STATE
        [.u8 s.standbyCore.val, .u8 (standbyCode old), .u8 (standbyCode new), .u8 reason]
    if new = .inStep then s1
    else
      let s2 := s1.releaseHeld
      if s2.doors.relays[s2.standbyCore] then s2.loopDrop s2.standbyCore 1 else s2

/-- STANDBY_ACK_LOST: two consecutive acknowledgements are missing. -/
def execStandbyAckLost (s : State) : Host.Outcome State Fault Refusal :=
  .next (if s.pair.standby = .inStep then s.standbyBecomes .outOfStep 2 else s)

/-- Conditions of R266 but for the 20 ticks. -/
def State.mayStep (s : State) : Bool :=
  let c := s.standbyCore
  let newest := newestOf s.journal.nand[s.activeCore]
  s.pair.core[c].present && s.pair.core[c].version == s.pair.core[s.activeCore].version && s.paramsValid[c]
    && (match s.pair.firstMissing with
      | some k => decide (newest ≤ k + 512)
      | none => true)

/-- STANDBY_IN_STEP. -/
def execStandbyInStep (s : State) : Host.Outcome State Fault Refusal :=
  .next (if s.pair.standby = .outOfStep && s.mayStep then s.standbyBecomes .inStep 0 else s)

/-- The pair in each tick: a mirror frame that was not applied or two acknowledgements that are missing put the
standby out of step; 20 good ticks bring it back; then the mirror frame of the tick is sent. -/
def State.pairStepTick (s : State) : State :=
  if !s.standbyPresent then s
  else
    let got := s.pair.mseqApplied == s.pair.mseq
    let acked := s.pair.mseqAck == s.pair.mseq
    let s1 := s.modPair fun q => { q with
      goodRun := if got then q.goodRun + 1 else 0, missing := if acked then 0 else q.missing + 1 }
    let s2 := if s1.pair.standby = .inStep && !got then s1.standbyBecomes .outOfStep 1
      else if s1.pair.standby = .inStep && decide (2 ≤ s1.pair.missing) then s1.standbyBecomes .outOfStep 2
      else if s1.pair.standby = .outOfStep && decide (20 ≤ s1.pair.goodRun) && s1.mayStep then s1.standbyBecomes .inStep 0
      else s1
    s2.modPair fun q => { q with mseq := q.mseq + 1 }

/-! ### The mirror frame (R264, Table CP-1) -/

/-- A frame's last four bytes hold the CRC-32 of the rest (R16). -/
def frameGood (frame : List Byte) (n : Nat) (type : Byte) : Bool :=
  frame.length == n && frame.getD 0 0 == type && (crc32 (frame.take (n - 4))).toNat == u32At frame (n - 4)

/-- A bad mirror frame: out of step at once, and ten in a second are reported (CP_MIRROR_CRC). -/
def State.badMirror (s : State) : State :=
  let fresh := decide (sec ≤ s.since s.pair.badFrom)
  let n := (if fresh then 0 else s.pair.badFrames) + 1
  let raised := !fresh && s.pair.badRaised
  let s1 := s.modPair fun q => { q with
    badFrames := n, badFrom := if fresh then s.now else q.badFrom, badRaised := raised || decide (10 ≤ n), goodRun := 0 }
  let s2 := if !raised && decide (10 ≤ n) then s1.raise Ev.CP_MIRROR_CRC [.u8 s.standbyCore.val, .u8 n] else s1
  if s2.pair.standby = .inStep then s2.standbyBecomes .outOfStep 1 else s2

/-- A record of the active core by its number. -/
def NandSt.find (n : NandSt) (k : Nat) : Option Record :=
  ((n.image.map (·.1)).find? fun r => r.number == k).or (n.held.find? fun r => r.number == k)

/-- The newest number a core has, committed or not. -/
def NandSt.top (n : NandSt) : Nat :=
  match n.image.getLast? with
  | some r => r.1.number
  | none => newestOf n

/-- Place a record at its own number among those held, newest first. -/
def insertRecord (r : Record) : List Record → List Record
  | [] => [r]
  | k :: rest => if k.number < r.number then r :: k :: rest
    else if k.number = r.number then k :: rest else k :: insertRecord r rest

/-- The standby programs a mirrored record at its own number (R388). -/
def State.mirrorRecord (s : State) (number : Nat) : State :=
  let c := s.standbyCore
  let n := s.journal.nand[c]
  match s.journal.nand[s.activeCore].find number with
  | none => s
  | some r =>
    if n.faulted || number ≤ n.top then s
    else
      let gap := decide (n.top + 1 < number) && n.top != 0
      let s1 := s.modNand c fun n => n.enter { r with noteFor := none } s.now
      s1.modPair fun q => { q with firstMissing := if gap && q.firstMissing.isNone then some (n.top + 1) else q.firstMissing }

/-- Missing records sent again through bulk kind 2, or the next older record through kind 3, one for each 128 bytes
of bulk content (R282, R388). -/
def State.resendRecord (s : State) : State :=
  let c := s.standbyCore
  match s.pair.firstMissing with
  | none => s
  | some k =>
    let s1 := match s.journal.nand[s.activeCore].find k with
      | some r => s.modNand c fun n => { n with held := insertRecord { r with noteFor := none } n.held }
      | none => s
    let have_ (m : Nat) : Bool := (s1.journal.nand[c].find m).isSome || (s1.journal.nand[s.activeCore].find m).isNone
    let next := ((List.range 513).map fun i => k + 1 + i).find? fun m => !have_ m
    s1.modPair fun q => { q with firstMissing := next }

/-- One record of the back-fill: the newest one older than those received (R282). CP_BACKFILL at each tenth. -/
def State.backfillRecord (s : State) : State :=
  let c := s.standbyCore
  let n := s.journal.nand[c]
  if !n.backfillRunning then s
  else
    let next := s.journal.nand[s.activeCore].held.find? fun r => decide (r.number < n.backfillOldest)
    match next with
    | none =>
      (s.modNand c fun n => { n with backfillRunning := false }).raise Ev.CP_BACKFILL
        [.u8 c.val, .u8 10, .u32 n.backfillOldest]
    | some r =>
      let done := n.backfillDone + 1
      let s1 := s.modNand c fun n => { n with
        held := insertRecord { r with noteFor := none } n.held, backfillOldest := r.number, backfillDone := done }
      let tenth (k : Nat) : Nat := 10 * k / max 1 n.backfillTotal
      if tenth done ≠ tenth n.backfillDone && tenth done < 10 then
        s1.raise Ev.CP_BACKFILL [.u8 c.val, .u8 (tenth done), .u32 r.number]
      else s1

/-- Bytes of the chunks held. -/
def chunkBytes (cs : List (Nat × List Byte)) : Nat := cs.foldl (fun n c => n + c.2.length) 0

/-- The chunks that lie within the bytes mirrored, in the order they arrived. -/
def mirroredChunks : List (Nat × List Byte) → Nat → List (Nat × List Byte)
  | [], _ => []
  | c :: rest, n => if c.2.length ≤ n then c :: mirroredChunks rest (n - c.2.length) else []

/-- Chunks not yet mirrored show as unverified on the new active core; a VERIFIED image stays so (Table UD-7). -/
def State.unmirroredChunks (s : State) : State :=
  s.modUpdate fun u => { u with staged := u.staged.map fun g => g.map fun g =>
    if g.verified then g else { g with chunks := mirroredChunks g.chunks g.mirrored } }

/-- Bulk content of a mirror frame: 76 bytes at an offset. -/
def State.takeBulk (s : State) (kind offset : Nat) : State :=
  let whole := (offset + 76) / 128 - offset / 128
  if kind = 2 then s.each (List.range whole) fun s _ => s.resendRecord
  else if kind = 3 then s.each (List.range whole) fun s _ => s.backfillRecord
  else if kind = 1 then { s with paramsValid := updV s.paramsValid s.standbyCore fun _ => true }
  else if kind = 7 then s.modUpdate fun u => { u with
    staged := u.staged.map fun g => g.map fun g => { g with mirrored := min (g.mirrored + 76) (chunkBytes g.chunks) } }
  else s

/-- MIRROR_FRAME: the standby discards a bad frame and applies a good one. Its copy of the state is the frame's own;
it takes the sequence, the bus counter (R268), journal records and bulk content. -/
def State.mirrorFrame (s : State) (frame : List Byte) : State :=
  if !s.standbyPresent || !s.anyActive then s
  else if !frameGood frame 1024 0x11 then s.badMirror
  else
    let c := s.standbyCore
    let s1 := s.modPair fun q => { q with
      mseqApplied := BitVec.ofNat 32 (u32At frame 4), mirrorAt := s.now }
    let s2 := s1.modTime fun t => { t with ce := updV t.ce c fun _ => t.ce[s.activeCore] }
    let s3 := s2.each ((List.range (min 2 (byteAt frame 11))).map fun i => u64At frame (688 + 128 * i)) State.mirrorRecord
    let s4 := s3.takeBulk (byteAt frame 10) (u32At frame 12)
    let s5 := if s4.pair.standby = .unpaired then s4.standbyBecomes .outOfStep 0 else s4
    if byteAt frame 8 ≠ s.pair.core[c].version && s5.pair.standby == .inStep then s5.standbyBecomes .outOfStep 3 else s5
def execMirrorFrame (frame : List Byte) (s : State) : Host.Outcome State Fault Refusal := .next (s.mirrorFrame frame)

/-! ### The return frame (R265, Table CP-2) -/

/-- A port's slot is reported covered (bytes 12 and 13). -/
def State.takeCovered (s : State) (core : CoreId) (mask : Nat) : State :=
  { s with frame := { s.frame with slots := mapV s.frame.slots fun k x =>
      { x with linkUp := updV x.linkUp core fun _ => bit mask k.val } } }

/-- RETURN_FRAME: the acknowledgement releases what it covers; a good frame also brings the standby's health, state,
coverage and missing records. -/
def State.returnFrame (s : State) (frame : List Byte) : State :=
  if !s.standbyPresent || !s.anyActive || !frameGood frame 64 0x12 then s
  else
    let c := s.standbyCore
    let flags := byteAt frame 1
    let ack := BitVec.ofNat 32 (u32At frame 4)
    let s1 := s.modPair fun q => { q with mseqAck := ack }
    let s2 := if s1.pair.standby = .inStep then s1.releaseIf (ackedBy ack) else s1
    let s3 := { (s2.modCore c fun x => { x with
        tcxoReady := bit flags 2, nandHealthy := bit flags 4, version := byteAt frame 8 }) with
      paramsValid := updV s2.paramsValid c fun _ => bit flags 5 }
    let s4 := s3.takeCovered c (u16At frame 12)
    let missing := u64At frame 24
    let s5 := if missing = 0 then (s4.modJournal fun j => { j with missingRaised := false }).modPair fun q => { q with firstMissing := none }
      else
        let t := s4.modPair fun q => { q with firstMissing := some missing }
        if t.journal.missingRaised then t
        else (t.modJournal fun j => { j with missingRaised := true }).raise Ev.JR_MIRROR_MISSING
          [.u32 missing, .u16 (min 65535 (t.journal.nand[t.activeCore].top + 1 - missing))]
    let hashSame := slice frame 32 8 == s.setHash.take 8
    let s6 := if !hashSame && s5.pair.standby == .inStep then
        (s5.raise Ev.CP_SET_HASH_MISMATCH [.u32 (u32At frame 32), .u32 (u32At frame 36)]).standbyBecomes .outOfStep 3
      else s5
    let told := standbyOf (byteAt frame 10)
    if told = .absent || told = .inStep || s6.pair.standby = .catchingUp then s6 else s6.standbyBecomes told 7
def execReturnFrame (frame : List Byte) (s : State) : Host.Outcome State Fault Refusal := .next (s.returnFrame frame)

/-- MIRROR_LOST (R272): no mirror frame or marker for 20 ticks while TICK is present. -/
def execMirrorLost (s : State) : Host.Outcome State Fault Refusal :=
  .next (if s.standbyPresent && s.anyActive && s.pair.standby != .unpaired then
      (s.standbyBecomes .unpaired 1).raise Ev.CP_MIRROR_LOST [.u8 s.standbyCore.val]
    else s)

/-- TICK_FAULT (R272): markers without TICK edges for two ticks; no takeover. -/
def execTickFault (s : State) : Host.Outcome State Fault Refusal :=
  .next (if s.standbyPresent && s.anyActive then
      s.raise Ev.CP_TICK_FAULT [.u8 s.standbyCore.val]
    else s)

/-! ### Disagreements of the two cores (R268) -/

/-- What is compared: loop verdict, release pair, zero-speed pair, obstacle source (log 17). -/
def State.crossItem (s : State) (core : CoreId) (d : Doorway) (i : Fin 4) : Nat :=
  match i with
  | 0 => Bool.nat (s.loopShut core)
  | 1 => pairCode (s.pairVal core (s.releaseChan d))
  | 2 => pairCode (s.pairVal core (s.param 0x085))
  | 3 => (s.sourceSeen core d).getD 0

/-- CP_CROSSCHECK as a disagreement begins. -/
def State.crossTick (s : State) : State :=
  if !s.standbyPresent || s.pair.standby != .inStep then s
  else s.each s.enabledDoors fun s d => s.each [(0 : Fin 4), 1, 2, 3] fun s i =>
    let a := s.crossItem s.activeCore d i
    let b := s.crossItem s.standbyCore d i
    let s1 := s.modPair fun q => { q with cross := updV q.cross d fun v => updV v i fun _ => a != b }
    if a ≠ b && !s.pair.cross[d][i] then
      s1.raise Ev.CP_CROSSCHECK [.u8 d.val, .u8 i.val, .u16 a, .u16 b]
    else s1

/-! ### Role changes (R278, Table CP-6) -/

/-- The roles change to one core: CAN controllers change mode, frames without a mirrored confirmation are sent again,
and 100 ns are added to e. -/
def State.roleChange (s : State) (new : CoreId) : State :=
  let old := s.activeCore
  let s1 := if old = new then s else s.modCan fun c => { c with ctl := updV c.ctl new fun _ => c.ctl[old] }
  let s2 := ((s1.modCore (otherCore new) fun x => { x with active := false }).modCore new fun x => { x with
    active := true, listenFrom := none }).modTime fun t => { t with
      roleErr := t.roleErr + 100, ce := updV t.ce new fun c => if old = new then c else t.ce[old] }
  let s3 := s2.modSlot (coreSlot new) fun x => { x with standbyRole := false }
  (if old = new then s3 else s3.unmirroredChunks).txAgain

/-- A core falls silent (R269): it drives nothing, and its module is out of service. -/
def State.coreSilent (s : State) (c : CoreId) (cause : Nat) : State :=
  (s.modCore c fun x => { x with
      active := false, present := false, faulted := true, cause := cause, silentAt := s.now, listenFrom := none }).modSlot
    (coreSlot c) fun x => { x with inService := false, standbyRole := false }

/-- Restarts of a core in the last hour (R284). -/
def State.restartsOf (s : State) (c : CoreId) : Nat :=
  (s.pair.core[c].restarts.filter fun t => decide (s.now < t + 3600 * sec)).length

/-- CP_CORE_FAULT, raised by the other core. -/
def State.coreFaultEvent (s : State) (c : CoreId) : State :=
  s.raise Ev.CP_CORE_FAULT [.u8 c.val, .u8 s.pair.core[c].cause, .u8 (s.restartsOf c)]

/-- Both cores are silent: the loop is open, the frame stands still until a core restarts, and that start is a full
one (R200, R283, R284). Outputs held are lost. -/
def State.bothSilent (s : State) : State :=
  if s.pair.core[(0 : CoreId)].present || s.pair.core[(1 : CoreId)].present then s
  else
    let s1 := s.modDoors fun d => { d with relays := .replicate 2 false, relaysOffAt := .replicate 2 s.now }
    let s2 := s1.modPair fun q => { q with
      standby := .absent, heldCompletions := [], heldEvents := [], handover := none, handoverReq := none }
    { (s2.modPower fun w => { w with state := .off, entry := none, wake := none, idle := false, slept := s.now }) with
      supply := { s.supply with step := none, onStore := false, cleanOff := false } }

/-- CORE_FAULT: a standby is reported at once; an active core's silence is met by TAKEOVER, and its fault is reported
then. -/
def execCoreFault (core : CoreId) (cause : Nat) (s : State) : Host.Outcome State Fault Refusal :=
  .next (if !s.pair.core[core].present then s
    else if s.pair.core[core].active then (s.coreSilent core cause).bothSilent
    else ((s.standbyBecomes .faulted 5).coreSilent core cause).coreFaultEvent core)

/-- CHARGE_PUMP_EXPIRED (R270): without a refresh for 100 us the core's relays release. -/
def execChargePumpExpired (core : CoreId) (s : State) : Host.Outcome State Fault Refusal :=
  .next (if s.doors.relays[core] then
      (s.until (s.pair.core[core].pumpAt + 100 * usec)).loopDrop core 1
    else s)

/-- After a takeover numbering continues 513 above the last record held, behind a gap record (R280). -/
def State.skipNumbers (s : State) : State :=
  let last := s.journal.nand[s.activeCore].top
  let gap := s.mkRecord true s.tai (.gapSkipped (last + 1) 512) none
  s.modJournal fun j => { j with stagedPrio := gap :: j.stagedPrio, nextNumber := last + 513 }

/-- A cold takeover's freeze (R273): moving axes freeze and are uncertain, moving doorways go to FAULT. -/
def State.coldFreeze (s : State) : State :=
  let moving (l : Leaf) : Bool :=
    l == .unlocking || l == .opening || l == .closing || l == .reopening || l == .locking
  let s1 := s.each (List.finRange 4) fun s a =>
    if s.axes[a].plan.isSome then (s.freeze a 6 ST_PREEMPTED 0).makeUncertain a 6 else s
  s1.each s1.enabledDoors fun s d => if moving s.doors.door[d].leaf then s.enterFault d .power else s

/-- TAKEOVER (R271, R273): the surviving core drives TICK and continues from its copy; what was held is released by
it, once. -/
def State.takeover (s : State) (new : CoreId) : State :=
  let old := otherCore new
  let was := s.pair.standby
  let moved := maskOf 4 fun i => (match asFin 4 i with
    | some a => s.axes[a].plan.isSome
    | none => false)
  let s1 := (s.roleChange new).modPair fun q => { q with standby := .absent, outSince := s.now, handover := none, handoverReq := none }
  let s2 := s1.skipNumbers
  let s3 := if was = .inStep then
      s2.raise Ev.CP_TAKEOVER [.u8 old.val, .u32 s2.tick.toNat, .u8 1, .u8 (min 2 s.pair.missing + 1)]
    else (s2.coldFreeze).raise Ev.CP_COLD_TAKEOVER [.u8 old.val, .u8 (standbyCode was), .u8 moved]
  let s4 := if s3.pair.core[old].faulted then s3.coreFaultEvent old else s3
  let s5 := s4.raise Ev.CP_STANDBY_STATE [.u8 old.val, .u8 (standbyCode was), .u8 0, .u8 5]
  let s6 := (s5.releaseHeld).endSession old 4
  let s7 := match s.pair.handoverReq with
    | some r => s6.ok r Opc.OP_CORE_HANDOVER []
    | none => s6
  -- sources this core had seen and the old one had not acted on (R133)
  let s8 := s7.each s7.enabledDoors fun s d =>
    match s.obst[d].seen[new] with
    | some src => if s.closingOrLocking d then s.obstacle d src else s
    | none => s
  (s8.modPanel fun p => { p with snapshot := none, stretched := none }).judgeTiers (coreSlot old).val

def execTakeover (s : State) : Host.Outcome State Fault Refusal :=
  .next (if s.anyActive then s
    else match [(0 : CoreId), 1].find? fun c => s.pair.core[c].present && s.pair.core[c].listenFrom.isNone with
      | some c => s.takeover c
      | none => s)

/-- DUAL_ACTIVE (R262): C1 gives up the role and enters catch-up. -/
def execDualActive (how : Nat) (s : State) : Host.Outcome State Fault Refusal :=
  .next (if s.pair.core[(0 : CoreId)].present && s.pair.core[(1 : CoreId)].present then
      let s1 := if s.activeCore = 0 then s else s.roleChange 0
      ((s1.standbyBecomes .catchingUp 4).modPair fun q => { q with enabledAt := s.now }).raise Ev.CP_DUAL_ACTIVE [.u8 how]
    else s)

/-- A core takes the active role (R261): CP_ROLE with role 1 and its listening time in us; a listening partner sees
TICK and starts catch-up. -/
def State.takeRole (s : State) (core : CoreId) : State :=
  let other := otherCore core
  let s1 := (s.modCore core fun x => { x with active := true, listenFrom := none }).modSlot (coreSlot core) fun x =>
    { x with inService := true, standbyRole := false }
  let s2 := s1.raise Ev.CP_ROLE [.u8 core.val, .u8 1, .u16 (if core = 0 then 200 else 1200)]
  if s2.pair.core[other].listenFrom.isSome then
    ((s2.modCore other fun x => { x with listenFrom := none }).standbyBecomes .catchingUp 6).modPair fun q =>
      { q with enabledAt := s.now }
  else s2

/-! ### Planned handover (R274 to R277, Table CP-5) -/

/-- A planned trigger waits while a shut-down or a low-power entry runs, except that of R257 (R277). -/
def State.handoverWaits (s : State) : Bool :=
  (s.supply.step.isSome || s.power.entry.isSome) && s.pair.handover != some .self

/-- Note a planned trigger; one handover runs at a time. -/
def State.wantHandover (s : State) (why : HandoverCause) : State :=
  if s.pair.handover.isSome then s else s.modPair fun q => { q with handover := some why }

/-- PLANNED_HANDOVER: at the handover edge, or cancelled without the acknowledgement (R274). -/
def State.plannedHandover (s : State) (acknowledged : Bool) : State :=
  match s.pair.handover with
  | none => s
  | some why =>
    if s.pair.standby ≠ .inStep || s.handoverWaits then s
    else if acknowledged then
      let old := s.activeCore
      let new := s.standbyCore
      -- every staged record has been mirrored before the handover edge
      let s0 := s.flushJournal
      let top := s0.journal.nand[old].held.filter fun r => decide (s0.journal.nand[new].top < r.number)
      let s1 := s0.modNand new fun n => { n with held := top.foldr insertRecord n.held }
      let s2 := (s1.releaseHeld.roleChange new).modSlot (coreSlot old) fun x => { x with standbyRole := x.inService }
      let s3 := s2.modPair fun q => { q with
        handover := none, handoverReq := none, lastHandover := some s.now, coverageRun := 0,
        graceFrom := none, mseqApplied := q.mseq, mseqAck := q.mseq, missing := 0 }
      let s4 := s3.raise Ev.CP_HANDOVER [.u8 old.val, .u8 new.val, .u8 (handoverCode why), .u32 s.tick.toNat]
      match s.pair.handoverReq with
      | some r => s4.ok r Opc.OP_CORE_HANDOVER []
      | none => s4
    else
      let s1 := s.raise Ev.CP_HANDOVER_REFUSED [.u8 (handoverCode why), .u8 5]
      match s.pair.handoverReq with
      | some r => (s1.modPair fun q => { q with handover := none, handoverReq := none }).fail r Opc.OP_CORE_HANDOVER ST_STATE 5
      | none => s1
def execPlannedHandover (acknowledged : Bool) (s : State) : Host.Outcome State Fault Refusal :=
  .next (s.plannedHandover acknowledged)

/-- Modules a core covers: in service and heard (R275, Table CP-2). -/
def State.coverage (s : State) (c : CoreId) : Nat :=
  ((List.finRange 14).filter fun k => s.inService k && s.frame.slots[k].linkUp[c]).length

/-- Host links up, bit 0 to H0 and bit 1 to H1, of each core. -/
def State.hostLinks (s : State) (c : CoreId) : Nat :=
  Bool.nat s.ports[(0 : PortId)].links[c] + 2 * Bool.nat s.ports[(1 : PortId)].links[c]

/-- The hold-off after a handover has passed (R275). -/
def State.pastHoldoff (s : State) : Bool :=
  match s.pair.lastHandover with
  | some t => decide (s.param 0x040 * sec ≤ s.since t)
  | none => true

/-- A coverage handover is triggered: CP_COVERAGE with the counts of C0 and C1 and the host links of both. -/
def State.coverageTrigger (s : State) : State :=
  if s.param 0x041 ≠ 0 && s.standbyPresent && s.pastHoldoff && s.pair.handover.isNone then
    (s.wantHandover .coverage).raise Ev.CP_COVERAGE
      [.u8 (s.coverage 0), .u8 (s.coverage 1), .u8 (s.hostLinks 0 + 16 * s.hostLinks 1)]
  else s

/-- COVERAGE_HANDOVER. -/
def execCoverageHandover (s : State) : Host.Outcome State Fault Refusal :=
  .next (if s.coverage s.activeCore < s.coverage s.standbyCore then s.coverageTrigger else s)

/-- Some host port has its link up to the standby and not to the active core. -/
def State.linkOnlyStandby (s : State) : Bool :=
  [(0 : PortId), 1].any fun p => s.ports[p].links[s.standbyCore] && !s.ports[p].links[s.activeCore]

/-- HOST_LINK_GRACE. -/
def execHostLinkGrace (s : State) : Host.Outcome State Fault Refusal :=
  .next (if s.linkOnlyStandby && s.coverage 0 == s.coverage 1 then
      (s.until (s.pair.graceFrom.getD s.now + s.param 0x042 * msec)).coverageTrigger
    else s)

/-- The triggers of Table CP-5 the frame finds by itself, in each tick. -/
def State.handoverTick (s : State) : State :=
  if !s.standbyPresent then s
  else
    let a := s.activeCore
    let b := s.standbyCore
    let more := decide (s.coverage a < s.coverage b)
    let grace := s.linkOnlyStandby && s.coverage a == s.coverage b
    let s1 := s.modPair fun q => { q with
      coverageRun := if more then q.coverageRun + 1 else 0,
      graceFrom := if grace then some (q.graceFrom.getD s.now) else none }
    let s2 := if more && decide (s.param 0x041 < s1.pair.coverageRun) then s1.coverageTrigger
      else if grace && decide (s.param 0x042 * msec ≤ s1.since (s1.pair.graceFrom.getD s1.now)) then s1.coverageTrigger
      else s1
    let self := (s.oscFallback && s.pair.core[b].tcxoReady)
      || (!s.pair.core[a].nandHealthy && s.pair.core[b].nandHealthy) || (!s.paramsValid[a] && s.paramsValid[b])
    if self then s2.wantHandover .self else s2

/-- Between ACTIVATE and CONFIRM (R242, R276). -/
def State.updateOpen (s : State) : Bool :=
  s.update.activation.isSome || (List.finRange 14).any fun k =>
    let x := s.update.firm[k].state
    x == .waiting || x == .writing || x == .trial || x == .rollbackPending

/-- A removal is running: its steps have begun and it is not yet free (Table FR-9). -/
def State.removalRuns (s : State) : Bool :=
  (List.finRange 14).any fun k => match s.frame.slots[k].removal with
    | some (.running _) => true
    | _ => false

/-- Why OP_CORE_HANDOVER is refused (R276; log 17): 1 not in step, 2 a removal, shut-down or entry step, or a handover
that runs, 3 an update, 4 the hold-off. -/
def State.handoverRefusal (s : State) : Option Nat :=
  if s.pair.standby ≠ .inStep then some 1
  else if s.removalRuns || s.supply.step.isSome || s.power.entry.isSome || s.pair.handover.isSome then some 2
  else if s.updateOpen then some 3
  else if !s.pastHoldoff then some 4 else none

/-- OP_CORE_HANDOVER: from a host port that holds the parameter-set claim, and from P4. -/
def State.doCoreHandover (s : State) (r : Req) : State :=
  let oc := Opc.OP_CORE_HANDOVER
  if s.lacksSetClaim r then s.failOwner r oc .paramSet
  else match s.handoverRefusal with
    | some n => (s.raise Ev.CP_HANDOVER_REFUSED [.u8 (handoverCode .request), .u8 n]).fail r oc ST_STATE n
    | none => s.modPair fun q => { q with handover := some .request, handoverReq := some r }
def execOpCoreHandover (r : Req) (s : State) : Host.Outcome State Fault Refusal := .next (s.doCoreHandover r)

/-! ### Replacing a core (R281, R282, R284) -/

/-- Catch-up is done: CP_CATCHUP_DONE, IN_STEP, and the back-fill begins. -/
def State.catchupEnds (s : State) : State :=
  let c := s.standbyCore
  let a := s.journal.nand[s.activeCore]
  let s1 := { (s.standbyBecomes .inStep 0) with paramsValid := updV s.paramsValid c fun _ => true }
  let s2 := s1.modPair fun q => { q with mseqApplied := q.mseq, mseqAck := q.mseq, firstMissing := none }
  -- the newest 512 records come with catch-up
  let s3 := s2.modNand c fun n => { n with held := (a.held.take 512).foldr insertRecord n.held }
  let oldest := ((a.held.take 512).getLast?.map (·.number)).getD 0
  let s4 := s3.modNand c fun n => { n with
    backfillRunning := s.param 0x043 == 1 && decide (512 < a.held.length), backfillOldest := oldest,
    backfillTotal := a.held.length - 512, backfillDone := 0 }
  s4.raise Ev.CP_CATCHUP_DONE [.u8 c.val, .u16 (min 65535 (s.since s.pair.enabledAt / msec))]

/-- A core starts: past its self-test it listens on TICK, or starts catch-up where TICK is driven (R261). -/
def State.coreStarts (s : State) (core : CoreId) : State :=
  let s1 := s.modCore core fun x => { x with
    present := x.selfTest, faulted := !x.selfTest, active := false,
    listenFrom := if s.anyActive then none else some s.now }
  if s1.pair.core[core].present && s.anyActive then
    if s1.pair.core[core].version ≠ s1.pair.core[s1.activeCore].version then
      s1.raise Ev.CP_PROTOCOL_MISMATCH [.u16 s1.pair.core[core].version, .u16 s1.pair.core[s1.activeCore].version]
    else (s1.standbyBecomes .catchingUp 6).modPair fun q => { q with enabledAt := s.now }
  else s1

/-- CORE_RESTART (R284): 500 ms after it fell silent; after three restarts within an hour it stays FAULTED. -/
def execCoreRestart (core : CoreId) (s : State) : Host.Outcome State Fault Refusal :=
  .next (if !s.pair.core[core].faulted || 3 ≤ s.restartsOf core then s
    else
      let s1 := s.until (s.pair.core[core].silentAt + 500 * msec)
      (s1.modCore core fun x => { x with
        faulted := false, restarts := s1.now :: (x.restarts.filter fun t => decide (s1.now < t + 3600 * sec)) }).coreStarts core)

end Sys2Proof.Machine
end

