-- ==== Sys2Proof/Machine/Frame.lean ====
section
/-!
DEFINITION. The frame and its modules, chapter 01, but for insertion: removal in service (R22 to R28, Table FR-9), the
loss of a module (R27, R103), and the slot lamps (R33, Table FR-13).
-/

namespace Sys2Proof.Machine

/-! ### What kind of module a slot holds -/

inductive SlotKind where
  | power (p : Fin 2) | energy | core (c : CoreId) | host (p : HostPort) | axis (m : Axis) | field (m : Fin 2) | load
  deriving DecidableEq, Repr

/-- The order of R34. -/
def slotKind (k : Slot) : SlotKind :=
  match k.val with
  | 0 => .power 0 | 1 => .power 1 | 2 => .energy | 3 => .core 0 | 4 => .core 1 | 5 => .host 0 | 6 => .host 1
  | 7 => .axis 0 | 8 => .axis 1 | 9 => .axis 2 | 10 => .axis 3 | 11 => .field 0 | 12 => .field 1 | _ => .load

def otherPm (p : Fin 2) : Fin 2 := if p = 0 then 1 else 0

/-- Serial number of the identity block read (Table FR-7). -/
def SlotSt.serial (x : SlotSt) : Nat := x.ident.elim 0 fun b => u32At b 0x10

/-- The serial number of a core, as its identity block gives it. -/
def State.coreSerial (s : State) (c : CoreId) : BitVec 32 :=
  match s.frame.slots[coreSlot c].ident with
  | some b => BitVec.ofNat 32 (u32At b 0x10)
  | none => Config.coreSerial c

/-! ### Turn, gate and confirmation (R22 to R25) -/

/-- A request that holds the turn: it is not merely waiting for it. -/
def SlotSt.holdsTurn (x : SlotSt) : Bool := x.removal.isSome && x.removal != some (.waiting .turn)

/-- Another slot's request has the turn. -/
def State.turnTaken (s : State) (k : Slot) : Bool :=
  (List.finRange 14).any fun j => j != k && s.frame.slots[j].holdsTurn

/-- The doorway of an axis is at rest: no move running or admitted. -/
def State.axisDoorAtRest (s : State) (a : Axis) : Bool :=
  s.axes[a].plan.isNone && s.axes[a].cmd.isNone &&
    match s.doorOfAxis a with
    | some d => s.doorAtRest d && s.doors.door[d].cmd.isNone
    | none => true

/-- A lane whose axis is declared to continue on the other one, which is in service. -/
def State.laneMayLeave (s : State) (m : Axis) : Bool :=
  let a := s.axisOfLane m
  s.twin a && s.laneLossContinues a && s.axModIn (otherLane m) && s.axes[a].lanes[laneIndex (otherLane m)]

/-- Gates of Table FR-9. A module that is not in service has no work to take away. -/
def State.gateMet (s : State) (k : Slot) : Bool :=
  !s.inService k ||
  match slotKind k with
  | .power p => s.pmGood (otherPm p)
  | .energy => s.anyPm && !(s.supply.onStore && (List.finRange 4).any fun a => s.axes[a].plan.isSome)
  | .core c => c != s.activeCore || s.pair.standby == .inStep
  | .host _ => true
  | .axis m =>
    if s.laneMayLeave m then s.axes[s.axisOfLane m].disagree.isNone else s.axisDoorAtRest (s.axisOfLane m)
  | .field _ => true
  | .load => s.enabledDoors.all fun d =>
      s.lockType d == 0 || s.doors.door[d].leaf == .closedLocked || s.doors.door[d].leaf == .isolated

/-- R24 asks for a confirmation: the removal takes a doorway that is not ISOLATED below restricted, or it takes an axis
of an ISOLATED doorway that is not proven. -/
def State.needsConfirm (s : State) (k : Slot) : Bool :=
  s.inService k &&
  (s.dropsLoop k ||
    match slotKind k with
    | .axis m =>
      let a := s.axisOfLane m
      !s.laneMayLeave m && (match s.doorOfAxis a with
        | some d => s.doors.door[d].leaf == .isolated &&
            !(s.isolatedProven s.activeCore d && s.stepStowed s.activeCore d)
        | none => false)
    | _ => false)

/-- What a request waits for; none: it may start. -/
def State.waitReason (s : State) (k : Slot) : Option WaitReason :=
  if s.turnTaken k then some .turn
  else if !s.gateMet k then some .gate
  else if s.needsConfirm k && !s.frame.slots[k].confirmed then
    (if s.frame.slots[k].removal == some (.waiting .zeroSpeed) then some .zeroSpeed else some .confirmation)
  else none

def waitCode : WaitReason → Nat
  | .turn => 1 | .gate => 2 | .confirmation => 3 | .zeroSpeed => 4

/-- Let a request wait for a reason: FR_REMOVE_WAITING at each new reason. -/
def State.waitFor (s : State) (k : Slot) (why : WaitReason) : State :=
  if s.frame.slots[k].removal = some (.waiting why) then s
  else (s.modSlot k fun x => { x with removal := some (.waiting why) }).raise Ev.FR_REMOVE_WAITING
    [.u8 k.val, .u8 (waitCode why)]

/-- R25: the last power module or the last core module in service. -/
def State.removalRefused (s : State) (k : Slot) : Option Nat :=
  if !s.inService k then none
  else match slotKind k with
    | .power p => if s.inService (pmSlot (otherPm p)) then none else some 1
    | .core c => if s.inService (coreSlot (otherCore c)) then none else some 2
    | _ => none

/-! ### An update that a latch suspends (R28, Table UD-7) -/

def updCode : UpdState → Nat
  | .idle => 0 | .downloading => 1 | .verified => 2 | .waiting => 3 | .writing => 4 | .trial => 5
  | .rollbackPending => 6 | .suspended => 7

/-- A slot's update state changes: UD_STAGE. -/
def State.updBecomes (s : State) (k : Slot) (new : UpdState) : State :=
  let old := s.update.firm[k].state
  if old = new then s
  else (s.modFirm k fun f => { f with state := new }).raise Ev.UD_STAGE [.u8 k.val, .u8 (updCode old), .u8 (updCode new)]

/-- The latch of an update's target is opened: SUSPENDED, a bank write abandoned, the trial count held. -/
def State.suspendUpdate (s : State) (k : Slot) : State :=
  let old := s.update.firm[k].state
  if old = .waiting ∨ old = .writing ∨ old = .trial ∨ old = .rollbackPending then
    ((s.modFirm k fun f => { f with resume := old }).updBecomes k .suspended).raise Ev.UD_SUSPENDED
      [.u8 k.val, .u8 (updCode old)]
  else s

/-! ### The removal sequences (R23, Table FR-9) -/

/-- Take both links of a host slot down and release its port's claims, the slot being emptied. -/
def State.hostOut (s : State) (p : HostPort) : State :=
  let t := s.ports[hostPort p]
  let s1 := s.each [(0 : CoreId), 1] fun s c =>
    if t.links[c] then s.raise Ev.HR_LINK [.u8 p.val, .u8 c.val, .u8 0, .u8 t.gens[c].toNat] else s
  (s1.modPort (hostPort p) fun t => { t with links := .replicate 2 false, h12On := false }).bothLinksDown p 3

/-- Every channel of the load module off (Table FR-9, L0). -/
def State.loadsOff (s : State) : State :=
  (s.each (List.finRange 12) fun s c => s.modLoad c fun x => { x with cmd := false, demand := false }).loadsFollow

/-- The work of a module is taken away: the first steps of its sequence, also those of an update (R402). -/
def State.takeWork (s : State) (k : Slot) : State :=
  match slotKind k with
  | .power _ => s
  | .energy => s.modEnergy fun e => { e with chargeEn := false, boostEn := false, charging := false, boostOn := false }
  | .core c =>
    if c = s.activeCore then s.wantHandover .removal
    else
      let s1 := if s.doors.relays[c] then s.loopDrop c 1 else s
      let s2 := s1.standbyBecomes .absent 6
      s2.each [(0 : HostPort), 1] fun s p => s.linkChange p c false 0
  | .host p => s.raise Ev.HR_SLOT_REMOVE [.u8 p.val, .u16 (s.param 0x032)]
  | .axis m =>
    let a := s.axisOfLane m
    if s.laneMayLeave m then
      (s.modAxis a fun x => { x with leaving := some (laneIndex m) }).setDerated a true
    else s.coilsOff a
  | .field m =>
    let s1 := if s.dropsLoop k then s.each [(0 : CoreId), 1] fun s c => if s.doors.relays[c] then s.loopDrop c 2 else s
      else s
    s1.each (s1.outputs m) State.safeState
  | .load => s.loadsOff

/-- A removal sequence starts. -/
def State.startRemoval (s : State) (k : Slot) : State :=
  let s1 := s.modSlot k fun x => { x with removal := some (.running 1), stepFrom := s.now }
  if s.inService k then s1.takeWork k else s1

/-- The sequence has reached its last step. -/
def State.removalDone (s : State) (k : Slot) : Bool :=
  !s.inService k ||
  match slotKind k with
  | .power _ => decide (20 * msec ≤ s.since s.frame.slots[k].stepFrom)
  | .core c => c != s.activeCore
  | .host p => s.frame.slots[k].removal == some (.running 2) ||
      decide (s.param 0x032 * msec ≤ s.since s.frame.slots[k].stepFrom)
      || !s.ports[hostPort p].up
  | .axis m => (s.axes[s.axisOfLane m].leaving != some (laneIndex m)) && s.axes[s.axisOfLane m].plan.isNone
      || (s.twin (s.axisOfLane m) && !s.axes[s.axisOfLane m].lanes[laneIndex m])
  | _ => true

/-- Out of service with its enable cleared, and what follows for the tiers, the supply and the store. -/
def State.clearEnable (s : State) (k : Slot) : State :=
  let s1 := (s.modSlot k fun x => { x with
    enable := false, railsOn := false, inService := false, standbyRole := false }).judgeTiers k.val
  match slotKind k with
  | .power p => s1.judgeSupply p s.feedMask
  | .energy => (s1.emBecomes .off).judgeReady
  | .host p => s1.hostOut p
  | .core c =>
    if c = s1.activeCore then s1
    else (s1.standbyBecomes .absent 6).modCore c fun x => { x with present := false, listenFrom := none }
  | _ => s1

/-- The last step ends: the blue lamp lights steadily (R23). -/
def State.finishRemoval (s : State) (k : Slot) : State :=
  -- a core that was active continues as for the standby (Table FR-9)
  let s1 := match slotKind k with
    | .core _ => if s.inService k then s.takeWork k else s
    | _ => s
  ((s1.clearEnable k).modSlot k fun x => { x with removal := some .free }).raise Ev.FR_FREE_TO_PULL
    [.u8 k.val, .u8 (tierCode (s1.clearEnable k).frame.frameTier)]

/-- A waiting request is evaluated (R22 to R24). -/
def State.evalRemoval (s : State) (k : Slot) : State :=
  match s.frame.slots[k].removal with
  | some (.waiting _) => match s.waitReason k with
    | some why => s.waitFor k why
    | none => s.startRemoval k
  | _ => s

/-- REMOVE_GATE_MET. -/
def execRemoveGateMet (slot : Slot) (s : State) : Host.Outcome State Fault Refusal := .next (s.evalRemoval slot)

/-- REMOVAL_COMPLETE: a power module's output has ramped to zero over 20 ms. -/
def State.removalComplete (s : State) (k : Slot) : State :=
  match s.frame.slots[k].removal with
  | some (.running _) =>
    let s1 := match slotKind k with
      | .power _ => s.until (s.frame.slots[k].stepFrom + 20 * msec)
      | _ => s
    if s1.removalDone k then s1.finishRemoval k else s1
  | _ => s
def execRemovalComplete (slot : Slot) (s : State) : Host.Outcome State Fault Refusal := .next (s.removalComplete slot)

/-- HOST_GRACE_EXPIRED. -/
def execHostGraceExpired (slot : Slot) (s : State) : Host.Outcome State Fault Refusal :=
  .next (match slotKind slot, s.frame.slots[slot].removal with
    | .host _, some (.running 1) =>
      ((s.until (s.frame.slots[slot].stepFrom + s.param 0x032 * msec)).modSlot slot fun x => { x with
        removal := some (.running 2) }).finishRemoval slot
    | _, _ => s)

/-- OP_RELEASE_CLAIMS of a host whose slot is being removed answers HR_SLOT_REMOVE: the sequence continues. -/
def State.releaseClaims (s : State) (r : Req) (codes : List (BitVec 32)) : State :=
  let s1 := s.doReleaseClaims r codes
  match [(0 : HostPort), 1].find? fun p => hostParty p == r.party with
  | some p =>
    if s.frame.slots[hostSlot p].removal = some (.running 1) then
      (s1.modSlot (hostSlot p) fun x => { x with removal := some (.running 2) }).finishRemoval (hostSlot p)
    else s1
  | none => s1
def execOpReleaseClaims (r : Req) (codes : List (BitVec 32)) (s : State) : Host.Outcome State Fault Refusal :=
  .next (s.releaseClaims r codes)

/-- Confirmation of a removal (R24): it counts with zero speed ACTIVE. -/
def State.confirmRemoval (s : State) (k : Slot) : State :=
  match s.frame.slots[k].removal with
  | some (.waiting _) =>
    if s.zeroSpeed s.activeCore then s.modSlot k fun x => { x with confirmed := true }
    else if s.waitReason k = some .confirmation then s.waitFor k .zeroSpeed else s
  | _ => s

/-- The latch of a slot opens (R22, R25): a request to remove the module. A second opening within
frame.hotswap.confirm_window confirms it. -/
def State.openLatch (s : State) (k : Slot) : State :=
  let x := s.frame.slots[k]
  if !x.pres || x.latchFault || x.removal.isSome then s.modSlot k fun x => { x with latchClosed := false }
  else
    let again := x.latchReclosed && decide (s.since x.latchClosedAt ≤ s.param 0x031 * sec)
    let s0 := s.modSlot k fun x => { x with
      latchClosed := false, latchReclosed := false, requestedAt := s.now, confirmed := false }
    match s0.removalRefused k with
    | some reason =>
      ((s0.raise Ev.FR_REMOVE_REQUEST [.u8 k.val, .u8 2]).modSlot k fun x => { x with refusedAt := some s.now }).raise
        Ev.FR_REMOVE_REFUSED [.u8 k.val, .u8 reason]
    | none =>
      -- of two latches opened in one tick, the one of the lower slot has the turn
      let behind := (List.finRange 14).filter fun j => k < j && s.frame.slots[j].holdsTurn
        && s.frame.slots[j].requestedAt == s.now && (match s.frame.slots[j].removal with
          | some (.waiting _) => true
          | _ => false)
      let s1 := s0.each behind fun s j => s.waitFor j .turn
      let why := (s1.modSlot k fun x => { x with removal := some (.waiting .gate) }).waitReason k
      let s2 := (s1.raise Ev.FR_REMOVE_REQUEST [.u8 k.val, .u8 (why.elim 0 waitCode)]).suspendUpdate k
      let s3 := match why with
        | some w => s2.waitFor k w
        | none => s2.modSlot k fun x => { x with removal := some (.waiting .gate) }
      if again then s3.confirmRemoval k else s3

/-- REMOVE_REQUEST. -/
def execRemoveRequest (slot : Slot) (s : State) : Host.Outcome State Fault Refusal := .next (s.openLatch slot)

/-- LATCH_REOPEN_CONFIRM: within the window after it was closed. -/
def execLatchReopenConfirm (slot : Slot) (s : State) : Host.Outcome State Fault Refusal := .next (s.openLatch slot)

/-- OP_SERVICE_DROP: with zero speed ACTIVE it confirms the removal of the slot and arms a drop for its update (R24,
R409). -/
def State.doServiceDrop (s : State) (r : Req) (slot : Nat) : State :=
  let oc := Opc.OP_SERVICE_DROP
  match asFin 14 slot with
  | none => s.fail r oc ST_RANGE (argOff 16)
  | some k =>
    let s1 := s.confirmRemoval k
    if s.zeroSpeed s.activeCore then (s1.modFirm k fun f => { f with armedAt := some s.now }).ok r oc []
    else s1.fail r oc ST_INTERLOCK 2
def execOpServiceDrop (r : Req) (slot : Slot) (s : State) : Host.Outcome State Fault Refusal :=
  .next (s.doServiceDrop r slot.val)

/-! ### The end of a removal (R23, R26) -/

/-- A module goes through R21's identity check again. -/
def State.reIdentify (s : State) (k : Slot) : State :=
  s.modSlot k fun x => { x with
    enable := false, railsOn := false, inService := false, standbyRole := false, lost := false, heldOut := none,
    fault := none, identAsked := x.pres && x.latchClosed && x.debounced, identAt := s.now, ident := none }

/-- REMOVE_CANCELLED (R26): the latch is closed again. A module whose sequence has begun re-enters from the identity
check; one still waiting has never left. A trip of a host rail clears (R287). -/
def State.cancelRemoval (s : State) (k : Slot) : State :=
  let x := s.frame.slots[k]
  let s0 := s.modSlot k fun x => { x with latchClosed := true, latchClosedAt := s.now, latchReclosed := true, latchFault := false }
  let s1 := match slotKind k with
    | .host p => s0.modPort (hostPort p) fun t => { t with h12Tripped := false }
    | _ => s0
  match x.removal with
  | none =>
    -- a module fitted with its latch open, or one whose refused request ends
    if x.pres && !x.inService && !x.enable then s1.reIdentify k else s1
  | some stage =>
    let s2 := (s1.modSlot k fun x => { x with removal := none, confirmed := false }).raise Ev.FR_REMOVE_CANCELLED [.u8 k.val]
    match stage with
    | .waiting _ => match s2.update.firm[k].state with
      -- an abandoned bank write starts again from step 2 of R402
      | .suspended => s2.updBecomes k (if s2.update.firm[k].resume = .writing then .waiting else s2.update.firm[k].resume)
      | _ => s2
    | _ =>
      let s3 := if x.inService then s2.clearEnable k else s2
      let s4 := match slotKind k with
        | .axis m => s3.modAxis (s3.axisOfLane m) fun y => { y with
            leaving := if y.leaving = some (laneIndex m) then none else y.leaving }
        | _ => s3
      s4.reIdentify k
def execRemoveCancelled (slot : Slot) (s : State) : Host.Outcome State Fault Refusal := .next (s.cancelRemoval slot)

/-- What goes with a module that is pulled: everything the module itself holds. -/
def State.emptySlot (s : State) (k : Slot) : State :=
  let s1 := s.modSlot k fun x => { ({} : SlotSt) with
    latchClosed := x.latchClosed, latchFault := x.latchFault, crcErrs := x.crcErrs, crcRaised := x.crcRaised }
  match slotKind k with
  | .power p => s1.modPm p fun _ => {}
  | .energy => s1.modEnergy fun e => { e with
      state := .off, fault := 0, flags := 0, chargerOff := false, derate := false, charging := false, boostOn := false,
      boostCut := false, missMs := 0, modFloor := 0, modCharge := 0 }
  | .core c => (s1.modCore c fun _ => {}).modSession c fun x => { x with level := 0, buffers := [] }
  | .host p => s1.modPort (hostPort p) fun t => { t with h12On := false, h12Tripped := false }
  | .axis m => s1.modAxMod m fun _ => {}
  | .field m =>
    ((s1.modFieldMod m fun _ => {}).each (modChans m) fun s c => s.modChan c fun x => { ({} : ChanSt) with
      demand := x.demand, doorDemand := x.doorDemand }).each (modGroups m) fun s g => s.modGroup g fun _ => {}
  | .load => (s1.modLoads fun _ => {}).each (List.finRange 12) fun s c => s.modLoad c fun x => { ({} : LoadChSt) with
      owned := x.owned, demand := x.demand, doorDemand := x.doorDemand }

/-- A module's work is lost at once (R27, R103): as for a failure of that module. -/
def State.moduleLost (s : State) (k : Slot) : State :=
  match slotKind k with
  | .power p => (s.takeOut k).judgeSupply p s.feedMask
  | .energy => ((s.takeOut k).modEnergy fun e => { e with chargeEn := false, boostEn := false }).judgeReady
  | .core c =>
    let s1 := if c = s.activeCore then s else s.standbyBecomes .absent 5
    (s1.coreOff c).takeOut k
  | .host p => (s.hostOut p).takeOut k
  | .axis m =>
    if s.inService k then
      -- a single axis freezes as for a drive fault; of a pair the lane is lost (R103, R111)
      let s1 := s.laneGone m
      if s1.inService k then s1.takeOut k else s1
    else s.takeOut k
  | .field _ => s.takeOut k
  | .load => s.takeOut k

/-- The stage a removal has reached: 0 none, 1 waiting, 2 running (log 17). -/
def SlotSt.stageCode (x : SlotSt) : Nat :=
  match x.removal with
  | none => 0
  | some (.waiting _) => 1
  | some _ => 2

/-- UNANNOUNCED_PULL (R27, R28): PRES breaks before the blue lamp is lit. -/
def State.unannounced (s : State) (k : Slot) : State :=
  let x := s.frame.slots[k]
  if !x.pres then s
  else
    let s1 := (s.suspendUpdate k).raise Ev.FR_UNANNOUNCED_PULL [.u8 k.val, .u32 x.serial, .u8 x.stageCode]
    let s2 := if x.lost then s1 else s1.moduleLost k
    s2.emptySlot k

/-- MODULE_REMOVED: PRES breaks after free to pull; otherwise it is a pull without the lamp. -/
def execModuleRemoved (slot : Slot) (s : State) : Host.Outcome State Fault Refusal :=
  .next (if s.frame.slots[slot].removal = some .free then
      (s.raise Ev.FR_MODULE_REMOVED [.u8 slot.val, .u32 s.frame.slots[slot].serial]).emptySlot slot
    else s.unannounced slot)

def execUnannouncedPull (slot : Slot) (s : State) : Host.Outcome State Fault Refusal :=
  .next (if s.frame.slots[slot].removal = some .free then
      (s.raise Ev.FR_MODULE_REMOVED [.u8 slot.val, .u32 s.frame.slots[slot].serial]).emptySlot slot
    else s.unannounced slot)

/-- LATCH_FAULT: the latch reads closed with PRES absent, and is ignored. -/
def execLatchFault (slot : Slot) (s : State) : Host.Outcome State Fault Refusal :=
  .next (if s.frame.slots[slot].pres || s.frame.slots[slot].latchFault then s
    else (s.modSlot slot fun x => { x with latchClosed := true, latchFault := true }).raise Ev.FR_LATCH_FAULT
      [.u8 slot.val])

/-- What a tick brings to the removals: the one that has the turn, in slot order, and the steps that are done. -/
def State.removalTick (s : State) : State :=
  let s1 := s.each (List.finRange 14) fun s k => match s.frame.slots[k].removal with
    | some (.running _) => if s.removalDone k then s.finishRemoval k else s
    | _ => s
  s1.each (List.finRange 14) State.evalRemoval

/-! ### Lamps (R33, Table FR-13) -/

/-- An update is in progress on the module: from step 2 of R402 until it is confirmed or rolled back. -/
def State.updating (s : State) (k : Slot) : Bool :=
  match s.update.firm[k].state with
  | .writing | .trial | .rollbackPending => true
  | _ => false

/-- A request refused within the last 5 s. -/
def State.refusedNow (s : State) (k : Slot) : Bool :=
  match s.frame.slots[k].refusedAt with
  | some t => decide (s.since t < 5 * sec)
  | none => false

def State.blueLamp (s : State) (k : Slot) : BlueLamp :=
  let x := s.frame.slots[k]
  match x.removal with
  | some (.running _) => .blink1Hz
  | some (.waiting _) => .blink4Hz
  | some .free => .on
  | none => if x.pres && !x.latchClosed && !x.inService then .on else .off

def State.statusLamp (s : State) (k : Slot) : StatusLamp :=
  let x := s.frame.slots[k]
  if s.blueLamp k = .on then .off
  else if s.refusedNow k then .red4Hz
  else if s.updating k then .redGreen1Hz
  else match x.heldOut with
    | some .mismatch | some .invalid => .red1Hz
    | some _ => .red
    | none =>
      if x.fault.isSome || x.lost then .red
      else if x.inService then (if x.standbyRole then .green1Hz else .green)
      else if x.pres then .green4Hz
      else if s.declared k = 0 then .off else .red

/-- Which of the three lamps the start-up test lights: 200 ms each. -/
def State.lampTest (s : State) : Option Nat :=
  match s.frame.lampTestFrom with
  | some t => if s.since t < 600 * msec then some (s.since t / (200 * msec)) else none
  | none => none

/-- The active core drives the lamps. -/
def State.lampTick (s : State) : State :=
  let status (k : Slot) : StatusLamp := match s.lampTest with
    | some 0 => .red
    | some 1 => .green
    | some _ => .off
    | none => s.statusLamp k
  let blue (k : Slot) : BlueLamp := match s.lampTest with
    | some 0 | some 1 => .off
    | some _ => .on
    | none => s.blueLamp k
  { s with frame := { s.frame with
      statusLamps := Vector.ofFn status, blueLamps := Vector.ofFn blue,
      lampTestFrom := if s.lampTest.isNone then none else s.frame.lampTestFrom } }

end Sys2Proof.Machine
end

