-- ==== Sys2Proof/Machine/Power.lean ====
section
/-!
DEFINITION. Power states and wake, chapter 10: consent (R239 to R241), entry (R242 to R245), wake sources and the wake
timetable (R246 to R253), pad hold (R254), and failed wakes (R256, R257). Starts from OFF stand in Start.lean.
-/

namespace Sys2Proof.Machine

/-! ### Consent (R239 to R241) -/

/-- The parties whose consent counts, in the order of PWR_STATUS. -/
def consentParties : List Party := [.p0, .p1, .p2, .p4, .tl]

def State.holdsClaim (s : State) (p : Party) : Bool := s.doors.claims.any fun c => c.2 == p
def State.waitOf (s : State) (p : Party) : Option PendingWait := s.power.waits.find? fun w => w.req.party == p

/-- The doorways TL owns. -/
def State.tlDoors (s : State) : List Doorway := s.enabledDoors.filter s.tlOwns

/-- TL's doorways are CLOSED_LOCKED with both release pairs INACTIVE (R240). -/
def State.tlIdle (s : State) : Bool :=
  s.param 0x4D2 == 1 && !s.tlDoors.isEmpty && (s.tlDoors.all fun d => s.doors.door[d].leaf == .closedLocked)
    && s.pairVal s.activeCore (s.param 0x083) == .inactive && s.pairVal s.activeCore (s.param 0x084) == .inactive

/-- TL consents: it has been so for pw.tl.idle. -/
def State.tlConsents (s : State) : Bool :=
  s.tlIdle && match s.power.tlIdleFrom with
    | some t => decide (s.param 0x4D4 * sec ≤ s.since t)
    | none => false

/-- May the frame enter OFF (R241)? Its evacuation input can wake it. -/
def State.mayOff (s : State) : Bool := s.param 0x087 == 0xFF || (s.param 0x087 == 0 && s.param 0x4C4 == 1)

/-- A target as taken: other values are SLEEP, and OFF may be taken as DEEP. -/
def State.takenTarget (s : State) (t : Nat) : Nat :=
  if t = 4 then (if s.mayOff then 4 else 3) else if t = 3 then 3 else 2

/-- Has a party consented, and to which target? -/
def State.consentOf (s : State) (p : Party) : Option Nat :=
  match p with
  | .p0 => if s.power.mode[(0 : Fin 2)].getLsbD 0 && (s.waitOf p).isSome then
      some (s.takenTarget (bits s.power.mode[(0 : Fin 2)].toNat 1 3)) else none
  | .p1 => if s.power.mode[(1 : Fin 2)].getLsbD 0 && (s.waitOf p).isSome then
      some (s.takenTarget (bits s.power.mode[(1 : Fin 2)].toNat 1 3)) else none
  | .tl => if s.tlConsents then some (s.takenTarget (s.param 0x4D3)) else none
  | _ => (s.waitOf p).map fun w => s.takenTarget w.target

def State.consentMask (s : State) : Nat :=
  maskOf 5 fun i => match consentParties[i]? with
    | some p => (s.consentOf p).isSome
    | none => false
def State.claimMask (s : State) : Nat :=
  maskOf 5 fun i => match consentParties[i]? with
    | some p => s.holdsClaim p
    | none => false

/-- PW_CONSENT for a party that has just consented. -/
def State.noteConsent (s : State) (p : Party) : State :=
  let i := consentParties.findIdx fun q => q == p
  let had := match s.power.consents.toList[i]? with
    | some b => b
    | none => true
  match s.consentOf p with
  | some t =>
    let s1 := s.modPower fun w => { w with consents := Vector.ofFn fun k => if k.val = i then true else w.consents[k] }
    if had then s1 else s1.raise Ev.PW_CONSENT [.u8 (Party.code p), .u8 t, .u8 s.consentMask, .u8 s.claimMask]
  | none => s.modPower fun w => { w with consents := Vector.ofFn fun k => if k.val = i then false else w.consents[k] }

/-- TL is the only party that holds a claim, and has consented: this counts as a pending OP_WAIT (R240). -/
def State.tlAlone (s : State) : Bool := s.claimMask == 16 && s.tlConsents

/-- Entry begins in this resolver tick (R239). -/
def State.entryDue (s : State) : Bool :=
  s.power.state == .run && s.power.entry.isNone && s.power.wake.isNone && !s.supply.serviceOnly
    && (!s.power.waits.isEmpty || s.tlAlone)
    && consentParties.all fun p => !s.holdsClaim p || (s.consentOf p).isSome

/-- The shallowest target of the consenting parties. -/
def State.entryTarget (s : State) : Nat := (consentParties.filterMap s.consentOf).foldl min 4

/-- The RTC alarm: the earliest of those the waits carry and the next multiple of pw.rtc.period. -/
def State.entryAlarm (s : State) : Nat :=
  let period := s.param 0x4D0 * sec
  let next := if period = 0 then 0 else (s.tai / period + 1) * period
  ((s.power.waits.map (·.alarm)).filter fun a => a != 0).foldl (fun n a => if n = 0 then a else min n a) next

/-! ### Wake sources (R246, Table PW-5) -/

/-- The wake input of door.in.evac, as a mask. -/
def State.evacMask (s : State) : Nat := if s.param 0x087 = 0xFF then 0 else 2 ^ s.param 0x087

/-- Wake inputs enabled for a target state. -/
def State.wkEnabled (s : State) (target : Nat) : Nat :=
  match target with
  | 2 => s.param 0x4C0 ||| s.evacMask
  | 3 => s.param 0x4C1 ||| s.evacMask
  | _ => s.param 0x4C4

/-- Those of them set to level: the evacuation input always, and WK0 in OFF. -/
def State.wkLevel (s : State) (target : Nat) : Nat :=
  maskOf 8 fun i => bit (s.wkEnabled target) i && (target == 4 || bit s.evacMask i || !bit (s.param 0x4C3) i)

/-- Wake inputs active at a reading. -/
def State.wkActiveMask (s : State) (wk : Byte) : Nat := maskOf 8 fun i => wk.getLsbD i == bit (s.param 0x4C2) i

/-- Every source enabled for a target, in the bits of PWR_WAKE_CAUSE. -/
def State.sources (s : State) (target : Nat) : Nat :=
  s.wkEnabled target +
    if target = 4 then 0
    else maskOf 15 fun i => match i with
      | 8 => s.param 0x4C5 == 1
      | 9 => s.param 0x4C5 == 2
      | 10 => s.param 0x4CD == 1
      | 11 => s.param 0x4CE == 1
      | 12 | 13 | 14 => true
      | _ => false

def powerCode : PowerState → Nat
  | .run => 0 | .sleep => 2 | .deep => 3 | .off => 4
def powerOf (n : Nat) : PowerState := if n = 2 then .sleep else if n = 3 then .deep else .off

/-! ### Entry (R242, R243, Table PW-3) -/

/-- Why entry is refused at N1 (Table PW-4). -/
def State.entryRefusal (s : State) (target : Nat) : Option Nat :=
  if !s.anyPm || s.supply.onStore then some 1
  else if !s.loopShut s.activeCore then some 2
  else if (List.finRange 4).any (fun a => s.axes[a].plan.isSome || s.axes[a].cmd.isSome)
      || s.enabledDoors.any (fun d => s.doors.door[d].cmd.isSome) || !s.time.sched.isEmpty then some 3
  else if s.energy.window.isSome || s.updateOpen then some 4
  else if s.wkLevel target &&& s.wkActiveMask s.power.wk != 0 then some 5
  else if !s.zeroSpeed s.activeCore then some 6 else none

/-- End every pending OP_WAIT alike; PWR_MODE.consent is cleared. -/
def State.endWaits (s : State) (status : Byte) (detail : Nat) (result : List Byte) : State :=
  let rs := s.power.waits.map (·.req)
  (s.modPower fun w => { w with
    waits := [], mode := w.mode.map fun m => m &&& ~~~1, consents := .replicate 5 false }).completeAll rs Opc.OP_WAIT
      status detail result

def entryNo : EntryStep → Nat
  | .n1 => 1 | .n2 => 2 | .n3 => 3 | .n4 => 4 | .n5 => 5 | .n6 => 6

def State.enterStepN (s : State) (k : EntryStep) : State :=
  s.modPower fun w => { w with entry := some k, entryFrom := s.now }

/-- N2: staging is flushed and the shut-down record committed, showing a low-power entry. -/
def State.beginN2 (s : State) (target alarm : Nat) : State :=
  ((s.modPower fun w => { w with target := target, alarm := alarm, entryAt := s.now }).enterStepN .n2).commitShutdown
    4 target s.now 2

/-- N1: the checks of R242. -/
def State.tryEntry (s : State) : State :=
  if !s.entryDue then s
  else
    let t := s.entryTarget
    let s0 := if s.tlAlone then s.raise Ev.PW_TL_ENTRY [.u8 t] else s
    match s0.entryRefusal t with
    | some n =>
      let s1 := (s0.endWaits ST_STATE n []).modPower fun w => { w with tlIdleFrom := some s.now }
      s1.raise Ev.PW_ENTRY_REFUSED [.u8 n]
    | none => s0.beginN2 t s0.entryAlarm

/-- N3: park, loop relays off, charger and boost off, hold. -/
def State.beginN3 (s : State) : State :=
  let s1 := (s.flushJournal.enterStepN .n3).park
  let s2 := s1.each [(0 : CoreId), 1] fun s c => if s.doors.relays[c] then s.loopDrop c 1 else s
  let s3 := s2.modEnergy fun e => { e with chargeEn := false, boostEn := false }
  (s3.modPower fun w => { w with hold := true }).sendHold

/-- N4: the waits complete with the target, and PW_ENTER is posted. -/
def State.beginN4 (s : State) : State :=
  let t := s.power.target
  let s1 := (s.enterStepN .n4).endWaits ST_OK 0 (leBytes 1 t)
  s1.raise Ev.PW_ENTER [.u8 t, .u8 (s.param 0x4D1), .u16 (s.sources t)]

/-- N5: links down, host rails off but for rail_keep in SLEEP, bus T to standby, the panel target off, the standby core
to its low-power state. -/
def State.beginN5 (s : State) : State :=
  let s1 := (((s.enterStepN .n5).dropLinks 0).dropLinks 1)
  let s2 := s1.each [(0 : HostPort), 1] fun s p =>
    if s.power.target = 2 && s.power.mode[p].getLsbD 4 then s
    else (s.modPort (hostPort p) fun t => { t with h12On := false }).modSlot (hostSlot p) fun x => { x with
      railsOn := false, inService := false }
  let s3 := ((s2.portDown 2 2).each [(0 : CoreId), 1] fun s c => s.endSession c 3).canSleep.panelOff
  let s4 := s3.releaseHeld
  if s4.standbyPresent then s4.standbyBecomes .absent 6 else s4.modPair fun q => { q with standby := .absent }

/-- N6: the wait instruction; the entry window starts (R245). -/
def State.beginN6 (s : State) : State :=
  (s.enterStepN .n6).modPower fun w => { w with wkStart := w.wk }

/-- The field modules' logic sides, and the drive bus, are off: no core reads an input. -/
def State.fieldDark (s : State) : State :=
  s.each [(0 : Fin 2), 1] fun s m => s.modFieldMod m fun x => { x with
    views := .replicate 2 {}, image := {}, resolved := false, cmdNext := none }

/-- The low-power state is entered. -/
def State.lowPower (s : State) : State :=
  let st := powerOf s.power.target
  let s1 := if st = .off then s.frameOff else s
  (s1.fieldDark).modPower fun w => { w with
    state := st, entry := none, slept := s.now, hbFrom := s.now, parked := true, failAt := none, failSent := 0 }

/-- An entry step ends. -/
def State.endEntryStep (s : State) : State :=
  match s.power.entry with
  | some .n2 => s.beginN3
  | some .n3 => s.beginN4
  | some .n4 => s.beginN5
  | some .n5 => s.beginN6
  | _ => s

/-- ENTRY_STEP_END: N4 ends with pw.entry.host_grace, N5 within 2 ms. -/
def execEntryStepEnd (s : State) : Host.Outcome State Fault Refusal :=
  .next (match s.power.entry with
    | some .n4 => (s.until (s.power.entryFrom + s.param 0x4D6 * msec)).endEntryStep
    | some .n5 => (s.until (s.power.entryFrom + 2 * msec)).endEntryStep
    | _ => s.endEntryStep)

/-! ### Aborting an entry (R244) -/

/-- Modules that were held go back to their commands: PW_HOLD_RELEASED (R254). -/
def State.releaseHold (s : State) (who : Nat) : State :=
  if !(s.power.hold || s.supply.padHold) then s
  else
    let mods := Bool.nat (s.inService 11) + 2 * Bool.nat (s.inService 12) + 4 * Bool.nat (s.inService l0Slot)
    let s1 := ((s.modPower fun w => { w with hold := false, holdFrom := none }).modSupply fun u => { u with padHold := false })
    let s2 := (s1.each [(0 : Fin 2), 1] fun s m => s.modFieldMod m fun x => { x with holdDown := false }).modLoads fun x =>
      { x with holdCmd := false }
    s2.raise Ev.PW_HOLD_RELEASED [.u8 who, .u8 mods]

/-- Between N1 and the start of N6: cause 1 wake event, 2 safety-directed request, 3 SV request, 4 supply loss, 5 a
consent cleared before N4 (log 17). The modules return by the timetable from its 12 ms row. -/
def State.abortEntry (s : State) (cause : Nat) : State :=
  match s.power.entry with
  | none => s
  | some .n6 => s
  | some k =>
    if cause = 5 && 4 ≤ entryNo k then s
    else
      let s1 := (s.endWaits ST_PREEMPTED 0 []).modPower fun w => { w with entry := none, tlIdleFrom := some s.now }
      let s2 := s1.raise Ev.PW_ENTRY_ABORTED [.u8 cause, .u8 (entryNo k)]
      if entryNo k < 3 then s2
      else (s2.releaseHold 0xFF).modPower fun w => { w with
        wake := some { src := .deep, at_ := s.now, row := .linksUp, abort := true } }

def execEntryAborted (cause : Nat) (s : State) : Host.Outcome State Fault Refusal := .next (s.abortEntry cause)

/-! ### The port side: OP_WAIT, PWR_MODE and PWR_WAKE_CAUSE -/

/-- OP_WAIT: the pending wait of a port, with its target (P2 and P4) and its alarm. -/
def State.doWait (s : State) (r : Req) (target alarm : Nat) : State :=
  let carries := r.party == .p2 || r.party == .p4
  if carries && !(target == 2 || target == 3 || target == 4) then s.fail r Opc.OP_WAIT ST_RANGE (argOff 16)
  else
    let s1 := s.modPower fun w => { w with waits := w.waits ++ [{ req := r, target := target, alarm := alarm }] }
    (s1.noteConsent r.party).tryEntry
def execOpWait (r : Req) (target alarm : Nat) (s : State) : Host.Outcome State Fault Refusal :=
  .next (s.doWait r target alarm)

/-- The waits of a party end ST_PREEMPTED: its consent is gone before they completed (R239). -/
def State.consentGone (s : State) (p : Party) : State :=
  let rs := (s.power.waits.filter fun w => w.req.party == p).map (·.req)
  let s1 := (s.modPower fun w => { w with waits := w.waits.filter fun x => x.req.party != p }).noteConsent p
  let s2 := s1.completeAll rs Opc.OP_WAIT ST_PREEMPTED 0 []
  if rs.isEmpty then s2 else s2.abortEntry 5

/-- A write of PWR_MODE; the standby core's copy takes no consent. -/
def State.writePwrMode (s : State) (p : HostPort) (core : CoreId) (v : BitVec 32) : State :=
  if core ≠ s.activeCore then s
  else
    let had := s.power.mode[p].getLsbD 0
    let s1 := s.modPower fun w => { w with mode := updV w.mode p fun _ => v &&& 0x1F }
    if v.getLsbD 0 then (s1.noteConsent (hostParty p)).tryEntry
    else if had then s1.consentGone (hostParty p) else s1
def execPwrModeConsent (p : HostPort) (core : CoreId) (v : BitVec 32) (s : State) : Host.Outcome State Fault Refusal :=
  .next (s.writePwrMode p core v)

/-- A write of ones to PWR_WAKE_CAUSE. -/
def State.writeWakeCause (s : State) (core : CoreId) (v : BitVec 32) : State :=
  s.setUpWrite core fun s => s.modPower fun w => { w with cause := w.cause &&& ~~~v }
def execPwrWakeCauseClear (_p : HostPort) (core : CoreId) (v : BitVec 32) (s : State) : Host.Outcome State Fault Refusal :=
  .next (s.writeWakeCause core v)

/-- TL_CONSENT (R240): the doorways TL owns have been idle for pw.tl.idle. -/
def State.tlIdleTick (s : State) : State :=
  s.modPower fun w => { w with
    tlIdleFrom := if s.tlIdle then some (w.tlIdleFrom.getD s.now) else none }
def execTlConsent (s : State) : Host.Outcome State Fault Refusal :=
  .next (
    let s1 := s.tlIdleTick
    match s1.power.tlIdleFrom with
    | some t => ((s1.until (t + s.param 0x4D4 * sec)).noteConsent .tl).tryEntry
    | none => s1)

/-- OP_RELEASE_HOLD (R254): from a port that holds a claim, or from P4; without a hold it has no effect. -/
def State.doReleaseHold (s : State) (r : Req) : State :=
  let oc := Opc.OP_RELEASE_HOLD
  if !(s.power.hold || s.supply.padHold) then s.ok r oc []
  else if r.party != .p4 && !s.holdsClaim r.party then s.fail r oc ST_NOT_OWNER 0xFF
  else (s.releaseHold (Party.code r.party)).ok r oc []
def execOpReleaseHold (r : Req) (s : State) : Host.Outcome State Fault Refusal := .next (s.doReleaseHold r)

/-- HOLD_AUTO_RELEASE: pw.hold.auto_release after RUN. -/
def execHoldAutoRelease (s : State) : Host.Outcome State Fault Refusal :=
  .next (match s.power.holdFrom with
    | some t =>
      if s.param 0x4D5 ≠ 0 && s.power.hold then (s.until (t + s.param 0x4D5 * msec)).releaseHold 0xFF else s
    | none => s)

/-! ### Waking (R246, R247, R251) -/

/-- A wake event in a low-power state: the enabled sources among its causes start the timetable. A failed wake is
retried (R256). -/
def State.wakeBy (s : State) (causes : BitVec 32) (retentionFailed : Bool) : State :=
  let st := s.power.state
  let on := causes &&& BitVec.ofNat 32 (s.sources (powerCode st))
  if !s.asleep || on = 0 then s
  else if retentionFailed && st == .deep then
    ((s.frameOff.modPower fun w => { w with retentionLost := true, slept := s.power.slept }).beginWake .off
      (on ||| 0x8000)).raise Ev.PW_RETENTION_LOST [.u8 (s.param 0x4D1)]
  else s.beginWake st on

/-- WAKE_EVENT, `slept` ns after the state was entered; during an entry it aborts it (R244), and an edge within the entry
window is lost (R245). -/
def execWakeEvent (causes : BitVec 32) (retentionFailed : Bool) (slept : Nat) (s : State) :
    Host.Outcome State Fault Refusal :=
  .next (match s.power.entry with
    | some _ =>
      if causes &&& BitVec.ofNat 32 (s.sources s.power.target) = 0 then s else s.abortEntry 1
    | none =>
      if s.asleep then (s.until (s.power.slept + slept)).wakeBy causes retentionFailed else s)

/-- ENTRY_WINDOW_END (R245): 122.1 us after the wait instruction. A level source that is active wakes the frame at once;
an edge-configured input that reads differently at the two ends is recorded. -/
def execEntryWindowEnd (wk : Byte) (s : State) : Host.Outcome State Fault Refusal :=
  .next (match s.power.entry with
    | some .n6 =>
      let t := s.power.target
      let s0 := s.until (s.power.entryFrom + 122100)
      let edges := s0.wkEnabled t &&& ((0xFF ^^^ s0.wkLevel t) % 256)
      let changed := (s0.power.wkStart ^^^ wk) &&& BitVec.ofNat 8 edges
      let s1 := (s0.modPower fun w => { w with wk := wk, windowChange := changed }).lowPower
      let level := s1.wkLevel t &&& s1.wkActiveMask wk
      -- the entry to OFF of R411 wakes at once
      if s1.update.pairUpdate then s1.beginWake .off 0
      else if level ≠ 0 then s1.wakeBy (BitVec.ofNat 32 level) false else s1
    | _ => s)

/-- A wake frame of R247: a classical frame of the identifier, DLC and data set. -/
def State.isWakeFrame (s : State) (f : CanFrame) : Bool :=
  let id := f.id.toNat + (if f.ide then 2 ^ 31 else 0)
  let mask := (s.param 0x4C7 % 2 ^ 29) + 2 ^ 31
  let want (i : Nat) : Nat := byteAt (leBytes 4 (s.param 0x4C9) ++ leBytes 4 (s.param 0x4CA)) i
  let care (i : Nat) : Nat := byteAt (leBytes 4 (s.param 0x4CB) ++ leBytes 4 (s.param 0x4CC)) i
  f.fmt == 0 && !f.rtr && (id &&& mask) == (s.param 0x4C6 &&& mask)
    && (s.param 0x4C8 == 0xFF || s.param 0x4C8 == f.data.length)
    && (List.range (min 8 f.data.length)).all fun i => (byteAt f.data i &&& care i) == (want i &&& care i)

/-- WAKE_FRAME. -/
def execWakeFrame (f : CanFrame) (slept : Nat) (s : State) : Host.Outcome State Fault Refusal :=
  .next (if s.isWakeFrame f then
      (match s.power.entry with
        | some _ => if s.param 0x4C5 = 2 then s.abortEntry 1 else s
        | none => if s.asleep then (s.until (s.power.slept + slept)).wakeBy 0x200 false else s)
    else s)

/-! ### Failed wakes (R256) -/

/-- The wake-failure message (Table MB-12): core, failed check, attempts, serial number. -/
def State.wakeFailMessage (s : State) : State :=
  let c := s.activeCore
  s.sendFallback 1 (leBytes 1 c.val ++ leBytes 1 s.power.failedCheck ++ leBytes 1 (min 255 s.power.failedAttempts)
    ++ [0] ++ leBytes 4 (s.coreSerial c).toNat)

/-- The wake has failed at a check: with a standby in service a detour wake; with one core the wake-failure message,
FAULT_OUT, and the sources armed again. -/
def State.wakeFailed (s : State) (check : Nat) : State :=
  match s.power.wake with
  | none => s
  | some k =>
    let a := s.activeCore
    let b := otherCore a
    if s.inService (coreSlot b) && s.pair.core[b].present then
      let s1 := ((s.coreOff a).roleChange b).modCore a fun x => { x with faulted := true, silentAt := s.now }
      let s2 := (s1.modSlot (coreSlot b) fun x => { x with inService := true, standbyRole := false }).modPower fun w => { w with
        wake := some { k with at_ := s.now, row := .regEnable, shift := 0, retried := false, detour := true },
        cause := w.cause ||| 0x20000 }
      (s2.raise Ev.PW_DETOUR_WAKE [.u8 a.val]).judgeTiers (coreSlot a).val
    else
      (s.modPower fun w => { w with
        wake := none, failedAttempts := w.failedAttempts + 1, failedCheck := check, faultOut := true,
        failAt := some s.now, failSent := 1 }).wakeFailMessage

/-- WAKE_FAIL_REPEAT: twice more at 100 ms, then every 10 s. -/
def execWakeFailRepeat (s : State) : Host.Outcome State Fault Refusal :=
  .next (match s.power.failAt with
    | some t =>
      if s.asleep then
        let s1 := s.until (t + if s.power.failSent < 3 then 100 * msec else 10 * sec)
        (s1.modPower fun w => { w with failAt := some s1.now, failSent := w.failSent + 1 }).wakeFailMessage
      else s
    | none => s)

/-! ### Positions and doorway states after a start or a wake (R199, R252) -/

/-- The pairs are evaluated before the proofs are judged (R38). -/
def State.readPairs (s : State) : State :=
  s.each [(0 : CoreId), 1] fun s c => s.each s.pairChans fun s k => s.pairTick c k

/-- The doorway's state agrees with its proofs: closed and locked states need every one, the others lack one. -/
def State.stateProven (s : State) (d : Doorway) (l : Leaf) : Bool :=
  match l with
  | .closedLocked | .isolated => s.allProven s.activeCore d
  | _ => !s.allProven s.activeCore d

/-- An axis keeps its position: a leaf of a doorway closed and locked (with a wake also ISOLATED) with its proofs, or a
stowed step with its proof. -/
def State.keepsPos (s : State) (a : Axis) (leaf : Doorway → Leaf) (step : Doorway → StepSt) (wake : Bool) : Bool :=
  match s.doorOfAxis a with
  | none => false
  | some d =>
    if s.isLeafAxis a then
      (leaf d == .closedLocked || (wake && leaf d == .isolated)) && s.allProven s.activeCore d
    else step d == .stowed && s.stowedProof s.activeCore d

/-! ### RUN after a wake (R251 to R254) -/

/-- TL's claims start anew: the takeover timer from RUN, or every doorway with mode 1 (Table RF-8). -/
def State.tlStart (s : State) : State :=
  let s1 := s.loseClaims .tl 3
  let s2 := s1.each [(0 : Doorway), 1] fun s d => s.modDoor d fun x => { x with tlFrom := s.now }
  if s.param 0x081 = 1 then s2.each s2.enabledDoors fun s d => s.tlTakes d else s2

/-- A start record (Table JR-3). -/
def State.startRecord (s : State) (kind ms restored off : Nat) : State :=
  let s0 := s.modJournal fun j => { j with startCount := j.startCount + 1 }
  s0.stage (s0.mkRecord true s0.tai (.start (leBytes 1 kind ++ leBytes 1 s0.activeCore.val ++ leBytes 2 (min 65535 ms)
    ++ leBytes 8 restored ++ leBytes 4 s0.power.cause.toNat ++ leBytes 4 (off / sec) ++ s0.setHash.take 8)) none)

/-- Neither host slot holds a host card in service and P2 is disabled: no host can ever release the hold (R254). -/
def State.noHost (s : State) : Bool :=
  s.param 0x528 == 0 && [(5 : Slot), 6].all fun k =>
    !(s.inService k && s.frame.slots[k].ident.elim false fun b => byteAt b 0x0F == 2)

/-- The hold at RUN: released at once, or from now on by R254. -/
def State.holdAtRun (s : State) : State :=
  if !s.power.hold then s
  else if s.noHost then s.releaseHold 0xFF
  else s.modPower fun w => { w with holdFrom := some s.now }

/-- RUN is reached by a wake from SLEEP or DEEP: positions and doorways under R252, then what Table RF-8 gives. -/
def State.wakeRun (s : State) (k : WakeSt) : State :=
  let s1 := s.readPairs
  let keeps (a : Axis) : Bool :=
    s1.keepsPos a (fun d => s1.doors.door[d].leaf) (fun d => s1.doors.door[d].step) true
  let s2 := s1.each (List.finRange 4) fun s a => if keeps a then s else s.makeUncertain a 3
  let s3 := (s2.modPower fun w => { w with
    state := .run, wake := none, parked := false, lastState := BitVec.ofNat 3 (powerCode k.src),
    wakeMs := BitVec.ofNat 16 (min 65535 (s.since k.at_ / msec)), mode := w.mode.map fun m => m &&& ~~~1,
    consents := .replicate 5 false, tlIdleFrom := none, retentionLost := false,
    cause := if w.windowChange = 0 then w.cause else w.cause ||| 0x40000 })
  let s4 := s3.each s3.enabledDoors fun s d =>
    let s' := s.modDoor d fun x => { x with reopens := 0, restSince := none }
    if s'.stateProven d s'.doors.door[d].leaf then s' else s'.enterFault d .power
  let s5 := (s4.tlStart.canStart).modPanel fun p => { p with intercom := .replicate 2 0 }
  let s6 := s5.startRecord (powerCode k.src + 1) (s.since k.at_ / msec) 0 k.off
  let s7 := s6.raise Ev.PW_WAKE [.u8 (powerCode k.src), .u32 s6.power.cause.toNat, .u16 s6.power.wakeMs.toNat]
  let s8 := if s7.power.windowChange = 0 then s7
    else (s7.raise Ev.PW_WINDOW_CHANGE [.u8 s7.power.windowChange.toNat]).modPower fun w => { w with windowChange := 0 }
  let s9 := if s8.power.failedAttempts = 0 then s8
    else (s8.raise Ev.PW_WAKE_FAILED [.u8 s8.activeCore.val, .u8 s8.power.failedCheck, .u8 (min 255 s8.power.failedAttempts)]).modPower
      fun w => { w with failedAttempts := 0, faultOut := false, failAt := none, failSent := 0 }
  ((s9.holdAtRun).judgeTiers 0xFF).judgeSupply 0 s9.feedMask

/-- RUN again after an aborted entry (R244). -/
def State.abortRun (s : State) : State :=
  ((s.modPower fun w => { w with wake := none, parked := false }).canStart).judgeTiers 0xFF

/-! ### The wake timetable (Table PW-6) -/

/-- Time of a row after the wake event, in us, from DEEP or OFF. -/
def deepRow : WakeRow → Nat
  | .regEnable => 500 | .regCheck => 3000 | .tcxoCheck => 8000 | .pllCheck => 9000 | .resume => 9500
  | .linksUp => 12000 | .fieldUp => 20000 | .precharge => 60000 | .axesReady => 150000
/-- The same from SLEEP. -/
def sleepRow : WakeRow → Nat
  | .pllCheck => 1000 | .resume => 1500 | .linksUp => 4000 | .fieldUp => 12000 | .precharge => 52000
  | .axesReady => 142000 | _ => 0

/-- When the row of a wake runs, ns. -/
def WakeSt.due (k : WakeSt) : Nat :=
  if k.start ≠ 0 then k.runAt
  else k.at_ + (if k.src = .sleep && !k.detour then sleepRow k.row else deepRow k.row) * usec + k.shift

def State.toRow (s : State) (k : WakeSt) (row : WakeRow) : State :=
  s.modPower fun w => { w with wake := some { k with row := row } }

/-- The CPU resumes (R249): banks that DEEP did not retain are rebuilt. -/
def State.cpuResumes (s : State) (k : WakeSt) : State :=
  let mask := s.param 0x4D1
  let deep := k.src == .deep
  let s1 := if deep && !bit mask 4 then s.loseQueues else s
  let b5 := !deep || bit mask 5
  s1.timeWake b5 (if deep then 20000 else s.param 0x4E4) k.off

/-- Module links up, host rails on, the standby core woken, the panel target powered. -/
def State.linksReturn (s : State) : State :=
  let s1 := s.each [(0 : HostPort), 1] fun s p =>
    let x := s.frame.slots[hostSlot p]
    if x.enable && !s.ports[hostPort p].h12Tripped then
      (s.modPort (hostPort p) fun t => { t with h12On := true }).modSlot (hostSlot p) fun x => { x with railsOn := true, inService := true }
    else s
  let s2 := if s1.standbyPresent then
      (s1.standbyBecomes .catchingUp 6).modPair fun q => { q with enabledAt := s.now }
    else s1
  s2.panelPower

/-- Field sides up; the power side of the load module with its wire model at 0.4 (Table RF-8). -/
def State.fieldReturns (s : State) : State :=
  s.each (List.finRange 12) fun s c => s.modLoad c fun x => { x with heat := 4 * 10 ^ 11, warned := false }

end Sys2Proof.Machine
end

