-- ==== Sys2Proof/Machine/Update.lean ====
section
/-!
DEFINITION. Firmware updates and service access, chapter 17: images and their checks (R396, R401), boot pointers and
the bootloader (R398), the stages of an update (R399 to R412), the integrator key (R413), the containers of the service
port (R414, R415) and its sessions (R416 to R419).
-/

namespace Sys2Proof.Machine

/-! ### Images (R396, Tables UD-1 and UD-2) -/

/-- Image type of the module a slot holds; 0 for host cards, which carry none. -/
def imgType (k : Slot) : Nat :=
  match slotKind k with
  | .core _ => 1 | .axis _ => 2 | .field _ => 3 | .load => 4 | .power _ => 5 | .energy => 6 | .host _ => 0

/-- Largest body of a type (Table UD-1). -/
def maxBody (kind : Nat) : Nat :=
  match kind with
  | 1 => 8 * 2 ^ 20 | 2 => 2 ^ 20 | 3 => 2 ^ 19 | 4 => 2 ^ 19 | 5 => 2 ^ 18 | 6 => 2 ^ 18 | _ => 0

def hdrType (h : List Byte) : Nat := byteAt h 0x06
def hdrIssues (h : List Byte) : Nat := u32At h 0x08
def hdrVersion (h : List Byte) : Nat := u32At h 0x0C
def hdrSec (h : List Byte) : Nat := u32At h 0x10
def hdrLength (h : List Byte) : Nat := u32At h 0x18
def hdrChunks (h : List Byte) : Nat := u32At h 0x1C

/-- What OP_UPDATE_BEGIN refuses with ST_IMAGE (R400): 1 magic or format, 2 type, 3 length or chunks. -/
def headerFail (h : List Byte) : Option Nat :=
  if u32At h 0 ≠ 0x374B5357 || u16At h 4 ≠ 1 then some 1
  else if maxBody (hdrType h) = 0 then some 2
  else if maxBody (hdrType h) < hdrLength h || hdrChunks h ≠ (hdrLength h + 65535) / 65536 then some 3
  else none

/-- The vendor's signature holds. The image a module is fitted with at first has no header: it counts as signed by the
vendor, with version 0 and security version 0 (log 9). -/
def Image.vendorOk (i : Image) : Bool :=
  i.header.isEmpty || Config.vendorSigned (i.header.take 0x80) (slice i.header 0x80 64)

/-- The integrator's countersignature holds, where a key is provisioned. -/
def Image.integratorOk (i : Image) (key : Option IntKey) : Bool :=
  match key with
  | none => true
  | some k => !i.header.isEmpty && Config.ecdsaVerify k.key (i.header.take 0xC0) (slice i.header 0xC0 64)

def Image.hashOk (i : Image) : Bool :=
  (i.header.isEmpty && i.body.isEmpty) || sha256 i.body == slice i.header 0x20 32

/-- The bootloader's test: the signature holds over what the bank contains, and sec_version is not below min_sec. -/
def Image.boots (i : Image) (minSec : Nat) : Bool := i.hashOk && i.vendorOk && decide (minSec ≤ hdrSec i.header)

/-! ### Boot pointers (R398, Table UD-3) -/

/-- Index of the copy in force: the valid one with the higher seq. -/
def FirmSt.copy (f : FirmSt) : Fin 2 :=
  if f.ptr[(0 : Fin 2)].valid && (!f.ptr[(1 : Fin 2)].valid || decide (f.ptr[(1 : Fin 2)].seq ≤ f.ptr[(0 : Fin 2)].seq)) then 0 else 1
def FirmSt.pointer (f : FirmSt) : BootPtr := f.ptr[f.copy]
def otherBank (b : Fin 2) : Fin 2 := if b = 0 then 1 else 0

/-- Write a pointer over the other copy, with the next seq. -/
def FirmSt.writePtr (f : FirmSt) (p : BootPtr) : FirmSt :=
  { f with ptr := updV f.ptr (otherBank f.copy) fun _ => { p with seq := f.pointer.seq + 1, valid := true } }

/-- The bytes of a pointer copy. -/
def BootPtr.bytes (p : BootPtr) : List Byte :=
  let b := leBytes 4 p.seq ++ leBytes 1 p.bank.val ++ leBytes 1 (Bool.nat p.trial) ++ leBytes 1 p.tries ++ [0]
    ++ leBytes 4 p.minSec
  b ++ leBytes 4 (crc32 b).toNat

/-- The image that runs, and its version. -/
def FirmSt.image (f : FirmSt) : Option Image := f.running.map fun b => f.banks[b]
def FirmSt.version (f : FirmSt) : Nat := f.image.elim 0 fun i => hdrVersion i.header

/-- The bank an update writes: the one that is not running. -/
def FirmSt.spare (f : FirmSt) : Fin 2 := otherBank (f.running.getD f.pointer.bank)

/-- Does it run its trial image? -/
def FirmSt.onTrial (f : FirmSt) : Bool := f.pointer.trial && f.running == some f.pointer.bank

/-- The steps of the bootloader, and whether it rolled back. -/
def FirmSt.boot (f : FirmSt) : FirmSt × Bool :=
  let p := f.pointer
  let back := p.trial && decide (3 ≤ p.tries)
  let f1 := if back then f.writePtr { p with bank := otherBank p.bank, trial := false, tries := 0 }
    else if p.trial then f.writePtr { p with tries := p.tries + 1 } else f
  let b := f1.pointer.bank
  let runs (b : Fin 2) : Bool := f1.banks[b].boots f1.pointer.minSec
  ({ f1 with
      running := if runs b then some b else if runs (otherBank b) then some (otherBank b) else none,
      restarting := false }, back)

/-! ### Staged images (R399 to R401) -/

def State.staged (s : State) (kind : Nat) : Option Staged :=
  match asFin 7 kind with
  | some i => s.update.staged[i]
  | none => none
def State.baseline (s : State) (kind : Nat) : Option Image :=
  match asFin 7 kind with
  | some i => s.update.baseline[i]
  | none => none
def State.secCounter (s : State) (kind : Nat) : Nat :=
  match asFin 7 kind with
  | some i => s.update.counter[i]
  | none => 0
def State.setStaged (s : State) (kind : Nat) (g : Option Staged) : State :=
  match asFin 7 kind with
  | some i => s.modUpdate fun u => { u with staged := updV u.staged i fun _ => g }
  | none => s

/-- State of a type: IDLE without a staged image, DOWNLOADING, VERIFIED. -/
def State.typeState (s : State) (kind : Nat) : UpdState :=
  match s.staged kind with
  | none => .idle
  | some g => if g.verified then .verified else .downloading

/-- Replace the staged image of a type: UD_STAGE where its state changes. -/
def State.stagedBecomes (s : State) (kind : Nat) (g : Option Staged) : State :=
  let old := s.typeState kind
  let s1 := s.setStaged kind g
  if s1.typeState kind = old then s1
  else s1.raise Ev.UD_STAGE [.u8 kind, .u8 (updCode old), .u8 (updCode (s1.typeState kind))]

/-- Chunk `i` as held. -/
def Staged.chunk (g : Staged) (i : Nat) : Option (List Byte) := (g.chunks.find? fun c => c.1 == i).map (·.2)
def Staged.missing (g : Staged) : Option Nat := (List.range (hdrChunks g.header)).find? fun i => (g.chunk i).isNone
def Staged.body (g : Staged) : List Byte := (List.range (hdrChunks g.header)).flatMap fun i => (g.chunk i).getD []
def Staged.image (g : Staged) : Image := { header := g.header, body := g.body }

/-- The checks of R401 and R397: a status, its detail, and the reason in UD_VERIFY_FAIL (log 17: 1 chunk missing, 2
security version, 3 body hash, 4 vendor's, 5 integrator's signature, 6 bank hash or failed programs). -/
def State.verifyFail (s : State) (g : Staged) : Option (Byte × Nat × Nat) :=
  match g.missing with
  | some i => some (ST_CHUNK, i, 1)
  | none =>
    let kind := hdrType g.header
    if hdrSec g.header < s.secCounter kind then some (ST_SECURITY_VERSION, s.secCounter kind, 2)
    else if sha256 g.body ≠ slice g.header 0x20 32 then some (ST_IMAGE, 0, 3)
    else if !g.image.vendorOk then some (ST_SIGNATURE, 1, 4)
    else if !g.image.integratorOk s.update.key then some (ST_SIGNATURE, 2, 5)
    else none

/-- Every update opcode but OP_UPDATE_STATUS needs the parameter-set claim (R399). -/
def State.updDenied (s : State) (r : Req) : Bool := s.notOwner r .paramSet

/-- Some slot of a type is in an update. -/
def State.typeBusy (s : State) (kind : Nat) : Option Slot :=
  (List.finRange 14).find? fun k => imgType k == kind && s.update.firm[k].state != .idle && s.update.firm[k].state != .trial

/-- A download is unfinished. -/
def State.downloadOpen (s : State) : Bool :=
  match s.update.download with
  | some t => s.typeState t == .downloading
  | none => false

/-- OP_UPDATE_BEGIN. -/
def State.doUpdateBegin (s : State) (r : Req) : State :=
  let oc := Opc.OP_UPDATE_BEGIN
  if r.bufLen ≠ 256 then s.fail r oc ST_RANGE (argOff 32)
  else if s.updDenied r then s.failOwner r oc .paramSet
  else match r.buf with
  | none => s.fail r oc ST_DMA 24
  | some h0 =>
    let h := slice h0 0 256
    let kind := hdrType h
    match headerFail h with
    | some n => s.fail r oc ST_IMAGE n
    | none =>
      if hdrSec h < s.secCounter kind then s.fail r oc ST_SECURITY_VERSION (s.secCounter kind)
      else
        let answer (s : State) (g : Staged) : State :=
          s.ok r oc (leBytes 2 (hdrChunks h) ++ leBytes 2 (g.missing.getD (hdrChunks h)))
        let fresh : Staged := { header := h }
        let start : State :=
          if s.downloadOpen then s.fail r oc ST_UPDATE_STATE 1
          else match s.typeBusy kind with
            | some k => s.fail r oc ST_UPDATE_STATE (updCode s.update.firm[k].state)
            | none => answer ((s.stagedBecomes kind (some fresh)).modUpdate fun u => { u with download := some kind }) fresh
        match s.staged kind with
        | some g =>
          if g.header = h then answer (s.raise Ev.UD_RESUMED [.u8 kind, .u8 (updCode (s.typeState kind))]) g else start
        | none => start
def execOpUpdateBegin (r : Req) (s : State) : Host.Outcome State Fault Refusal := .next (s.doUpdateBegin r)

/-- Bytes of chunk `i` of an image. -/
def chunkLen (h : List Byte) (i : Nat) : Nat := min 65536 (hdrLength h - 65536 * i)

/-- OP_UPDATE_CHUNK: the chunk goes to the NAND, is read back and its hash compared. A chunk of a VERIFIED image that
differs from the one held takes the image back to DOWNLOADING. -/
def State.doUpdateChunk (s : State) (r : Req) (index : Nat) (hash : List Byte) : State :=
  let oc := Opc.OP_UPDATE_CHUNK
  if s.updDenied r then s.failOwner r oc .paramSet
  else match s.update.download with
  | none => s.fail r oc ST_UPDATE_STATE 0
  | some kind => match s.staged kind with
    | none => s.fail r oc ST_UPDATE_STATE 0
    | some g =>
      if hdrChunks g.header ≤ index then s.fail r oc ST_RANGE (argOff 18)
      else if r.bufLen ≠ chunkLen g.header index then s.fail r oc ST_RANGE (argOff 60)
      else match r.buf with
      | none => s.fail r oc ST_DMA 52
      | some data =>
        let c := slice data 0 r.bufLen
        if sha256 c ≠ slice hash 0 32 then
          (s.raise Ev.UD_CHUNK_FAIL [.u8 kind, .u16 index]).fail r oc ST_CHUNK index
        else
          let same := g.chunk index == some c
          let g1 : Staged := if same then g else
            { g with chunks := (g.chunks.filter fun x => x.1 != index) ++ [(index, c)], verified := false }
          (s.stagedBecomes kind (some g1)).ok r oc (leBytes 2 g1.chunks.length)
def execOpUpdateChunk (r : Req) (index : Nat) (hash : List Byte) (s : State) : Host.Outcome State Fault Refusal :=
  .next (s.doUpdateChunk r index hash)

/-- OP_UPDATE_VERIFY. -/
def State.doUpdateVerify (s : State) (r : Req) (kind : Nat) : State :=
  let oc := Opc.OP_UPDATE_VERIFY
  if maxBody kind = 0 then s.fail r oc ST_RANGE (argOff 16)
  else if s.updDenied r then s.failOwner r oc .paramSet
  else match s.staged kind with
  | none => s.fail r oc ST_UPDATE_STATE 0
  | some g => match s.verifyFail g with
    | some (st, detail, why) =>
      ((s.stagedBecomes kind (some { g with verified := false })).raise Ev.UD_VERIFY_FAIL [.u8 kind, .u8 why]).fail r oc st detail
    | none => (s.stagedBecomes kind (some { g with verified := true })).ok r oc []
def execOpUpdateVerify (r : Req) (kind : Nat) (s : State) : Host.Outcome State Fault Refusal :=
  .next (s.doUpdateVerify r kind)

/-! ### Activation (R402, R409 to R411) -/

/-- Slots of a mask, in the slot order of R34. -/
def maskSlots (mask : Nat) : List Slot := (List.finRange 14).filter fun k => bit mask k.val

/-- The order in which slots are taken: that of R34, a standby core before the active one (R410). -/
def State.updOrder (s : State) : List Slot :=
  if s.activeCore = 0 then [0, 1, 2, 4, 3, 5, 6, 7, 8, 9, 10, 11, 12, 13] else List.finRange 14

/-- Does the image run on the module fitted in a slot? 2 another type or no module, 4 another issue. -/
def State.slotUnfit (s : State) (k : Slot) (h : List Byte) : Option Nat :=
  match s.frame.slots[k].ident with
  | none => some 2
  | some b =>
    if imgType k ≠ hdrType h || !s.frame.slots[k].pres then some 2
    else if bit (hdrIssues h) (byteAt b 0x0E - 0x41) then none else some 4

/-- The image's protocol range excludes the version the active core speaks. -/
def State.protoExcluded (s : State) (h : List Byte) : Bool :=
  let v := s.pair.core[s.activeCore].version
  !(decide (u16At h 0x14 ≤ v) && decide (v ≤ u16At h 0x16))

/-- A core update that R410 does not cover (R411). -/
def State.needsPairUpdate (s : State) (kind : Nat) (h : List Byte) : Bool :=
  kind == 1 && (!(s.inService 3 && s.inService 4) || s.protoExcluded h)

/-- Every enabled doorway is CLOSED_LOCKED or ISOLATED with its proofs. -/
def State.doorsProven (s : State) : Bool :=
  s.enabledDoors.all fun d => (s.doors.door[d].leaf == .closedLocked || s.doors.door[d].leaf == .isolated)
    && s.allProven s.activeCore d

/-- An armed drop (R409): OP_SERVICE_DROP within the last 30 s. -/
def State.armedDrop (s : State) (k : Slot) : Bool :=
  match s.update.firm[k].armedAt with
  | some t => decide (s.since t ≤ 30 * sec)
  | none => false

/-- Does a slot's activation need an armed drop (Table UD-8)? -/
def State.needsDrop (s : State) (k : Slot) : Bool :=
  match slotKind k with
  | .axis m => !s.laneMayLeave m && (match s.doorOfAxis (s.axisOfLane m) with
      | some d => !(s.doors.door[d].leaf == .isolated && s.isolatedProven s.activeCore d)
      | none => false)
  | .field m => m == 0 || s.enabledDoors.any s.f1Counts
  | .load => s.dropsLoop k
  | _ => false

/-- The partner of a core is confirmed on the staged image. -/
def State.partnerConfirmed (s : State) (c : CoreId) : Bool :=
  let f := s.update.firm[coreSlot (otherCore c)]
  f.state == .idle && !f.pointer.trial && (match f.image, s.staged 1 with
    | some i, some g => i.header == g.header
    | _, _ => false)

/-- The activation condition of a slot but for the armed drop (Table UD-8). -/
def State.updGate (s : State) (k : Slot) : Bool :=
  match slotKind k with
  | .power p => s.pmGood (otherPm p)
  | .energy => s.anyPm && !s.supply.onStore
  | .core c => s.pair.standby == .inStep && !s.removalRuns && s.supply.step.isNone && s.power.entry.isNone
      && (c != s.activeCore || s.partnerConfirmed c)
  | .axis m => if s.laneMayLeave m then s.axes[s.axisOfLane m].disagree.isNone else s.axisDoorAtRest (s.axisOfLane m)
  | .load => s.enabledDoors.all fun d =>
      s.lockType d == 0 || s.doors.door[d].leaf == .closedLocked || s.doors.door[d].leaf == .isolated
  | _ => true

/-- The command ends: slots that have not begun are IDLE again. -/
def State.endActivation (s : State) (status : Byte) (detail : Nat) (result : List Byte) : State :=
  match s.update.activation with
  | none => s
  | some a =>
    let s1 := (s.modUpdate fun u => { u with activation := none }).each a.slots fun s k =>
      if s.update.firm[k].state = .waiting then s.updBecomes k .idle else s
    s1.complete a.req Opc.OP_UPDATE_ACTIVATE status detail result

/-- A slot whose activation or rollback has begun and is not yet confirmed. -/
def State.updRuns (s : State) (k : Slot) : Bool :=
  match s.update.firm[k].state with
  | .writing | .trial | .rollbackPending | .suspended => true
  | _ => false

/-- The slot has its turn: it waits, no other is unconfirmed, and it is the first that waits. -/
def State.updTurn (s : State) (k : Slot) : Bool :=
  s.update.firm[k].state == .waiting
    && ((List.finRange 14).all fun j => j == k || !s.updRuns j || (s.update.asOne && imgType j == 1 && imgType k == 1))
    && (s.updOrder.find? fun j => s.update.firm[j].state == .waiting) == some k

/-- Step 2 is done: out of service, its enable left set. -/
def State.outForUpdate (s : State) (k : Slot) : State :=
  let s1 := (s.modSlot k fun x => { x with inService := false, standbyRole := false }).judgeTiers k.val
  match slotKind k with
  | .power p => s1.judgeSupply p s.feedMask
  | .energy => (s1.emBecomes .off).judgeReady
  | .core c => s1.modCore c fun x => { x with present := false, listenFrom := none }
  | _ => s1

/-- Step 2 of R402: the first steps of the removal sequence of Table FR-9. -/
def State.leaveForUpdate (s : State) (k : Slot) : State :=
  let s1 := if s.update.firm[k].workTaken then s else
    let t := (s.modSlot k fun x => { x with stepFrom := s.now }).modFirm k fun f => { f with workTaken := true }
    if t.inService k then t.takeWork k else t
  if s1.inService k && s1.removalDone k then s1.outForUpdate k else s1

/-- A slot leaves the list of its command with an error: the command ends. -/
def State.activationFails (s : State) (k : Slot) (status : Byte) (detail : Nat) : State :=
  (s.updBecomes k .idle).endActivation status detail []

/-- SLOT_ACTIVATION_START: steps 1 and 2 of R402, where the slot has its turn. The active core first hands over (R410);
both cores written as one stay in service (R411). -/
def State.startSlot (s : State) (k : Slot) : State :=
  if !s.updTurn k then s
  else if s.supply.onStore then s.endActivation ST_STATE 0 []
  else match s.staged (imgType k) with
  | none => s.activationFails k ST_UPDATE_STATE 0
  | some g =>
    let asOne := s.update.asOne && imgType k == 1
    if !asOne && !s.updGate k then s
    else if asOne && !s.doorsProven then s.activationFails k ST_UPDATE_STATE 0
    else if (if asOne then !s.armedDrop 3 else s.needsDrop k && !s.armedDrop k) then
      s.activationFails k ST_SERVICE_DROP (if asOne then 3 else k.val)
    else match s.verifyFail g with
    | some (st, detail, why) => (s.raise Ev.UD_VERIFY_FAIL [.u8 k.val, .u8 why]).activationFails k st detail
    | none =>
      if !asOne && k == coreSlot s.activeCore then s.wantHandover .update
      else
        let s1 := (s.updBecomes k .writing).modFirm k fun f => { f with
          outAt := s.now, fails := 0, trialRun := 0, reported := false, workTaken := false, armedAt := none }
        if asOne then s1 else s1.leaveForUpdate k
def execSlotActivationStart (slot : Slot) (s : State) : Host.Outcome State Fault Refusal := .next (s.startSlot slot)

/-- OP_UPDATE_ACTIVATE. -/
def State.doUpdateActivate (s : State) (r : Req) (kind : Nat) (mask : BitVec 16) : State :=
  let oc := Opc.OP_UPDATE_ACTIVATE
  let slots := maskSlots mask.toNat
  if maxBody kind = 0 then s.fail r oc ST_RANGE (argOff 16)
  else if mask = 0 || 2 ^ 14 ≤ mask.toNat then s.fail r oc ST_RANGE (argOff 18)
  else if s.updDenied r then s.failOwner r oc .paramSet
  else if s.supply.onStore then s.fail r oc ST_STATE 0
  else if s.update.activation.isSome then s.fail r oc ST_UPDATE_STATE 3
  else match slots.find? fun k => s.update.firm[k].state != .idle with
  | some k => s.fail r oc ST_UPDATE_STATE (updCode s.update.firm[k].state)
  | none => match s.staged kind with
    | none => s.fail r oc ST_UPDATE_STATE 0
    | some g =>
      if !g.verified then s.fail r oc ST_UPDATE_STATE 1
      else match slots.findSome? fun k => s.slotUnfit k g.header with
      | some n => s.fail r oc ST_IMAGE n
      | none =>
        let pair := s.needsPairUpdate kind g.header
        let fitted := [(3 : Slot), 4].filter s.inService
        if pair && fitted.any (fun k => !slots.contains k) then s.fail r oc ST_IMAGE 5
        else if pair && !s.doorsProven then s.fail r oc ST_UPDATE_STATE 0
        else
          let s1 := s.modUpdate fun u => { u with
            activation := some { req := r, kind := kind, slots := slots, first := slots }, asOne := pair }
          let s2 := s1.each slots fun s k => s.updBecomes k .waiting
          s2.each (s2.updOrder.filter fun k => slots.contains k) State.startSlot
def execOpUpdateActivate (r : Req) (kind : Nat) (mask : BitVec 16) (s : State) : Host.Outcome State Fault Refusal :=
  .next (s.doUpdateActivate r kind mask)

/-- The module restarts and re-enters from the identity check (steps 4 and 5). -/
def State.restartModule (s : State) (k : Slot) : State :=
  (s.modFirm k fun f => { f with restarting := true, workTaken := false }).reIdentify k

/-- Both cores of R411 are written: the entry steps N2 to N6 with target OFF. -/
def State.pairWritten (s : State) : State :=
  let cores := [(3 : Slot), 4].filter fun k => s.update.firm[k].state == .writing
  if cores.all fun k => s.update.firm[k].onTrial || s.update.firm[k].pointer.trial then
    (s.modUpdate fun u => { u with pairUpdate := true }).beginN2 4 0
  else s

/-- BANK_WRITE_DONE: the spare bank is written and its read-back hash holds, so the pointer is written and the module
restarts; or the activation of the slot ends on the old bank (R406). -/
def State.bankWritten (s : State) (k : Slot) (good : Bool) : State :=
  let kind := imgType k
  if s.update.firm[k].state ≠ .writing then s
  else match good, s.staged kind with
  | true, some g =>
    let s1 := s.modFirm k fun f =>
      ({ f with banks := updV f.banks f.spare fun _ => g.image }).writePtr
        { f.pointer with bank := f.spare, trial := true, tries := 0 }
    if s1.update.asOne && kind = 1 then s1.pairWritten
    else (if s1.inService k then s1.outForUpdate k else s1).restartModule k
  | _, _ =>
    let s1 := s.modFirm k fun f => { f with
      banks := updV f.banks f.spare fun _ => { header := [0], body := [] }, fails := 3 }
    let s2 := (s1.raise Ev.UD_VERIFY_FAIL [.u8 k.val, .u8 6]).activationFails k ST_IMAGE 0
    if s2.update.asOne && kind = 1 then s2 else s2.restartModule k
def execBankWriteDone (slot : Slot) (good : Bool) (s : State) : Host.Outcome State Fault Refusal :=
  .next (s.bankWritten slot good)

/-! ### Boots, trial and its end (R398, R403 to R405) -/

/-- A module's bootloader runs (R398). -/
def State.bootModule (s : State) (k : Slot) : State :=
  if imgType k = 0 then s
  else
    let b := s.update.firm[k].boot
    let s1 := s.modFirm k fun _ => b.1
    let s2 := if b.2 then (s1.raise Ev.UD_ROLLBACK [.u8 k.val, .u8 2]).updBecomes k .idle else s1
    if b.1.running.isSome then s2
    else (s2.modSlot k fun x => { x with heldOut := some .image }).raise Ev.UD_IMAGE_REFUSED [.u8 k.val, .u8 3]

/-- MODULE_BOOT, of a module that is fitted. -/
def execModuleBoot (slot : Slot) (s : State) : Host.Outcome State Fault Refusal :=
  .next (if s.frame.slots[slot].pres then s.bootModule slot else s)

/-- The bootloader of a module that was powered or restarted has run by the time its identity is read. -/
def State.booted (s : State) (k : Slot) : State := if s.update.firm[k].restarting then s.bootModule k else s

/-- May a slot be confirmed (R404)? -/
def State.mayConfirm (s : State) (k : Slot) : Bool :=
  s.update.firm[k].state == .trial && s.inService k && s.update.firm[k].onTrial &&
    match slotKind k with
    | .core _ => s.pair.standby == .inStep || !(s.declared 4 != 0)
    | _ => true

/-- The staged image of a type is released once no slot waits for it. -/
def State.releaseStaged (s : State) (kind : Nat) : State :=
  if (s.typeBusy kind).isSome then s
  else (s.stagedBecomes kind none).modUpdate fun u => { u with
    download := if u.download = some kind then none else u.download }

/-- Confirmation of one slot, by command (1) or automatic (2). -/
def State.confirmOne (s : State) (k : Slot) (how : Nat) : State :=
  let kind := imgType k
  let f := s.update.firm[k]
  let img := f.image.getD {}
  let sv := hdrSec img.header
  let old := s.secCounter kind
  let s1 := (s.modFirm k fun f => (f.writePtr { f.pointer with
    trial := false, tries := 0, minSec := max f.pointer.minSec sv })).updBecomes k .idle
  let s2 := match asFin 7 kind with
    | some i => s1.modUpdate fun u => { u with
        counter := updV u.counter i fun c => max c sv, baseline := updV u.baseline i fun _ => some img }
    | none => s1
  let s3 := if old < sv then s2.raise Ev.UD_SEC_COUNTER [.u8 kind, .u32 old, .u32 sv] else s2
  (s3.releaseStaged kind).raise Ev.UD_CONFIRMED [.u8 k.val, .u32 (hdrVersion img.header), .u8 how]

/-- Both cores of R411 confirm as one slot. -/
def State.confirmSlot (s : State) (k : Slot) (how : Nat) : State :=
  let ks := if s.update.asOne && imgType k = 1 then
      [(3 : Slot), 4].filter fun j => s.update.firm[j].state == .trial else [k]
  (s.each ks fun s k => s.confirmOne k how).modUpdate fun u => { u with
    asOne := if imgType k = 1 then false else u.asOne }

/-- OP_UPDATE_CONFIRM: every slot named must be in service on its trial image. -/
def State.doUpdateConfirm (s : State) (r : Req) (mask : BitVec 16) : State :=
  let oc := Opc.OP_UPDATE_CONFIRM
  let slots := maskSlots mask.toNat
  if mask = 0 || 2 ^ 14 ≤ mask.toNat then s.fail r oc ST_RANGE (argOff 18)
  else if s.updDenied r then s.failOwner r oc .paramSet
  else match slots.find? fun k => !s.mayConfirm k with
  | some k => s.fail r oc ST_UPDATE_STATE (updCode s.update.firm[k].state)
  | none =>
    let s1 := s.each slots fun s k => if s.update.firm[k].state = .trial then s.confirmSlot k 1 else s
    s1.ok r oc (leBytes 4 ((slots.head?).elim 0 fun k => s1.secCounter (imgType k)))
def execOpUpdateConfirm (r : Req) (mask : BitVec 16) (s : State) : Host.Outcome State Fault Refusal :=
  .next (s.doUpdateConfirm r mask)

/-- AUTO_CONFIRM: in service for upd.confirm.soak with upd.confirm.auto at 1. -/
def execAutoConfirm (slot : Slot) (s : State) : Host.Outcome State Fault Refusal :=
  .next (if s.param 0x570 = 1 && s.mayConfirm slot then
      (s.until (s.update.firm[slot].serviceFrom + s.param 0x571 * sec)).confirmSlot slot 2
    else s)

/-- The pointer goes back to the old bank and the module restarts (R405). -/
def State.rollBack (s : State) (k : Slot) (why : Nat) : State :=
  let s1 := (s.modFirm k fun f => f.writePtr { f.pointer with
    bank := otherBank f.pointer.bank, trial := false, tries := 0 }).raise Ev.UD_ROLLBACK [.u8 k.val, .u8 why]
  (s1.updBecomes k .idle).restartModule k

/-- A rollback runs as far as it can: step 2 waits for the zero-speed pair where it reaches the loop, and for the
handover of an active core. -/
def State.tryRollback (s : State) (k : Slot) : State :=
  let why := s.update.firm[k].rollbackWhy
  if s.inService k && s.dropsLoop k && !s.zeroSpeed s.activeCore then s
  else if k = coreSlot s.activeCore && s.anyActive then
    if s.pair.standby = .inStep then s.wantHandover .update
    else if s.doorsProven && s.power.entry.isNone && s.supply.step.isNone then
      -- a core without a partner restarts through OFF, as its update did (R411)
      let s1 := (s.modFirm k fun f => f.writePtr { f.pointer with
        bank := otherBank f.pointer.bank, trial := false, tries := 0 }).raise Ev.UD_ROLLBACK [.u8 k.val, .u8 why]
      ((s1.updBecomes k .idle).modUpdate fun u => { u with pairUpdate := true, asOne := false }).beginN2 4 0
    else s
  else
    let s1 := if s.inService k then s.leaveForUpdate k else s
    if s1.inService k then s1 else s1.rollBack k why

/-- A rollback is due: 1 time, 3 abort. -/
def State.startRollback (s : State) (k : Slot) (why : Nat) : State :=
  ((s.modFirm k fun f => { f with rollbackWhy := why, workTaken := false }).updBecomes k .rollbackPending).tryRollback k

def trialTicks : Nat := 12000000

/-- TRIAL_TIMEOUT: 600 s in RUN on the trial image without confirmation. -/
def execTrialTimeout (slot : Slot) (s : State) : Host.Outcome State Fault Refusal :=
  .next (if s.update.firm[slot].state = .trial then
      let left := trialTicks - s.update.firm[slot].trialRun
      ((s.until (s.now + left * tickNs)).modFirm slot fun f => { f with trialRun := trialTicks }).startRollback slot 1
    else s)

/-- OP_UPDATE_ABORT of one slot: a trial rolls back; otherwise what it waits for or writes is given up. -/
def State.abortSlot (s : State) (k : Slot) : State :=
  match s.update.firm[k].state with
  | .trial => s.startRollback k 3
  | .rollbackPending => s
  | .writing => (s.updBecomes k .idle).restartModule k
  | .idle => s
  | _ => s.updBecomes k .idle

/-- OP_UPDATE_ABORT: slots on trial roll back; mask 0, or a slot not on trial, discards the staged image. -/
def State.doUpdateAbort (s : State) (r : Req) (kind : Nat) (mask : BitVec 16) : State :=
  let oc := Opc.OP_UPDATE_ABORT
  let slots := maskSlots mask.toNat
  if maxBody kind = 0 then s.fail r oc ST_RANGE (argOff 16)
  else if 2 ^ 14 ≤ mask.toNat || slots.any (fun k => imgType k != kind) then s.fail r oc ST_RANGE (argOff 18)
  else if s.updDenied r then s.failOwner r oc .paramSet
  else
    let discard := slots.isEmpty || slots.any fun k => !(s.update.firm[k].state == .trial || s.update.firm[k].state == .rollbackPending)
    let ours := match s.update.activation with
      | some a => a.kind == kind && (slots.isEmpty || a.first.any fun k => slots.contains k)
      | none => false
    let s1 := if ours then s.endActivation ST_PREEMPTED r.hseq.toNat [] else s
    let s2 := s1.each slots State.abortSlot
    (if discard then s2.releaseStaged kind else s2).ok r oc []
def execOpUpdateAbort (r : Req) (kind : Nat) (mask : BitVec 16) (s : State) : Host.Outcome State Fault Refusal :=
  .next (s.doUpdateAbort r kind mask)

/-- The 16-byte entry of a slot. -/
def State.updEntry (s : State) (k : Slot) : List Byte :=
  let f := s.update.firm[k]
  leBytes 1 (updCode f.state) ++ leBytes 1 (imgType k) ++ leBytes 1 (f.running.elim 0xFF fun b => b.val)
    ++ leBytes 1 f.pointer.tries ++ leBytes 4 f.version
    ++ leBytes 4 (if f.pointer.trial then hdrVersion f.banks[f.pointer.bank].header else 0)
    ++ leBytes 4 (s.secCounter (imgType k))

/-- OP_UPDATE_STATUS: the type in download and its state, and with a buffer of 224 bytes every slot's entry. -/
def State.doUpdateStatus (s : State) (r : Req) : State :=
  let oc := Opc.OP_UPDATE_STATUS
  let kind := s.update.download.getD 0
  if r.bufLen ≠ 0 && r.bufLen ≠ 224 then s.fail r oc ST_RANGE (argOff 32)
  else
    let s1 := if r.bufLen = 0 then s else s.copyOut r ((List.finRange 14).flatMap s.updEntry)
    s1.ok r oc (leBytes 1 kind ++ leBytes 1 (updCode (s.typeState kind))
      ++ leBytes 2 ((s.staged kind).elim 0 fun g => g.chunks.length))
def execOpUpdateStatus (r : Req) (s : State) : Host.Outcome State Fault Refusal := .next (s.doUpdateStatus r)

/-! ### A module in service on its image (R402, Table UD-7) -/

/-- What being in service again means for the update of a slot. -/
def State.updInService (s : State) (k : Slot) : State :=
  let f := s.update.firm[k]
  let activated (s : State) : State :=
    let s1 := ((s.updBecomes k .trial).modFirm k fun f => { f with serviceFrom := s.now, reported := true }).raise
      Ev.UD_ACTIVATED [.u8 k.val, .u32 f.version, .u16 (min 65535 (s.since f.outAt / msec))]
    match s1.update.activation with
    | none => s1
    | some a =>
      let left := a.slots.filter fun j => j != k
      let done := a.done + (if a.slots.contains k then 2 ^ k.val else 0)
      let s2 := s1.modUpdate fun u => { u with activation := some { a with slots := left, done := done } }
      if left.isEmpty then s2.endActivation ST_OK 0 (leBytes 2 done) else s2
  match f.state with
  | .writing => if f.onTrial then activated s else s.activationFails k ST_IMAGE 0
  | .suspended =>
    if f.resume = .trial && f.onTrial then
      (s.updBecomes k .trial).modFirm k fun f => { f with serviceFrom := s.now }
    else if f.resume = .rollbackPending && f.onTrial then s.updBecomes k .rollbackPending
    else s.updBecomes k .waiting
  | .trial => s.modFirm k fun f => { f with serviceFrom := s.now }
  | _ => s

/-! ### Fitted modules (R412) -/

/-- The firmware of the module just identified: one that is not the module the state was kept for brings its own. -/
def State.takeFirmware (s : State) (k : Slot) (serial : BitVec 32) : State :=
  let known := s.update.firm[k].serial
  if known = some serial then s
  else if known = none then s.modFirm k fun f => { f with serial := some serial }
  else
    let img := Config.fittedImage serial
    s.modFirm k fun f => { f with
      ptr := .replicate 2 {}, banks := #v[{ header := img.1, body := img.2 }, {}], running := some 0, restarting := true,
      trialRun := 0, reported := false, serial := some serial,
      resume := if f.state = .suspended then .waiting else f.resume }

/-- Why the image a module runs is refused: 1 signature, 2 security version, 3 no image. -/
def State.imageRefused (s : State) (k : Slot) : Option Nat :=
  match s.update.firm[k].image with
  | none => some 3
  | some i =>
    if !(i.vendorOk && i.integratorOk s.update.key) then some 1
    else if hdrSec i.header < s.secCounter (imgType k) then some 2 else none

/-- A module that passed its identity check is written the baseline where its image differs from it, and is held out
where its image meets neither the counter nor the keys (R412). A slot in an update keeps its image. -/
def State.alignModule (s : State) (k : Slot) : State :=
  if imgType k = 0 then s
  else
    let s0 := s.booted k
    let f := s0.update.firm[k]
    let issue := (s0.frame.slots[k].ident.elim 0 fun b => byteAt b 0x0E) - 0x41
    let s1 := if s0.updRuns k || f.state = .waiting then s0 else match s0.param 0x572, s0.baseline (imgType k) with
      | 1, some b =>
        if f.image.elim true (fun i => i.header != b.header) && bit (hdrIssues b.header) issue then
          let t := (s0.modFirm k fun f => ({ f with banks := updV f.banks f.spare fun _ => b }).writePtr
            { f.pointer with bank := f.spare, trial := false, tries := 0 }).bootModule k
          (t.modSlot k fun x => { x with heldOut := if x.heldOut = some .image then none else x.heldOut }).raise
            Ev.UD_ALIGN [.u8 k.val, .u32 f.version, .u32 (hdrVersion b.header)]
        else s0
      | _, _ => s0
    match s1.imageRefused k with
    | some n =>
      if s1.frame.slots[k].heldOut = some .image then s1
      else (s1.modSlot k fun x => { x with heldOut := some .image }).raise Ev.UD_IMAGE_REFUSED [.u8 k.val, .u8 n]
    | none => s1

/-! ### Memory frames (R406, Table UD-5) -/

/-- A module-link frame of a type that a module acts on (R16, R17): good CRC, its own slot identity, active. -/
def linkFrameGood (k : Slot) (type : Nat) (frame : List Byte) : Bool :=
  let n := byteAt frame 5
  decide (frame.length = n + 12) && decide (n ≤ 240) && byteAt frame 0 == type && bit (byteAt frame 1) 0
    && byteAt frame 4 % 16 == k.val + 1 && (crc32 (frame.take (n + 8))).toNat == u32At frame (n + 8)

/-- Overwrite an image's bytes from an offset; bytes never written read 0xFF. -/
def Image.put (i : Image) (off : Nat) (data : List Byte) : Image :=
  let old := i.header ++ i.body
  let padded := old ++ List.replicate (off + data.length - old.length) 0xFF
  let new := putBytes padded off data
  { header := new.take 256, body := new.drop 256 }

def Image.bytes (i : Image) : List Byte := i.header ++ i.body

/-- A pointer copy as written through op 4. -/
def ptrOf (bs : List Byte) : BootPtr :=
  { seq := u32At bs 0, bank := if byteAt bs 4 = 0 then 0 else 1, trial := byteAt bs 5 == 1, tries := byteAt bs 6,
    minSec := u32At bs 8, valid := (crc32 (slice bs 0 12)).toNat == u32At bs 12 }

/-- The module acts on a memory request and replies. -/
def State.memoryRequest (s : State) (k : Slot) (q : List Byte) : State :=
  let op := byteAt q 0
  let bank := byteAt q 1
  let off := u32At q 4
  let len := u16At q 8
  let f := s.update.firm[k]
  let reply (status : Nat) (data : List Byte) : State → State := fun s => s.modFirm k fun f => { f with
    reply := leBytes 1 op ++ leBytes 1 status ++ [0, 0] ++ leBytes 4 off ++ leBytes 2 data.length ++ List.replicate 6 0 ++ data }
  let room := maxBody (imgType k) + 256
  if op = 0 || 6 < op || 224 < len || 1 < bank || u16At q 2 ≠ 0 then reply 2 [] s
  else if (op = 2 || op = 4 || op = 6) && s.inService k then reply 4 [] s
  else
    let b : Fin 2 := if bank = 0 then 0 else 1
    match op with
    | 1 => if 256 < off + len then reply 2 [] s
      else reply 0 (slice (s.frame.slots[k].ident.getD (Config.identity k)) off len) s
    | 2 => if room < off + len then reply 2 [] s
      else reply 0 [] (s.modFirm k fun f => { f with banks := updV f.banks b fun i => i.put off (slice q 16 len) })
    | 3 => reply 0 (sha256 f.banks[b].bytes) s
    | 4 => if len ≠ 16 then reply 2 [] s
      else reply 0 [] (s.modFirm k fun f => { f with ptr := updV f.ptr (otherBank f.copy) fun _ => ptrOf (slice q 16 16) })
    | 5 => reply 0 f.pointer.bytes s
    | _ => (reply 0 [] s).modFirm k fun f => { f with restarting := true }

/-- A frame the module acts on restarts its loss timeout (R18). -/
def State.commanded (s : State) (k : Slot) : State :=
  match slotKind k with
  | .axis m => s.modAxMod m fun x => { x with missRun := 0 }
  | .field m => s.modFieldMod m fun x => { x with missRun := 0 }
  | .load => s.modLoads fun x => { x with missRun := 0 }
  | .energy => s.modEnergy fun e => { e with missMs := 0 }
  | _ => s

/-- MEMORY_FRAME: a frame of type 0x03 to a module of the module link. -/
def execMemoryFrame (slot : Slot) (_core : CoreId) (frame : List Byte) (s : State) : Host.Outcome State Fault Refusal :=
  .next (if s.frame.slots[slot].pres && linkFrameGood slot 3 frame && imgType slot != 0 && imgType slot != 1 then
      (s.commanded slot).memoryRequest slot ((frame.drop 8).take (byteAt frame 5))
    else s)

/-! ### The integrator key (R413) -/

/-- OP_KEY_PROVISION: a first key has a signature field of 0, a later one is signed with the key it replaces, and a
record signed by the vendor whose key field begins with the serials of C0 and C1 removes it (log 17). -/
def State.doKeyProvision (s : State) (r : Req) : State :=
  let oc := Opc.OP_KEY_PROVISION
  if r.bufLen ≠ 132 then s.fail r oc ST_RANGE (argOff 32)
  else match r.buf with
  | none => s.fail r oc ST_DMA 24
  | some rec =>
    let key := slice rec 0 64
    let ident := u32At rec 64
    let signed := slice rec 0 68
    let sig := slice rec 68 64
    let set (k : Option IntKey) (what : Nat) : State :=
      ((s.modUpdate fun u => { u with key := k }).raise Ev.UD_KEY [.u8 what, .u32 ident]).ok r oc (leBytes 4 ident)
    let new : IntKey := { key := key, ident := BitVec.ofNat 32 ident }
    let names := slice rec 0 8 == leBytes 4 (s.coreSerial 0).toNat ++ leBytes 4 (s.coreSerial 1).toNat
    match s.update.key with
    | none => if sig.all fun b => b == 0 then set (some new) 1 else s.fail r oc ST_SIGNATURE 2
    | some old =>
      if names && Config.vendorSigned signed sig then set none 3
      else if Config.ecdsaVerify old.key signed sig then set (some new) 2
      else s.fail r oc ST_SIGNATURE 2
def execOpKeyProvision (r : Req) (s : State) : Host.Outcome State Fault Refusal := .next (s.doKeyProvision r)

/-! ### The service port (R414, R415) -/

/-- Bytes of kind-2 data a session holds. -/
def SessionSt.held (x : SessionSt) : Nat := x.buffers.foldl (fun n b => n + b.2.length) 0

/-- USB_CONTAINER: a descriptor for the queue of 16, or buffer data held for the session. A container that is malformed
or finds no room is not taken (log 17). -/
def State.usbContainer (s : State) (core : CoreId) (bytes : List Byte) : State :=
  let kind := byteAt bytes 0
  let content := bytes.drop 16
  let x := s.update.session[core]
  if bytes.length < 16 || content.length ≠ u32At bytes 4 || slice bytes 1 3 != [0, 0, 0] || !s.pair.core[core].present then s
  else match kind with
  | 1 =>
    if content.length ≠ 64 || 16 ≤ s.update.p4Queue.length then s
    else (s.modUpdate fun u => { u with p4Queue := u.p4Queue ++ [(core, content)] }).modSession core fun x => { x with lastUsed := s.now }
  | 2 =>
    let tag := BitVec.ofNat 64 (u64At bytes 8)
    if x.level = 0 || 2 ^ 20 < x.held + content.length then s
    else s.modSession core fun x => { x with buffers := (x.buffers.filter fun b => b.1 != tag) ++ [(tag, content)] }
  | _ => s
def execUsbContainer (core : CoreId) (bytes : List Byte) (s : State) : Host.Outcome State Fault Refusal :=
  .next (s.usbContainer core bytes)

def usbBox (kind : Nat) (content : List Byte) : List Byte :=
  leBytes 1 kind ++ [0, 0, 0] ++ leBytes 4 content.length ++ List.replicate 8 0 ++ content

/-- What P4's queues hold goes out over the bulk IN endpoint: completions to an attached port, events to a session. -/
def State.usbTick (s : State) : State :=
  let t := s.ports[(3 : PortId)]
  let open_ (c : CoreId) : Bool := s.supply.sinks[c].attached && !s.sinkStandby c
  let attached := open_ 0 || open_ 1
  let cs := if attached then t.cqEntries[(0 : Fin 16)] ++ t.laybyCq else []
  let es := if attached && t.running then t.evqEntries else []
  let s1 := s.modUpdate fun u => { u with
    usbOut := cs.map (fun c => usbBox 3 c.bytes) ++ es.map fun e => usbBox 4 e.bytes }
  s1.modPort 3 fun t => { t with
    cqEntries := if attached then updV t.cqEntries 0 fun _ => [] else t.cqEntries,
    laybyCq := if attached then [] else t.laybyCq, evqEntries := if attached && t.running then [] else t.evqEntries }

/-! ### Sessions (R416 to R419) -/

/-- Seconds a lockout still lasts. -/
def State.lockLeft (s : State) (c : CoreId) : Option Nat :=
  match s.update.session[c].lockedUntil with
  | some t => if s.now < t then some ((t - s.now + sec - 1) / sec) else none
  | none => none

/-- OP_SESSION_CHALLENGE: a fresh challenge and the core's serial number. -/
def State.doSessionChallenge (s : State) (r : Req) (level : Nat) : State :=
  let oc := Opc.OP_SESSION_CHALLENGE
  let c := r.core
  if level = 0 || 3 < level then s.fail r oc ST_RANGE (argOff 16)
  else match s.lockLeft c with
  | some n => s.fail r oc ST_LOCKED_OUT n
  | none =>
    let ch := Config.challenge s.free
    let s1 := { (s.modSession c fun x => { x with challenge := some (ch, level, s.now) }) with free := s.free + 1 }
    s1.ok r oc (leBytes 5 ch.toNat ++ [0, 0, 0] ++ leBytes 4 (s.coreSerial c).toNat)
def execOpSessionChallenge (r : Req) (level : Nat) (s : State) : Host.Outcome State Fault Refusal :=
  .next (s.doSessionChallenge r level)

/-- The response that opens a session (R416). -/
def State.sessionResponse (s : State) (c : CoreId) (ch : BitVec 40) (level : Nat) : BitVec 40 :=
  let m := leBytes 5 ch.toNat ++ leBytes 4 (s.coreSerial c).toNat ++ leBytes 1 level ++ [0x06]
  BitVec.ofNat 40 (leAt (hmacSha256 (Config.serviceKey c) m) 0 5)

/-- OP_SESSION_OPEN: each challenge is valid once, within 10 minutes; svc.level.max caps the level opened. Failures
count towards a lockout, which doubles up to 1 h (R418). -/
def State.doSessionOpen (s : State) (r : Req) (level : Nat) (response : BitVec 40) : State :=
  let oc := Opc.OP_SESSION_OPEN
  let c := r.core
  if level = 0 || 3 < level then s.fail r oc ST_RANGE (argOff 16)
  else
    let x := s.update.session[c]
    let right := match x.challenge with
      | some (ch, l, t) => decide (l = level) && decide (s.since t ≤ 600 * sec) && response == s.sessionResponse c ch l
      | none => false
    if right then
      let lv := min level (s.param 0x574)
      let s1 := s.modSession c fun x => { x with
        level := lv, lastUsed := s.now, challenge := none, failures := 0, lockedUntil := none, lockTime := 0, buffers := [] }
      let s2 := ((s1.modPort 3 fun t => { t with running := true, up := true }).drainLayby 3).raise Ev.UD_SESSION_OPEN
        [.u8 c.val, .u8 lv]
      s2.ok r oc (leBytes 1 lv)
    else
      let n := x.failures + 1
      let s1 := (s.modSession c fun x => { x with challenge := none, failures := n }).raise Ev.UD_AUTH_FAIL
        [.u8 c.val, .u8 (min 255 n)]
      let s2 := if n < s.param 0x575 then s1
        else
          let t := if x.lockTime = 0 then 60 else min 3600 (2 * x.lockTime)
          (s1.modSession c fun x => { x with lockTime := t, lockedUntil := some (s.now + t * sec) }).raise Ev.UD_LOCKOUT
            [.u8 c.val, .u16 t]
      s2.fail r oc ST_AUTH n
def execOpSessionOpen (r : Req) (level : Nat) (response : BitVec 40) (s : State) : Host.Outcome State Fault Refusal :=
  .next (s.doSessionOpen r level response)

/-- OP_SESSION_CLOSE. -/
def State.doSessionClose (s : State) (r : Req) : State := (s.ok r Opc.OP_SESSION_CLOSE []).endSession r.core 1
def execOpSessionClose (r : Req) (s : State) : Host.Outcome State Fault Refusal := .next (s.doSessionClose r)

/-- SESSION_IDLE: svc.session.idle without a descriptor. -/
def execSessionIdle (core : CoreId) (s : State) : Host.Outcome State Fault Refusal :=
  .next (if s.update.session[core].level = 0 then s
    else (s.until (s.update.session[core].lastUsed + s.param 0x573 * 60 * sec)).endSession core 3)

/-- LOCKOUT_END. -/
def execLockoutEnd (core : CoreId) (s : State) : Host.Outcome State Fault Refusal :=
  .next (match s.update.session[core].lockedUntil with
    | some t => (s.until t).modSession core fun x => { x with lockedUntil := none }
    | none => s)

/-! ### Updates in each tick -/

/-- On store energy no activation begins, and a write in progress is abandoned (Table UD-7). -/
def State.updOnStore (s : State) : State :=
  let s1 := s.endActivation ST_STATE 0 []
  s1.each (List.finRange 14) fun s k =>
    if s.update.firm[k].state = .writing && !s.update.firm[k].pointer.trial then
      let s1 := s.updBecomes k .waiting
      if imgType k = 1 && s1.update.asOne then s1 else s1.restartModule k
    else s

def State.updSlotTick (s : State) (k : Slot) : State :=
  let f := s.update.firm[k]
  match f.state with
  | .waiting => s.startSlot k
  | .writing => if s.inService k && !(s.update.asOne && imgType k = 1) then s.leaveForUpdate k else s
  | .trial =>
    let s1 := s.modFirm k fun f => { f with trialRun := if s.frame.slots[k].pres then f.trialRun + 1 else f.trialRun }
    if s.param 0x570 = 1 && s1.mayConfirm k && decide (s.param 0x571 * sec ≤ s.since f.serviceFrom) then s1.confirmSlot k 2
    else if trialTicks ≤ s1.update.firm[k].trialRun then s1.startRollback k 1 else s1
  | .rollbackPending => s.tryRollback k
  | _ => s

/-- What the clock brings to sessions: one left idle ends, and a lockout ends (R418, R419). -/
def State.sessionTick (s : State) : State :=
  s.each [(0 : CoreId), 1] fun s c =>
    let x := s.update.session[c]
    let s1 := if x.level ≠ 0 && decide (s.param 0x573 * 60 * sec ≤ s.since x.lastUsed) then s.endSession c 3 else s
    match x.lockedUntil with
    | some t => if t ≤ s.now then s1.modSession c fun x => { x with lockedUntil := none } else s1
    | none => s1

/-- What the clock brings to updates in RUN. An entry of R411 that was aborted writes its banks again. -/
def State.updateTick (s : State) : State :=
  let s0 := if s.supply.onStore then s.updOnStore else s
  let s1 := s0.each s0.updOrder State.updSlotTick
  if s1.update.pairUpdate && s1.power.entry.isNone && s1.power.wake.isNone then
    (s1.modUpdate fun u => { u with pairUpdate := false }).each [(3 : Slot), 4] fun s k =>
      if s.update.firm[k].state = .writing then s.updBecomes k .waiting else s
  else s1

end Sys2Proof.Machine
end

