-- ==== Sys2Proof/Machine/Slots.lean ====
section
/-!
DEFINITION. Insertion, chapter 01: presence and slot identity pins, the identity block (R20), its check against the
parameter set (R2, R14), enable (R21), and a module that reports in service (Table FR-8).
-/

namespace Sys2Proof.Machine

/-! ### Slot identity pins (Table FR-1) -/

/-- The parity pin makes the number of ones across the five pins odd. -/
def sidParity (sid : Nat) : Bool := (bits sid 0 1 + bits sid 1 1 + bits sid 2 1 + bits sid 3 1) % 2 == 0

/-- The pins read the slot's own code. -/
def slotPinsGood (k : Slot) (sid : BitVec 4) (sidp : Bool) : Bool := sid.toNat == k.val + 1 && sidp == sidParity sid.toNat

/-- PRES_ASSERTED: presence is made last, with the latch closed; the module's bootloader starts on AUX (log 15). -/
def State.presMade (s : State) (k : Slot) (sid : BitVec 4) (sidp : Bool) : State :=
  if s.frame.slots[k].pres then s
  else (s.modSlot k fun x => { x with
      pres := true, presSince := s.now, debounced := false, latchClosed := true, latchReclosed := false, sid := sid,
      sidp := sidp, identAsked := false, ident := none, lost := false, heldOut := none, removal := none, fault := none }).modFirm
    k fun f => { f with restarting := true }
def execPresAsserted (slot : Slot) (sid : BitVec 4) (sidp : Bool) (s : State) : Host.Outcome State Fault Refusal :=
  .next (s.presMade slot sid sidp)

/-- PRES has held for the debounce time: the slot identity is checked and the identity read begins. -/
def State.debounced (s : State) (k : Slot) : State :=
  let x := s.frame.slots[k]
  let s1 := s.modSlot k fun x => { x with debounced := true }
  if slotPinsGood k x.sid x.sidp then
    s1.modSlot k fun x => { x with identAsked := x.latchClosed, identAt := s.now }
  else (s1.modSlot k fun x => { x with heldOut := some .slotId }).raise Ev.FR_SLOT_ID_FAULT
    [.u8 k.val, .u8 (x.sid.toNat + 16 * Bool.nat x.sidp)]

/-- PRESENCE_DEBOUNCE_DONE. -/
def execPresenceDebounceDone (slot : Slot) (s : State) : Host.Outcome State Fault Refusal :=
  .next (
    let x := s.frame.slots[slot]
    if x.pres && !x.debounced && s.coreReads then (s.until (x.presSince + s.param 0x033 * msec)).debounced slot else s)

/-! ### Identity (R20, Table FR-7) -/

def ascii (t : String) : List Byte := t.toList.map fun c => BitVec.ofNat 8 c.toNat

/-- Code strings of the SK7 modules, by their declared codes (Table FR-14). -/
def codeString (code : Nat) : List Byte :=
  match code with
  | 1 => ascii "SK7-PS-LV" | 2 => ascii "SK7-PS-HV" | 3 => ascii "SK7-EM" | 4 => ascii "SK7-CM" | 5 => ascii "SK7-AX"
  | 6 => ascii "SK7-FI" | 7 => ascii "SK7-LS24" | 8 => ascii "SK7-LS110" | _ => []

def blockClass (b : List Byte) : Nat := byteAt b 0x0F
/-- The block's code string is that of a code: padded with zeros to 12 bytes. -/
def namesCode (b : List Byte) (code : Nat) : Bool :=
  1 ≤ code && code ≤ 8 && slice b 2 12 == slice (codeString code) 0 12

/-- The code a block stands for: 9 for a host card, 10 for a blank, 0xFF for a string that names none (log 17). -/
def codeRead (b : List Byte) : Nat :=
  if blockClass b = 2 then 9 else if blockClass b = 3 then 10
  else ((List.range 9).find? fun c => namesCode b c).getD 0xFF

/-- The issue letter is set in the slot's mask. -/
def State.issueIn (s : State) (k : Slot) (b : List Byte) : Bool :=
  let i := byteAt b 0x0E
  decide (0x41 ≤ i) && decide (i ≤ 0x5A) && bit (s.param (pSlotIssues k.val)) (i - 0x41)

/-- The check of a valid block against the parameter set (R2). -/
def State.identityMatches (s : State) (k : Slot) (b : List Byte) : Bool :=
  match s.declared k with
  | 0 => false
  | 9 => blockClass b == 2
  | 10 => blockClass b == 3
  | 11 => blockClass b == 2 || blockClass b == 3
  | c => namesCode b c && s.issueIn k b

/-- 1 CRC, 2 format. -/
def identityInvalid (b : List Byte) : Option Nat :=
  if b.length ≠ 256 || (crc32 (b.take 0xFC)).toNat ≠ u32At b 0xFC then some 1
  else if u16At b 0 ≠ 1 then some 2 else none

/-- Held out for want of a valid identity (R20). -/
def State.identityBad (s : State) (k : Slot) (reason : Nat) : State :=
  (s.modSlot k fun x => { x with identAsked := false, heldOut := some .invalid }).raise Ev.FR_IDENTITY_INVALID
    [.u8 k.val, .u8 reason]

/-- What enable means for the module of a slot: an axis module starts its resistance check (R97), a host slot gets its
12 V rail, a core starts. -/
def State.enabledNow (s : State) (k : Slot) (b : List Byte) : State :=
  match slotKind k with
  | .axis m => s.modAxMod m fun x => { x with checkRunning := true, checkPassed := false }
  | .host p =>
    let s1 := ((s.modPort (hostPort p) fun t => { t with h12On := true, h12Tripped := false }).modSlot k fun x => { x with
      inService := true }).raise Ev.FR_MODULE_IN_SERVICE [.u8 k.val, .u32 0]
    s1.raise Ev.HR_IDENTITY ([.u8 p.val, .u8 (blockClass b)] ++ (slice b 2 8).map fun c => .u8 c.toNat)
  | .core c => if s.pair.core[c].present then s else s.coreStarts c
  | _ => s

/-- An identity block arrives (R20, R21): checked, then the module's firmware is checked or aligned (R412), and enable is
set. A main rail below 80 % at that moment clears it again. -/
def State.identityRead (s : State) (k : Slot) (b : List Byte) (lowRail : Option (Nat × Nat)) : State :=
  if !s.frame.slots[k].identAsked then s
  else match identityInvalid b with
  | some n => s.identityBad k n
  | none =>
    let s1 := s.modSlot k fun x => { x with identAsked := false, ident := some b }
    if !s.identityMatches k b then
      (s1.modSlot k fun x => { x with heldOut := some .mismatch }).raise Ev.FR_IDENTITY_MISMATCH
        [.u8 k.val, .u8 (codeRead b), .u8 (byteAt b 0x0E), .u8 (s.declared k)]
    else
      let s2 := (s1.takeFirmware k (BitVec.ofNat 32 (u32At b 0x10))).alignModule k
      if s2.frame.slots[k].heldOut = some .image then s2
      else match lowRail with
      | some (rail, mV) =>
        (s2.modSlot k fun x => { x with enable := false, railsOn := false, heldOut := some .precharge }).raise
          Ev.FR_PRECHARGE_FAULT [.u8 k.val, .u8 rail, .u32 mV]
      | none =>
        let s3 := (s2.modSlot k fun x => { x with enable := true, enabledAt := s.now, railsOn := true, heldOut := none }).raise
          Ev.FR_MODULE_INSERTED [.u8 k.val, .u8 (codeRead b), .u8 (byteAt b 0x0E), .u32 (u32At b 0x10)]
        s3.enabledNow k b

/-- IDENTITY_DATA. -/
def execIdentityData (slot : Slot) (block : List Byte) (lowRail : Option (Nat × Nat)) (s : State) :
    Host.Outcome State Fault Refusal := .next (s.identityRead slot block lowRail)

/-- IDENTITY_TIMEOUT: 50 ms after PRES was qualified. -/
def execIdentityTimeout (slot : Slot) (s : State) : Host.Outcome State Fault Refusal :=
  .next (if s.frame.slots[slot].identAsked then (s.until (s.frame.slots[slot].identAt + 50 * msec)).identityBad slot 3 else s)

/-! ### In service (Table FR-8) -/

/-- The module's own start-up has got as far as its report of being in service asks. -/
def State.mayReport (s : State) (k : Slot) : Bool :=
  match slotKind k with
  | .axis m => s.axMods[m].checkPassed && s.axMods[m].fault == 0
  | .field m => s.field.mods[m].fieldUp
  | .load => s.load.powerUp
  | .core c => s.pair.core[c].present && c != s.activeCore && s.pair.standby == .inStep
  | _ => true

/-- What follows for the unit a module serves. A module entering service leaves its axis uncertain (R80) unless the
other lane holds it; another energy module starts the estimator anew (R221, R430). -/
def State.unitInService (s : State) (k : Slot) : State :=
  match slotKind k with
  | .axis m =>
    let a := s.axisOfLane m
    if s.twin a && s.axModIn (otherLane m) then s
    else (s.modAxis a fun x => { x with referenced := false }).makeUncertain a 3
  | .energy =>
    let serial := BitVec.ofNat 32 s.frame.slots[k].serial
    let s1 := if s.energy.serial = some serial then s
      else (s.modEnergy fun e => { e with serial := some serial }).estInit
    s1.judgeReady
  | .field m => s.modFieldMod m fun x => { x with resolved := false }
  | .power p => (s.modPm p fun x => { x with outputOn := true }).judgeSupply p s.feedMask
  | _ => s

/-- A module reports in service: FR_MODULE_IN_SERVICE with the time from enable, its unit, the tiers, and its update. -/
def State.moduleIn (s : State) (k : Slot) : State :=
  let x := s.frame.slots[k]
  let standby := match slotKind k with
    | .core c => c != s.activeCore
    | _ => false
  let s1 := (s.modSlot k fun x => { x with
    inService := true, lost := false, fault := none, standbyRole := standby }).raise Ev.FR_MODULE_IN_SERVICE
    [.u8 k.val, .u32 (s.since x.enabledAt / msec)]
  ((s1.unitInService k).judgeTiers k.val).updInService k

/-- MODULE_IN_SERVICE, of a module that is enabled and not held out. -/
def execModuleInService (slot : Slot) (s : State) : Host.Outcome State Fault Refusal :=
  .next (
    let x := s.frame.slots[slot]
    if x.enable && !x.inService && x.heldOut.isNone && s.mayReport slot then s.moduleIn slot else s)

/-- CATCHUP_DONE (R281): the new core is IN_STEP and reports in service. -/
def execCatchupDone (s : State) : Host.Outcome State Fault Refusal :=
  .next (if s.standbyPresent && s.pair.standby == .catchingUp then
      let k := coreSlot s.standbyCore
      (s.catchupEnds.modSlot k fun x => { x with enable := true, heldOut := none }).moduleIn k
    else s)

/-- A tick that finds PRES held long enough, or an identity read that has run out. -/
def State.insertTick (s : State) : State :=
  s.each (List.finRange 14) fun s k =>
    let x := s.frame.slots[k]
    if x.pres && !x.debounced && decide (s.param 0x033 * msec ≤ s.since x.presSince) then s.debounced k
    else if x.identAsked && decide (50 * msec ≤ s.since x.identAt) then s.identityBad k 3
    else s

end Sys2Proof.Machine
end

