-- ==== Sys2Proof/Machine/Start.lean ====
section
/-!
DEFINITION. Starts: the fast restart (R198, R199), the full start (R200, R284), a wake from OFF (R251) and the wake
timetable row by row. What each start keeps is that of Tables RF-7 and RF-8.
-/

namespace Sys2Proof.Machine

/-! ### What a start keeps (R428 to R431) -/

/-- The restart image, where its CRC holds. -/
def State.goodImage (s : State) : Option RestartImage :=
  match s.restart with
  | some r => if r.good then some r else none
  | none => none

/-- A host port from its image. -/
def PortImage.port (i : PortImage) : PortSt :=
  { hseqConsumed := i.hseqConsumed, hseqAny := i.hseqAny, hseqSeen := i.hseqSeen, dseqNext := i.dseqNext,
    evDropped := i.evDropped, laybyCq := i.laybyCq, laybyEv := i.laybyEv, kept := i.kept }

/-- The buses at a start: the rates stored in MRAM and the measured loop delays stay. -/
def CanSt.restarted (c : CanSt) : CanSt :=
  { ({} : CanSt) with
    ctl := c.ctl.map fun v => v.map fun x => { ({} : CanCtl) with storedRate := x.storedRate, loopDelay := x.loopDelay } }

/-- Host state, CAN receive state, stamps, TICK_COUNT and PWR_MODE: from the image, or at their full-start values. -/
def State.restoreImage (s : State) (img : Option RestartImage) : State :=
  match img with
  | none => { s with
      ports := .replicate 4 {}, tick := 0, can := s.can.restarted, power := { s.power with mode := .replicate 2 4 } }
  | some r =>
    let lost := s.loseQueues.can.rx
    let rx : Vector RxPort 3 := Vector.ofFn fun i => { lost[i] with
      filters := r.filters[i], rseqNext := r.rseq[i], queue := [], copied := 0, read := none }
    { s with
      ports := r.ports.map PortImage.port, tick := r.tick, can := { s.can.restarted with rx := rx },
      power := { s.power with mode := r.mode },
      doors := { s.doors with door := mapV s.doors.door fun d x => { x with stamps := r.stamps[d] } } }

/-- A session at a start: none is open; failures and lockouts stay (R418). -/
def SessionSt.restarted (x : SessionSt) : SessionSt :=
  { failures := x.failures, lockedUntil := x.lockedUntil, lockTime := x.lockTime }

/-- The energy module's readings stay; the estimator starts anew, or keeps what it had (R430). -/
def EnergySt.restarted (e : EnergySt) (full : Bool) : EnergySt :=
  let base : EnergySt := { vBank := e.vBank, tCellMax := e.tCellMax, tCellMin := e.tCellMin,
                           vCellMax := e.vCellMax, vCellMin := e.vCellMin }
  if full then base
  else { base with
    est := e.est, cW := e.cW, esrW := e.esrW, cF := e.cF, esrF := e.esrF, fitSteps := e.fitSteps,
    lastWindow := e.lastWindow, serial := e.serial }

/-- Every unit of the frame as its own start leaves it. -/
def State.unitsRestarted (s : State) (full : Bool) : State :=
  { s with
    frame := { s.frame with doorTier := .replicate 2 .none, frameTier := .none,
                            lampTestFrom := if full then some s.now else none },
    doors := { ({} : DoorsSt) with weld := s.doors.weld },
    obst := .replicate 2 {},
    axes := s.axes.map fun x => { ({} : AxisSt) with tables := x.tables, custom := x.customNext.or x.custom },
    axMods := .replicate 4 {},
    field := { ({} : FieldSt) with group := s.field.group },
    load := { ({} : LoadSt) with supply := s.load.supply, voltage := s.load.voltage, inputOpen := s.load.inputOpen,
                                 inputOpenBelow := s.load.inputOpenBelow },
    supply := { s.supply with pm := s.supply.pm.map fun x => { x with repFeed := x.feed, repVIn := x.vIn }, onStore := false, step := none, compressed := false, capped := false, byReserve := false,
                              hostRailsOff := false, cancelled := 0, padHold := !full && s.supply.padHold },
    energy := s.energy.restarted full,
    panel := { ({} : PanelSt) with pins := s.panel.pins },
    pair := { ({} : PairSt) with core := s.pair.core.map fun x => { x with
      present := false, active := false, listenFrom := none, pumpAt := 0 } },
    journal := { s.journal with stagedPrio := [], stagedOrd := [], unstaged := 0, highRaised := false, waiting := [],
                                cursors := .replicate 4 none, retain := [], cycleFrom := .replicate 2 none },
    time := { s.time with sched := [] },
    update := { s.update with session := s.update.session.map SessionSt.restarted, p4Queue := [], usbOut := [],
                              activation := if full then none else s.update.activation } }

/-- The cores that are fitted start: C0 takes the role, or C1 where C0 is not there (R261). -/
def State.coresStart (s : State) : State :=
  let s1 := s.each [(0 : CoreId), 1] fun s c => if s.frame.slots[coreSlot c].pres then s.coreStarts c else s
  match [(0 : CoreId), 1].find? fun c => s1.pair.core[c].present with
  | some c => (s1.takeRole c).modSlot (coreSlot c) fun x => { x with enable := true, railsOn := true }
  | none => s1

/-- CP_BOTH_SILENT where the last committed record is no shut-down record (R284). -/
def State.noteBothSilent (s : State) : State :=
  match s.journal.nand[s.activeCore].held.head? with
  | some r => if RecBody.type r.body = 5 then s else s.raise Ev.CP_BOTH_SILENT [.u32 r.number]
  | none => s

/-- Every module fitted goes through its bootloader and the identity check. -/
def State.slotRestarts (s : State) (j : Slot) : State :=
  let t := (s.modSlot j fun x => { x with debounced := x.pres, removal := none, heldOut := none, lost := false }).reIdentify j
  if s.frame.slots[j].pres then t.modFirm j fun f => { f with restarting := true, workTaken := false, armedAt := none } else t

/-- The power state while a start runs. -/
def PowerSt.starting (w : PowerSt) (full : Bool) (k : WakeSt) (off : Nat) (cause : BitVec 32) : PowerSt :=
  { w with
    state := .off, entry := none, waits := [], consents := .replicate 5 false, idle := false, cause := cause,
    hold := !full && w.hold, holdFrom := none, windowChange := 0, tlIdleFrom := none, parked := true,
    osc := if full then .replicate 2 false else w.osc,
    wake := some { k with start := if full then 1 else 2, off := off } }

/-- A start begins: units restart, the image is restored, the cores start, every module fitted goes through its
bootloader and the identity check, and RUN follows at `runAt`. -/
def State.startFrame (s : State) (full : Bool) (k : WakeSt) (cause : BitVec 32) : State :=
  let off := s.now - s.power.slept
  let s1 := (s.unitsRestarted full).restoreImage (if full then none else s.goodImage)
  let s2 := s1.each (List.finRange 14) State.slotRestarts
  let s3 := s2.modPower fun w => w.starting full k off cause
  let s4 := s3.coresStart
  let s5 := (s4.each ([(0 : CoreId), 1].filter fun c => s4.pair.core[c].present) State.journalRecover).timeStart off
  if full then s5.panelPower.noteBothSilent else s5.panelPower

/-- A start may begin: some core is fitted, and no start runs. -/
def State.mayStart (s : State) : Bool :=
  (s.power.state == .off || s.supply.serviceOnly) && (s.power.wake.elim true fun k => k.start == 0)
    && [(0 : CoreId), 1].any fun c => s.frame.slots[coreSlot c].pres && s.pair.core[c].selfTest

/-- A feed is GOOD by its module's own judgement. -/
def State.feedGood (s : State) : Bool := [(0 : Fin 2), 1].any fun p => s.supply.pm[p].feed == .good

/-- OFF was reached with a committed shut-down record and supply.restart.mode is 0 (R198, R200). -/
def State.fastDue (s : State) : Bool := s.supply.cleanOff && s.param 0x485 == 0 && s.supply.record.isSome

/-- Service-only operation ends as a feed is GOOD (R207). -/
def State.leaveService (s : State) : State :=
  if s.supply.serviceOnly then
    (s.modSupply fun u => { u with serviceOnly := false, svcPowered := .replicate 2 false, svcField := false, svcPanel := false }).raise
      Ev.SU_SVC_ONLY [.u8 0]
  else s

/-- FAST_RESTART (R198): RUN within 1.5 s. -/
def execFastRestart (s : State) : Host.Outcome State Fault Refusal :=
  .next (if s.mayStart && s.feedGood && s.fastDue then
      s.leaveService.startFrame false { src := .off, at_ := s.now, row := .axesReady, runAt := s.now + 1500 * msec } 0
    else s)

/-- FULL_START (R200): RUN within 4 s. -/
def execFullStart (s : State) : Host.Outcome State Fault Refusal :=
  .next (if s.mayStart && s.feedGood && !s.fastDue then
      s.leaveService.startFrame true { src := .off, at_ := s.now, row := .axesReady, runAt := s.now + 4000 * msec } 0
    else s)

/-- LISTEN_TIMEOUT (R261, R284): a core that heard no TICK takes the active role. In a frame that does not run this is a
full start. -/
def execListenTimeout (core : CoreId) (s : State) : Host.Outcome State Fault Refusal :=
  .next (match s.pair.core[core].listenFrom with
    | some t =>
      if s.anyActive then s
      else
        let s1 := s.until (t + (if core = 0 then 200 else 1200) * usec)
        if s1.power.state == .off && s1.power.wake.isNone && s1.mayStart then
          s1.startFrame true { src := .off, at_ := s1.now, row := .axesReady, runAt := s1.now + 4000 * msec } 0
        else s1.takeRole core
    | none => s)

/-! ### RUN (R199, R200, Table RF-8) -/

/-- Lock type 2 holds its channel on in CLOSED_LOCKED (R41), and so while ISOLATED. -/
def State.lockHeld (s : State) (d : Doorway) : State :=
  s.modDoor d fun x => { x with
    lockDrive := s.lockType d == 2 && (x.leaf == .closedLocked || x.leaf == .isolated) }

/-- A full start: a doorway with every proof is CLOSED_LOCKED, any other is in FAULT; a step without its stowed proof is
in STEP_FAULT (log 5). -/
def State.doorsFromProofs (s : State) : State :=
  s.each s.enabledDoors fun s d =>
    let s1 := s.modDoor d fun x => { x with leaf := .closedLocked, step := .stowed, leafSince := s.now, stepSince := s.now }
    let s2 := if s1.allProven s1.activeCore d then s1.lockHeld d else s1.enterFault d .power
    if hasStep s.param d.val && !s2.stowedProof s2.activeCore d then s2.enterStep d .stepFault .power else s2

/-- Is it a state of motion, which cannot be taken up again? -/
def movingLeaf : Leaf → Bool
  | .unlocking | .opening | .warn | .closing | .reopening | .locking => true
  | _ => false

/-- A fast restart: doorways and positions from the record; a doorway whose proofs disagree with it enters FAULT (R199). -/
def State.doorsFromRecord (s : State) (r : ShutRecord) : State :=
  let s1 := s.each s.enabledDoors fun s d => s.modDoor d fun x => { x with
    leaf := r.leaf[d], step := r.step[d], leafSince := s.now, stepSince := s.now }
  let s2 := s1.each (List.finRange 4) fun s a =>
    if s.keepsPos a (fun d => r.leaf[d]) (fun d => r.step[d]) false && !r.uncertain[a] then
      s.modAxis a fun x => { x with x := r.pos[a], eOff := r.eOff[a], uncertain := false }
    else s.makeUncertain a 3
  s2.each s2.enabledDoors fun s d =>
    let stepMoving := r.step[d] == .deploying || r.step[d] == .stowing
    let stepOk := !hasStep s.param d.val || (r.step[d] == .stowed) == s.stowedProof s.activeCore d
    let s' := if s.stateProven d r.leaf[d] && !movingLeaf r.leaf[d] && stepOk then s.lockHeld d else s.enterFault d .power
    if hasStep s.param d.val && stepMoving then s'.enterStep d .stepFault .power else s'

/-- Axes whose positions were kept, as a mask. -/
def State.keptMask (s : State) : Nat :=
  maskOf 4 fun i => match asFin 4 i with
    | some a => !s.axes[a].uncertain
    | none => false

/-- Updates taken up again after a start (R407): UD_RESUMED for each. A write starts again; both cores written as one
run their trial images now (R411). -/
def State.updResume (s : State) : State :=
  let s1 : State := s.each (List.finRange 14) fun (s : State) (k : Slot) =>
    match s.update.firm[k].state with
    | .writing =>
      if s.update.asOne && s.update.pairUpdate && imgType k = 1 then s
      else (s.updBecomes k .waiting).raise Ev.UD_RESUMED [.u8 k.val, .u8 (updCode .writing)]
    | .waiting => s.raise Ev.UD_RESUMED [.u8 k.val, .u8 (updCode .waiting)]
    | .trial => s.raise Ev.UD_RESUMED [.u8 k.val, .u8 (updCode .trial)]
    | .rollbackPending => s.raise Ev.UD_RESUMED [.u8 k.val, .u8 (updCode .rollbackPending)]
    | _ => s
  let s2 : State := match s1.update.download with
    | some t => if s1.typeState t = .downloading then s1.raise Ev.UD_RESUMED [.u8 t, .u8 (updCode .downloading)] else s1
    | none => s1
  let s3 : State := s2.each ([(3 : Slot), 4].filter fun k => s2.frame.slots[k].pres) fun s k =>
    let t := s.booted k
    if t.update.firm[k].state = .writing then t.updInService k else t
  s3.modUpdate fun u => { u with pairUpdate := false }

/-- RUN after a start. -/
def State.finishStart (s : State) (k : WakeSt) : State :=
  let full := k.start == 1
  let fromOff := k.row != .axesReady
  let ms := s.since k.at_ / msec
  let s1 := s.readPairs
  let s2 := if full then s1.doorsFromProofs else match s1.supply.record with
    | some r => s1.doorsFromRecord r
    | none => s1.doorsFromProofs
  let s3 := (s2.releaseHold 0xFF).modPower fun w => { w with
    state := .run, wake := none, parked := false, lastState := if full then 0 else 4,
    wakeMs := BitVec.ofNat 16 (min 65535 ms), retentionLost := false,
    cause := if w.windowChange = 0 then w.cause else w.cause ||| 0x40000 }
  let s4 := s3.modSupply fun u => { u with cleanOff := false }
  let s5 := (s4.tlStart).canStart
  let restored := s.supply.record.elim 0 (·.number)
  let s6 := s5.startRecord (if full then 1 else if fromOff then 5 else 2) ms (if full then 0 else restored) k.off
  let s7 := if full then s6
    else if fromOff then s6.raise Ev.PW_WAKE [.u8 4, .u32 s6.power.cause.toNat, .u16 s6.power.wakeMs.toNat]
    else s6.raise Ev.SU_FAST_RESTART [.u16 (min 65535 ms), .u8 s6.keptMask]
  let s8 := if s7.power.failedAttempts = 0 then s7
    else (s7.raise Ev.PW_WAKE_FAILED [.u8 s7.activeCore.val, .u8 s7.power.failedCheck, .u8 (min 255 s7.power.failedAttempts)]).modPower
      fun w => { w with failedAttempts := 0, faultOut := false, failAt := none, failSent := 0 }
  ((s8.updResume).judgeTiers 0xFF).judgeSupply 0 s8.feedMask

/-! ### The wake timetable, row by row (Table PW-6, R256, R257) -/

/-- A row of a wake is reached, its readiness check with the result given. -/
def State.wakeRow (s : State) (k : WakeSt) (ready : Bool) : State :=
  let c := s.activeCore
  match k.row with
  | .regEnable => s.toRow k .regCheck
  | .regCheck =>
    if ready then
      (if k.retried then s.raise Ev.PW_REG_RETRY [.u8 c.val, .u8 1] else s).toRow k .tcxoCheck
    else if k.retried then (s.raise Ev.PW_REG_RETRY [.u8 c.val, .u8 0]).wakeFailed 1
    else s.modPower fun w => { w with
      wake := some { k with retried := true, shift := k.shift + 12500 * usec }, cause := w.cause ||| 0x10000 }
  | .tcxoCheck =>
    let s1 := s.modCore c fun x => { x with tcxoReady := ready }
    if ready then s1.toRow k .pllCheck
    else ((s1.modPower fun w => { w with osc := updV w.osc c fun _ => true }).raise Ev.PW_OSC_FALLBACK [.u8 c.val]).toRow k
      .pllCheck
  | .pllCheck =>
    if !ready then (s.raise Ev.PW_PLL_FAIL [.u8 c.val]).wakeFailed 2
    else if k.src = .off then
      s.startFrame false { k with row := .resume, runAt := s.now + 1500 * msec } s.power.cause
    else s.toRow k .resume
  | .resume => (s.cpuResumes k).toRow k .linksUp
  | .linksUp => (s.linksReturn).toRow k .fieldUp
  | .fieldUp => (s.fieldReturns).toRow k .precharge
  | .precharge => s.toRow k .axesReady
  | .axesReady => if k.abort then s.abortRun else s.wakeRun k

/-- WAKE_TIMETABLE_ROW: the next row of the wake that runs; RUN of a start. -/
def execWakeTimetableRow (ready : Bool) (s : State) : Host.Outcome State Fault Refusal :=
  .next (match s.power.wake with
    | none => s
    | some k =>
      let s1 := s.until k.due
      if k.start ≠ 0 then (if s1.anyActive then s1.finishStart k else s1) else s1.wakeRow k ready)

end Sys2Proof.Machine
end

