-- ==== Sys2Proof/Machine/Link.lean ====
section
/-!
DEFINITION. The module link (Tables FR-3, FR-4): downlink frames as the modules take them at the coming TICK
edge (R17), missed ticks and the loss of commanding frames (R18, R102), uplink frames as the cores read them
(R16, R18, R101), and the loss of a link (R103, Table FR-16).
-/

namespace Sys2Proof.Machine

/-- A slot whose module is on the module link. -/
def onLink (k : Slot) : Bool :=
  match slotKind k with
  | .core _ | .host _ => false
  | _ => true

/-- The CRC-32 of a frame holds over its whole length (R16). -/
def linkCrcHolds (frame : List Byte) : Bool :=
  let n := byteAt frame 5
  decide (frame.length = n + 12) && decide (n ≤ 240) && (crc32 (frame.take (n + 8))).toNat == u32At frame (n + 8)

def framePayload (frame : List Byte) : List Byte := (frame.drop 8).take (byteAt frame 5)

/-- Payload lengths of a module's downlink and uplink frames (Tables AX-4, AX-6, FI-6, FI-7, LS-10, LS-11,
SU-9, SU-10, EN-7, EN-8). -/
def payloadLengths (k : Slot) : Nat × Nat :=
  match slotKind k with
  | .axis _ => (16, 28)
  | .field _ => (20, 48)
  | .load => (16, 48)
  | .power _ => (8, 24)
  | .energy => (8, 24)
  | _ => (0, 0)

/-- A frame of the module link with a bad CRC, counted per core; FR_LINK_CRC once per second above
frame.link.crc_alarm (R16). -/
def State.linkCrcError (s : State) (k : Slot) (core : CoreId) : State :=
  let s1 := s.modSlot k fun x => { x with crcErrs := updV x.crcErrs core (· + 1) }
  let n := s1.frame.slots[k].crcErrs[core]
  if s1.param 0x034 < n && !s1.frame.slots[k].crcRaised[core] then
    (s1.modSlot k fun x => { x with crcRaised := updV x.crcRaised core fun _ => true }).raise Ev.FR_LINK_CRC
      [.u8 k.val, .u8 core.val, .u16 n]
  else s1

/-- The end of a second of the CRC counts. -/
def State.linkSecond (s : State) : State :=
  if s.since s.frame.secondFrom < sec then s
  else { s with frame := { s.frame with
    secondFrom := s.now,
    slots := s.frame.slots.map fun x => { x with crcErrs := .replicate 2 0, crcRaised := .replicate 2 false } } }

/-! ### Missed ticks (R17, R18, R102) -/

/-- AX_TICK_MISSED: a missed counter has risen by 16 within 1 s. -/
def State.missedCount (s : State) (m : Axis) (count : Nat) : State :=
  let k := s.axMods[m]
  let over_ := decide (sec ≤ s.since k.missedFrom) || decide (count < k.missedBase)
  let s1 := if over_ then s.modAxMod m fun k => { k with missedBase := count, missedFrom := s.now, missedRaised := false }
    else s
  let x := s1.axMods[m]
  if x.missedBase + 16 ≤ count && !x.missedRaised && s1.axModIn m then
    (s1.modAxMod m fun k => { k with missedRaised := true }).raise Ev.AX_TICK_MISSED
      (s1.axItems m ++ [.u16 count])
  else s1

/-- A module has no single valid active frame in a tick and repeats its last command. -/
def State.tickMissed (s : State) (k : Slot) : State :=
  match slotKind k with
  | .axis m =>
    let s1 := s.modAxMod m fun x => { x with
      next := none, missRun := x.missRun + 1, missed := BitVec.ofNat 16 (satAdd 16 x.missed.toNat 1) }
    let s2 := s1.missedCount m s1.axMods[m].missed.toNat
    if 3 ≤ s2.axMods[m].missRun && !s2.axMods[m].lossState then s2.lossEnter m else s2
  | .field m =>
    let s1 := s.modFieldMod m fun x => { x with cmdNext := none, missRun := x.missRun + 1 }
    if (s1.field.mods[m].cfg 0x64) * msec ≤ s1.field.mods[m].missRun * tickNs && s1.field.mods[m].appliedAny then
      let s2 := s1.modFieldMod m fun x => { x with cmdValid := false }
      if s2.field.mods[m].fieldUp then s2.applySafe m 1 else s2
    else s1
  | .load =>
    let s1 := s.modLoads fun x => { x with cmdNext := none, missRun := x.missRun + 1 }
    if (s1.load.applied[(12 : Fin 13)]).toNat * msec ≤ s1.load.missRun * tickNs then s1.loadSafe else s1
  | .energy =>
    let s1 := s.modEnergy fun e => { e with cmdNext := none, missMs := e.missMs + 50 }
    if 20000 ≤ s1.energy.missMs then
      s1.modEnergy fun e => { e with charging := false, boostOn := !e.boostCut }
    else s1
  | .power p => s.modPm p fun x => { x with cmdNext := none }
  | _ => s

/-- MISSED_TICK, of two active frames where the module reports so (FR_DUAL_ACTIVE). -/
def execMissedTick (slot : Slot) (twoActive : Bool) (s : State) : Host.Outcome State Fault Refusal :=
  .next (if s.frame.slots[slot].pres && onLink slot then
      let s1 := if twoActive then s.raise Ev.FR_DUAL_ACTIVE [.u8 slot.val, .u16 s.tick16] else s
      s1.tickMissed slot
    else s)

/-! ### Downlink frames -/

/-- A command already waits for the coming edge. -/
def State.commandWaits (s : State) (k : Slot) : Bool :=
  match slotKind k with
  | .axis m => s.axMods[m].next.isSome
  | .field m => s.field.mods[m].cmdNext.isSome
  | .load => s.load.cmdNext.isSome
  | .energy => s.energy.cmdNext.isSome
  | .power p => s.supply.pm[p].cmdNext.isSome
  | _ => false

/-- The module stages a configuration record (R100, R160, R180). -/
def stageRecord {n : Nat} (v : Vector (Option (BitVec 32)) n) (i value : Nat) : Vector (Option (BitVec 32)) n :=
  match asFin n i with
  | some j => updV v j fun _ => some (BitVec.ofNat 32 value)
  | none => v

/-- What a downlink payload asks of an axis module (Table AX-4). -/
def axBlockOf (p : List Byte) : AxBlock :=
  { address := BitVec.ofNat 10 (u16At p 0), amplitude := BitVec.ofNat 12 (u16At p 2),
    mode := BitVec.ofNat 8 (byteAt p 4), ackLoss := bit (byteAt p 5) 0, armLatch := bit (byteAt p 5) 1,
    latchSrc := BitVec.ofNat 2 (bits (byteAt p 5) 2 2) }

/-- A valid active downlink frame: its command waits for the coming TICK edge, its configuration record is
staged, and the loss timeout starts anew. -/
def State.takeDownlink (s : State) (k : Slot) (p : List Byte) : State :=
  match slotKind k with
  | .axis m =>
    let i := u16At p 8
    let v := BitVec.ofNat 32 (u32At p 12)
    s.modAxMod m fun x => { x with
      missRun := 0, next := some (axBlockOf p),
      cfg := if axCfgOk i v then stageRecord x.cfg i v.toNat else x.cfg }
  | .field m => s.modFieldMod m fun x => { x with
      missRun := 0,
      cmdNext := some (BitVec.ofNat 32 (u32At p 0), BitVec.ofNat 32 (u32At p 4), bit (byteAt p 8) 0, bit (byteAt p 8) 1),
      staged := stageRecord x.staged (u16At p 10) (u32At p 12), cfgCrc := BitVec.ofNat 16 (u16At p 16) }
  | .load => s.modLoads fun x => { x with
      missRun := 0,
      cmdNext := some (BitVec.ofNat 12 (u16At p 0), BitVec.ofNat 12 (u16At p 2),
        bit (byteAt p 4) 0, bit (byteAt p 4) 1, bit (byteAt p 4) 2),
      staged := stageRecord x.staged (u16At p 6) (u32At p 8), cfgCrc := BitVec.ofNat 16 (u16At p 12) }
  | .power q => s.modPm q fun x => { x with
      cmdNext := some (BitVec.ofNat 8 (byteAt p 0), BitVec.ofNat 8 (byteAt p 1)) }
  | .energy => s.modEnergy fun e => { e with
      missMs := 0, cmdNext := some (BitVec.ofNat 8 (byteAt p 0), u16At p 2, u16At p 4) }
  | _ => s

/-- DOWNLINK_FRAME: discarded unless its CRC holds and it is an active command for this slot; the second one of
a tick makes the tick a missed one (R17). -/
def execDownlinkFrame (slot : Slot) (core : CoreId) (frame : List Byte) (s : State) : Host.Outcome State Fault Refusal :=
  .next (if !(s.frame.slots[slot].pres && onLink slot) then s
    else if !linkCrcHolds frame then s.linkCrcError slot core
    else if !(linkFrameGood slot 1 frame && byteAt frame 5 == (payloadLengths slot).1) then s
    else if s.commandWaits slot then
      (s.raise Ev.FR_DUAL_ACTIVE [.u8 slot.val, .u16 s.tick16]).tickMissed slot
    else s.takeDownlink slot (framePayload frame))

/-! ### The TICK edge: received commands take effect (R17, R208, R235) -/

/-- An axis module plays the block it received; in its loss state only one with ack_loss (R102). A loss state
as old as the settle time applies its standstill mode. -/
def State.axisEdge (s : State) (m : Axis) : State :=
  let x := s.axMods[m]
  let settle := (x.cfg[(2 : Fin 8)].elim 0 BitVec.toNat) * msec
  let s1 : State := match x.next with
    | some b =>
      if x.lossState && !b.ackLoss then s.modAxMod m fun k => { k with next := none }
      else s.modAxMod m fun k => { k with
        next := none, block := b, lossState := false,
        checkRunning := k.checkRunning || (b.mode == 3 && k.block.mode != 3),
        checkPassed := k.checkPassed && !(b.mode == 3 && k.block.mode != 3) }
    | none => s
  let y := s1.axMods[m]
  if y.lossState && y.block.mode == 2 && decide (settle ≤ s1.since y.lossFrom) then
    let stand : Byte := if (y.cfg[(1 : Fin 8)].elim 0 BitVec.toNat) = 1 then 0 else 1
    s1.modAxMod m fun k => { k with block := { k.block with mode := stand, amplitude := 0 } }
  else s1

def State.fieldEdge (s : State) (m : Fin 2) : State :=
  let s1 : State := match s.field.mods[m].cmdNext with
    | some (out, rearm, ack, hold) => s.modFieldMod m fun x => { x with
        cmdNext := none, outCmd := out, rearmCmd := rearm, ackSafe := ack, hold := hold, cmdValid := true }
    | none => s
  if s1.fieldMatches m && !(s1.field.mods[m].appliedAny
      && s1.field.mods[m].applied.toList.map some == s1.field.mods[m].staged.toList) then s1.applyField m else s1

def State.loadEdge (s : State) : State :=
  let s1 : State := match s.load.cmdNext with
    | some (out, rearm, ack, hold, shed) =>
      (s.modLoads fun x => { x with cmdNext := none, ackSafe := ack }).loadCommand out rearm ack hold shed
    | none => s
  if s1.loadMatches && !(s1.load.appliedAny
      && s1.load.applied.toList.map some == s1.load.staged.toList) then s1.applyLoad else s1

/-- A power module's command; a un_code that differs is written to its configuration cell (R185, R208). -/
def State.powerEdge (s : State) (p : Fin 2) : State :=
  match s.supply.pm[p].cmdNext with
  | none => s
  | some (b, un) =>
    let old := s.supply.pm[p].unCode
    let new := un != old && 1 ≤ un.toNat && un.toNat ≤ 6
    let s1 := s.modPm p fun x => { x with
      cmdNext := none, outputOn := b.getLsbD 0, shareShed := b.getLsbD 1, rails := #v[b.getLsbD 2, b.getLsbD 3],
      unCode := if new then un else x.unCode }
    if new then s1.raise Ev.SU_UN_STORED [.u8 p.val, .u8 old.toNat, .u8 un.toNat] else s1

def State.energyEdge (s : State) : State :=
  match s.energy.cmdNext with
  | none => s
  | some (b, floor, target) => s.modEnergy fun e => { e with
      cmdNext := none, charging := b.getLsbD 0 && !e.chargerOff, boostOn := b.getLsbD 1 && !e.boostCut,
      modFloor := floor, modCharge := target }

/-- What the TICK edge brings to every module. -/
def State.edge (s : State) : State :=
  let s1 := s.each (List.finRange 4) State.axisEdge
  let s2 := (s1.each [(0 : Fin 2), 1] State.fieldEdge).loadEdge
  (s2.each [(0 : Fin 2), 1] State.powerEdge).energyEdge

/-! ### Uplink frames -/

def axUplinkOf (p : List Byte) (tick : Nat) : AxUplink :=
  { encCount := BitVec.ofNat 32 (u32At p 0), latchCount := BitVec.ofNat 32 (u32At p 4),
    vBus := BitVec.ofNat 16 (u16At p 8), iA := BitVec.ofNat 16 (u16At p 10), iB := BitVec.ofNat 16 (u16At p 12),
    inputs := BitVec.ofNat 8 (byteAt p 14), state := BitVec.ofNat 8 (byteAt p 15),
    rTemp := BitVec.ofNat 16 (u16At p 16), tSink := BitVec.ofNat 8 (byteAt p 18),
    fault := BitVec.ofNat 8 (byteAt p 19), rA := BitVec.ofNat 16 (u16At p 20), rB := BitVec.ofNat 16 (u16At p 22),
    cfgCrc := BitVec.ofNat 16 (u16At p 24), missed := BitVec.ofNat 16 (u16At p 26),
    tick := BitVec.ofNat 16 tick, valid := true }

def fiUplinkOf (p : List Byte) : FiUplink :=
  { value := BitVec.ofNat 32 (u32At p 0), valid := BitVec.ofNat 32 (u32At p 4), band := BitVec.ofNat 32 (u32At p 8),
    fault := BitVec.ofNat 32 (u32At p 12), stale := BitVec.ofNat 32 (u32At p 16),
    outState := BitVec.ofNat 32 (u32At p 20), outFault := BitVec.ofNat 32 (u32At p 24),
    vGroup := BitVec.ofNat 32 (u32At p 28), gState := BitVec.ofNat 16 (u16At p 32),
    sampleAge := BitVec.ofNat 8 (byteAt p 34), flags := BitVec.ofNat 8 (byteAt p 35),
    cfgCrc := BitVec.ofNat 16 (u16At p 36), diagChannel := BitVec.ofNat 8 (byteAt p 38),
    diagCode := BitVec.ofNat 8 (byteAt p 39), diagI := BitVec.ofNat 16 (u16At p 40),
    diagV := BitVec.ofNat 16 (u16At p 42), tField := BitVec.ofNat 8 (byteAt p 44),
    crcErrors := BitVec.ofNat 16 (u16At p 46), fresh := true }

/-- A drive fault code read from an uplink. Which phase it is and the difference in mA are not in the payload:
free values (log 2). -/
def State.axFaultRead (s : State) (m : Axis) (code : Nat) : State :=
  let items := s.axItems m
  let u := s.axMods[m].uplink
  let (f, s1) := s.fresh
  let (g, s2) := s1.fresh
  let phase := f % 2
  let ohm := if phase = 0 then u.rA.toNat else u.rB.toNat
  match code with
  | 1 => s2.driveFaultOn m 1 Ev.AX_OVERCURRENT (items ++ [.u8 phase])
  | 2 => s2.driveFaultOn m 2 Ev.AX_PHASE_OPEN (items ++ [.u8 phase])
  | 3 => s2.driveFaultOn m 3 Ev.AX_PHASE_SHORT (items ++ [.u8 phase, .u16 ohm])
  | 4 => s2.driveFaultOn m 4 Ev.AX_PHASE_GROUND (items ++ [.u8 phase, .u16 (g % 65536)])
  | 5 => s2.driveFaultOn m 5 Ev.AX_BUS_RANGE (items ++ [.u16 u.vBus.toNat])
  | 6 => s2.driveFaultOn m 6 Ev.AX_BUS_RANGE (items ++ [.u16 u.vBus.toNat])
  | 7 => s2.driveFaultOn m 7 Ev.AX_HEATSINK (items ++ [.u8 u.tSink.toNat, .u8 1])
  | 8 => s2.driveFaultOn m 8 Ev.AX_CONFIG_MISMATCH (items ++ [.u16 u.cfgCrc.toNat, .u16 (s.axCfgCrc m).toNat])
  | 10 => s2.driveFaultOn m 10 Ev.AX_CHECK_HIGH (items ++ [.u8 phase, .u16 ohm])
  | n =>
    -- no event of its own (Table AX-7)
    let s3 := (s.modAxMod m fun k => { k with fault := n }).modSlot (axisSlot m) fun x => { x with fault := some n }
    let s4 := s3.raise Ev.FR_MODULE_FAULT [.u8 (axSlotNo m), .u8 n]
    if s.axModIn m then s4.laneGone m else s4

/-- The readings of an axis uplink that the core keeps: the record, the encoder unwrapped from tick to tick
(R104), the bus voltage (R91) and the peak budget (R93). -/
def State.axReadings (s : State) (m : Axis) (u : AxUplink) : State :=
  let a := s.axisOfLane m
  let step := (u.encCount - s.axMods[m].uplink.encCount).toInt
  let above := 11300 < (u.iA.toInt).natAbs || 11300 < (u.iB.toInt).natAbs
  let s1 := s.modAxMod m fun k => { k with
    uplink := u, peakFlag := u.state.getLsbD 5,
    peakBudget := if above then k.peakBudget - 50 else min 2000000 (k.peakBudget + 5) }
  s1.modAxis a fun x => { x with
    enc := if m = s.readLane a then x.enc + step else x.enc,
    vBus := 10 * u.vBus.toNat, vBusAt := s.now }

/-- What changes in an axis uplink bring about: peak flag, temperatures, encoder faults, missed ticks, the
limits and the latch of a re-reference. -/
def State.axChanges (s : State) (m : Axis) (old : AxModSt) (u : AxUplink) : State :=
  let a := s.axisOfLane m
  let s1 := if u.state.getLsbD 5 && !old.peakFlag then s.raise Ev.AX_PEAK_LIMIT (s.axItems m) else s
  let ohm := if u.rTemp = 0xFFFF then 1000000 else u.rTemp.toNat
  let s2 := (s1.motorTempRead m ohm).heatsinkRead m u.tSink.toInt
  let encBad := u.inputs.getLsbD 4
  let supplyBad := u.inputs.getLsbD 5
  let s3 : State := if encBad && !old.uplink.inputs.getLsbD 4 && !old.encFault then
      let (f, s2') := s2.fresh
      s2'.encFaultOn m (1 + f % 3)
    else if supplyBad && !old.uplink.inputs.getLsbD 5 && !old.encFault then s2.encFaultOn m 4
    else if !encBad && !supplyBad then s2.modAxMod m fun k => { k with encFault := false }
    else s2
  let s4 := (s3.missedCount m u.missed.toNat).limitTick a
  if u.inputs.getLsbD 3 && s4.axMods[m].armed && s4.refStageIs a .back && m = s4.readLane a then
    s4.refLatched a u.latchCount
  else s4

/-- Loss state and drive fault as an axis uplink reports them (R79, R102). -/
def State.axStates (s : State) (m : Axis) (u : AxUplink) : State :=
  let k := s.axMods[m]
  let s1 := if u.state.getLsbD 2 && !k.lossState then
      let s' := s.modAxMod m fun k => { k with lossState := true, lossFrom := s.now }
      if s.axModIn m then s'.lossReported m else s'
    else if !u.state.getLsbD 2 then s.modAxMod m fun k => { k with ackDue := false }
    else s
  let code := u.fault.toNat
  if code = k.fault then s1
  else if code = 0 then (if k.fault = 5 ∨ k.fault = 6 then s1.driveFaultOff m else s1)
  else s1.axFaultRead m code

def State.axisUplink (s : State) (m : Axis) (p : List Byte) (tick : Nat) : State :=
  let old := s.axMods[m]
  let u := axUplinkOf p tick
  ((s.axReadings m u).axChanges m old u).axStates m u

/-- A core's own input image of a field module (Table FI-7). -/
def State.fieldUplink (s : State) (m : Fin 2) (core : CoreId) (p : List Byte) : State :=
  s.modFieldMod m fun x => { x with views := updV x.views core fun _ => fiUplinkOf p }

def State.loadUplink (s : State) (p : List Byte) : State :=
  s.modLoads fun x => { x with
    repOn := BitVec.ofNat 12 (u16At p 0), repFault := BitVec.ofNat 12 (u16At p 2),
    repCurrent := Vector.ofFn fun c => u16At p (4 + 2 * c.val),
    repSupply := byteAt p 30, repFlags := BitVec.ofNat 8 (byteAt p 31), repCrc := BitVec.ofNat 16 (u16At p 32),
    repDiagChannel := byteAt p 34, repDiagCode := byteAt p 35, repHeat := byteAt p 36 }

def feedOf (n : Nat) : Feed :=
  match n with
  | 0 => .stopped
  | 1 => .qualifying
  | 2 => .good
  | 3 => .interrupted
  | 4 => .reversed
  | _ => .over

/-- A power module's uplink (Table SU-10): readings, feed state and fault (PM_FAULT). -/
def State.powerUplink (s : State) (q : Fin 2) (p : List Byte) : State :=
  let fl := byteAt p 13
  let s1 := s.modPm q fun x => { x with
    repVDrv := u16At p 4, repPOut := u16At p 6, repUn := BitVec.ofNat 8 (byteAt p 14),
    repFlags := BitVec.ofNat 8 fl, currentLimit := bit fl 5, band := bit fl 7,
    fault := if byteAt p 18 = 0 then 0 else x.fault }
  let s2 := if byteAt p 18 = 0 then
      s1.modSlot (pmSlot q) fun x => { x with fault := none }
    else s1.pmFaultOn q (byteAt p 18)
  if byteAt p 12 < 6 then s2.feedReported q (feedOf (byteAt p 12)) (s16At p 0) else s2

def emOf (n : Nat) : EmState :=
  match n with
  | 0 => .off
  | 1 => .charging
  | 2 => .float
  | 3 => .boosting
  | 4 => .empty
  | _ => .fault

/-- The energy module's uplink (Table EN-8): readings, the in-motion fit, a window's result, state and fault. -/
def State.energyUplink (s : State) (p : List Byte) : State :=
  let s1 := s.modEnergy fun e => { e with
    pBoost := u16At p 4, vCellMax := u16At p 6, vCellMin := u16At p 8, tCellMax := s8At p 10, tCellMin := s8At p 11,
    flags := BitVec.ofNat 8 (byteAt p 13), budget := byteAt p 20 }
  let s2 := s1.fitReading (u16At p 0) (s16At p 2)
  let ended := match s2.energy.window with
    | some t => decide (2 * sec ≤ s2.since t)
    | none => false
  let s3 := if ended && bit (byteAt p 13) 2 && byteAt p 15 ≠ s2.energy.windowSeq.toNat then
      (s2.windowDone (u16At p 18) (u16At p 16)).modEnergy fun e => { e with windowSeq := BitVec.ofNat 8 (byteAt p 15) }
    else s2
  let code := byteAt p 14
  if code ≠ 0 then (if s3.energy.fault.toNat = code then s3 else s3.emFaultOn code)
  else
    let s4 := (s3.modEnergy fun e => { e with fault := 0 }).modSlot e0Slot fun x => { x with fault := none }
    if byteAt p 12 < 6 then (s4.emBecomes (emOf (byteAt p 12))).judgeReady else s4.judgeReady

/-- The fault flag of a field or load module, whose payload carries no code: the code is a free value (log 2). -/
def State.flagFault (s : State) (k : Slot) (on : Bool) : State :=
  match s.frame.slots[k].fault with
  | none =>
    if on then
      let (f, s1) := s.fresh
      (s1.modSlot k fun x => { x with fault := some (f % 256) }).raise Ev.FR_MODULE_FAULT [.u8 k.val, .u8 (f % 256)]
    else s
  | some _ => if on then s else s.modSlot k fun x => { x with fault := none }

/-- The payload of a good uplink frame. Only the active core acts on it; of a field module each core keeps its
own image. -/
def State.takeUplink (s : State) (k : Slot) (core : CoreId) (p : List Byte) (tick : Nat) (faultFlag : Bool) : State :=
  match slotKind k with
  | .field m =>
    let s1 := s.fieldUplink m core p
    if core = s.activeCore then s1.flagFault k faultFlag else s1
  | .axis m => if core = s.activeCore then s.axisUplink m p tick else s
  | .load => if core = s.activeCore then (s.loadUplink p).flagFault k faultFlag else s
  | .power q => if core = s.activeCore then s.powerUplink q p else s
  | .energy => if core = s.activeCore then s.energyUplink p else s
  | _ => s

/-- The flags of an uplink frame (Table FR-4): in service, and main rails on. -/
def State.uplinkFlags (s : State) (k : Slot) (flags : Nat) : State :=
  let s1 := s.modSlot k fun x => { x with railsOn := bit flags 3 }
  let x := s1.frame.slots[k]
  if bit flags 0 && x.enable && !x.inService && x.heldOut.isNone && x.removal.isNone && s1.mayReport k then s1.moduleIn k
  else s1

/-- A fault of a module whose removal steps run makes it lost at once (R28). -/
def State.failsInRemoval (s : State) (k : Slot) (faultFlag : Bool) : State :=
  match s.frame.slots[k].removal with
  | some (.running _) => if faultFlag && s.frame.slots[k].fault.isSome then s.takeOut k else s
  | _ => s

/-- UPLINK_FRAME. -/
def execUplinkFrame (slot : Slot) (core : CoreId) (frame : List Byte) (s : State) : Host.Outcome State Fault Refusal :=
  .next (if !(s.frame.slots[slot].pres && onLink slot && s.pair.core[core].present) then s
    else if !linkCrcHolds frame then s.linkCrcError slot core
    else if byteAt frame 0 ≠ 2 ∨ byteAt frame 4 % 16 ≠ slot.val + 1 ∨ byteAt frame 5 ≠ (payloadLengths slot).2 then s
    else
      let fl := byteAt frame 1
      let s1 := s.modSlot slot fun x => { x with
        uplinkMissed := updV x.uplinkMissed core fun _ => 0, linkUp := updV x.linkUp core fun _ => true }
      let s2 := s1.takeUplink slot core (framePayload frame) (u16At frame 2) (bit fl 1)
      if core = s.activeCore then (s2.failsInRemoval slot (bit fl 1)).uplinkFlags slot fl else s2)

/-! ### A lost link (R103, Table FR-16) -/

/-- The standby's links cover more in-service modules, and it may take over for them (R275). -/
def State.standbyCovers (s : State) : Bool :=
  s.standbyPresent && decide (s.coverage s.activeCore < s.coverage s.standbyCore) && s.param 0x041 != 0

/-- Three ticks without a valid uplink: FR_LINK_LOST; a module the active core no longer hears is lost unless
the standby, which covers more, takes over. -/
def State.linkLost (s : State) (k : Slot) (core : CoreId) : State :=
  if !s.frame.slots[k].linkUp[core] then s
  else
    let s1 := (s.modSlot k fun x => { x with linkUp := updV x.linkUp core fun _ => false }).raise Ev.FR_LINK_LOST
      [.u8 k.val, .u8 core.val]
    if core ≠ s.activeCore then s1
    else if s1.standbyCovers then s1.coverageTrigger
    else if s1.inService k then s1.moduleLost k else s1

/-- LINK_LOST. -/
def execLinkLost (slot : Slot) (core : CoreId) (s : State) : Host.Outcome State Fault Refusal :=
  .next (if onLink slot then s.linkLost slot core else s)

/-- The links a pass finds without a valid uplink for three ticks. -/
def State.linksTick (s : State) : State :=
  s.each (List.finRange 14) fun s k =>
    if onLink k then
      s.each [(0 : CoreId), 1] fun s c =>
        if s.pair.core[c].present && 3 ≤ s.frame.slots[k].uplinkMissed[c] then s.linkLost k c else s
    else s

/-- The end of a pass: one more tick without an uplink, until one comes. -/
def State.countUplinks (s : State) : State :=
  { s with frame := { s.frame with slots := s.frame.slots.map fun x => { x with uplinkMissed := x.uplinkMissed.map (· + 1) } } }

end Sys2Proof.Machine
end

