-- ==== Sys2Proof/Machine/Resolver.lean ====
section
/-!
DEFINITION. Every opcode as one operation, and the resolver that settles the requests of a tick (R61, R230):
what was refused, what merged, what conflicted, and the winners in the order of Table DW-8.
-/

namespace Sys2Proof.Machine

/-! ### One request -/

/-- The opcode of a request. -/
def opCode : Op → BitVec 15
  | .nop => Opc.OP_NOP
  | .claim _ => Opc.OP_CLAIM
  | .releaseClaims _ => Opc.OP_RELEASE_CLAIMS
  | .completionReplay .. => Opc.OP_COMPLETION_REPLAY
  | .heartbeat => Opc.OP_HEARTBEAT
  | .wait .. => Opc.OP_WAIT
  | .releaseHold => Opc.OP_RELEASE_HOLD
  | .serviceDrop _ => Opc.OP_SERVICE_DROP
  | .coreHandover => Opc.OP_CORE_HANDOVER
  | .restWindow => Opc.OP_REST_WINDOW
  | .doorOpen _ => Opc.OP_DOOR_OPEN
  | .doorClose _ => Opc.OP_DOOR_CLOSE
  | .doorStop _ => Opc.OP_DOOR_STOP
  | .doorEvacOpen _ => Opc.OP_DOOR_EVAC_OPEN
  | .doorReset _ => Opc.OP_DOOR_RESET
  | .stepRequest _ => Opc.OP_STEP_REQUEST
  | .doorObstacle _ => Opc.OP_DOOR_OBSTACLE
  | .doorStatus _ => Opc.OP_DOOR_STATUS
  | .axisMove .. => Opc.OP_AXIS_MOVE
  | .axisHalt _ => Opc.OP_AXIS_HALT
  | .axisReference _ => Opc.OP_AXIS_REFERENCE
  | .axisSetPosition .. => Opc.OP_AXIS_SET_POSITION
  | .segTableLoad .. => Opc.OP_SEG_TABLE_LOAD
  | .mstepTableLoad _ => Opc.OP_MSTEP_TABLE_LOAD
  | .fioSet .. => Opc.OP_FIO_SET
  | .loadSet .. => Opc.OP_LOAD_SET
  | .loadRearm _ => Opc.OP_LOAD_REARM
  | .ioRead => Opc.OP_IO_READ
  | .paramRead .. => Opc.OP_PARAM_READ
  | .paramWrite _ => Opc.OP_PARAM_WRITE
  | .paramSetLoad => Opc.OP_PARAM_SET_LOAD
  | .paramSetRead => Opc.OP_PARAM_SET_READ
  | .timeSet .. => Opc.OP_TIME_SET
  | .timeRead => Opc.OP_TIME_READ
  | .schedCancel _ => Opc.OP_SCHED_CANCEL
  | .canTx .. => Opc.OP_CAN_TX
  | .canTxAbort _ => Opc.OP_CAN_TX_ABORT
  | .canRxRead .. => Opc.OP_CAN_RX_READ
  | .canRxAck _ => Opc.OP_CAN_RX_ACK
  | .canFilterSet .. => Opc.OP_CAN_FILTER_SET
  | .canStatus _ => Opc.OP_CAN_STATUS
  | .canRecover _ => Opc.OP_CAN_RECOVER
  | .journalRead .. => Opc.OP_JOURNAL_READ
  | .journalStatus => Opc.OP_JOURNAL_STATUS
  | .journalRetain .. => Opc.OP_JOURNAL_RETAIN
  | .journalRelease => Opc.OP_JOURNAL_RELEASE
  | .journalNote .. => Opc.OP_JOURNAL_NOTE
  | .updateBegin => Opc.OP_UPDATE_BEGIN
  | .updateChunk .. => Opc.OP_UPDATE_CHUNK
  | .updateVerify _ => Opc.OP_UPDATE_VERIFY
  | .updateActivate .. => Opc.OP_UPDATE_ACTIVATE
  | .updateConfirm _ => Opc.OP_UPDATE_CONFIRM
  | .updateAbort .. => Opc.OP_UPDATE_ABORT
  | .updateStatus => Opc.OP_UPDATE_STATUS
  | .sessionChallenge _ => Opc.OP_SESSION_CHALLENGE
  | .sessionOpen .. => Opc.OP_SESSION_OPEN
  | .sessionClose => Opc.OP_SESSION_CLOSE
  | .keyProvision => Opc.OP_KEY_PROVISION

/-- The door motion an opcode asks for, and its doorway field. -/
def opDoor : Op → Option (DoorOp × Nat)
  | .doorOpen d => some (.open, d)
  | .doorClose d => some (.close, d)
  | .doorStop d => some (.stop, d)
  | .doorEvacOpen d => some (.evac, d)
  | .doorReset d => some (.reset, d)
  | _ => none

/-- A safety-directed request of R59, or a request of SV. -/
def isUrgent (r : Req) (op : Op) : Bool :=
  match op with
  | .doorStop _ | .doorEvacOpen _ => true
  | _ => r.party == .sv

/-- An urgent request aborts a low-power entry, releases a hold and ends the block of OP_REST_WINDOW before it
acts (R224, R244, R254). -/
def State.safetyFirst (s : State) (r : Req) : State :=
  let s1 := (s.abortEntry (if r.party == .sv then 3 else 2)).releaseHold (Party.code r.party)
  if s1.energy.blockUntil.isSome then (s1.abortWindow 1).modEnergy fun e => { e with blockUntil := none } else s1

/-- Must an urgent request wait until the modules have returned from an aborted entry? -/
def State.urgentWaits (s : State) (r : Req) (op : Op) : Bool := isUrgent r op && s.power.wake.isSome

/-- A request placed before the resolver (R61). -/
def State.queueReq (s : State) (r : Req) (op : Op) : State :=
  s.modDoors fun x => { x with requests := x.requests ++ [{ req := r, op := op }] }

/-- A door request with its doorway field as sent. -/
def State.doDoorArg (s : State) (r : Req) (d : Nat) (op : DoorOp) : State :=
  match s.doorArg r.party d with
  | some d => s.doDoor r d op
  | none => s.fail r (doorOpcode op) ST_RANGE (argOff 16)

/-- One request of any opcode, by itself. -/
def State.runOp (s : State) (r : Req) : Op → State
  | .nop => s.doNop r
  | .claim code => s.doClaim r code
  | .releaseClaims codes => s.releaseClaims r codes
  | .completionReplay first count ring => s.doReplay r first count ring
  | .heartbeat => s.doHeartbeat r
  | .wait target alarm => s.doWait r target alarm
  | .releaseHold => s.doReleaseHold r
  | .serviceDrop slot => s.doServiceDrop r slot
  | .coreHandover => s.doCoreHandover r
  | .restWindow => s.doRestWindow r
  | .doorOpen d => s.doDoorArg r d .open
  | .doorClose d => s.doDoorArg r d .close
  | .doorStop d => s.doDoorArg r d .stop
  | .doorEvacOpen d => s.doDoorArg r d .evac
  | .doorReset d => s.doDoorArg r d .reset
  | .stepRequest d =>
    (match s.doorArg r.party d with
    | some d => s.doStepRequest r d
    | none => s.fail r Opc.OP_STEP_REQUEST ST_RANGE (argOff 16))
  | .doorObstacle d =>
    (match s.doorArg r.party d with
    | some d => s.doDoorObstacle r d
    | none => s.fail r Opc.OP_DOOR_OBSTACLE ST_RANGE (argOff 16))
  | .doorStatus d =>
    (match s.doorArg r.party d with
    | some d => s.doDoorStatus r d
    | none => s.fail r Opc.OP_DOOR_STATUS ST_RANGE (argOff 16))
  | .axisMove a pos => s.doAxisMove r a pos
  | .axisHalt a => s.doAxisHalt r a
  | .axisReference a => s.doAxisReference r a
  | .axisSetPosition a pos => s.doAxisSetPosition r a pos
  | .segTableLoad a number count x0 => s.doSegTableLoad r a number count x0
  | .mstepTableLoad a => s.doMstepTableLoad r a
  | .fioSet mask state => s.doFioSet r mask state
  | .loadSet mask state => s.doLoadSet r mask state
  | .loadRearm mask => s.doLoadRearm r mask
  | .ioRead => s.doIoRead r
  | .paramRead first count => s.doParamRead r first count
  | .paramWrite entries => s.doParamWrite r entries
  | .paramSetLoad => s.doParamSetLoad r
  | .paramSetRead => s.doParamSetRead r
  | .timeSet tai tick err taiUtc => s.doTimeSet r tai tick err taiUtc
  | .timeRead => s.doTimeRead r
  | .schedCancel hseq => s.doSchedCancel r hseq
  | .canTx bus fmt len id sdt vcid af data => s.doCanTx r bus fmt len id sdt vcid af data
  | .canTxAbort hseq => s.doCanTxAbort r hseq
  | .canRxRead max_ min_ wait fromOldest => s.doCanRxRead r max_ min_ wait fromOldest
  | .canRxAck rseq => s.doCanRxAck r rseq
  | .canFilterSet index b id mask sdt sdtMask vcid vcidMask =>
    s.doCanFilterSet r index
      { bits := b, id := id, mask := mask, sdt := sdt, sdtMask := sdtMask, vcid := vcid, vcidMask := vcidMask }
  | .canStatus bus => s.doCanStatus r bus
  | .canRecover bus => s.doCanRecover r bus
  | .journalRead reader mode area typeMask doorId count start wait =>
    s.doJournalRead r reader mode area typeMask doorId count start wait []
  | .journalStatus => s.doJournalStatus r
  | .journalRetain first count => s.doJournalRetain r first count
  | .journalRelease => s.doJournalRelease r
  | .journalNote code text => s.doJournalNote r code text
  | .updateBegin => s.doUpdateBegin r
  | .updateChunk index hash => s.doUpdateChunk r index hash
  | .updateVerify kind => s.doUpdateVerify r kind
  | .updateActivate kind mask => s.doUpdateActivate r kind mask
  | .updateConfirm mask => s.doUpdateConfirm r mask
  | .updateAbort kind mask => s.doUpdateAbort r kind mask
  | .updateStatus => s.doUpdateStatus r
  | .sessionChallenge level => s.doSessionChallenge r level
  | .sessionOpen level response => s.doSessionOpen r level response
  | .sessionClose => s.doSessionClose r
  | .keyProvision => s.doKeyProvision r

/-! ### The door opcodes by themselves -/

/-- A door request that is settled by itself, what it ends first coming before it. -/
def State.doorAlone (s : State) (r : Req) (d : Doorway) (op : DoorOp) (o : Op) : State :=
  let s1 := if isUrgent r o then s.safetyFirst r else s
  if s1.urgentWaits r o then s1.queueReq r o else s1.doDoor r d op

/-- The doorway field a party would send for a doorway. -/
def State.doorField (s : State) (p : Party) (d : Doorway) : Nat := if p = .p2 then s.doorId d.val else d.val

def execOpDoorOpen (r : Req) (d : Doorway) (s : State) : Host.Outcome State Fault Refusal :=
  .next (s.doorAlone r d .open (.doorOpen (s.doorField r.party d)))
def execOpDoorClose (r : Req) (d : Doorway) (s : State) : Host.Outcome State Fault Refusal :=
  .next (s.doorAlone r d .close (.doorClose (s.doorField r.party d)))
def execOpDoorStop (r : Req) (d : Doorway) (s : State) : Host.Outcome State Fault Refusal :=
  .next (s.doorAlone r d .stop (.doorStop (s.doorField r.party d)))
def execOpDoorEvacOpen (r : Req) (d : Doorway) (s : State) : Host.Outcome State Fault Refusal :=
  .next (s.doorAlone r d .evac (.doorEvacOpen (s.doorField r.party d)))
def execOpDoorReset (r : Req) (d : Doorway) (s : State) : Host.Outcome State Fault Refusal :=
  .next (s.doorAlone r d .reset (.doorReset (s.doorField r.party d)))

/-! ### What a request asks for (R61, steps 3 to 5) -/

/-- An item that requests contend for. -/
inductive Goal where
  | door (d : Nat) | step (d : Nat) | axis (a : Nat) | table (a n : Nat) | channel (c : Nat) | rearm (c : Nat)
  | param (i : Nat) | paramAll | claim (code : Nat) | time
  deriving DecidableEq, Repr

def Goal.meets : Goal → Goal → Bool
  | .paramAll, .paramAll | .paramAll, .param _ | .param _, .paramAll => true
  | g, h => g == h

/-- Settled by the resolver, or carried out at once by its service (R298). -/
def opResolved : Op → Bool
  | .doorOpen _ | .doorClose _ | .doorStop _ | .doorEvacOpen _ | .doorReset _ | .stepRequest _ => true
  | .axisMove .. | .axisHalt _ | .axisReference _ | .axisSetPosition .. | .segTableLoad .. | .mstepTableLoad _ => true
  | .claim _ | .releaseClaims _ | .paramWrite _ | .paramSetLoad | .fioSet .. | .loadSet .. | .loadRearm _ => true
  | .timeSet .. => true
  | _ => false

/-- The items a request names. Load sets contend for none: R176 settles them. -/
def State.goals (s : State) (w : Waiting) : List Goal :=
  let door (d : Nat) (f : Nat → Goal) : List Goal := ((s.doorArg w.req.party d).map fun d => f d.val).toList
  match w.op with
  | .doorOpen d | .doorClose d | .doorStop d | .doorEvacOpen d => door d .door
  | .doorReset d | .stepRequest d => door d .step
  | .axisMove a _ | .axisHalt a | .axisReference a | .axisSetPosition a _ => [.axis a]
  | .segTableLoad a n _ _ => [.table a n]
  | .mstepTableLoad a => [.table a 0xFF]
  | .fioSet mask _ => ((List.range 64).filter fun c => mask.getLsbD c).map .channel
  | .loadRearm mask => ((List.range 12).filter fun c => mask.getLsbD c).map .rearm
  | .paramWrite es => es.map fun e => .param e.1
  | .paramSetLoad => [.paramAll]
  | .claim code => [.claim code.toNat]
  | .releaseClaims codes => codes.map fun c => .claim c.toNat
  | .timeSet .. => [.time]
  | _ => []

/-- The class of Table DW-8; 6 for what is no doorway request. -/
def opRank : Op → Nat
  | .doorStop _ => 1
  | .doorEvacOpen _ => 2
  | .doorOpen _ => 3
  | .doorClose _ => 4
  | .doorReset _ | .stepRequest _ => 5
  | _ => 6

def Waiting.key (w : Waiting) : Nat := 8 * (opRank w.op) + Party.code w.req.party

/-- In rank order; the order of arrival among equals. -/
def insertWaiting (w : Waiting) : List Waiting → List Waiting
  | [] => [w]
  | k :: rest => if w.key ≤ k.key then w :: k :: rest else k :: insertWaiting w rest

/-- Requests that say the same: same opcode, arguments, flags and buffer. A claim merges only with one of its own
party (Table DW-9). -/
def State.sameRequest (s : State) (v w : Waiting) : Bool :=
  let flags := v.req.partialOk == w.req.partialOk && v.req.zsVouched == w.req.zsVouched && v.req.buf == w.req.buf
  let same : Bool := match (opDoor v.op), (opDoor w.op) with
    | some (a, _), some (b, _) => a == b
    | _, _ => (match v.op, w.op with
      | .stepRequest _, .stepRequest _ => true
      | .claim a, .claim b => a == b && v.req.party == w.req.party
      | a, b => a == b)
  flags && same && s.goals v == s.goals w

/-- The resource of DW_CONFLICT: its code of R308 where it has one. -/
def Goal.code : Goal → Nat
  | .door d | .step d => resourceCode (.doorway d)
  | .axis a | .table a _ => resourceCode (.axis a)
  | .channel c => resourceCode (.field c)
  | .rearm c => resourceCode (.load (c + 1))
  | .param _ | .paramAll => resourceCode .paramSet
  | .claim code => code
  | .time => 0

/-! ### Refusals first (R61, steps 1 and 2) -/

/-- Has a run completed the request at once, and with which status, detail and result? -/
def State.completedBy (s t : State) (r : Req) : Option Completion :=
  match portOf r.party with
  | none => none
  | some p => t.ports[p].kept.find? fun c =>
      decide (((c.dseq - s.ports[p].dseqNext).toNat) < 2 ^ 31) && c.hseq == r.hseq && c.sq == r.sq

/-- A refused request and what refusing it did; none where it stays in the field. -/
def State.refusedNowBy (s : State) (w : Waiting) : Option State :=
  match (opDoor w.op) with
  | some (op, n) =>
    (match s.doorArg w.req.party n with
    | none => some (s.fail w.req (doorOpcode op) ST_RANGE (argOff 16))
    | some d => (s.checkDoor d op w.req).map fun (st, detail) => s.fail w.req (doorOpcode op) st detail)
  | none =>
    let t := s.runOp w.req w.op
    (match s.completedBy t w.req with
    | some c => if c.status == ST_OK then none else some t
    | none => none)

/-- Refuse what fails, and keep the rest. -/
def State.refuseFirst (s : State) : List Waiting → State × List Waiting
  | [] => (s, [])
  | w :: ws =>
    match s.refusedNowBy w with
    | some t => t.refuseFirst ws
    | none => let (t, kept) := s.refuseFirst ws; (t, w :: kept)

/-! ### Winners, merges and conflicts -/

/-- A winner and the requests that merged with it. -/
structure Winner where
  won : Waiting
  merged : List Req := []

/-- Every request in rank order: it wins, merges with a winner, or conflicts with one. -/
def State.arbitrate (s : State) : List Waiting → List Winner → State × List Winner
  | [], ws => (s, ws.reverse)
  | w :: rest, ws =>
    let mine := s.goals w
    let clash := ws.find? fun v => ((s.goals v.won).any fun g => mine.any g.meets) || (mine.isEmpty && s.sameRequest v.won w)
    match clash with
    | none => s.arbitrate rest ({ won := w } :: ws)
    | some v =>
      if s.sameRequest v.won w then
        s.arbitrate rest (ws.map fun x => if x.won == v.won then { x with merged := x.merged ++ [w.req] } else x)
      else
        let g := (mine.find? fun g => (s.goals v.won).any g.meets).elim 0 Goal.code
        let s1 := (s.fail w.req (opCode w.op) ST_CONFLICT (Party.code v.won.req.party)).raise Ev.DW_CONFLICT
          [.u32 g, .u8 (Party.code v.won.req.party), .u8 (Party.code w.req.party), .u8 ((opRank v.won.op) + 16 * (opRank w.op))]
        s1.arbitrate rest ws

/-! ### Opens priced together (R230) -/

/-- An open of the tick: its doorway, what it asks, and its request. -/
structure OpenAsk where
  d : Doorway
  op : DoorOp
  req : Req
  deriving DecidableEq, Repr

/-- The moves of opens, each in full or to the passable width. -/
def State.openSum (s : State) (os : List (OpenAsk × Bool)) : List Movement :=
  os.flatMap fun (o, partial_) => s.openMoves o.d partial_ (s.stepWanted o.d)

/-- Refuse opens from the end until the rest fit: those without PARTIAL_OK first. -/
def State.dropOpens (s : State) : Nat → List (OpenAsk × Bool) → List (OpenAsk × Bool)
  | 0, os => os
  | k + 1, os =>
    if s.fits (s.openSum os) then os
    else match os.reverse.find? (fun o => !o.2) with
      | some o => s.dropOpens k (os.filter fun x => x != o)
      | none => s.dropOpens k os.dropLast

/-- Raise partial opens to full, in door order, while the sum fits. -/
def State.raiseOpens (s : State) : List (OpenAsk × Bool) → List (OpenAsk × Bool) → List (OpenAsk × Bool)
  | done, [] => done
  | done, (o, p) :: rest =>
    let full := p && s.fits (s.openSum (done ++ (o, false) :: rest))
    s.raiseOpens (done ++ [(o, p && !full)]) rest

/-- The admission of every open of the tick; the list is in the order of door identity. -/
def State.admitOpens (s : State) (os : List OpenAsk) : List (OpenAsk × Admit) :=
  let may := os.filter fun o => !s.noMoves (o.op == .evac || o.req.party == .sv)
  let got : List (OpenAsk × Bool) :=
    if s.fits (s.openSum (may.map fun o => (o, false))) then may.map fun o => (o, false)
    else s.raiseOpens [] (s.dropOpens 4 (may.map fun o => (o, mayCut o.op o.req)))
  os.map fun o => (o, match got.find? fun x => x.1 == o with
    | some (_, true) => Admit.partial_
    | some (_, false) => .full
    | none => .refused)

def insertOpen (o : OpenAsk) : List OpenAsk → List OpenAsk
  | [] => [o]
  | k :: rest => if o.d.val ≤ k.d.val then o :: k :: rest else k :: insertOpen o rest

/-- The opens among the winners. -/
def State.opensOf (s : State) (ws : List Winner) : List OpenAsk :=
  (ws.filterMap fun w => match (opDoor w.won.op) with
    | some (op, n) =>
      if op == .open || op == .evac then
        (s.doorArg w.won.req.party n).map fun d => { d := d, op := op, req := w.won.req }
      else none
    | none => none).foldr insertOpen []

/-! ### Running the winners -/

/-- Requests that merged with one that is not a door request: they get its completion, or wait with it (R61). -/
def State.mergeInto (s t : State) (w : Winner) : State :=
  if w.merged.isEmpty then t
  else match s.completedBy t w.won.req with
    | some c => t.completeAll w.merged (opCode w.won.op) c.status c.detail.toNat c.result
    | none =>
      let join (l : List Req) : List Req := l ++ w.merged
      match w.won.op with
      | .axisMove a _ | .axisHalt a | .axisReference a | .axisSetPosition a _ =>
        (match asFin 4 a with
        | some a => t.modAxis a fun x => { x with cmd := x.cmd.map fun c => { c with merged := join c.merged } }
        | none => t)
      | .loadSet .. => t.modLoads fun x => { x with setPending := x.setPending.map fun p =>
          if p.req == w.won.req then { p with merged := join p.merged } else p }
      | .loadRearm mask => t.modLoads fun x => { x with
          rearmPending := x.rearmPending ++ w.merged.map fun r => (r, mask.setWidth 12) }
      | _ => t

/-- One winner runs, an open with the admission already decided. -/
def State.runWinner (s : State) (admits : List (OpenAsk × Admit)) (w : Winner) : State :=
  let r := w.won.req
  match (opDoor w.won.op) with
  | some (op, n) =>
    (match s.doorArg r.party n with
    | some d =>
      let grant : Admit := match admits.find? fun x => x.1.d == d && x.1.req == r with
        | some x => x.2
        | none => s.admitDoor d op r
      s.runDoorOp r w.merged d op grant
    | none => s)
  | none => s.mergeInto (s.runOp r w.won.op) w

/-- The resolver's pass over everything that has arrived since the last one (R61). An urgent request that has to
wait for the modules stays in the queue. -/
def State.resolve (s : State) : State :=
  let all := s.doors.requests
  let s0 := s.each (all.filter fun w => isUrgent w.req w.op) fun s w => s.safetyFirst w.req
  let waits := all.filter fun w => s0.urgentWaits w.req w.op
  let now := all.filter fun w => !s0.urgentWaits w.req w.op
  let s1 := (s0.modDoors fun x => { x with requests := waits }).modEnergy fun e => { e with priced := 0 }
  let (s2, field) := s1.refuseFirst now
  let (s3, winners) := s2.arbitrate (field.foldr insertWaiting []) []
  let admits := s3.admitOpens (s3.opensOf winners)
  s3.each winners fun s w => s.runWinner admits w

end Sys2Proof.Machine
end

