-- ==== Sys2Proof/Machine/Fetch.lean ====
section
/-!
DEFINITION. Descriptors: their layout (Table HR-12, Table HR-15 and the tables of chapters 13, 15, 16 and 17),
the checks at fetch (R298, R301, R370, R417), the quota and the order of fetching (R297, R300), and the writes of
set-up registers.
-/

namespace Sys2Proof.Machine

/-! ### What each opcode takes -/

def dOpcode (b : List Byte) : Nat := u16At b 0

/-- Ports an opcode is allowed from, bits 0 to 3 for P0, P1, P2 and P4 (Table HR-14 and the chapters it names);
none for an unknown opcode. -/
def opcodePorts (n : Nat) : Option Nat :=
  if (1 ≤ n && n ≤ 0xA) || n == 0x102 || n == 0x103 || n == 0x107 || (0x200 ≤ n && n ≤ 0x205) || n == 0x303
      || (0x400 ≤ n && n ≤ 0x403) || (0x500 ≤ n && n ≤ 0x502) || n == 0x605 || (0x700 ≤ n && n ≤ 0x704)
      || n == 0x806 then some 0xF
  else if (0x100 ≤ n && n ≤ 0x106) || (0x300 ≤ n && n ≤ 0x302) then some 0x7
  else if (0x600 ≤ n && n ≤ 0x606) || (0x800 ≤ n && n ≤ 0x805) then some 0xB
  else if (0x810 ≤ n && n ≤ 0x812) || n == 0x820 then some 0x8
  else none

/-- The session level an opcode needs on P4 (Table UD-10); 0 for those that need no session. -/
def opcodeLevel (n : Nat) : Nat :=
  if n == 1 || n == 0x810 || n == 0x811 then 0
  else if n == 5 || n == 0x102 || n == 0x103 || n == 0x107 || n == 0x303 || n == 0x400 || n == 0x403 || n == 0x501
      || n == 0x605 || n == 0x700 || n == 0x701 || n == 0x806 || n == 0x812 then 1
  else if (0x800 ≤ n && n ≤ 0x805) || n == 0x820 || n == 0x703 then 3
  else 2

/-- What the standby core's port answers (R279): its own status and journal, and the session itself. -/
def standbyAnswers (n : Nat) : Bool :=
  n == 1 || n == 5 || n == 0x107 || n == 0x501 || n == 0x605 || n == 0x700 || n == 0x701 || n == 0x806
    || (0x810 ≤ n && n ≤ 0x812)

/-- Flags an opcode takes (R299). -/
def opcodeFlags (n : Nat) : Nat :=
  (if n == 0x100 || n == 0x103 then 1 else 0) + (if n == 0x103 then 2 else 0)
    + (if n == 0x100 || n == 0x101 || n == 0x200 || n == 0x300 || n == 0x301 then 0xC else 0) + 0x10

/-- Offset of the buffer an opcode names: address, then length. -/
def bufferAt (b : List Byte) : Option Nat :=
  let n := dOpcode b
  if n == 0x204 || n == 0x205 || n == 0x400 || n == 0x402 || n == 0x403 || n == 0x501 || n == 0x602 || n == 0x700
      || n == 0x701 || n == 0x800 || n == 0x806 || n == 0x820 then some 24
  else if n == 0x801 then some 52
  else if n == 0x600 && bit (byteAt b 17) 6 then some 32
  else none

/-- Argument bytes an opcode uses: offset, number and the bits used in each. -/
def argBytes (p : PortId) (b : List Byte) : List (Nat × Nat × Nat) :=
  let all (o n : Nat) : Nat × Nat × Nat := (o, n, 0xFF)
  let n := dOpcode b
  let own := ownRings p
  match n with
  | 0x002 => [all 16 3]
  | 0x003 => all 16 1 :: (List.range (min 8 (byteAt b 16))).map fun k => all (20 + 4 * k) 3
  | 0x004 => [all 16 7]
  | 0x006 => [all 16 1, all 24 8]
  | 0x008 => [all 16 1]
  | 0x200 | 0x203 => [all 16 1, all 20 4]
  | 0x201 | 0x202 => [all 16 1]
  | 0x204 => [all 16 3, all 20 16]
  | 0x205 => [all 16 1, all 24 12]
  | 0x300 => [all 16 16]
  | 0x301 => [all 16 4]
  | 0x302 => [all 16 2]
  | 0x400 => [all 16 4, all 24 12]
  | 0x401 => all 16 1 :: (List.range (min 5 (byteAt b 16))).flatMap fun k => [all (20 + 8 * k) 2, all (24 + 8 * k) 4]
  | 0x402 | 0x403 => [all 24 12]
  | 0x500 => if own then [all 16 8, all 28 5] else [all 16 17]
  | 0x501 => [all 24 12]
  | 0x502 => [all 16 4]
  | 0x600 =>
    let xl : List (Nat × Nat × Nat) := if byteAt b 17 % 4 = 2 then [all 24 2, all 28 4] else []
    let data : Nat × Nat × Nat := if bit (byteAt b 17) 6 then all 32 12 else all 32 (min 32 (u16At b 18))
    [all 16 1, (17, 1, 0x7F), all 18 6] ++ xl ++ [data]
  | 0x601 | 0x603 => [all 16 4]
  | 0x602 => [all 16 4, (20, 1, 1), all 24 12]
  | 0x604 => [all 16 1, (17, 1, 0x7F), all 20 12]
  | 0x605 | 0x606 => [all 16 1]
  | 0x700 => [all 16 8, all 24 22]
  | 0x701 => [all 24 12]
  | 0x702 => [all 24 12]
  | 0x704 => [all 16 2, all 20 44]
  | 0x800 | 0x806 | 0x820 => [all 24 12]
  | 0x801 => [all 18 2, all 20 44]
  | 0x802 => [all 16 1]
  | 0x803 | 0x805 => [all 16 1, all 18 2]
  | 0x804 => [all 18 2]
  | 0x810 => [all 16 1]
  | 0x811 => [all 16 1, all 20 5]
  | _ => if 0x100 ≤ n && n ≤ 0x107 then [all 16 2] else []

/-- The bits of byte `i` that the descriptor may set. -/
def usedBits (p : PortId) (b : List Byte) (i : Nat) : Nat :=
  if i < 2 ∨ (4 ≤ i ∧ i < 8) then 0xFF
  else if i = 2 then opcodeFlags (dOpcode b)
  else if i = 3 then 0x0F
  else if i < 16 then (if bit (byteAt b 2) 2 then 0xFF else 0)
  else ((argBytes p b).find? fun x => decide (x.1 ≤ i) && decide (i < x.1 + x.2.1)).elim 0 fun x => x.2.2

/-- The first byte with a reserved bit, or a flag the opcode does not take, set (R13, R298). -/
def badByte (p : PortId) (b : List Byte) : Option Nat :=
  (List.range 64).find? fun i => (List.range 8).any fun k => bit (byteAt b i) k && !bit (usedBits p b i) k

/-- What a descriptor asks for. -/
def opOf (b : List Byte) : Option Op :=
  let a := byteAt b 16
  let d := u16At b 16
  let w16 (i : Nat) : BitVec 16 := BitVec.ofNat 16 (u16At b i)
  let w32 (i : Nat) : BitVec 32 := BitVec.ofNat 32 (u32At b i)
  let w64 (i : Nat) : BitVec 64 := BitVec.ofNat 64 (u64At b i)
  let w8 (i : Nat) : Byte := BitVec.ofNat 8 (byteAt b i)
  match dOpcode b with
  | 0x001 => some .nop
  | 0x002 => some (.claim (w32 16))
  | 0x003 => some (.releaseClaims ((List.range (min 8 a)).map fun k => w32 (20 + 4 * k)))
  | 0x004 => some (.completionReplay (w32 16) (u16At b 20) (byteAt b 22))
  | 0x005 => some .heartbeat
  | 0x006 => some (.wait a (u64At b 24))
  | 0x007 => some .releaseHold
  | 0x008 => some (.serviceDrop a)
  | 0x009 => some .coreHandover
  | 0x00A => some .restWindow
  | 0x100 => some (.doorOpen d)
  | 0x101 => some (.doorClose d)
  | 0x102 => some (.doorStop d)
  | 0x103 => some (.doorEvacOpen d)
  | 0x104 => some (.doorReset d)
  | 0x105 => some (.stepRequest d)
  | 0x106 => some (.doorObstacle d)
  | 0x107 => some (.doorStatus d)
  | 0x200 => some (.axisMove a (s32At b 20))
  | 0x201 => some (.axisHalt a)
  | 0x202 => some (.axisReference a)
  | 0x203 => some (.axisSetPosition a (s32At b 20))
  | 0x204 => some (.segTableLoad a (byteAt b 17) (byteAt b 18) (s32At b 20))
  | 0x205 => some (.mstepTableLoad a)
  | 0x300 => some (.fioSet (w64 16) (w64 24))
  | 0x301 => some (.loadSet (w16 16) (w16 18))
  | 0x302 => some (.loadRearm (w16 16))
  | 0x303 => some .ioRead
  | 0x400 => some (.paramRead d (u16At b 18))
  | 0x401 => some (.paramWrite ((List.range (min 5 a)).map fun k => (u16At b (20 + 8 * k), u32At b (24 + 8 * k))))
  | 0x402 => some .paramSetLoad
  | 0x403 => some .paramSetRead
  | 0x500 => some (.timeSet (u64At b 16) (w32 24) (u32At b 28) (byteAt b 32))
  | 0x501 => some .timeRead
  | 0x502 => some (.schedCancel (w32 16))
  | 0x600 => some (.canTx a (w8 17) (u16At b 18) (w32 20) (w8 24) (w8 25) (w32 28)
      (if bit (byteAt b 17) 6 then [] else slice b 32 (min 32 (u16At b 18))))
  | 0x601 => some (.canTxAbort (w32 16))
  | 0x602 => some (.canRxRead a (byteAt b 17) (u16At b 18) (bit (byteAt b 20) 0))
  | 0x603 => some (.canRxAck (w32 16))
  | 0x604 => some (.canFilterSet a (w8 17) (w32 20) (w32 24) (w8 28) (w8 29) (w8 30) (w8 31))
  | 0x605 => some (.canStatus a)
  | 0x606 => some (.canRecover a)
  | 0x700 => some (.journalRead a (byteAt b 17) (byteAt b 18) (byteAt b 19) (u16At b 20) (u16At b 22) (u64At b 36)
      (u16At b 44))
  | 0x701 => some .journalStatus
  | 0x702 => some (.journalRetain (u64At b 24) (u32At b 32))
  | 0x703 => some .journalRelease
  | 0x704 => some (.journalNote (w16 16) (slice b 20 44))
  | 0x800 => some .updateBegin
  | 0x801 => some (.updateChunk (u16At b 18) (slice b 20 32))
  | 0x802 => some (.updateVerify a)
  | 0x803 => some (.updateActivate a (w16 18))
  | 0x804 => some (.updateConfirm (w16 18))
  | 0x805 => some (.updateAbort a (w16 18))
  | 0x806 => some .updateStatus
  | 0x810 => some (.sessionChallenge a)
  | 0x811 => some (.sessionOpen a (BitVec.ofNat 40 (leAt b 20 5)))
  | 0x812 => some .sessionClose
  | 0x820 => some .keyProvision
  | _ => none

/-- An argument out of range that no service would see (R298, step 6). -/
def State.rangeBad (s : State) (p : PortId) (b : List Byte) (op : Op) : Option Nat :=
  let door (d : Nat) : Option Nat := if (s.doorArg (partyOf p) d).isNone then some 16 else none
  let axis (a : Nat) : Option Nat := if (s.axisArg a).isNone then some 16 else none
  let buf : Option Nat := match bufferAt b with
    | some o => if !ownRings p && u32At b (o + 8) != 0 && u64At b o % 8 != 0 then some o else none
    | none => none
  match op with
  | .doorOpen d | .doorClose d | .doorStop d | .doorEvacOpen d | .doorReset d | .stepRequest d => door d
  | .axisMove a _ | .axisHalt a | .axisReference a | .axisSetPosition a _ => axis a
  | .loadSet m _ | .loadRearm m => if loadMaskBad m then some 16 else none
  | .releaseClaims _ => if 8 < byteAt b 16 then some 16 else none
  | .paramWrite _ => if byteAt b 16 = 0 ∨ 5 < byteAt b 16 then some 16 else none
  | _ => buf

/-! ### Sequence numbers and reservations (R300, R301) -/

/-- An hseq that has been consumed, or lies more than 4,095 below the highest. -/
def PortSt.duplicate (t : PortSt) (h : BitVec 32) : Bool :=
  t.hseqAny && (t.hseqSeen.contains h || decide (h.toNat + 4095 < t.hseqConsumed.toNat))

def PortSt.consume (t : PortSt) (h : BitVec 32) : PortSt :=
  let top := if t.hseqAny then max t.hseqConsumed.toNat h.toNat else h.toNat
  { t with
    hseqAny := true, hseqConsumed := BitVec.ofNat 32 top,
    hseqSeen := (h :: t.hseqSeen).filter fun x => decide (top ≤ x.toNat + 4095) }

def PortSt.reserve (t : PortSt) (own : Bool) (q : Fin 16) : PortSt :=
  if t.cq[q].reserved < t.cqRoom own q then
    { t with cq := updV t.cq q fun r => { r with reserved := r.reserved + 1 } }
  else { t with laybyReserved := t.laybyReserved + 1 }

/-- The completion ring a descriptor gets: the one it names where it is enabled, else ring 0. -/
def PortSt.ringFor (t : PortSt) (own : Bool) (b : List Byte) : Fin 16 :=
  if own then 0 else match asFin 16 (byteAt b 3 % 16) with
    | some q => if t.cq[q].enabled then q else 0
    | none => 0

/-! ### The checks at fetch (R298, R370, R417) -/

/-- The first status that applies, with its detail. -/
def State.fetchRefusal (s : State) (p : PortId) (core : CoreId) (b : List Byte) : Option (Byte × Nat) :=
  let n := dOpcode b
  let t := s.ports[p]
  let own := ownRings p
  match opcodePorts n, opOf b with
  | some ports, some op =>
    if !bit ports p.val then some (ST_PORT, portNum p)
    else if p == 3 && s.update.session[core].level < opcodeLevel n then some (ST_SESSION, opcodeLevel n)
    else if p == 3 && core != s.activeCore && !standbyAnswers n then some (ST_STATE, 0xFF)
    else match badByte p b with
      | some i => some (ST_BAD_FIELD, i)
      | none =>
        if (if own then byteAt b 3 != 0 else !((asFin 16 (byteAt b 3)).any fun q => t.cq[q].enabled)) then
          some (ST_BAD_FIELD, 3)
        else if t.duplicate (BitVec.ofNat 32 (u32At b 4)) then some (ST_DUPLICATE, u32At b 4)
        else (s.rangeBad p b op).map fun i => (ST_RANGE, argOff i)
  | _, _ => some (ST_BAD_OPCODE, n)

/-- The request a descriptor becomes. -/
def State.reqOf (s : State) (p : PortId) (q : Fin 16) (core : CoreId) (b : List Byte) (buf : Option (List Byte))
    (stamp : Option (BitVec 48)) : Req :=
  { party := partyOf p, hseq := BitVec.ofNat 32 (u32At b 4), sq := BitVec.ofNat 4 q.val,
    cq := BitVec.ofNat 4 (s.ports[p].ringFor (ownRings p) b).val, core := core,
    partialOk := bit (byteAt b 2) 0, zsVouched := bit (byteAt b 2) 1, noIrq := bit (byteAt b 2) 4,
    buf := if (bufferAt b).isSome then buf else none, bufLen := (bufferAt b).elim 0 fun o => u32At b (o + 8),
    stamp := stamp }

/-- A descriptor that passed its checks: held until its time (R370), placed before the resolver, or carried out. -/
def State.passOn (s : State) (p : PortId) (r : Req) (op : Op) (b : List Byte) : State :=
  let atTime := bit (byteAt b 2) 2
  let needLocked := bit (byteAt b 2) 3
  if atTime || needLocked then
    match s.schedCheck p atTime needLocked (u64At b 8) with
    | some (st, detail, reason) =>
      let s1 := s.fail r (opCode op) st detail
      if reason = 0 then s1 else s1.raise Ev.TM_SCHED_REFUSED [.u8 (portNum p), .u32 r.hseq.toNat, .u8 reason]
    | none => s.modTime fun t => { t with sched := t.sched ++
        [{ req := r, op := op, execTime := u64At b 8, needLocked := needLocked }] }
  else if (opResolved op) then s.queueReq r op
  else s.runOp r op

/-- A descriptor is fetched whole: its place is reserved, its hseq consumed unless it is a duplicate, and it is
completed or passed on (R298, R300, R301). -/
def State.takeDescriptor (s : State) (p : PortId) (q : Fin 16) (core : CoreId) (b : List Byte)
    (buf : Option (List Byte)) (stamp : Option (BitVec 48)) : State :=
  let own := ownRings p
  let hseq := BitVec.ofNat 32 (u32At b 4)
  let refusal := s.fetchRefusal p core b
  let dup : Bool := refusal.any fun x => x.1 == ST_DUPLICATE
  let r := s.reqOf p q core b buf stamp
  let s1 := s.modPort p fun t =>
    let u := t.reserve own (t.ringFor own b)
    let v := if dup then u else u.consume hseq
    { v with sqLastHseq := updV v.sqLastHseq q fun _ => hseq, statusWrites := 1 }
  match refusal with
  | some (st, detail) =>
    let s2 := s1.fail r (BitVec.ofNat 15 (dOpcode b)) st detail
    if dup then s2.raise Ev.HR_DUPLICATE [.u8 (portNum p), .u32 hseq.toNat] else s2
  | none => match opOf b with
    | some op => s1.passOn p r op b
    | none => s1

/-! ### Quota and order (R297, R300) -/

def fetchShare (p : PortId) : Nat := #v[4, 4, 1, 2][p]

def Ring.waiting (r : Ring) : Nat := if r.enabled && !r.error then (r.host + r.size - r.dev) % r.size else 0

/-- Descriptors that wait on a port. -/
def State.waitingOn (s : State) (p : PortId) : Nat :=
  let t := s.ports[p]
  if p == 2 then s.can.p2Queue.length
  else if p == 3 then s.update.p4Queue.length
  else if t.running && !t.fetchStopped then t.sq.foldl (fun n r => n + r.waiting) 0 else 0

/-- A slot of the coming tick is free for a port: of its own share, or left over by the others, those before it
in the order P0, P1, P2, P3, P4 coming first. -/
def State.slotFree (s : State) (p : PortId) : Bool :=
  let used : PortId → Nat := fun o => s.doors.fetched[o]
  let total := used 0 + used 1 + used 2 + used 3
  let kept := ([0, 1, 2, 3] : List PortId).foldl (fun n o =>
    if o = p then n else n + (if o.val < p.val then s.waitingOn o else min (fetchShare o - used o) (s.waitingOn o))) 0
  used p < fetchShare p || decide (total + kept + Bool.nat s.panel.waiting.isSome < 12)

/-- The submission ring to be served next: high priority first, then the ring after the one last served. -/
def PortSt.nextRing (t : PortSt) : Option (Fin 16) :=
  let rings := (List.finRange 16).filter fun q => t.sq[q].waiting != 0
  let high := rings.filter fun q => t.sq[q].cfg.getLsbD 5
  let group := if high.isEmpty then rings else high
  match group.find? fun q => decide (t.rotate < q.val) with
  | some q => some q
  | none => group.head?

def State.countFetch (s : State) (p : PortId) : State :=
  s.modDoors fun x => { x with fetched := updV x.fetched p (· + 1) }

/-- No place can be reserved: the port fetches nothing (R300). -/
def State.stopFetching (s : State) (p : PortId) (stop : Bool) : State :=
  (s.modPort p fun t => { t with fetchStopped := stop }).noteLayby p

/-- DESCRIPTOR_FETCH from a host port: the ring's next entry as read from host memory, or a failed read. -/
def State.hostFetch (s : State) (p : PortId) (q : Fin 16) (desc buf : Option (List Byte)) : State :=
  let t := s.ports[p]
  if !t.running || t.nextRing != some q || !s.slotFree p then s
  else match desc with
  | none => (s.modPort p fun t => { t with sq := updV t.sq q fun r => r.stop 3 }).raise Ev.HR_RING_ERROR
      [.u8 p.val, .u8 (ringErrorNo 0 q.val), .u8 3]
  | some b =>
    if !t.canReserve false (t.ringFor false b) then s.stopFetching p true
    else
      let s1 := ((s.stopFetching p false).countFetch p).modPort p fun t => { t with
        rotate := q.val, sq := updV t.sq q fun r => { r with dev := (r.dev + 1) % r.size } }
      s1.takeDescriptor p q s.activeCore b buf none

/-- The next descriptor of P2's queue. -/
def State.p2Fetch (s : State) : State :=
  match s.can.p2Queue with
  | [] => s
  | (b, stamp) :: rest =>
    if !s.p2Up || !s.slotFree 2 then s
    else if !s.ports[(2 : PortId)].canReserve true 0 then s.stopFetching 2 true
    else (((s.stopFetching 2 false).countFetch 2).modCan fun c => { c with p2Queue := rest }).takeDescriptor 2 0
      s.activeCore b none (some stamp)

/-- The next descriptor of P4's queue; its buffer is the kind-2 data held under the tag it names (R415). -/
def State.p4Fetch (s : State) : State :=
  match s.update.p4Queue with
  | [] => s
  | (core, b) :: rest =>
    if !s.slotFree 3 then s
    else if !s.ports[(3 : PortId)].canReserve true 0 then s.stopFetching 3 true
    else
      let tag := (bufferAt b).map fun o => BitVec.ofNat 64 (u64At b o)
      let data := (tag.bind fun g => s.update.session[core].buffers.find? fun x => x.1 == g).map fun x => x.2
      let s1 := ((s.stopFetching 3 false).countFetch 3).modUpdate fun u => { u with p4Queue := rest }
      let s2 := s1.modSession core fun x => { x with
        lastUsed := s.now, buffers := x.buffers.filter fun y => some y.1 != tag }
      s2.takeDescriptor 3 0 core b data none

/-- DESCRIPTOR_FETCH. The queues of P2 and P4 lie in the frame: their next descriptor is its own. -/
def execDescriptorFetch (p : PortId) (q : Fin 16) (desc : Option (List Byte)) (buf : Option (List Byte)) (s : State) :
    Host.Outcome State Fault Refusal :=
  .next (if !s.coreReads then s
    else if p == 2 then s.p2Fetch
    else if p == 3 then s.p4Fetch
    else s.hostFetch p q desc buf)

/-- What a pass fetches from the frame's own queues, as far as slots are free. -/
def State.ownFetches (s : State) : State :=
  let s1 := s.each (List.replicate 12 ()) fun s _ => s.p2Fetch
  s1.each (List.replicate 12 ()) fun s _ => s.p4Fetch

/-! ### Writes of set-up registers -/

/-- A doorbell by its offset (Table HR-2). -/
def State.doorbellWrite (s : State) (p : HostPort) (o v : Nat) : State :=
  match asFin 16 (o % 64 / 4) with
  | some q =>
    if o % 4 ≠ 0 then s
    else if o < 0x840 then s.takeTail p q v
    else if o < 0x880 then s.takeCqHead p q v
    else if o = 0x880 then s.takeEvqHead p v
    else s
  | none => s

/-- REGISTER_WRITE: a register of the set-up window; one with a behaviour of its own has it (Tables HR-3, PW-10). -/
def execRegisterWrite (p : HostPort) (core : CoreId) (offset : BitVec 12) (v : BitVec 32) (s : State) :
    Host.Outcome State Fault Refusal :=
  let o := offset.toNat
  .next (if o = 0x008 then
      s.setUpWrite core fun s => if v.getLsbD 0 then s.enablePort p v else s.disablePort p v
    else if o = 0x030 ∨ o = 0x054 then s.setUpWrite core fun s => s.writeRingCfg p (o == 0x030) v
    else if o = 0x0C0 then s.writePwrMode p core v
    else if o = 0x0C8 then s.writeWakeCause core v
    else if 0x800 ≤ o then s.doorbell p core fun s => s.doorbellWrite p o v.toNat
    else s.setUpWrite core fun s => s.modPort (hostPort p) fun t => t.writeReg o v)

end Sys2Proof.Machine
end

