-- ==== Sys2Proof/Machine/Tick.lean ====
section
/-!
DEFINITION. TICK_PASS (R134, R66): the pass of the active core at a TICK edge, in the order of chapter 02's resolver
and chapter 03's generators: inputs, the frame's own requests, the resolver, the state machines, the stop causes, the
generators, the downlinks, and what the pass hands to the buses, the ports and the journal. The clock moves by
50 us (log 1).
-/

namespace Sys2Proof.Machine

/-! ### Inputs of the doorways (R37 to R39, R47, R49, R51, R57, R58) -/

/-- The edges of one doorway's own inputs: key, release, zero speed and push button. -/
def State.doorEdges (s : State) (d : Doorway) : State :=
  let core := s.activeCore
  let x := s.doors.door[d]
  let s1 := s.handleTick d
  let key := s1.keyActive core d
  let s2 := if key && !x.keyOn then s1.keyTurnedOn d else if !key && x.keyOn then s1.keyTurnedOff d else s1
  let rel := s2.released core d
  let s3 := if rel && !x.releaseWas then s2.releaseEdge d
    else if !rel && x.releaseWas then (s2.releaseLost d).modDoor d fun x => { x with releaseWas := false }
    else s2
  let zs := s3.zeroSpeed core
  let s4 := if x.zsWas && !zs then s3.zsLost d else s3
  let s5 := s4.modDoor d fun x => { x with zsWas := zs }
  let pressed := s5.button core d
  let s6 := s5.modDoor d fun x => { x with buttonWas := pressed }
  if pressed && !x.buttonWas then s6.buttonPressed d else s6

/-- What time brings to a doorway of TL: the dwell close, asked for once and then after a further dwell, and the
takeover of an unclaimed doorway. -/
def State.doorTimes (s : State) (d : Doorway) : State :=
  let rest := s.doors.door[d].leaf == .opened && s.leavesAtRest d
  let s1 := s.modDoor d fun x => { x with restSince := if rest then some (x.restSince.getD s.now) else none }
  let s2 := match s1.dwellDue d with
    | some t => if t ≤ s1.now then
        (s1.ask .tl (.doorClose d.val)).modDoor d fun x => { x with restSince := some s1.now } else s1
    | none => s1
  if s2.tlMayTake d && decide (s2.param 0x082 * msec ≤ s2.since s2.doors.door[d].tlFrom) then s2.tlTakes d else s2

/-- Every core evaluates its pairs; the active core reads the train's inputs and each doorway's own. -/
def State.inputTick (s : State) : State :=
  let s1 := s.each [(0 : CoreId), 1] fun s c =>
    if s.pair.core[c].present then s.each s.pairChans fun s k => s.pairTick c k else s
  let close := s1.closeTl s1.activeCore
  let s2 := if close && !s1.doors.closeTlWas then s1.closeTlEdge
    else s1.modDoors fun x => { x with closeTlWas := close }
  let evac := s2.param 0x087 != 0xFF && s2.wkActive (s2.param 0x087)
  let s3 := if evac && !s2.doors.evacWas then s2.evacEdge else s2.modDoors fun x => { x with evacWas := evac }
  (s3.each s3.enabledDoors State.doorEdges).each s3.enabledDoors State.doorTimes

/-! ### Axes (R66) -/

/-- The axes that have a generator: single axes and the lower lanes of pairs. -/
def State.generators (s : State) : List Axis := (List.finRange 4).filter fun a => s.axisOfLane a == a

/-- Limits, lanes, following watch and re-reference from this tick's readings. -/
def State.axisReadings (s : State) (a : Axis) : State :=
  ((((s.limitTick a).compareLanes a).followTick a).refTick a).laneTick a

/-- The settle time of an axis at rest has passed (R85). -/
def State.settleTick (s : State) (a : Axis) : State :=
  match s.axes[a].settleFrom with
  | some t => if s.ap a 0x16 * msec ≤ s.since t then s.standstill a else s
  | none => s

/-! ### What the pass notes in the running cycle (Table JR-2) -/

/-- Resistance of the NTC of Table AX-2 at each degree from -40 to 127 °C, rounded down, ohm. -/
def ntcOhms : List Nat :=
  [248276, 233135, 219035, 205897, 193648, 182221, 171555, 161595, 152289, 143589, 135452, 127837, 120707, 114028]
   ++ [107768, 101898, 96391, 91222, 86368, 81808, 77522, 73492, 69700, 66131, 62771, 59605, 56622, 53810]
   ++ [51156, 48653, 46290, 44058, 41949, 39956, 38072, 36289, 34602, 33006, 31494, 30061, 28704, 27417]
   ++ [26196, 25038, 23939, 22896, 21905, 20964, 20069, 19219, 18410, 17640, 16908, 16211, 15547, 14915]
   ++ [14313, 13739, 13191, 12669, 12171, 11696, 11242, 10809, 10395, 10000, 9622, 9261, 8915, 8585]
   ++ [8269, 7967, 7677, 7400, 7134, 6880, 6636, 6403, 6179, 5964, 5758, 5561, 5371, 5189]
   ++ [5014, 4846, 4685, 4530, 4381, 4238, 4101, 3968, 3841, 3719, 3601, 3487, 3378, 3273]
   ++ [3172, 3074, 2980, 2890, 2802, 2718, 2637, 2559, 2483, 2410, 2340, 2272, 2207, 2143]
   ++ [2082, 2023, 1966, 1911, 1858, 1806, 1757, 1708, 1662, 1617, 1573, 1531, 1490, 1451]
   ++ [1413, 1376, 1340, 1305, 1271, 1239, 1207, 1176, 1147, 1118, 1090, 1063, 1037, 1011]
   ++ [987, 963, 939, 917, 895, 873, 853, 833, 813, 794, 776, 758, 740, 724]
   ++ [707, 691, 676, 660, 646, 631, 617, 604, 591, 578, 565, 553, 541, 530]

/-- Motor temperature in °C, rounded down, from a reading; none where the input gives no temperature (log 17). -/
def motorCelsius (mode ohm : Nat) : Option Int :=
  if mode = 2 && tempReading mode ohm != .fault then some (((ntcOhms.filter fun r => decide (ohm ≤ r)).length : Int) - 41)
  else none

/-- Magnitude of the larger phase current of a module, mA. -/
def AxUplink.peak (u : AxUplink) : Nat := max u.iA.toInt.natAbs u.iB.toInt.natAbs

/-- One module's readings of this tick enter the record of its doorway's cycle; the currents are those of leaf axes. -/
def State.noteReadings (s : State) (d : Doorway) (leaf : Bool) (m : Axis) : State :=
  let u := s.axMods[m].uplink
  let l := s.doors.door[d].leaf
  let closing := leaf && (l == .closing || l == .locking)
  let opening := leaf && (l == .unlocking || l == .opening || l == .reopening)
  if !u.valid then s
  else s.noteCycle d fun c => { c with
    iClose := if closing then max c.iClose u.peak else c.iClose,
    iOpen := if opening then max c.iOpen u.peak else c.iOpen,
    vBusMin := min c.vBusMin u.vBus.toNat,
    tMotor := (motorCelsius (s.param (pAxMod m.val 7)) u.rTemp.toNat).elim c.tMotor fun t => max c.tMotor t }

/-- The largest following error and the force cap events of one axis. -/
def State.noteAxis (s before : State) (d : Doorway) (a : Axis) : State :=
  let capped := s.axes[a].capRaised && !before.axes[a].capRaised
  let s1 := s.noteCycle d fun c => { c with
    followMax := max c.followMax s.axes[a].watchMax, forceCaps := if capped then min 255 (c.forceCaps + 1) else c.forceCaps }
  (s1.modAxis a fun x => { x with watchMax := 0 }).each (s.modulesOf a) fun s m => s.noteReadings d (s.isLeafAxis a) m

/-- MS_PASSABLE as the clear width crosses door.d.passable_width (R54), and the record of the tick. -/
def State.doorNotes (s before : State) (d : Doorway) : State :=
  let w := s.width d
  let was := s.doors.door[d].widthWas
  let p := s.dp d 0x16
  let s1 := if was < p && p ≤ w then s.milestone d 2 1 else if p ≤ was && w < p then s.milestone d 2 0 else s
  let s2 := (s1.modDoor d fun x => { x with widthWas := w }).noteCycle d fun c => { c with
    widthMax := max c.widthMax w,
    supply := c.supply ||| (if s.supply.onStore then 1 else 0) ||| (if s.load.shedCmd then 2 else 0) }
  s2.each (s2.axesOf d) fun s a => s.noteAxis before d a

/-! ### Configuration sent to the modules (R100, R160, R180) -/

/-- A module heard in this tick by the active core. -/
def State.heard (s : State) (k : Slot) : Bool := s.frame.slots[k].uplinkMissed[s.activeCore] == 0

/-- The next value of a mismatch count: a tick without an uplink leaves it as it is. -/
def nextRun (heard matches_ : Bool) (n : Nat) : Nat := if !heard then n else if matches_ then 0 else n + 1

/-- An axis module's CRC may differ for 32 ticks (R100). -/
def State.axConfigTick (s : State) (m : Axis) : State :=
  let x := s.axMods[m]
  let k := s.frame.slots[axisSlot m]
  if !k.enable || k.heldOut.isSome then s.modAxMod m fun x => { x with mismatchRun := 0, cfgSent := 0 }
  else
    let run := nextRun x.uplink.valid (x.uplink.cfgCrc == s.axCfgCrc m) x.mismatchRun
    let s1 := s.modAxMod m fun x => { x with mismatchRun := run, cfgSent := (x.cfgSent + 1) % 8 }
    if run = 32 && x.mismatchRun ≠ 32 then s1.axMismatch m else s1

/-- A field module's applied CRC may differ for a complete cycle of 103 ticks and 32 ticks more (R160). -/
def State.fieldConfigTick (s : State) (m : Fin 2) : State :=
  let x := s.field.mods[m]
  let k := s.frame.slots[fieldSlot m]
  let view := x.views[s.activeCore]
  if !k.enable || k.heldOut.isSome then s.modFieldMod m fun x => { x with mismatchRun := 0, cfgSent := 0 }
  else
    let run := nextRun view.fresh (view.cfgCrc == s.fioCrc m.val) x.mismatchRun
    let s1 := s.modFieldMod m fun x => { x with mismatchRun := run, cfgSent := (x.cfgSent + 1) % 103 }
    if run = 135 && x.mismatchRun ≠ 135 then s1.fieldMismatch m else s1

/-- The load module's for 13 ticks and 32 more (R180). -/
def State.loadConfigTick (s : State) : State :=
  let x := s.load
  let k := s.frame.slots[l0Slot]
  if !k.enable || k.heldOut.isSome then s.modLoads fun x => { x with mismatchRun := 0, cfgSent := 0 }
  else
    let run := nextRun (s.heard l0Slot) (x.repCrc == s.loadCfgCrc) x.mismatchRun
    let s1 := s.modLoads fun x => { x with mismatchRun := run, cfgSent := (x.cfgSent + 1) % 13 }
    if run = 45 && x.mismatchRun ≠ 45 then s1.loadMismatch else s1

def State.configTick (s : State) : State :=
  (((s.each (List.finRange 4) State.axConfigTick).fieldConfigTick 0).fieldConfigTick 1).loadConfigTick

/-! ### Power states (R239 to R244, R254) -/

/-- An entry step that runs ends (Table PW-3). -/
def State.entryTick (s : State) : State :=
  match s.power.entry with
  | some .n2 => if s.journalEmpty then s.endEntryStep else s
  | some .n3 => if s.holdReported then s.endEntryStep else s
  | some .n4 => if s.param 0x4D6 * msec ≤ s.since s.power.entryFrom then s.endEntryStep else s
  | some .n5 => if 2 * msec ≤ s.since s.power.entryFrom then s.endEntryStep else s
  | _ => s

/-- The hold that RUN was reached with is released in time (R254). -/
def State.holdTick (s : State) : State :=
  match s.power.holdFrom with
  | some t =>
    if s.param 0x4D5 != 0 && s.power.hold && decide (s.param 0x4D5 * msec ≤ s.since t) then s.releaseHold 0xFF else s
  | none => s

/-- The modules return from an aborted entry (R244). -/
def State.returnTick (s : State) : State :=
  match s.power.wake with
  | some k => if k.abort && decide (k.due ≤ s.now) then s.wakeRow k true else s
  | none => s

/-- Consents, the start of an entry, its steps and its abort. The consent of a port that is down is gone. -/
def State.powerTick (s : State) : State :=
  let s1 := s.each s.power.waits fun s w => match portOf w.req.party with
    | some p => if s.ports[p].up then s else s.consentGone w.req.party
    | none => s
  let s2 := if s1.supply.onStore then s1.abortEntry 4 else s1
  let s3 := (s2.tlIdleTick.noteConsent .tl)
  let running := s3.power.entry.isSome
  let s4 := if running then s3.entryTick else s3.tryEntry
  s4.holdTick.returnTick

/-! ### What the pass hands over -/

/-- One port: its lay-by, the report of dropped events, and the writes of its status block. -/
def State.portTick (s : State) (p : PortId) : State :=
  ((s.drainLayby p).reportDropped p).modPort p fun t => { t with
    writeCount := t.writeCount + BitVec.ofNat 32 t.statusWrites, statusWrites := 0 }

def State.portsTick (s : State) : State :=
  ((s.each [(0 : PortId), 1, 2, 3] State.portTick).msixTick 0).msixTick 1

/-- The end of each second of the frame's clock: bus errors (R318) and notes (R393). -/
def State.secondTick (s : State) : State :=
  if (s.now + tickNs) / sec = s.now / sec then s else ((s.errorSecond .d).errorSecond .t).notesSecond

/-- The active core and a standby refresh their charge pumps while they run (R270). -/
def State.pumpTick (s : State) : State :=
  s.each [(0 : CoreId), 1] fun s c =>
    if s.pair.core[c].present then s.modCore c fun x => { x with pumpAt := s.now } else s

/-- What belongs to one tick alone is cleared as it ends. -/
def State.clearTick (s : State) : State :=
  { s with
    axMods := s.axMods.map fun x => { x with uplink := { x.uplink with valid := false } },
    field := { s.field with mods := s.field.mods.map fun x => { x with
      views := x.views.map fun v => { v with fresh := false } } },
    doors := { s.doors with
      door := s.doors.door.map fun x => { x with moved := false }, fetched := .replicate 4 0 },
    obst := s.obst.map fun o => { o with raised := none, stepRaised := false } }

/-- The end of a pass: the counts of missing uplinks, and the clock. -/
def State.endTick (s : State) : State := s.clearTick.countUplinks.pass tickNs

/-! ### The pass -/

/-- Modules at the edge, links, pair, time, panel and inputs. -/
def State.passInputs (s : State) : State :=
  ((((s.edge.linksTick).linkSecond).pairStepTick.timeTick).panelTick).inputTick

/-- The doorways' sources, the axes' readings, the requests, and the machines (R40, R44, R61, R66). -/
def State.passMachines (s : State) : State :=
  let s1 := s.each s.enabledDoors State.obstacleTick
  let s2 := s1.each s1.generators State.axisReadings
  let s3 := s2.ownFetches.resolve
  s3.each s3.enabledDoors State.runDoor

/-- Stop causes and generators (R66, R231), with what they leave in the records. -/
def State.passMotion (s : State) : State :=
  let s1 := s.abortTick
  let s2 := (s1.each s1.generators State.motionTick).each s1.generators State.settleTick
  s2.each s2.enabledDoors fun t d => t.doorNotes s d

/-- The downlinks of the other modules, supply and store, and the loop (R55, R56). -/
def State.passUnits (s : State) : State :=
  let s1 := ((s.fieldCoreTick 0).fieldCoreTick 1).loadCoreTick
  let s2 := ((s1.supplyCommands.energyTick).lossActionTick).lossTick
  ((s2.loopTick 0).loopTick 1).disagreeTick

/-- Slots, updates and the tiers. -/
def State.passFrame (s : State) : State :=
  ((((s.insertTick.removalTick).configTick).updateTick).sessionTick).judgeTiers 0xFF

/-- The core pair, power states, buses, panel window, journal, lamps and ports. -/
def State.passOutputs (s : State) : State :=
  let s1 := (s.crossTick.handoverTick).pumpTick.powerTick
  let s2 := ((s1.canTick.secondTick).swapWindow).waitingTick
  ((s2.usbTick.lampTick).journalTick).portsTick

/-- The pass in RUN. -/
def State.runPass (s : State) : State :=
  ((((s.passInputs.passMachines).passMotion).passUnits).passFrame).passOutputs

/-- The pass of service-only operation (R207): the sequences, axes and loads rest. -/
def State.servicePass (s : State) : State :=
  let s1 := (((s.edge.linksTick).linkSecond).timeTick).panelTick
  let s2 := (s1.ownFetches.resolve).sessionTick
  (((s2.swapWindow.waitingTick).usbTick).journalTick).portsTick

/-- The pass while a start runs: the modules enter service. RUN follows in its time (R198, R200). -/
def State.startPass (s : State) (k : WakeSt) : State :=
  let s1 := (((s.edge.linksTick).linkSecond).insertTick).configTick
  let s2 := ((s1.sessionTick.lampTick).swapWindow).journalTick
  if k.due ≤ s2.now then s2.finishStart k else s2

/-- TICK_PASS: a core drives TICK in RUN, in service-only operation and while a start runs; without TICK there is no
pass (R238, R429). -/
def execTickPass (s : State) : Host.Outcome State Fault Refusal :=
  .next (if !s.anyActive then s
    else if s.supply.serviceOnly then s.servicePass.endTick
    else match s.power.wake with
      | some k =>
        if k.start ≠ 0 then (s.startPass k).endTick
        else if s.power.state == .run then s.runPass.endTick else s
      | none => if s.power.state == .run && s.power.entry != some .n6 then s.runPass.endTick else s)

end Sys2Proof.Machine
end

