-- ==== Sys2Proof/Machine/Dispatch.lean ====
section
/-!
DEFINITION. The dispatch of the commands: one arm per command, each one call of its meaning.
-/

namespace Sys2Proof.Machine

/-- The effect of a command on everything but the queue. -/
def exec (i : Instr) (s : State) : Host.Outcome State Fault Refusal :=
  match i with
  | .tickPass => Sys2Proof.Machine.execTickPass s
  | .downlinkFrame slot core frame => Sys2Proof.Machine.execDownlinkFrame slot core frame s
  | .missedTick slot twoActive => Sys2Proof.Machine.execMissedTick slot twoActive s
  | .uplinkFrame slot core frame => Sys2Proof.Machine.execUplinkFrame slot core frame s
  | .linkLost slot core => Sys2Proof.Machine.execLinkLost slot core s
  | .presAsserted slot sid sidp => Sys2Proof.Machine.execPresAsserted slot sid sidp s
  | .presenceDebounceDone slot => Sys2Proof.Machine.execPresenceDebounceDone slot s
  | .identityData slot block lowRail => Sys2Proof.Machine.execIdentityData slot block lowRail s
  | .identityTimeout slot => Sys2Proof.Machine.execIdentityTimeout slot s
  | .moduleInService slot => Sys2Proof.Machine.execModuleInService slot s
  | .removeRequest slot => Sys2Proof.Machine.execRemoveRequest slot s
  | .removeGateMet slot => Sys2Proof.Machine.execRemoveGateMet slot s
  | .latchReopenConfirm slot => Sys2Proof.Machine.execLatchReopenConfirm slot s
  | .opServiceDrop r slot => Sys2Proof.Machine.execOpServiceDrop r slot s
  | .hostGraceExpired slot => Sys2Proof.Machine.execHostGraceExpired slot s
  | .removalComplete slot => Sys2Proof.Machine.execRemovalComplete slot s
  | .removeCancelled slot => Sys2Proof.Machine.execRemoveCancelled slot s
  | .moduleRemoved slot => Sys2Proof.Machine.execModuleRemoved slot s
  | .unannouncedPull slot => Sys2Proof.Machine.execUnannouncedPull slot s
  | .latchFault slot => Sys2Proof.Machine.execLatchFault slot s
  | .safe2Discrepancy core c => Sys2Proof.Machine.execSafe2Discrepancy core c s
  | .safe2Cleared core c => Sys2Proof.Machine.execSafe2Cleared core c s
  | .unlockTimeout d => Sys2Proof.Machine.execUnlockTimeout d s
  | .openTimeout d => Sys2Proof.Machine.execOpenTimeout d s
  | .closeTimeout d => Sys2Proof.Machine.execCloseTimeout d s
  | .lockTimeout d => Sys2Proof.Machine.execLockTimeout d s
  | .stepTimeout d => Sys2Proof.Machine.execStepTimeout d s
  | .warnTimeExpired d => Sys2Proof.Machine.execWarnTimeExpired d s
  | .dwellClose d => Sys2Proof.Machine.execDwellClose d s
  | .reopenPauseExpired d => Sys2Proof.Machine.execReopenPauseExpired d s
  | .emergencyHandle d => Sys2Proof.Machine.execEmergencyHandle d s
  | .handleResetAllowed d => Sys2Proof.Machine.execHandleResetAllowed d s
  | .isolationKeyOn d => Sys2Proof.Machine.execIsolationKeyOn d s
  | .isolationKeyOff d => Sys2Proof.Machine.execIsolationKeyOff d s
  | .proofLost d => Sys2Proof.Machine.execProofLost d s
  | .releaseLost d => Sys2Proof.Machine.execReleaseLost d s
  | .zsLostOpen d => Sys2Proof.Machine.execZsLostOpen d s
  | .releaseEdge d => Sys2Proof.Machine.execReleaseEdge d s
  | .pushbuttonPress d => Sys2Proof.Machine.execPushbuttonPress d s
  | .closeTrainlineEdge => Sys2Proof.Machine.execCloseTrainlineEdge s
  | .evacuationInput => Sys2Proof.Machine.execEvacuationInput s
  | .loopCloseDelay core => Sys2Proof.Machine.execLoopCloseDelay core s
  | .loopDisagreement => Sys2Proof.Machine.execLoopDisagreement s
  | .tlTakeover d => Sys2Proof.Machine.execTlTakeover d s
  | .p2Timeout => Sys2Proof.Machine.execP2Timeout s
  | .pcieLinkChange p core isUp gen => Sys2Proof.Machine.execPcieLinkChange p core isUp gen s
  | .opDoorOpen r d => Sys2Proof.Machine.execOpDoorOpen r d s
  | .opDoorClose r d => Sys2Proof.Machine.execOpDoorClose r d s
  | .opDoorStop r d => Sys2Proof.Machine.execOpDoorStop r d s
  | .opDoorEvacOpen r d => Sys2Proof.Machine.execOpDoorEvacOpen r d s
  | .opDoorReset r d => Sys2Proof.Machine.execOpDoorReset r d s
  | .opStepRequest r d => Sys2Proof.Machine.execOpStepRequest r d s
  | .opDoorObstacle r d => Sys2Proof.Machine.execOpDoorObstacle r d s
  | .opDoorStatus r d => Sys2Proof.Machine.execOpDoorStatus r d s
  | .opClaim r code => Sys2Proof.Machine.execOpClaim r code s
  | .opReleaseClaims r codes => Sys2Proof.Machine.execOpReleaseClaims r codes s
  | .moveEnd a => Sys2Proof.Machine.execMoveEnd a s
  | .standstillSettle a => Sys2Proof.Machine.execStandstillSettle a s
  | .wakeRampEnd a => Sys2Proof.Machine.execWakeRampEnd a s
  | .limitReached a b => Sys2Proof.Machine.execLimitReached a b s
  | .opAxisMove r a pos => Sys2Proof.Machine.execOpAxisMove r a pos s
  | .opAxisHalt r a => Sys2Proof.Machine.execOpAxisHalt r a s
  | .opAxisReference r a => Sys2Proof.Machine.execOpAxisReference r a s
  | .opAxisSetPosition r a pos => Sys2Proof.Machine.execOpAxisSetPosition r a pos s
  | .opSegTableLoad r a number count x0 => Sys2Proof.Machine.execOpSegTableLoad r a number count x0 s
  | .opMstepTableLoad r a => Sys2Proof.Machine.execOpMstepTableLoad r a s
  | .refSwitchMet a => Sys2Proof.Machine.execRefSwitchMet a s
  | .refLatch a latchCount => Sys2Proof.Machine.execRefLatch a latchCount s
  | .refSearchFail a => Sys2Proof.Machine.execRefSearchFail a s
  | .refLatchFail a => Sys2Proof.Machine.execRefLatchFail a s
  | .encDirection a => Sys2Proof.Machine.execEncDirection a s
  | .refLockTimeout a => Sys2Proof.Machine.execRefLockTimeout a s
  | .overcurrentTrip m phaseB => Sys2Proof.Machine.execOvercurrentTrip m phaseB s
  | .peakLimit m => Sys2Proof.Machine.execPeakLimit m s
  | .busRangeFault m mV => Sys2Proof.Machine.execBusRangeFault m mV s
  | .busRangeClear m => Sys2Proof.Machine.execBusRangeClear m s
  | .encFault m reason => Sys2Proof.Machine.execEncFault m reason s
  | .motorTemp m ohm => Sys2Proof.Machine.execMotorTemp m ohm s
  | .heatsink m celsius => Sys2Proof.Machine.execHeatsink m celsius s
  | .resistanceCheck m phase => Sys2Proof.Machine.execResistanceCheck m phase s
  | .axConfigMismatch m => Sys2Proof.Machine.execAxConfigMismatch m s
  | .lossState m => Sys2Proof.Machine.execLossState m s
  | .following a => Sys2Proof.Machine.execFollowing a s
  | .laneLost m => Sys2Proof.Machine.execLaneLost m s
  | .laneLeft m => Sys2Proof.Machine.execLaneLeft m s
  | .laneRejoin m => Sys2Proof.Machine.execLaneRejoin m s
  | .twinJoined m => Sys2Proof.Machine.execTwinJoined m s
  | .laneDisagree a encoders difference => Sys2Proof.Machine.execLaneDisagree a encoders difference s
  | .obObstacle d src sampleToTick => Sys2Proof.Machine.execObObstacle d src sampleToTick s
  | .edgeFault d edge fault => Sys2Proof.Machine.execEdgeFault d edge fault s
  | .edgeCleared d edge => Sys2Proof.Machine.execEdgeCleared d edge s
  | .gridFault d fault => Sys2Proof.Machine.execGridFault d fault s
  | .stepObstacle d following => Sys2Proof.Machine.execStepObstacle d following s
  | .relayWeld core relay => Sys2Proof.Machine.execRelayWeld core relay s
  | .journalGapRecord => Sys2Proof.Machine.execJournalGapRecord s
  | .groupSupplyChange g deciVolt => Sys2Proof.Machine.execGroupSupplyChange g deciVolt s
  | .filterConfirm c active => Sys2Proof.Machine.execFilterConfirm c active s
  | .inputFault c kind data => Sys2Proof.Machine.execInputFault c kind data s
  | .inputFaultClear c => Sys2Proof.Machine.execInputFaultClear c s
  | .bandResolve c data => Sys2Proof.Machine.execBandResolve c data s
  | .bandHold c data => Sys2Proof.Machine.execBandHold c data s
  | .outOverload c => Sys2Proof.Machine.execOutOverload c s
  | .outOvertemp c => Sys2Proof.Machine.execOutOvertemp c s
  | .outOpenOn c mA => Sys2Proof.Machine.execOutOpenOn c mA s
  | .outOpenOff c deciVolt => Sys2Proof.Machine.execOutOpenOff c deciVolt s
  | .outShortSupply c deciVolt => Sys2Proof.Machine.execOutShortSupply c deciVolt s
  | .rearmDue load c => Sys2Proof.Machine.execRearmDue load c s
  | .parallelFault c member mA => Sys2Proof.Machine.execParallelFault c member mA s
  | .barrierFrame m good => Sys2Proof.Machine.execBarrierFrame m good s
  | .barrierCmdFrame m good => Sys2Proof.Machine.execBarrierCmdFrame m good s
  | .fiSafeState m barrier => Sys2Proof.Machine.execFiSafeState m barrier s
  | .fiConfigApply m => Sys2Proof.Machine.execFiConfigApply m s
  | .fiConfigMismatch m => Sys2Proof.Machine.execFiConfigMismatch m s
  | .loadSupplyChange deciVolt => Sys2Proof.Machine.execLoadSupplyChange deciVolt s
  | .lsOverload c why => Sys2Proof.Machine.execLsOverload c why s
  | .inrushWindowEnd c inLimit => Sys2Proof.Machine.execInrushWindowEnd c inLimit s
  | .wireModelUpdate mA => Sys2Proof.Machine.execWireModelUpdate mA s
  | .lsOvertemp c celsius => Sys2Proof.Machine.execLsOvertemp c celsius s
  | .clampPulse c mJ avg => Sys2Proof.Machine.execClampPulse c mJ avg s
  | .clampHoldEnd c avg => Sys2Proof.Machine.execClampHoldEnd c avg s
  | .lsOpenOn c mA => Sys2Proof.Machine.execLsOpenOn c mA s
  | .lsOpenOff c deciVolt => Sys2Proof.Machine.execLsOpenOff c deciVolt s
  | .lsShortSupply c deciVolt => Sys2Proof.Machine.execLsShortSupply c deciVolt s
  | .opLoadSet r mask state => Sys2Proof.Machine.execOpLoadSet r mask state s
  | .opLoadRearm r mask => Sys2Proof.Machine.execOpLoadRearm r mask s
  | .lsSafeState => Sys2Proof.Machine.execLsSafeState s
  | .lsConfigApply => Sys2Proof.Machine.execLsConfigApply s
  | .lsConfigMismatch => Sys2Proof.Machine.execLsConfigMismatch s
  | .ls24OvervoltSwitch deciVolt => Sys2Proof.Machine.execLs24OvervoltSwitch deciVolt s
  | .lsDiagCleared c => Sys2Proof.Machine.execLsDiagCleared c s
  | .powerModuleEnergised p deciVolt => Sys2Proof.Machine.execPowerModuleEnergised p deciVolt s
  | .feedCrossing p deciVolt => Sys2Proof.Machine.execFeedCrossing p deciVolt s
  | .feedQualified p => Sys2Proof.Machine.execFeedQualified p s
  | .feedInterruptEnd p => Sys2Proof.Machine.execFeedInterruptEnd p s
  | .shareFault share0 share1 => Sys2Proof.Machine.execShareFault share0 share1 s
  | .suOverload p pOut rail => Sys2Proof.Machine.execSuOverload p pOut rail s
  | .lossRideExpired => Sys2Proof.Machine.execLossRideExpired s
  | .shutdownStepEnd => Sys2Proof.Machine.execShutdownStepEnd s
  | .shutdownCap => Sys2Proof.Machine.execShutdownCap s
  | .hostHoldExpired => Sys2Proof.Machine.execHostHoldExpired s
  | .fastRestart => Sys2Proof.Machine.execFastRestart s
  | .fullStart => Sys2Proof.Machine.execFullStart s
  | .svcAttach core pd offers typeC => Sys2Proof.Machine.execSvcAttach core pd offers typeC s
  | .svcTransitionAccept core volts => Sys2Proof.Machine.execSvcTransitionAccept core volts s
  | .svcPsRdy core => Sys2Proof.Machine.execSvcPsRdy core s
  | .svcLoadsReturn core => Sys2Proof.Machine.execSvcLoadsReturn core s
  | .svcBrownout core => Sys2Proof.Machine.execSvcBrownout core s
  | .svcDetach core => Sys2Proof.Machine.execSvcDetach core s
  | .pdHardReset core => Sys2Proof.Machine.execPdHardReset core s
  | .cellFault cell kind value => Sys2Proof.Machine.execCellFault cell kind value s
  | .cellTemp cell celsius => Sys2Proof.Machine.execCellTemp cell celsius s
  | .boostLimit budget => Sys2Proof.Machine.execBoostLimit budget s
  | .emLossTimeout => Sys2Proof.Machine.execEmLossTimeout s
  | .reserveFloor => Sys2Proof.Machine.execReserveFloor s
  | .lastAction => Sys2Proof.Machine.execLastAction s
  | .restWindowStart => Sys2Proof.Machine.execRestWindowStart s
  | .restWindowDone c esr => Sys2Proof.Machine.execRestWindowDone c esr s
  | .windowAborted cause => Sys2Proof.Machine.execWindowAborted cause s
  | .estFitAfter => Sys2Proof.Machine.execEstFitAfter s
  | .estStaleAfter => Sys2Proof.Machine.execEstStaleAfter s
  | .restWanted => Sys2Proof.Machine.execRestWanted s
  | .opRestWindow r => Sys2Proof.Machine.execOpRestWindow r s
  | .boostCutoff => Sys2Proof.Machine.execBoostCutoff s
  | .opWait r target alarm => Sys2Proof.Machine.execOpWait r target alarm s
  | .pwrModeConsent p core v => Sys2Proof.Machine.execPwrModeConsent p core v s
  | .pwrWakeCauseClear p core v => Sys2Proof.Machine.execPwrWakeCauseClear p core v s
  | .tlConsent => Sys2Proof.Machine.execTlConsent s
  | .entryStepEnd => Sys2Proof.Machine.execEntryStepEnd s
  | .entryAborted cause => Sys2Proof.Machine.execEntryAborted cause s
  | .entryWindowEnd wk => Sys2Proof.Machine.execEntryWindowEnd wk s
  | .wakeEvent causes retentionFailed slept => Sys2Proof.Machine.execWakeEvent causes retentionFailed slept s
  | .wakeFrame f slept => Sys2Proof.Machine.execWakeFrame f slept s
  | .wakeTimetableRow ready => Sys2Proof.Machine.execWakeTimetableRow ready s
  | .wakeFailRepeat => Sys2Proof.Machine.execWakeFailRepeat s
  | .opReleaseHold r => Sys2Proof.Machine.execOpReleaseHold r s
  | .holdAutoRelease => Sys2Proof.Machine.execHoldAutoRelease s
  | .listenTimeout core => Sys2Proof.Machine.execListenTimeout core s
  | .dualActive how => Sys2Proof.Machine.execDualActive how s
  | .mirrorFrame frame => Sys2Proof.Machine.execMirrorFrame frame s
  | .returnFrame frame => Sys2Proof.Machine.execReturnFrame frame s
  | .standbyAckLost => Sys2Proof.Machine.execStandbyAckLost s
  | .standbyInStep => Sys2Proof.Machine.execStandbyInStep s
  | .coreFault core cause => Sys2Proof.Machine.execCoreFault core cause s
  | .chargePumpExpired core => Sys2Proof.Machine.execChargePumpExpired core s
  | .takeover => Sys2Proof.Machine.execTakeover s
  | .tickFault => Sys2Proof.Machine.execTickFault s
  | .mirrorLost => Sys2Proof.Machine.execMirrorLost s
  | .plannedHandover acknowledged => Sys2Proof.Machine.execPlannedHandover acknowledged s
  | .coverageHandover => Sys2Proof.Machine.execCoverageHandover s
  | .opCoreHandover r => Sys2Proof.Machine.execOpCoreHandover r s
  | .catchupDone => Sys2Proof.Machine.execCatchupDone s
  | .coreRestart core => Sys2Proof.Machine.execCoreRestart core s
  | .hostLinkGrace => Sys2Proof.Machine.execHostLinkGrace s
  | .hostPowerTrip p mA => Sys2Proof.Machine.execHostPowerTrip p mA s
  | .sqTailDoorbell p core q t => Sys2Proof.Machine.execSqTailDoorbell p core q t s
  | .cqHeadDoorbell p core q h => Sys2Proof.Machine.execCqHeadDoorbell p core q h s
  | .evqHeadDoorbell p core h => Sys2Proof.Machine.execEvqHeadDoorbell p core h s
  | .shadowPoll p area => Sys2Proof.Machine.execShadowPoll p area s
  | .ringCfgWrite p core evq v => Sys2Proof.Machine.execRingCfgWrite p core evq v s
  | .portEnable p core v => Sys2Proof.Machine.execPortEnable p core v s
  | .portDisable p core v => Sys2Proof.Machine.execPortDisable p core v s
  | .registerWrite p core offset v => Sys2Proof.Machine.execRegisterWrite p core offset v s
  | .descriptorFetch p q desc buf => Sys2Proof.Machine.execDescriptorFetch p q desc buf s
  | .laybyDrain p => Sys2Proof.Machine.execLaybyDrain p s
  | .eventsDroppedReport p => Sys2Proof.Machine.execEventsDroppedReport p s
  | .opCompletionReplay r first count ring => Sys2Proof.Machine.execOpCompletionReplay r first count ring s
  | .msixMessage p ring => Sys2Proof.Machine.execMsixMessage p ring s
  | .dmaError p kind => Sys2Proof.Machine.execDmaError p kind s
  | .opNop r => Sys2Proof.Machine.execOpNop r s
  | .opHeartbeat r => Sys2Proof.Machine.execOpHeartbeat r s
  | .opParamRead r first count => Sys2Proof.Machine.execOpParamRead r first count s
  | .opParamWrite r entries => Sys2Proof.Machine.execOpParamWrite r entries s
  | .opParamSetLoad r => Sys2Proof.Machine.execOpParamSetLoad r s
  | .opParamSetRead r => Sys2Proof.Machine.execOpParamSetRead r s
  | .opIoRead r => Sys2Proof.Machine.execOpIoRead r s
  | .opFioSet r mask state => Sys2Proof.Machine.execOpFioSet r mask state s
  | .canFrameReceived bus f => Sys2Proof.Machine.execCanFrameReceived bus f s
  | .protocolException bus => Sys2Proof.Machine.execProtocolException bus s
  | .busStateChange core bus new tec rec => Sys2Proof.Machine.execBusStateChange core bus new tec rec s
  | .mbErrorRate bus => Sys2Proof.Machine.execMbErrorRate bus s
  | .busoffDelayExpired bus => Sys2Proof.Machine.execBusoffDelayExpired bus s
  | .rateCandidateTimeout bus => Sys2Proof.Machine.execRateCandidateTimeout bus s
  | .rateFail bus => Sys2Proof.Machine.execRateFail bus s
  | .opCanTx r bus fmt len id sdt vcid af data => Sys2Proof.Machine.execOpCanTx r bus fmt len id sdt vcid af data s
  | .canTxDone bus index stamp delay => Sys2Proof.Machine.execCanTxDone bus index stamp delay s
  | .opCanTxAbort r hseq => Sys2Proof.Machine.execOpCanTxAbort r hseq s
  | .opCanRxRead r max min wait fromOldest => Sys2Proof.Machine.execOpCanRxRead r max min wait fromOldest s
  | .rxReadWaitExpired p => Sys2Proof.Machine.execRxReadWaitExpired p s
  | .opCanRxAck r rseq => Sys2Proof.Machine.execOpCanRxAck r rseq s
  | .rxDroppedReport p => Sys2Proof.Machine.execRxDroppedReport p s
  | .opCanFilterSet r index bits id mask sdt sdtMask vcid vcidMask => Sys2Proof.Machine.execOpCanFilterSet r index bits id mask sdt sdtMask vcid vcidMask s
  | .opCanStatus r bus => Sys2Proof.Machine.execOpCanStatus r bus s
  | .opCanRecover r bus => Sys2Proof.Machine.execOpCanRecover r bus s
  | .p2DescriptorFrame id xl stamp data => Sys2Proof.Machine.execP2DescriptorFrame id xl stamp data s
  | .p2StatusPeriod => Sys2Proof.Machine.execP2StatusPeriod s
  | .fallbackHeartbeat => Sys2Proof.Machine.execFallbackHeartbeat s
  | .doorCmd id data => Sys2Proof.Machine.execDoorCmd id data s
  | .statusReq id data => Sys2Proof.Machine.execStatusReq id data s
  | .canBusError bus index kind tec rec => Sys2Proof.Machine.execCanBusError bus index kind tec rec s
  | .panelAddrPoll pins => Sys2Proof.Machine.execPanelAddrPoll pins s
  | .panelWriteTransfer bytes => Sys2Proof.Machine.execPanelWriteTransfer bytes s
  | .panelReadTransfer count stop => Sys2Proof.Machine.execPanelReadTransfer count stop s
  | .accessReq d => Sys2Proof.Machine.execAccessReq d s
  | .panelObstacle d => Sys2Proof.Machine.execPanelObstacle d s
  | .intercomInd d state => Sys2Proof.Machine.execIntercomInd d state s
  | .intercomBlink d => Sys2Proof.Machine.execIntercomBlink d s
  | .stretchLimit cmd => Sys2Proof.Machine.execStretchLimit cmd s
  | .pbBusTimeout => Sys2Proof.Machine.execPbBusTimeout s
  | .pbBusStuck lines => Sys2Proof.Machine.execPbBusStuck lines s
  | .pbBusFree => Sys2Proof.Machine.execPbBusFree s
  | .panelRequest => Sys2Proof.Machine.execPanelRequest s
  | .requestCollision => Sys2Proof.Machine.execRequestCollision s
  | .timeFrame stamp data => Sys2Proof.Machine.execTimeFrame stamp data s
  | .tpiEdge stamp width => Sys2Proof.Machine.execTpiEdge stamp width s
  | .sourceLoss src => Sys2Proof.Machine.execSourceLoss src s
  | .hostRefreshExpired => Sys2Proof.Machine.execHostRefreshExpired s
  | .opTimeSet r tai tick err taiUtc => Sys2Proof.Machine.execOpTimeSet r tai tick err taiUtc s
  | .offsetMeasure => Sys2Proof.Machine.execOffsetMeasure s
  | .timeStep => Sys2Proof.Machine.execTimeStep s
  | .tpoPulse => Sys2Proof.Machine.execTpoPulse s
  | .schedExec p hseq => Sys2Proof.Machine.execSchedExec p hseq s
  | .opSchedCancel r hseq => Sys2Proof.Machine.execOpSchedCancel r hseq s
  | .opTimeRead r => Sys2Proof.Machine.execOpTimeRead r s
  | .priorityTailProgram core => Sys2Proof.Machine.execPriorityTailProgram core s
  | .ordinaryWaitExpired core => Sys2Proof.Machine.execOrdinaryWaitExpired core s
  | .journalProgramDone core good page plane blockBad => Sys2Proof.Machine.execJournalProgramDone core good page plane blockBad s
  | .opJournalRead r reader mode area typeMask doorId count start wait bad => Sys2Proof.Machine.execOpJournalRead r reader mode area typeMask doorId count start wait bad s
  | .journalReadWaitExpired reader => Sys2Proof.Machine.execJournalReadWaitExpired reader s
  | .opJournalStatus r => Sys2Proof.Machine.execOpJournalStatus r s
  | .opJournalRetain r first count => Sys2Proof.Machine.execOpJournalRetain r first count s
  | .retainCopyDone => Sys2Proof.Machine.execRetainCopyDone s
  | .opJournalRelease r => Sys2Proof.Machine.execOpJournalRelease r s
  | .opJournalNote r code text => Sys2Proof.Machine.execOpJournalNote r code text s
  | .opUpdateBegin r => Sys2Proof.Machine.execOpUpdateBegin r s
  | .opUpdateChunk r index hash => Sys2Proof.Machine.execOpUpdateChunk r index hash s
  | .opUpdateVerify r kind => Sys2Proof.Machine.execOpUpdateVerify r kind s
  | .opUpdateActivate r kind mask => Sys2Proof.Machine.execOpUpdateActivate r kind mask s
  | .slotActivationStart slot => Sys2Proof.Machine.execSlotActivationStart slot s
  | .memoryFrame slot core frame => Sys2Proof.Machine.execMemoryFrame slot core frame s
  | .bankWriteDone slot good => Sys2Proof.Machine.execBankWriteDone slot good s
  | .moduleBoot slot => Sys2Proof.Machine.execModuleBoot slot s
  | .opUpdateConfirm r mask => Sys2Proof.Machine.execOpUpdateConfirm r mask s
  | .autoConfirm slot => Sys2Proof.Machine.execAutoConfirm slot s
  | .trialTimeout slot => Sys2Proof.Machine.execTrialTimeout slot s
  | .opUpdateAbort r kind mask => Sys2Proof.Machine.execOpUpdateAbort r kind mask s
  | .opUpdateStatus r => Sys2Proof.Machine.execOpUpdateStatus r s
  | .opKeyProvision r => Sys2Proof.Machine.execOpKeyProvision r s
  | .usbContainer core bytes => Sys2Proof.Machine.execUsbContainer core bytes s
  | .opSessionChallenge r level => Sys2Proof.Machine.execOpSessionChallenge r level s
  | .opSessionOpen r level response => Sys2Proof.Machine.execOpSessionOpen r level response s
  | .opSessionClose r => Sys2Proof.Machine.execOpSessionClose r s
  | .sessionIdle core => Sys2Proof.Machine.execSessionIdle core s
  | .lockoutEnd core => Sys2Proof.Machine.execLockoutEnd core s

end Sys2Proof.Machine
end

