-- ==== Sys2Proof/Safety.lean ====
section
/-!
DEFINITION. The terms claims are stated in: the parts of the frame's state and what it means that a
command leaves a part alone, the invariants every step keeps, and how a completion and an event show.
-/

namespace Sys2Proof.Machine

/-- The parts of the state, as frames name them. Outputs of the frame are the parts `ports` (rings,
lay-bys, event and completion numbering), `held` (outputs held for the standby's acknowledgement),
`canOut`, `panel` and `staging`. -/
inductive Part where
  | now | tick | free | params | paramsValid
  | slots | lamps | tiers
  | door | claims | requests | safePairs | relays | trainlines
  | obst | axes | axMods | field | load | supply | energy | power
  | cores | mirror | held | ports
  | canCtl | canRx | canOut
  | panel | time
  | staging | nand | journalLog
  | firmware | counters | key | sessions | restart | pending
  deriving DecidableEq, Repr

/-- Two states agree on a part. -/
def Same : Part → State → State → Prop
  | .now, s, t => t.now = s.now
  | .tick, s, t => t.tick = s.tick
  | .free, s, t => t.free = s.free
  | .params, s, t => t.params = s.params
  | .paramsValid, s, t => t.paramsValid = s.paramsValid
  | .slots, s, t => (t.frame.slots, t.frame.secondFrom) = (s.frame.slots, s.frame.secondFrom)
  | .lamps, s, t => (t.frame.statusLamps, t.frame.blueLamps, t.frame.lampTestFrom)
      = (s.frame.statusLamps, s.frame.blueLamps, s.frame.lampTestFrom)
  | .tiers, s, t => (t.frame.doorTier, t.frame.frameTier) = (s.frame.doorTier, s.frame.frameTier)
  | .door, s, t => t.doors.door = s.doors.door
  | .claims, s, t => t.doors.claims = s.doors.claims
  | .requests, s, t => (t.doors.requests, t.doors.fetched) = (s.doors.requests, s.doors.fetched)
  | .safePairs, s, t => t.doors.pairs = s.doors.pairs
  | .relays, s, t => (t.doors.relays, t.doors.relaysOffAt, t.doors.weld, t.doors.condFrom,
        t.doors.disagreeFrom, t.doors.disagreed)
      = (s.doors.relays, s.doors.relaysOffAt, s.doors.weld, s.doors.condFrom, s.doors.disagreeFrom, s.doors.disagreed)
  | .trainlines, s, t => (t.doors.closeTlWas, t.doors.evacWas, t.doors.svDrop)
      = (s.doors.closeTlWas, s.doors.evacWas, s.doors.svDrop)
  | .obst, s, t => t.obst = s.obst
  | .axes, s, t => t.axes = s.axes
  | .axMods, s, t => t.axMods = s.axMods
  | .field, s, t => t.field = s.field
  | .load, s, t => t.load = s.load
  | .supply, s, t => t.supply = s.supply
  | .energy, s, t => t.energy = s.energy
  | .power, s, t => t.power = s.power
  | .cores, s, t => t.pair.core = s.pair.core
  | .mirror, s, t => ({ t.pair with core := .replicate 2 {}, heldCompletions := [], heldEvents := [] } : PairSt)
      = { s.pair with core := .replicate 2 {}, heldCompletions := [], heldEvents := [] }
  | .held, s, t => (t.pair.heldCompletions, t.pair.heldEvents) = (s.pair.heldCompletions, s.pair.heldEvents)
  | .ports, s, t => t.ports = s.ports
  | .canCtl, s, t => t.can.ctl = s.can.ctl
  | .canRx, s, t => t.can.rx = s.can.rx
  | .canOut, s, t => ({ t.can with ctl := .replicate 2 (.replicate 2 {}), rx := .replicate 3 {} } : CanSt)
      = { s.can with ctl := .replicate 2 (.replicate 2 {}), rx := .replicate 3 {} }
  | .panel, s, t => t.panel = s.panel
  | .time, s, t => t.time = s.time
  | .staging, s, t => (t.journal.stagedPrio, t.journal.stagedOrd, t.journal.unstaged, t.journal.unstagedFirst,
        t.journal.unstagedLast, t.journal.highRaised)
      = (s.journal.stagedPrio, s.journal.stagedOrd, s.journal.unstaged, s.journal.unstagedFirst,
        s.journal.unstagedLast, s.journal.highRaised)
  | .nand, s, t => t.journal.nand = s.journal.nand
  | .journalLog, s, t => (t.journal.nextNumber, t.journal.startCount, t.journal.cycleNo, t.journal.cycleFrom,
        t.journal.cycle, t.journal.cursors, t.journal.waiting, t.journal.retain, t.journal.notes,
        t.journal.notesDropped, t.journal.notesFrom, t.journal.mirrored, t.journal.missingRaised)
      = (s.journal.nextNumber, s.journal.startCount, s.journal.cycleNo, s.journal.cycleFrom, s.journal.cycle,
        s.journal.cursors, s.journal.waiting, s.journal.retain, s.journal.notes, s.journal.notesDropped,
        s.journal.notesFrom, s.journal.mirrored, s.journal.missingRaised)
  | .firmware, s, t => ({ t.update with
        session := .replicate 2 {}, counter := .replicate 7 0, baseline := .replicate 7 none, key := none } : UpdateSt)
      = { s.update with
        session := .replicate 2 {}, counter := .replicate 7 0, baseline := .replicate 7 none, key := none }
  | .counters, s, t => (t.update.counter, t.update.baseline) = (s.update.counter, s.update.baseline)
  | .key, s, t => t.update.key = s.update.key
  | .sessions, s, t => t.update.session = s.update.session
  | .restart, s, t => t.restart = s.restart
  | .pending, s, t => t.pending = s.pending

/-- Every part of the state outside `ps` is left alone. -/
def Keeps (ps : List Part) (s t : State) : Prop := ∀ p, p ∉ ps → Same p s t

/-- The frame's outputs: events and completions on their way to a port, the fallback messages, the panel's
fault summary and journal staging. -/
def Part.outputs : List Part := [.ports, .held, .canOut, .panel, .staging]

/-- The parts a command that reports the end of a time moves. -/
def Part.clock : List Part := [.now, .tick, .time]

/-- The parts of the state a command may change; it leaves every other part alone. -/
def touches : Instr → List Part
  | .tickPass .. => [.free, .params, .paramsValid, .slots, .lamps, .tiers, .door, .claims, .requests, .safePairs,
      .relays, .trainlines, .obst, .axes, .axMods, .field, .load, .supply, .energy, .power, .cores, .mirror,
      .canCtl, .canRx, .nand, .journalLog, .firmware, .sessions, .restart, .counters,
      .key] ++ Part.outputs ++ Part.clock
  | .downlinkFrame .. => [.slots, .tiers, .door, .axes, .axMods, .field, .load, .supply, .energy] ++ Part.outputs
  | .missedTick .. => [.slots, .tiers, .door, .axes, .axMods, .field, .load, .supply, .energy] ++ Part.outputs
  | .uplinkFrame .. => [.free, .slots, .tiers, .door, .requests, .axes, .axMods, .field, .load, .supply, .energy,
      .journalLog, .firmware] ++ Part.outputs ++ Part.clock
  | .linkLost .. => [.slots, .tiers, .door, .claims, .requests, .relays, .axes, .axMods, .supply, .energy, .power,
      .cores, .mirror, .time, .journalLog, .sessions] ++ Part.outputs
  | .presAsserted .. => [.slots, .firmware]
  | .presenceDebounceDone .. => [.slots] ++ Part.outputs ++ Part.clock
  | .identityData .. => [.slots, .relays, .axMods, .cores, .mirror, .firmware] ++ Part.outputs
  | .identityTimeout .. => [.slots] ++ Part.outputs ++ Part.clock
  | .moduleInService .. => [.slots, .tiers, .door, .requests, .axes, .field, .supply, .energy, .time, .journalLog,
      .firmware] ++ Part.outputs
  | .removeRequest .. => [.slots, .firmware] ++ Part.outputs
  | .removeGateMet .. => [.slots, .door, .claims, .relays, .axes, .axMods, .field, .load, .energy, .power, .mirror,
      .journalLog] ++ Part.outputs
  | .latchReopenConfirm .. => [.slots, .firmware] ++ Part.outputs
  | .opServiceDrop .. => [.slots, .firmware] ++ Part.outputs
  | .hostGraceExpired .. => [.slots, .tiers, .door, .claims, .requests, .relays, .axes, .axMods, .field, .load,
      .supply, .energy, .power, .cores, .mirror, .journalLog] ++ Part.outputs ++ Part.clock
  | .removalComplete .. => [.slots, .tiers, .door, .claims, .requests, .relays, .axes, .axMods, .field, .load,
      .supply, .energy, .power, .cores, .mirror, .journalLog] ++ Part.outputs ++ Part.clock
  | .removeCancelled .. => [.slots, .tiers, .door, .claims, .requests, .relays, .axes, .axMods, .supply, .energy,
      .power, .cores, .mirror, .time, .journalLog, .firmware] ++ Part.outputs
  | .moduleRemoved .. => [.slots, .tiers, .door, .claims, .requests, .relays, .axes, .axMods, .field, .load,
      .supply, .energy, .power, .cores, .mirror, .time, .journalLog, .firmware, .sessions] ++ Part.outputs
  | .unannouncedPull .. => [.slots, .tiers, .door, .claims, .requests, .relays, .axes, .axMods, .field, .load,
      .supply, .energy, .power, .cores, .mirror, .time, .journalLog, .firmware, .sessions] ++ Part.outputs
  | .latchFault .. => [.slots] ++ Part.outputs
  | .safe2Discrepancy .. => [.safePairs] ++ Part.outputs ++ Part.clock
  | .safe2Cleared .. => [.safePairs] ++ Part.outputs ++ Part.clock
  | .unlockTimeout .. => [.door, .axes, .axMods, .journalLog] ++ Part.outputs ++ Part.clock
  | .openTimeout .. => [.door, .axes, .axMods, .journalLog] ++ Part.outputs ++ Part.clock
  | .closeTimeout .. => [.door, .axes, .axMods, .journalLog] ++ Part.outputs ++ Part.clock
  | .lockTimeout .. => [.door, .axes, .axMods, .journalLog] ++ Part.outputs ++ Part.clock
  | .stepTimeout .. => [.door, .axes, .journalLog] ++ Part.outputs ++ Part.clock
  | .warnTimeExpired .. => [.door, .axes, .journalLog] ++ Part.outputs ++ Part.clock
  | .dwellClose .. => [.requests] ++ Part.clock
  | .reopenPauseExpired .. => [.door, .journalLog] ++ Part.outputs ++ Part.clock
  | .emergencyHandle .. => [.door, .axes, .journalLog] ++ Part.outputs
  | .handleResetAllowed .. => [.door] ++ Part.clock
  | .isolationKeyOn .. => [.door, .obst, .axes, .axMods, .journalLog] ++ Part.outputs
  | .isolationKeyOff .. => [.door, .obst, .axes, .axMods, .journalLog] ++ Part.outputs
  | .proofLost .. => [.door, .obst, .axes, .axMods, .journalLog] ++ Part.outputs
  | .releaseLost .. => [.door, .axes]
  | .zsLostOpen .. => [.door, .axes] ++ Part.outputs
  | .releaseEdge .. => [.door, .requests]
  | .pushbuttonPress .. => [.door, .requests]
  | .closeTrainlineEdge .. => [.door, .requests, .trainlines]
  | .evacuationInput .. => [.requests, .trainlines]
  | .loopCloseDelay .. => [.relays] ++ Part.outputs ++ Part.clock
  | .loopDisagreement .. => [.relays] ++ Part.outputs ++ Part.clock
  | .tlTakeover .. => [.door, .claims] ++ Part.outputs ++ Part.clock
  | .p2Timeout .. => [.door, .claims, .axes, .axMods, .journalLog] ++ Part.outputs ++ Part.clock
  | .pcieLinkChange .. => [.door, .claims, .axes, .axMods, .power, .journalLog] ++ Part.outputs
  | .opDoorOpen .. => [.door, .requests, .obst, .axes, .axMods, .field, .load, .supply, .energy, .power,
      .journalLog] ++ Part.outputs
  | .opDoorClose .. => [.door, .requests, .obst, .axes, .axMods, .field, .load, .supply, .energy, .power,
      .journalLog] ++ Part.outputs
  | .opDoorStop .. => [.door, .requests, .obst, .axes, .axMods, .field, .load, .supply, .energy, .power,
      .journalLog] ++ Part.outputs
  | .opDoorEvacOpen .. => [.door, .requests, .obst, .axes, .axMods, .field, .load, .supply, .energy, .power,
      .journalLog] ++ Part.outputs
  | .opDoorReset .. => [.door, .requests, .obst, .axes, .axMods, .field, .load, .supply, .energy, .power,
      .journalLog] ++ Part.outputs
  | .opStepRequest .. => [.door] ++ Part.outputs
  | .opDoorObstacle .. => [.door, .obst, .axes, .journalLog] ++ Part.outputs
  | .opDoorStatus .. => Part.outputs
  | .opClaim .. => [.door, .claims] ++ Part.outputs
  | .opReleaseClaims .. => [.slots, .tiers, .door, .claims, .requests, .relays, .axes, .axMods, .field, .load,
      .supply, .energy, .power, .cores, .mirror, .time, .journalLog] ++ Part.outputs
  | .moveEnd .. => [.door, .axes, .axMods] ++ Part.outputs ++ Part.clock
  | .standstillSettle .. => [.axes] ++ Part.outputs ++ Part.clock
  | .wakeRampEnd .. => [.axes] ++ Part.clock
  | .limitReached .. => [.door, .axes, .axMods] ++ Part.outputs
  | .opAxisMove .. => [.axes, .energy] ++ Part.outputs
  | .opAxisHalt .. => [.door, .axes, .axMods] ++ Part.outputs
  | .opAxisReference .. => [.axes, .axMods, .energy] ++ Part.outputs
  | .opAxisSetPosition .. => [.axes] ++ Part.outputs
  | .opSegTableLoad .. => [.axes] ++ Part.outputs
  | .opMstepTableLoad .. => [.axes] ++ Part.outputs
  | .refSwitchMet .. => [.axes, .axMods] ++ Part.outputs
  | .refLatch .. => [.axes, .axMods]
  | .refSearchFail .. => [.door, .axes, .axMods] ++ Part.outputs
  | .refLatchFail .. => [.door, .axes, .axMods] ++ Part.outputs
  | .encDirection .. => [.door, .axes, .axMods] ++ Part.outputs
  | .refLockTimeout .. => [.door, .axes, .axMods] ++ Part.outputs ++ Part.clock
  | .overcurrentTrip .. => [.slots, .tiers, .door, .axes, .axMods] ++ Part.outputs
  | .peakLimit .. => [.axMods] ++ Part.outputs
  | .busRangeFault .. => [.slots, .tiers, .door, .axes, .axMods] ++ Part.outputs
  | .busRangeClear .. => [.slots, .axMods]
  | .encFault .. => [.axes, .axMods] ++ Part.outputs
  | .motorTemp .. => [.axes, .axMods] ++ Part.outputs
  | .heatsink .. => [.slots, .tiers, .door, .axes, .axMods] ++ Part.outputs
  | .resistanceCheck .. => [.slots, .tiers, .door, .axes, .axMods] ++ Part.outputs
  | .axConfigMismatch .. => [.slots, .tiers, .door, .axes, .axMods] ++ Part.outputs
  | .lossState .. => [.slots, .tiers, .door, .axes, .axMods] ++ Part.outputs
  | .following .. => [.door, .obst, .axes, .axMods, .journalLog] ++ Part.outputs
  | .laneLost .. => [.slots, .tiers, .door, .axes, .axMods] ++ Part.outputs
  | .laneLeft .. => [.axes] ++ Part.outputs
  | .laneRejoin .. => [.axes, .axMods]
  | .twinJoined .. => [.axes] ++ Part.outputs ++ Part.clock
  | .laneDisagree .. => [.axes] ++ Part.outputs ++ Part.clock
  | .obObstacle .. => [.door, .obst, .axes, .journalLog] ++ Part.outputs
  | .edgeFault .. => [.door, .obst, .axes, .journalLog] ++ Part.outputs
  | .edgeCleared .. => [.obst] ++ Part.outputs
  | .gridFault .. => [.door, .obst, .axes, .journalLog] ++ Part.outputs
  | .stepObstacle .. => [.door, .axes, .journalLog] ++ Part.outputs
  | .relayWeld .. => [.relays] ++ Part.outputs ++ Part.clock
  | .journalGapRecord .. => [.staging]
  | .groupSupplyChange .. => [.field] ++ Part.outputs
  | .filterConfirm .. => [.field] ++ Part.outputs
  | .inputFault .. => [.field] ++ Part.outputs
  | .inputFaultClear .. => [.field] ++ Part.outputs
  | .bandResolve .. => [.field] ++ Part.outputs ++ Part.clock
  | .bandHold .. => [.field] ++ Part.outputs
  | .outOverload .. => [.field] ++ Part.outputs
  | .outOvertemp .. => [.field] ++ Part.outputs
  | .outOpenOn .. => [.field] ++ Part.outputs
  | .outOpenOff .. => [.field] ++ Part.outputs
  | .outShortSupply .. => [.field] ++ Part.outputs
  | .rearmDue .. => [.field, .load] ++ Part.outputs ++ Part.clock
  | .parallelFault .. => Part.outputs
  | .barrierFrame .. => [.field] ++ Part.outputs
  | .barrierCmdFrame .. => [.field] ++ Part.outputs
  | .fiSafeState .. => [.field] ++ Part.outputs
  | .fiConfigApply .. => [.field]
  | .fiConfigMismatch .. => [.slots, .tiers] ++ Part.outputs
  | .loadSupplyChange .. => [.load] ++ Part.outputs
  | .lsOverload .. => [.load] ++ Part.outputs
  | .inrushWindowEnd .. => [.load] ++ Part.outputs ++ Part.clock
  | .wireModelUpdate .. => [.load] ++ Part.outputs
  | .lsOvertemp .. => [.load] ++ Part.outputs
  | .clampPulse .. => [.load] ++ Part.outputs
  | .clampHoldEnd .. => [.load] ++ Part.outputs
  | .lsOpenOn .. => [.load] ++ Part.outputs
  | .lsOpenOff .. => [.load] ++ Part.outputs
  | .lsShortSupply .. => [.load] ++ Part.outputs
  | .opLoadSet .. => [.load] ++ Part.outputs
  | .opLoadRearm .. => [.load] ++ Part.outputs
  | .lsSafeState .. => [.load] ++ Part.outputs
  | .lsConfigApply .. => [.load] ++ Part.outputs
  | .lsConfigMismatch .. => [.slots, .tiers] ++ Part.outputs
  | .ls24OvervoltSwitch .. => [.load] ++ Part.clock
  | .lsDiagCleared .. => [.load] ++ Part.outputs
  | .powerModuleEnergised .. => [.tiers, .door, .requests, .axes, .supply, .energy, .power, .time,
      .journalLog] ++ Part.outputs
  | .feedCrossing .. => [.tiers, .door, .requests, .axes, .supply, .energy, .power, .time,
      .journalLog] ++ Part.outputs
  | .feedQualified .. => [.tiers, .door, .requests, .axes, .supply, .energy, .power,
      .journalLog] ++ Part.outputs ++ Part.clock
  | .feedInterruptEnd .. => [.tiers, .door, .requests, .axes, .supply, .energy, .power,
      .journalLog] ++ Part.outputs ++ Part.clock
  | .shareFault .. => Part.outputs
  | .suOverload .. => [.supply] ++ Part.outputs
  | .lossRideExpired .. => [.door, .requests, .axes, .supply, .energy, .journalLog] ++ Part.outputs ++ Part.clock
  | .shutdownStepEnd .. => [.slots, .door, .claims, .relays, .axes, .axMods, .field, .load, .supply, .energy,
      .power, .cores, .mirror, .time, .nand, .journalLog, .sessions, .restart] ++ Part.outputs
  | .shutdownCap .. => [.supply, .energy, .journalLog, .restart] ++ Part.outputs ++ Part.clock
  | .hostHoldExpired .. => [.slots, .supply, .ports] ++ Part.clock
  | .fastRestart .. => [.tick, .free, .slots, .lamps, .tiers, .door, .claims, .requests, .safePairs, .relays,
      .trainlines, .obst, .axes, .axMods, .field, .load, .supply, .energy, .power, .cores, .mirror, .canCtl,
      .canRx, .time, .nand, .journalLog, .firmware, .sessions] ++ Part.outputs
  | .fullStart .. => [.tick, .free, .slots, .lamps, .tiers, .door, .claims, .requests, .safePairs, .relays,
      .trainlines, .obst, .axes, .axMods, .field, .load, .supply, .energy, .power, .cores, .mirror, .canCtl,
      .canRx, .time, .nand, .journalLog, .firmware, .sessions] ++ Part.outputs
  | .svcAttach .. => [.supply, .cores] ++ Part.outputs
  | .svcTransitionAccept .. => [.supply]
  | .svcPsRdy .. => [.supply]
  | .svcLoadsReturn .. => [.supply, .cores] ++ Part.outputs ++ Part.clock
  | .svcBrownout .. => [.slots, .door, .claims, .relays, .axes, .axMods, .supply, .power, .cores, .mirror, .time,
      .nand, .journalLog, .sessions, .restart] ++ Part.outputs
  | .svcDetach .. => [.slots, .door, .claims, .relays, .axes, .axMods, .supply, .power, .cores, .mirror, .time,
      .nand, .journalLog, .sessions, .restart] ++ Part.outputs
  | .pdHardReset .. => [.slots, .door, .claims, .relays, .axes, .axMods, .supply, .power, .cores, .mirror, .time,
      .nand, .journalLog, .sessions, .restart] ++ Part.outputs
  | .cellFault .. => [.slots, .tiers, .energy] ++ Part.outputs
  | .cellTemp .. => [.energy] ++ Part.outputs
  | .boostLimit .. => [.energy] ++ Part.outputs
  | .emLossTimeout .. => [.energy]
  | .reserveFloor .. => [.door, .axes, .axMods, .energy] ++ Part.outputs
  | .lastAction .. => [.supply, .energy, .journalLog, .restart] ++ Part.outputs
  | .restWindowStart .. => [.energy]
  | .restWindowDone .. => [.energy] ++ Part.outputs ++ Part.clock
  | .windowAborted .. => [.energy] ++ Part.outputs
  | .estFitAfter .. => [.energy] ++ Part.outputs ++ Part.clock
  | .estStaleAfter .. => [.energy] ++ Part.outputs ++ Part.clock
  | .restWanted .. => [.energy] ++ Part.outputs ++ Part.clock
  | .opRestWindow .. => [.energy] ++ Part.outputs
  | .boostCutoff .. => [.energy] ++ Part.outputs
  | .opWait .. => [.supply, .power, .journalLog, .restart] ++ Part.outputs
  | .pwrModeConsent .. => [.field, .load, .supply, .power, .journalLog, .restart] ++ Part.outputs
  | .pwrWakeCauseClear .. => [.power]
  | .tlConsent .. => [.supply, .power, .journalLog, .restart] ++ Part.outputs ++ Part.clock
  | .entryStepEnd .. => [.slots, .door, .claims, .relays, .axes, .axMods, .field, .load, .energy, .power, .mirror,
      .canCtl, .nand, .journalLog, .sessions] ++ Part.outputs ++ Part.clock
  | .entryAborted .. => [.field, .load, .supply, .power] ++ Part.outputs
  | .entryWindowEnd .. => [.slots, .relays, .field, .supply, .power, .cores, .mirror,
      .sessions] ++ Part.outputs ++ Part.clock
  | .wakeEvent .. => [.slots, .relays, .field, .load, .supply, .power, .cores, .mirror,
      .sessions] ++ Part.outputs ++ Part.clock
  | .wakeFrame .. => [.slots, .relays, .field, .load, .supply, .power, .cores, .mirror,
      .sessions] ++ Part.outputs ++ Part.clock
  | .wakeTimetableRow .. => [.free, .slots, .lamps, .tiers, .door, .claims, .requests, .safePairs, .relays,
      .trainlines, .obst, .axes, .axMods, .field, .load, .supply, .energy, .power, .cores, .mirror, .canCtl,
      .canRx, .nand, .journalLog, .firmware, .sessions] ++ Part.outputs ++ Part.clock
  | .wakeFailRepeat .. => [.power, .canOut] ++ Part.clock
  | .opReleaseHold .. => [.field, .load, .supply, .power] ++ Part.outputs
  | .holdAutoRelease .. => [.field, .load, .supply, .power] ++ Part.outputs ++ Part.clock
  | .listenTimeout .. => [.free, .slots, .lamps, .tiers, .door, .claims, .requests, .safePairs, .relays,
      .trainlines, .obst, .axes, .axMods, .field, .load, .supply, .energy, .power, .cores, .mirror, .canCtl,
      .canRx, .nand, .journalLog, .firmware, .sessions] ++ Part.outputs ++ Part.clock
  | .dualActive .. => [.slots, .relays, .cores, .mirror, .canCtl, .time, .firmware] ++ Part.outputs
  | .mirrorFrame .. => [.paramsValid, .relays, .mirror, .time, .nand, .firmware] ++ Part.outputs
  | .returnFrame .. => [.paramsValid, .slots, .relays, .cores, .mirror, .journalLog] ++ Part.outputs
  | .standbyAckLost .. => [.relays, .mirror] ++ Part.outputs
  | .standbyInStep .. => [.relays, .mirror] ++ Part.outputs
  | .coreFault .. => [.slots, .relays, .supply, .power, .cores, .mirror] ++ Part.outputs
  | .chargePumpExpired .. => [.relays] ++ Part.outputs ++ Part.clock
  | .takeover .. => [.slots, .tiers, .door, .claims, .obst, .axes, .axMods, .cores, .mirror, .canCtl, .time,
      .journalLog, .firmware, .sessions] ++ Part.outputs
  | .tickFault .. => Part.outputs
  | .mirrorLost .. => [.relays, .mirror] ++ Part.outputs
  | .plannedHandover .. => [.slots, .cores, .mirror, .canCtl, .time, .nand, .journalLog, .firmware] ++ Part.outputs
  | .coverageHandover .. => [.mirror] ++ Part.outputs
  | .opCoreHandover .. => [.mirror] ++ Part.outputs
  | .catchupDone .. => [.paramsValid, .slots, .tiers, .door, .requests, .relays, .axes, .field, .supply, .energy,
      .mirror, .time, .nand, .journalLog, .firmware] ++ Part.outputs
  | .coreRestart .. => [.relays, .cores, .mirror] ++ Part.outputs ++ Part.clock
  | .hostLinkGrace .. => [.mirror] ++ Part.outputs ++ Part.clock
  | .hostPowerTrip .. => [.slots, .tiers, .door, .claims, .axes, .axMods, .power, .journalLog] ++ Part.outputs
  | .sqTailDoorbell .. => Part.outputs
  | .cqHeadDoorbell .. => Part.outputs
  | .evqHeadDoorbell .. => Part.outputs
  | .shadowPoll .. => Part.outputs
  | .ringCfgWrite .. => [.ports]
  | .portEnable .. => Part.outputs
  | .portDisable .. => Part.outputs
  | .registerWrite .. => [.field, .load, .supply, .power, .journalLog, .restart] ++ Part.outputs
  | .descriptorFetch .. => [.free, .params, .paramsValid, .slots, .tiers, .door, .claims, .requests, .relays,
      .obst, .axes, .axMods, .field, .load, .supply, .energy, .power, .cores, .mirror, .canCtl, .canRx, .time,
      .nand, .journalLog, .firmware, .sessions, .restart, .counters, .key] ++ Part.outputs
  | .laybyDrain .. => Part.outputs
  | .eventsDroppedReport .. => Part.outputs
  | .opCompletionReplay .. => Part.outputs
  | .msixMessage .. => [.ports]
  | .dmaError .. => Part.outputs
  | .opNop .. => Part.outputs
  | .opHeartbeat .. => Part.outputs
  | .opParamRead .. => Part.outputs
  | .opParamWrite .. => [.params, .paramsValid] ++ Part.outputs
  | .opParamSetLoad .. => [.params, .paramsValid] ++ Part.outputs
  | .opParamSetRead .. => Part.outputs
  | .opIoRead .. => Part.outputs
  | .opFioSet .. => [.field] ++ Part.outputs
  | .canFrameReceived .. => [.canCtl, .canRx] ++ Part.outputs
  | .protocolException .. => [.canCtl] ++ Part.outputs
  | .busStateChange .. => [.canCtl] ++ Part.outputs
  | .mbErrorRate .. => [.canCtl] ++ Part.outputs
  | .busoffDelayExpired .. => [.canCtl] ++ Part.clock
  | .rateCandidateTimeout .. => [.canCtl] ++ Part.clock
  | .rateFail .. => Part.outputs
  | .opCanTx .. => Part.outputs
  | .canTxDone .. => [.canCtl] ++ Part.outputs
  | .opCanTxAbort .. => Part.outputs
  | .opCanRxRead .. => [.canRx] ++ Part.outputs
  | .rxReadWaitExpired .. => [.canRx] ++ Part.outputs ++ Part.clock
  | .opCanRxAck .. => [.canRx] ++ Part.outputs
  | .rxDroppedReport .. => [.canRx] ++ Part.outputs
  | .opCanFilterSet .. => [.canRx] ++ Part.outputs
  | .opCanStatus .. => Part.outputs
  | .opCanRecover .. => [.canCtl] ++ Part.outputs
  | .p2DescriptorFrame .. => [.canRx] ++ Part.outputs
  | .p2StatusPeriod .. => [.canOut]
  | .fallbackHeartbeat .. => [.canOut] ++ Part.clock
  | .doorCmd .. => [.requests, .canRx] ++ Part.outputs
  | .statusReq .. => [.canRx] ++ Part.outputs
  | .canBusError .. => [.canCtl] ++ Part.outputs
  | .panelAddrPoll .. => Part.outputs
  | .panelWriteTransfer .. => [.door, .requests, .obst, .axes, .journalLog] ++ Part.outputs
  | .panelReadTransfer .. => [.panel]
  | .accessReq .. => [.door, .requests, .obst, .axes, .journalLog] ++ Part.outputs
  | .panelObstacle .. => [.door, .requests, .obst, .axes, .journalLog] ++ Part.outputs
  | .intercomInd .. => [.door, .requests, .obst, .axes, .journalLog] ++ Part.outputs
  | .intercomBlink .. => [.panel] ++ Part.clock
  | .stretchLimit .. => Part.outputs ++ Part.clock
  | .pbBusTimeout .. => Part.outputs
  | .pbBusStuck .. => Part.outputs
  | .pbBusFree .. => Part.outputs
  | .panelRequest .. => [.panel]
  | .requestCollision .. => Part.outputs
  | .timeFrame .. => [.canRx, .time] ++ Part.outputs
  | .tpiEdge .. => [.time] ++ Part.outputs
  | .sourceLoss .. => Part.outputs ++ Part.clock
  | .hostRefreshExpired .. => Part.outputs ++ Part.clock
  | .opTimeSet .. => [.free, .time] ++ Part.outputs
  | .offsetMeasure .. => [.free, .time] ++ Part.outputs
  | .timeStep .. => [.time] ++ Part.outputs
  | .tpoPulse .. => Part.clock
  | .schedExec .. => [.requests] ++ Part.outputs ++ Part.clock
  | .opSchedCancel .. => [.time] ++ Part.outputs
  | .opTimeRead .. => Part.outputs
  | .priorityTailProgram .. => [.nand] ++ Part.clock
  | .ordinaryWaitExpired .. => [.nand] ++ Part.clock
  | .journalProgramDone .. => [.cores, .nand, .journalLog] ++ Part.outputs
  | .opJournalRead .. => [.journalLog] ++ Part.outputs
  | .journalReadWaitExpired .. => [.journalLog] ++ Part.outputs ++ Part.clock
  | .opJournalStatus .. => Part.outputs
  | .opJournalRetain .. => [.journalLog] ++ Part.outputs
  | .retainCopyDone .. => [.nand, .journalLog] ++ Part.outputs
  | .opJournalRelease .. => [.nand] ++ Part.outputs
  | .opJournalNote .. => [.journalLog] ++ Part.outputs
  | .opUpdateBegin .. => [.firmware] ++ Part.outputs
  | .opUpdateChunk .. => [.firmware] ++ Part.outputs
  | .opUpdateVerify .. => [.firmware] ++ Part.outputs
  | .opUpdateActivate .. => [.slots, .tiers, .door, .claims, .requests, .relays, .axes, .axMods, .field, .load,
      .supply, .energy, .power, .cores, .mirror, .time, .journalLog, .firmware] ++ Part.outputs
  | .slotActivationStart .. => [.slots, .tiers, .door, .claims, .requests, .relays, .axes, .axMods, .field, .load,
      .supply, .energy, .power, .cores, .mirror, .time, .journalLog, .firmware] ++ Part.outputs
  | .memoryFrame .. => [.axMods, .field, .load, .energy, .firmware]
  | .bankWriteDone .. => [.slots, .tiers, .door, .requests, .axes, .supply, .energy, .power, .cores, .time,
      .journalLog, .firmware, .restart] ++ Part.outputs
  | .moduleBoot .. => [.slots, .firmware] ++ Part.outputs
  | .opUpdateConfirm .. => [.firmware, .counters] ++ Part.outputs
  | .autoConfirm .. => [.firmware, .counters] ++ Part.outputs ++ Part.clock
  | .trialTimeout .. => [.slots, .tiers, .door, .claims, .requests, .relays, .axes, .axMods, .field, .load,
      .supply, .energy, .power, .cores, .mirror, .journalLog, .firmware, .restart] ++ Part.outputs ++ Part.clock
  | .opUpdateAbort .. => [.slots, .tiers, .door, .claims, .requests, .relays, .axes, .axMods, .field, .load,
      .supply, .energy, .power, .cores, .mirror, .time, .journalLog, .firmware, .restart] ++ Part.outputs
  | .opUpdateStatus .. => Part.outputs
  | .opKeyProvision .. => [.key] ++ Part.outputs
  | .usbContainer .. => [.firmware, .sessions]
  | .opSessionChallenge .. => [.free, .sessions] ++ Part.outputs
  | .opSessionOpen .. => [.sessions] ++ Part.outputs
  | .opSessionClose .. => [.door, .claims, .axes, .axMods, .journalLog, .sessions] ++ Part.outputs
  | .sessionIdle .. => [.door, .claims, .axes, .axMods, .journalLog, .sessions] ++ Part.outputs ++ Part.clock
  | .lockoutEnd .. => [.sessions] ++ Part.clock

/-- The command completes: it answers a next state of which `P` holds. -/
def Does (c : Instr) (s : State) (P : State → Prop) : Prop := ∃ t, exec c s = .next t ∧ P t

/-- The newest completion `t` keeps of the port of `r` answers `r` (Table HR-13): its opcode, hseq, rings,
status and detail. A request of SV, TL or P3 has no completion. -/
def Answers (t : State) (r : Req) (opcode : BitVec 15) (status : Byte) (detail : Nat) : Prop :=
  ∀ p, portOf r.party = some p → ∃ c, t.ports[p].kept.head? = some c ∧ c.opcode = opcode ∧ c.status = status ∧
    c.hseq = r.hseq ∧ c.sq = r.sq ∧ c.cq = r.cq ∧ c.detail = BitVec.ofNat 32 detail

/-- The result bytes of that completion, from byte 20 on. -/
def AnswersWith (t : State) (r : Req) (result : List Byte) : Prop :=
  ∀ p, portOf r.party = some p → ∃ c, t.ports[p].kept.head? = some c ∧ c.result = slice result 0 12

/-- Staging takes an event of this code: it always does, or the filters pass it and fewer than 448 records
are staged (R137, R380). -/
def State.takesEvent (s : State) (code : BitVec 10) : Bool :=
  alwaysStaged code ||
    (bit (s.param 0x560) (evRange code.toNat) &&
      !([0x561, 0x562, 0x563, 0x564].any fun i => s.param i == code.toNat) &&
      decide (s.journal.staged < 448))

/-- A record of the event is staged. -/
def EventStaged (t : State) (code : BitVec 10) (items : List Item) : Prop :=
  ∃ r ∈ t.journal.stagedPrio ++ t.journal.stagedOrd, ∃ core, r.body = .event code core items

/-- The command raises the event: where staging takes it, its record is staged. -/
def Raised (s t : State) (code : BitVec 10) (items : List Item) : Prop :=
  s.takesEvent code = true → EventStaged t code items

/-- The stored parameters are in canonical form and each lies in its own range (R309, R310). -/
def ParamsInv (s : State) : Prop :=
  paramsWf s.params = true ∧ ∀ e ∈ s.params, paramOk e.1 e.2 = true

end Sys2Proof.Machine
end

