-- ==== Sys2Proof/Certificates/Slice0/Obligations.lean ====
section
/-!
DEFINITION. The statements for the provers. The completion statements are lists of clauses, one or more for every
command: under the conditions named, on the state and the operands alone, the command answers a next state (`Does`)
in which what follows `fun t =>` holds. `Answers` says what its completion says, and `Raised` that it raises an event.
-/

open Sys2Proof Sys2Proof.Machine

/-- A step takes the command at the front of the queue and runs it on the rest of the state. -/
def Obligations.StepRunsFront : Prop :=
  ∀ (s : State) (c : Instr) (rest : List Instr), s.pending = c :: rest →
    step s = exec c { s with pending := rest }

/-- On an empty queue the block idles; the model's choice (log 1). -/
def Obligations.StepIdles : Prop := ∀ s : State, s.pending = [] → step s = .next s

/-- No command touches the queue: after a step the rest of it waits, in its order. -/
def Obligations.StepKeepsQueueOrder : Prop := ∀ s t : State, step s = .next t → t.pending = s.pending.tail

/-- What Tables RF-7 and RF-8 give at a full start, and an unpowered frame: no port is enabled, no claim is held,
nothing is scheduled, all loop relays are open, the fault output is open and no core is active. -/
def Obligations.ResetValues : Prop :=
  State.reset.pending = [] ∧ State.reset.params = [] ∧ State.reset.doors.claims = [] ∧
  State.reset.doors.requests = [] ∧ State.reset.time.sched = [] ∧ State.reset.time.unset = true ∧
  State.reset.power.faultOut = false ∧ State.reset.anyActive = false ∧
  (∀ c : CoreId, State.reset.doors.relays[c] = false) ∧
  (∀ p : PortId, State.reset.ports[p].ctrl = 4 ∧ State.reset.ports[p].running = false ∧
    State.reset.ports[p].up = false ∧ State.reset.ports[p].evFilter = 0x7FFF ∧
    State.reset.ports[p].statusBase = 0 ∧ State.reset.ports[p].shadowBase = 0 ∧
    State.reset.ports[p].dseqNext = 1 ∧ State.reset.ports[p].evDropped = 0 ∧
    State.reset.ports[p].error = 0) ∧
  (∀ k : Slot, State.reset.frame.slots[k].inService = false ∧ State.reset.update.firm[k].state = .idle)

/-- Whatever commands run, the stored parameters stay in canonical form and each within its own range
(R309, R423). -/
def Obligations.ParamsStayInRange : Prop := ∀ s t : State, ParamsInv s → step s = .next t → ParamsInv t

/-- The parameters at reset meet that invariant. -/
def Obligations.ResetParamsInRange : Prop := ParamsInv State.reset

/-- Every default of the parameter tables lies within its own range (R423). -/
def Obligations.DefaultsInRange : Prop := ∀ i < 1536, paramOk i (paramDefault i) = true

/-- Whatever command runs, every part of the state it does not list is left alone. -/
def Obligations.EveryCommandKeepsItsFrame : Prop :=
  ∀ (c : Instr) (s t : State), exec c s = .next t → Keeps (touches c) s t

/-- R397: the security version counters only rise, they change only where images are confirmed, and the check of an
image below its counter fails. -/
def Obligations.SecurityCountersOnlyRise : Prop :=
  (∀ s t : State, step s = .next t → ∀ kind, s.secCounter kind ≤ t.secCounter kind) ∧
  (∀ (c : Instr) (s t : State) kind, exec c s = .next t → t.secCounter kind ≠ s.secCounter kind →
    (∃ r mask, c = .opUpdateConfirm r mask) ∨ (∃ k, c = .autoConfirm k) ∨ c = .tickPass ∨
    (∃ p q desc buf, c = .descriptorFetch p q desc buf)) ∧
  (∀ (s : State) (r : Req) kind g, maxBody kind ≠ 0 → s.updDenied r = false → s.staged kind = some g →
    g.missing = none → hdrSec g.header < s.secCounter (hdrType g.header) →
    Does (.opUpdateVerify r kind) s fun t =>
      Answers t r Opc.OP_UPDATE_VERIFY ST_SECURITY_VERSION (s.secCounter (hdrType g.header)) ∧
      t.staged kind = some { g with verified := false })

/-- Insertion (R20, R21): the commands that bring a module from its presence contact to service complete. -/
def Obligations.InsertionCompletes : Prop :=
  ∀ (s : State) (k : Slot),
    (∀ sid sidp, s.frame.slots[k].pres = false →
      Does (.presAsserted k sid sidp) s fun t =>
        t.frame.slots[k].pres = true ∧ t.frame.slots[k].presSince = s.now ∧ t.frame.slots[k].debounced = false ∧
        t.frame.slots[k].sid = sid ∧ t.frame.slots[k].sidp = sidp) ∧
    (s.frame.slots[k].pres = true → s.frame.slots[k].debounced = false → s.coreReads = true →
      Does (.presenceDebounceDone k) s fun t =>
        t.frame.slots[k].debounced = true ∧ t.now = max s.now (s.frame.slots[k].presSince + s.param 0x033 * msec) ∧
        (slotPinsGood k s.frame.slots[k].sid s.frame.slots[k].sidp = true →
          t.frame.slots[k].identAsked = s.frame.slots[k].latchClosed) ∧
        (slotPinsGood k s.frame.slots[k].sid s.frame.slots[k].sidp = false →
          t.frame.slots[k].heldOut = some .slotId)) ∧
    (∀ block, s.frame.slots[k].identAsked = true → identityInvalid block = none → s.identityMatches k block = true →
      (((s.modSlot k fun x => { x with identAsked := false, ident := some block }).takeFirmware k
        (BitVec.ofNat 32 (u32At block 0x10))).alignModule k).frame.slots[k].heldOut ≠ some .image →
      Does (.identityData k block none) s fun t =>
        t.frame.slots[k].enable = true ∧ t.frame.slots[k].railsOn = true ∧ t.frame.slots[k].heldOut = none) ∧
    (∀ block lowRail, s.frame.slots[k].identAsked = true →
      identityInvalid block ≠ none ∨ s.identityMatches k block = false →
      Does (.identityData k block lowRail) s fun t =>
        t.frame.slots[k].heldOut = some (if identityInvalid block = none then .mismatch else .invalid) ∧
        t.frame.slots[k].enable = s.frame.slots[k].enable) ∧
    (s.frame.slots[k].identAsked = true →
      Does (.identityTimeout k) s fun t =>
        t.frame.slots[k].heldOut = some .invalid ∧ t.frame.slots[k].identAsked = false ∧
        t.now = max s.now (s.frame.slots[k].identAt + 50 * msec)) ∧
    (s.frame.slots[k].enable = true → s.frame.slots[k].inService = false → s.frame.slots[k].heldOut = none →
      s.mayReport k = true →
      Does (.moduleInService k) s fun t => t.frame.slots[k].inService = true ∧ t.frame.slots[k].lost = false) ∧
    (s.frame.slots[k].pres = false → s.frame.slots[k].latchFault = false →
      Does (.latchFault k) s fun t => t.frame.slots[k].latchFault = true ∧ t.frame.slots[k].pres = false)

/-- Removal in service (R22 to R27): each command of a removal completes. -/
def Obligations.RemovalCompletes : Prop :=
  ∀ (s : State) (k : Slot),
    (s.frame.slots[k].pres = true → s.frame.slots[k].latchFault = false → s.frame.slots[k].removal = none →
      Does (.removeRequest k) s fun t =>
        t.frame.slots[k].latchClosed = false ∧ t.frame.slots[k].inService = s.frame.slots[k].inService ∧
        (s.removalRefused k = none → ∃ why, t.frame.slots[k].removal = some (.waiting why)) ∧
        (s.removalRefused k ≠ none → t.frame.slots[k].removal = none ∧ t.frame.slots[k].refusedAt = some s.now)) ∧
    (s.frame.slots[k].pres = true → s.frame.slots[k].latchFault = false → s.frame.slots[k].removal = none →
      s.removalRefused k = none → s.frame.slots[k].latchReclosed = true →
      s.since s.frame.slots[k].latchClosedAt ≤ s.param 0x031 * sec → s.zeroSpeed s.activeCore = true →
      Does (.latchReopenConfirm k) s fun t =>
        t.frame.slots[k].latchClosed = false ∧ t.frame.slots[k].confirmed = true) ∧
    (∀ why, s.frame.slots[k].removal = some (.waiting why) → s.waitReason k = none →
      Does (.removeGateMet k) s fun t => t.frame.slots[k].removal = some (.running 1)) ∧
    (∀ r why, s.frame.slots[k].removal = some (.waiting why) → s.zeroSpeed s.activeCore = true →
      Does (.opServiceDrop r k) s fun t =>
        t.frame.slots[k].confirmed = true ∧ t.update.firm[k].armedAt = some s.now ∧
        Answers t r Opc.OP_SERVICE_DROP ST_OK 0) ∧
    (∀ p, slotKind k = .host p → s.frame.slots[k].removal = some (.running 1) →
      Does (.hostGraceExpired k) s fun t =>
        t.frame.slots[k].removal = some .free ∧ t.frame.slots[k].enable = false ∧
        t.frame.slots[k].inService = false) ∧
    (∀ n, s.frame.slots[k].removal = some (.running n) → s.removalDone k = true →
      (∀ p, slotKind k ≠ .power p) →
      Does (.removalComplete k) s fun t =>
        t.frame.slots[k].removal = some .free ∧ t.frame.slots[k].enable = false ∧
        t.frame.slots[k].inService = false) ∧
    (∀ n p, s.frame.slots[k].removal = some (.running n) → slotKind k = .power p →
      Does (.removalComplete k) s fun t =>
        t.frame.slots[k].removal = some .free ∧ t.frame.slots[k].enable = false ∧
        t.frame.slots[k].inService = false) ∧
    (∀ stage, s.frame.slots[k].removal = some stage →
      Does (.removeCancelled k) s fun t =>
        t.frame.slots[k].removal = none ∧ t.frame.slots[k].latchClosed = true) ∧
    (s.frame.slots[k].removal = some .free →
      Does (.moduleRemoved k) s fun t =>
        t.frame.slots[k].pres = false ∧ t.frame.slots[k].ident = none ∧ t.frame.slots[k].removal = none) ∧
    (s.frame.slots[k].pres = true → s.frame.slots[k].removal ≠ some .free →
      Does (.unannouncedPull k) s fun t =>
        t.frame.slots[k].pres = false ∧ t.frame.slots[k].inService = false ∧ t.frame.slots[k].enable = false)

/-- The module link (R16 to R18, R101 to R103, R208, R235) and the pass of the active core (R17, R55, R66): a good
frame is taken, a missed tick and a lost link are counted, and each pass ends 50 us later with the marks of its tick
cleared. -/
def Obligations.LinkCompletes : Prop :=
  ∀ (s : State) (k : Slot),
    (∀ core frame, s.frame.slots[k].pres = true → onLink k = true → linkCrcHolds frame = true →
      linkFrameGood k 1 frame = true → byteAt frame 5 = (payloadLengths k).1 → s.commandWaits k = false →
      Does (.downlinkFrame k core frame) s fun t =>
        t.commandWaits k = true ∧
        (∀ m, slotKind k = .axis m → t.axMods[m].next = some (axBlockOf (framePayload frame)) ∧
          t.axMods[m].missRun = 0) ∧
        (∀ m, slotKind k = .field m → t.field.mods[m].missRun = 0 ∧
          t.field.mods[m].cfgCrc = BitVec.ofNat 16 (u16At (framePayload frame) 16)) ∧
        (slotKind k = .load → t.load.missRun = 0) ∧
        (slotKind k = .energy → t.energy.missMs = 0)) ∧
    (∀ core frame, s.frame.slots[k].pres = true → onLink k = true → linkCrcHolds frame = false →
      Does (.downlinkFrame k core frame) s fun t =>
        t.frame.slots[k].crcErrs[core] = s.frame.slots[k].crcErrs[core] + 1 ∧ t.commandWaits k = s.commandWaits k) ∧
    (s.frame.slots[k].pres = true → onLink k = true →
      Does (.missedTick k false) s fun t =>
        t.commandWaits k = false ∧
        (∀ m, slotKind k = .axis m → t.axMods[m].missRun = s.axMods[m].missRun + 1) ∧
        (slotKind k = .energy → t.energy.missMs = s.energy.missMs + 50)) ∧
    (∀ core frame, s.frame.slots[k].pres = true → onLink k = true → s.pair.core[core].present = true →
      linkCrcHolds frame = true → byteAt frame 0 = 2 → byteAt frame 4 % 16 = k.val + 1 →
      byteAt frame 5 = (payloadLengths k).2 → core ≠ s.activeCore →
      Does (.uplinkFrame k core frame) s fun t =>
        t.frame.slots[k].linkUp[core] = true ∧ t.frame.slots[k].uplinkMissed[core] = 0 ∧
        (∀ m, slotKind k = .field m → t.field.mods[m].views[core] = fiUplinkOf (framePayload frame))) ∧
    (∀ frame, s.frame.slots[k].pres = true → slotKind k = .load → s.pair.core[s.activeCore].present = true →
      s.frame.slots[k].inService = true → s.frame.slots[k].removal = none →
      linkCrcHolds frame = true → byteAt frame 0 = 2 → byteAt frame 4 % 16 = k.val + 1 →
      byteAt frame 5 = (payloadLengths k).2 →
      Does (.uplinkFrame k s.activeCore frame) s fun t =>
        t.load.repOn = BitVec.ofNat 12 (u16At (framePayload frame) 0) ∧
        t.load.repSupply = byteAt (framePayload frame) 30) ∧
    (∀ core, onLink k = true → s.frame.slots[k].linkUp[core] = true → core ≠ s.activeCore →
      Does (.linkLost k core) s fun t => t.frame.slots[k].linkUp[core] = false ∧
        t.frame.slots[k].inService = s.frame.slots[k].inService) ∧
    (s.journal.unstaged ≠ 0 → s.journal.staged < 256 →
      Does .journalGapRecord s fun t => t.journal.unstaged = 0 ∧
        (∃ r ∈ t.journal.stagedPrio,
          r.body = .gapUnstaged s.journal.unstaged s.journal.unstagedFirst s.journal.unstagedLast)) ∧
    (s.anyActive = true → s.supply.serviceOnly = false → s.power.wake = none → s.power.state = .run →
      s.power.entry ≠ some .n6 →
      Does .tickPass s fun t => t = s.runPass.endTick ∧ t.now = s.runPass.now + tickNs ∧
        (∀ d : Doorway, t.doors.door[d].moved = false) ∧
        (∀ m : Axis, t.axMods[m].uplink.valid = false) ∧
        (∀ p : PortId, t.doors.fetched[p] = 0))

/-- The timers of a doorway's machines (R40, R44, R50, R53, R57, R58, R122): each ends with what the rules give. -/
def Obligations.DoorTimersComplete : Prop :=
  ∀ (s : State) (d : Doorway),
    (s.enabled d = true → s.doors.door[d].leaf = .unlocking →
      Does (.unlockTimeout d) s fun t => t.doors.door[d].leaf = .fault) ∧
    (s.enabled d = true → s.doors.door[d].leaf = .opening →
      Does (.openTimeout d) s fun t => t.doors.door[d].leaf = .fault) ∧
    (s.enabled d = true → s.doors.door[d].leaf = .closing →
      Does (.closeTimeout d) s fun t => t.doors.door[d].leaf = .fault) ∧
    (s.enabled d = true → s.doors.door[d].leaf = .locking →
      Does (.lockTimeout d) s fun t => t.doors.door[d].leaf =
        if s.doors.door[d].lockRetries < s.dp d 0x1D then .locking else .fault) ∧
    (s.enabled d = true → s.doors.door[d].step = .deploying ∨ s.doors.door[d].step = .stowing →
      Does (.stepTimeout d) s fun t => t.doors.door[d].step = .stepFault) ∧
    (s.enabled d = true → s.doors.door[d].leaf = .warn → s.leavesAtRest d = true → s.supply.onStore = false →
      Does (.warnTimeExpired d) s fun t => t.doors.door[d].leaf = .closing) ∧
    (s.doors.door[d].leaf = .reopening → s.doors.door[d].reopenDone = true →
      Does (.reopenPauseExpired d) s fun t => t.doors.door[d].leaf = .warn) ∧
    (s.doors.door[d].leaf = .emergencyReleased →
      Does (.handleResetAllowed d) s fun t =>
        t.doors.door[d].handleMayReset = true ∧ t.doors.door[d].leaf = .emergencyReleased) ∧
    (∀ at_, s.dwellDue d = some at_ →
      Does (.dwellClose d) s fun t =>
        t.doors.requests = s.doors.requests ++ [{ req := { party := .tl }, op := .doorClose d.val }] ∧
        t.now = max s.now at_) ∧
    (s.tlMayTake d = true →
      Does (.tlTakeover d) s fun t => t.ownerOf (.doorway d.val) = some .tl)

/-- What a doorway's inputs bring about (R38, R40, R47, R49 to R52, R55, R56, R58). -/
def Obligations.DoorInputsComplete : Prop :=
  ∀ (s : State) (d : Doorway),
    (∀ core c, s.doors.pairs[core][c].val ≠ .discrepant →
      Does (.safe2Discrepancy core c) s fun t => t.doors.pairs[core][c].val = .discrepant) ∧
    (∀ core c, s.doors.pairs[core][c].val = .discrepant →
      Does (.safe2Cleared core c) s fun t => t.doors.pairs[core][c].val = .inactive) ∧
    (s.enabled d = true → s.doors.door[d].leaf ≠ .isolated → s.doors.door[d].leaf ≠ .emergencyReleased →
      Does (.emergencyHandle d) s fun t => t.doors.door[d].leaf = .emergencyReleased) ∧
    (s.enabled d = true → s.doors.door[d].keyOn = false → s.doors.door[d].leaf ≠ .closedLocked →
      s.doors.door[d].leaf ≠ .isolated →
      Does (.isolationKeyOn d) s fun t =>
        t.doors.door[d].keyOn = true ∧ t.doors.door[d].isolationPending = true ∧
        t.doors.door[d].leaf = s.doors.door[d].leaf) ∧
    (s.enabled d = true → s.doors.door[d].keyOn = true → s.doors.door[d].moved = true →
      Does (.isolationKeyOff d) s fun t =>
        t.doors.door[d].keyOn = false ∧ t.doors.door[d].isolationPending = false) ∧
    (s.enabled d = true → s.doors.door[d].leaf = .isolated → s.doors.door[d].keyOn = true →
      s.doors.door[d].moved = false →
      Does (.isolationKeyOff d) s fun t => t.doors.door[d].keyOn = false ∧ t.doors.door[d].leaf =
        if s.allProven s.activeCore d && s.stepStowed s.activeCore d then .closedLocked else .fault) ∧
    (s.enabled d = true → s.doors.door[d].leaf = .closedLocked →
      Does (.proofLost d) s fun t => t.doors.door[d].leaf = .fault) ∧
    (s.enabled d = true → s.doors.door[d].leaf = .locking →
      Does (.proofLost d) s fun t => t.doors.door[d].leaf = .reopening) ∧
    (s.enabled d = true → s.doors.door[d].releaseWas = true → s.doors.door[d].leaf = .opening →
      Does (.releaseLost d) s fun t =>
        t.doors.door[d].rampToOpen = true ∧ t.doors.door[d].releaseWas = false ∧ t.doors.door[d].leaf = .opening) ∧
    (s.enabled d = true → s.doors.door[d].zsWas = true → s.doors.door[d].leaf = .opening →
      Does (.zsLostOpen d) s fun t =>
        t.doors.door[d].rampToOpen = true ∧ t.doors.door[d].zsWas = false ∧ t.doors.door[d].leaf = .opening) ∧
    (s.enabled d = true → s.doors.door[d].releaseWas = false → s.tlOwns d = true → s.dp d 0x14 = 0 →
      s.closeTl s.activeCore = false →
      Does (.releaseEdge d) s fun t =>
        t.doors.door[d].releaseWas = true ∧
        t.doors.requests = s.doors.requests ++ [{ req := { party := .tl }, op := .doorOpen d.val }]) ∧
    (s.enabled d = true → s.doors.door[d].buttonWas = false → s.tlOwns d = true → s.dp d 0x14 = 1 →
      s.released s.activeCore d = true → s.closeTl s.activeCore = false →
      Does (.pushbuttonPress d) s fun t =>
        t.doors.requests = s.doors.requests ++ [{ req := { party := .tl }, op := .doorOpen d.val }]) ∧
    (s.doors.closeTlWas = false → s.enabled d = true → s.tlOwns d = true →
      s.doors.door[d].leaf ≠ .emergencyReleased →
      Does .closeTrainlineEdge s fun t =>
        t.doors.closeTlWas = true ∧ { req := { party := .tl }, op := .doorClose d.val } ∈ t.doors.requests) ∧
    (s.param 0x087 ≠ 0xFF → s.doors.evacWas = false → s.enabled d = true →
      Does .evacuationInput s fun t =>
        t.doors.evacWas = true ∧ { req := { party := .sv }, op := .doorEvacOpen d.val } ∈ t.doors.requests) ∧
    (∀ core, s.mayClose core = true →
      Does (.loopCloseDelay core) s fun t => t.doors.relays[core] = true) ∧
    (s.doors.disagreed = false → s.pair.core[s.standbyCore].present = true →
      Does .loopDisagreement s fun t => t.doors.disagreed = true ∧ t.doors.relays[s.standbyCore] = false)

/-- Commands to a doorway that pass their checks (R40, R43, R45, R47, R62): each has the effect the tables of
the machines give it. -/
def Obligations.DoorCommandsComplete : Prop :=
  ∀ (s : State) (d : Doorway) (r : Req), r.party ≠ .sv → s.doors.door[d].moved = false →
    s.handleInactive s.activeCore d = true →
    (s.doors.door[d].leaf = .closedLocked → s.doors.door[d].keyOn = false → s.allProven s.activeCore d = true →
      s.stepWanted d = false → s.checkDoor d .open r = none → s.admitDoor d .open r ≠ .refused →
      Does (.opDoorOpen r d) s fun t => t.doors.door[d].leaf = .unlocking) ∧
    (s.doors.door[d].leaf = .opened → s.checkDoor d .close r = none → s.admitDoor d .close r ≠ .refused →
      Does (.opDoorClose r d) s fun t => t.doors.door[d].leaf = .warn) ∧
    (s.doors.door[d].leaf = .closing → s.enabled d = true → s.obst[d].raised = none →
      s.doors.door[d].rampToOpen = false → s.safetyFirst r = s → s.power.wake = none →
      Does (.opDoorStop r d) s fun t => t.doors.door[d].leaf = .closing ∧ t.doors.door[d].rampToOpen = true) ∧
    (s.doors.door[d].leaf = .fault → s.checkDoor d .evac r = none → s.admitDoor d .evac r ≠ .refused →
      s.safetyFirst r = s → s.power.wake = none →
      Does (.opDoorEvacOpen r d) s fun t => t.doors.door[d].leaf = .opening) ∧
    (s.doors.door[d].leaf = .fault → s.doors.door[d].evacAsked = false → s.checkDoor d .reset r = none →
      (∀ a ∈ s.leafAxesOf d, s.needsRef a = false ∧ s.axes[a].ref = none) → s.stepAxisOf d = none →
      Does (.opDoorReset r d) s fun t => t.doors.door[d].leaf = .opened) ∧
    (s.enabled d = true → s.notOwner r (.doorway d.val) = false → s.dp d 0x05 ≠ 0 →
      s.doors.door[d].leaf ≠ .isolated →
      Does (.opStepRequest r d) s fun t =>
        t.doors.door[d].stepRequest = true ∧ Answers t r Opc.OP_STEP_REQUEST ST_OK 0) ∧
    (s.enabled d = false →
      Does (.opDoorObstacle r d) s fun t => Answers t r Opc.OP_DOOR_OBSTACLE ST_STATE 15 ∧ t.doors = s.doors)

/-- Status, claims and the sources of obstacles (R57, R59, R60, R118 to R120, R125, R135, R137). -/
def Obligations.ClaimsAndSourcesComplete : Prop :=
  ∀ (s : State) (d : Doorway),
    (∀ r, Does (.opDoorStatus r d) s fun t =>
      Answers t r Opc.OP_DOOR_STATUS ST_OK 0 ∧ AnswersWith t r (s.doorStatusBytes d)) ∧
    (∀ r code res, mayClaim r.party (code.toNat % 256) = true → s.resourceOf r.party code = some res →
      s.claimState res = none → s.ownerOf res = none →
      Does (.opClaim r code) s fun t =>
        t.ownerOf res = some r.party ∧ Answers t r Opc.OP_CLAIM ST_OK 0) ∧
    (∀ r, (∀ p : HostPort, s.frame.slots[hostSlot p].removal = none) →
      Does (.opReleaseClaims r []) s fun t => Answers t r Opc.OP_RELEASE_CLAIMS ST_OK 0) ∧
    (s.p2Up = true → Does .p2Timeout s fun t => t.p2Up = false) ∧
    (∀ p core isUp gen, Does (.pcieLinkChange p core isUp gen) s fun t => t.ports[hostPort p].links[core] = isUp) ∧
    (∀ src us, s.enabled d = true → s.closingOrLocking d = true → s.sourceCounts d src = true →
      Does (.obObstacle d src us) s fun t =>
        t.doors.door[d].leaf = .reopening ∧ t.obst[d].lastSource = sourceCode src) ∧
    (∀ edge fault, s.enabled d = true →
      Does (.edgeFault d edge fault) s fun t => t.obst[d].edgeFaulty[edgeIndex edge] = true) ∧
    (∀ edge, Does (.edgeCleared d edge) s fun t => t.obst[d].edgeFaulty[edgeIndex edge] = false) ∧
    (∀ fault, s.enabled d = true → Does (.gridFault d fault) s fun t => t.obst[d].gridFaulty = true) ∧
    (∀ following a, s.enabled d = true → s.stepAxisOf d = some a → s.doors.door[d].step = .stowing →
      Does (.stepObstacle d following) s fun t => t.doors.door[d].step =
        if s.dp d 0x1F ≤ s.doors.door[d].stepRetries then .stepFault else .deploying) ∧
    (∀ core relay, s.doors.relays[core] = false →
      Does (.relayWeld core relay) s fun t => t.doors.weld[core] = true)

/-- Commands to an axis that pass their checks (R52, R68, R74 to R76, R79, R83, R87, R89, R450). -/
def Obligations.AxisCommandsComplete : Prop :=
  ∀ (s : State) (a : Axis) (r : Req),
    (∀ pos, s.axisArg a.val = some a → s.notOwner r (.axis a.val) = false → s.blocked = false →
      s.axisIn a = true → s.driveFault a = false → s.axisFree a = true → s.lockedLeaf a = false →
      s.axes[a].ref = none → s.limitAgainst a (pos * ustep - s.axes[a].x) = none → s.supply.onStore = false →
      s.noMoves false = false → s.axes[a].freezeDue = none → s.axes[a].stopDue = false →
      Does (.opAxisMove r a.val pos) s fun t =>
        t.axes[a].cmd = some { req := r, opcode := Opc.OP_AXIS_MOVE } ∧
        (∃ p, t.axes[a].plan = some p ∧ p.kind = .jog ∧ p.target = pos * ustep)) ∧
    (s.axisArg a.val = some a → s.notOwner r (.axis a.val) = false → s.blocked = false →
      Does (.opAxisHalt r a.val) s fun t =>
        t.axes[a].plan = none ∧ t.axes[a].v = 0 ∧ Answers t r Opc.OP_AXIS_HALT ST_OK 0) ∧
    (s.axisArg a.val = some a → s.notOwner r (.axis a.val) = false → s.blocked = false → s.axisIn a = true →
      s.axes[a].plan = none → s.axes[a].ref = none → s.ap a 0x1C ≠ 3 → s.axisFree a = true →
      s.lockedLeaf a = false →
      Does (.opAxisReference r a.val) s fun t =>
        t.axes[a].cmd = some { req := r, opcode := Opc.OP_AXIS_REFERENCE } ∧
        (∃ rf, t.axes[a].ref = some rf ∧ rf.stage = .check)) ∧
    (∀ pos, s.axisArg a.val = some a → s.notOwner r (.axis a.val) = false → s.blocked = false →
      s.axisIn a = true → s.driveFault a = false → s.ap a 0x1C = 3 → s.axisFree a = true → s.axes[a].plan = none →
      Does (.opAxisSetPosition r a.val pos) s fun t =>
        t.axes[a].x = pos * ustep ∧ t.axes[a].uncertain = false ∧ t.axes[a].referenced = true ∧
        AnswersWith t r (leBytes 4 (unsigned 32 pos))) ∧
    (∀ number count x0 bs, number ≤ 15 → 1 ≤ count → count ≤ 64 → r.bufLen = 16 * count → r.buf = some bs →
      s.notOwner r .paramSet = false → s.tableRunning a number = false →
      segsCheck (-(256 * (s.ap a 0x0C : Int))) (256 * (s.ap a 3 : Int)) (max (s.ap a 4) (s.ap a 5)) (s.ap a 6)
        (s.ap a 7) 0 x0 0 (segsOf bs count) = none →
      inTravel (-(256 * (s.ap a 0x0C : Int))) (256 * (s.ap a 3 : Int)) x0 = true →
      Does (.opSegTableLoad r a.val number count x0) s fun t =>
        { number := number, x0 := x0, segs := segsOf bs count } ∈ t.axes[a].tables ∧
        Answers t r Opc.OP_SEG_TABLE_LOAD ST_OK 0) ∧
    (∀ bs, r.bufLen = 2052 → r.buf = some bs → s.notOwner r .paramSet = false → mstepFail bs = none →
      s.axes[a].plan = none →
      Does (.opMstepTableLoad r a.val) s fun t =>
        t.axes[a].custom = some ((List.range 1024).map fun n => s16At bs (2 * n)) ∧
        Answers t r Opc.OP_MSTEP_TABLE_LOAD ST_OK 0)

/-- What time, switches and the encoder bring to an axis (R70, R83, R85, R87 to R89). -/
def Obligations.AxisEventsComplete : Prop :=
  ∀ (s : State) (a : Axis),
    (∀ p, s.axes[a].plan = some p → s.axes[a].ref = none →
      Does (.moveEnd a) s fun t =>
        t.axes[a].x = p.target ∧ t.axes[a].v = 0 ∧ t.axes[a].a = 0 ∧ t.axes[a].plan = none) ∧
    (∀ from_, s.axes[a].settleFrom = some from_ →
      Does (.standstillSettle a) s fun t =>
        t.axes[a].settleFrom = none ∧ t.axes[a].driving = false ∧ t.now = max s.now (from_ + s.ap a 0x16 * msec)) ∧
    (∀ from_, s.axes[a].wakeFrom = some from_ →
      Does (.wakeRampEnd a) s fun t => t.axes[a].wakeFrom = none) ∧
    (∀ b, s.axes[a].ref = none → (if b then 0 < s.axes[a].v else s.axes[a].v < 0) → s.ap a 0x1A = 0 →
      Does (.limitReached a b) s fun t =>
        t.axes[a].limits[(if b then (1 : Fin 2) else 0)] = true ∧ t.axes[a].v = 0 ∧ t.axes[a].plan = none) ∧
    (s.refStageIs a .search = true →
      Does (.refSwitchMet a) s fun t =>
        t.axes[a].limits[(if s.ap a 0x1C = 1 then (1 : Fin 2) else 0)] = true) ∧
    (∀ count, s.refStageIs a .back = true →
      Does (.refLatch a count) s fun t =>
        t.axes[a].referenced = true ∧ t.axes[a].uncertain = false ∧ t.refStageIs a .rest = true) ∧
    (s.refStageIs a .search = true →
      Does (.refSearchFail a) s fun t => t.axes[a].ref = none ∧ t.axes[a].uncertain = true) ∧
    (s.refStageIs a .back = true →
      Does (.refLatchFail a) s fun t => t.axes[a].ref = none ∧ t.axes[a].uncertain = true) ∧
    (s.hasEncoder a = true → s.refStageIs a .search = true ∨ s.refStageIs a .back = true →
      Does (.encDirection a) s fun t =>
        t.axes[a].ref = none ∧ t.axes[a].uncertain = true ∧ t.axes[a].v = 0 ∧ t.axes[a].plan = none) ∧
    (∀ d, s.refStageIs a .waitProof = true → s.doorOfAxis a = some d →
      Does (.refLockTimeout a) s fun t =>
        t.axes[a].ref = none ∧ t.axes[a].referenced = s.axes[a].referenced ∧
        t.axes[a].uncertain = s.axes[a].uncertain)

/-- Faults and readings of an axis module (R93 to R98, R100, R102, Table AX-7). -/
def Obligations.AxisModulesComplete : Prop :=
  ∀ (s : State) (m : Axis),
    (∀ phaseB, Does (.overcurrentTrip m phaseB) s fun t => t.axMods[m].fault = 1) ∧
    (Does (.peakLimit m) s fun t => t.axMods[m].peakFlag = true ∧ t.axMods[m].peakBudget = 0) ∧
    (∀ mV, mV < 36000 ∨ 70000 < mV →
      Does (.busRangeFault m mV) s fun t => t.axMods[m].fault = if mV < 36000 then 5 else 6) ∧
    (s.axMods[m].fault = 5 ∨ s.axMods[m].fault = 6 →
      Does (.busRangeClear m) s fun t => t.axMods[m].fault = 0) ∧
    (∀ reason, Does (.encFault m reason) s fun t =>
      t.axMods[m].encFault = true ∧ t.axes[s.axisOfLane m].encUsable = false) ∧
    (∀ ohm, s.param (pAxMod m.val 7) = 1 → 3000 < ohm → ohm ≤ 20000 →
      Does (.motorTemp m ohm) s fun t =>
        t.axMods[m].tempLevel = 2 ∧ t.axes[s.axisOfLane m].tempCap = true) ∧
    (∀ celsius, 105 ≤ celsius → Does (.heatsink m celsius) s fun t => t.axMods[m].fault = 7) ∧
    (∀ phase, Does (.resistanceCheck m phase) s fun t =>
      t.axMods[m].checkRunning = false ∧ t.axMods[m].checkPassed = ((checkVerdict
        (s.axMods[m].cfg[(0 : Fin 8)].elim (s.ap (s.axisOfLane m) 0x0F) BitVec.toNat) phase).1 == .pass)) ∧
    (Does (.axConfigMismatch m) s fun t =>
      t.axMods[m].fault = 8 ∧ t.frame.slots[axisSlot m].inService = false ∧
      t.frame.slots[axisSlot m].heldOut = some .config) ∧
    (s.axMods[m].lossState = false → Does (.lossState m) s fun t => t.axMods[m].lossState = true)

/-- The following watch and the lanes of a pair (R106, R111 to R114). -/
def Obligations.LanesComplete : Prop :=
  ∀ (s : State) (m a : Axis),
    (∀ d, s.axes[a].plan.isSome = true → s.axes[a].ref = none → s.doorOfAxis a = some d →
      (s.leafAxesOf d).contains a = true → s.doors.door[d].leaf = .closing → bit (s.op d 0x12) 2 = true →
      Does (.following a) s fun t => t.doors.door[d].leaf = .reopening) ∧
    (s.axes[a].plan.isSome = true → s.axes[a].ref = none → s.doorOfAxis a = none →
      Does (.following a) s fun t => t.axes[a].cmd = none) ∧
    (s.twin (s.axisOfLane m) = false →
      Does (.laneLost m) s fun t => t.axes[s.axisOfLane m].plan = none ∧ t.axes[s.axisOfLane m].v = 0) ∧
    (s.twin (s.axisOfLane m) = true → s.axes[s.axisOfLane m].lanes[laneIndex m] = true →
      Does (.laneLost m) s fun t => t.axes[s.axisOfLane m].lanes[laneIndex m] = false) ∧
    (s.twin (s.axisOfLane m) = true → s.axes[s.axisOfLane m].leaving = some (laneIndex m) →
      Does (.laneLeft m) s fun t =>
        t.axes[s.axisOfLane m].lanes[laneIndex m] = false ∧ t.axes[s.axisOfLane m].leaving = none) ∧
    (s.mayRejoin m = true →
      Does (.laneRejoin m) s fun t =>
        t.axes[s.axisOfLane m].rejoining = some (laneIndex m, none) ∧ t.axMods[m].checkRunning = true) ∧
    (∀ from_, s.axes[s.axisOfLane m].rejoining = some (laneIndex m, some from_) →
      Does (.twinJoined m) s fun t =>
        t.axes[s.axisOfLane m].lanes[laneIndex m] = true ∧ t.axes[s.axisOfLane m].rejoining = none ∧
        t.axes[s.axisOfLane m].derated = false) ∧
    (∀ encoders difference, s.twin a = true → s.axes[a].disagree = none →
      Does (.laneDisagree a encoders difference) s fun t =>
        t.axes[a].disagree = some (if encoders then 2 else 1))

/-- Field inputs and their group supplies (R141, R143, R144, R146, R149, R150). -/
def Obligations.FieldInputsComplete : Prop :=
  ∀ (s : State) (c : Chan),
    (∀ active, s.fieldUp c = true → s.chanIsIn c = true → s.field.chan[c].code < 3 →
      Does (.filterConfirm c active) s fun t => t.field.chan[c].value = active ∧ t.field.chan[c].code = 0) ∧
    (∀ data, s.fieldUp c = true → s.field.group[chanGroup c].state.out = false → chanMode (s.fioCfg c) c.val = 1 →
      chanSuper (s.fioCfg c) c.val ≠ 0 →
      Does (.inputFault c .openWire data) s fun t =>
        t.field.chan[c].code = 3 ∧ t.field.chan[c].value = s.restrictive c ∧
        Raised s t Ev.FI_OPEN_WIRE [.u8 c.val, .u16 data]) ∧
    (∀ data, s.fieldUp c = true → s.field.group[chanGroup c].state.out = false → chanMode (s.fioCfg c) c.val = 1 →
      Does (.inputFault c .shortSupply data) s fun t =>
        t.field.chan[c].code = 4 ∧ t.field.chan[c].value = s.restrictive c) ∧
    (∀ data, s.fieldUp c = true → s.field.group[chanGroup c].state.out = false → chanMode (s.fioCfg c) c.val = 2 →
      Does (.inputFault c .overvoltage data) s fun t =>
        t.field.chan[c].code = 7 ∧ t.field.chan[c].value = s.restrictive c) ∧
    (s.field.chan[c].code = 3 ∨ s.field.chan[c].code = 4 ∨ s.field.chan[c].code = 7 → s.chanIsIn c = true →
      s.field.group[chanGroup c].state.out = false →
      Does (.inputFaultClear c) s fun t =>
        t.field.chan[c].code = 1 ∧ t.field.chan[c].valid = false ∧ t.field.chan[c].value = s.restrictive c) ∧
    (∀ data, s.chanIsIn c = true → s.field.chan[c].code = 1 →
      Does (.bandResolve c data) s fun t =>
        t.field.chan[c].code = 2 ∧ t.field.chan[c].value = s.restrictive c ∧
        t.now = max s.now (s.field.chan[c].sinceNoValue + s.field.mods[chanMod c.val].cfg 0x65 * msec)) ∧
    (∀ data, s.chanIsIn c = true → s.field.chan[c].code = 0 → s.field.mods[chanMod c.val].cfg 0x66 ≠ 0 →
      Does (.bandHold c data) s fun t =>
        t.field.chan[c].code = 2 ∧ t.field.chan[c].value = s.restrictive c) ∧
    (∀ (g : Group) deciVolt, deciVolt.natAbs ≤ 360 → s.field.group[g].state ≠ .notWired →
      Does (.groupSupplyChange g deciVolt) s fun t =>
        t.field.group[g].state = groupAt s.field.group[g].state deciVolt ∧
        t.field.group[g].voltage = deciVolt.toNat) ∧
    (∀ (g : Group) deciVolt, 360 < deciVolt.natAbs →
      exec (.groupSupplyChange g deciVolt) s = .fault .overstress)

/-- Field outputs: trips, diagnoses, re-arming and demands (R152 to R155, Table HR-16). -/
def Obligations.FieldOutputsComplete : Prop :=
  ∀ (s : State) (c : Chan),
    (s.fieldUp c = true → s.chanIsOut c = true → s.field.chan[c].latched = 0 →
      (Does (.outOverload c) s fun t =>
        t.field.chan[c].latched = 8 ∧ ∀ x ∈ s.members (s.leadOf c), t.field.chan[x].on = false) ∧
      (Does (.outOvertemp c) s fun t =>
        t.field.chan[c].latched = 11 ∧ ∀ x ∈ s.members (s.leadOf c), t.field.chan[x].on = false) ∧
      (∀ mA, s.field.chan[s.leadOf c].on = true → s.field.chan[s.leadOf c].diag ≠ 9 →
        Does (.outOpenOn c mA) s fun t =>
          t.field.chan[s.leadOf c].diag = 9 ∧ t.field.chan[s.leadOf c].on = true) ∧
      (∀ v, s.field.chan[s.leadOf c].on = false → s.field.chan[s.leadOf c].diag ≠ 10 →
        bit (s.fioCfg c (pFieldChan c.val 1)) 5 = true →
        Does (.outOpenOff c v) s fun t => t.field.chan[s.leadOf c].diag = 10) ∧
      (∀ v, s.field.chan[s.leadOf c].on = false → s.field.chan[s.leadOf c].diag ≠ 12 →
        Does (.outShortSupply c v) s fun t => t.field.chan[s.leadOf c].diag = 12)) ∧
    (s.leadOf c = c → s.setLatched c ≠ 0 → s.field.chan[c].demand = true → s.field.chan[c].cycledOff = true →
      Does (.rearmDue false c.val) s fun t =>
        t.field.chan[c].rearm = true ∧ t.field.chan[c].cycledOff = false ∧
        t.now = max s.now (s.field.chan[c].trippedAt + 100 * msec)) ∧
    (∀ member mA, Does (.parallelFault c member mA) s fun t =>
      t.field = s.field ∧ Raised s t Ev.FI_PARALLEL_FAULT [.u8 c.val, .u8 member.val, .u16 mA]) ∧
    (∀ r mask state,
      (∀ x : Chan, mask.getLsbD x.val = true → s.ownerOf (.field x.val) = some r.party ∧
        chanMode s.param x.val = 3 ∧ outParallel s.param x.val ≠ 7) →
      Does (.opFioSet r mask state) s fun t => Answers t r Opc.OP_FIO_SET ST_OK 0 ∧
        (∀ x : Chan, t.field.chan[x].demand =
          if mask.getLsbD x.val then state.getLsbD x.val else s.field.chan[x].demand))

/-- The barrier, safe states, hold and configuration of a field module (R131, R156 to R160). -/
def Obligations.FieldModulesComplete : Prop :=
  ∀ (s : State) (m : Fin 2),
    (Does (.barrierFrame m true) s fun t =>
      t.field.mods[m].badRun = 0 ∧ t.field.mods[m].staleEdges = false ∧ t.field.mods[m].image = t.fieldImage m) ∧
    (Does (.barrierFrame m false) s fun t =>
      t.field.mods[m].badRun = s.field.mods[m].badRun + 1 ∧
      t.field.mods[m].crcErrors = BitVec.ofNat 16 (satAdd 16 s.field.mods[m].crcErrors.toNat 1) ∧
      (1 ≤ s.field.mods[m].badRun → t.field.mods[m].staleEdges = true)) ∧
    (Does (.barrierCmdFrame m true) s fun t =>
      t.field.mods[m].fieldMiss = 0 ∧ t.field.mods[m].fieldHold = s.field.mods[m].hold) ∧
    (Does (.barrierCmdFrame m false) s fun t => t.field.mods[m].fieldMiss = s.field.mods[m].fieldMiss + 1) ∧
    (s.field.mods[m].fieldUp = true → s.field.mods[m].hold = false → s.field.mods[m].fieldHold = false →
      s.field.mods[m].rearmCmd = 0 → s.field.mods[m].cmdValid = true →
      s.field.mods[m].safe = false ∨ s.field.mods[m].ackSafe = true →
      (∀ x ∈ modChans m, s.leadOf x = x ∧ s.members x = [x]) →
      Does (.barrierCmdFrame m true) s fun t => t.field.mods[m].safe = false ∧
        ∀ x ∈ modChans m, s.chanIsOut x = true → s.field.group[chanGroup x].state.drives = true →
          s.field.chan[x].latched = 0 → t.field.chan[x].on = s.field.mods[m].outCmd.getLsbD (x.val % 32)) ∧
    (∀ barrier, s.field.mods[m].fieldUp = true → s.field.mods[m].safe = false → s.field.mods[m].fieldHold = false →
      (∀ x ∈ modChans m, s.leadOf x = x ∧ s.members x = [x]) →
      Does (.fiSafeState m barrier) s fun t =>
        t.field.mods[m].safe = true ∧ (barrier = false → t.field.mods[m].cmdValid = false) ∧
        ∀ x ∈ modChans m, s.chanIsOut x = true →
          (bits (s.fioCfg x (pFieldChan x.val 1)) 0 2 = 0 → t.field.chan[x].on = false) ∧
          (2 ≤ bits (s.fioCfg x (pFieldChan x.val 1)) 0 2 → t.field.chan[x].on = s.field.chan[x].on)) ∧
    (s.fieldMatches m = true →
      Does (.fiConfigApply m) s fun t =>
        t.field.mods[m].fieldUp = true ∧ t.field.mods[m].appliedAny = true ∧
        t.field.mods[m].applied = s.field.mods[m].staged.map (fun v => v.getD 0) ∧
        t.field.mods[m].image.cfgCrc = s.field.mods[m].cfgCrc) ∧
    (Does (.fiConfigMismatch m) s fun t =>
      t.frame.slots[fieldSlot m].inService = false ∧ t.frame.slots[fieldSlot m].heldOut = some .config)

/-- Load switches: supply, protection, diagnosis and the wire model (R165 to R172, R434). -/
def Obligations.LoadSwitchesComplete : Prop :=
  ∀ (s : State) (c : LoadCh),
    (∀ v, v.natAbs ≤ (if s.ls110 then 1750 else 1540) →
      Does (.loadSupplyChange v) s fun t => t.load.supply = s.loadSupplyAt v ∧ t.load.voltage = v) ∧
    (∀ v, (if s.ls110 then 1750 else 1540) < v.natAbs → exec (.loadSupplyChange v) s = .fault .overstress) ∧
    (∀ v, s.ls110 = false → 370 < v → v ≤ 1540 → Does (.ls24OvervoltSwitch v) s fun t => t.load.inputOpen = true) ∧
    (∀ v, s.ls110 = false → v < 360 → s.load.inputOpen = true →
      Does (.ls24OvervoltSwitch v) s fun t => t.load.inputOpen = false ∧
        t.now = max s.now (s.load.inputOpenBelow.getD s.now + 10 * msec)) ∧
    (s.loadMode c = true → s.load.chan[c].latched = 0 →
      (∀ why, Does (.lsOverload c why) s fun t => t.load.chan[c].latched = 1 ∧ t.load.chan[c].on = false) ∧
      (s.load.chan[c].on = true → Does (.inrushWindowEnd c true) s fun t =>
        t.load.chan[c].latched = 1 ∧ t.load.chan[c].on = false ∧
        t.now = max s.now (s.load.chan[c].onAt + s.loadInrush c)) ∧
      (∀ celsius, Does (.lsOvertemp c celsius) s fun t =>
        t.load.chan[c].latched = 5 ∧ t.load.chan[c].hot = true ∧ t.load.chan[c].on = false) ∧
      (∀ mJ avg, s.clampRating c < mJ → Does (.clampPulse c mJ avg) s fun t =>
        t.load.chan[c].latched = 8 ∧ t.load.chan[c].on = false)) ∧
    (∀ mJ avg, Does (.clampPulse c mJ avg) s fun t =>
      t.load.chan[c].clampAvg = avg ∧ t.load.chan[c].clampLast = mJ) ∧
    (∀ avg, avg < 500 → Does (.clampHoldEnd c avg) s fun t => t.load.chan[c].holdingBack = false) ∧
    (∀ mA : Vector Nat 12, s.load.powerUp = true → s.loadMode c = true →
      Does (.wireModelUpdate mA) s fun t =>
        t.load.chan[c].heat = wireUpdate s.load.chan[c].heat (s.wireTau c) (s.tripCurrent c) mA[c] ∧
        (heatUnit ≤ t.load.chan[c].heat → s.load.chan[c].latched = 0 → t.load.chan[c].latched = 2)) ∧
    (∀ mA, bit (s.loadWord c) 11 = true → s.loadMode c = true → s.load.chan[c].on = true →
      s.load.chan[c].diag ≠ 3 → Does (.lsOpenOn c mA) s fun t => t.load.chan[c].diag = 3) ∧
    (∀ v, bit (s.loadWord c) 9 = true → s.loadMode c = true → s.load.chan[c].on = false →
      s.load.chan[c].diag ≠ 4 → Does (.lsOpenOff c v) s fun t => t.load.chan[c].diag = 4) ∧
    (∀ v, s.loadMode c = true → s.load.chan[c].on = false → s.load.chan[c].diag ≠ 6 →
      Does (.lsShortSupply c v) s fun t => t.load.chan[c].diag = 6) ∧
    ([3, 4, 6].contains s.load.chan[c].diag = true →
      Does (.lsDiagCleared c) s fun t => t.load.chan[c].diag = 0 ∧
        Raised s t Ev.LS_DIAG_CLEARED [.u8 (loadNo c), .u8 s.load.chan[c].diag])

/-- Load demands, re-arming, safe states and configuration (R173, R176, R178, R180). -/
def Obligations.LoadCommandsComplete : Prop :=
  ∀ (s : State) (r : Req) (mask state : BitVec 16),
    (loadMaskBad mask = false →
      (∀ c : LoadCh, mask.getLsbD c.val = true → s.loadNotOwned r c = false ∧ s.loadBlocked c = false) →
      Does (.opLoadSet r mask state) s fun t =>
        (∃ p ∈ t.load.setPending, p.req = r ∧ p.mask = mask.setWidth 12 ∧
          p.state = state.setWidth 12 &&& mask.setWidth 12) ∧
        ∀ c : LoadCh, mask.getLsbD c.val = true → t.load.chan[c].demand = state.getLsbD c.val) ∧
    (loadMaskBad mask = false → (∀ c : LoadCh, mask.getLsbD c.val = true → s.loadNotOwned r c = false) →
      (∃ c : LoadCh, mask.getLsbD c.val = true ∧ s.load.chan[c].latched ≠ 0) →
      (∀ c : LoadCh, mask.getLsbD c.val = true → s.load.chan[c].latched ≠ 0 → s.loadCooled c = true) →
      Does (.opLoadRearm r mask) s fun t =>
        (r, mask.setWidth 12) ∈ t.load.rearmPending ∧
        ∀ c : LoadCh, mask.getLsbD c.val = true → s.load.chan[c].latched ≠ 0 →
          t.load.chan[c].rearm = true ∧ t.load.chan[c].cycledOff = false) ∧
    (∀ c : LoadCh, s.load.chan[c].latched ≠ 0 → s.load.chan[c].demand = true → s.load.chan[c].cycledOff = true →
      s.load.chan[c].latched ≠ 2 ∨ 10 * s.load.chan[c].heat < 4 * heatUnit →
      Does (.rearmDue true (loadNo c)) s fun t =>
        t.load.chan[c].rearm = true ∧ t.load.chan[c].cycledOff = false ∧
        t.now = max s.now (s.load.chan[c].trippedAt + 100 * msec)) ∧
    (s.load.safe = false → s.load.hold = false → s.load.appliedAny = true →
      Does .lsSafeState s fun t => t.load.safe = true ∧
        ∀ c : LoadCh, bits (s.loadWord c) 7 2 = 0 → t.load.chan[c].on = false) ∧
    (s.loadMatches = true →
      Does .lsConfigApply s fun t =>
        t.load.powerUp = true ∧ t.load.appliedAny = true ∧
        t.load.applied = s.load.staged.map (fun v => v.getD 0) ∧
        (s.load.appliedAny = false → ∀ c : LoadCh, t.load.chan[c].heat = 4 * 10 ^ 11)) ∧
    (Does .lsConfigMismatch s fun t =>
      t.frame.slots[l0Slot].inService = false ∧ t.frame.slots[l0Slot].heldOut = some .config)

/-- Feeds, sharing and overload as a running core reads them (Table SU-3, R185 to R187, R190, R191, R432). -/
def Obligations.FeedsComplete : Prop :=
  ∀ (s : State) (p : Fin 2),
    (∀ v, s.feedOverstress p v = false → s.aboveStopLevel p v = false →
      Does (.powerModuleEnergised p v) s fun t =>
        t.supply.pm[p].energised = true ∧
        (s.aboveStart p v = true → t.supply.pm[p].feed = .qualifying) ∧
        (-50 ≤ v → s.aboveStart p v = false → t.supply.pm[p].feed = .stopped) ∧
        (v < -50 → t.supply.pm[p].feed = .reversed)) ∧
    (∀ v, s.feedOverstress p v = false → s.coreReads = true →
      Does (.feedCrossing p v) s fun t =>
        t.supply.pm[p].feed = s.nextFeed p v ∧ t.supply.pm[p].vIn = v ∧ t.supply.pm[p].repFeed = s.nextFeed p v) ∧
    (∀ v, s.feedOverstress p v = true →
      exec (.powerModuleEnergised p v) s = .fault .overstress ∧ exec (.feedCrossing p v) s = .fault .overstress) ∧
    (s.supply.pm[p].feed = .qualifying → s.coreReads = true →
      Does (.feedQualified p) s fun t => t.supply.pm[p].feed = .good ∧
        t.now = max s.now (s.supply.pm[p].qualFrom + 200 * msec)) ∧
    (s.supply.pm[p].feed = .interrupted → s.coreReads = true →
      Does (.feedInterruptEnd p) s fun t => t.supply.pm[p].feed = .stopped ∧
        t.now = max s.now (s.supply.pm[p].interruptedAt + 10 * msec)) ∧
    (∀ share0 share1, Does (.shareFault share0 share1) s fun t =>
      t.supply = s.supply ∧ Raised s t Ev.SU_SHARE_FAULT [.u8 share0, .u8 share1]) ∧
    (∀ pOut rail, Does (.suOverload p pOut rail) s fun t => t.supply.pm[p].currentLimit = true ∧
      (s.overloadDue p = true → t.supply.pm[p].overloadAt = some s.now ∧
        Raised s t Ev.SU_OVERLOAD [.u8 p.val, .u16 pOut, .u8 rail]))

/-- The shut-down sequence and the two starts (R193 to R200, R218). -/
def Obligations.ShutdownCompletes : Prop :=
  ∀ (s : State),
    (s.supply.onStore = true → s.supply.step = none → s.anyPm = false →
      Does .lossRideExpired s fun t => t.supply.step = some .s2 ∧ t.supply.compressed = !s.energy.ready ∧
        t.supply.s1At = max s.now (s.supply.lossAt + s.param 0x482 * msec)) ∧
    (s.supply.step = some .s1 → Does .shutdownStepEnd s fun t => t.supply.step = some .s2) ∧
    (s.supply.step = some .s2 → s.supply.compressed = false →
      Does .shutdownStepEnd s fun t => t.supply.step = some .s3) ∧
    (s.supply.step = some .s3 → s.anyPm = false →
      Does .shutdownStepEnd s fun t => t.supply.step = some .s4 ∧ t.supply.record.isSome = true) ∧
    (s.supply.step = some .s3 → s.anyPm = true →
      Does .shutdownStepEnd s fun t => t.supply.step = none ∧ t.supply.onStore = false) ∧
    (s.supply.step = some .s4 →
      Does .shutdownStepEnd s fun t => t.supply.step = some .s5 ∧ t.power.parked = true ∧
        ∀ a : Axis, t.axes[a].driving = false) ∧
    (s.supply.step = some .s5 →
      Does .shutdownStepEnd s fun t => t.supply.step = some .s6 ∧ t.supply.padHold = true ∧
        t.load.holdCmd = true ∧ ∀ m : Fin 2, t.field.mods[m].holdDown = true) ∧
    (s.supply.step = some .s6 → s.svcPower < 7000 →
      Does .shutdownStepEnd s fun t => t.power.state = .off ∧ t.supply.step = none ∧ t.supply.hostRailsOff = true) ∧
    (s.inS1toS3 = true → s.anyPm = false →
      (Does .shutdownCap s fun t => t.supply.capped = true ∧ t.supply.step = some .s4 ∧
        t.now = max s.now (s.supply.s1At + s.param 0x483 * sec)) ∧
      (Does .lastAction s fun t => t.supply.byReserve = true ∧ t.supply.step = some .s4)) ∧
    (s.supply.step.isSome = true → s.supply.hostRailsOff = false →
      Does .hostHoldExpired s fun t => t.supply.hostRailsOff = true ∧
        (∀ k : Slot, k = 5 ∨ k = 6 → t.frame.slots[k].railsOn = false ∧ t.frame.slots[k].inService = false) ∧
        t.now = max s.now (s.supply.s1At + s.param 0x484 * sec)) ∧
    (s.mayStart = true → s.feedGood = true →
      (s.fastDue = true → Does .fastRestart s fun t =>
        t.supply.serviceOnly = false ∧ t.supply.onStore = false ∧
        ∃ k, t.power.wake = some k ∧ k.start = 2 ∧ k.runAt = s.now + 1500 * msec) ∧
      (s.fastDue = false → Does .fullStart s fun t =>
        t.supply.serviceOnly = false ∧ t.supply.onStore = false ∧ t.time.sched = [] ∧
        ∃ k, t.power.wake = some k ∧ k.start = 1 ∧ k.runAt = s.now + 4000 * msec))

/-- The service ports (R201 to R206). -/
def Obligations.ServicePowerCompletes : Prop :=
  ∀ (s : State) (core : CoreId),
    (∀ pd offers typeC, Does (.svcAttach core pd offers typeC) s fun t =>
      t.supply.sinks[core].attached = true ∧ t.supply.sinks[core].volts = (s.contract pd offers typeC).1 ∧
      t.supply.sinks[core].mA = (s.contract pd offers typeC).2) ∧
    (∀ volts, s.supply.sinks[core].attached = true →
      Does (.svcTransitionAccept core volts) s fun t =>
        t.supply.sinks[core].transition = true ∧ t.supply.sinks[core].shed = true ∧
        t.supply.sinks[core].newVolts = volts ∧ t.supply.svcField = false ∧ t.supply.svcPanel = false) ∧
    (s.supply.sinks[core].transition = true →
      Does (.svcPsRdy core) s fun t => t.supply.sinks[core].transition = false ∧
        t.supply.sinks[core].readyAt = some s.now) ∧
    (∀ at_, s.supply.sinks[core].readyAt = some at_ →
      Does (.svcLoadsReturn core) s fun t => t.supply.sinks[core].shed = false ∧
        t.supply.sinks[core].volts = s.supply.sinks[core].newVolts ∧ t.now = max s.now (at_ + 10 * msec)) ∧
    (s.supply.sinks[core].attached = true → s.anyPm = true →
      (Does (.svcDetach core) s fun t => t.supply.sinks[core].attached = false ∧ t.update.session[core].level = 0) ∧
      (Does (.svcBrownout core) s fun t => t.supply.sinks[core].attached = false) ∧
      (Does (.pdHardReset core) s fun t => t.supply.sinks[core].transition = true ∧
        t.supply.sinks[core].newVolts = 5 ∧ t.update.session[core].level = 0)) ∧
    (s.supply.sinks[core].attached = true → s.anyPm = false → s.pair.core[core].present = true →
      s.supply.sinks[otherCore core].attached = false →
      Does (.svcBrownout core) s fun t => t.power.state = .off ∧ t.supply.serviceOnly = false ∧
        t.supply.record.isSome = true ∧ t.pair.core[core].present = false)

/-- The energy module, its reserve and its estimator (R210 to R213, R217, R219 to R224, R235). -/
def Obligations.EnergyCompletes : Prop :=
  ∀ (s : State),
    (∀ cell kind value, s.energy.fault = 0 → 1 ≤ kind → kind ≤ 3 →
      Does (.cellFault cell kind value) s fun t =>
        t.energy.fault = BitVec.ofNat 8 kind ∧ t.energy.state = .fault ∧ t.energy.charging = false ∧
        t.energy.ready = false ∧ t.frame.slots[e0Slot].inService = false) ∧
    (∀ cell celsius, Does (.cellTemp cell celsius) s fun t =>
      t.energy.tCellMax = celsius ∧ t.energy.derate = decide (55 < celsius) ∧
      t.energy.chargerOff = (decide (70 < celsius) || s.energy.fault != 0)) ∧
    (∀ budget, Does (.boostLimit budget) s fun t =>
      t.energy.flags = s.energy.flags ||| 8 ∧ Raised s t Ev.EN_BOOST_LIMIT [.u8 (if budget then 2 else 1)]) ∧
    (Does .boostCutoff s fun t =>
      t.energy.boostCut = true ∧ t.energy.boostOn = false ∧ t.energy.state = .empty) ∧
    (Does .emLossTimeout s fun t =>
      t.energy.charging = false ∧ t.energy.boostOn = !s.energy.boostCut ∧ t.energy.vFloor = s.energy.vFloor ∧
      t.energy.vCharge = s.energy.vCharge) ∧
    (s.supply.onStore = true → s.energy.floorReached = false →
      Does .reserveFloor s fun t => t.energy.floorReached = true ∧
        ∀ a : Axis, s.s3Stow a = false → t.axes[a].driving = false) ∧
    (s.mayRest = true →
      Does .restWindowStart s fun t =>
        t.energy.window = some s.now ∧ t.energy.windowCmd = true ∧ t.energy.charging = false) ∧
    (∀ from_ c esr, s.energy.window = some from_ →
      Does (.restWindowDone c esr) s fun t =>
        t.energy.window = none ∧ t.energy.cW = c ∧ t.energy.esrW = esr ∧ t.energy.est = .rest ∧
        t.now = max s.now (from_ + 2 * sec) ∧ t.energy.lastWindow = some t.now ∧
        ∀ r, s.energy.windowReq = some r → Answers t r Opc.OP_REST_WINDOW ST_OK 0) ∧
    (∀ cause, s.energy.window.isSome = true →
      Does (.windowAborted cause) s fun t =>
        t.energy.window = none ∧ t.energy.windowReq = none ∧
        ∀ r, s.energy.windowReq = some r → Answers t r Opc.OP_REST_WINDOW ST_PREEMPTED 0) ∧
    (∀ last, s.energy.est = .rest → s.energy.lastWindow = some last →
      max s.now (last + s.param 0x4A3 * hourNs) < last + s.param 0x4A4 * hourNs →
      Does .estFitAfter s fun t => t.energy.est = .fit ∧ t.now = max s.now (last + s.param 0x4A3 * hourNs)) ∧
    (∀ last, s.energy.lastWindow = some last →
      s.energy.est = .fit ∨ (s.energy.est = .rest ∧ s.param 0x4A3 ≤ s.param 0x4A4) →
      Does .estStaleAfter s fun t =>
        t.energy.est = .stale ∧ t.now = max s.now (last + s.param 0x4A4 * hourNs)) ∧
    (∀ last wanted, s.energy.lastWindow = some last → s.energy.est = .stale → s.energy.wantedAt = some wanted →
      Does .restWanted s fun t =>
        t.energy.wantedAt = some t.now ∧ t.now = max s.now (wanted + 24 * hourNs)) ∧
    (∀ r, s.restRefusal = none →
      Does (.opRestWindow r) s fun t =>
        t.energy.window = some s.now ∧ t.energy.windowReq = some r ∧ t.energy.blockUntil = some (s.now + 3 * sec)) ∧
    (∀ r detail, s.restRefusal = some detail →
      Does (.opRestWindow r) s fun t =>
        Answers t r Opc.OP_REST_WINDOW ST_STATE detail ∧ t.energy = s.energy)

/-- Consent, entry and pad hold (R239 to R246, R254, Tables PW-3 and PW-10). -/
def Obligations.PowerEntryCompletes : Prop :=
  ∀ (s : State),
    (∀ r target alarm, r.party = .p0 ∨ r.party = .p1 ∨ target = 2 ∨ target = 3 ∨ target = 4 →
      (∃ q ∈ consentParties, q ≠ r.party ∧ s.holdsClaim q = true ∧ s.consentOf q = none) →
      Does (.opWait r target alarm) s fun t =>
        t.power.waits = s.power.waits ++ [{ req := r, target := target, alarm := alarm }] ∧ t.power.entry = s.power.entry) ∧
    (∀ r target alarm, (r.party = .p0 ∧ s.power.mode[(0 : Fin 2)].getLsbD 0 = true) ∨
        (r.party = .p1 ∧ s.power.mode[(1 : Fin 2)].getLsbD 0 = true) ∨
        ((r.party = .p2 ∨ r.party = .p4) ∧ (target = 2 ∨ target = 3 ∨ target = 4)) →
      s.power.state = .run → s.power.entry = none → s.power.wake = none → s.supply.serviceOnly = false →
      (∀ q ∈ consentParties, q ≠ r.party → s.holdsClaim q = true → (s.consentOf q).isSome = true) →
      (∀ n, s.entryRefusal n = none) →
      Does (.opWait r target alarm) s fun t => t.power.entry = some .n2 ∧ t.supply.record.isSome = true) ∧
    (∀ (p : HostPort) v, (v : BitVec 32).getLsbD 0 = false ∨
        (∃ q ∈ consentParties, q ≠ hostParty p ∧ s.holdsClaim q = true ∧ s.consentOf q = none) →
      Does (.pwrModeConsent p s.activeCore v) s fun t => t.power.mode[p] = v &&& 0x1F) ∧
    (∀ p v, Does (.pwrWakeCauseClear p s.activeCore v) s fun t => t.power.cause = s.power.cause &&& ~~~v) ∧
    (s.tlIdle = true → (∃ q ∈ consentParties, q ≠ .tl ∧ s.holdsClaim q = true ∧ s.consentOf q = none) →
      Does .tlConsent s fun t => t.power.consents[(4 : Fin 5)] = true ∧
        t.now = max s.now (s.power.tlIdleFrom.getD s.now + s.param 0x4D4 * sec)) ∧
    (s.power.entry = some .n2 →
      Does .entryStepEnd s fun t => t.power.entry = some .n3 ∧ t.power.parked = true ∧ t.power.hold = true ∧
        t.load.holdCmd = true ∧ ∀ c : CoreId, t.doors.relays[c] = false) ∧
    (s.power.entry = some .n3 →
      Does .entryStepEnd s fun t => t.power.entry = some .n4 ∧ t.power.waits = []) ∧
    (s.power.entry = some .n4 →
      Does .entryStepEnd s fun t => t.power.entry = some .n5 ∧
        t.now = max s.now (s.power.entryFrom + s.param 0x4D6 * msec)) ∧
    (s.power.entry = some .n5 →
      Does .entryStepEnd s fun t => t.power.entry = some .n6 ∧ t.power.wkStart = s.power.wk ∧
        t.now = max s.now (s.power.entryFrom + 2 * msec)) ∧
    (∀ k cause, s.power.entry = some k → k ≠ .n6 → cause ≠ 5 →
      Does (.entryAborted cause) s fun t => t.power.entry = none ∧ t.power.waits = [] ∧
        (3 ≤ entryNo k → ∃ w, t.power.wake = some w ∧ w.row = .linksUp ∧ w.abort = true)) ∧
    (∀ wk, s.power.entry = some .n6 → s.update.pairUpdate = false →
      s.wkLevel s.power.target &&& s.wkActiveMask wk = 0 →
      Does (.entryWindowEnd wk) s fun t => t.power.entry = none ∧ t.power.state = powerOf s.power.target ∧
        t.power.wk = wk ∧ t.now = max s.now (s.power.entryFrom + 122100)) ∧
    (∀ r, s.power.hold = true → r.party = .p4 ∨ s.holdsClaim r.party = true →
      Does (.opReleaseHold r) s fun t => t.power.hold = false ∧ t.load.holdCmd = false ∧
        (∀ m : Fin 2, t.field.mods[m].holdDown = false) ∧ Answers t r Opc.OP_RELEASE_HOLD ST_OK 0) ∧
    (∀ from_, s.power.holdFrom = some from_ → s.param 0x4D5 ≠ 0 → s.power.hold = true →
      Does .holdAutoRelease s fun t => t.power.hold = false ∧ t.power.holdFrom = none ∧
        t.now = max s.now (from_ + s.param 0x4D5 * msec))

/-- Waking from a low-power state and failed wakes (R246 to R253, R256, R261, R284, Tables PW-5 and PW-6). -/
def Obligations.WakeCompletes : Prop :=
  ∀ (s : State),
    (∀ causes slept, s.power.entry = none → s.asleep = true →
      causes &&& BitVec.ofNat 32 (s.sources (powerCode s.power.state)) ≠ 0 →
      Does (.wakeEvent causes false slept) s fun t => t.now = max s.now (s.power.slept + slept) ∧
        t.power.cause = causes &&& BitVec.ofNat 32 (s.sources (powerCode s.power.state)) ∧
        ∃ k, t.power.wake = some k ∧ k.src = s.power.state ∧ k.at_ = t.now ∧
          k.row = if s.power.state = .sleep then .pllCheck else .regEnable) ∧
    (∀ f slept, s.isWakeFrame f = true → s.power.entry = none → s.asleep = true →
      0x200 &&& BitVec.ofNat 32 (s.sources (powerCode s.power.state)) = 0x200 →
      Does (.wakeFrame f slept) s fun t => t.power.cause = 0x200 ∧
        ∃ k, t.power.wake = some k ∧ k.src = s.power.state) ∧
    (∀ k, s.power.wake = some k → k.start = 0 →
      (∀ ready, k.row = .regEnable → Does (.wakeTimetableRow ready) s fun t =>
        t.power.wake = some { k with row := .regCheck } ∧ t.now = max s.now k.due) ∧
      (k.row = .tcxoCheck → Does (.wakeTimetableRow false) s fun t =>
        t.power.wake = some { k with row := .pllCheck } ∧ t.power.osc[s.activeCore] = true) ∧
      (∀ ready, k.row = .axesReady → k.abort = false → Does (.wakeTimetableRow ready) s fun t =>
        t.power.state = .run ∧ t.power.wake = none ∧ t.power.parked = false)) ∧
    (∀ k ready, s.power.wake = some k → k.start ≠ 0 → s.anyActive = true →
      Does (.wakeTimetableRow ready) s fun t =>
        t.power.state = .run ∧ t.power.wake = none ∧ t.now = max s.now k.due) ∧
    (∀ (core : CoreId) from_, s.pair.core[core].listenFrom = some from_ → s.anyActive = false →
      s.power.state ≠ .off →
      Does (.listenTimeout core) s fun t => t.pair.core[core].active = true ∧
        t.now = max s.now (from_ + (if core = 0 then 200 else 1200) * usec)) ∧
    (∀ from_, s.power.failAt = some from_ → s.asleep = true →
      Does .wakeFailRepeat s fun t => t.power.failSent = s.power.failSent + 1 ∧ t.power.failAt = some t.now ∧
        t.now = max s.now (from_ + if s.power.failSent < 3 then 100 * msec else 10 * sec))

/-- The pair's mirror, its states and its faults (R262, R264 to R267, R269 to R272, R280 to R284). -/
def Obligations.CorePairCompletes : Prop :=
  ∀ (s : State),
    (∀ how, s.pair.core[(0 : CoreId)].present = true → s.pair.core[(1 : CoreId)].present = true → s.anyActive = true →
      Does (.dualActive how) s fun t => t.pair.core[(0 : CoreId)].active = true ∧
        t.pair.core[(1 : CoreId)].active = false ∧ t.pair.standby = .catchingUp) ∧
    (∀ frame, s.standbyPresent = true → s.anyActive = true → frameGood frame 1024 0x11 = true →
      Does (.mirrorFrame frame) s fun t => t.pair.mseqApplied = BitVec.ofNat 32 (u32At frame 4) ∧
        t.time.ce[s.standbyCore] = s.time.ce[s.activeCore]) ∧
    (∀ frame, s.standbyPresent = true → s.anyActive = true → frameGood frame 1024 0x11 = false →
      s.pair.standby = .inStep →
      Does (.mirrorFrame frame) s fun t => t.pair.standby = .outOfStep ∧ t.pair.mseqApplied = s.pair.mseqApplied) ∧
    (∀ frame, s.standbyPresent = true → s.anyActive = true → frameGood frame 64 0x12 = true →
      Does (.returnFrame frame) s fun t => t.pair.mseqAck = BitVec.ofNat 32 (u32At frame 4) ∧
        t.pair.core[s.standbyCore].nandHealthy = bit (byteAt frame 1) 4 ∧
        ∀ k : Slot, t.frame.slots[k].linkUp[s.standbyCore] = bit (u16At frame 12) k.val) ∧
    (s.pair.standby = .inStep → Does .standbyAckLost s fun t => t.pair.standby = .outOfStep) ∧
    (s.pair.standby = .outOfStep → s.mayStep = true → Does .standbyInStep s fun t => t.pair.standby = .inStep) ∧
    (∀ core cause, s.pair.core[core].present = true →
      Does (.coreFault core cause) s fun t => t.pair.core[core].faulted = true ∧ t.pair.core[core].present = false ∧
        t.pair.core[core].active = false ∧ t.pair.core[core].cause = cause ∧
        t.frame.slots[coreSlot core].inService = false) ∧
    (∀ core : CoreId, s.doors.relays[core] = true →
      Does (.chargePumpExpired core) s fun t => t.doors.relays[core] = false ∧
        t.now = max s.now (s.pair.core[core].pumpAt + 100 * usec)) ∧
    (∀ core : CoreId, s.anyActive = false →
      ([(0 : CoreId), 1].find? fun c => s.pair.core[c].present && s.pair.core[c].listenFrom.isNone) = some core →
      Does .takeover s fun t => t.pair.core[core].active = true ∧ t.pair.core[otherCore core].active = false ∧
        t.pair.standby = .absent ∧
        ∃ r ∈ t.journal.stagedPrio, r.body = .gapSkipped (s.journal.nand[core].top + 1) 512) ∧
    (s.standbyPresent = true → s.anyActive = true →
      (Does .tickFault s fun t => t.pair.core = s.pair.core ∧ Raised s t Ev.CP_TICK_FAULT [.u8 s.standbyCore.val]) ∧
      (s.pair.standby ≠ .unpaired → Does .mirrorLost s fun t => t.pair.standby = .unpaired)) ∧
    (s.standbyPresent = true → s.pair.standby = .catchingUp →
      Does .catchupDone s fun t => t.paramsValid[s.standbyCore] = true ∧ t.pair.standby = .inStep ∧
        t.frame.slots[coreSlot s.standbyCore].inService = true) ∧
    (∀ core, s.pair.core[core].faulted = true → s.restartsOf core < 3 → s.pair.core[core].selfTest = true →
      Does (.coreRestart core) s fun t => t.pair.core[core].faulted = false ∧ t.pair.core[core].present = true ∧
        t.now = max s.now (s.pair.core[core].silentAt + 500 * msec))

/-- Planned handovers (R274 to R277, Table CP-5). -/
def Obligations.HandoverCompletes : Prop :=
  ∀ (s : State),
    (∀ why, s.pair.handover = some why → s.pair.standby = .inStep → s.handoverWaits = false →
      (Does (.plannedHandover true) s fun t => t.activeCore = s.standbyCore ∧ t.pair.handover = none ∧
        t.pair.lastHandover = some s.now ∧
        ∀ r, s.pair.handoverReq = some r → Answers t r Opc.OP_CORE_HANDOVER ST_OK 0) ∧
      (∀ r, s.pair.handoverReq = some r →
        Does (.plannedHandover false) s fun t => t.activeCore = s.activeCore ∧ t.pair.handover = none ∧
          Answers t r Opc.OP_CORE_HANDOVER ST_STATE 5)) ∧
    (s.param 0x041 ≠ 0 → s.standbyPresent = true → s.pastHoldoff = true → s.pair.handover = none →
      (s.coverage s.activeCore < s.coverage s.standbyCore →
        Does .coverageHandover s fun t => t.pair.handover = some .coverage) ∧
      (s.linkOnlyStandby = true → s.coverage 0 = s.coverage 1 →
        Does .hostLinkGrace s fun t => t.pair.handover = some .coverage ∧
          t.now = max s.now (s.pair.graceFrom.getD s.now + s.param 0x042 * msec))) ∧
    (∀ r, s.lacksSetClaim r = false → s.handoverRefusal = none →
      Does (.opCoreHandover r) s fun t => t.pair.handover = some .request ∧ t.pair.handoverReq = some r) ∧
    (∀ r n, s.lacksSetClaim r = false → s.handoverRefusal = some n →
      Does (.opCoreHandover r) s fun t => Answers t r Opc.OP_CORE_HANDOVER ST_STATE n ∧ t.pair.handover = s.pair.handover)

/-- Doorbells, the shadow area, set-up registers and interrupts of a host port (R268, R290 to R294, R304 to R306,
Table HR-3, Table HR-9). -/
def Obligations.HostPortsComplete : Prop :=
  ∀ (s : State) (p : HostPort) (v : BitVec 32),
    (∀ q : Fin 16, s.ports[hostPort p].sq[q].enabled = true → s.ports[hostPort p].sq[q].error = false →
      (indexVerdict s.ports[hostPort p].sq[q].size s.ports[hostPort p].sq[q].dev s.ports[hostPort p].sq[q].host
          (s.ports[hostPort p].sq[q].size - 1) v.toNat = 1 →
        Does (.sqTailDoorbell p s.activeCore q v) s fun t => t.ports[hostPort p].sq[q].host = v.toNat) ∧
      (s.ports[hostPort p].sq[q].size ≤ v.toNat →
        Does (.sqTailDoorbell p s.activeCore q v) s fun t =>
          t.ports[hostPort p].sq[q].error = true ∧ t.ports[hostPort p].error.getLsbD 5 = true)) ∧
    (∀ q : Fin 16, s.ports[hostPort p].cq[q].enabled = true → s.ports[hostPort p].cq[q].error = false →
      indexVerdict s.ports[hostPort p].cq[q].size s.ports[hostPort p].cq[q].host s.ports[hostPort p].cq[q].host
        ((s.ports[hostPort p].cq[q].dev + s.ports[hostPort p].cq[q].size - s.ports[hostPort p].cq[q].host)
          % s.ports[hostPort p].cq[q].size) v.toNat = 1 →
      Does (.cqHeadDoorbell p s.activeCore q v) s fun t => t.ports[hostPort p].cq[q].host = v.toNat) ∧
    (s.ports[hostPort p].evq.enabled = true → s.ports[hostPort p].evq.error = false →
      indexVerdict s.ports[hostPort p].evq.size s.ports[hostPort p].evq.host s.ports[hostPort p].evq.host
        ((s.ports[hostPort p].evq.dev + s.ports[hostPort p].evq.size - s.ports[hostPort p].evq.host)
          % s.ports[hostPort p].evq.size) v.toNat = 1 →
      Does (.evqHeadDoorbell p s.activeCore v) s fun t => t.ports[hostPort p].evq.host = v.toNat) ∧
    (∀ area, s.ports[hostPort p].running = true →
      (∀ q : Fin 16, indexVerdict s.ports[hostPort p].sq[q].size s.ports[hostPort p].sq[q].dev
        s.ports[hostPort p].sq[q].host (s.ports[hostPort p].sq[q].size - 1) (bits (u32At area (4 * q.val)) 0 12) = 1) →
      (∀ q : Fin 16, s.ports[hostPort p].cq[q].enabled = false) → s.ports[hostPort p].evq.enabled = false →
      Does (.shadowPoll p (some area)) s fun t =>
        ∀ q : Fin 16, s.ports[hostPort p].sq[q].enabled = true → s.ports[hostPort p].sq[q].error = false →
          t.ports[hostPort p].sq[q].host = bits (u32At area (4 * q.val)) 0 12) ∧
    (Does (.shadowPoll p none) s fun t => t.ports[hostPort p].error = s.ports[hostPort p].error ||| 2) ∧
    (s.ports[hostPort p].evq.enabled = false → v.getLsbD 4 = true →
      cfgGood false s.ports[hostPort p].evq.base v.toNat = true →
      Does (.ringCfgWrite p s.activeCore true v) s fun t =>
        t.ports[hostPort p].evq.cfg = v ∧ t.ports[hostPort p].evq.dev = 0 ∧ t.ports[hostPort p].evq.host = 0 ∧
        t.ports[hostPort p].evqEntries = []) ∧
    (s.ports[hostPort p].evq.enabled = false → v.getLsbD 4 = true →
      cfgGood false s.ports[hostPort p].evq.base v.toNat = false →
      Does (.ringCfgWrite p s.activeCore true v) s fun t =>
        t.ports[hostPort p].evq.enabled = false ∧ t.ports[hostPort p].error.getLsbD 4 = true) ∧
    (s.ports[hostPort p].running = false → s.ports[hostPort p].mayRun = true →
      Does (.portEnable p s.activeCore v) s fun t =>
        t.ports[hostPort p].running = true ∧ t.ports[hostPort p].up = true) ∧
    (Does (.portDisable p s.activeCore v) s fun t =>
      t.ports[hostPort p].running = false ∧ t.ports[hostPort p].up = false) ∧
    (∀ offset : BitVec 12, offset.toNat < 0x800 → offset.toNat ∉ [0x008, 0x030, 0x054, 0x0C0, 0x0C8] →
      Does (.registerWrite p s.activeCore offset v) s fun t =>
        t.ports[hostPort p] = s.ports[hostPort p].writeReg offset.toNat v) ∧
    (∀ q : Fin 16, s.ports[hostPort p].cq[q].unsignalled ≠ 0 → s.ports[hostPort p].ctrl.getLsbD 1 = true →
      Does (.msixMessage p (some q)) s fun t => t.ports[hostPort p].msix = s.ports[hostPort p].msix + 1 ∧
        t.ports[hostPort p].cq[q].unsignalled = 0) ∧
    (∀ q : Fin 16, Does (.dmaError p (.descriptor q)) s fun t =>
      t.ports[hostPort p].sq[q].error = true ∧ t.ports[hostPort p].sq[q].reason = 3) ∧
    (Does (.dmaError p .status) s fun t => t.ports[hostPort p].running = false ∧
      t.ports[hostPort p].error.getLsbD 0 = true)

/-- Fetching, the lay-by, dropped events and the host rail (R287, R298, R300 to R304). -/
def Obligations.HostFetchCompletes : Prop :=
  ∀ (s : State),
    (∀ (p : HostPort) (q : Fin 16) b buf, s.coreReads = true → s.ports[hostPort p].running = true →
      s.ports[hostPort p].nextRing = some q → s.slotFree (hostPort p) = true →
      s.ports[hostPort p].canReserve false (s.ports[hostPort p].ringFor false b) = true →
      (∀ st detail, s.fetchRefusal (hostPort p) s.activeCore b = some (st, detail) →
        Does (.descriptorFetch (hostPort p) q (some b) buf) s fun t =>
          t.ports[hostPort p].sq[q].dev = (s.ports[hostPort p].sq[q].dev + 1) % s.ports[hostPort p].sq[q].size ∧
          Answers t (s.reqOf (hostPort p) q s.activeCore b buf none) (BitVec.ofNat 15 (dOpcode b)) st detail) ∧
      (s.fetchRefusal (hostPort p) s.activeCore b = none → opOf b = some .nop → bit (byteAt b 2) 2 = false →
        bit (byteAt b 2) 3 = false →
        Does (.descriptorFetch (hostPort p) q (some b) buf) s fun t =>
          t.ports[hostPort p].sq[q].dev = (s.ports[hostPort p].sq[q].dev + 1) % s.ports[hostPort p].sq[q].size ∧
          Answers t (s.reqOf (hostPort p) q s.activeCore b buf none) Opc.OP_NOP ST_OK 0)) ∧
    (∀ (p : PortId) c (q : Fin 16), s.ports[p].running = true → s.ports[p].laybyCq = [c] → c.cq.toNat = q.val →
      0 < s.ports[p].cqRoom (ownRings p) q →
      Does (.laybyDrain p) s fun t => t.ports[p].laybyCq = []) ∧
    (∀ p : PortId, s.ports[p].running = true → 0 < s.ports[p].dropRun → 0 < s.ports[p].evRoom (ownRings p) →
      s.ports[p].laybyEv = [] →
      Does (.eventsDroppedReport p) s fun t => Raised s t Ev.HR_EVENTS_DROPPED
        [.u8 (portNum p), .u32 s.ports[p].dropFirst.toNat, .u16 (min 65535 s.ports[p].dropRun)]) ∧
    (∀ (p : HostPort) mA, s.ports[hostPort p].h12Tripped = false →
      Does (.hostPowerTrip p mA) s fun t =>
        t.ports[hostPort p].h12Tripped = true ∧ t.ports[hostPort p].h12On = false ∧
        t.ports[hostPort p].links = .replicate 2 false ∧ t.frame.slots[hostSlot p].inService = false)

/-- The general and the parameter opcodes that pass their checks (R303, R307, R309, R333, R423, Table HR-15). -/
def Obligations.HostCommandsComplete : Prop :=
  ∀ (s : State) (r : Req) (p : PortId), portOf r.party = some p →
    (Does (.opNop r) s fun t => Answers t r Opc.OP_NOP ST_OK 0) ∧
    (Does (.opHeartbeat r) s fun t => Answers t r Opc.OP_HEARTBEAT ST_OK 0 ∧
      (r.party = .p2 → t.can.p2Beat = s.now)) ∧
    (∀ first count, 1 ≤ count → count ≤ 256 →
      Does (.opCompletionReplay r first count 0) s fun t =>
        (ownRings p = true ∨ s.ports[p].cq[(0 : Fin 16)].enabled = true →
          Answers t r Opc.OP_COMPLETION_REPLAY ST_OK 0)) ∧
    (∀ first count, 1 ≤ count → first + count ≤ paramCount → r.bufLen = 4 * count →
      Does (.opParamRead r first count) s fun t => Answers t r Opc.OP_PARAM_READ ST_OK 0 ∧
        t.ports[p].lastBuf = (List.range count).flatMap fun i => leBytes 4 (s.param (first + i))) ∧
    (∀ entries, entries ≠ [] → entries.length ≤ 5 → s.notOwner r .paramSet = false → badEntries entries = [] →
      s.checkSet (entries.foldl (fun l e => paramPut l e.1 e.2) s.params) = none →
      Does (.opParamWrite r entries) s fun t => Answers t r Opc.OP_PARAM_WRITE ST_OK 0 ∧
        t.params = entries.foldl (fun l e => paramPut l e.1 e.2) s.params ∧ t.paramsValid = .replicate 2 true) ∧
    (∀ bs, r.bufLen = 6148 → r.buf = some bs → s.notOwner r .paramSet = false →
      (crc32 (slice bs 0 6144)).toNat = u32At bs 6144 →
      s.checkSet (paramsFrom 0 ((List.range paramCount).map fun i => u32At bs (4 * i))) = none →
      Does (.opParamSetLoad r) s fun t => Answers t r Opc.OP_PARAM_SET_LOAD ST_OK 0 ∧
        t.params = paramsFrom 0 ((List.range paramCount).map fun i => u32At bs (4 * i))) ∧
    (r.bufLen = 6148 →
      Does (.opParamSetRead r) s fun t => Answers t r Opc.OP_PARAM_SET_READ ST_OK 0 ∧
        t.ports[p].lastBuf = s.setBytes ++ leBytes 4 (crc32 s.setBytes).toNat) ∧
    (Does (.opIoRead r) s fun t => Answers t r Opc.OP_IO_READ ST_OK 0 ∧
      AnswersWith t r (([(0 : Fin 2), 1].flatMap fun m => leBytes 4 s.field.mods[m].views[s.activeCore].value.toNat)
        ++ leBytes 2 s.load.repOn.toNat ++ leBytes 2 s.load.repFault.toNat))

/-- Bus states, errors, rate detection and received frames of the CAN buses (R313, R318 to R322). -/
def Obligations.CanBusesComplete : Prop :=
  ∀ (s : State) (bus : Bus),
    (∀ core new st tec rec_, busStateOf new = some st →
      Does (.busStateChange core bus new tec rec_) s fun t =>
        (t.canCtl core bus).state = st ∧ (t.canCtl core bus).txErr = tec ∧ (t.canCtl core bus).rxErr = rec_) ∧
    (Does (.protocolException bus) s fun t =>
      (t.canCtl s.activeCore bus).exceptions = (s.canCtl s.activeCore bus).exceptions + 1) ∧
    (Does (.mbErrorRate bus) s fun t =>
      (t.canCtl s.activeCore bus).errors = 0 ∧
      (t.canCtl s.activeCore bus).errorsLast = (s.canCtl s.activeCore bus).errors ∧
      (s.bp bus 7 < (s.canCtl s.activeCore bus).errors →
        Raised s t Ev.MB_ERROR_RATE [.u8 (busNo bus).val, .u16 (s.canCtl s.activeCore bus).errors])) ∧
    ((s.canCtl s.activeCore bus).state = .busOff → s.bp bus 5 = 0 → (s.canCtl s.activeCore bus).recovering = false →
      Does (.busoffDelayExpired bus) s fun t => (t.canCtl s.activeCore bus).recovering = true ∧
        t.now = max s.now ((s.canCtl s.activeCore bus).busOffAt + s.bp bus 6 * msec)) ∧
    (s.seeking bus = true →
      Does (.rateCandidateTimeout bus) s fun t =>
        t.now = max s.now ((s.canCtl s.activeCore bus).candFrom + 50 * msec) ∧
        t.canCtl s.activeCore bus = (s.canCtl s.activeCore bus).nextCandidate t.now) ∧
    ((s.canCtl s.activeCore bus).state = .detecting →
      Does (.rateFail bus) s fun t =>
        Raised s t Ev.MB_RATE_FAIL [.u8 (busNo bus).val, .u32 (s.canCtl s.activeCore bus).framesSeen]) ∧
    (∀ kind tec rec_, Does (.canBusError bus none kind tec rec_) s fun t =>
      (t.canCtl s.activeCore bus).errors = (s.canCtl s.activeCore bus).errors + 1 ∧
      (t.canCtl s.activeCore bus).txErr = tec ∧ (t.canCtl s.activeCore bus).rxErr = rec_) ∧
    (∀ f (p : RxPortId) i, s.busHears bus = true → s.formatOn bus f.fmt = true → s.can.rx[p].read = none →
      ((List.range 32).find? fun i => (s.can.rx[p].filters.toList.getD i {}).accepts bus f) = some i →
      s.can.rx[p].queue.length < 256 → s.can.rx[p].poolUsed + poolBlocks f ≤ 1024 →
      Does (.canFrameReceived bus f) s fun t =>
        t.can.rx[p].queue = s.can.rx[p].queue ++
          [{ bus := bus, frame := f, filter := i, stamps := s.time.ce, rseq := s.can.rx[p].rseqNext }] ∧
        t.can.rx[p].rseqNext = s.can.rx[p].rseqNext + 1) ∧
    (∀ f, s.busHears bus = true → s.formatOn bus f.fmt = false →
      Does (.canFrameReceived bus f) s fun t => t.can.rx = s.can.rx ∧
        (t.canCtl s.activeCore bus).exceptions = (s.canCtl s.activeCore bus).exceptions + 1)

/-- Host frames and receive queues (R321 to R323, R326, R327, R329, Table MB-13). -/
def Obligations.CanCommandsComplete : Prop :=
  ∀ (s : State) (r : Req) (bus : Bus),
    (∀ fmt len id sdt vcid af data, s.txRefusal bus (fmt : Byte).toNat len (id : BitVec 32).toNat = none →
      fmt.getLsbD 6 = false → (s.canCtl s.activeCore bus).state.sends = true →
      (s.can.tx.filter fun e => e.ofParty r.party && e.bus == bus).length < 16 →
      Does (.opCanTx r (busNo bus).val fmt len id sdt vcid af data) s fun t =>
        t.can.tx.length = s.can.tx.length + 1 ∧
        ∃ e ∈ t.can.tx, e.owner = .port r ∧ e.bus = bus ∧ e.frame = txFrame fmt id sdt vcid af (slice data 0 len)) ∧
    (∀ index stamp delay e, s.txAt bus index = some e → e.inBuffer = true → e.owner = .port r →
      (s.canCtl s.activeCore bus).state.sends = true →
      Does (.canTxDone bus index stamp delay) s fun t => Answers t r Opc.OP_CAN_TX ST_OK 0 ∧
        AnswersWith t r (leBytes 6 stamp.toNat ++ leBytes 1 (min 255 (e.attempts + 1)))) ∧
    (∀ (p : RxPortId) max_ min_ wait, rxPortOf r.party = some p → s.can.rx[p].read = none → 1 ≤ min_ → min_ ≤ max_ →
      max_ ≤ 64 → 1 ≤ wait → wait ≤ 10000 → s.can.rx[p].queue.length - s.can.rx[p].copied < min_ →
      Does (.opCanRxRead r max_ min_ wait false) s fun t => t.can.rx[p].read =
        some { req := r, max := max_, min := min_, bufLen := r.bufLen, dueAt := s.now + wait * msec }) ∧
    (∀ (p : RxPortId) q, s.can.rx[p].read = some q →
      Does (.rxReadWaitExpired p) s fun t => t.can.rx[p].read = none ∧ t.now = max s.now q.dueAt ∧
        (s.can.rx[p].queue.drop s.can.rx[p].copied = [] → Answers t q.req Opc.OP_CAN_RX_READ ST_OK 0)) ∧
    (∀ (p : RxPortId) rseq, rxPortOf r.party = some p →
      Does (.opCanRxAck r rseq) s fun t => Answers t r Opc.OP_CAN_RX_ACK ST_OK 0 ∧
        t.can.rx[p].queue = s.can.rx[p].queue.filter fun e => !decide ((rseq - e.rseq).toNat < 2 ^ 31)) ∧
    (∀ p : RxPortId, 0 < s.can.rx[p].dropped → s.can.rx[p].queue.length < 256 →
      Does (.rxDroppedReport p) s fun t => t.can.rx[p].dropped = 0 ∧ Raised s t Ev.MB_RX_DROPPED
        [.u8 (if p = 2 then 4 else p.val), .u8 s.can.rx[p].dropBus, .u32 s.can.rx[p].dropFirst.toNat,
         .u8 (min 255 s.can.rx[p].dropped), .u8 s.can.rx[p].dropReason]) ∧
    (∀ (p : RxPortId) (i : Fin 32) bits_ id mask sdt sdtMask vcid vcidMask, rxPortOf r.party = some p →
      Does (.opCanFilterSet r i.val bits_ id mask sdt sdtMask vcid vcidMask) s fun t =>
        Answers t r Opc.OP_CAN_FILTER_SET ST_OK 0 ∧
        t.can.rx[p].filters[i] = { bits := bits_, id := id, mask := mask, sdt := sdt, sdtMask := sdtMask,
                                   vcid := vcid, vcidMask := vcidMask }) ∧
    (Does (.opCanStatus r (busNo bus).val) s fun t => Answers t r Opc.OP_CAN_STATUS ST_OK 0) ∧
    ((s.canCtl s.activeCore bus).state = .busOff →
      Does (.opCanRecover r (busNo bus).val) s fun t =>
        (t.canCtl s.activeCore bus).recovering = true ∧
        (t.canCtl s.activeCore bus).recover = (s.canCtl s.activeCore bus).recover ++ [r])

/-- Port P2 and the fallback set (R331 to R335, Table MB-12). -/
def Obligations.FallbackCompletes : Prop :=
  ∀ (s : State),
    (∀ id xl stamp data, s.busHears .t = true → s.p2Addressed id = true → xl = (s.param 0x52A == 1) →
      data.length = 64 → s.can.p2Queue.length < 16 →
      Does (.p2DescriptorFrame id xl stamp data) s fun t =>
        t.can.p2Queue = s.can.p2Queue ++ [(data, stamp)] ∧ t.ports[(2 : PortId)].up = true) ∧
    (s.p2Up = true →
      Does .p2StatusPeriod s fun t => ∃ e, t.can.tx = s.can.tx ++ [e] ∧ e.owner = .own 1 ∧ e.bus = .t ∧
        e.frame.id = s.p2Id 3 ∧ e.frame.data = s.p2StatusBytes) ∧
    (s.hbPeriod ≠ 0 → s.param 0x520 = 1 →
      Does .fallbackHeartbeat s fun t => t.can.hbSeq = s.can.hbSeq + 1 ∧ t.can.hbAt = t.now ∧
        t.now = max s.now (s.can.hbAt + s.hbPeriod * msec) ∧
        ∃ e, t.can.tx = s.can.tx ++ [e] ∧ e.bus = .d ∧ e.frame.id = s.fallbackId 7) ∧
    (∀ id data, s.busHears .d = true → s.fallbackFor id 2 4 data = true →
      (∀ c ∈ s.can.doorCmds, c.1.take 3 ≠ data.take 3) →
      (s.acceptFrame .d { fmt := 0, ide := true, id := id, data := data }).doorCmdResult data = 0 →
      Does (.doorCmd id data) s fun t =>
        ∃ w ∈ t.doors.requests, w.req.party = .tl ∧ w.op = (match byteAt data 1 with
          | 1 => .doorOpen (byteAt data 0)
          | 2 => .doorClose (byteAt data 0)
          | _ => .doorStop (byteAt data 0))) ∧
    (∀ id data, s.busHears .d = true → s.power.state ≠ .sleep → s.fallbackFor id 6 1 data = true →
      byteAt data 0 ≤ 3 →
      Does (.statusReq id data) s fun t => Raised s t Ev.MB_FALLBACK_REQ [.u8 (byteAt data 0)] ∧
        t.doors = s.doors)

/-- The panel bus: address, transfers, mailbox, stretching, faults and the in-band request (R340 to R352). -/
def Obligations.PanelCompletes : Prop :=
  ∀ (s : State) (d : Doorway),
    (∀ pins, Does (.panelAddrPoll pins) s fun t => t.panel.pins = pins ∧ t.panel.inUse = s.panel.inUse ∧
      (s.panel.powered = true → pins ≠ s.panel.inUse →
        Raised s t Ev.PB_ADDR_CHANGED [.u8 pins.toNat, .u8 (0x30 + s.panel.inUse.toNat)])) ∧
    (s.panelOn = true → s.panel.waiting = none → s.panel.last = none → s.power.state = .run → s.power.wake = none →
      s.supply.serviceOnly = false → s.enabled d = true →
      (s.param (pPanelDoor d.val 0) ≠ 0 → s.doors.door[d].leaf = .closedLocked →
        Does (.accessReq d) s fun t => t.doors.door[d].stepRequest = true ∧ t.panel.result = 0 ∧
          t.panel.resultCmd = 1 ∧ t.panel.taken = s.panel.taken + 1) ∧
      (s.op d 0x11 ≠ 0 → s.closingOrLocking d = true →
        Does (.panelObstacle d) s fun t => t.doors.door[d].leaf = .reopening ∧ t.obst[d].lastSource = 6 ∧
          t.panel.result = 0 ∧ t.panel.resultCmd = 2) ∧
      (∀ st, st ≤ 2 → Does (.intercomInd d st) s fun t => t.panel.intercom[d] = st ∧ t.panel.result = 0 ∧
          t.panel.resultCmd = 3)) ∧
    (s.panel.intercom[d] = 1 →
      Does (.intercomBlink d) s fun t => t.panel.blinkOn[d] = !s.panel.blinkOn[d] ∧
        t.now = max s.now (s.panel.blinkAt[d] + 500 * msec) ∧ t.panel.blinkAt[d] = t.now) ∧
    (∀ data, s.panelOn = true → s.panel.waiting = none → s.power.wake = none → data.length = 5 →
      s.panel.refused = 0 →
      Does (.panelWriteTransfer (0xE0 :: data)) s fun t => t.panel.waiting = some (panelCmdOf data) ∧
        t.panel.taken = s.panel.taken + 1 ∧ t.panel.box = data ∧ t.panel.pointer = 0xE5) ∧
    (∀ ptr, s.panelOn = true →
      Does (.panelWriteTransfer [ptr]) s fun t => t.panel.pointer = ptr ∧ t.panel.waiting = s.panel.waiting) ∧
    (∀ count, s.panelOn = true →
      Does (.panelReadTransfer count true) s fun t =>
        t.panel.readOut = readFrom (s.panel.snapshot.getD s.panel.window) count s.panel.pointer ∧
        t.panel.pointer = s.panel.pointer + BitVec.ofNat 8 count ∧ t.panel.snapshot = none ∧
        t.panel.window = s.panel.window) ∧
    (∀ cmd k at_, s.panelOn = true → s.panel.waiting.isSome = true → s.panel.stretched = some (k, at_) →
      Does (.stretchLimit cmd) s fun t => t.panel.stretched = none ∧ t.panel.result = 4 ∧
        t.panel.resultSeq = k.seq ∧ t.panel.waiting = s.panel.waiting ∧
        t.now = max s.now (at_ + s.param 0x543 * usec)) ∧
    (s.panelOn = true →
      Does .pbBusTimeout s fun t => t.panel.snapshot = none ∧ t.panel.stretched = none ∧
        Raised s t Ev.PB_BUS_TIMEOUT [.u8 s.panel.pointer.toNat]) ∧
    (∀ lines, s.panelOn = true → s.panel.stuckFrom = none →
      Does (.pbBusStuck lines) s fun t => t.panel.stuckFrom = some (s.now - 100 * msec) ∧
        t.panel.requestOn = false ∧ Raised s t Ev.PB_BUS_STUCK [.u8 lines]) ∧
    (∀ t0, s.panel.stuckFrom = some t0 →
      Does .pbBusFree s fun t => t.panel.stuckFrom = none ∧
        Raised s t Ev.PB_BUS_FREE [.u16 (min 65535 ((s.now - 10 * msec - t0) / msec))]) ∧
    (s.mayRequest = true →
      Does .panelRequest s fun t => t.panel.requestOn = true ∧ t.panel.requestAt = some s.now ∧
        t.panel.requestDue = false) ∧
    (s.panelOn = true → s.panel.requestOn = true →
      Does .requestCollision s fun t => t.panel.requestOn = false ∧ t.panel.requestDue = true)

/-- Sources, measurement, slew, step and TPO (R356 to R368). -/
def Obligations.TimeSourcesComplete : Prop :=
  ∀ (s : State),
    (∀ stamp data, s.busHears .t = true → timeFrameGood data = false →
      Does (.timeFrame stamp data) s fun t => t.time.frameFaults = s.time.frameFaults + 1 ∧
        t.time.labelled = s.time.labelled) ∧
    (∀ stamp data, s.busHears .t = true → timeFrameGood data = true → byteAt data 6 % 4 < 2 →
      Does (.timeFrame stamp data) s fun t => t.time.labelled = some (leAt data 0 5, stamp) ∧
        t.time.masterClass = byteAt data 6 % 4 ∧ t.time.taiUtc = some (byteAt data 5) ∧
        t.time.valid = s.time.valid) ∧
    (∀ stamp data, s.busHears .t = true → timeFrameGood data = true → byteAt data 6 % 4 = 2 →
      Does (.timeFrame stamp data) s fun t => t.time.valid[(0 : Fin 3)] = false) ∧
    (∀ stamp width, 10 * usec ≤ width → width ≤ 900 * msec → s.time.tpiStamp = none →
      Does (.tpiEdge stamp width) s fun t => t.time.tpiStamp = some stamp ∧ t.time.tpiAt = s.now ∧
        t.time.tpiRun = s.time.tpiRun + 1) ∧
    (∀ stamp width, width < 10 * usec ∨ 900 * msec < width →
      Does (.tpiEdge stamp width) s fun t => t.time.tpiRun = 0 ∧ t.time.tpiStamp = none ∧
        Raised s t Ev.TM_TPI_FAULT [.u8 1]) ∧
    (s.time.valid[(0 : Fin 3)] = true →
      Does (.sourceLoss .frames) s fun t => t.time.valid[(0 : Fin 3)] = false ∧ t.time.labelRun = 0 ∧
        t.now = max s.now (s.time.lastLabelledAt + s.param 0x4E6 * sec)) ∧
    (s.time.valid[(2 : Fin 3)] = true →
      Does (.sourceLoss .tpi) s fun t => t.time.valid[(2 : Fin 3)] = false ∧ t.time.tpiRun = 0 ∧
        t.now = max s.now (s.time.tpiAt + s.param 0x4E6 * sec)) ∧
    (s.time.valid[(1 : Fin 3)] = true →
      Does .hostRefreshExpired s fun t => t.time.valid[(1 : Fin 3)] = false ∧
        t.now = max s.now (s.time.hostSetAt + s.param 0x4E5 * sec)) ∧
    (∀ o, s.time.reference = some o →
      Does .offsetMeasure s fun t => t.time.offset = o ∧ t.time.measuredAt = s.now ∧ t.time.reference = none ∧
        (s.time.stepFirst = false → o.natAbs ≤ 2000000 →
          t.time.slewLeft = o * 10 ^ 9 ∧ t.time.slew = slewRate o ∧ t.time.stepPending = none) ∧
        (2000000 < o.natAbs → t.time.stepPending = some o ∧ t.time.slew = 0)) ∧
    (∀ o, s.time.stepPending = some o → s.quietPoint o = true →
      Does .timeStep s fun t => t.time.stepPending = none ∧ t.time.lastStep = (s.stepTo o).toNat ∧
        t.time.te = ((s.time.te : Int) - o * 10 ^ 9).toNat ∧
        ∃ r ∈ t.journal.stagedPrio, r.body.type = 3) ∧
    (s.param 0x4E9 = 1 → s.time.unset = false → s.time.tpoStepped = false →
      Does .tpoPulse s fun t => t.time.tpo = true ∧ t.time.tpoSecond = max (s.time.tpoSecond + 1) (s.tai / sec) ∧
        t.time.rtcValid = true ∧ t.time.rtc = t.tai)

/-- Host set, reading the time, and cancelling an action (R357, R360, R375). -/
def Obligations.TimeCommandsComplete : Prop :=
  ∀ (s : State) (r : Req),
    (∀ tai tick err taiUtc, (s.tick - tick).toNat ≤ 20000 →
      Does (.opTimeSet r tai tick err taiUtc) s fun t => Answers t r Opc.OP_TIME_SET ST_OK 0 ∧
        (s.time.valid[(0 : Fin 3)] = false → bit (s.param 0x4E0) 1 = true →
          t.time.valid[(1 : Fin 3)] = true ∧ t.time.hostSetAt = s.now ∧
          t.time.offset = s.setMoment r tick - (tai : Int)) ∧
        (s.time.valid[(0 : Fin 3)] = true → t.time.offset = s.time.offset ∧ t.time.hostSetAt = s.time.hostSetAt)) ∧
    ((r.bufLen = 0 ∨ r.bufLen = 48) →
      Does (.opTimeRead r) s fun t => Answers t r Opc.OP_TIME_READ ST_OK 0 ∧
        AnswersWith t r (leBytes 8 s.tai ++ leBytes 1 (qualityCode s.time.quality) ++
          leBytes 1 (sourceNo s.time.source) ++ leBytes 2 (min 65535 (s.time.err / 1000))) ∧
        t.time = s.time) ∧
    (∀ hseq q, (s.time.sched.find? fun q => q.req.party == r.party && q.req.hseq == hseq) = some q →
      Does (.opSchedCancel r hseq) s fun t => Answers t r Opc.OP_SCHED_CANCEL ST_OK 0 ∧
        t.time.sched = s.time.sched.filter fun x => !(x == q))

/-- Programs, reads, retention and notes of the journal (R382, R386, R387, R390 to R393). -/
def Obligations.JournalCompletes : Prop :=
  ∀ (s : State) (r : Req),
    (∀ (core : CoreId) t0, s.journal.nand[core].oldest true = some t0 → s.journal.nand[core].program = none →
      s.journal.nand[core].faulted = false →
      Does (.priorityTailProgram core) s fun t =>
        t.journal.nand[core].program = some (.tail, s.journal.nand[core].image.length) ∧
        t.now = max s.now (t0 + msec)) ∧
    (∀ (core : CoreId) t0, s.journal.nand[core].oldest false = some t0 → s.journal.nand[core].program = none →
      s.journal.nand[core].faulted = false →
      Does (.ordinaryWaitExpired core) s fun t =>
        t.journal.nand[core].program = some (.tail, s.journal.nand[core].image.length) ∧
        t.now = max s.now (t0 + s.param 0x565 * msec)) ∧
    (∀ (core : CoreId) page plane bad n, s.journal.nand[core].program = some (.tail, n) →
      Does (.journalProgramDone core true page plane bad) s fun t => t.journal.nand[core].program = none ∧
        t.journal.nand[core].failRun = 0 ∧
        t.journal.nand[core].image = s.journal.nand[core].image.drop n) ∧
    (∀ (core : CoreId) page bad n, s.journal.nand[core].program = some (.journal, n) →
      Does (.journalProgramDone core false page 2 bad) s fun t => t.journal.nand[core].program = none ∧
        t.journal.nand[core].failRun = s.journal.nand[core].failRun + 1 ∧
        t.journal.nand[core].image = s.journal.nand[core].image ∧
        (s.journal.nand[core].failRun = 7 → t.journal.nand[core].faulted = true)) ∧
    (∀ (reader : Fin 4) mode area typeMask doorId count start bad, mode ≤ 2 → area ≤ 1 → 1 ≤ count → count ≤ 8192 →
      (r.party = .p2 ∨ r.bufLen = 128 * count) → s.notOwner r (.reader reader.val) = false →
      Does (.opJournalRead r reader.val mode area typeMask doorId count start 0 bad) s fun t =>
        Answers t r Opc.OP_JOURNAL_READ ST_OK 0 ∧ t.journal.nand = s.journal.nand ∧
        ∀ k : Fin 4, k ≠ reader → t.journal.cursors[k] = s.journal.cursors[k]) ∧
    (∀ (reader : Fin 4) area typeMask doorId count start wait bad, area ≤ 1 → 1 ≤ count → count ≤ 8192 →
      (r.party = .p2 ∨ r.bufLen = 128 * count) → s.notOwner r (.reader reader.val) = false → 1 ≤ wait →
      wait ≤ 10000 → s.readReady r reader area typeMask doorId = false →
      Does (.opJournalRead r reader.val 2 area typeMask doorId count start wait bad) s fun t =>
        t.journal.waiting = s.journal.waiting ++ [{
          req := r, reader := reader, area := area, typeMask := typeMask, doorId := doorId, count := count,
          bufLen := r.bufLen, dueAt := s.now + wait * msec }]) ∧
    (∀ (reader : Fin 4) w, (s.journal.waiting.find? fun w => w.reader == reader) = some w →
      Does (.journalReadWaitExpired reader) s fun t => Answers t w.req Opc.OP_JOURNAL_READ ST_OK 0 ∧
        t.journal.waiting = s.journal.waiting.filter (fun x => !(x == w)) ∧ t.now = max s.now w.dueAt) ∧
    ((r.bufLen = 0 ∨ r.bufLen = 64) →
      Does (.opJournalStatus r) s fun t => Answers t r Opc.OP_JOURNAL_STATUS ST_OK 0 ∧
        t.journal.nand = s.journal.nand) ∧
    (∀ first count, 1 ≤ count → s.lacksSetClaim r = false → s.journal.nand[s.activeCore].held ≠ [] →
      oldestOf s.journal.nand[s.activeCore] ≤ first → first + count ≤ newestOf s.journal.nand[s.activeCore] + 1 →
      s.journal.nand[s.activeCore].retention.length + (s.journal.retain.foldl (fun k q => k + q.2.2) 0) + count
        ≤ retentionSize →
      Does (.opJournalRetain r first count) s fun t => t.journal.retain = s.journal.retain ++ [(r, first, count)]) ∧
    (∀ q first count rest, s.journal.retain = (q, first, count) :: rest →
      Does .retainCopyDone s fun t => Answers t q Opc.OP_JOURNAL_RETAIN ST_OK 0 ∧ t.journal.retain = rest ∧
        ∀ core : CoreId, s.pair.core[core].present = true →
          t.journal.nand[core].retention = s.journal.nand[core].retention ++
            (s.journal.nand[core].area 0).filter fun x => decide (first ≤ x.number) && decide (x.number < first + count)) ∧
    (s.lacksSetClaim r = false →
      Does (.opJournalRelease r) s fun t => Answers t r Opc.OP_JOURNAL_RELEASE ST_OK 0 ∧
        ∀ core : CoreId, t.journal.nand[core].retention = []) ∧
    (∀ p code text, portOf r.party = some p → s.journal.notes[p] < s.param 0x566 →
      Does (.opJournalNote r code text) s fun t => t.journal.stagedPrio = s.journal.stagedPrio ∧
        ∃ x, t.journal.stagedOrd = s.journal.stagedOrd ++ [x] ∧ x.noteFor = some r ∧ x.stamp = s.tai ∧
          x.body = .note (BitVec.ofNat 8 (Party.code r.party)) code (slice text 0 44))

/-- Download and check of an image (R399 to R401), activation (R402, R406, R408), and what the key and the status
commands answer (R413, Table UD-8). -/
def Obligations.UpdateCommandsComplete : Prop :=
  ∀ (s : State) (r : Req),
    (s.updDenied r = false →
      (∀ buf h, r.bufLen = 256 → r.buf = some buf → h = slice buf 0 256 → headerFail h = none →
        s.secCounter (hdrType h) ≤ hdrSec h → s.staged (hdrType h) = none → s.downloadOpen = false →
        s.typeBusy (hdrType h) = none →
        Does (.opUpdateBegin r) s fun t => Answers t r Opc.OP_UPDATE_BEGIN ST_OK 0 ∧
          t.staged (hdrType h) = some { header := h } ∧ t.update.download = some (hdrType h)) ∧
      (∀ index hash kind g data, s.update.download = some kind → s.staged kind = some g →
        index < hdrChunks g.header → r.bufLen = chunkLen g.header index → r.buf = some data →
        Does (.opUpdateChunk r index hash) s fun t =>
          if sha256 (slice data 0 r.bufLen) = slice hash 0 32 then
            Answers t r Opc.OP_UPDATE_CHUNK ST_OK 0 ∧
            ∃ g', t.staged kind = some g' ∧ g'.header = g.header ∧ g'.chunk index = some (slice data 0 r.bufLen)
          else Answers t r Opc.OP_UPDATE_CHUNK ST_CHUNK index ∧ t.update = s.update) ∧
      (∀ kind g, maxBody kind ≠ 0 → s.staged kind = some g →
        Does (.opUpdateVerify r kind) s fun t =>
          t.staged kind = some { g with verified := (s.verifyFail g).isNone } ∧
          match s.verifyFail g with
          | none => Answers t r Opc.OP_UPDATE_VERIFY ST_OK 0
          | some f => Answers t r Opc.OP_UPDATE_VERIFY f.1 f.2.1) ∧
      (∀ kind mask g j, maxBody kind ≠ 0 → mask ≠ 0 → mask.toNat < 2 ^ 14 → s.supply.onStore = false →
        s.update.activation = none → (∀ k ∈ maskSlots mask.toNat, s.update.firm[k].state = .idle) →
        s.staged kind = some g → g.verified = true →
        (∀ k ∈ maskSlots mask.toNat, s.slotUnfit k g.header = none) → s.needsPairUpdate kind g.header = false →
        s.updRuns j = true →
        Does (.opUpdateActivate r kind mask) s fun t =>
          t.update.activation = some { req := r, kind := kind, slots := maskSlots mask.toNat,
                                       first := maskSlots mask.toNat } ∧
          ∀ k ∈ maskSlots mask.toNat, t.update.firm[k].state = .waiting) ∧
      (∀ mask, mask ≠ 0 → mask.toNat < 2 ^ 14 → (∀ k ∈ maskSlots mask.toNat, s.mayConfirm k = true) →
        Does (.opUpdateConfirm r mask) s fun t => Answers t r Opc.OP_UPDATE_CONFIRM ST_OK 0 ∧
          ∀ k ∈ maskSlots mask.toNat, t.update.firm[k].state = .idle ∧ t.update.firm[k].pointer.trial = false) ∧
      (∀ kind, maxBody kind ≠ 0 → s.typeBusy kind = none →
        Does (.opUpdateAbort r kind 0) s fun t => Answers t r Opc.OP_UPDATE_ABORT ST_OK 0 ∧ t.staged kind = none)) ∧
    ((r.bufLen = 0 ∨ r.bufLen = 224) →
      Does (.opUpdateStatus r) s fun t => Answers t r Opc.OP_UPDATE_STATUS ST_OK 0 ∧
        t.update.firm = s.update.firm) ∧
    (∀ b, r.bufLen = 132 → r.buf = some b → s.update.key = none →
      Does (.opKeyProvision r) s fun t =>
        if (slice b 68 64).all fun x => x == 0 then
          Answers t r Opc.OP_KEY_PROVISION ST_OK 0 ∧
          t.update.key = some { key := slice b 0 64, ident := BitVec.ofNat 32 (u32At b 64) }
        else Answers t r Opc.OP_KEY_PROVISION ST_SIGNATURE 2 ∧ t.update.key = none)

/-- What happens to a slot under update: start, memory frames, the bank write, the boot and the end of the trial
(R398, R402 to R406). -/
def Obligations.UpdateEventsComplete : Prop :=
  ∀ (s : State) (k : Slot),
    (∀ g, s.updTurn k = true → s.supply.onStore = false → s.staged (imgType k) = some g → s.update.asOne = false →
      s.updGate k = true → s.needsDrop k = false → k ≠ coreSlot s.activeCore →
      Does (.slotActivationStart k) s fun t =>
        t.update.firm[k].state = if (s.verifyFail g).isNone then .writing else .idle) ∧
    (∀ core frame q, s.frame.slots[k].pres = true → linkFrameGood k 3 frame = true → imgType k ≠ 0 → imgType k ≠ 1 →
      q = (frame.drop 8).take (byteAt frame 5) → byteAt q 1 ≤ 1 → u16At q 2 = 0 → u16At q 8 ≤ 224 →
      (byteAt q 0 = 5 →
        Does (.memoryFrame k core frame) s fun t => t.update.firm[k].reply =
          leBytes 1 5 ++ leBytes 1 0 ++ [0, 0] ++ leBytes 4 (u32At q 4) ++
            leBytes 2 s.update.firm[k].pointer.bytes.length ++ List.replicate 6 0 ++ s.update.firm[k].pointer.bytes) ∧
      (byteAt q 0 = 2 → s.inService k = true →
        Does (.memoryFrame k core frame) s fun t => byteAt t.update.firm[k].reply 1 = 4 ∧
          t.update.firm[k].banks = s.update.firm[k].banks)) ∧
    (∀ g, s.update.firm[k].state = .writing → s.update.asOne = false → s.staged (imgType k) = some g →
      Does (.bankWriteDone k true) s fun t => t.update.firm[k].banks[s.update.firm[k].spare] = g.image ∧
        t.update.firm[k].pointer.bank = s.update.firm[k].spare ∧ t.update.firm[k].pointer.trial = true ∧
        t.update.firm[k].pointer.tries = 0 ∧ t.update.firm[k].restarting = true) ∧
    (s.update.firm[k].state = .writing → s.update.asOne = false →
      Does (.bankWriteDone k false) s fun t => t.update.firm[k].state = .idle ∧
        t.update.firm[k].pointer = s.update.firm[k].pointer ∧ t.update.firm[k].running = s.update.firm[k].running) ∧
    (s.frame.slots[k].pres = true → imgType k ≠ 0 →
      Does (.moduleBoot k) s fun t => t.update.firm[k].running = s.update.firm[k].boot.1.running ∧
        t.update.firm[k].ptr = s.update.firm[k].boot.1.ptr ∧ t.update.firm[k].restarting = false) ∧
    (s.param 0x570 = 1 → s.mayConfirm k = true →
      Does (.autoConfirm k) s fun t => t.update.firm[k].state = .idle ∧ t.update.firm[k].pointer.trial = false ∧
        t.now = max s.now (s.update.firm[k].serviceFrom + s.param 0x571 * sec)) ∧
    (s.update.firm[k].state = .trial → s.inService k = false → k ≠ coreSlot s.activeCore →
      Does (.trialTimeout k) s fun t => t.update.firm[k].state = .idle ∧
        t.update.firm[k].pointer.bank = otherBank s.update.firm[k].pointer.bank ∧
        t.update.firm[k].pointer.trial = false ∧ t.update.firm[k].restarting = true) ∧
    (s.update.firm[k].state = .trial → s.inService k = true → s.dropsLoop k = true →
      s.zeroSpeed s.activeCore = false →
      Does (.trialTimeout k) s fun t => t.update.firm[k].state = .rollbackPending ∧
        t.now = s.now + (trialTicks - s.update.firm[k].trialRun) * tickNs)

/-- The service port and its sessions (R414 to R419). -/
def Obligations.SessionsComplete : Prop :=
  ∀ (s : State) (core : CoreId),
    (∀ bytes, bytes.length = 80 → slice bytes 1 3 = [0, 0, 0] → u32At bytes 4 = 64 →
      s.pair.core[core].present = true →
      (byteAt bytes 0 = 1 → s.update.p4Queue.length < 16 →
        Does (.usbContainer core bytes) s fun t => t.update.p4Queue = s.update.p4Queue ++ [(core, bytes.drop 16)] ∧
          t.update.session[core].lastUsed = s.now) ∧
      (byteAt bytes 0 = 2 → s.update.session[core].level ≠ 0 → s.update.session[core].held + 64 ≤ 2 ^ 20 →
        Does (.usbContainer core bytes) s fun t =>
          (BitVec.ofNat 64 (u64At bytes 8), bytes.drop 16) ∈ t.update.session[core].buffers ∧
          t.update.p4Queue = s.update.p4Queue)) ∧
    (∀ (r : Req) level, 1 ≤ level → level ≤ 3 →
      (s.lockLeft r.core = none →
        Does (.opSessionChallenge r level) s fun t => Answers t r Opc.OP_SESSION_CHALLENGE ST_OK 0 ∧
          t.update.session[r.core].challenge = some (Config.challenge s.free, level, s.now) ∧ t.free = s.free + 1) ∧
      (∀ n, s.lockLeft r.core = some n →
        Does (.opSessionChallenge r level) s fun t =>
          Answers t r Opc.OP_SESSION_CHALLENGE ST_LOCKED_OUT n ∧ t.update = s.update)) ∧
    (∀ (r : Req) level ch t0 response, 1 ≤ level → level ≤ 3 →
      s.update.session[r.core].challenge = some (ch, level, t0) → s.since t0 ≤ 600 * sec →
      (response = s.sessionResponse r.core ch level →
        Does (.opSessionOpen r level response) s fun t => Answers t r Opc.OP_SESSION_OPEN ST_OK 0 ∧
          t.update.session[r.core].level = min level (s.param 0x574) ∧
          t.update.session[r.core].failures = 0 ∧ t.update.session[r.core].challenge = none) ∧
      (response ≠ s.sessionResponse r.core ch level →
        Does (.opSessionOpen r level response) s fun t =>
          Answers t r Opc.OP_SESSION_OPEN ST_AUTH (s.update.session[r.core].failures + 1) ∧
          t.update.session[r.core].level = s.update.session[r.core].level ∧
          t.update.session[r.core].failures = s.update.session[r.core].failures + 1 ∧
          t.update.session[r.core].challenge = none)) ∧
    (∀ r : Req, s.update.session[r.core].level ≠ 0 →
      Does (.opSessionClose r) s fun t => t.update.session[r.core].level = 0 ∧
        t.update.session[r.core].buffers = [] ∧
        Raised s t Ev.UD_SESSION_CLOSE [.u8 r.core.val, .u8 1]) ∧
    (s.update.session[core].level ≠ 0 →
      Does (.sessionIdle core) s fun t => t.update.session[core].level = 0 ∧
        t.now = max s.now (s.update.session[core].lastUsed + s.param 0x573 * 60 * sec)) ∧
    (∀ t0, s.update.session[core].lockedUntil = some t0 →
      Does (.lockoutEnd core) s fun t => t.update.session[core].lockedUntil = none ∧ t.now = max s.now t0)

/-- R119: OP_DOOR_OBSTACLE needs the doorway claim; it acts as an obstacle in CLOSING and LOCKING, and completes
ST_STATE without effect in any other state and while bit 3 of obst.d.src_mask is 0. -/
def Obligations.DoorObstacleCommand : Prop :=
  ∀ (s : State) (d : Doorway) (r : Req), s.enabled d = true →
    (s.notOwner r (.doorway d.val) = true →
      Does (.opDoorObstacle r d) s fun t => t.doors = s.doors ∧ t.obst = s.obst ∧ t.axes = s.axes ∧
        Answers t r Opc.OP_DOOR_OBSTACLE ST_NOT_OWNER (partyCode (s.ownerOf (.doorway d.val)))) ∧
    (s.notOwner r (.doorway d.val) = false →
      (bit (s.op d 0x12) 3 = true → s.doors.door[d].leaf = .closing ∨ s.doors.door[d].leaf = .locking →
        Does (.opDoorObstacle r d) s fun t => t.doors.door[d].leaf = .reopening ∧ t.obst[d].lastSource = 5 ∧
          Answers t r Opc.OP_DOOR_OBSTACLE ST_OK 0) ∧
      (s.doors.door[d].leaf ≠ .closing → s.doors.door[d].leaf ≠ .locking →
        Does (.opDoorObstacle r d) s fun t => t.doors = s.doors ∧ t.obst = s.obst ∧ t.axes = s.axes ∧
          Answers t r Opc.OP_DOOR_OBSTACLE ST_STATE (leafCode s.doors.door[d].leaf)) ∧
      (bit (s.op d 0x12) 3 = false →
        Does (.opDoorObstacle r d) s fun t => t.doors = s.doors ∧ t.obst = s.obst ∧ t.axes = s.axes ∧
          Answers t r Opc.OP_DOOR_OBSTACLE ST_STATE (leafCode s.doors.door[d].leaf)))

/-- R328: OP_CAN_TX_ABORT of a frame that has not started, of one that is being sent, and of an hseq that names no
pending transmit of its port. -/
def Obligations.AbortOfATransmit : Prop :=
  ∀ (s : State) (r : Req) (hseq : BitVec 32) (found : Option TxEntry),
    found = (s.can.tx.find? fun e => match e.owner with
      | .port q => q.party == r.party && q.hseq == hseq
      | .own _ => false) →
    (∀ e q, found = some e → e.owner = .port q → e.started = false →
      Does (.opCanTxAbort r hseq) s fun t => t.can.tx = s.can.tx.erase e ∧ Answers t r Opc.OP_CAN_TX_ABORT ST_OK 0 ∧
        ∀ p, portOf r.party = some p → ∃ c2 c1 rest, t.ports[p].kept = c2 :: c1 :: rest ∧
          c1.opcode = Opc.OP_CAN_TX ∧ c1.status = ST_PREEMPTED ∧ c1.hseq = hseq ∧
          c1.detail = BitVec.ofNat 32 r.hseq.toNat) ∧
    (∀ e, found = some e → e.started = true →
      Does (.opCanTxAbort r hseq) s fun t => t.can.tx = s.can.tx ∧ Answers t r Opc.OP_CAN_TX_ABORT ST_STATE 0) ∧
    (found = none →
      Does (.opCanTxAbort r hseq) s fun t => t.can.tx = s.can.tx ∧
        Answers t r Opc.OP_CAN_TX_ABORT ST_RANGE (argOff 16))

/-- R372: an action flagged need_locked whose execution tick finds the quality worse than LOCKED is not run; every
other action enters the resolver in its place before those its party fetched. -/
def Obligations.ActionAtItsEdge : Prop :=
  ∀ (s : State) (p : PortId) (hseq : BitVec 32) (q : SchedAction),
    (s.time.sched.find? fun q => portOf q.req.party == some p && q.req.hseq == hseq) = some q →
    (q.needLocked = true → s.time.quality ≠ .locked →
      Does (.schedExec p hseq) s fun t => t.doors.requests = s.doors.requests ∧
        t.time.sched = s.time.sched.filter (fun x => !(x == q)) ∧
        Answers t q.req (schedOpcode q.op) ST_TIME_QUALITY (qualityCode s.time.quality)) ∧
    (q.needLocked = false ∨ s.time.quality = .locked →
      Does (.schedExec p hseq) s fun t =>
        t.doors.requests = aheadOf { req := { q.req with timed := true }, op := q.op } s.doors.requests ∧
        t.time.sched = s.time.sched.filter (fun x => !(x == q)))

/-- R344: in the panel window a disabled doorway reads leaf and step state 15 and zeros elsewhere, but for door_id. -/
def Obligations.DisabledDoorwayOnThePanel : Prop :=
  ∀ (s : State) (d : Doorway), s.enabled d = false →
    slice s.swapWindow.panel.window (0x10 + 16 * d.val) 16 =
      [15, 15] ++ List.replicate 10 0 ++ leBytes 2 (s.doorId d.val) ++ [0, 0]

/-- R290: while enable is set on a ring, writes to its base and to every other field of its configuration are ignored;
setting enable resets the ring. Offsets 0x04C and 0x050 are RING_BASE, 0x028 and 0x02C EVQ_BASE (Table HR-3). -/
def Obligations.RingsKeepTheirSetUp : Prop :=
  ∀ (s : State) (p : HostPort) (v : BitVec 32) (q : Fin 16),
    q.val = s.ports[hostPort p].ringSel.toNat % 16 →
    (∀ o : BitVec 12, o = 0x04C ∨ o = 0x050 →
      (s.ports[hostPort p].ringSel.getLsbD 4 = false → s.ports[hostPort p].sq[q].enabled = true →
        Does (.registerWrite p s.activeCore o v) s fun t => t.ports[hostPort p].sq[q] = s.ports[hostPort p].sq[q]) ∧
      (s.ports[hostPort p].ringSel.getLsbD 4 = true → s.ports[hostPort p].cq[q].enabled = true →
        Does (.registerWrite p s.activeCore o v) s fun t => t.ports[hostPort p].cq[q] = s.ports[hostPort p].cq[q])) ∧
    (∀ o : BitVec 12, o = 0x028 ∨ o = 0x02C → s.ports[hostPort p].evq.enabled = true →
      Does (.registerWrite p s.activeCore o v) s fun t => t.ports[hostPort p].evq = s.ports[hostPort p].evq) ∧
    (s.ports[hostPort p].ringSel.getLsbD 4 = false → s.ports[hostPort p].sq[q].enabled = true →
      Does (.ringCfgWrite p s.activeCore false v) s fun t => t.ports[hostPort p].sq[q] =
        { s.ports[hostPort p].sq[q] with
          cfg := if v.getLsbD 4 then s.ports[hostPort p].sq[q].cfg else s.ports[hostPort p].sq[q].cfg &&& ~~~0x10 }) ∧
    (s.ports[hostPort p].ringSel.getLsbD 4 = true → s.ports[hostPort p].cq[q].enabled = true →
      Does (.ringCfgWrite p s.activeCore false v) s fun t => t.ports[hostPort p].cq[q] =
        { s.ports[hostPort p].cq[q] with
          cfg := if v.getLsbD 4 then s.ports[hostPort p].cq[q].cfg else s.ports[hostPort p].cq[q].cfg &&& ~~~0x10 }) ∧
    (s.ports[hostPort p].evq.enabled = true →
      Does (.ringCfgWrite p s.activeCore true v) s fun t => t.ports[hostPort p].evq =
        { s.ports[hostPort p].evq with
          cfg := if v.getLsbD 4 then s.ports[hostPort p].evq.cfg else s.ports[hostPort p].evq.cfg &&& ~~~0x10 }) ∧
    (v.getLsbD 4 = true →
      (s.ports[hostPort p].ringSel.getLsbD 4 = false → s.ports[hostPort p].sq[q].enabled = false →
        s.ports[hostPort p].cq[(0 : Fin 16)].enabled = true → cfgGood true s.ports[hostPort p].sq[q].base v.toNat = true →
        Does (.ringCfgWrite p s.activeCore false v) s fun t => t.ports[hostPort p].sq[q].enabled = true ∧
          t.ports[hostPort p].sq[q].dev = 0 ∧ t.ports[hostPort p].sq[q].host = 0) ∧
      (s.ports[hostPort p].ringSel.getLsbD 4 = true → s.ports[hostPort p].cq[q].enabled = false →
        cfgGood false s.ports[hostPort p].cq[q].base v.toNat = true →
        Does (.ringCfgWrite p s.activeCore false v) s fun t => t.ports[hostPort p].cq[q].enabled = true ∧
          t.ports[hostPort p].cq[q].dev = 0 ∧ t.ports[hostPort p].cq[q].host = 0 ∧
          t.ports[hostPort p].cq[q].phase = true) ∧
      (s.ports[hostPort p].evq.enabled = false → cfgGood false s.ports[hostPort p].evq.base v.toNat = true →
        Does (.ringCfgWrite p s.activeCore true v) s fun t => t.ports[hostPort p].evq.enabled = true ∧
          t.ports[hostPort p].evq.dev = 0 ∧ t.ports[hostPort p].evq.host = 0 ∧
          t.ports[hostPort p].evq.phase = true))

/-- A command or a timer of one doorway moves neither machine of the other (R40, R44). -/
def Obligations.OtherDoorwayStands : Prop :=
  ∀ (s t : State) (d j : Doorway) (r : Req) (c : Instr), j ≠ d →
    c ∈ [.unlockTimeout d, .openTimeout d, .closeTimeout d, .lockTimeout d, .stepTimeout d, .warnTimeExpired d,
      .reopenPauseExpired d, .handleResetAllowed d, .dwellClose d, .tlTakeover d, .emergencyHandle d,
      .isolationKeyOn d, .isolationKeyOff d, .proofLost d, .releaseLost d, .zsLostOpen d, .releaseEdge d,
      .pushbuttonPress d, .opDoorOpen r d, .opDoorClose r d, .opDoorStop r d, .opDoorEvacOpen r d, .opDoorReset r d,
      .opStepRequest r d, .opDoorObstacle r d, .opDoorStatus r d] →
    exec c s = .next t →
    t.doors.door[j].leaf = s.doors.door[j].leaf ∧ t.doors.door[j].step = s.doors.door[j].step

/-- What one slot's pins, identity, memory frames and boots do leaves every other slot and its firmware alone
(R20, R21, R398, R406). -/
def Obligations.OtherSlotsStand : Prop :=
  ∀ (s t : State) (k j : Slot) (sid : BitVec 4) (par : Bool) (block frame : List Byte) (low : Option (Nat × Nat))
    (core : CoreId) (c : Instr), j ≠ k →
    c ∈ [.presAsserted k sid par, .presenceDebounceDone k, .identityTimeout k, .identityData k block low,
      .moduleBoot k, .memoryFrame k core frame] →
    exec c s = .next t →
    t.frame.slots[j] = s.frame.slots[j] ∧ t.update.firm[j] = s.update.firm[j]
end

