-- ==== Sys2Proof/Laws/State.lean ====
section
/-!
SUPPORT. What each named change of a sub-structure leaves and writes, one lemma per field, so that no later proof
unfolds a record update.
-/

namespace Sys2Proof.Machine

/-! ### One element of a vector -/

@[simp] theorem updV_get {α : Type} {n : Nat} (v : Vector α n) (i : Fin n) (f : α → α) (k : Nat) (h : k < n) :
    (updV v i f)[k] = if i.val = k then f v[k] else v[k] := by
  unfold updV
  rw [Vector.getElem_set]
  split
  · next e => subst e; rfl
  · rfl

theorem updV_self {α : Type} {n : Nat} (v : Vector α n) (i : Fin n) (f : α → α) : (updV v i f)[i] = f v[i] := by
  simp

theorem updV_other {α : Type} {n : Nat} (v : Vector α n) (i j : Fin n) (f : α → α) (h : i ≠ j) :
    (updV v i f)[j] = v[j] := by
  have : i.val ≠ j.val := fun e => h (Fin.ext e)
  simp [this]

/-! ### modSlot -/

section
variable (s : State) (k : Slot) (f : SlotSt → SlotSt)

@[simp] theorem State.modSlot_now : (s.modSlot k f).now = s.now := id rfl
@[simp] theorem State.modSlot_tick : (s.modSlot k f).tick = s.tick := id rfl
@[simp] theorem State.modSlot_free : (s.modSlot k f).free = s.free := id rfl
@[simp] theorem State.modSlot_params : (s.modSlot k f).params = s.params := id rfl
@[simp] theorem State.modSlot_paramsValid : (s.modSlot k f).paramsValid = s.paramsValid := id rfl
@[simp] theorem State.modSlot_doors : (s.modSlot k f).doors = s.doors := id rfl
@[simp] theorem State.modSlot_obst : (s.modSlot k f).obst = s.obst := id rfl
@[simp] theorem State.modSlot_axes : (s.modSlot k f).axes = s.axes := id rfl
@[simp] theorem State.modSlot_axMods : (s.modSlot k f).axMods = s.axMods := id rfl
@[simp] theorem State.modSlot_field : (s.modSlot k f).field = s.field := id rfl
@[simp] theorem State.modSlot_load : (s.modSlot k f).load = s.load := id rfl
@[simp] theorem State.modSlot_supply : (s.modSlot k f).supply = s.supply := id rfl
@[simp] theorem State.modSlot_energy : (s.modSlot k f).energy = s.energy := id rfl
@[simp] theorem State.modSlot_power : (s.modSlot k f).power = s.power := id rfl
@[simp] theorem State.modSlot_pair : (s.modSlot k f).pair = s.pair := id rfl
@[simp] theorem State.modSlot_ports : (s.modSlot k f).ports = s.ports := id rfl
@[simp] theorem State.modSlot_can : (s.modSlot k f).can = s.can := id rfl
@[simp] theorem State.modSlot_panel : (s.modSlot k f).panel = s.panel := id rfl
@[simp] theorem State.modSlot_time : (s.modSlot k f).time = s.time := id rfl
@[simp] theorem State.modSlot_journal : (s.modSlot k f).journal = s.journal := id rfl
@[simp] theorem State.modSlot_update : (s.modSlot k f).update = s.update := id rfl
@[simp] theorem State.modSlot_restart : (s.modSlot k f).restart = s.restart := id rfl
@[simp] theorem State.modSlot_pending : (s.modSlot k f).pending = s.pending := id rfl
@[simp] theorem State.modSlot_frame_slots : (s.modSlot k f).frame.slots = updV s.frame.slots k f := id rfl

end

/-! ### modDoor -/

section
variable (s : State) (d : Doorway) (f : DoorSt → DoorSt)

@[simp] theorem State.modDoor_now : (s.modDoor d f).now = s.now := id rfl
@[simp] theorem State.modDoor_tick : (s.modDoor d f).tick = s.tick := id rfl
@[simp] theorem State.modDoor_free : (s.modDoor d f).free = s.free := id rfl
@[simp] theorem State.modDoor_params : (s.modDoor d f).params = s.params := id rfl
@[simp] theorem State.modDoor_paramsValid : (s.modDoor d f).paramsValid = s.paramsValid := id rfl
@[simp] theorem State.modDoor_frame : (s.modDoor d f).frame = s.frame := id rfl
@[simp] theorem State.modDoor_obst : (s.modDoor d f).obst = s.obst := id rfl
@[simp] theorem State.modDoor_axes : (s.modDoor d f).axes = s.axes := id rfl
@[simp] theorem State.modDoor_axMods : (s.modDoor d f).axMods = s.axMods := id rfl
@[simp] theorem State.modDoor_field : (s.modDoor d f).field = s.field := id rfl
@[simp] theorem State.modDoor_load : (s.modDoor d f).load = s.load := id rfl
@[simp] theorem State.modDoor_supply : (s.modDoor d f).supply = s.supply := id rfl
@[simp] theorem State.modDoor_energy : (s.modDoor d f).energy = s.energy := id rfl
@[simp] theorem State.modDoor_power : (s.modDoor d f).power = s.power := id rfl
@[simp] theorem State.modDoor_pair : (s.modDoor d f).pair = s.pair := id rfl
@[simp] theorem State.modDoor_ports : (s.modDoor d f).ports = s.ports := id rfl
@[simp] theorem State.modDoor_can : (s.modDoor d f).can = s.can := id rfl
@[simp] theorem State.modDoor_panel : (s.modDoor d f).panel = s.panel := id rfl
@[simp] theorem State.modDoor_time : (s.modDoor d f).time = s.time := id rfl
@[simp] theorem State.modDoor_journal : (s.modDoor d f).journal = s.journal := id rfl
@[simp] theorem State.modDoor_update : (s.modDoor d f).update = s.update := id rfl
@[simp] theorem State.modDoor_restart : (s.modDoor d f).restart = s.restart := id rfl
@[simp] theorem State.modDoor_pending : (s.modDoor d f).pending = s.pending := id rfl
@[simp] theorem State.modDoor_doors_door : (s.modDoor d f).doors.door = updV s.doors.door d f := id rfl

end

/-! ### modObst -/

section
variable (s : State) (d : Doorway) (f : ObstSt → ObstSt)

@[simp] theorem State.modObst_now : (s.modObst d f).now = s.now := id rfl
@[simp] theorem State.modObst_tick : (s.modObst d f).tick = s.tick := id rfl
@[simp] theorem State.modObst_free : (s.modObst d f).free = s.free := id rfl
@[simp] theorem State.modObst_params : (s.modObst d f).params = s.params := id rfl
@[simp] theorem State.modObst_paramsValid : (s.modObst d f).paramsValid = s.paramsValid := id rfl
@[simp] theorem State.modObst_frame : (s.modObst d f).frame = s.frame := id rfl
@[simp] theorem State.modObst_doors : (s.modObst d f).doors = s.doors := id rfl
@[simp] theorem State.modObst_axes : (s.modObst d f).axes = s.axes := id rfl
@[simp] theorem State.modObst_axMods : (s.modObst d f).axMods = s.axMods := id rfl
@[simp] theorem State.modObst_field : (s.modObst d f).field = s.field := id rfl
@[simp] theorem State.modObst_load : (s.modObst d f).load = s.load := id rfl
@[simp] theorem State.modObst_supply : (s.modObst d f).supply = s.supply := id rfl
@[simp] theorem State.modObst_energy : (s.modObst d f).energy = s.energy := id rfl
@[simp] theorem State.modObst_power : (s.modObst d f).power = s.power := id rfl
@[simp] theorem State.modObst_pair : (s.modObst d f).pair = s.pair := id rfl
@[simp] theorem State.modObst_ports : (s.modObst d f).ports = s.ports := id rfl
@[simp] theorem State.modObst_can : (s.modObst d f).can = s.can := id rfl
@[simp] theorem State.modObst_panel : (s.modObst d f).panel = s.panel := id rfl
@[simp] theorem State.modObst_time : (s.modObst d f).time = s.time := id rfl
@[simp] theorem State.modObst_journal : (s.modObst d f).journal = s.journal := id rfl
@[simp] theorem State.modObst_update : (s.modObst d f).update = s.update := id rfl
@[simp] theorem State.modObst_restart : (s.modObst d f).restart = s.restart := id rfl
@[simp] theorem State.modObst_pending : (s.modObst d f).pending = s.pending := id rfl
@[simp] theorem State.modObst_obst : (s.modObst d f).obst = updV s.obst d f := id rfl

end

/-! ### modAxis -/

section
variable (s : State) (a : Axis) (f : AxisSt → AxisSt)

@[simp] theorem State.modAxis_now : (s.modAxis a f).now = s.now := id rfl
@[simp] theorem State.modAxis_tick : (s.modAxis a f).tick = s.tick := id rfl
@[simp] theorem State.modAxis_free : (s.modAxis a f).free = s.free := id rfl
@[simp] theorem State.modAxis_params : (s.modAxis a f).params = s.params := id rfl
@[simp] theorem State.modAxis_paramsValid : (s.modAxis a f).paramsValid = s.paramsValid := id rfl
@[simp] theorem State.modAxis_frame : (s.modAxis a f).frame = s.frame := id rfl
@[simp] theorem State.modAxis_doors : (s.modAxis a f).doors = s.doors := id rfl
@[simp] theorem State.modAxis_obst : (s.modAxis a f).obst = s.obst := id rfl
@[simp] theorem State.modAxis_axMods : (s.modAxis a f).axMods = s.axMods := id rfl
@[simp] theorem State.modAxis_field : (s.modAxis a f).field = s.field := id rfl
@[simp] theorem State.modAxis_load : (s.modAxis a f).load = s.load := id rfl
@[simp] theorem State.modAxis_supply : (s.modAxis a f).supply = s.supply := id rfl
@[simp] theorem State.modAxis_energy : (s.modAxis a f).energy = s.energy := id rfl
@[simp] theorem State.modAxis_power : (s.modAxis a f).power = s.power := id rfl
@[simp] theorem State.modAxis_pair : (s.modAxis a f).pair = s.pair := id rfl
@[simp] theorem State.modAxis_ports : (s.modAxis a f).ports = s.ports := id rfl
@[simp] theorem State.modAxis_can : (s.modAxis a f).can = s.can := id rfl
@[simp] theorem State.modAxis_panel : (s.modAxis a f).panel = s.panel := id rfl
@[simp] theorem State.modAxis_time : (s.modAxis a f).time = s.time := id rfl
@[simp] theorem State.modAxis_journal : (s.modAxis a f).journal = s.journal := id rfl
@[simp] theorem State.modAxis_update : (s.modAxis a f).update = s.update := id rfl
@[simp] theorem State.modAxis_restart : (s.modAxis a f).restart = s.restart := id rfl
@[simp] theorem State.modAxis_pending : (s.modAxis a f).pending = s.pending := id rfl
@[simp] theorem State.modAxis_axes : (s.modAxis a f).axes = updV s.axes a f := id rfl

end

/-! ### modAxMod -/

section
variable (s : State) (a : Axis) (f : AxModSt → AxModSt)

@[simp] theorem State.modAxMod_now : (s.modAxMod a f).now = s.now := id rfl
@[simp] theorem State.modAxMod_tick : (s.modAxMod a f).tick = s.tick := id rfl
@[simp] theorem State.modAxMod_free : (s.modAxMod a f).free = s.free := id rfl
@[simp] theorem State.modAxMod_params : (s.modAxMod a f).params = s.params := id rfl
@[simp] theorem State.modAxMod_paramsValid : (s.modAxMod a f).paramsValid = s.paramsValid := id rfl
@[simp] theorem State.modAxMod_frame : (s.modAxMod a f).frame = s.frame := id rfl
@[simp] theorem State.modAxMod_doors : (s.modAxMod a f).doors = s.doors := id rfl
@[simp] theorem State.modAxMod_obst : (s.modAxMod a f).obst = s.obst := id rfl
@[simp] theorem State.modAxMod_axes : (s.modAxMod a f).axes = s.axes := id rfl
@[simp] theorem State.modAxMod_field : (s.modAxMod a f).field = s.field := id rfl
@[simp] theorem State.modAxMod_load : (s.modAxMod a f).load = s.load := id rfl
@[simp] theorem State.modAxMod_supply : (s.modAxMod a f).supply = s.supply := id rfl
@[simp] theorem State.modAxMod_energy : (s.modAxMod a f).energy = s.energy := id rfl
@[simp] theorem State.modAxMod_power : (s.modAxMod a f).power = s.power := id rfl
@[simp] theorem State.modAxMod_pair : (s.modAxMod a f).pair = s.pair := id rfl
@[simp] theorem State.modAxMod_ports : (s.modAxMod a f).ports = s.ports := id rfl
@[simp] theorem State.modAxMod_can : (s.modAxMod a f).can = s.can := id rfl
@[simp] theorem State.modAxMod_panel : (s.modAxMod a f).panel = s.panel := id rfl
@[simp] theorem State.modAxMod_time : (s.modAxMod a f).time = s.time := id rfl
@[simp] theorem State.modAxMod_journal : (s.modAxMod a f).journal = s.journal := id rfl
@[simp] theorem State.modAxMod_update : (s.modAxMod a f).update = s.update := id rfl
@[simp] theorem State.modAxMod_restart : (s.modAxMod a f).restart = s.restart := id rfl
@[simp] theorem State.modAxMod_pending : (s.modAxMod a f).pending = s.pending := id rfl
@[simp] theorem State.modAxMod_axMods : (s.modAxMod a f).axMods = updV s.axMods a f := id rfl

end

/-! ### modChan -/

section
variable (s : State) (c : Chan) (f : ChanSt → ChanSt)

@[simp] theorem State.modChan_now : (s.modChan c f).now = s.now := id rfl
@[simp] theorem State.modChan_tick : (s.modChan c f).tick = s.tick := id rfl
@[simp] theorem State.modChan_free : (s.modChan c f).free = s.free := id rfl
@[simp] theorem State.modChan_params : (s.modChan c f).params = s.params := id rfl
@[simp] theorem State.modChan_paramsValid : (s.modChan c f).paramsValid = s.paramsValid := id rfl
@[simp] theorem State.modChan_frame : (s.modChan c f).frame = s.frame := id rfl
@[simp] theorem State.modChan_doors : (s.modChan c f).doors = s.doors := id rfl
@[simp] theorem State.modChan_obst : (s.modChan c f).obst = s.obst := id rfl
@[simp] theorem State.modChan_axes : (s.modChan c f).axes = s.axes := id rfl
@[simp] theorem State.modChan_axMods : (s.modChan c f).axMods = s.axMods := id rfl
@[simp] theorem State.modChan_load : (s.modChan c f).load = s.load := id rfl
@[simp] theorem State.modChan_supply : (s.modChan c f).supply = s.supply := id rfl
@[simp] theorem State.modChan_energy : (s.modChan c f).energy = s.energy := id rfl
@[simp] theorem State.modChan_power : (s.modChan c f).power = s.power := id rfl
@[simp] theorem State.modChan_pair : (s.modChan c f).pair = s.pair := id rfl
@[simp] theorem State.modChan_ports : (s.modChan c f).ports = s.ports := id rfl
@[simp] theorem State.modChan_can : (s.modChan c f).can = s.can := id rfl
@[simp] theorem State.modChan_panel : (s.modChan c f).panel = s.panel := id rfl
@[simp] theorem State.modChan_time : (s.modChan c f).time = s.time := id rfl
@[simp] theorem State.modChan_journal : (s.modChan c f).journal = s.journal := id rfl
@[simp] theorem State.modChan_update : (s.modChan c f).update = s.update := id rfl
@[simp] theorem State.modChan_restart : (s.modChan c f).restart = s.restart := id rfl
@[simp] theorem State.modChan_pending : (s.modChan c f).pending = s.pending := id rfl
@[simp] theorem State.modChan_field_chan : (s.modChan c f).field.chan = updV s.field.chan c f := id rfl

end

/-! ### modFieldMod -/

section
variable (s : State) (m : Fin 2) (f : FieldModSt → FieldModSt)

@[simp] theorem State.modFieldMod_now : (s.modFieldMod m f).now = s.now := id rfl
@[simp] theorem State.modFieldMod_tick : (s.modFieldMod m f).tick = s.tick := id rfl
@[simp] theorem State.modFieldMod_free : (s.modFieldMod m f).free = s.free := id rfl
@[simp] theorem State.modFieldMod_params : (s.modFieldMod m f).params = s.params := id rfl
@[simp] theorem State.modFieldMod_paramsValid : (s.modFieldMod m f).paramsValid = s.paramsValid := id rfl
@[simp] theorem State.modFieldMod_frame : (s.modFieldMod m f).frame = s.frame := id rfl
@[simp] theorem State.modFieldMod_doors : (s.modFieldMod m f).doors = s.doors := id rfl
@[simp] theorem State.modFieldMod_obst : (s.modFieldMod m f).obst = s.obst := id rfl
@[simp] theorem State.modFieldMod_axes : (s.modFieldMod m f).axes = s.axes := id rfl
@[simp] theorem State.modFieldMod_axMods : (s.modFieldMod m f).axMods = s.axMods := id rfl
@[simp] theorem State.modFieldMod_load : (s.modFieldMod m f).load = s.load := id rfl
@[simp] theorem State.modFieldMod_supply : (s.modFieldMod m f).supply = s.supply := id rfl
@[simp] theorem State.modFieldMod_energy : (s.modFieldMod m f).energy = s.energy := id rfl
@[simp] theorem State.modFieldMod_power : (s.modFieldMod m f).power = s.power := id rfl
@[simp] theorem State.modFieldMod_pair : (s.modFieldMod m f).pair = s.pair := id rfl
@[simp] theorem State.modFieldMod_ports : (s.modFieldMod m f).ports = s.ports := id rfl
@[simp] theorem State.modFieldMod_can : (s.modFieldMod m f).can = s.can := id rfl
@[simp] theorem State.modFieldMod_panel : (s.modFieldMod m f).panel = s.panel := id rfl
@[simp] theorem State.modFieldMod_time : (s.modFieldMod m f).time = s.time := id rfl
@[simp] theorem State.modFieldMod_journal : (s.modFieldMod m f).journal = s.journal := id rfl
@[simp] theorem State.modFieldMod_update : (s.modFieldMod m f).update = s.update := id rfl
@[simp] theorem State.modFieldMod_restart : (s.modFieldMod m f).restart = s.restart := id rfl
@[simp] theorem State.modFieldMod_pending : (s.modFieldMod m f).pending = s.pending := id rfl
@[simp] theorem State.modFieldMod_field_mods : (s.modFieldMod m f).field.mods = updV s.field.mods m f := id rfl

end

/-! ### modGroup -/

section
variable (s : State) (g : Group) (f : GroupSt → GroupSt)

@[simp] theorem State.modGroup_now : (s.modGroup g f).now = s.now := id rfl
@[simp] theorem State.modGroup_tick : (s.modGroup g f).tick = s.tick := id rfl
@[simp] theorem State.modGroup_free : (s.modGroup g f).free = s.free := id rfl
@[simp] theorem State.modGroup_params : (s.modGroup g f).params = s.params := id rfl
@[simp] theorem State.modGroup_paramsValid : (s.modGroup g f).paramsValid = s.paramsValid := id rfl
@[simp] theorem State.modGroup_frame : (s.modGroup g f).frame = s.frame := id rfl
@[simp] theorem State.modGroup_doors : (s.modGroup g f).doors = s.doors := id rfl
@[simp] theorem State.modGroup_obst : (s.modGroup g f).obst = s.obst := id rfl
@[simp] theorem State.modGroup_axes : (s.modGroup g f).axes = s.axes := id rfl
@[simp] theorem State.modGroup_axMods : (s.modGroup g f).axMods = s.axMods := id rfl
@[simp] theorem State.modGroup_load : (s.modGroup g f).load = s.load := id rfl
@[simp] theorem State.modGroup_supply : (s.modGroup g f).supply = s.supply := id rfl
@[simp] theorem State.modGroup_energy : (s.modGroup g f).energy = s.energy := id rfl
@[simp] theorem State.modGroup_power : (s.modGroup g f).power = s.power := id rfl
@[simp] theorem State.modGroup_pair : (s.modGroup g f).pair = s.pair := id rfl
@[simp] theorem State.modGroup_ports : (s.modGroup g f).ports = s.ports := id rfl
@[simp] theorem State.modGroup_can : (s.modGroup g f).can = s.can := id rfl
@[simp] theorem State.modGroup_panel : (s.modGroup g f).panel = s.panel := id rfl
@[simp] theorem State.modGroup_time : (s.modGroup g f).time = s.time := id rfl
@[simp] theorem State.modGroup_journal : (s.modGroup g f).journal = s.journal := id rfl
@[simp] theorem State.modGroup_update : (s.modGroup g f).update = s.update := id rfl
@[simp] theorem State.modGroup_restart : (s.modGroup g f).restart = s.restart := id rfl
@[simp] theorem State.modGroup_pending : (s.modGroup g f).pending = s.pending := id rfl
@[simp] theorem State.modGroup_field_group : (s.modGroup g f).field.group = updV s.field.group g f := id rfl

end

/-! ### modLoad -/

section
variable (s : State) (c : LoadCh) (f : LoadChSt → LoadChSt)

@[simp] theorem State.modLoad_now : (s.modLoad c f).now = s.now := id rfl
@[simp] theorem State.modLoad_tick : (s.modLoad c f).tick = s.tick := id rfl
@[simp] theorem State.modLoad_free : (s.modLoad c f).free = s.free := id rfl
@[simp] theorem State.modLoad_params : (s.modLoad c f).params = s.params := id rfl
@[simp] theorem State.modLoad_paramsValid : (s.modLoad c f).paramsValid = s.paramsValid := id rfl
@[simp] theorem State.modLoad_frame : (s.modLoad c f).frame = s.frame := id rfl
@[simp] theorem State.modLoad_doors : (s.modLoad c f).doors = s.doors := id rfl
@[simp] theorem State.modLoad_obst : (s.modLoad c f).obst = s.obst := id rfl
@[simp] theorem State.modLoad_axes : (s.modLoad c f).axes = s.axes := id rfl
@[simp] theorem State.modLoad_axMods : (s.modLoad c f).axMods = s.axMods := id rfl
@[simp] theorem State.modLoad_field : (s.modLoad c f).field = s.field := id rfl
@[simp] theorem State.modLoad_supply : (s.modLoad c f).supply = s.supply := id rfl
@[simp] theorem State.modLoad_energy : (s.modLoad c f).energy = s.energy := id rfl
@[simp] theorem State.modLoad_power : (s.modLoad c f).power = s.power := id rfl
@[simp] theorem State.modLoad_pair : (s.modLoad c f).pair = s.pair := id rfl
@[simp] theorem State.modLoad_ports : (s.modLoad c f).ports = s.ports := id rfl
@[simp] theorem State.modLoad_can : (s.modLoad c f).can = s.can := id rfl
@[simp] theorem State.modLoad_panel : (s.modLoad c f).panel = s.panel := id rfl
@[simp] theorem State.modLoad_time : (s.modLoad c f).time = s.time := id rfl
@[simp] theorem State.modLoad_journal : (s.modLoad c f).journal = s.journal := id rfl
@[simp] theorem State.modLoad_update : (s.modLoad c f).update = s.update := id rfl
@[simp] theorem State.modLoad_restart : (s.modLoad c f).restart = s.restart := id rfl
@[simp] theorem State.modLoad_pending : (s.modLoad c f).pending = s.pending := id rfl
@[simp] theorem State.modLoad_load_chan : (s.modLoad c f).load.chan = updV s.load.chan c f := id rfl

end

/-! ### modPm -/

section
variable (s : State) (p : Fin 2) (f : PmSt → PmSt)

@[simp] theorem State.modPm_now : (s.modPm p f).now = s.now := id rfl
@[simp] theorem State.modPm_tick : (s.modPm p f).tick = s.tick := id rfl
@[simp] theorem State.modPm_free : (s.modPm p f).free = s.free := id rfl
@[simp] theorem State.modPm_params : (s.modPm p f).params = s.params := id rfl
@[simp] theorem State.modPm_paramsValid : (s.modPm p f).paramsValid = s.paramsValid := id rfl
@[simp] theorem State.modPm_frame : (s.modPm p f).frame = s.frame := id rfl
@[simp] theorem State.modPm_doors : (s.modPm p f).doors = s.doors := id rfl
@[simp] theorem State.modPm_obst : (s.modPm p f).obst = s.obst := id rfl
@[simp] theorem State.modPm_axes : (s.modPm p f).axes = s.axes := id rfl
@[simp] theorem State.modPm_axMods : (s.modPm p f).axMods = s.axMods := id rfl
@[simp] theorem State.modPm_field : (s.modPm p f).field = s.field := id rfl
@[simp] theorem State.modPm_load : (s.modPm p f).load = s.load := id rfl
@[simp] theorem State.modPm_energy : (s.modPm p f).energy = s.energy := id rfl
@[simp] theorem State.modPm_power : (s.modPm p f).power = s.power := id rfl
@[simp] theorem State.modPm_pair : (s.modPm p f).pair = s.pair := id rfl
@[simp] theorem State.modPm_ports : (s.modPm p f).ports = s.ports := id rfl
@[simp] theorem State.modPm_can : (s.modPm p f).can = s.can := id rfl
@[simp] theorem State.modPm_panel : (s.modPm p f).panel = s.panel := id rfl
@[simp] theorem State.modPm_time : (s.modPm p f).time = s.time := id rfl
@[simp] theorem State.modPm_journal : (s.modPm p f).journal = s.journal := id rfl
@[simp] theorem State.modPm_update : (s.modPm p f).update = s.update := id rfl
@[simp] theorem State.modPm_restart : (s.modPm p f).restart = s.restart := id rfl
@[simp] theorem State.modPm_pending : (s.modPm p f).pending = s.pending := id rfl
@[simp] theorem State.modPm_supply_pm : (s.modPm p f).supply.pm = updV s.supply.pm p f := id rfl

end

/-! ### modSink -/

section
variable (s : State) (c : CoreId) (f : SinkSt → SinkSt)

@[simp] theorem State.modSink_now : (s.modSink c f).now = s.now := id rfl
@[simp] theorem State.modSink_tick : (s.modSink c f).tick = s.tick := id rfl
@[simp] theorem State.modSink_free : (s.modSink c f).free = s.free := id rfl
@[simp] theorem State.modSink_params : (s.modSink c f).params = s.params := id rfl
@[simp] theorem State.modSink_paramsValid : (s.modSink c f).paramsValid = s.paramsValid := id rfl
@[simp] theorem State.modSink_frame : (s.modSink c f).frame = s.frame := id rfl
@[simp] theorem State.modSink_doors : (s.modSink c f).doors = s.doors := id rfl
@[simp] theorem State.modSink_obst : (s.modSink c f).obst = s.obst := id rfl
@[simp] theorem State.modSink_axes : (s.modSink c f).axes = s.axes := id rfl
@[simp] theorem State.modSink_axMods : (s.modSink c f).axMods = s.axMods := id rfl
@[simp] theorem State.modSink_field : (s.modSink c f).field = s.field := id rfl
@[simp] theorem State.modSink_load : (s.modSink c f).load = s.load := id rfl
@[simp] theorem State.modSink_energy : (s.modSink c f).energy = s.energy := id rfl
@[simp] theorem State.modSink_power : (s.modSink c f).power = s.power := id rfl
@[simp] theorem State.modSink_pair : (s.modSink c f).pair = s.pair := id rfl
@[simp] theorem State.modSink_ports : (s.modSink c f).ports = s.ports := id rfl
@[simp] theorem State.modSink_can : (s.modSink c f).can = s.can := id rfl
@[simp] theorem State.modSink_panel : (s.modSink c f).panel = s.panel := id rfl
@[simp] theorem State.modSink_time : (s.modSink c f).time = s.time := id rfl
@[simp] theorem State.modSink_journal : (s.modSink c f).journal = s.journal := id rfl
@[simp] theorem State.modSink_update : (s.modSink c f).update = s.update := id rfl
@[simp] theorem State.modSink_restart : (s.modSink c f).restart = s.restart := id rfl
@[simp] theorem State.modSink_pending : (s.modSink c f).pending = s.pending := id rfl
@[simp] theorem State.modSink_supply_sinks : (s.modSink c f).supply.sinks = updV s.supply.sinks c f := id rfl

end

/-! ### modEnergy -/

section
variable (s : State) (f : EnergySt → EnergySt)

@[simp] theorem State.modEnergy_now : (s.modEnergy f).now = s.now := id rfl
@[simp] theorem State.modEnergy_tick : (s.modEnergy f).tick = s.tick := id rfl
@[simp] theorem State.modEnergy_free : (s.modEnergy f).free = s.free := id rfl
@[simp] theorem State.modEnergy_params : (s.modEnergy f).params = s.params := id rfl
@[simp] theorem State.modEnergy_paramsValid : (s.modEnergy f).paramsValid = s.paramsValid := id rfl
@[simp] theorem State.modEnergy_frame : (s.modEnergy f).frame = s.frame := id rfl
@[simp] theorem State.modEnergy_doors : (s.modEnergy f).doors = s.doors := id rfl
@[simp] theorem State.modEnergy_obst : (s.modEnergy f).obst = s.obst := id rfl
@[simp] theorem State.modEnergy_axes : (s.modEnergy f).axes = s.axes := id rfl
@[simp] theorem State.modEnergy_axMods : (s.modEnergy f).axMods = s.axMods := id rfl
@[simp] theorem State.modEnergy_field : (s.modEnergy f).field = s.field := id rfl
@[simp] theorem State.modEnergy_load : (s.modEnergy f).load = s.load := id rfl
@[simp] theorem State.modEnergy_supply : (s.modEnergy f).supply = s.supply := id rfl
@[simp] theorem State.modEnergy_power : (s.modEnergy f).power = s.power := id rfl
@[simp] theorem State.modEnergy_pair : (s.modEnergy f).pair = s.pair := id rfl
@[simp] theorem State.modEnergy_ports : (s.modEnergy f).ports = s.ports := id rfl
@[simp] theorem State.modEnergy_can : (s.modEnergy f).can = s.can := id rfl
@[simp] theorem State.modEnergy_panel : (s.modEnergy f).panel = s.panel := id rfl
@[simp] theorem State.modEnergy_time : (s.modEnergy f).time = s.time := id rfl
@[simp] theorem State.modEnergy_journal : (s.modEnergy f).journal = s.journal := id rfl
@[simp] theorem State.modEnergy_update : (s.modEnergy f).update = s.update := id rfl
@[simp] theorem State.modEnergy_restart : (s.modEnergy f).restart = s.restart := id rfl
@[simp] theorem State.modEnergy_pending : (s.modEnergy f).pending = s.pending := id rfl
@[simp] theorem State.modEnergy_energy : (s.modEnergy f).energy = f s.energy := id rfl

end

/-! ### modPower -/

section
variable (s : State) (f : PowerSt → PowerSt)

@[simp] theorem State.modPower_now : (s.modPower f).now = s.now := id rfl
@[simp] theorem State.modPower_tick : (s.modPower f).tick = s.tick := id rfl
@[simp] theorem State.modPower_free : (s.modPower f).free = s.free := id rfl
@[simp] theorem State.modPower_params : (s.modPower f).params = s.params := id rfl
@[simp] theorem State.modPower_paramsValid : (s.modPower f).paramsValid = s.paramsValid := id rfl
@[simp] theorem State.modPower_frame : (s.modPower f).frame = s.frame := id rfl
@[simp] theorem State.modPower_doors : (s.modPower f).doors = s.doors := id rfl
@[simp] theorem State.modPower_obst : (s.modPower f).obst = s.obst := id rfl
@[simp] theorem State.modPower_axes : (s.modPower f).axes = s.axes := id rfl
@[simp] theorem State.modPower_axMods : (s.modPower f).axMods = s.axMods := id rfl
@[simp] theorem State.modPower_field : (s.modPower f).field = s.field := id rfl
@[simp] theorem State.modPower_load : (s.modPower f).load = s.load := id rfl
@[simp] theorem State.modPower_supply : (s.modPower f).supply = s.supply := id rfl
@[simp] theorem State.modPower_energy : (s.modPower f).energy = s.energy := id rfl
@[simp] theorem State.modPower_pair : (s.modPower f).pair = s.pair := id rfl
@[simp] theorem State.modPower_ports : (s.modPower f).ports = s.ports := id rfl
@[simp] theorem State.modPower_can : (s.modPower f).can = s.can := id rfl
@[simp] theorem State.modPower_panel : (s.modPower f).panel = s.panel := id rfl
@[simp] theorem State.modPower_time : (s.modPower f).time = s.time := id rfl
@[simp] theorem State.modPower_journal : (s.modPower f).journal = s.journal := id rfl
@[simp] theorem State.modPower_update : (s.modPower f).update = s.update := id rfl
@[simp] theorem State.modPower_restart : (s.modPower f).restart = s.restart := id rfl
@[simp] theorem State.modPower_pending : (s.modPower f).pending = s.pending := id rfl
@[simp] theorem State.modPower_power : (s.modPower f).power = f s.power := id rfl

end

/-! ### modPair -/

section
variable (s : State) (f : PairSt → PairSt)

@[simp] theorem State.modPair_now : (s.modPair f).now = s.now := id rfl
@[simp] theorem State.modPair_tick : (s.modPair f).tick = s.tick := id rfl
@[simp] theorem State.modPair_free : (s.modPair f).free = s.free := id rfl
@[simp] theorem State.modPair_params : (s.modPair f).params = s.params := id rfl
@[simp] theorem State.modPair_paramsValid : (s.modPair f).paramsValid = s.paramsValid := id rfl
@[simp] theorem State.modPair_frame : (s.modPair f).frame = s.frame := id rfl
@[simp] theorem State.modPair_doors : (s.modPair f).doors = s.doors := id rfl
@[simp] theorem State.modPair_obst : (s.modPair f).obst = s.obst := id rfl
@[simp] theorem State.modPair_axes : (s.modPair f).axes = s.axes := id rfl
@[simp] theorem State.modPair_axMods : (s.modPair f).axMods = s.axMods := id rfl
@[simp] theorem State.modPair_field : (s.modPair f).field = s.field := id rfl
@[simp] theorem State.modPair_load : (s.modPair f).load = s.load := id rfl
@[simp] theorem State.modPair_supply : (s.modPair f).supply = s.supply := id rfl
@[simp] theorem State.modPair_energy : (s.modPair f).energy = s.energy := id rfl
@[simp] theorem State.modPair_power : (s.modPair f).power = s.power := id rfl
@[simp] theorem State.modPair_ports : (s.modPair f).ports = s.ports := id rfl
@[simp] theorem State.modPair_can : (s.modPair f).can = s.can := id rfl
@[simp] theorem State.modPair_panel : (s.modPair f).panel = s.panel := id rfl
@[simp] theorem State.modPair_time : (s.modPair f).time = s.time := id rfl
@[simp] theorem State.modPair_journal : (s.modPair f).journal = s.journal := id rfl
@[simp] theorem State.modPair_update : (s.modPair f).update = s.update := id rfl
@[simp] theorem State.modPair_restart : (s.modPair f).restart = s.restart := id rfl
@[simp] theorem State.modPair_pending : (s.modPair f).pending = s.pending := id rfl
@[simp] theorem State.modPair_pair : (s.modPair f).pair = f s.pair := id rfl

end

/-! ### modCore -/

section
variable (s : State) (c : CoreId) (f : CoreSt → CoreSt)

@[simp] theorem State.modCore_now : (s.modCore c f).now = s.now := id rfl
@[simp] theorem State.modCore_tick : (s.modCore c f).tick = s.tick := id rfl
@[simp] theorem State.modCore_free : (s.modCore c f).free = s.free := id rfl
@[simp] theorem State.modCore_params : (s.modCore c f).params = s.params := id rfl
@[simp] theorem State.modCore_paramsValid : (s.modCore c f).paramsValid = s.paramsValid := id rfl
@[simp] theorem State.modCore_frame : (s.modCore c f).frame = s.frame := id rfl
@[simp] theorem State.modCore_doors : (s.modCore c f).doors = s.doors := id rfl
@[simp] theorem State.modCore_obst : (s.modCore c f).obst = s.obst := id rfl
@[simp] theorem State.modCore_axes : (s.modCore c f).axes = s.axes := id rfl
@[simp] theorem State.modCore_axMods : (s.modCore c f).axMods = s.axMods := id rfl
@[simp] theorem State.modCore_field : (s.modCore c f).field = s.field := id rfl
@[simp] theorem State.modCore_load : (s.modCore c f).load = s.load := id rfl
@[simp] theorem State.modCore_supply : (s.modCore c f).supply = s.supply := id rfl
@[simp] theorem State.modCore_energy : (s.modCore c f).energy = s.energy := id rfl
@[simp] theorem State.modCore_power : (s.modCore c f).power = s.power := id rfl
@[simp] theorem State.modCore_ports : (s.modCore c f).ports = s.ports := id rfl
@[simp] theorem State.modCore_can : (s.modCore c f).can = s.can := id rfl
@[simp] theorem State.modCore_panel : (s.modCore c f).panel = s.panel := id rfl
@[simp] theorem State.modCore_time : (s.modCore c f).time = s.time := id rfl
@[simp] theorem State.modCore_journal : (s.modCore c f).journal = s.journal := id rfl
@[simp] theorem State.modCore_update : (s.modCore c f).update = s.update := id rfl
@[simp] theorem State.modCore_restart : (s.modCore c f).restart = s.restart := id rfl
@[simp] theorem State.modCore_pending : (s.modCore c f).pending = s.pending := id rfl
@[simp] theorem State.modCore_pair_core : (s.modCore c f).pair.core = updV s.pair.core c f := id rfl

end

/-! ### modPort -/

section
variable (s : State) (p : PortId) (f : PortSt → PortSt)

@[simp] theorem State.modPort_now : (s.modPort p f).now = s.now := id rfl
@[simp] theorem State.modPort_tick : (s.modPort p f).tick = s.tick := id rfl
@[simp] theorem State.modPort_free : (s.modPort p f).free = s.free := id rfl
@[simp] theorem State.modPort_params : (s.modPort p f).params = s.params := id rfl
@[simp] theorem State.modPort_paramsValid : (s.modPort p f).paramsValid = s.paramsValid := id rfl
@[simp] theorem State.modPort_frame : (s.modPort p f).frame = s.frame := id rfl
@[simp] theorem State.modPort_doors : (s.modPort p f).doors = s.doors := id rfl
@[simp] theorem State.modPort_obst : (s.modPort p f).obst = s.obst := id rfl
@[simp] theorem State.modPort_axes : (s.modPort p f).axes = s.axes := id rfl
@[simp] theorem State.modPort_axMods : (s.modPort p f).axMods = s.axMods := id rfl
@[simp] theorem State.modPort_field : (s.modPort p f).field = s.field := id rfl
@[simp] theorem State.modPort_load : (s.modPort p f).load = s.load := id rfl
@[simp] theorem State.modPort_supply : (s.modPort p f).supply = s.supply := id rfl
@[simp] theorem State.modPort_energy : (s.modPort p f).energy = s.energy := id rfl
@[simp] theorem State.modPort_power : (s.modPort p f).power = s.power := id rfl
@[simp] theorem State.modPort_pair : (s.modPort p f).pair = s.pair := id rfl
@[simp] theorem State.modPort_can : (s.modPort p f).can = s.can := id rfl
@[simp] theorem State.modPort_panel : (s.modPort p f).panel = s.panel := id rfl
@[simp] theorem State.modPort_time : (s.modPort p f).time = s.time := id rfl
@[simp] theorem State.modPort_journal : (s.modPort p f).journal = s.journal := id rfl
@[simp] theorem State.modPort_update : (s.modPort p f).update = s.update := id rfl
@[simp] theorem State.modPort_restart : (s.modPort p f).restart = s.restart := id rfl
@[simp] theorem State.modPort_pending : (s.modPort p f).pending = s.pending := id rfl
@[simp] theorem State.modPort_ports : (s.modPort p f).ports = updV s.ports p f := id rfl

end

/-! ### modCan -/

section
variable (s : State) (f : CanSt → CanSt)

@[simp] theorem State.modCan_now : (s.modCan f).now = s.now := id rfl
@[simp] theorem State.modCan_tick : (s.modCan f).tick = s.tick := id rfl
@[simp] theorem State.modCan_free : (s.modCan f).free = s.free := id rfl
@[simp] theorem State.modCan_params : (s.modCan f).params = s.params := id rfl
@[simp] theorem State.modCan_paramsValid : (s.modCan f).paramsValid = s.paramsValid := id rfl
@[simp] theorem State.modCan_frame : (s.modCan f).frame = s.frame := id rfl
@[simp] theorem State.modCan_doors : (s.modCan f).doors = s.doors := id rfl
@[simp] theorem State.modCan_obst : (s.modCan f).obst = s.obst := id rfl
@[simp] theorem State.modCan_axes : (s.modCan f).axes = s.axes := id rfl
@[simp] theorem State.modCan_axMods : (s.modCan f).axMods = s.axMods := id rfl
@[simp] theorem State.modCan_field : (s.modCan f).field = s.field := id rfl
@[simp] theorem State.modCan_load : (s.modCan f).load = s.load := id rfl
@[simp] theorem State.modCan_supply : (s.modCan f).supply = s.supply := id rfl
@[simp] theorem State.modCan_energy : (s.modCan f).energy = s.energy := id rfl
@[simp] theorem State.modCan_power : (s.modCan f).power = s.power := id rfl
@[simp] theorem State.modCan_pair : (s.modCan f).pair = s.pair := id rfl
@[simp] theorem State.modCan_ports : (s.modCan f).ports = s.ports := id rfl
@[simp] theorem State.modCan_panel : (s.modCan f).panel = s.panel := id rfl
@[simp] theorem State.modCan_time : (s.modCan f).time = s.time := id rfl
@[simp] theorem State.modCan_journal : (s.modCan f).journal = s.journal := id rfl
@[simp] theorem State.modCan_update : (s.modCan f).update = s.update := id rfl
@[simp] theorem State.modCan_restart : (s.modCan f).restart = s.restart := id rfl
@[simp] theorem State.modCan_pending : (s.modCan f).pending = s.pending := id rfl
@[simp] theorem State.modCan_can : (s.modCan f).can = f s.can := id rfl

end

/-! ### modPanel -/

section
variable (s : State) (f : PanelSt → PanelSt)

@[simp] theorem State.modPanel_now : (s.modPanel f).now = s.now := id rfl
@[simp] theorem State.modPanel_tick : (s.modPanel f).tick = s.tick := id rfl
@[simp] theorem State.modPanel_free : (s.modPanel f).free = s.free := id rfl
@[simp] theorem State.modPanel_params : (s.modPanel f).params = s.params := id rfl
@[simp] theorem State.modPanel_paramsValid : (s.modPanel f).paramsValid = s.paramsValid := id rfl
@[simp] theorem State.modPanel_frame : (s.modPanel f).frame = s.frame := id rfl
@[simp] theorem State.modPanel_doors : (s.modPanel f).doors = s.doors := id rfl
@[simp] theorem State.modPanel_obst : (s.modPanel f).obst = s.obst := id rfl
@[simp] theorem State.modPanel_axes : (s.modPanel f).axes = s.axes := id rfl
@[simp] theorem State.modPanel_axMods : (s.modPanel f).axMods = s.axMods := id rfl
@[simp] theorem State.modPanel_field : (s.modPanel f).field = s.field := id rfl
@[simp] theorem State.modPanel_load : (s.modPanel f).load = s.load := id rfl
@[simp] theorem State.modPanel_supply : (s.modPanel f).supply = s.supply := id rfl
@[simp] theorem State.modPanel_energy : (s.modPanel f).energy = s.energy := id rfl
@[simp] theorem State.modPanel_power : (s.modPanel f).power = s.power := id rfl
@[simp] theorem State.modPanel_pair : (s.modPanel f).pair = s.pair := id rfl
@[simp] theorem State.modPanel_ports : (s.modPanel f).ports = s.ports := id rfl
@[simp] theorem State.modPanel_can : (s.modPanel f).can = s.can := id rfl
@[simp] theorem State.modPanel_time : (s.modPanel f).time = s.time := id rfl
@[simp] theorem State.modPanel_journal : (s.modPanel f).journal = s.journal := id rfl
@[simp] theorem State.modPanel_update : (s.modPanel f).update = s.update := id rfl
@[simp] theorem State.modPanel_restart : (s.modPanel f).restart = s.restart := id rfl
@[simp] theorem State.modPanel_pending : (s.modPanel f).pending = s.pending := id rfl
@[simp] theorem State.modPanel_panel : (s.modPanel f).panel = f s.panel := id rfl

end

/-! ### modTime -/

section
variable (s : State) (f : TimeSt → TimeSt)

@[simp] theorem State.modTime_now : (s.modTime f).now = s.now := id rfl
@[simp] theorem State.modTime_tick : (s.modTime f).tick = s.tick := id rfl
@[simp] theorem State.modTime_free : (s.modTime f).free = s.free := id rfl
@[simp] theorem State.modTime_params : (s.modTime f).params = s.params := id rfl
@[simp] theorem State.modTime_paramsValid : (s.modTime f).paramsValid = s.paramsValid := id rfl
@[simp] theorem State.modTime_frame : (s.modTime f).frame = s.frame := id rfl
@[simp] theorem State.modTime_doors : (s.modTime f).doors = s.doors := id rfl
@[simp] theorem State.modTime_obst : (s.modTime f).obst = s.obst := id rfl
@[simp] theorem State.modTime_axes : (s.modTime f).axes = s.axes := id rfl
@[simp] theorem State.modTime_axMods : (s.modTime f).axMods = s.axMods := id rfl
@[simp] theorem State.modTime_field : (s.modTime f).field = s.field := id rfl
@[simp] theorem State.modTime_load : (s.modTime f).load = s.load := id rfl
@[simp] theorem State.modTime_supply : (s.modTime f).supply = s.supply := id rfl
@[simp] theorem State.modTime_energy : (s.modTime f).energy = s.energy := id rfl
@[simp] theorem State.modTime_power : (s.modTime f).power = s.power := id rfl
@[simp] theorem State.modTime_pair : (s.modTime f).pair = s.pair := id rfl
@[simp] theorem State.modTime_ports : (s.modTime f).ports = s.ports := id rfl
@[simp] theorem State.modTime_can : (s.modTime f).can = s.can := id rfl
@[simp] theorem State.modTime_panel : (s.modTime f).panel = s.panel := id rfl
@[simp] theorem State.modTime_journal : (s.modTime f).journal = s.journal := id rfl
@[simp] theorem State.modTime_update : (s.modTime f).update = s.update := id rfl
@[simp] theorem State.modTime_restart : (s.modTime f).restart = s.restart := id rfl
@[simp] theorem State.modTime_pending : (s.modTime f).pending = s.pending := id rfl
@[simp] theorem State.modTime_time : (s.modTime f).time = f s.time := id rfl

end

/-! ### modJournal -/

section
variable (s : State) (f : JournalSt → JournalSt)

@[simp] theorem State.modJournal_now : (s.modJournal f).now = s.now := id rfl
@[simp] theorem State.modJournal_tick : (s.modJournal f).tick = s.tick := id rfl
@[simp] theorem State.modJournal_free : (s.modJournal f).free = s.free := id rfl
@[simp] theorem State.modJournal_params : (s.modJournal f).params = s.params := id rfl
@[simp] theorem State.modJournal_paramsValid : (s.modJournal f).paramsValid = s.paramsValid := id rfl
@[simp] theorem State.modJournal_frame : (s.modJournal f).frame = s.frame := id rfl
@[simp] theorem State.modJournal_doors : (s.modJournal f).doors = s.doors := id rfl
@[simp] theorem State.modJournal_obst : (s.modJournal f).obst = s.obst := id rfl
@[simp] theorem State.modJournal_axes : (s.modJournal f).axes = s.axes := id rfl
@[simp] theorem State.modJournal_axMods : (s.modJournal f).axMods = s.axMods := id rfl
@[simp] theorem State.modJournal_field : (s.modJournal f).field = s.field := id rfl
@[simp] theorem State.modJournal_load : (s.modJournal f).load = s.load := id rfl
@[simp] theorem State.modJournal_supply : (s.modJournal f).supply = s.supply := id rfl
@[simp] theorem State.modJournal_energy : (s.modJournal f).energy = s.energy := id rfl
@[simp] theorem State.modJournal_power : (s.modJournal f).power = s.power := id rfl
@[simp] theorem State.modJournal_pair : (s.modJournal f).pair = s.pair := id rfl
@[simp] theorem State.modJournal_ports : (s.modJournal f).ports = s.ports := id rfl
@[simp] theorem State.modJournal_can : (s.modJournal f).can = s.can := id rfl
@[simp] theorem State.modJournal_panel : (s.modJournal f).panel = s.panel := id rfl
@[simp] theorem State.modJournal_time : (s.modJournal f).time = s.time := id rfl
@[simp] theorem State.modJournal_update : (s.modJournal f).update = s.update := id rfl
@[simp] theorem State.modJournal_restart : (s.modJournal f).restart = s.restart := id rfl
@[simp] theorem State.modJournal_pending : (s.modJournal f).pending = s.pending := id rfl
@[simp] theorem State.modJournal_journal : (s.modJournal f).journal = f s.journal := id rfl

end

/-! ### modNand -/

section
variable (s : State) (c : CoreId) (f : NandSt → NandSt)

@[simp] theorem State.modNand_now : (s.modNand c f).now = s.now := id rfl
@[simp] theorem State.modNand_tick : (s.modNand c f).tick = s.tick := id rfl
@[simp] theorem State.modNand_free : (s.modNand c f).free = s.free := id rfl
@[simp] theorem State.modNand_params : (s.modNand c f).params = s.params := id rfl
@[simp] theorem State.modNand_paramsValid : (s.modNand c f).paramsValid = s.paramsValid := id rfl
@[simp] theorem State.modNand_frame : (s.modNand c f).frame = s.frame := id rfl
@[simp] theorem State.modNand_doors : (s.modNand c f).doors = s.doors := id rfl
@[simp] theorem State.modNand_obst : (s.modNand c f).obst = s.obst := id rfl
@[simp] theorem State.modNand_axes : (s.modNand c f).axes = s.axes := id rfl
@[simp] theorem State.modNand_axMods : (s.modNand c f).axMods = s.axMods := id rfl
@[simp] theorem State.modNand_field : (s.modNand c f).field = s.field := id rfl
@[simp] theorem State.modNand_load : (s.modNand c f).load = s.load := id rfl
@[simp] theorem State.modNand_supply : (s.modNand c f).supply = s.supply := id rfl
@[simp] theorem State.modNand_energy : (s.modNand c f).energy = s.energy := id rfl
@[simp] theorem State.modNand_power : (s.modNand c f).power = s.power := id rfl
@[simp] theorem State.modNand_pair : (s.modNand c f).pair = s.pair := id rfl
@[simp] theorem State.modNand_ports : (s.modNand c f).ports = s.ports := id rfl
@[simp] theorem State.modNand_can : (s.modNand c f).can = s.can := id rfl
@[simp] theorem State.modNand_panel : (s.modNand c f).panel = s.panel := id rfl
@[simp] theorem State.modNand_time : (s.modNand c f).time = s.time := id rfl
@[simp] theorem State.modNand_update : (s.modNand c f).update = s.update := id rfl
@[simp] theorem State.modNand_restart : (s.modNand c f).restart = s.restart := id rfl
@[simp] theorem State.modNand_pending : (s.modNand c f).pending = s.pending := id rfl
@[simp] theorem State.modNand_journal_nand : (s.modNand c f).journal.nand = updV s.journal.nand c f := id rfl

end

/-! ### modUpdate -/

section
variable (s : State) (f : UpdateSt → UpdateSt)

@[simp] theorem State.modUpdate_now : (s.modUpdate f).now = s.now := id rfl
@[simp] theorem State.modUpdate_tick : (s.modUpdate f).tick = s.tick := id rfl
@[simp] theorem State.modUpdate_free : (s.modUpdate f).free = s.free := id rfl
@[simp] theorem State.modUpdate_params : (s.modUpdate f).params = s.params := id rfl
@[simp] theorem State.modUpdate_paramsValid : (s.modUpdate f).paramsValid = s.paramsValid := id rfl
@[simp] theorem State.modUpdate_frame : (s.modUpdate f).frame = s.frame := id rfl
@[simp] theorem State.modUpdate_doors : (s.modUpdate f).doors = s.doors := id rfl
@[simp] theorem State.modUpdate_obst : (s.modUpdate f).obst = s.obst := id rfl
@[simp] theorem State.modUpdate_axes : (s.modUpdate f).axes = s.axes := id rfl
@[simp] theorem State.modUpdate_axMods : (s.modUpdate f).axMods = s.axMods := id rfl
@[simp] theorem State.modUpdate_field : (s.modUpdate f).field = s.field := id rfl
@[simp] theorem State.modUpdate_load : (s.modUpdate f).load = s.load := id rfl
@[simp] theorem State.modUpdate_supply : (s.modUpdate f).supply = s.supply := id rfl
@[simp] theorem State.modUpdate_energy : (s.modUpdate f).energy = s.energy := id rfl
@[simp] theorem State.modUpdate_power : (s.modUpdate f).power = s.power := id rfl
@[simp] theorem State.modUpdate_pair : (s.modUpdate f).pair = s.pair := id rfl
@[simp] theorem State.modUpdate_ports : (s.modUpdate f).ports = s.ports := id rfl
@[simp] theorem State.modUpdate_can : (s.modUpdate f).can = s.can := id rfl
@[simp] theorem State.modUpdate_panel : (s.modUpdate f).panel = s.panel := id rfl
@[simp] theorem State.modUpdate_time : (s.modUpdate f).time = s.time := id rfl
@[simp] theorem State.modUpdate_journal : (s.modUpdate f).journal = s.journal := id rfl
@[simp] theorem State.modUpdate_restart : (s.modUpdate f).restart = s.restart := id rfl
@[simp] theorem State.modUpdate_pending : (s.modUpdate f).pending = s.pending := id rfl
@[simp] theorem State.modUpdate_update : (s.modUpdate f).update = f s.update := id rfl

end

/-! ### modFirm -/

section
variable (s : State) (k : Slot) (f : FirmSt → FirmSt)

@[simp] theorem State.modFirm_now : (s.modFirm k f).now = s.now := id rfl
@[simp] theorem State.modFirm_tick : (s.modFirm k f).tick = s.tick := id rfl
@[simp] theorem State.modFirm_free : (s.modFirm k f).free = s.free := id rfl
@[simp] theorem State.modFirm_params : (s.modFirm k f).params = s.params := id rfl
@[simp] theorem State.modFirm_paramsValid : (s.modFirm k f).paramsValid = s.paramsValid := id rfl
@[simp] theorem State.modFirm_frame : (s.modFirm k f).frame = s.frame := id rfl
@[simp] theorem State.modFirm_doors : (s.modFirm k f).doors = s.doors := id rfl
@[simp] theorem State.modFirm_obst : (s.modFirm k f).obst = s.obst := id rfl
@[simp] theorem State.modFirm_axes : (s.modFirm k f).axes = s.axes := id rfl
@[simp] theorem State.modFirm_axMods : (s.modFirm k f).axMods = s.axMods := id rfl
@[simp] theorem State.modFirm_field : (s.modFirm k f).field = s.field := id rfl
@[simp] theorem State.modFirm_load : (s.modFirm k f).load = s.load := id rfl
@[simp] theorem State.modFirm_supply : (s.modFirm k f).supply = s.supply := id rfl
@[simp] theorem State.modFirm_energy : (s.modFirm k f).energy = s.energy := id rfl
@[simp] theorem State.modFirm_power : (s.modFirm k f).power = s.power := id rfl
@[simp] theorem State.modFirm_pair : (s.modFirm k f).pair = s.pair := id rfl
@[simp] theorem State.modFirm_ports : (s.modFirm k f).ports = s.ports := id rfl
@[simp] theorem State.modFirm_can : (s.modFirm k f).can = s.can := id rfl
@[simp] theorem State.modFirm_panel : (s.modFirm k f).panel = s.panel := id rfl
@[simp] theorem State.modFirm_time : (s.modFirm k f).time = s.time := id rfl
@[simp] theorem State.modFirm_journal : (s.modFirm k f).journal = s.journal := id rfl
@[simp] theorem State.modFirm_restart : (s.modFirm k f).restart = s.restart := id rfl
@[simp] theorem State.modFirm_pending : (s.modFirm k f).pending = s.pending := id rfl
@[simp] theorem State.modFirm_update_firm : (s.modFirm k f).update.firm = updV s.update.firm k f := id rfl

end

/-! ### modSession -/

section
variable (s : State) (c : CoreId) (f : SessionSt → SessionSt)

@[simp] theorem State.modSession_now : (s.modSession c f).now = s.now := id rfl
@[simp] theorem State.modSession_tick : (s.modSession c f).tick = s.tick := id rfl
@[simp] theorem State.modSession_free : (s.modSession c f).free = s.free := id rfl
@[simp] theorem State.modSession_params : (s.modSession c f).params = s.params := id rfl
@[simp] theorem State.modSession_paramsValid : (s.modSession c f).paramsValid = s.paramsValid := id rfl
@[simp] theorem State.modSession_frame : (s.modSession c f).frame = s.frame := id rfl
@[simp] theorem State.modSession_doors : (s.modSession c f).doors = s.doors := id rfl
@[simp] theorem State.modSession_obst : (s.modSession c f).obst = s.obst := id rfl
@[simp] theorem State.modSession_axes : (s.modSession c f).axes = s.axes := id rfl
@[simp] theorem State.modSession_axMods : (s.modSession c f).axMods = s.axMods := id rfl
@[simp] theorem State.modSession_field : (s.modSession c f).field = s.field := id rfl
@[simp] theorem State.modSession_load : (s.modSession c f).load = s.load := id rfl
@[simp] theorem State.modSession_supply : (s.modSession c f).supply = s.supply := id rfl
@[simp] theorem State.modSession_energy : (s.modSession c f).energy = s.energy := id rfl
@[simp] theorem State.modSession_power : (s.modSession c f).power = s.power := id rfl
@[simp] theorem State.modSession_pair : (s.modSession c f).pair = s.pair := id rfl
@[simp] theorem State.modSession_ports : (s.modSession c f).ports = s.ports := id rfl
@[simp] theorem State.modSession_can : (s.modSession c f).can = s.can := id rfl
@[simp] theorem State.modSession_panel : (s.modSession c f).panel = s.panel := id rfl
@[simp] theorem State.modSession_time : (s.modSession c f).time = s.time := id rfl
@[simp] theorem State.modSession_journal : (s.modSession c f).journal = s.journal := id rfl
@[simp] theorem State.modSession_restart : (s.modSession c f).restart = s.restart := id rfl
@[simp] theorem State.modSession_pending : (s.modSession c f).pending = s.pending := id rfl
@[simp] theorem State.modSession_update_session : (s.modSession c f).update.session = updV s.update.session c f := id rfl

end

/-! ### modDoors -/

section
variable (s : State) (f : DoorsSt → DoorsSt)

@[simp] theorem State.modDoors_now : (s.modDoors f).now = s.now := id rfl
@[simp] theorem State.modDoors_tick : (s.modDoors f).tick = s.tick := id rfl
@[simp] theorem State.modDoors_free : (s.modDoors f).free = s.free := id rfl
@[simp] theorem State.modDoors_params : (s.modDoors f).params = s.params := id rfl
@[simp] theorem State.modDoors_paramsValid : (s.modDoors f).paramsValid = s.paramsValid := id rfl
@[simp] theorem State.modDoors_frame : (s.modDoors f).frame = s.frame := id rfl
@[simp] theorem State.modDoors_obst : (s.modDoors f).obst = s.obst := id rfl
@[simp] theorem State.modDoors_axes : (s.modDoors f).axes = s.axes := id rfl
@[simp] theorem State.modDoors_axMods : (s.modDoors f).axMods = s.axMods := id rfl
@[simp] theorem State.modDoors_field : (s.modDoors f).field = s.field := id rfl
@[simp] theorem State.modDoors_load : (s.modDoors f).load = s.load := id rfl
@[simp] theorem State.modDoors_supply : (s.modDoors f).supply = s.supply := id rfl
@[simp] theorem State.modDoors_energy : (s.modDoors f).energy = s.energy := id rfl
@[simp] theorem State.modDoors_power : (s.modDoors f).power = s.power := id rfl
@[simp] theorem State.modDoors_pair : (s.modDoors f).pair = s.pair := id rfl
@[simp] theorem State.modDoors_ports : (s.modDoors f).ports = s.ports := id rfl
@[simp] theorem State.modDoors_can : (s.modDoors f).can = s.can := id rfl
@[simp] theorem State.modDoors_panel : (s.modDoors f).panel = s.panel := id rfl
@[simp] theorem State.modDoors_time : (s.modDoors f).time = s.time := id rfl
@[simp] theorem State.modDoors_journal : (s.modDoors f).journal = s.journal := id rfl
@[simp] theorem State.modDoors_update : (s.modDoors f).update = s.update := id rfl
@[simp] theorem State.modDoors_restart : (s.modDoors f).restart = s.restart := id rfl
@[simp] theorem State.modDoors_pending : (s.modDoors f).pending = s.pending := id rfl
@[simp] theorem State.modDoors_doors : (s.modDoors f).doors = f s.doors := id rfl

end

/-! ### modLoads -/

section
variable (s : State) (f : LoadSt → LoadSt)

@[simp] theorem State.modLoads_now : (s.modLoads f).now = s.now := id rfl
@[simp] theorem State.modLoads_tick : (s.modLoads f).tick = s.tick := id rfl
@[simp] theorem State.modLoads_free : (s.modLoads f).free = s.free := id rfl
@[simp] theorem State.modLoads_params : (s.modLoads f).params = s.params := id rfl
@[simp] theorem State.modLoads_paramsValid : (s.modLoads f).paramsValid = s.paramsValid := id rfl
@[simp] theorem State.modLoads_frame : (s.modLoads f).frame = s.frame := id rfl
@[simp] theorem State.modLoads_doors : (s.modLoads f).doors = s.doors := id rfl
@[simp] theorem State.modLoads_obst : (s.modLoads f).obst = s.obst := id rfl
@[simp] theorem State.modLoads_axes : (s.modLoads f).axes = s.axes := id rfl
@[simp] theorem State.modLoads_axMods : (s.modLoads f).axMods = s.axMods := id rfl
@[simp] theorem State.modLoads_field : (s.modLoads f).field = s.field := id rfl
@[simp] theorem State.modLoads_supply : (s.modLoads f).supply = s.supply := id rfl
@[simp] theorem State.modLoads_energy : (s.modLoads f).energy = s.energy := id rfl
@[simp] theorem State.modLoads_power : (s.modLoads f).power = s.power := id rfl
@[simp] theorem State.modLoads_pair : (s.modLoads f).pair = s.pair := id rfl
@[simp] theorem State.modLoads_ports : (s.modLoads f).ports = s.ports := id rfl
@[simp] theorem State.modLoads_can : (s.modLoads f).can = s.can := id rfl
@[simp] theorem State.modLoads_panel : (s.modLoads f).panel = s.panel := id rfl
@[simp] theorem State.modLoads_time : (s.modLoads f).time = s.time := id rfl
@[simp] theorem State.modLoads_journal : (s.modLoads f).journal = s.journal := id rfl
@[simp] theorem State.modLoads_update : (s.modLoads f).update = s.update := id rfl
@[simp] theorem State.modLoads_restart : (s.modLoads f).restart = s.restart := id rfl
@[simp] theorem State.modLoads_pending : (s.modLoads f).pending = s.pending := id rfl
@[simp] theorem State.modLoads_load : (s.modLoads f).load = f s.load := id rfl

end

/-! ### modSupply -/

section
variable (s : State) (f : SupplySt → SupplySt)

@[simp] theorem State.modSupply_now : (s.modSupply f).now = s.now := id rfl
@[simp] theorem State.modSupply_tick : (s.modSupply f).tick = s.tick := id rfl
@[simp] theorem State.modSupply_free : (s.modSupply f).free = s.free := id rfl
@[simp] theorem State.modSupply_params : (s.modSupply f).params = s.params := id rfl
@[simp] theorem State.modSupply_paramsValid : (s.modSupply f).paramsValid = s.paramsValid := id rfl
@[simp] theorem State.modSupply_frame : (s.modSupply f).frame = s.frame := id rfl
@[simp] theorem State.modSupply_doors : (s.modSupply f).doors = s.doors := id rfl
@[simp] theorem State.modSupply_obst : (s.modSupply f).obst = s.obst := id rfl
@[simp] theorem State.modSupply_axes : (s.modSupply f).axes = s.axes := id rfl
@[simp] theorem State.modSupply_axMods : (s.modSupply f).axMods = s.axMods := id rfl
@[simp] theorem State.modSupply_field : (s.modSupply f).field = s.field := id rfl
@[simp] theorem State.modSupply_load : (s.modSupply f).load = s.load := id rfl
@[simp] theorem State.modSupply_energy : (s.modSupply f).energy = s.energy := id rfl
@[simp] theorem State.modSupply_power : (s.modSupply f).power = s.power := id rfl
@[simp] theorem State.modSupply_pair : (s.modSupply f).pair = s.pair := id rfl
@[simp] theorem State.modSupply_ports : (s.modSupply f).ports = s.ports := id rfl
@[simp] theorem State.modSupply_can : (s.modSupply f).can = s.can := id rfl
@[simp] theorem State.modSupply_panel : (s.modSupply f).panel = s.panel := id rfl
@[simp] theorem State.modSupply_time : (s.modSupply f).time = s.time := id rfl
@[simp] theorem State.modSupply_journal : (s.modSupply f).journal = s.journal := id rfl
@[simp] theorem State.modSupply_update : (s.modSupply f).update = s.update := id rfl
@[simp] theorem State.modSupply_restart : (s.modSupply f).restart = s.restart := id rfl
@[simp] theorem State.modSupply_pending : (s.modSupply f).pending = s.pending := id rfl
@[simp] theorem State.modSupply_supply : (s.modSupply f).supply = f s.supply := id rfl

end

section
variable (s : State) (k : Slot) (f : SlotSt → SlotSt)

@[simp] theorem State.modSlot_frame_statusLamps : (s.modSlot k f).frame.statusLamps = s.frame.statusLamps := id rfl
@[simp] theorem State.modSlot_frame_blueLamps : (s.modSlot k f).frame.blueLamps = s.frame.blueLamps := id rfl
@[simp] theorem State.modSlot_frame_lampTestFrom : (s.modSlot k f).frame.lampTestFrom = s.frame.lampTestFrom := id rfl
@[simp] theorem State.modSlot_frame_doorTier : (s.modSlot k f).frame.doorTier = s.frame.doorTier := id rfl
@[simp] theorem State.modSlot_frame_frameTier : (s.modSlot k f).frame.frameTier = s.frame.frameTier := id rfl
@[simp] theorem State.modSlot_frame_secondFrom : (s.modSlot k f).frame.secondFrom = s.frame.secondFrom := id rfl

end

section
variable (s : State) (d : Doorway) (f : DoorSt → DoorSt)

@[simp] theorem State.modDoor_doors_claims : (s.modDoor d f).doors.claims = s.doors.claims := id rfl
@[simp] theorem State.modDoor_doors_requests : (s.modDoor d f).doors.requests = s.doors.requests := id rfl
@[simp] theorem State.modDoor_doors_fetched : (s.modDoor d f).doors.fetched = s.doors.fetched := id rfl
@[simp] theorem State.modDoor_doors_pairs : (s.modDoor d f).doors.pairs = s.doors.pairs := id rfl
@[simp] theorem State.modDoor_doors_closeTlWas : (s.modDoor d f).doors.closeTlWas = s.doors.closeTlWas := id rfl
@[simp] theorem State.modDoor_doors_evacWas : (s.modDoor d f).doors.evacWas = s.doors.evacWas := id rfl
@[simp] theorem State.modDoor_doors_svDrop : (s.modDoor d f).doors.svDrop = s.doors.svDrop := id rfl
@[simp] theorem State.modDoor_doors_relays : (s.modDoor d f).doors.relays = s.doors.relays := id rfl
@[simp] theorem State.modDoor_doors_relaysOffAt : (s.modDoor d f).doors.relaysOffAt = s.doors.relaysOffAt := id rfl
@[simp] theorem State.modDoor_doors_weld : (s.modDoor d f).doors.weld = s.doors.weld := id rfl
@[simp] theorem State.modDoor_doors_condFrom : (s.modDoor d f).doors.condFrom = s.doors.condFrom := id rfl
@[simp] theorem State.modDoor_doors_disagreeFrom : (s.modDoor d f).doors.disagreeFrom = s.doors.disagreeFrom := id rfl
@[simp] theorem State.modDoor_doors_disagreed : (s.modDoor d f).doors.disagreed = s.doors.disagreed := id rfl

end

section
variable (s : State) (c : Chan) (f : ChanSt → ChanSt)

@[simp] theorem State.modChan_field_group : (s.modChan c f).field.group = s.field.group := id rfl
@[simp] theorem State.modChan_field_mods : (s.modChan c f).field.mods = s.field.mods := id rfl

end

section
variable (s : State) (m : Fin 2) (f : FieldModSt → FieldModSt)

@[simp] theorem State.modFieldMod_field_chan : (s.modFieldMod m f).field.chan = s.field.chan := id rfl
@[simp] theorem State.modFieldMod_field_group : (s.modFieldMod m f).field.group = s.field.group := id rfl

end

section
variable (s : State) (g : Group) (f : GroupSt → GroupSt)

@[simp] theorem State.modGroup_field_chan : (s.modGroup g f).field.chan = s.field.chan := id rfl
@[simp] theorem State.modGroup_field_mods : (s.modGroup g f).field.mods = s.field.mods := id rfl

end

section
variable (s : State) (c : LoadCh) (f : LoadChSt → LoadChSt)

@[simp] theorem State.modLoad_load_supply : (s.modLoad c f).load.supply = s.load.supply := id rfl
@[simp] theorem State.modLoad_load_voltage : (s.modLoad c f).load.voltage = s.load.voltage := id rfl
@[simp] theorem State.modLoad_load_inputOpen : (s.modLoad c f).load.inputOpen = s.load.inputOpen := id rfl
@[simp] theorem State.modLoad_load_inputOpenBelow : (s.modLoad c f).load.inputOpenBelow = s.load.inputOpenBelow := id rfl
@[simp] theorem State.modLoad_load_hold : (s.modLoad c f).load.hold = s.load.hold := id rfl
@[simp] theorem State.modLoad_load_safe : (s.modLoad c f).load.safe = s.load.safe := id rfl
@[simp] theorem State.modLoad_load_shed : (s.modLoad c f).load.shed = s.load.shed := id rfl
@[simp] theorem State.modLoad_load_holdCmd : (s.modLoad c f).load.holdCmd = s.load.holdCmd := id rfl
@[simp] theorem State.modLoad_load_shedCmd : (s.modLoad c f).load.shedCmd = s.load.shedCmd := id rfl
@[simp] theorem State.modLoad_load_ackDue : (s.modLoad c f).load.ackDue = s.load.ackDue := id rfl
@[simp] theorem State.modLoad_load_ackSafe : (s.modLoad c f).load.ackSafe = s.load.ackSafe := id rfl
@[simp] theorem State.modLoad_load_cmdNext : (s.modLoad c f).load.cmdNext = s.load.cmdNext := id rfl
@[simp] theorem State.modLoad_load_missRun : (s.modLoad c f).load.missRun = s.load.missRun := id rfl
@[simp] theorem State.modLoad_load_powerUp : (s.modLoad c f).load.powerUp = s.load.powerUp := id rfl
@[simp] theorem State.modLoad_load_staged : (s.modLoad c f).load.staged = s.load.staged := id rfl
@[simp] theorem State.modLoad_load_applied : (s.modLoad c f).load.applied = s.load.applied := id rfl
@[simp] theorem State.modLoad_load_appliedAny : (s.modLoad c f).load.appliedAny = s.load.appliedAny := id rfl
@[simp] theorem State.modLoad_load_cfgCrc : (s.modLoad c f).load.cfgCrc = s.load.cfgCrc := id rfl
@[simp] theorem State.modLoad_load_cfgSent : (s.modLoad c f).load.cfgSent = s.load.cfgSent := id rfl
@[simp] theorem State.modLoad_load_mismatchRun : (s.modLoad c f).load.mismatchRun = s.load.mismatchRun := id rfl
@[simp] theorem State.modLoad_load_repOn : (s.modLoad c f).load.repOn = s.load.repOn := id rfl
@[simp] theorem State.modLoad_load_repFault : (s.modLoad c f).load.repFault = s.load.repFault := id rfl
@[simp] theorem State.modLoad_load_repFlags : (s.modLoad c f).load.repFlags = s.load.repFlags := id rfl
@[simp] theorem State.modLoad_load_repCrc : (s.modLoad c f).load.repCrc = s.load.repCrc := id rfl
@[simp] theorem State.modLoad_load_repSupply : (s.modLoad c f).load.repSupply = s.load.repSupply := id rfl
@[simp] theorem State.modLoad_load_repDiagChannel : (s.modLoad c f).load.repDiagChannel = s.load.repDiagChannel := id rfl
@[simp] theorem State.modLoad_load_repDiagCode : (s.modLoad c f).load.repDiagCode = s.load.repDiagCode := id rfl
@[simp] theorem State.modLoad_load_repHeat : (s.modLoad c f).load.repHeat = s.load.repHeat := id rfl
@[simp] theorem State.modLoad_load_repCurrent : (s.modLoad c f).load.repCurrent = s.load.repCurrent := id rfl
@[simp] theorem State.modLoad_load_setPending : (s.modLoad c f).load.setPending = s.load.setPending := id rfl
@[simp] theorem State.modLoad_load_rearmPending : (s.modLoad c f).load.rearmPending = s.load.rearmPending := id rfl

end

section
variable (s : State) (p : Fin 2) (f : PmSt → PmSt)

@[simp] theorem State.modPm_supply_onStore : (s.modPm p f).supply.onStore = s.supply.onStore := id rfl
@[simp] theorem State.modPm_supply_lossAt : (s.modPm p f).supply.lossAt = s.supply.lossAt := id rfl
@[simp] theorem State.modPm_supply_step : (s.modPm p f).supply.step = s.supply.step := id rfl
@[simp] theorem State.modPm_supply_stepFrom : (s.modPm p f).supply.stepFrom = s.supply.stepFrom := id rfl
@[simp] theorem State.modPm_supply_s1At : (s.modPm p f).supply.s1At = s.supply.s1At := id rfl
@[simp] theorem State.modPm_supply_compressed : (s.modPm p f).supply.compressed = s.supply.compressed := id rfl
@[simp] theorem State.modPm_supply_capped : (s.modPm p f).supply.capped = s.supply.capped := id rfl
@[simp] theorem State.modPm_supply_byReserve : (s.modPm p f).supply.byReserve = s.supply.byReserve := id rfl
@[simp] theorem State.modPm_supply_hostRailsOff : (s.modPm p f).supply.hostRailsOff = s.supply.hostRailsOff := id rfl
@[simp] theorem State.modPm_supply_cancelled : (s.modPm p f).supply.cancelled = s.supply.cancelled := id rfl
@[simp] theorem State.modPm_supply_padHold : (s.modPm p f).supply.padHold = s.supply.padHold := id rfl
@[simp] theorem State.modPm_supply_record : (s.modPm p f).supply.record = s.supply.record := id rfl
@[simp] theorem State.modPm_supply_cleanOff : (s.modPm p f).supply.cleanOff = s.supply.cleanOff := id rfl
@[simp] theorem State.modPm_supply_serviceOnly : (s.modPm p f).supply.serviceOnly = s.supply.serviceOnly := id rfl
@[simp] theorem State.modPm_supply_sinks : (s.modPm p f).supply.sinks = s.supply.sinks := id rfl
@[simp] theorem State.modPm_supply_svcPowered : (s.modPm p f).supply.svcPowered = s.supply.svcPowered := id rfl
@[simp] theorem State.modPm_supply_svcField : (s.modPm p f).supply.svcField = s.supply.svcField := id rfl
@[simp] theorem State.modPm_supply_svcPanel : (s.modPm p f).supply.svcPanel = s.supply.svcPanel := id rfl

end

section
variable (s : State) (c : CoreId) (f : SinkSt → SinkSt)

@[simp] theorem State.modSink_supply_pm : (s.modSink c f).supply.pm = s.supply.pm := id rfl
@[simp] theorem State.modSink_supply_onStore : (s.modSink c f).supply.onStore = s.supply.onStore := id rfl
@[simp] theorem State.modSink_supply_lossAt : (s.modSink c f).supply.lossAt = s.supply.lossAt := id rfl
@[simp] theorem State.modSink_supply_step : (s.modSink c f).supply.step = s.supply.step := id rfl
@[simp] theorem State.modSink_supply_stepFrom : (s.modSink c f).supply.stepFrom = s.supply.stepFrom := id rfl
@[simp] theorem State.modSink_supply_s1At : (s.modSink c f).supply.s1At = s.supply.s1At := id rfl
@[simp] theorem State.modSink_supply_compressed : (s.modSink c f).supply.compressed = s.supply.compressed := id rfl
@[simp] theorem State.modSink_supply_capped : (s.modSink c f).supply.capped = s.supply.capped := id rfl
@[simp] theorem State.modSink_supply_byReserve : (s.modSink c f).supply.byReserve = s.supply.byReserve := id rfl
@[simp] theorem State.modSink_supply_hostRailsOff : (s.modSink c f).supply.hostRailsOff = s.supply.hostRailsOff := id rfl
@[simp] theorem State.modSink_supply_cancelled : (s.modSink c f).supply.cancelled = s.supply.cancelled := id rfl
@[simp] theorem State.modSink_supply_padHold : (s.modSink c f).supply.padHold = s.supply.padHold := id rfl
@[simp] theorem State.modSink_supply_record : (s.modSink c f).supply.record = s.supply.record := id rfl
@[simp] theorem State.modSink_supply_cleanOff : (s.modSink c f).supply.cleanOff = s.supply.cleanOff := id rfl
@[simp] theorem State.modSink_supply_serviceOnly : (s.modSink c f).supply.serviceOnly = s.supply.serviceOnly := id rfl
@[simp] theorem State.modSink_supply_svcPowered : (s.modSink c f).supply.svcPowered = s.supply.svcPowered := id rfl
@[simp] theorem State.modSink_supply_svcField : (s.modSink c f).supply.svcField = s.supply.svcField := id rfl
@[simp] theorem State.modSink_supply_svcPanel : (s.modSink c f).supply.svcPanel = s.supply.svcPanel := id rfl

end

section
variable (s : State) (c : CoreId) (f : CoreSt → CoreSt)

@[simp] theorem State.modCore_pair_standby : (s.modCore c f).pair.standby = s.pair.standby := id rfl
@[simp] theorem State.modCore_pair_outSince : (s.modCore c f).pair.outSince = s.pair.outSince := id rfl
@[simp] theorem State.modCore_pair_missing : (s.modCore c f).pair.missing = s.pair.missing := id rfl
@[simp] theorem State.modCore_pair_mseq : (s.modCore c f).pair.mseq = s.pair.mseq := id rfl
@[simp] theorem State.modCore_pair_mseqApplied : (s.modCore c f).pair.mseqApplied = s.pair.mseqApplied := id rfl
@[simp] theorem State.modCore_pair_mseqAck : (s.modCore c f).pair.mseqAck = s.pair.mseqAck := id rfl
@[simp] theorem State.modCore_pair_mirrorAt : (s.modCore c f).pair.mirrorAt = s.pair.mirrorAt := id rfl
@[simp] theorem State.modCore_pair_goodRun : (s.modCore c f).pair.goodRun = s.pair.goodRun := id rfl
@[simp] theorem State.modCore_pair_badFrames : (s.modCore c f).pair.badFrames = s.pair.badFrames := id rfl
@[simp] theorem State.modCore_pair_badFrom : (s.modCore c f).pair.badFrom = s.pair.badFrom := id rfl
@[simp] theorem State.modCore_pair_badRaised : (s.modCore c f).pair.badRaised = s.pair.badRaised := id rfl
@[simp] theorem State.modCore_pair_heldCompletions : (s.modCore c f).pair.heldCompletions = s.pair.heldCompletions := id rfl
@[simp] theorem State.modCore_pair_heldEvents : (s.modCore c f).pair.heldEvents = s.pair.heldEvents := id rfl
@[simp] theorem State.modCore_pair_handover : (s.modCore c f).pair.handover = s.pair.handover := id rfl
@[simp] theorem State.modCore_pair_handoverReq : (s.modCore c f).pair.handoverReq = s.pair.handoverReq := id rfl
@[simp] theorem State.modCore_pair_lastHandover : (s.modCore c f).pair.lastHandover = s.pair.lastHandover := id rfl
@[simp] theorem State.modCore_pair_coverageRun : (s.modCore c f).pair.coverageRun = s.pair.coverageRun := id rfl
@[simp] theorem State.modCore_pair_graceFrom : (s.modCore c f).pair.graceFrom = s.pair.graceFrom := id rfl
@[simp] theorem State.modCore_pair_firstMissing : (s.modCore c f).pair.firstMissing = s.pair.firstMissing := id rfl
@[simp] theorem State.modCore_pair_cross : (s.modCore c f).pair.cross = s.pair.cross := id rfl
@[simp] theorem State.modCore_pair_enabledAt : (s.modCore c f).pair.enabledAt = s.pair.enabledAt := id rfl

end

section
variable (s : State) (c : CoreId) (f : NandSt → NandSt)

@[simp] theorem State.modNand_journal_stagedPrio : (s.modNand c f).journal.stagedPrio = s.journal.stagedPrio := id rfl
@[simp] theorem State.modNand_journal_stagedOrd : (s.modNand c f).journal.stagedOrd = s.journal.stagedOrd := id rfl
@[simp] theorem State.modNand_journal_unstaged : (s.modNand c f).journal.unstaged = s.journal.unstaged := id rfl
@[simp] theorem State.modNand_journal_unstagedFirst : (s.modNand c f).journal.unstagedFirst = s.journal.unstagedFirst := id rfl
@[simp] theorem State.modNand_journal_unstagedLast : (s.modNand c f).journal.unstagedLast = s.journal.unstagedLast := id rfl
@[simp] theorem State.modNand_journal_highRaised : (s.modNand c f).journal.highRaised = s.journal.highRaised := id rfl
@[simp] theorem State.modNand_journal_nextNumber : (s.modNand c f).journal.nextNumber = s.journal.nextNumber := id rfl
@[simp] theorem State.modNand_journal_startCount : (s.modNand c f).journal.startCount = s.journal.startCount := id rfl
@[simp] theorem State.modNand_journal_cycleNo : (s.modNand c f).journal.cycleNo = s.journal.cycleNo := id rfl
@[simp] theorem State.modNand_journal_cycleFrom : (s.modNand c f).journal.cycleFrom = s.journal.cycleFrom := id rfl
@[simp] theorem State.modNand_journal_cycle : (s.modNand c f).journal.cycle = s.journal.cycle := id rfl
@[simp] theorem State.modNand_journal_cursors : (s.modNand c f).journal.cursors = s.journal.cursors := id rfl
@[simp] theorem State.modNand_journal_waiting : (s.modNand c f).journal.waiting = s.journal.waiting := id rfl
@[simp] theorem State.modNand_journal_retain : (s.modNand c f).journal.retain = s.journal.retain := id rfl
@[simp] theorem State.modNand_journal_notes : (s.modNand c f).journal.notes = s.journal.notes := id rfl
@[simp] theorem State.modNand_journal_notesDropped : (s.modNand c f).journal.notesDropped = s.journal.notesDropped := id rfl
@[simp] theorem State.modNand_journal_notesFrom : (s.modNand c f).journal.notesFrom = s.journal.notesFrom := id rfl
@[simp] theorem State.modNand_journal_mirrored : (s.modNand c f).journal.mirrored = s.journal.mirrored := id rfl
@[simp] theorem State.modNand_journal_missingRaised : (s.modNand c f).journal.missingRaised = s.journal.missingRaised := id rfl

end

section
variable (s : State) (k : Slot) (f : FirmSt → FirmSt)

@[simp] theorem State.modFirm_update_staged : (s.modFirm k f).update.staged = s.update.staged := id rfl
@[simp] theorem State.modFirm_update_download : (s.modFirm k f).update.download = s.update.download := id rfl
@[simp] theorem State.modFirm_update_baseline : (s.modFirm k f).update.baseline = s.update.baseline := id rfl
@[simp] theorem State.modFirm_update_counter : (s.modFirm k f).update.counter = s.update.counter := id rfl
@[simp] theorem State.modFirm_update_activation : (s.modFirm k f).update.activation = s.update.activation := id rfl
@[simp] theorem State.modFirm_update_pairUpdate : (s.modFirm k f).update.pairUpdate = s.update.pairUpdate := id rfl
@[simp] theorem State.modFirm_update_key : (s.modFirm k f).update.key = s.update.key := id rfl
@[simp] theorem State.modFirm_update_session : (s.modFirm k f).update.session = s.update.session := id rfl
@[simp] theorem State.modFirm_update_asOne : (s.modFirm k f).update.asOne = s.update.asOne := id rfl
@[simp] theorem State.modFirm_update_p4Queue : (s.modFirm k f).update.p4Queue = s.update.p4Queue := id rfl
@[simp] theorem State.modFirm_update_usbOut : (s.modFirm k f).update.usbOut = s.update.usbOut := id rfl

end

section
variable (s : State) (c : CoreId) (f : SessionSt → SessionSt)

@[simp] theorem State.modSession_update_firm : (s.modSession c f).update.firm = s.update.firm := id rfl
@[simp] theorem State.modSession_update_staged : (s.modSession c f).update.staged = s.update.staged := id rfl
@[simp] theorem State.modSession_update_download : (s.modSession c f).update.download = s.update.download := id rfl
@[simp] theorem State.modSession_update_baseline : (s.modSession c f).update.baseline = s.update.baseline := id rfl
@[simp] theorem State.modSession_update_counter : (s.modSession c f).update.counter = s.update.counter := id rfl
@[simp] theorem State.modSession_update_activation : (s.modSession c f).update.activation = s.update.activation := id rfl
@[simp] theorem State.modSession_update_pairUpdate : (s.modSession c f).update.pairUpdate = s.update.pairUpdate := id rfl
@[simp] theorem State.modSession_update_key : (s.modSession c f).update.key = s.update.key := id rfl
@[simp] theorem State.modSession_update_asOne : (s.modSession c f).update.asOne = s.update.asOne := id rfl
@[simp] theorem State.modSession_update_p4Queue : (s.modSession c f).update.p4Queue = s.update.p4Queue := id rfl
@[simp] theorem State.modSession_update_usbOut : (s.modSession c f).update.usbOut = s.update.usbOut := id rfl

end

end Sys2Proof.Machine
end

