-- ==== Sys2Proof/Laws/Outputs.lean ====
section
/-!
SUPPORT. An event or a completion changes outputs alone: rings and lay-bys of the ports, outputs held for the standby,
journal staging, frames waiting on the buses, and the panel's fault summary. Every other field stands.
-/

namespace Sys2Proof.Machine

/-- `t` differs from `s` in outputs only. -/
structure State.OutputsOnly (s t : State) : Prop where
  now : t.now = s.now
  tick : t.tick = s.tick
  free : t.free = s.free
  params : t.params = s.params
  paramsValid : t.paramsValid = s.paramsValid
  frame : t.frame = s.frame
  doors : t.doors = s.doors
  obst : t.obst = s.obst
  axes : t.axes = s.axes
  axMods : t.axMods = s.axMods
  field : t.field = s.field
  load : t.load = s.load
  supply : t.supply = s.supply
  energy : t.energy = s.energy
  power : t.power = s.power
  time : t.time = s.time
  update : t.update = s.update
  restart : t.restart = s.restart
  pending : t.pending = s.pending
  pairCore : t.pair.core = s.pair.core
  standby : t.pair.standby = s.pair.standby
  mseq : t.pair.mseq = s.pair.mseq
  mseqAck : t.pair.mseqAck = s.pair.mseqAck
  handover : t.pair.handover = s.pair.handover
  canCtl : t.can.ctl = s.can.ctl
  canRx : t.can.rx = s.can.rx
  nand : t.journal.nand = s.journal.nand
  cycle : t.journal.cycle = s.journal.cycle
  cycleFrom : t.journal.cycleFrom = s.journal.cycleFrom
  cycleNo : t.journal.cycleNo = s.journal.cycleNo
  cursors : t.journal.cursors = s.journal.cursors
  nextNumber : t.journal.nextNumber = s.journal.nextNumber
  window : t.panel.window = s.panel.window
  powered : t.panel.powered = s.panel.powered
  up : ∀ p : PortId, t.ports[p].up = s.ports[p].up
  running : ∀ p : PortId, t.ports[p].running = s.ports[p].running

namespace State.OutputsOnly

theorem refl (s : State) : s.OutputsOnly s := ⟨rfl, rfl, rfl, rfl, rfl, rfl, rfl, rfl, rfl, rfl, rfl, rfl, rfl, rfl, rfl, rfl, rfl, rfl, rfl, rfl, rfl, rfl, rfl, rfl, rfl, rfl, rfl, rfl, rfl, rfl, rfl, rfl, rfl, rfl, fun _ => rfl, fun _ => rfl⟩

theorem trans {s t u : State} (h : s.OutputsOnly t) (k : t.OutputsOnly u) : s.OutputsOnly u :=
  ⟨k.now.trans h.now,
   k.tick.trans h.tick,
   k.free.trans h.free,
   k.params.trans h.params,
   k.paramsValid.trans h.paramsValid,
   k.frame.trans h.frame,
   k.doors.trans h.doors,
   k.obst.trans h.obst,
   k.axes.trans h.axes,
   k.axMods.trans h.axMods,
   k.field.trans h.field,
   k.load.trans h.load,
   k.supply.trans h.supply,
   k.energy.trans h.energy,
   k.power.trans h.power,
   k.time.trans h.time,
   k.update.trans h.update,
   k.restart.trans h.restart,
   k.pending.trans h.pending,
   k.pairCore.trans h.pairCore,
   k.standby.trans h.standby,
   k.mseq.trans h.mseq,
   k.mseqAck.trans h.mseqAck,
   k.handover.trans h.handover,
   k.canCtl.trans h.canCtl,
   k.canRx.trans h.canRx,
   k.nand.trans h.nand,
   k.cycle.trans h.cycle,
   k.cycleFrom.trans h.cycleFrom,
   k.cycleNo.trans h.cycleNo,
   k.cursors.trans h.cursors,
   k.nextNumber.trans h.nextNumber,
   k.window.trans h.window,
   k.powered.trans h.powered,
   fun p => (k.up p).trans (h.up p), fun p => (k.running p).trans (h.running p)⟩

end State.OutputsOnly

theorem State.when_outputs {s t : State} {b : Bool} (h : s.OutputsOnly t) : s.OutputsOnly (if b then t else s) := by
  cases b
  · exact .refl s
  · exact h

theorem State.each_outputs {α : Type} (l : List α) (f : State → α → State)
    (h : ∀ (s : State) (a : α), s.OutputsOnly (f s a)) :
    ∀ s : State, s.OutputsOnly (s.each l f) := by
  induction l with
  | nil => exact fun s => .refl s
  | cons a l ih => exact fun s => (h s a).trans (ih (f s a))

/-- Changes of the output part of each sub-structure. -/
theorem State.modPort_outputs (s : State) (p : PortId) (f : PortSt → PortSt) (h : ∀ t, (f t).up = t.up)
    (k : ∀ t, (f t).running = t.running) : s.OutputsOnly (s.modPort p f) := by
  refine ⟨rfl, rfl, rfl, rfl, rfl, rfl, rfl, rfl, rfl, rfl, rfl, rfl, rfl, rfl, rfl, rfl, rfl, rfl, rfl, rfl, rfl, rfl, rfl, rfl, rfl, rfl, rfl, rfl, rfl, rfl, rfl, rfl, rfl, rfl, fun q => ?_, fun q => ?_⟩
  · simp only [State.modPort_ports, Fin.getElem_fin, updV_get]; split <;> simp [h]
  · simp only [State.modPort_ports, Fin.getElem_fin, updV_get]; split <;> simp [k]

theorem State.modJournal_outputs (s : State) (f : JournalSt → JournalSt) (h : ∀ j, (f j).nand = j.nand)
    (h1 : ∀ j, (f j).cycle = j.cycle) (h2 : ∀ j, (f j).cycleFrom = j.cycleFrom) (h3 : ∀ j, (f j).cycleNo = j.cycleNo)
    (h4 : ∀ j, (f j).cursors = j.cursors) (h5 : ∀ j, (f j).nextNumber = j.nextNumber) : s.OutputsOnly (s.modJournal f) :=
  ⟨rfl, rfl, rfl, rfl, rfl, rfl, rfl, rfl, rfl, rfl, rfl, rfl, rfl, rfl, rfl, rfl, rfl, rfl, rfl, rfl, rfl, rfl, rfl, rfl, rfl, rfl, h _, h1 _, h2 _, h3 _, h4 _, h5 _, rfl, rfl, fun _ => rfl, fun _ => rfl⟩

theorem State.modPair_outputs (s : State) (f : PairSt → PairSt) (h : ∀ q, (f q).core = q.core)
    (h1 : ∀ q, (f q).standby = q.standby) (h2 : ∀ q, (f q).mseq = q.mseq) (h3 : ∀ q, (f q).mseqAck = q.mseqAck)
    (h4 : ∀ q, (f q).handover = q.handover) : s.OutputsOnly (s.modPair f) :=
  ⟨rfl, rfl, rfl, rfl, rfl, rfl, rfl, rfl, rfl, rfl, rfl, rfl, rfl, rfl, rfl, rfl, rfl, rfl, rfl, h _, h1 _, h2 _, h3 _, h4 _, rfl, rfl, rfl, rfl, rfl, rfl, rfl, rfl, rfl, rfl, fun _ => rfl, fun _ => rfl⟩

theorem State.modCan_outputs (s : State) (f : CanSt → CanSt) (h : ∀ c, (f c).ctl = c.ctl) (k : ∀ c, (f c).rx = c.rx) :
    s.OutputsOnly (s.modCan f) :=
  ⟨rfl, rfl, rfl, rfl, rfl, rfl, rfl, rfl, rfl, rfl, rfl, rfl, rfl, rfl, rfl, rfl, rfl, rfl, rfl, rfl, rfl, rfl, rfl, rfl, h _, k _, rfl, rfl, rfl, rfl, rfl, rfl, rfl, rfl, fun _ => rfl, fun _ => rfl⟩

theorem State.modPanel_outputs (s : State) (f : PanelSt → PanelSt) (h : ∀ p, (f p).window = p.window)
    (k : ∀ p, (f p).powered = p.powered) : s.OutputsOnly (s.modPanel f) :=
  ⟨rfl, rfl, rfl, rfl, rfl, rfl, rfl, rfl, rfl, rfl, rfl, rfl, rfl, rfl, rfl, rfl, rfl, rfl, rfl, rfl, rfl, rfl, rfl, rfl, rfl, rfl, rfl, rfl, rfl, rfl, rfl, rfl, h _, k _, fun _ => rfl, fun _ => rfl⟩

/-! ### Delivery at a port -/

theorem PortSt.deliverEvent_up (t : PortSt) (own : Bool) (now : Nat) (e : Event) : (t.deliverEvent own now e).up = t.up := by
  unfold PortSt.deliverEvent PortSt.putEvent; split; · rfl
  split <;> rfl

theorem PortSt.deliverEvent_running (t : PortSt) (own : Bool) (now : Nat) (e : Event) :
    (t.deliverEvent own now e).running = t.running := by
  unfold PortSt.deliverEvent PortSt.putEvent; split; · rfl
  split <;> rfl

theorem PortSt.unreserve_up (t : PortSt) (q : Fin 16) (b : Bool) : (t.unreserve q b).up = t.up := by
  unfold PortSt.unreserve; split <;> rfl

theorem PortSt.unreserve_running (t : PortSt) (q : Fin 16) (b : Bool) : (t.unreserve q b).running = t.running := by
  unfold PortSt.unreserve; split <;> rfl

theorem PortSt.deliver_up (t : PortSt) (own : Bool) (now : Nat) (c : Completion) : (t.deliver own now c).up = t.up := by
  unfold PortSt.deliver PortSt.putCompletion; dsimp only; split <;> simp [PortSt.unreserve_up]

theorem PortSt.deliver_running (t : PortSt) (own : Bool) (now : Nat) (c : Completion) :
    (t.deliver own now c).running = t.running := by
  unfold PortSt.deliver PortSt.putCompletion; dsimp only; split <;> simp [PortSt.unreserve_running]

/-! ### Events -/

theorem State.portEvent_outputs (s : State) (p : PortId) (code : BitVec 10) (stamp : Nat) (data : List Byte) :
    s.OutputsOnly (s.portEvent p code stamp data) := by
  unfold State.portEvent
  dsimp only
  split
  · split
    · refine (modPort_outputs _ _ _ ?_ ?_).trans
        (modPair_outputs _ _ ?_ ?_ ?_ ?_ ?_) <;> intro _ <;> rfl
    · refine (modPort_outputs _ _ _ ?_ ?_).trans
        (modPort_outputs _ _ _ (fun t => PortSt.deliverEvent_up t _ _ _) (fun t => t.deliverEvent_running _ _ _)) <;> intro _ <;> rfl
  · exact .refl s

theorem State.stage_outputs (s : State) (r : Record) : s.OutputsOnly (s.stage r) := by
  unfold State.stage
  refine modJournal_outputs _ _ ?_ ?_ ?_ ?_ ?_ ?_ <;> intro j <;> split <;> rfl

theorem State.stageEvent_outputs (s : State) (code : BitVec 10) (stamp : Nat) (items : List Item) :
    s.OutputsOnly (s.stageEvent code stamp items) := by
  unfold State.stageEvent
  dsimp only
  split
  · exact .refl s
  · split
    · refine modJournal_outputs _ _ ?_ ?_ ?_ ?_ ?_ ?_ <;> intro _ <;> rfl
    · exact s.stage_outputs _

theorem State.sendOwn_outputs (s : State) (tag : Nat) (bus : Bus) (f : CanFrame) : s.OutputsOnly (s.sendOwn tag bus f) := by
  unfold State.sendOwn
  refine modCan_outputs _ _ ?_ ?_ <;> intro _ <;> rfl

theorem State.sendFallback_outputs (s : State) (type : Nat) (data : List Byte) :
    s.OutputsOnly (s.sendFallback type data) := by
  unfold State.sendFallback
  split
  · exact s.sendOwn_outputs _ _ _
  · exact .refl s

theorem State.sendFault_outputs (s : State) (code : BitVec 10) (door : Nat) (data : List Byte) :
    s.OutputsOnly (s.sendFault code door data) := by
  unfold State.sendFault
  extract_lets fresh sent s1
  have h : s.OutputsOnly s1 := by
    refine modCan_outputs _ _ ?_ ?_ <;> intro _ <;> rfl
  by_cases k : sent < 10
  · rw [if_pos k]
    refine (h.trans (sendFallback_outputs _ _ _)).trans (modCan_outputs _ _ ?_ ?_) <;> intro _ <;> rfl
  · rw [if_neg k]
    refine h.trans (modCan_outputs _ _ ?_ ?_) <;> intro _ <;> rfl

theorem State.raiseOnce_outputs (s : State) (code : BitVec 10) (stamp : Nat) (items : List Item) :
    s.OutputsOnly (s.raiseOnce code stamp items) := by
  unfold State.raiseOnce
  extract_lets data s1 s2
  have h : s.OutputsOnly s2 := ((((s.portEvent_outputs 0 code stamp data).trans (portEvent_outputs _ 1 code stamp data)).trans
    (portEvent_outputs _ 2 code stamp data)).trans (portEvent_outputs _ 3 code stamp data)).trans
    (stageEvent_outputs _ code stamp items)
  split
  · refine (h.trans (sendFault_outputs _ _ _ _)).trans (modPanel_outputs _ _ ?_ ?_) <;> intro _ <;> rfl
  · exact h

theorem State.raiseAt_outputs (s : State) (code : BitVec 10) (stamp : Nat) (items : List Item) :
    s.OutputsOnly (s.raiseAt code stamp items) := by
  unfold State.raiseAt
  dsimp only
  split
  · refine ((s.raiseOnce_outputs _ _ _).trans (modJournal_outputs _ _ ?_ ?_ ?_
      ?_ ?_ ?_)).trans (raiseOnce_outputs _ _ _ _) <;> intro _ <;> rfl
  · exact s.raiseOnce_outputs _ _ _

theorem State.raise_outputs (s : State) (code : BitVec 10) (items : List Item) : s.OutputsOnly (s.raise code items) :=
  s.raiseAt_outputs _ _ _

/-! ### Completions -/

theorem State.noteLayby_outputs (s : State) (p : PortId) : s.OutputsOnly (s.noteLayby p) := by
  unfold State.noteLayby
  extract_lets t v
  by_cases h : v = t.laybyRaised
  · rw [if_pos h]; exact .refl s
  · rw [if_neg h]
    refine (modPort_outputs _ _ _ ?_ ?_).trans (raise_outputs _ _ _) <;> intro _ <;> rfl

theorem State.emit_outputs (s : State) (p : PortId) (c : Completion) : s.OutputsOnly (s.emit p c) := by
  unfold State.emit
  dsimp only
  split
  · refine (modPort_outputs _ _ _ ?_ ?_).trans
      (modPair_outputs _ _ ?_ ?_ ?_ ?_ ?_) <;> intro _ <;> rfl
  · refine ((modPort_outputs _ _ _ ?_ ?_).trans
      (modPort_outputs _ _ _ (fun t => t.deliver_up _ _ _) (fun t => t.deliver_running _ _ _))).trans
      (noteLayby_outputs _ _) <;> intro _ <;> rfl

theorem State.complete_outputs (s : State) (r : Req) (oc : BitVec 15) (st : Byte) (d : Nat) (res : List Byte) :
    s.OutputsOnly (s.complete r oc st d res) := by
  unfold State.complete
  split
  · exact .refl s
  · exact s.emit_outputs _ _

theorem State.ok_outputs (s : State) (r : Req) (oc : BitVec 15) (res : List Byte) : s.OutputsOnly (s.ok r oc res) :=
  s.complete_outputs _ _ _ _ _

theorem State.fail_outputs (s : State) (r : Req) (oc : BitVec 15) (st : Byte) (d : Nat) :
    s.OutputsOnly (s.fail r oc st d) := s.complete_outputs _ _ _ _ _

theorem State.completeAll_outputs (s : State) (rs : List Req) (oc : BitVec 15) (st : Byte) (d : Nat) (res : List Byte) :
    s.OutputsOnly (s.completeAll rs oc st d res) := each_outputs rs _ (fun s r => s.complete_outputs r oc st d res) s

/-! ### The fields they leave, one by one -/

section
variable (s : State) (code : BitVec 10) (items : List Item)

@[simp] theorem State.raise_now : (s.raise code items).now = s.now := (s.raise_outputs code items).now
@[simp] theorem State.raise_tick : (s.raise code items).tick = s.tick := (s.raise_outputs code items).tick
@[simp] theorem State.raise_free : (s.raise code items).free = s.free := (s.raise_outputs code items).free
@[simp] theorem State.raise_params : (s.raise code items).params = s.params := (s.raise_outputs code items).params
@[simp] theorem State.raise_paramsValid : (s.raise code items).paramsValid = s.paramsValid := (s.raise_outputs code items).paramsValid
@[simp] theorem State.raise_frame : (s.raise code items).frame = s.frame := (s.raise_outputs code items).frame
@[simp] theorem State.raise_doors : (s.raise code items).doors = s.doors := (s.raise_outputs code items).doors
@[simp] theorem State.raise_obst : (s.raise code items).obst = s.obst := (s.raise_outputs code items).obst
@[simp] theorem State.raise_axes : (s.raise code items).axes = s.axes := (s.raise_outputs code items).axes
@[simp] theorem State.raise_axMods : (s.raise code items).axMods = s.axMods := (s.raise_outputs code items).axMods
@[simp] theorem State.raise_field : (s.raise code items).field = s.field := (s.raise_outputs code items).field
@[simp] theorem State.raise_load : (s.raise code items).load = s.load := (s.raise_outputs code items).load
@[simp] theorem State.raise_supply : (s.raise code items).supply = s.supply := (s.raise_outputs code items).supply
@[simp] theorem State.raise_energy : (s.raise code items).energy = s.energy := (s.raise_outputs code items).energy
@[simp] theorem State.raise_power : (s.raise code items).power = s.power := (s.raise_outputs code items).power
@[simp] theorem State.raise_time : (s.raise code items).time = s.time := (s.raise_outputs code items).time
@[simp] theorem State.raise_update : (s.raise code items).update = s.update := (s.raise_outputs code items).update
@[simp] theorem State.raise_restart : (s.raise code items).restart = s.restart := (s.raise_outputs code items).restart
@[simp] theorem State.raise_pending : (s.raise code items).pending = s.pending := (s.raise_outputs code items).pending
@[simp] theorem State.raise_pairCore : (s.raise code items).pair.core = s.pair.core := (s.raise_outputs code items).pairCore
@[simp] theorem State.raise_standby : (s.raise code items).pair.standby = s.pair.standby := (s.raise_outputs code items).standby
@[simp] theorem State.raise_mseq : (s.raise code items).pair.mseq = s.pair.mseq := (s.raise_outputs code items).mseq
@[simp] theorem State.raise_mseqAck : (s.raise code items).pair.mseqAck = s.pair.mseqAck := (s.raise_outputs code items).mseqAck
@[simp] theorem State.raise_handover : (s.raise code items).pair.handover = s.pair.handover := (s.raise_outputs code items).handover
@[simp] theorem State.raise_canCtl : (s.raise code items).can.ctl = s.can.ctl := (s.raise_outputs code items).canCtl
@[simp] theorem State.raise_canRx : (s.raise code items).can.rx = s.can.rx := (s.raise_outputs code items).canRx
@[simp] theorem State.raise_nand : (s.raise code items).journal.nand = s.journal.nand := (s.raise_outputs code items).nand
@[simp] theorem State.raise_cycle : (s.raise code items).journal.cycle = s.journal.cycle := (s.raise_outputs code items).cycle
@[simp] theorem State.raise_cycleFrom : (s.raise code items).journal.cycleFrom = s.journal.cycleFrom := (s.raise_outputs code items).cycleFrom
@[simp] theorem State.raise_cycleNo : (s.raise code items).journal.cycleNo = s.journal.cycleNo := (s.raise_outputs code items).cycleNo
@[simp] theorem State.raise_cursors : (s.raise code items).journal.cursors = s.journal.cursors := (s.raise_outputs code items).cursors
@[simp] theorem State.raise_nextNumber : (s.raise code items).journal.nextNumber = s.journal.nextNumber := (s.raise_outputs code items).nextNumber
@[simp] theorem State.raise_window : (s.raise code items).panel.window = s.panel.window := (s.raise_outputs code items).window
@[simp] theorem State.raise_powered : (s.raise code items).panel.powered = s.panel.powered := (s.raise_outputs code items).powered

end

section
variable (s : State) (p : PortId) (c : Completion)

@[simp] theorem State.emit_now : (s.emit p c).now = s.now := (s.emit_outputs p c).now
@[simp] theorem State.emit_tick : (s.emit p c).tick = s.tick := (s.emit_outputs p c).tick
@[simp] theorem State.emit_free : (s.emit p c).free = s.free := (s.emit_outputs p c).free
@[simp] theorem State.emit_params : (s.emit p c).params = s.params := (s.emit_outputs p c).params
@[simp] theorem State.emit_paramsValid : (s.emit p c).paramsValid = s.paramsValid := (s.emit_outputs p c).paramsValid
@[simp] theorem State.emit_frame : (s.emit p c).frame = s.frame := (s.emit_outputs p c).frame
@[simp] theorem State.emit_doors : (s.emit p c).doors = s.doors := (s.emit_outputs p c).doors
@[simp] theorem State.emit_obst : (s.emit p c).obst = s.obst := (s.emit_outputs p c).obst
@[simp] theorem State.emit_axes : (s.emit p c).axes = s.axes := (s.emit_outputs p c).axes
@[simp] theorem State.emit_axMods : (s.emit p c).axMods = s.axMods := (s.emit_outputs p c).axMods
@[simp] theorem State.emit_field : (s.emit p c).field = s.field := (s.emit_outputs p c).field
@[simp] theorem State.emit_load : (s.emit p c).load = s.load := (s.emit_outputs p c).load
@[simp] theorem State.emit_supply : (s.emit p c).supply = s.supply := (s.emit_outputs p c).supply
@[simp] theorem State.emit_energy : (s.emit p c).energy = s.energy := (s.emit_outputs p c).energy
@[simp] theorem State.emit_power : (s.emit p c).power = s.power := (s.emit_outputs p c).power
@[simp] theorem State.emit_time : (s.emit p c).time = s.time := (s.emit_outputs p c).time
@[simp] theorem State.emit_update : (s.emit p c).update = s.update := (s.emit_outputs p c).update
@[simp] theorem State.emit_restart : (s.emit p c).restart = s.restart := (s.emit_outputs p c).restart
@[simp] theorem State.emit_pending : (s.emit p c).pending = s.pending := (s.emit_outputs p c).pending
@[simp] theorem State.emit_pairCore : (s.emit p c).pair.core = s.pair.core := (s.emit_outputs p c).pairCore
@[simp] theorem State.emit_standby : (s.emit p c).pair.standby = s.pair.standby := (s.emit_outputs p c).standby
@[simp] theorem State.emit_mseq : (s.emit p c).pair.mseq = s.pair.mseq := (s.emit_outputs p c).mseq
@[simp] theorem State.emit_mseqAck : (s.emit p c).pair.mseqAck = s.pair.mseqAck := (s.emit_outputs p c).mseqAck
@[simp] theorem State.emit_handover : (s.emit p c).pair.handover = s.pair.handover := (s.emit_outputs p c).handover
@[simp] theorem State.emit_canCtl : (s.emit p c).can.ctl = s.can.ctl := (s.emit_outputs p c).canCtl
@[simp] theorem State.emit_canRx : (s.emit p c).can.rx = s.can.rx := (s.emit_outputs p c).canRx
@[simp] theorem State.emit_nand : (s.emit p c).journal.nand = s.journal.nand := (s.emit_outputs p c).nand
@[simp] theorem State.emit_cycle : (s.emit p c).journal.cycle = s.journal.cycle := (s.emit_outputs p c).cycle
@[simp] theorem State.emit_cycleFrom : (s.emit p c).journal.cycleFrom = s.journal.cycleFrom := (s.emit_outputs p c).cycleFrom
@[simp] theorem State.emit_cycleNo : (s.emit p c).journal.cycleNo = s.journal.cycleNo := (s.emit_outputs p c).cycleNo
@[simp] theorem State.emit_cursors : (s.emit p c).journal.cursors = s.journal.cursors := (s.emit_outputs p c).cursors
@[simp] theorem State.emit_nextNumber : (s.emit p c).journal.nextNumber = s.journal.nextNumber := (s.emit_outputs p c).nextNumber
@[simp] theorem State.emit_window : (s.emit p c).panel.window = s.panel.window := (s.emit_outputs p c).window
@[simp] theorem State.emit_powered : (s.emit p c).panel.powered = s.panel.powered := (s.emit_outputs p c).powered

end

section
variable (s : State) (r : Req) (oc : BitVec 15) (st : Byte) (d : Nat) (res : List Byte)

@[simp] theorem State.complete_now : (s.complete r oc st d res).now = s.now := (s.complete_outputs r oc st d res).now
@[simp] theorem State.complete_tick : (s.complete r oc st d res).tick = s.tick := (s.complete_outputs r oc st d res).tick
@[simp] theorem State.complete_free : (s.complete r oc st d res).free = s.free := (s.complete_outputs r oc st d res).free
@[simp] theorem State.complete_params : (s.complete r oc st d res).params = s.params := (s.complete_outputs r oc st d res).params
@[simp] theorem State.complete_paramsValid : (s.complete r oc st d res).paramsValid = s.paramsValid := (s.complete_outputs r oc st d res).paramsValid
@[simp] theorem State.complete_frame : (s.complete r oc st d res).frame = s.frame := (s.complete_outputs r oc st d res).frame
@[simp] theorem State.complete_doors : (s.complete r oc st d res).doors = s.doors := (s.complete_outputs r oc st d res).doors
@[simp] theorem State.complete_obst : (s.complete r oc st d res).obst = s.obst := (s.complete_outputs r oc st d res).obst
@[simp] theorem State.complete_axes : (s.complete r oc st d res).axes = s.axes := (s.complete_outputs r oc st d res).axes
@[simp] theorem State.complete_axMods : (s.complete r oc st d res).axMods = s.axMods := (s.complete_outputs r oc st d res).axMods
@[simp] theorem State.complete_field : (s.complete r oc st d res).field = s.field := (s.complete_outputs r oc st d res).field
@[simp] theorem State.complete_load : (s.complete r oc st d res).load = s.load := (s.complete_outputs r oc st d res).load
@[simp] theorem State.complete_supply : (s.complete r oc st d res).supply = s.supply := (s.complete_outputs r oc st d res).supply
@[simp] theorem State.complete_energy : (s.complete r oc st d res).energy = s.energy := (s.complete_outputs r oc st d res).energy
@[simp] theorem State.complete_power : (s.complete r oc st d res).power = s.power := (s.complete_outputs r oc st d res).power
@[simp] theorem State.complete_time : (s.complete r oc st d res).time = s.time := (s.complete_outputs r oc st d res).time
@[simp] theorem State.complete_update : (s.complete r oc st d res).update = s.update := (s.complete_outputs r oc st d res).update
@[simp] theorem State.complete_restart : (s.complete r oc st d res).restart = s.restart := (s.complete_outputs r oc st d res).restart
@[simp] theorem State.complete_pending : (s.complete r oc st d res).pending = s.pending := (s.complete_outputs r oc st d res).pending
@[simp] theorem State.complete_pairCore : (s.complete r oc st d res).pair.core = s.pair.core := (s.complete_outputs r oc st d res).pairCore
@[simp] theorem State.complete_standby : (s.complete r oc st d res).pair.standby = s.pair.standby := (s.complete_outputs r oc st d res).standby
@[simp] theorem State.complete_mseq : (s.complete r oc st d res).pair.mseq = s.pair.mseq := (s.complete_outputs r oc st d res).mseq
@[simp] theorem State.complete_mseqAck : (s.complete r oc st d res).pair.mseqAck = s.pair.mseqAck := (s.complete_outputs r oc st d res).mseqAck
@[simp] theorem State.complete_handover : (s.complete r oc st d res).pair.handover = s.pair.handover := (s.complete_outputs r oc st d res).handover
@[simp] theorem State.complete_canCtl : (s.complete r oc st d res).can.ctl = s.can.ctl := (s.complete_outputs r oc st d res).canCtl
@[simp] theorem State.complete_canRx : (s.complete r oc st d res).can.rx = s.can.rx := (s.complete_outputs r oc st d res).canRx
@[simp] theorem State.complete_nand : (s.complete r oc st d res).journal.nand = s.journal.nand := (s.complete_outputs r oc st d res).nand
@[simp] theorem State.complete_cycle : (s.complete r oc st d res).journal.cycle = s.journal.cycle := (s.complete_outputs r oc st d res).cycle
@[simp] theorem State.complete_cycleFrom : (s.complete r oc st d res).journal.cycleFrom = s.journal.cycleFrom := (s.complete_outputs r oc st d res).cycleFrom
@[simp] theorem State.complete_cycleNo : (s.complete r oc st d res).journal.cycleNo = s.journal.cycleNo := (s.complete_outputs r oc st d res).cycleNo
@[simp] theorem State.complete_cursors : (s.complete r oc st d res).journal.cursors = s.journal.cursors := (s.complete_outputs r oc st d res).cursors
@[simp] theorem State.complete_nextNumber : (s.complete r oc st d res).journal.nextNumber = s.journal.nextNumber := (s.complete_outputs r oc st d res).nextNumber
@[simp] theorem State.complete_window : (s.complete r oc st d res).panel.window = s.panel.window := (s.complete_outputs r oc st d res).window
@[simp] theorem State.complete_powered : (s.complete r oc st d res).panel.powered = s.panel.powered := (s.complete_outputs r oc st d res).powered

end

section
variable (s : State) (r : Req) (oc : BitVec 15) (res : List Byte)

@[simp] theorem State.ok_now : (s.ok r oc res).now = s.now := (s.ok_outputs r oc res).now
@[simp] theorem State.ok_tick : (s.ok r oc res).tick = s.tick := (s.ok_outputs r oc res).tick
@[simp] theorem State.ok_free : (s.ok r oc res).free = s.free := (s.ok_outputs r oc res).free
@[simp] theorem State.ok_params : (s.ok r oc res).params = s.params := (s.ok_outputs r oc res).params
@[simp] theorem State.ok_paramsValid : (s.ok r oc res).paramsValid = s.paramsValid := (s.ok_outputs r oc res).paramsValid
@[simp] theorem State.ok_frame : (s.ok r oc res).frame = s.frame := (s.ok_outputs r oc res).frame
@[simp] theorem State.ok_doors : (s.ok r oc res).doors = s.doors := (s.ok_outputs r oc res).doors
@[simp] theorem State.ok_obst : (s.ok r oc res).obst = s.obst := (s.ok_outputs r oc res).obst
@[simp] theorem State.ok_axes : (s.ok r oc res).axes = s.axes := (s.ok_outputs r oc res).axes
@[simp] theorem State.ok_axMods : (s.ok r oc res).axMods = s.axMods := (s.ok_outputs r oc res).axMods
@[simp] theorem State.ok_field : (s.ok r oc res).field = s.field := (s.ok_outputs r oc res).field
@[simp] theorem State.ok_load : (s.ok r oc res).load = s.load := (s.ok_outputs r oc res).load
@[simp] theorem State.ok_supply : (s.ok r oc res).supply = s.supply := (s.ok_outputs r oc res).supply
@[simp] theorem State.ok_energy : (s.ok r oc res).energy = s.energy := (s.ok_outputs r oc res).energy
@[simp] theorem State.ok_power : (s.ok r oc res).power = s.power := (s.ok_outputs r oc res).power
@[simp] theorem State.ok_time : (s.ok r oc res).time = s.time := (s.ok_outputs r oc res).time
@[simp] theorem State.ok_update : (s.ok r oc res).update = s.update := (s.ok_outputs r oc res).update
@[simp] theorem State.ok_restart : (s.ok r oc res).restart = s.restart := (s.ok_outputs r oc res).restart
@[simp] theorem State.ok_pending : (s.ok r oc res).pending = s.pending := (s.ok_outputs r oc res).pending
@[simp] theorem State.ok_pairCore : (s.ok r oc res).pair.core = s.pair.core := (s.ok_outputs r oc res).pairCore
@[simp] theorem State.ok_standby : (s.ok r oc res).pair.standby = s.pair.standby := (s.ok_outputs r oc res).standby
@[simp] theorem State.ok_mseq : (s.ok r oc res).pair.mseq = s.pair.mseq := (s.ok_outputs r oc res).mseq
@[simp] theorem State.ok_mseqAck : (s.ok r oc res).pair.mseqAck = s.pair.mseqAck := (s.ok_outputs r oc res).mseqAck
@[simp] theorem State.ok_handover : (s.ok r oc res).pair.handover = s.pair.handover := (s.ok_outputs r oc res).handover
@[simp] theorem State.ok_canCtl : (s.ok r oc res).can.ctl = s.can.ctl := (s.ok_outputs r oc res).canCtl
@[simp] theorem State.ok_canRx : (s.ok r oc res).can.rx = s.can.rx := (s.ok_outputs r oc res).canRx
@[simp] theorem State.ok_nand : (s.ok r oc res).journal.nand = s.journal.nand := (s.ok_outputs r oc res).nand
@[simp] theorem State.ok_cycle : (s.ok r oc res).journal.cycle = s.journal.cycle := (s.ok_outputs r oc res).cycle
@[simp] theorem State.ok_cycleFrom : (s.ok r oc res).journal.cycleFrom = s.journal.cycleFrom := (s.ok_outputs r oc res).cycleFrom
@[simp] theorem State.ok_cycleNo : (s.ok r oc res).journal.cycleNo = s.journal.cycleNo := (s.ok_outputs r oc res).cycleNo
@[simp] theorem State.ok_cursors : (s.ok r oc res).journal.cursors = s.journal.cursors := (s.ok_outputs r oc res).cursors
@[simp] theorem State.ok_nextNumber : (s.ok r oc res).journal.nextNumber = s.journal.nextNumber := (s.ok_outputs r oc res).nextNumber
@[simp] theorem State.ok_window : (s.ok r oc res).panel.window = s.panel.window := (s.ok_outputs r oc res).window
@[simp] theorem State.ok_powered : (s.ok r oc res).panel.powered = s.panel.powered := (s.ok_outputs r oc res).powered

end

section
variable (s : State) (r : Req) (oc : BitVec 15) (st : Byte) (d : Nat)

@[simp] theorem State.fail_now : (s.fail r oc st d).now = s.now := (s.fail_outputs r oc st d).now
@[simp] theorem State.fail_tick : (s.fail r oc st d).tick = s.tick := (s.fail_outputs r oc st d).tick
@[simp] theorem State.fail_free : (s.fail r oc st d).free = s.free := (s.fail_outputs r oc st d).free
@[simp] theorem State.fail_params : (s.fail r oc st d).params = s.params := (s.fail_outputs r oc st d).params
@[simp] theorem State.fail_paramsValid : (s.fail r oc st d).paramsValid = s.paramsValid := (s.fail_outputs r oc st d).paramsValid
@[simp] theorem State.fail_frame : (s.fail r oc st d).frame = s.frame := (s.fail_outputs r oc st d).frame
@[simp] theorem State.fail_doors : (s.fail r oc st d).doors = s.doors := (s.fail_outputs r oc st d).doors
@[simp] theorem State.fail_obst : (s.fail r oc st d).obst = s.obst := (s.fail_outputs r oc st d).obst
@[simp] theorem State.fail_axes : (s.fail r oc st d).axes = s.axes := (s.fail_outputs r oc st d).axes
@[simp] theorem State.fail_axMods : (s.fail r oc st d).axMods = s.axMods := (s.fail_outputs r oc st d).axMods
@[simp] theorem State.fail_field : (s.fail r oc st d).field = s.field := (s.fail_outputs r oc st d).field
@[simp] theorem State.fail_load : (s.fail r oc st d).load = s.load := (s.fail_outputs r oc st d).load
@[simp] theorem State.fail_supply : (s.fail r oc st d).supply = s.supply := (s.fail_outputs r oc st d).supply
@[simp] theorem State.fail_energy : (s.fail r oc st d).energy = s.energy := (s.fail_outputs r oc st d).energy
@[simp] theorem State.fail_power : (s.fail r oc st d).power = s.power := (s.fail_outputs r oc st d).power
@[simp] theorem State.fail_time : (s.fail r oc st d).time = s.time := (s.fail_outputs r oc st d).time
@[simp] theorem State.fail_update : (s.fail r oc st d).update = s.update := (s.fail_outputs r oc st d).update
@[simp] theorem State.fail_restart : (s.fail r oc st d).restart = s.restart := (s.fail_outputs r oc st d).restart
@[simp] theorem State.fail_pending : (s.fail r oc st d).pending = s.pending := (s.fail_outputs r oc st d).pending
@[simp] theorem State.fail_pairCore : (s.fail r oc st d).pair.core = s.pair.core := (s.fail_outputs r oc st d).pairCore
@[simp] theorem State.fail_standby : (s.fail r oc st d).pair.standby = s.pair.standby := (s.fail_outputs r oc st d).standby
@[simp] theorem State.fail_mseq : (s.fail r oc st d).pair.mseq = s.pair.mseq := (s.fail_outputs r oc st d).mseq
@[simp] theorem State.fail_mseqAck : (s.fail r oc st d).pair.mseqAck = s.pair.mseqAck := (s.fail_outputs r oc st d).mseqAck
@[simp] theorem State.fail_handover : (s.fail r oc st d).pair.handover = s.pair.handover := (s.fail_outputs r oc st d).handover
@[simp] theorem State.fail_canCtl : (s.fail r oc st d).can.ctl = s.can.ctl := (s.fail_outputs r oc st d).canCtl
@[simp] theorem State.fail_canRx : (s.fail r oc st d).can.rx = s.can.rx := (s.fail_outputs r oc st d).canRx
@[simp] theorem State.fail_nand : (s.fail r oc st d).journal.nand = s.journal.nand := (s.fail_outputs r oc st d).nand
@[simp] theorem State.fail_cycle : (s.fail r oc st d).journal.cycle = s.journal.cycle := (s.fail_outputs r oc st d).cycle
@[simp] theorem State.fail_cycleFrom : (s.fail r oc st d).journal.cycleFrom = s.journal.cycleFrom := (s.fail_outputs r oc st d).cycleFrom
@[simp] theorem State.fail_cycleNo : (s.fail r oc st d).journal.cycleNo = s.journal.cycleNo := (s.fail_outputs r oc st d).cycleNo
@[simp] theorem State.fail_cursors : (s.fail r oc st d).journal.cursors = s.journal.cursors := (s.fail_outputs r oc st d).cursors
@[simp] theorem State.fail_nextNumber : (s.fail r oc st d).journal.nextNumber = s.journal.nextNumber := (s.fail_outputs r oc st d).nextNumber
@[simp] theorem State.fail_window : (s.fail r oc st d).panel.window = s.panel.window := (s.fail_outputs r oc st d).window
@[simp] theorem State.fail_powered : (s.fail r oc st d).panel.powered = s.panel.powered := (s.fail_outputs r oc st d).powered

end

section
variable (s : State) (rs : List Req) (oc : BitVec 15) (st : Byte) (d : Nat) (res : List Byte)

@[simp] theorem State.completeAll_now : (s.completeAll rs oc st d res).now = s.now := (s.completeAll_outputs rs oc st d res).now
@[simp] theorem State.completeAll_tick : (s.completeAll rs oc st d res).tick = s.tick := (s.completeAll_outputs rs oc st d res).tick
@[simp] theorem State.completeAll_free : (s.completeAll rs oc st d res).free = s.free := (s.completeAll_outputs rs oc st d res).free
@[simp] theorem State.completeAll_params : (s.completeAll rs oc st d res).params = s.params := (s.completeAll_outputs rs oc st d res).params
@[simp] theorem State.completeAll_paramsValid : (s.completeAll rs oc st d res).paramsValid = s.paramsValid := (s.completeAll_outputs rs oc st d res).paramsValid
@[simp] theorem State.completeAll_frame : (s.completeAll rs oc st d res).frame = s.frame := (s.completeAll_outputs rs oc st d res).frame
@[simp] theorem State.completeAll_doors : (s.completeAll rs oc st d res).doors = s.doors := (s.completeAll_outputs rs oc st d res).doors
@[simp] theorem State.completeAll_obst : (s.completeAll rs oc st d res).obst = s.obst := (s.completeAll_outputs rs oc st d res).obst
@[simp] theorem State.completeAll_axes : (s.completeAll rs oc st d res).axes = s.axes := (s.completeAll_outputs rs oc st d res).axes
@[simp] theorem State.completeAll_axMods : (s.completeAll rs oc st d res).axMods = s.axMods := (s.completeAll_outputs rs oc st d res).axMods
@[simp] theorem State.completeAll_field : (s.completeAll rs oc st d res).field = s.field := (s.completeAll_outputs rs oc st d res).field
@[simp] theorem State.completeAll_load : (s.completeAll rs oc st d res).load = s.load := (s.completeAll_outputs rs oc st d res).load
@[simp] theorem State.completeAll_supply : (s.completeAll rs oc st d res).supply = s.supply := (s.completeAll_outputs rs oc st d res).supply
@[simp] theorem State.completeAll_energy : (s.completeAll rs oc st d res).energy = s.energy := (s.completeAll_outputs rs oc st d res).energy
@[simp] theorem State.completeAll_power : (s.completeAll rs oc st d res).power = s.power := (s.completeAll_outputs rs oc st d res).power
@[simp] theorem State.completeAll_time : (s.completeAll rs oc st d res).time = s.time := (s.completeAll_outputs rs oc st d res).time
@[simp] theorem State.completeAll_update : (s.completeAll rs oc st d res).update = s.update := (s.completeAll_outputs rs oc st d res).update
@[simp] theorem State.completeAll_restart : (s.completeAll rs oc st d res).restart = s.restart := (s.completeAll_outputs rs oc st d res).restart
@[simp] theorem State.completeAll_pending : (s.completeAll rs oc st d res).pending = s.pending := (s.completeAll_outputs rs oc st d res).pending
@[simp] theorem State.completeAll_pairCore : (s.completeAll rs oc st d res).pair.core = s.pair.core := (s.completeAll_outputs rs oc st d res).pairCore
@[simp] theorem State.completeAll_standby : (s.completeAll rs oc st d res).pair.standby = s.pair.standby := (s.completeAll_outputs rs oc st d res).standby
@[simp] theorem State.completeAll_mseq : (s.completeAll rs oc st d res).pair.mseq = s.pair.mseq := (s.completeAll_outputs rs oc st d res).mseq
@[simp] theorem State.completeAll_mseqAck : (s.completeAll rs oc st d res).pair.mseqAck = s.pair.mseqAck := (s.completeAll_outputs rs oc st d res).mseqAck
@[simp] theorem State.completeAll_handover : (s.completeAll rs oc st d res).pair.handover = s.pair.handover := (s.completeAll_outputs rs oc st d res).handover
@[simp] theorem State.completeAll_canCtl : (s.completeAll rs oc st d res).can.ctl = s.can.ctl := (s.completeAll_outputs rs oc st d res).canCtl
@[simp] theorem State.completeAll_canRx : (s.completeAll rs oc st d res).can.rx = s.can.rx := (s.completeAll_outputs rs oc st d res).canRx
@[simp] theorem State.completeAll_nand : (s.completeAll rs oc st d res).journal.nand = s.journal.nand := (s.completeAll_outputs rs oc st d res).nand
@[simp] theorem State.completeAll_cycle : (s.completeAll rs oc st d res).journal.cycle = s.journal.cycle := (s.completeAll_outputs rs oc st d res).cycle
@[simp] theorem State.completeAll_cycleFrom : (s.completeAll rs oc st d res).journal.cycleFrom = s.journal.cycleFrom := (s.completeAll_outputs rs oc st d res).cycleFrom
@[simp] theorem State.completeAll_cycleNo : (s.completeAll rs oc st d res).journal.cycleNo = s.journal.cycleNo := (s.completeAll_outputs rs oc st d res).cycleNo
@[simp] theorem State.completeAll_cursors : (s.completeAll rs oc st d res).journal.cursors = s.journal.cursors := (s.completeAll_outputs rs oc st d res).cursors
@[simp] theorem State.completeAll_nextNumber : (s.completeAll rs oc st d res).journal.nextNumber = s.journal.nextNumber := (s.completeAll_outputs rs oc st d res).nextNumber
@[simp] theorem State.completeAll_window : (s.completeAll rs oc st d res).panel.window = s.panel.window := (s.completeAll_outputs rs oc st d res).window
@[simp] theorem State.completeAll_powered : (s.completeAll rs oc st d res).panel.powered = s.panel.powered := (s.completeAll_outputs rs oc st d res).powered

end

section
variable (s : State) (p : PortId)

@[simp] theorem State.noteLayby_now : (s.noteLayby p).now = s.now := (s.noteLayby_outputs p).now
@[simp] theorem State.noteLayby_tick : (s.noteLayby p).tick = s.tick := (s.noteLayby_outputs p).tick
@[simp] theorem State.noteLayby_free : (s.noteLayby p).free = s.free := (s.noteLayby_outputs p).free
@[simp] theorem State.noteLayby_params : (s.noteLayby p).params = s.params := (s.noteLayby_outputs p).params
@[simp] theorem State.noteLayby_paramsValid : (s.noteLayby p).paramsValid = s.paramsValid := (s.noteLayby_outputs p).paramsValid
@[simp] theorem State.noteLayby_frame : (s.noteLayby p).frame = s.frame := (s.noteLayby_outputs p).frame
@[simp] theorem State.noteLayby_doors : (s.noteLayby p).doors = s.doors := (s.noteLayby_outputs p).doors
@[simp] theorem State.noteLayby_obst : (s.noteLayby p).obst = s.obst := (s.noteLayby_outputs p).obst
@[simp] theorem State.noteLayby_axes : (s.noteLayby p).axes = s.axes := (s.noteLayby_outputs p).axes
@[simp] theorem State.noteLayby_axMods : (s.noteLayby p).axMods = s.axMods := (s.noteLayby_outputs p).axMods
@[simp] theorem State.noteLayby_field : (s.noteLayby p).field = s.field := (s.noteLayby_outputs p).field
@[simp] theorem State.noteLayby_load : (s.noteLayby p).load = s.load := (s.noteLayby_outputs p).load
@[simp] theorem State.noteLayby_supply : (s.noteLayby p).supply = s.supply := (s.noteLayby_outputs p).supply
@[simp] theorem State.noteLayby_energy : (s.noteLayby p).energy = s.energy := (s.noteLayby_outputs p).energy
@[simp] theorem State.noteLayby_power : (s.noteLayby p).power = s.power := (s.noteLayby_outputs p).power
@[simp] theorem State.noteLayby_time : (s.noteLayby p).time = s.time := (s.noteLayby_outputs p).time
@[simp] theorem State.noteLayby_update : (s.noteLayby p).update = s.update := (s.noteLayby_outputs p).update
@[simp] theorem State.noteLayby_restart : (s.noteLayby p).restart = s.restart := (s.noteLayby_outputs p).restart
@[simp] theorem State.noteLayby_pending : (s.noteLayby p).pending = s.pending := (s.noteLayby_outputs p).pending
@[simp] theorem State.noteLayby_pairCore : (s.noteLayby p).pair.core = s.pair.core := (s.noteLayby_outputs p).pairCore
@[simp] theorem State.noteLayby_standby : (s.noteLayby p).pair.standby = s.pair.standby := (s.noteLayby_outputs p).standby
@[simp] theorem State.noteLayby_mseq : (s.noteLayby p).pair.mseq = s.pair.mseq := (s.noteLayby_outputs p).mseq
@[simp] theorem State.noteLayby_mseqAck : (s.noteLayby p).pair.mseqAck = s.pair.mseqAck := (s.noteLayby_outputs p).mseqAck
@[simp] theorem State.noteLayby_handover : (s.noteLayby p).pair.handover = s.pair.handover := (s.noteLayby_outputs p).handover
@[simp] theorem State.noteLayby_canCtl : (s.noteLayby p).can.ctl = s.can.ctl := (s.noteLayby_outputs p).canCtl
@[simp] theorem State.noteLayby_canRx : (s.noteLayby p).can.rx = s.can.rx := (s.noteLayby_outputs p).canRx
@[simp] theorem State.noteLayby_nand : (s.noteLayby p).journal.nand = s.journal.nand := (s.noteLayby_outputs p).nand
@[simp] theorem State.noteLayby_cycle : (s.noteLayby p).journal.cycle = s.journal.cycle := (s.noteLayby_outputs p).cycle
@[simp] theorem State.noteLayby_cycleFrom : (s.noteLayby p).journal.cycleFrom = s.journal.cycleFrom := (s.noteLayby_outputs p).cycleFrom
@[simp] theorem State.noteLayby_cycleNo : (s.noteLayby p).journal.cycleNo = s.journal.cycleNo := (s.noteLayby_outputs p).cycleNo
@[simp] theorem State.noteLayby_cursors : (s.noteLayby p).journal.cursors = s.journal.cursors := (s.noteLayby_outputs p).cursors
@[simp] theorem State.noteLayby_nextNumber : (s.noteLayby p).journal.nextNumber = s.journal.nextNumber := (s.noteLayby_outputs p).nextNumber
@[simp] theorem State.noteLayby_window : (s.noteLayby p).panel.window = s.panel.window := (s.noteLayby_outputs p).window
@[simp] theorem State.noteLayby_powered : (s.noteLayby p).panel.powered = s.panel.powered := (s.noteLayby_outputs p).powered

end

section
variable (s : State) (type : Nat) (data : List Byte)

@[simp] theorem State.sendFallback_now : (s.sendFallback type data).now = s.now := (s.sendFallback_outputs type data).now
@[simp] theorem State.sendFallback_tick : (s.sendFallback type data).tick = s.tick := (s.sendFallback_outputs type data).tick
@[simp] theorem State.sendFallback_free : (s.sendFallback type data).free = s.free := (s.sendFallback_outputs type data).free
@[simp] theorem State.sendFallback_params : (s.sendFallback type data).params = s.params := (s.sendFallback_outputs type data).params
@[simp] theorem State.sendFallback_paramsValid : (s.sendFallback type data).paramsValid = s.paramsValid := (s.sendFallback_outputs type data).paramsValid
@[simp] theorem State.sendFallback_frame : (s.sendFallback type data).frame = s.frame := (s.sendFallback_outputs type data).frame
@[simp] theorem State.sendFallback_doors : (s.sendFallback type data).doors = s.doors := (s.sendFallback_outputs type data).doors
@[simp] theorem State.sendFallback_obst : (s.sendFallback type data).obst = s.obst := (s.sendFallback_outputs type data).obst
@[simp] theorem State.sendFallback_axes : (s.sendFallback type data).axes = s.axes := (s.sendFallback_outputs type data).axes
@[simp] theorem State.sendFallback_axMods : (s.sendFallback type data).axMods = s.axMods := (s.sendFallback_outputs type data).axMods
@[simp] theorem State.sendFallback_field : (s.sendFallback type data).field = s.field := (s.sendFallback_outputs type data).field
@[simp] theorem State.sendFallback_load : (s.sendFallback type data).load = s.load := (s.sendFallback_outputs type data).load
@[simp] theorem State.sendFallback_supply : (s.sendFallback type data).supply = s.supply := (s.sendFallback_outputs type data).supply
@[simp] theorem State.sendFallback_energy : (s.sendFallback type data).energy = s.energy := (s.sendFallback_outputs type data).energy
@[simp] theorem State.sendFallback_power : (s.sendFallback type data).power = s.power := (s.sendFallback_outputs type data).power
@[simp] theorem State.sendFallback_time : (s.sendFallback type data).time = s.time := (s.sendFallback_outputs type data).time
@[simp] theorem State.sendFallback_update : (s.sendFallback type data).update = s.update := (s.sendFallback_outputs type data).update
@[simp] theorem State.sendFallback_restart : (s.sendFallback type data).restart = s.restart := (s.sendFallback_outputs type data).restart
@[simp] theorem State.sendFallback_pending : (s.sendFallback type data).pending = s.pending := (s.sendFallback_outputs type data).pending
@[simp] theorem State.sendFallback_pairCore : (s.sendFallback type data).pair.core = s.pair.core := (s.sendFallback_outputs type data).pairCore
@[simp] theorem State.sendFallback_standby : (s.sendFallback type data).pair.standby = s.pair.standby := (s.sendFallback_outputs type data).standby
@[simp] theorem State.sendFallback_mseq : (s.sendFallback type data).pair.mseq = s.pair.mseq := (s.sendFallback_outputs type data).mseq
@[simp] theorem State.sendFallback_mseqAck : (s.sendFallback type data).pair.mseqAck = s.pair.mseqAck := (s.sendFallback_outputs type data).mseqAck
@[simp] theorem State.sendFallback_handover : (s.sendFallback type data).pair.handover = s.pair.handover := (s.sendFallback_outputs type data).handover
@[simp] theorem State.sendFallback_canCtl : (s.sendFallback type data).can.ctl = s.can.ctl := (s.sendFallback_outputs type data).canCtl
@[simp] theorem State.sendFallback_canRx : (s.sendFallback type data).can.rx = s.can.rx := (s.sendFallback_outputs type data).canRx
@[simp] theorem State.sendFallback_nand : (s.sendFallback type data).journal.nand = s.journal.nand := (s.sendFallback_outputs type data).nand
@[simp] theorem State.sendFallback_cycle : (s.sendFallback type data).journal.cycle = s.journal.cycle := (s.sendFallback_outputs type data).cycle
@[simp] theorem State.sendFallback_cycleFrom : (s.sendFallback type data).journal.cycleFrom = s.journal.cycleFrom := (s.sendFallback_outputs type data).cycleFrom
@[simp] theorem State.sendFallback_cycleNo : (s.sendFallback type data).journal.cycleNo = s.journal.cycleNo := (s.sendFallback_outputs type data).cycleNo
@[simp] theorem State.sendFallback_cursors : (s.sendFallback type data).journal.cursors = s.journal.cursors := (s.sendFallback_outputs type data).cursors
@[simp] theorem State.sendFallback_nextNumber : (s.sendFallback type data).journal.nextNumber = s.journal.nextNumber := (s.sendFallback_outputs type data).nextNumber
@[simp] theorem State.sendFallback_window : (s.sendFallback type data).panel.window = s.panel.window := (s.sendFallback_outputs type data).window
@[simp] theorem State.sendFallback_powered : (s.sendFallback type data).panel.powered = s.panel.powered := (s.sendFallback_outputs type data).powered

end

end Sys2Proof.Machine
end

