-- ==== Sys2Proof/Laws/Answers.lean ====
section
/-!
SUPPORT. What an event and a completion do say: the record an event leaves in staging, and the completion a
port keeps of a request.
-/

namespace Sys2Proof.Machine

/-! ### The clock -/

theorem State.until_now (s : State) (t : Nat) : (s.until t).now = max s.now t := by
  show s.now + (t - s.now) = max s.now t
  omega

section until_fields
variable (s : State) (t : Nat)
@[simp] theorem State.until_free : (s.until t).free = s.free := id rfl
@[simp] theorem State.until_params : (s.until t).params = s.params := id rfl
@[simp] theorem State.until_param (i : Nat) : (s.until t).param i = s.param i := id rfl
@[simp] theorem State.until_frame : (s.until t).frame = s.frame := id rfl
@[simp] theorem State.until_doors : (s.until t).doors = s.doors := id rfl
@[simp] theorem State.until_obst : (s.until t).obst = s.obst := id rfl
@[simp] theorem State.until_axes : (s.until t).axes = s.axes := id rfl
@[simp] theorem State.until_axMods : (s.until t).axMods = s.axMods := id rfl
@[simp] theorem State.until_field : (s.until t).field = s.field := id rfl
@[simp] theorem State.until_load : (s.until t).load = s.load := id rfl
@[simp] theorem State.until_supply : (s.until t).supply = s.supply := id rfl
@[simp] theorem State.until_energy : (s.until t).energy = s.energy := id rfl
@[simp] theorem State.until_power : (s.until t).power = s.power := id rfl
@[simp] theorem State.until_pair : (s.until t).pair = s.pair := id rfl
@[simp] theorem State.until_ports : (s.until t).ports = s.ports := id rfl
@[simp] theorem State.until_can : (s.until t).can = s.can := id rfl
@[simp] theorem State.until_panel : (s.until t).panel = s.panel := id rfl
@[simp] theorem State.until_journal : (s.until t).journal = s.journal := id rfl
@[simp] theorem State.until_update : (s.until t).update = s.update := id rfl
end until_fields

/-! ### Events leave the kept completions alone -/

/-- The completions kept by every port are the same. -/
structure SameKept (s t : State) : Prop where
  get : ∀ p : PortId, t.ports[p].kept = s.ports[p].kept

theorem SameKept.trans {s t u : State} (h : SameKept s t) (g : SameKept t u) : SameKept s u :=
  ⟨fun p => (g.get p).trans (h.get p)⟩

theorem SameKept.of_ports {s t : State} (h : t.ports = s.ports) : SameKept s t := ⟨fun p => by rw [h]⟩

theorem SameKept.modPort (s : State) (p : PortId) (f : PortSt → PortSt) (h : ∀ t, (f t).kept = t.kept) :
    SameKept s (s.modPort p f) := by
  refine ⟨fun k => ?_⟩
  show (updV s.ports p f)[k].kept = _
  by_cases hk : p = k
  · subst hk; rw [updV_self, h]
  · rw [updV_other _ _ _ _ hk]

theorem PortSt.deliverEvent_kept (t : PortSt) (own : Bool) (now : Nat) (e : Event) :
    (t.deliverEvent own now e).kept = t.kept := by
  unfold PortSt.deliverEvent
  split
  · rfl
  · split <;> rfl

theorem PortSt.unreserve_kept (t : PortSt) (q : Fin 16) (b : Bool) : (t.unreserve q b).kept = t.kept := by
  unfold PortSt.unreserve; split <;> rfl

theorem PortSt.deliver_kept (t : PortSt) (own : Bool) (now : Nat) (c : Completion) :
    (t.deliver own now c).kept = t.kept := by
  unfold PortSt.deliver
  extract_lets q u
  split
  · exact PortSt.unreserve_kept ..
  · exact PortSt.unreserve_kept ..

theorem State.portEvent_kept (s : State) (p : PortId) (code : BitVec 10) (stamp : Nat) (data : List Byte) :
    SameKept s (s.portEvent p code stamp data) := by
  unfold State.portEvent
  split
  · extract_lets t e s'
    have h : SameKept s s' := SameKept.modPort _ _ _ fun _ => rfl
    split
    · exact h.trans (SameKept.of_ports rfl)
    · exact h.trans (SameKept.modPort _ _ _ fun _ => PortSt.deliverEvent_kept ..)
  · exact ⟨fun _ => rfl⟩

theorem State.stageEvent_ports (s : State) (code : BitVec 10) (stamp : Nat) (items : List Item) :
    (s.stageEvent code stamp items).ports = s.ports := by
  unfold State.stageEvent
  extract_lets always wanted
  split
  · rfl
  · split <;> rfl

theorem State.sendFault_ports (s : State) (code : BitVec 10) (door : Nat) (data : List Byte) :
    (s.sendFault code door data).ports = s.ports := by
  unfold State.sendFault
  extract_lets fresh sent s1
  split
  · unfold State.sendFallback
    show (if s1.param 0x520 = 1 then _ else _ : State).ports = _
    split <;> rfl
  · rfl

theorem State.raiseOnce_kept (s : State) (code : BitVec 10) (stamp : Nat) (items : List Item) :
    SameKept s (s.raiseOnce code stamp items) := by
  unfold State.raiseOnce
  extract_lets data s1 s2 door
  have h1 : SameKept s s1 := ((((State.portEvent_kept s 0 code stamp data).trans (State.portEvent_kept ..)).trans
    (State.portEvent_kept ..)).trans (State.portEvent_kept ..))
  have h2 : SameKept s s2 := h1.trans (SameKept.of_ports (State.stageEvent_ports ..))
  clear_value s2
  split
  · exact h2.trans (SameKept.of_ports (State.sendFault_ports ..))
  · exact h2

theorem State.raiseAt_kept (s : State) (code : BitVec 10) (stamp : Nat) (items : List Item) :
    SameKept s (s.raiseAt code stamp items) := by
  unfold State.raiseAt
  extract_lets s1
  have h1 : SameKept s s1 := State.raiseOnce_kept ..
  clear_value s1
  split
  · exact (h1.trans (SameKept.of_ports (t := s1.modJournal fun j => { j with highRaised := true }) rfl)).trans
      (State.raiseOnce_kept ..)
  · exact h1

theorem State.raise_kept (s : State) (code : BitVec 10) (items : List Item) : SameKept s (s.raise code items) :=
  State.raiseAt_kept ..

/-! ### A completion is kept -/

theorem State.noteLayby_kept (s : State) (p : PortId) : SameKept s (s.noteLayby p) := by
  unfold State.noteLayby
  extract_lets t v
  split
  · exact ⟨fun _ => rfl⟩
  · with_reducible refine SameKept.trans (t := s.modPort p fun t => { t with laybyRaised := v }) ?_ ?_
    · exact SameKept.modPort _ _ _ fun _ => rfl
    · exact State.raise_kept _ _ _

theorem State.emit_kept (s : State) (p : PortId) (c : Completion) :
    (s.emit p c).ports[p].kept = ({ c with dseq := s.ports[p].dseqNext } :: s.ports[p].kept).take 256 := by
  unfold State.emit
  extract_lets t c' s1
  have h1 : s1.ports[p].kept = (c' :: t.kept).take 256 := by
    show (updV s.ports p _)[p].kept = _
    rw [updV_self]
  split
  · exact h1
  · rw [(State.noteLayby_kept ..).get, (SameKept.modPort _ _ _ (fun _ => PortSt.deliver_kept ..)).get]
    exact h1

theorem State.complete_head (s : State) (r : Req) (oc : BitVec 15) (st : Byte) (d : Nat) (res : List Byte)
    (p : PortId) (hp : portOf r.party = some p) :
    ∃ c, (s.complete r oc st d res).ports[p].kept.head? = some c ∧ c.opcode = oc ∧ c.status = st ∧
      c.hseq = r.hseq ∧ c.sq = r.sq ∧ c.cq = r.cq ∧ c.detail = BitVec.ofNat 32 d ∧ c.result = slice res 0 12 := by
  unfold State.complete
  rw [hp]
  simp only [State.emit_kept]
  exact ⟨_, rfl, rfl, rfl, rfl, rfl, rfl, rfl, rfl⟩

theorem State.complete_answers (s : State) (r : Req) (oc : BitVec 15) (st : Byte) (d : Nat) (res : List Byte) :
    Answers (s.complete r oc st d res) r oc st d := by
  intro p hp
  obtain ⟨c, h, h1, h2, h3, h4, h5, h6, -⟩ := State.complete_head s r oc st d res p hp
  exact ⟨c, h, h1, h2, h3, h4, h5, h6⟩

theorem State.complete_result (s : State) (r : Req) (oc : BitVec 15) (st : Byte) (d : Nat) (res : List Byte) :
    AnswersWith (s.complete r oc st d res) r res := by
  intro p hp
  obtain ⟨c, h, -, -, -, -, -, -, h7⟩ := State.complete_head s r oc st d res p hp
  exact ⟨c, h, h7⟩

theorem State.ok_answers (s : State) (r : Req) (oc : BitVec 15) (res : List Byte) :
    Answers (s.ok r oc res) r oc ST_OK 0 := State.complete_answers _ _ _ _ _ _

theorem State.ok_result (s : State) (r : Req) (oc : BitVec 15) (res : List Byte) :
    AnswersWith (s.ok r oc res) r res := State.complete_result _ _ _ _ _ _

theorem State.fail_answers (s : State) (r : Req) (oc : BitVec 15) (st : Byte) (d : Nat) :
    Answers (s.fail r oc st d) r oc st d := State.complete_answers _ _ _ _ _ _

/-- An answer stands while the kept completions do. -/
theorem Answers.same {s t : State} {r : Req} {oc : BitVec 15} {st : Byte} {d : Nat} (h : Answers s r oc st d)
    (g : SameKept s t) : Answers t r oc st d := by
  intro p hp
  rw [g.get p]; exact h p hp

theorem Answers.raise {s : State} {r : Req} {oc : BitVec 15} {st : Byte} {d : Nat} (h : Answers s r oc st d)
    (code : BitVec 10) (items : List Item) : Answers (s.raise code items) r oc st d := h.same (State.raise_kept ..)

/-! ### An event is staged -/

theorem State.portEvent_journal (s : State) (p : PortId) (code : BitVec 10) (stamp : Nat) (data : List Byte) :
    (s.portEvent p code stamp data).journal = s.journal := by
  unfold State.portEvent
  split
  · extract_lets t e s'
    split <;> rfl
  · rfl

theorem State.portEvent_params (s : State) (p : PortId) (code : BitVec 10) (stamp : Nat) (data : List Byte) :
    (s.portEvent p code stamp data).params = s.params := (State.portEvent_outputs ..).params

theorem State.sendFault_journal (s : State) (code : BitVec 10) (door : Nat) (data : List Byte) :
    (s.sendFault code door data).journal = s.journal := by
  unfold State.sendFault
  extract_lets fresh sent s1
  split
  · unfold State.sendFallback
    show (if s1.param 0x520 = 1 then _ else _ : State).journal = _
    split <;> rfl
  · rfl

/-- Every staged record is still staged. -/
def StagingGrows (s t : State) : Prop :=
  ∀ r, r ∈ s.journal.stagedPrio ++ s.journal.stagedOrd → r ∈ t.journal.stagedPrio ++ t.journal.stagedOrd

theorem StagingGrows.of_journal {s t : State} (h : t.journal = s.journal) : StagingGrows s t := fun r hr => by
  rw [h]; exact hr

theorem State.stageEvent_grows (s : State) (code : BitVec 10) (stamp : Nat) (items : List Item) :
    StagingGrows s (s.stageEvent code stamp items) := by
  unfold State.stageEvent
  extract_lets always wanted
  split
  · exact fun _ h => h
  · split
    · exact fun _ h => h
    · intro r hr
      unfold State.stage
      simp only [State.modJournal]
      split <;> simp only [List.mem_append, List.mem_singleton] at * <;> tauto

theorem State.raiseOnce_grows (s : State) (code : BitVec 10) (stamp : Nat) (items : List Item) :
    StagingGrows s (s.raiseOnce code stamp items) := by
  unfold State.raiseOnce
  extract_lets data s1 s2 door
  have h1 : s1.journal = s.journal := by
    simp only [s1, State.portEvent_journal]
  have h2 : StagingGrows s s2 := fun r hr => State.stageEvent_grows s1 code stamp items r (by rw [h1]; exact hr)
  clear_value s2
  split
  · intro r hr
    show r ∈ (s2.sendFault code door data).journal.stagedPrio ++ (s2.sendFault code door data).journal.stagedOrd
    rw [State.sendFault_journal]; exact h2 r hr
  · exact h2

theorem State.raiseOnce_staged (s : State) (code : BitVec 10) (stamp : Nat) (items : List Item)
    (h : s.takesEvent code = true) : EventStaged (s.raiseOnce code stamp items) code (items.take 20) := by
  unfold State.raiseOnce
  extract_lets data s1 s2 door
  have hj : s1.journal = s.journal := by simp only [s1, State.portEvent_journal]
  have hp : ∀ i, s1.param i = s.param i := by
    intro i; unfold State.param; simp only [s1, State.portEvent_params]
  have h2 : EventStaged s2 code (items.take 20) := by
    unfold s2 State.stageEvent
    extract_lets always wanted
    have ht : (always || wanted) = true ∧ (!always && decide (448 ≤ s1.journal.staged)) = false := by
      unfold State.takesEvent at h
      simp only [always, wanted, hp, hj]
      revert h
      cases alwaysStaged code
      · simp only [Bool.false_or, Bool.and_eq_true, decide_eq_true_eq, Bool.not_false, Bool.true_and,
          decide_eq_false_iff_not, and_imp]
        intro h1 h2 h3
        exact ⟨⟨h1, h2⟩, by omega⟩
      · simp
    rw [if_neg (by simp [ht.1]), if_neg (by simp [ht.2])]
    refine ⟨s1.mkRecord always stamp (.event code (BitVec.ofNat 1 s1.activeCore.val) (items.take 20)) none, ?_, _, rfl⟩
    unfold State.stage
    simp only [State.modJournal]
    split <;> simp
  clear_value s2
  split
  · unfold EventStaged
    show ∃ r ∈ (s2.sendFault code door data).journal.stagedPrio ++ (s2.sendFault code door data).journal.stagedOrd, _
    rw [State.sendFault_journal]; exact h2
  · exact h2

/-- A raised event that staging takes is staged. -/
theorem State.raise_staged (s : State) (code : BitVec 10) (items : List Item) (h : s.takesEvent code = true) :
    EventStaged (s.raise code items) code (items.take 20) := by
  have h1 := State.raiseOnce_staged s code s.tai items h
  unfold State.raise State.raiseAt
  extract_lets s1
  change EventStaged s1 code (items.take 20) at h1
  clear_value s1
  split
  · obtain ⟨r, hr, c, hc⟩ := h1
    exact ⟨r, State.raiseOnce_grows (s1.modJournal _) _ _ _ r hr, c, hc⟩
  · exact h1

end Sys2Proof.Machine
end

