-- ==== Sys2Proof/Laws/Exec.lean ====
section
/-!
SUPPORT. What exec does with each command, by the command's own meaning.
-/

namespace Sys2Proof.Machine

variable (s : State)
theorem exec_tickPass :
    exec (.tickPass) s = execTickPass s := rfl
theorem exec_downlinkFrame (slot : Slot) (core : CoreId) (frame : List Byte) :
    exec (.downlinkFrame slot core frame) s = execDownlinkFrame slot core frame s := rfl
theorem exec_missedTick (slot : Slot) (twoActive : Bool) :
    exec (.missedTick slot twoActive) s = execMissedTick slot twoActive s := rfl
theorem exec_uplinkFrame (slot : Slot) (core : CoreId) (frame : List Byte) :
    exec (.uplinkFrame slot core frame) s = execUplinkFrame slot core frame s := rfl
theorem exec_linkLost (slot : Slot) (core : CoreId) :
    exec (.linkLost slot core) s = execLinkLost slot core s := rfl
theorem exec_presAsserted (slot : Slot) (sid : BitVec 4) (sidp : Bool) :
    exec (.presAsserted slot sid sidp) s = execPresAsserted slot sid sidp s := rfl
theorem exec_presenceDebounceDone (slot : Slot) :
    exec (.presenceDebounceDone slot) s = execPresenceDebounceDone slot s := rfl
theorem exec_identityData (slot : Slot) (block : List Byte) (lowRail : Option (Nat × Nat)) :
    exec (.identityData slot block lowRail) s = execIdentityData slot block lowRail s := rfl
theorem exec_identityTimeout (slot : Slot) :
    exec (.identityTimeout slot) s = execIdentityTimeout slot s := rfl
theorem exec_moduleInService (slot : Slot) :
    exec (.moduleInService slot) s = execModuleInService slot s := rfl
theorem exec_removeRequest (slot : Slot) :
    exec (.removeRequest slot) s = execRemoveRequest slot s := rfl
theorem exec_removeGateMet (slot : Slot) :
    exec (.removeGateMet slot) s = execRemoveGateMet slot s := rfl
theorem exec_latchReopenConfirm (slot : Slot) :
    exec (.latchReopenConfirm slot) s = execLatchReopenConfirm slot s := rfl
theorem exec_opServiceDrop (r : Req) (slot : Slot) :
    exec (.opServiceDrop r slot) s = execOpServiceDrop r slot s := rfl
theorem exec_hostGraceExpired (slot : Slot) :
    exec (.hostGraceExpired slot) s = execHostGraceExpired slot s := rfl
theorem exec_removalComplete (slot : Slot) :
    exec (.removalComplete slot) s = execRemovalComplete slot s := rfl
theorem exec_removeCancelled (slot : Slot) :
    exec (.removeCancelled slot) s = execRemoveCancelled slot s := rfl
theorem exec_moduleRemoved (slot : Slot) :
    exec (.moduleRemoved slot) s = execModuleRemoved slot s := rfl
theorem exec_unannouncedPull (slot : Slot) :
    exec (.unannouncedPull slot) s = execUnannouncedPull slot s := rfl
theorem exec_latchFault (slot : Slot) :
    exec (.latchFault slot) s = execLatchFault slot s := rfl
theorem exec_safe2Discrepancy (core : CoreId) (c : Chan) :
    exec (.safe2Discrepancy core c) s = execSafe2Discrepancy core c s := rfl
theorem exec_safe2Cleared (core : CoreId) (c : Chan) :
    exec (.safe2Cleared core c) s = execSafe2Cleared core c s := rfl
theorem exec_unlockTimeout (d : Doorway) :
    exec (.unlockTimeout d) s = execUnlockTimeout d s := rfl
theorem exec_openTimeout (d : Doorway) :
    exec (.openTimeout d) s = execOpenTimeout d s := rfl
theorem exec_closeTimeout (d : Doorway) :
    exec (.closeTimeout d) s = execCloseTimeout d s := rfl
theorem exec_lockTimeout (d : Doorway) :
    exec (.lockTimeout d) s = execLockTimeout d s := rfl
theorem exec_stepTimeout (d : Doorway) :
    exec (.stepTimeout d) s = execStepTimeout d s := rfl
theorem exec_warnTimeExpired (d : Doorway) :
    exec (.warnTimeExpired d) s = execWarnTimeExpired d s := rfl
theorem exec_dwellClose (d : Doorway) :
    exec (.dwellClose d) s = execDwellClose d s := rfl
theorem exec_reopenPauseExpired (d : Doorway) :
    exec (.reopenPauseExpired d) s = execReopenPauseExpired d s := rfl
theorem exec_emergencyHandle (d : Doorway) :
    exec (.emergencyHandle d) s = execEmergencyHandle d s := rfl
theorem exec_handleResetAllowed (d : Doorway) :
    exec (.handleResetAllowed d) s = execHandleResetAllowed d s := rfl
theorem exec_isolationKeyOn (d : Doorway) :
    exec (.isolationKeyOn d) s = execIsolationKeyOn d s := rfl
theorem exec_isolationKeyOff (d : Doorway) :
    exec (.isolationKeyOff d) s = execIsolationKeyOff d s := rfl
theorem exec_proofLost (d : Doorway) :
    exec (.proofLost d) s = execProofLost d s := rfl
theorem exec_releaseLost (d : Doorway) :
    exec (.releaseLost d) s = execReleaseLost d s := rfl
theorem exec_zsLostOpen (d : Doorway) :
    exec (.zsLostOpen d) s = execZsLostOpen d s := rfl
theorem exec_releaseEdge (d : Doorway) :
    exec (.releaseEdge d) s = execReleaseEdge d s := rfl
theorem exec_pushbuttonPress (d : Doorway) :
    exec (.pushbuttonPress d) s = execPushbuttonPress d s := rfl
theorem exec_closeTrainlineEdge :
    exec (.closeTrainlineEdge) s = execCloseTrainlineEdge s := rfl
theorem exec_evacuationInput :
    exec (.evacuationInput) s = execEvacuationInput s := rfl
theorem exec_loopCloseDelay (core : CoreId) :
    exec (.loopCloseDelay core) s = execLoopCloseDelay core s := rfl
theorem exec_loopDisagreement :
    exec (.loopDisagreement) s = execLoopDisagreement s := rfl
theorem exec_tlTakeover (d : Doorway) :
    exec (.tlTakeover d) s = execTlTakeover d s := rfl
theorem exec_p2Timeout :
    exec (.p2Timeout) s = execP2Timeout s := rfl
theorem exec_pcieLinkChange (p : HostPort) (core : CoreId) (isUp : Bool) (gen : BitVec 3) :
    exec (.pcieLinkChange p core isUp gen) s = execPcieLinkChange p core isUp gen s := rfl
theorem exec_opDoorOpen (r : Req) (d : Doorway) :
    exec (.opDoorOpen r d) s = execOpDoorOpen r d s := rfl
theorem exec_opDoorClose (r : Req) (d : Doorway) :
    exec (.opDoorClose r d) s = execOpDoorClose r d s := rfl
theorem exec_opDoorStop (r : Req) (d : Doorway) :
    exec (.opDoorStop r d) s = execOpDoorStop r d s := rfl
theorem exec_opDoorEvacOpen (r : Req) (d : Doorway) :
    exec (.opDoorEvacOpen r d) s = execOpDoorEvacOpen r d s := rfl
theorem exec_opDoorReset (r : Req) (d : Doorway) :
    exec (.opDoorReset r d) s = execOpDoorReset r d s := rfl
theorem exec_opStepRequest (r : Req) (d : Doorway) :
    exec (.opStepRequest r d) s = execOpStepRequest r d s := rfl
theorem exec_opDoorObstacle (r : Req) (d : Doorway) :
    exec (.opDoorObstacle r d) s = execOpDoorObstacle r d s := rfl
theorem exec_opDoorStatus (r : Req) (d : Doorway) :
    exec (.opDoorStatus r d) s = execOpDoorStatus r d s := rfl
theorem exec_opClaim (r : Req) (code : BitVec 32) :
    exec (.opClaim r code) s = execOpClaim r code s := rfl
theorem exec_opReleaseClaims (r : Req) (codes : List (BitVec 32)) :
    exec (.opReleaseClaims r codes) s = execOpReleaseClaims r codes s := rfl
theorem exec_moveEnd (a : Axis) :
    exec (.moveEnd a) s = execMoveEnd a s := rfl
theorem exec_standstillSettle (a : Axis) :
    exec (.standstillSettle a) s = execStandstillSettle a s := rfl
theorem exec_wakeRampEnd (a : Axis) :
    exec (.wakeRampEnd a) s = execWakeRampEnd a s := rfl
theorem exec_limitReached (a : Axis) (b : Bool) :
    exec (.limitReached a b) s = execLimitReached a b s := rfl
theorem exec_opAxisMove (r : Req) (a : Nat) (pos : Int) :
    exec (.opAxisMove r a pos) s = execOpAxisMove r a pos s := rfl
theorem exec_opAxisHalt (r : Req) (a : Nat) :
    exec (.opAxisHalt r a) s = execOpAxisHalt r a s := rfl
theorem exec_opAxisReference (r : Req) (a : Nat) :
    exec (.opAxisReference r a) s = execOpAxisReference r a s := rfl
theorem exec_opAxisSetPosition (r : Req) (a : Nat) (pos : Int) :
    exec (.opAxisSetPosition r a pos) s = execOpAxisSetPosition r a pos s := rfl
theorem exec_opSegTableLoad (r : Req) (a number count : Nat) (x0 : Int) :
    exec (.opSegTableLoad r a number count x0) s = execOpSegTableLoad r a number count x0 s := rfl
theorem exec_opMstepTableLoad (r : Req) (a : Nat) :
    exec (.opMstepTableLoad r a) s = execOpMstepTableLoad r a s := rfl
theorem exec_refSwitchMet (a : Axis) :
    exec (.refSwitchMet a) s = execRefSwitchMet a s := rfl
theorem exec_refLatch (a : Axis) (latchCount : BitVec 32) :
    exec (.refLatch a latchCount) s = execRefLatch a latchCount s := rfl
theorem exec_refSearchFail (a : Axis) :
    exec (.refSearchFail a) s = execRefSearchFail a s := rfl
theorem exec_refLatchFail (a : Axis) :
    exec (.refLatchFail a) s = execRefLatchFail a s := rfl
theorem exec_encDirection (a : Axis) :
    exec (.encDirection a) s = execEncDirection a s := rfl
theorem exec_refLockTimeout (a : Axis) :
    exec (.refLockTimeout a) s = execRefLockTimeout a s := rfl
theorem exec_overcurrentTrip (m : Axis) (phaseB : Bool) :
    exec (.overcurrentTrip m phaseB) s = execOvercurrentTrip m phaseB s := rfl
theorem exec_peakLimit (m : Axis) :
    exec (.peakLimit m) s = execPeakLimit m s := rfl
theorem exec_busRangeFault (m : Axis) (mV : Nat) :
    exec (.busRangeFault m mV) s = execBusRangeFault m mV s := rfl
theorem exec_busRangeClear (m : Axis) :
    exec (.busRangeClear m) s = execBusRangeClear m s := rfl
theorem exec_encFault (m : Axis) (reason : Nat) :
    exec (.encFault m reason) s = execEncFault m reason s := rfl
theorem exec_motorTemp (m : Axis) (ohm : Nat) :
    exec (.motorTemp m ohm) s = execMotorTemp m ohm s := rfl
theorem exec_heatsink (m : Axis) (celsius : Int) :
    exec (.heatsink m celsius) s = execHeatsink m celsius s := rfl
theorem exec_resistanceCheck (m : Axis) (phase : Vector CheckPhase 2) :
    exec (.resistanceCheck m phase) s = execResistanceCheck m phase s := rfl
theorem exec_axConfigMismatch (m : Axis) :
    exec (.axConfigMismatch m) s = execAxConfigMismatch m s := rfl
theorem exec_lossState (m : Axis) :
    exec (.lossState m) s = execLossState m s := rfl
theorem exec_following (a : Axis) :
    exec (.following a) s = execFollowing a s := rfl
theorem exec_laneLost (m : Axis) :
    exec (.laneLost m) s = execLaneLost m s := rfl
theorem exec_laneLeft (m : Axis) :
    exec (.laneLeft m) s = execLaneLeft m s := rfl
theorem exec_laneRejoin (m : Axis) :
    exec (.laneRejoin m) s = execLaneRejoin m s := rfl
theorem exec_twinJoined (m : Axis) :
    exec (.twinJoined m) s = execTwinJoined m s := rfl
theorem exec_laneDisagree (a : Axis) (encoders : Bool) (difference : Nat) :
    exec (.laneDisagree a encoders difference) s = execLaneDisagree a encoders difference s := rfl
theorem exec_obObstacle (d : Doorway) (src : ObSource) (sampleToTick : Nat) :
    exec (.obObstacle d src sampleToTick) s = execObObstacle d src sampleToTick s := rfl
theorem exec_edgeFault (d : Doorway) (edge : EdgeId) (fault : Nat) :
    exec (.edgeFault d edge fault) s = execEdgeFault d edge fault s := rfl
theorem exec_edgeCleared (d : Doorway) (edge : EdgeId) :
    exec (.edgeCleared d edge) s = execEdgeCleared d edge s := rfl
theorem exec_gridFault (d : Doorway) (fault : Nat) :
    exec (.gridFault d fault) s = execGridFault d fault s := rfl
theorem exec_stepObstacle (d : Doorway) (following : Bool) :
    exec (.stepObstacle d following) s = execStepObstacle d following s := rfl
theorem exec_relayWeld (core : CoreId) (relay : Fin 2) :
    exec (.relayWeld core relay) s = execRelayWeld core relay s := rfl
theorem exec_journalGapRecord :
    exec (.journalGapRecord) s = execJournalGapRecord s := rfl
theorem exec_groupSupplyChange (g : Group) (deciVolt : Int) :
    exec (.groupSupplyChange g deciVolt) s = execGroupSupplyChange g deciVolt s := rfl
theorem exec_filterConfirm (c : Chan) (active : Bool) :
    exec (.filterConfirm c active) s = execFilterConfirm c active s := rfl
theorem exec_inputFault (c : Chan) (kind : InFault) (data : Nat) :
    exec (.inputFault c kind data) s = execInputFault c kind data s := rfl
theorem exec_inputFaultClear (c : Chan) :
    exec (.inputFaultClear c) s = execInputFaultClear c s := rfl
theorem exec_bandResolve (c : Chan) (data : Nat) :
    exec (.bandResolve c data) s = execBandResolve c data s := rfl
theorem exec_bandHold (c : Chan) (data : Nat) :
    exec (.bandHold c data) s = execBandHold c data s := rfl
theorem exec_outOverload (c : Chan) :
    exec (.outOverload c) s = execOutOverload c s := rfl
theorem exec_outOvertemp (c : Chan) :
    exec (.outOvertemp c) s = execOutOvertemp c s := rfl
theorem exec_outOpenOn (c : Chan) (mA : Nat) :
    exec (.outOpenOn c mA) s = execOutOpenOn c mA s := rfl
theorem exec_outOpenOff (c : Chan) (deciVolt : Nat) :
    exec (.outOpenOff c deciVolt) s = execOutOpenOff c deciVolt s := rfl
theorem exec_outShortSupply (c : Chan) (deciVolt : Nat) :
    exec (.outShortSupply c deciVolt) s = execOutShortSupply c deciVolt s := rfl
theorem exec_rearmDue (load : Bool) (c : Nat) :
    exec (.rearmDue load c) s = execRearmDue load c s := rfl
theorem exec_parallelFault (c member : Chan) (mA : Nat) :
    exec (.parallelFault c member mA) s = execParallelFault c member mA s := rfl
theorem exec_barrierFrame (m : Fin 2) (good : Bool) :
    exec (.barrierFrame m good) s = execBarrierFrame m good s := rfl
theorem exec_barrierCmdFrame (m : Fin 2) (good : Bool) :
    exec (.barrierCmdFrame m good) s = execBarrierCmdFrame m good s := rfl
theorem exec_fiSafeState (m : Fin 2) (barrier : Bool) :
    exec (.fiSafeState m barrier) s = execFiSafeState m barrier s := rfl
theorem exec_fiConfigApply (m : Fin 2) :
    exec (.fiConfigApply m) s = execFiConfigApply m s := rfl
theorem exec_fiConfigMismatch (m : Fin 2) :
    exec (.fiConfigMismatch m) s = execFiConfigMismatch m s := rfl
theorem exec_loadSupplyChange (deciVolt : Int) :
    exec (.loadSupplyChange deciVolt) s = execLoadSupplyChange deciVolt s := rfl
theorem exec_lsOverload (c : LoadCh) (why : Nat) :
    exec (.lsOverload c why) s = execLsOverload c why s := rfl
theorem exec_inrushWindowEnd (c : LoadCh) (inLimit : Bool) :
    exec (.inrushWindowEnd c inLimit) s = execInrushWindowEnd c inLimit s := rfl
theorem exec_wireModelUpdate (mA : Vector Nat 12) :
    exec (.wireModelUpdate mA) s = execWireModelUpdate mA s := rfl
theorem exec_lsOvertemp (c : LoadCh) (celsius : Nat) :
    exec (.lsOvertemp c celsius) s = execLsOvertemp c celsius s := rfl
theorem exec_clampPulse (c : LoadCh) (mJ avg : Nat) :
    exec (.clampPulse c mJ avg) s = execClampPulse c mJ avg s := rfl
theorem exec_clampHoldEnd (c : LoadCh) (avg : Nat) :
    exec (.clampHoldEnd c avg) s = execClampHoldEnd c avg s := rfl
theorem exec_lsOpenOn (c : LoadCh) (mA : Nat) :
    exec (.lsOpenOn c mA) s = execLsOpenOn c mA s := rfl
theorem exec_lsOpenOff (c : LoadCh) (deciVolt : Nat) :
    exec (.lsOpenOff c deciVolt) s = execLsOpenOff c deciVolt s := rfl
theorem exec_lsShortSupply (c : LoadCh) (deciVolt : Nat) :
    exec (.lsShortSupply c deciVolt) s = execLsShortSupply c deciVolt s := rfl
theorem exec_opLoadSet (r : Req) (mask state : BitVec 16) :
    exec (.opLoadSet r mask state) s = execOpLoadSet r mask state s := rfl
theorem exec_opLoadRearm (r : Req) (mask : BitVec 16) :
    exec (.opLoadRearm r mask) s = execOpLoadRearm r mask s := rfl
theorem exec_lsSafeState :
    exec (.lsSafeState) s = execLsSafeState s := rfl
theorem exec_lsConfigApply :
    exec (.lsConfigApply) s = execLsConfigApply s := rfl
theorem exec_lsConfigMismatch :
    exec (.lsConfigMismatch) s = execLsConfigMismatch s := rfl
theorem exec_ls24OvervoltSwitch (deciVolt : Nat) :
    exec (.ls24OvervoltSwitch deciVolt) s = execLs24OvervoltSwitch deciVolt s := rfl
theorem exec_lsDiagCleared (c : LoadCh) :
    exec (.lsDiagCleared c) s = execLsDiagCleared c s := rfl
theorem exec_powerModuleEnergised (p : Fin 2) (deciVolt : Int) :
    exec (.powerModuleEnergised p deciVolt) s = execPowerModuleEnergised p deciVolt s := rfl
theorem exec_feedCrossing (p : Fin 2) (deciVolt : Int) :
    exec (.feedCrossing p deciVolt) s = execFeedCrossing p deciVolt s := rfl
theorem exec_feedQualified (p : Fin 2) :
    exec (.feedQualified p) s = execFeedQualified p s := rfl
theorem exec_feedInterruptEnd (p : Fin 2) :
    exec (.feedInterruptEnd p) s = execFeedInterruptEnd p s := rfl
theorem exec_shareFault (share0 share1 : Nat) :
    exec (.shareFault share0 share1) s = execShareFault share0 share1 s := rfl
theorem exec_suOverload (p : Fin 2) (pOut rail : Nat) :
    exec (.suOverload p pOut rail) s = execSuOverload p pOut rail s := rfl
theorem exec_lossRideExpired :
    exec (.lossRideExpired) s = execLossRideExpired s := rfl
theorem exec_shutdownStepEnd :
    exec (.shutdownStepEnd) s = execShutdownStepEnd s := rfl
theorem exec_shutdownCap :
    exec (.shutdownCap) s = execShutdownCap s := rfl
theorem exec_hostHoldExpired :
    exec (.hostHoldExpired) s = execHostHoldExpired s := rfl
theorem exec_fastRestart :
    exec (.fastRestart) s = execFastRestart s := rfl
theorem exec_fullStart :
    exec (.fullStart) s = execFullStart s := rfl
theorem exec_svcAttach (core : CoreId) (pd : Bool) (offers : List (Nat × Nat)) (typeC : Nat) :
    exec (.svcAttach core pd offers typeC) s = execSvcAttach core pd offers typeC s := rfl
theorem exec_svcTransitionAccept (core : CoreId) (volts : Nat) :
    exec (.svcTransitionAccept core volts) s = execSvcTransitionAccept core volts s := rfl
theorem exec_svcPsRdy (core : CoreId) :
    exec (.svcPsRdy core) s = execSvcPsRdy core s := rfl
theorem exec_svcLoadsReturn (core : CoreId) :
    exec (.svcLoadsReturn core) s = execSvcLoadsReturn core s := rfl
theorem exec_svcBrownout (core : CoreId) :
    exec (.svcBrownout core) s = execSvcBrownout core s := rfl
theorem exec_svcDetach (core : CoreId) :
    exec (.svcDetach core) s = execSvcDetach core s := rfl
theorem exec_pdHardReset (core : CoreId) :
    exec (.pdHardReset core) s = execPdHardReset core s := rfl
theorem exec_cellFault (cell kind value : Nat) :
    exec (.cellFault cell kind value) s = execCellFault cell kind value s := rfl
theorem exec_cellTemp (cell : Nat) (celsius : Int) :
    exec (.cellTemp cell celsius) s = execCellTemp cell celsius s := rfl
theorem exec_boostLimit (budget : Bool) :
    exec (.boostLimit budget) s = execBoostLimit budget s := rfl
theorem exec_emLossTimeout :
    exec (.emLossTimeout) s = execEmLossTimeout s := rfl
theorem exec_reserveFloor :
    exec (.reserveFloor) s = execReserveFloor s := rfl
theorem exec_lastAction :
    exec (.lastAction) s = execLastAction s := rfl
theorem exec_restWindowStart :
    exec (.restWindowStart) s = execRestWindowStart s := rfl
theorem exec_restWindowDone (c esr : Nat) :
    exec (.restWindowDone c esr) s = execRestWindowDone c esr s := rfl
theorem exec_windowAborted (cause : Nat) :
    exec (.windowAborted cause) s = execWindowAborted cause s := rfl
theorem exec_estFitAfter :
    exec (.estFitAfter) s = execEstFitAfter s := rfl
theorem exec_estStaleAfter :
    exec (.estStaleAfter) s = execEstStaleAfter s := rfl
theorem exec_restWanted :
    exec (.restWanted) s = execRestWanted s := rfl
theorem exec_opRestWindow (r : Req) :
    exec (.opRestWindow r) s = execOpRestWindow r s := rfl
theorem exec_boostCutoff :
    exec (.boostCutoff) s = execBoostCutoff s := rfl
theorem exec_opWait (r : Req) (target : Nat) (alarm : Nat) :
    exec (.opWait r target alarm) s = execOpWait r target alarm s := rfl
theorem exec_pwrModeConsent (p : HostPort) (core : CoreId) (v : BitVec 32) :
    exec (.pwrModeConsent p core v) s = execPwrModeConsent p core v s := rfl
theorem exec_pwrWakeCauseClear (p : HostPort) (core : CoreId) (v : BitVec 32) :
    exec (.pwrWakeCauseClear p core v) s = execPwrWakeCauseClear p core v s := rfl
theorem exec_tlConsent :
    exec (.tlConsent) s = execTlConsent s := rfl
theorem exec_entryStepEnd :
    exec (.entryStepEnd) s = execEntryStepEnd s := rfl
theorem exec_entryAborted (cause : Nat) :
    exec (.entryAborted cause) s = execEntryAborted cause s := rfl
theorem exec_entryWindowEnd (wk : Byte) :
    exec (.entryWindowEnd wk) s = execEntryWindowEnd wk s := rfl
theorem exec_wakeEvent (causes : BitVec 32) (retentionFailed : Bool) (slept : Nat) :
    exec (.wakeEvent causes retentionFailed slept) s = execWakeEvent causes retentionFailed slept s := rfl
theorem exec_wakeFrame (f : CanFrame) (slept : Nat) :
    exec (.wakeFrame f slept) s = execWakeFrame f slept s := rfl
theorem exec_wakeTimetableRow (ready : Bool) :
    exec (.wakeTimetableRow ready) s = execWakeTimetableRow ready s := rfl
theorem exec_wakeFailRepeat :
    exec (.wakeFailRepeat) s = execWakeFailRepeat s := rfl
theorem exec_opReleaseHold (r : Req) :
    exec (.opReleaseHold r) s = execOpReleaseHold r s := rfl
theorem exec_holdAutoRelease :
    exec (.holdAutoRelease) s = execHoldAutoRelease s := rfl
theorem exec_listenTimeout (core : CoreId) :
    exec (.listenTimeout core) s = execListenTimeout core s := rfl
theorem exec_dualActive (how : Nat) :
    exec (.dualActive how) s = execDualActive how s := rfl
theorem exec_mirrorFrame (frame : List Byte) :
    exec (.mirrorFrame frame) s = execMirrorFrame frame s := rfl
theorem exec_returnFrame (frame : List Byte) :
    exec (.returnFrame frame) s = execReturnFrame frame s := rfl
theorem exec_standbyAckLost :
    exec (.standbyAckLost) s = execStandbyAckLost s := rfl
theorem exec_standbyInStep :
    exec (.standbyInStep) s = execStandbyInStep s := rfl
theorem exec_coreFault (core : CoreId) (cause : Nat) :
    exec (.coreFault core cause) s = execCoreFault core cause s := rfl
theorem exec_chargePumpExpired (core : CoreId) :
    exec (.chargePumpExpired core) s = execChargePumpExpired core s := rfl
theorem exec_takeover :
    exec (.takeover) s = execTakeover s := rfl
theorem exec_tickFault :
    exec (.tickFault) s = execTickFault s := rfl
theorem exec_mirrorLost :
    exec (.mirrorLost) s = execMirrorLost s := rfl
theorem exec_plannedHandover (acknowledged : Bool) :
    exec (.plannedHandover acknowledged) s = execPlannedHandover acknowledged s := rfl
theorem exec_coverageHandover :
    exec (.coverageHandover) s = execCoverageHandover s := rfl
theorem exec_opCoreHandover (r : Req) :
    exec (.opCoreHandover r) s = execOpCoreHandover r s := rfl
theorem exec_catchupDone :
    exec (.catchupDone) s = execCatchupDone s := rfl
theorem exec_coreRestart (core : CoreId) :
    exec (.coreRestart core) s = execCoreRestart core s := rfl
theorem exec_hostLinkGrace :
    exec (.hostLinkGrace) s = execHostLinkGrace s := rfl
theorem exec_hostPowerTrip (p : HostPort) (mA : Nat) :
    exec (.hostPowerTrip p mA) s = execHostPowerTrip p mA s := rfl
theorem exec_sqTailDoorbell (p : HostPort) (core : CoreId) (q : Fin 16) (t : BitVec 32) :
    exec (.sqTailDoorbell p core q t) s = execSqTailDoorbell p core q t s := rfl
theorem exec_cqHeadDoorbell (p : HostPort) (core : CoreId) (q : Fin 16) (h : BitVec 32) :
    exec (.cqHeadDoorbell p core q h) s = execCqHeadDoorbell p core q h s := rfl
theorem exec_evqHeadDoorbell (p : HostPort) (core : CoreId) (h : BitVec 32) :
    exec (.evqHeadDoorbell p core h) s = execEvqHeadDoorbell p core h s := rfl
theorem exec_shadowPoll (p : HostPort) (area : Option (List Byte)) :
    exec (.shadowPoll p area) s = execShadowPoll p area s := rfl
theorem exec_ringCfgWrite (p : HostPort) (core : CoreId) (evq : Bool) (v : BitVec 32) :
    exec (.ringCfgWrite p core evq v) s = execRingCfgWrite p core evq v s := rfl
theorem exec_portEnable (p : HostPort) (core : CoreId) (v : BitVec 32) :
    exec (.portEnable p core v) s = execPortEnable p core v s := rfl
theorem exec_portDisable (p : HostPort) (core : CoreId) (v : BitVec 32) :
    exec (.portDisable p core v) s = execPortDisable p core v s := rfl
theorem exec_registerWrite (p : HostPort) (core : CoreId) (offset : BitVec 12) (v : BitVec 32) :
    exec (.registerWrite p core offset v) s = execRegisterWrite p core offset v s := rfl
theorem exec_descriptorFetch (p : PortId) (q : Fin 16) (desc : Option (List Byte)) (buf : Option (List Byte)) :
    exec (.descriptorFetch p q desc buf) s = execDescriptorFetch p q desc buf s := rfl
theorem exec_laybyDrain (p : PortId) :
    exec (.laybyDrain p) s = execLaybyDrain p s := rfl
theorem exec_eventsDroppedReport (p : PortId) :
    exec (.eventsDroppedReport p) s = execEventsDroppedReport p s := rfl
theorem exec_opCompletionReplay (r : Req) (first : BitVec 32) (count : Nat) (ring : Nat) :
    exec (.opCompletionReplay r first count ring) s = execOpCompletionReplay r first count ring s := rfl
theorem exec_msixMessage (p : HostPort) (ring : Option (Fin 16)) :
    exec (.msixMessage p ring) s = execMsixMessage p ring s := rfl
theorem exec_dmaError (p : HostPort) (kind : DmaKind) :
    exec (.dmaError p kind) s = execDmaError p kind s := rfl
theorem exec_opNop (r : Req) :
    exec (.opNop r) s = execOpNop r s := rfl
theorem exec_opHeartbeat (r : Req) :
    exec (.opHeartbeat r) s = execOpHeartbeat r s := rfl
theorem exec_opParamRead (r : Req) (first count : Nat) :
    exec (.opParamRead r first count) s = execOpParamRead r first count s := rfl
theorem exec_opParamWrite (r : Req) (entries : List (Nat × Nat)) :
    exec (.opParamWrite r entries) s = execOpParamWrite r entries s := rfl
theorem exec_opParamSetLoad (r : Req) :
    exec (.opParamSetLoad r) s = execOpParamSetLoad r s := rfl
theorem exec_opParamSetRead (r : Req) :
    exec (.opParamSetRead r) s = execOpParamSetRead r s := rfl
theorem exec_opIoRead (r : Req) :
    exec (.opIoRead r) s = execOpIoRead r s := rfl
theorem exec_opFioSet (r : Req) (mask state : BitVec 64) :
    exec (.opFioSet r mask state) s = execOpFioSet r mask state s := rfl
theorem exec_canFrameReceived (bus : Bus) (f : CanFrame) :
    exec (.canFrameReceived bus f) s = execCanFrameReceived bus f s := rfl
theorem exec_protocolException (bus : Bus) :
    exec (.protocolException bus) s = execProtocolException bus s := rfl
theorem exec_busStateChange (core : CoreId) (bus : Bus) (new : Nat) (tec rec : Nat) :
    exec (.busStateChange core bus new tec rec) s = execBusStateChange core bus new tec rec s := rfl
theorem exec_mbErrorRate (bus : Bus) :
    exec (.mbErrorRate bus) s = execMbErrorRate bus s := rfl
theorem exec_busoffDelayExpired (bus : Bus) :
    exec (.busoffDelayExpired bus) s = execBusoffDelayExpired bus s := rfl
theorem exec_rateCandidateTimeout (bus : Bus) :
    exec (.rateCandidateTimeout bus) s = execRateCandidateTimeout bus s := rfl
theorem exec_rateFail (bus : Bus) :
    exec (.rateFail bus) s = execRateFail bus s := rfl
theorem exec_opCanTx (r : Req) (bus : Nat) (fmt : Byte) (len : Nat) (id : BitVec 32) (sdt vcid : Byte) (af : BitVec 32) (data : List Byte) :
    exec (.opCanTx r bus fmt len id sdt vcid af data) s = execOpCanTx r bus fmt len id sdt vcid af data s := rfl
theorem exec_canTxDone (bus : Bus) (index : Nat) (stamp : BitVec 48) (delay : Option Nat) :
    exec (.canTxDone bus index stamp delay) s = execCanTxDone bus index stamp delay s := rfl
theorem exec_opCanTxAbort (r : Req) (hseq : BitVec 32) :
    exec (.opCanTxAbort r hseq) s = execOpCanTxAbort r hseq s := rfl
theorem exec_opCanRxRead (r : Req) (max min wait : Nat) (fromOldest : Bool) :
    exec (.opCanRxRead r max min wait fromOldest) s = execOpCanRxRead r max min wait fromOldest s := rfl
theorem exec_rxReadWaitExpired (p : RxPortId) :
    exec (.rxReadWaitExpired p) s = execRxReadWaitExpired p s := rfl
theorem exec_opCanRxAck (r : Req) (rseq : BitVec 32) :
    exec (.opCanRxAck r rseq) s = execOpCanRxAck r rseq s := rfl
theorem exec_rxDroppedReport (p : RxPortId) :
    exec (.rxDroppedReport p) s = execRxDroppedReport p s := rfl
theorem exec_opCanFilterSet (r : Req) (index : Nat) (bits : Byte) (id mask : BitVec 32) (sdt sdtMask vcid vcidMask : Byte) :
    exec (.opCanFilterSet r index bits id mask sdt sdtMask vcid vcidMask) s = execOpCanFilterSet r index bits id mask sdt sdtMask vcid vcidMask s := rfl
theorem exec_opCanStatus (r : Req) (bus : Nat) :
    exec (.opCanStatus r bus) s = execOpCanStatus r bus s := rfl
theorem exec_opCanRecover (r : Req) (bus : Nat) :
    exec (.opCanRecover r bus) s = execOpCanRecover r bus s := rfl
theorem exec_p2DescriptorFrame (id : BitVec 29) (xl : Bool) (stamp : BitVec 48) (data : List Byte) :
    exec (.p2DescriptorFrame id xl stamp data) s = execP2DescriptorFrame id xl stamp data s := rfl
theorem exec_p2StatusPeriod :
    exec (.p2StatusPeriod) s = execP2StatusPeriod s := rfl
theorem exec_fallbackHeartbeat :
    exec (.fallbackHeartbeat) s = execFallbackHeartbeat s := rfl
theorem exec_doorCmd (id : BitVec 29) (data : List Byte) :
    exec (.doorCmd id data) s = execDoorCmd id data s := rfl
theorem exec_statusReq (id : BitVec 29) (data : List Byte) :
    exec (.statusReq id data) s = execStatusReq id data s := rfl
theorem exec_canBusError (bus : Bus) (index : Option Nat) (kind tec rec : Nat) :
    exec (.canBusError bus index kind tec rec) s = execCanBusError bus index kind tec rec s := rfl
theorem exec_panelAddrPoll (pins : BitVec 4) :
    exec (.panelAddrPoll pins) s = execPanelAddrPoll pins s := rfl
theorem exec_panelWriteTransfer (bytes : List Byte) :
    exec (.panelWriteTransfer bytes) s = execPanelWriteTransfer bytes s := rfl
theorem exec_panelReadTransfer (count : Nat) (stop : Bool) :
    exec (.panelReadTransfer count stop) s = execPanelReadTransfer count stop s := rfl
theorem exec_accessReq (d : Doorway) :
    exec (.accessReq d) s = execAccessReq d s := rfl
theorem exec_panelObstacle (d : Doorway) :
    exec (.panelObstacle d) s = execPanelObstacle d s := rfl
theorem exec_intercomInd (d : Doorway) (state : Nat) :
    exec (.intercomInd d state) s = execIntercomInd d state s := rfl
theorem exec_intercomBlink (d : Doorway) :
    exec (.intercomBlink d) s = execIntercomBlink d s := rfl
theorem exec_stretchLimit (cmd : List Byte) :
    exec (.stretchLimit cmd) s = execStretchLimit cmd s := rfl
theorem exec_pbBusTimeout :
    exec (.pbBusTimeout) s = execPbBusTimeout s := rfl
theorem exec_pbBusStuck (lines : Nat) :
    exec (.pbBusStuck lines) s = execPbBusStuck lines s := rfl
theorem exec_pbBusFree :
    exec (.pbBusFree) s = execPbBusFree s := rfl
theorem exec_panelRequest :
    exec (.panelRequest) s = execPanelRequest s := rfl
theorem exec_requestCollision :
    exec (.requestCollision) s = execRequestCollision s := rfl
theorem exec_timeFrame (stamp : BitVec 48) (data : List Byte) :
    exec (.timeFrame stamp data) s = execTimeFrame stamp data s := rfl
theorem exec_tpiEdge (stamp : BitVec 48) (width : Nat) :
    exec (.tpiEdge stamp width) s = execTpiEdge stamp width s := rfl
theorem exec_sourceLoss (src : TimeSrcId) :
    exec (.sourceLoss src) s = execSourceLoss src s := rfl
theorem exec_hostRefreshExpired :
    exec (.hostRefreshExpired) s = execHostRefreshExpired s := rfl
theorem exec_opTimeSet (r : Req) (tai : Nat) (tick : BitVec 32) (err : Nat) (taiUtc : Nat) :
    exec (.opTimeSet r tai tick err taiUtc) s = execOpTimeSet r tai tick err taiUtc s := rfl
theorem exec_offsetMeasure :
    exec (.offsetMeasure) s = execOffsetMeasure s := rfl
theorem exec_timeStep :
    exec (.timeStep) s = execTimeStep s := rfl
theorem exec_tpoPulse :
    exec (.tpoPulse) s = execTpoPulse s := rfl
theorem exec_schedExec (p : PortId) (hseq : BitVec 32) :
    exec (.schedExec p hseq) s = execSchedExec p hseq s := rfl
theorem exec_opSchedCancel (r : Req) (hseq : BitVec 32) :
    exec (.opSchedCancel r hseq) s = execOpSchedCancel r hseq s := rfl
theorem exec_opTimeRead (r : Req) :
    exec (.opTimeRead r) s = execOpTimeRead r s := rfl
theorem exec_priorityTailProgram (core : CoreId) :
    exec (.priorityTailProgram core) s = execPriorityTailProgram core s := rfl
theorem exec_ordinaryWaitExpired (core : CoreId) :
    exec (.ordinaryWaitExpired core) s = execOrdinaryWaitExpired core s := rfl
theorem exec_journalProgramDone (core : CoreId) (good : Bool) (page plane : Nat) (blockBad : Bool) :
    exec (.journalProgramDone core good page plane blockBad) s = execJournalProgramDone core good page plane blockBad s := rfl
theorem exec_opJournalRead (r : Req) (reader mode area typeMask doorId count : Nat) (start : Nat) (wait : Nat) (bad : List Nat) :
    exec (.opJournalRead r reader mode area typeMask doorId count start wait bad) s = execOpJournalRead r reader mode area typeMask doorId count start wait bad s := rfl
theorem exec_journalReadWaitExpired (reader : Fin 4) :
    exec (.journalReadWaitExpired reader) s = execJournalReadWaitExpired reader s := rfl
theorem exec_opJournalStatus (r : Req) :
    exec (.opJournalStatus r) s = execOpJournalStatus r s := rfl
theorem exec_opJournalRetain (r : Req) (first count : Nat) :
    exec (.opJournalRetain r first count) s = execOpJournalRetain r first count s := rfl
theorem exec_retainCopyDone :
    exec (.retainCopyDone) s = execRetainCopyDone s := rfl
theorem exec_opJournalRelease (r : Req) :
    exec (.opJournalRelease r) s = execOpJournalRelease r s := rfl
theorem exec_opJournalNote (r : Req) (code : BitVec 16) (text : List Byte) :
    exec (.opJournalNote r code text) s = execOpJournalNote r code text s := rfl
theorem exec_opUpdateBegin (r : Req) :
    exec (.opUpdateBegin r) s = execOpUpdateBegin r s := rfl
theorem exec_opUpdateChunk (r : Req) (index : Nat) (hash : List Byte) :
    exec (.opUpdateChunk r index hash) s = execOpUpdateChunk r index hash s := rfl
theorem exec_opUpdateVerify (r : Req) (kind : Nat) :
    exec (.opUpdateVerify r kind) s = execOpUpdateVerify r kind s := rfl
theorem exec_opUpdateActivate (r : Req) (kind : Nat) (mask : BitVec 16) :
    exec (.opUpdateActivate r kind mask) s = execOpUpdateActivate r kind mask s := rfl
theorem exec_slotActivationStart (slot : Slot) :
    exec (.slotActivationStart slot) s = execSlotActivationStart slot s := rfl
theorem exec_memoryFrame (slot : Slot) (core : CoreId) (frame : List Byte) :
    exec (.memoryFrame slot core frame) s = execMemoryFrame slot core frame s := rfl
theorem exec_bankWriteDone (slot : Slot) (good : Bool) :
    exec (.bankWriteDone slot good) s = execBankWriteDone slot good s := rfl
theorem exec_moduleBoot (slot : Slot) :
    exec (.moduleBoot slot) s = execModuleBoot slot s := rfl
theorem exec_opUpdateConfirm (r : Req) (mask : BitVec 16) :
    exec (.opUpdateConfirm r mask) s = execOpUpdateConfirm r mask s := rfl
theorem exec_autoConfirm (slot : Slot) :
    exec (.autoConfirm slot) s = execAutoConfirm slot s := rfl
theorem exec_trialTimeout (slot : Slot) :
    exec (.trialTimeout slot) s = execTrialTimeout slot s := rfl
theorem exec_opUpdateAbort (r : Req) (kind : Nat) (mask : BitVec 16) :
    exec (.opUpdateAbort r kind mask) s = execOpUpdateAbort r kind mask s := rfl
theorem exec_opUpdateStatus (r : Req) :
    exec (.opUpdateStatus r) s = execOpUpdateStatus r s := rfl
theorem exec_opKeyProvision (r : Req) :
    exec (.opKeyProvision r) s = execOpKeyProvision r s := rfl
theorem exec_usbContainer (core : CoreId) (bytes : List Byte) :
    exec (.usbContainer core bytes) s = execUsbContainer core bytes s := rfl
theorem exec_opSessionChallenge (r : Req) (level : Nat) :
    exec (.opSessionChallenge r level) s = execOpSessionChallenge r level s := rfl
theorem exec_opSessionOpen (r : Req) (level : Nat) (response : BitVec 40) :
    exec (.opSessionOpen r level response) s = execOpSessionOpen r level response s := rfl
theorem exec_opSessionClose (r : Req) :
    exec (.opSessionClose r) s = execOpSessionClose r s := rfl
theorem exec_sessionIdle (core : CoreId) :
    exec (.sessionIdle core) s = execSessionIdle core s := rfl
theorem exec_lockoutEnd (core : CoreId) :
    exec (.lockoutEnd core) s = execLockoutEnd core s := rfl

end Sys2Proof.Machine
end

