-- ==== Sys2Proof/Laws/Keeps.lean ====
section
/-!
SUPPORT. What an operation leaves alone. `KM m s t` says that every part of the state whose bit of the mask
`m` is clear is the same in `t` as in `s`; the files `KeepsOps1` to `KeepsOps4` say it of every operation of
the model, and `KeepsExec` of every command's meaning.
-/

set_option linter.all false

namespace Sys2Proof.Machine
/-- The bit of a part in a mask. -/
def Part.ix : Part → Nat
  | .now => 0 | .tick => 1 | .free => 2 | .params => 3 | .paramsValid => 4
  | .slots => 5 | .lamps => 6 | .tiers => 7 | .door => 8 | .claims => 9 | .requests => 10 | .safePairs => 11
  | .relays => 12 | .trainlines => 13 | .obst => 14 | .axes => 15 | .axMods => 16 | .field => 17 | .load => 18
  | .supply => 19 | .energy => 20 | .power => 21 | .cores => 22 | .mirror => 23 | .held => 24 | .ports => 25
  | .canCtl => 26 | .canRx => 27 | .canOut => 28 | .panel => 29 | .time => 30 | .staging => 31 | .nand => 32
  | .journalLog => 33 | .firmware => 34 | .sessions => 35 | .restart => 36 | .pending => 37
  | .counters => 38 | .key => 39

/-- Every part whose bit of `m` is clear is left alone. -/
structure KM (m : Nat) (s t : State) : Prop where
  get : ∀ p : Part, m.testBit p.ix = false → Same p s t

theorem Same.refl (p : Part) (s : State) : Same p s s := by cases p <;> rfl
theorem Same.trans {p : Part} {s t u : State} (h : Same p s t) (g : Same p t u) : Same p s u := by
  cases p <;> exact Eq.trans g h
theorem KM.refl {m : Nat} {s : State} : KM m s s := ⟨fun p _ => Same.refl p s⟩
theorem KM.app {m m' : Nat} {s t u : State} (h : KM m s t) (g : KM m' t u) (hm : m' ||| m = m) : KM m s u := by
  refine ⟨fun p hp => (h.get p hp).trans (g.get p ?_)⟩
  rw [← hm, Nat.testBit_or] at hp
  simp at hp
  exact hp.1
theorem KM.of {m : Nat} {s t : State} (h : ∀ p : Part, m.testBit p.ix = false → Same p s t) : KM m s t := ⟨h⟩
theorem KM.mk_ {m : Nat} {s : State} {x0 x1 x2 x3 x4 x5 x6 x7 x8 x9 x10 x11 x12 x13 x14 x15 x16 x17 x18 x19 x20 x21 x22 x23}
    (h : ∀ p : Part, m.testBit p.ix = false → Same p s (State.mk x0 x1 x2 x3 x4 x5 x6 x7 x8 x9 x10 x11 x12 x13 x14 x15 x16 x17 x18 x19 x20 x21 x22 x23)) : KM m s (State.mk x0 x1 x2 x3 x4 x5 x6 x7 x8 x9 x10 x11 x12 x13 x14 x15 x16 x17 x18 x19 x20 x21 x22 x23) := ⟨h⟩
theorem KM.let_ {m : Nat} {s x : State} {P : Prop} (h : KM m s x → P) (g : KM m s x) : P := h g
theorem KM.each {α : Type} {m : Nat} {s t : State} {l : List α} {f : State → α → State} (h : KM m s t)
    (hf : ∀ (t : State) (x : α), KM m s t → KM m s (f t x)) : KM m s (t.each l f) := by
  unfold State.each
  induction l generalizing t with
  | nil => exact h
  | cons a l ih => exact ih (hf _ _ h)
theorem KM.when_ {m : Nat} {s t : State} {b : Bool} {f : State → State} (h : KM m s t)
    (hf : ∀ t, KM m s t → KM m s (f t)) : KM m s (t.when b f) := by
  unfold State.when; split
  · exact hf _ h
  · exact h

theorem KM.lit {m : Nat} {s t u : State} (h : KM m s t) (hf : ∀ p : Part, m.testBit p.ix = false → Same p t u) :
    KM m s u := ⟨fun p hp => (h.get p hp).trans (hf p hp)⟩
/-- `t` to `u` leaves every part alone whose bit of `m` is clear, by the form of `u`. -/
structure Lit (m : Nat) (t u : State) : Prop where
  get : ∀ p : Part, m.testBit p.ix = false → Same p t u
theorem KM.foldl {α : Type} {m : Nat} {s t : State} {l : List α} {f : State → α → State} (h : KM m s t)
    (hf : ∀ (t : State) (x : α), KM m s t → KM m s (f t x)) : KM m s (l.foldl f t) := KM.each h hf
theorem KM.modJournal {m : Nat} {s t : State} {f : JournalSt → JournalSt} (h : KM m s t)
    (hf : ∀ t : State, Lit m t (t.modJournal f)) : KM m s (t.modJournal f) := h.lit (hf t).get
theorem KM.modCan {m : Nat} {s t : State} {f : CanSt → CanSt} (h : KM m s t)
    (hf : ∀ t : State, Lit m t (t.modCan f)) : KM m s (t.modCan f) := h.lit (hf t).get
theorem KM.modPair {m : Nat} {s t : State} {f : PairSt → PairSt} (h : KM m s t)
    (hf : ∀ t : State, Lit m t (t.modPair f)) : KM m s (t.modPair f) := h.lit (hf t).get
theorem KM.modUpdate {m : Nat} {s t : State} {f : UpdateSt → UpdateSt} (h : KM m s t)
    (hf : ∀ t : State, Lit m t (t.modUpdate f)) : KM m s (t.modUpdate f) := h.lit (hf t).get
theorem KM.modDoors {m : Nat} {s t : State} {f : DoorsSt → DoorsSt} (h : KM m s t)
    (hf : ∀ t : State, Lit m t (t.modDoors f)) : KM m s (t.modDoors f) := h.lit (hf t).get

/-- Every next state of an outcome leaves the parts alone whose bit of `m` is clear. -/
structure KO (m : Nat) (s : State) (o : Host.Outcome State Fault Refusal) : Prop where
  get : ∀ t, o = .next t → KM m s t
theorem KO.next {m : Nat} {s t : State} (h : KM m s t) : KO m s (.next t) := ⟨fun u hu => by cases hu; exact h⟩
theorem KO.fault {m : Nat} {s : State} {f : Fault} : KO m s (.fault f) := ⟨fun u hu => by cases hu⟩

/-- From a mask to the parts a frame names. -/
theorem KM.keeps {m : Nat} {s t : State} {ps : List Part} (h : KM m s t)
    (hp : ∀ p : Part, p ∈ ps ∨ m.testBit p.ix = false) : Keeps ps s t :=
  fun p hn => h.get p ((hp p).resolve_left hn)

end Sys2Proof.Machine
end

