-- ==== Sys2Proof/Laws/KeepsOps1.lean ====
section
/-!
SUPPORT. What the operations of the model leave alone, part 1 of 4 (see `Keeps`).
-/

set_option linter.all false

namespace Sys2Proof.Machine

theorem State.modGroup_keeps (s : State) (g : Group) (f : GroupSt → GroupSt) : KM 131072 s (State.modGroup s g f) := by
  have hx : KM 131072 s s := KM.refl
  unfold State.modGroup
  repeat' first
    | with_reducible assumption
    | (show _ ||| _ = _; decide)
    | (extract_lets +onlyGivenNames x; refine KM.let_ (m := 131072) (s := s) (x := x) ?_ ?_; all_goals first | (intro hx; clear_value x) | subst x)
    | (extract_lets +onlyGivenNames v; subst v)
    | ((with_reducible apply KM.mk_); intro p hp; cases p <;> first | exact absurd hp (by decide) | exact hx.get _ hp | rfl)

theorem State.modSink_keeps (s : State) (c : CoreId) (f : SinkSt → SinkSt) : KM 524288 s (State.modSink s c f) := by
  have hx : KM 524288 s s := KM.refl
  unfold State.modSink
  repeat' first
    | with_reducible assumption
    | (show _ ||| _ = _; decide)
    | (extract_lets +onlyGivenNames x; refine KM.let_ (m := 524288) (s := s) (x := x) ?_ ?_; all_goals first | (intro hx; clear_value x) | subst x)
    | (extract_lets +onlyGivenNames v; subst v)
    | ((with_reducible apply KM.mk_); intro p hp; cases p <;> first | exact absurd hp (by decide) | exact hx.get _ hp | rfl)

theorem State.dropCursor_keeps (s : State) (r : Resource) : KM 8589934592 s (State.dropCursor s r) := by
  have hx : KM 8589934592 s s := KM.refl
  unfold State.dropCursor
  repeat' first
    | with_reducible assumption
    | intro hx
    | ((with_reducible apply Lit.mk); intro p hp; first | (cases p <;> first | exact absurd hp (by decide) | exact rfl) | (split <;> cases p <;> first | exact absurd hp (by decide) | exact rfl) | (split <;> split <;> cases p <;> first | exact absurd hp (by decide) | exact rfl))
    | (show _ ||| _ = _; decide)
    | with_reducible apply KM.modJournal
    | split

theorem State.modPanel_keeps (s : State) (f : PanelSt → PanelSt) : KM 536870912 s (State.modPanel s f) := by
  have hx : KM 536870912 s s := KM.refl
  unfold State.modPanel
  repeat' first
    | with_reducible assumption
    | (show _ ||| _ = _; decide)
    | ((with_reducible apply KM.mk_); intro p hp; cases p <;> first | exact absurd hp (by decide) | exact hx.get _ hp | rfl)

theorem State.sendOwn_keeps (s : State) (tag : ℕ) (bus : Bus) (f : CanFrame) : KM 268435456 s (State.sendOwn s tag bus f) := by
  have hx : KM 268435456 s s := KM.refl
  unfold State.sendOwn
  repeat' first
    | with_reducible assumption
    | intro hx
    | ((with_reducible apply Lit.mk); intro p hp; cases p <;> first | exact absurd hp (by decide) | exact rfl)
    | (show _ ||| _ = _; decide)
    | with_reducible apply KM.modCan

theorem State.sendFallback_keeps (s : State) (type : ℕ) (data : List Byte) : KM 268435456 s (State.sendFallback s type data) := by
  have hx : KM 268435456 s s := KM.refl
  unfold State.sendFallback
  repeat' first
    | with_reducible assumption
    | (show _ ||| _ = _; decide)
    | with_reducible apply KM.app (g := State.sendOwn_keeps ..)
    | split

theorem State.sendFault_keeps (s : State) (code : BitVec 10) (door : ℕ) (data : List Byte) : KM 268435456 s (State.sendFault s code door data) := by
  have hx : KM 268435456 s s := KM.refl
  unfold State.sendFault
  repeat' first
    | with_reducible assumption
    | intro hx
    | ((with_reducible apply Lit.mk); intro p hp; first | (cases p <;> first | exact absurd hp (by decide) | exact rfl) | (split <;> cases p <;> first | exact absurd hp (by decide) | exact rfl) | (split <;> split <;> cases p <;> first | exact absurd hp (by decide) | exact rfl))
    | (show _ ||| _ = _; decide)
    | with_reducible apply KM.modCan
    | with_reducible apply KM.app (g := State.sendFallback_keeps ..)
    | (extract_lets +onlyGivenNames x; refine KM.let_ (m := 268435456) (s := s) (x := x) ?_ ?_; all_goals first | (intro hx; clear_value x) | subst x)
    | (extract_lets +onlyGivenNames v; subst v)
    | split

theorem State.modPort_keeps (s : State) (p : PortId) (f : PortSt → PortSt) : KM 33554432 s (State.modPort s p f) := by
  have hx : KM 33554432 s s := KM.refl
  unfold State.modPort
  repeat' first
    | with_reducible assumption
    | (show _ ||| _ = _; decide)
    | ((with_reducible apply KM.mk_); intro p hp; cases p <;> first | exact absurd hp (by decide) | exact hx.get _ hp | rfl)

theorem State.portEvent_keeps (s : State) (p : PortId) (code : BitVec 10) (stamp : ℕ) (data : List Byte) : KM 50331648 s (State.portEvent s p code stamp data) := by
  have hx : KM 50331648 s s := KM.refl
  unfold State.portEvent
  repeat' first
    | with_reducible assumption
    | intro hx
    | ((with_reducible apply Lit.mk); intro p hp; first | (cases p <;> first | exact absurd hp (by decide) | exact rfl) | (split <;> cases p <;> first | exact absurd hp (by decide) | exact rfl) | (split <;> split <;> cases p <;> first | exact absurd hp (by decide) | exact rfl))
    | (show _ ||| _ = _; decide)
    | with_reducible apply KM.app (g := State.modPort_keeps ..)
    | with_reducible apply KM.modPair
    | (extract_lets +onlyGivenNames x; refine KM.let_ (m := 50331648) (s := s) (x := x) ?_ ?_; all_goals first | (intro hx; clear_value x) | subst x)
    | (extract_lets +onlyGivenNames v; subst v)
    | split

theorem State.stage_keeps (s : State) (r : Record) : KM 2147483648 s (State.stage s r) := by
  have hx : KM 2147483648 s s := KM.refl
  unfold State.stage
  repeat' first
    | with_reducible assumption
    | intro hx
    | ((with_reducible apply Lit.mk); intro p hp; first | (cases p <;> first | exact absurd hp (by decide) | exact rfl) | (split <;> cases p <;> first | exact absurd hp (by decide) | exact rfl) | (split <;> split <;> cases p <;> first | exact absurd hp (by decide) | exact rfl))
    | (show _ ||| _ = _; decide)
    | with_reducible apply KM.modJournal
    | split

theorem State.stageEvent_keeps (s : State) (code : BitVec 10) (stamp : ℕ) (items : List Item) : KM 2147483648 s (State.stageEvent s code stamp items) := by
  have hx : KM 2147483648 s s := KM.refl
  unfold State.stageEvent
  repeat' first
    | with_reducible assumption
    | intro hx
    | ((with_reducible apply Lit.mk); intro p hp; first | (cases p <;> first | exact absurd hp (by decide) | exact rfl) | (split <;> cases p <;> first | exact absurd hp (by decide) | exact rfl) | (split <;> split <;> cases p <;> first | exact absurd hp (by decide) | exact rfl))
    | (show _ ||| _ = _; decide)
    | with_reducible apply KM.app (g := State.stage_keeps ..)
    | with_reducible apply KM.modJournal
    | (extract_lets +onlyGivenNames x; refine KM.let_ (m := 2147483648) (s := s) (x := x) ?_ ?_; all_goals first | (intro hx; clear_value x) | subst x)
    | (extract_lets +onlyGivenNames v; subst v)
    | split

theorem State.raiseOnce_keeps (s : State) (code : BitVec 10) (stamp : ℕ) (items : List Item) : KM 3003121664 s (State.raiseOnce s code stamp items) := by
  have hx : KM 3003121664 s s := KM.refl
  unfold State.raiseOnce
  repeat' first
    | with_reducible assumption
    | (show _ ||| _ = _; decide)
    | with_reducible apply KM.app (g := State.modPanel_keeps ..)
    | with_reducible apply KM.app (g := State.sendFault_keeps ..)
    | with_reducible apply KM.app (g := State.portEvent_keeps ..)
    | with_reducible apply KM.app (g := State.stageEvent_keeps ..)
    | (extract_lets +onlyGivenNames x; refine KM.let_ (m := 3003121664) (s := s) (x := x) ?_ ?_; all_goals first | (intro hx; clear_value x) | subst x)
    | (extract_lets +onlyGivenNames v; subst v)
    | split

theorem State.raiseAt_keeps (s : State) (code : BitVec 10) (stamp : ℕ) (items : List Item) : KM 3003121664 s (State.raiseAt s code stamp items) := by
  have hx : KM 3003121664 s s := KM.refl
  unfold State.raiseAt
  repeat' first
    | with_reducible assumption
    | intro hx
    | ((with_reducible apply Lit.mk); intro p hp; first | (cases p <;> first | exact absurd hp (by decide) | exact rfl) | (split <;> cases p <;> first | exact absurd hp (by decide) | exact rfl) | (split <;> split <;> cases p <;> first | exact absurd hp (by decide) | exact rfl))
    | (show _ ||| _ = _; decide)
    | with_reducible apply KM.app (g := State.raiseOnce_keeps ..)
    | with_reducible apply KM.modJournal
    | (extract_lets +onlyGivenNames x; refine KM.let_ (m := 3003121664) (s := s) (x := x) ?_ ?_; all_goals first | (intro hx; clear_value x) | subst x)
    | (extract_lets +onlyGivenNames v; subst v)
    | split

theorem State.raise_keeps (s : State) (code : BitVec 10) (items : List Item) : KM 3003121664 s (State.raise s code items) := by
  have hx : KM 3003121664 s s := KM.refl
  unfold State.raise
  repeat' first
    | with_reducible assumption
    | (show _ ||| _ = _; decide)
    | with_reducible apply KM.app (g := State.raiseAt_keeps ..)

theorem State.modDoor_keeps (s : State) (d : Doorway) (f : DoorSt → DoorSt) : KM 256 s (State.modDoor s d f) := by
  have hx : KM 256 s s := KM.refl
  unfold State.modDoor
  repeat' first
    | with_reducible assumption
    | (show _ ||| _ = _; decide)
    | (extract_lets +onlyGivenNames x; refine KM.let_ (m := 256) (s := s) (x := x) ?_ ?_; all_goals first | (intro hx; clear_value x) | subst x)
    | (extract_lets +onlyGivenNames v; subst v)
    | ((with_reducible apply KM.mk_); intro p hp; cases p <;> first | exact absurd hp (by decide) | exact hx.get _ hp | rfl)

theorem State.setOwner_keeps (s : State) (r : Resource) (p : Option Party) (reason : ℕ) : KM 3003122432 s (State.setOwner s r p reason) := by
  have hx : KM 3003122432 s s := KM.refl
  unfold State.setOwner
  repeat' first
    | with_reducible assumption
    | (show _ ||| _ = _; decide)
    | with_reducible apply KM.app (g := State.raise_keeps ..)
    | with_reducible apply KM.app (g := State.modDoor_keeps ..)
    | (extract_lets +onlyGivenNames x; refine KM.let_ (m := 3003122432) (s := s) (x := x) ?_ ?_; all_goals first | (intro hx; clear_value x) | subst x)
    | (extract_lets +onlyGivenNames v; subst v)
    | split
    | ((with_reducible apply KM.mk_); intro p hp; cases p <;> first | exact absurd hp (by decide) | exact hx.get _ hp | rfl)

theorem State.releaseClaim_keeps (s : State) (reason : ℕ) (r : Resource) : KM 11593057024 s (State.releaseClaim s reason r) := by
  have hx : KM 11593057024 s s := KM.refl
  unfold State.releaseClaim
  repeat' first
    | with_reducible assumption
    | (show _ ||| _ = _; decide)
    | with_reducible apply KM.app (g := State.dropCursor_keeps ..)
    | with_reducible apply KM.app (g := State.setOwner_keeps ..)

theorem State.releaseAll_keeps (s : State) (p : Party) (reason : ℕ) : KM 11593057024 s (State.releaseAll s p reason) := by
  have hx : KM 11593057024 s s := KM.refl
  unfold State.releaseAll
  repeat' first
    | with_reducible assumption
    | intro hx
    | (show _ ||| _ = _; decide)
    | with_reducible apply KM.app (g := State.releaseClaim_keeps ..)
    | with_reducible apply KM.each

theorem State.modCore_keeps (s : State) (c : CoreId) (f : CoreSt → CoreSt) : KM 4194304 s (State.modCore s c f) := by
  have hx : KM 4194304 s s := KM.refl
  unfold State.modCore
  repeat' first
    | with_reducible assumption
    | (show _ ||| _ = _; decide)
    | (extract_lets +onlyGivenNames x; refine KM.let_ (m := 4194304) (s := s) (x := x) ?_ ?_; all_goals first | (intro hx; clear_value x) | subst x)
    | (extract_lets +onlyGivenNames v; subst v)
    | ((with_reducible apply KM.mk_); intro p hp; cases p <;> first | exact absurd hp (by decide) | exact hx.get _ hp | rfl)

theorem State.modFieldMod_keeps (s : State) (m : Fin 2) (f : FieldModSt → FieldModSt) : KM 131072 s (State.modFieldMod s m f) := by
  have hx : KM 131072 s s := KM.refl
  unfold State.modFieldMod
  repeat' first
    | with_reducible assumption
    | (show _ ||| _ = _; decide)
    | (extract_lets +onlyGivenNames x; refine KM.let_ (m := 131072) (s := s) (x := x) ?_ ?_; all_goals first | (intro hx; clear_value x) | subst x)
    | (extract_lets +onlyGivenNames v; subst v)
    | ((with_reducible apply KM.mk_); intro p hp; cases p <;> first | exact absurd hp (by decide) | exact hx.get _ hp | rfl)

theorem State.noteLayby_keeps (s : State) (p : PortId) : KM 3003121664 s (State.noteLayby s p) := by
  have hx : KM 3003121664 s s := KM.refl
  unfold State.noteLayby
  repeat' first
    | with_reducible assumption
    | (show _ ||| _ = _; decide)
    | with_reducible apply KM.app (g := State.modPort_keeps ..)
    | with_reducible apply KM.app (g := State.raise_keeps ..)
    | (extract_lets +onlyGivenNames x; refine KM.let_ (m := 3003121664) (s := s) (x := x) ?_ ?_; all_goals first | (intro hx; clear_value x) | subst x)
    | (extract_lets +onlyGivenNames v; subst v)
    | split

theorem State.releaseIf_keeps (s : State) (f : BitVec 32 → Bool) : KM 3003121664 s (State.releaseIf s f) := by
  have hx : KM 3003121664 s s := KM.refl
  unfold State.releaseIf
  repeat' first
    | with_reducible assumption
    | intro hx
    | ((with_reducible apply Lit.mk); intro p hp; cases p <;> first | exact absurd hp (by decide) | exact rfl)
    | (show _ ||| _ = _; decide)
    | with_reducible apply KM.app (g := State.modPort_keeps ..)
    | with_reducible apply KM.app (g := State.noteLayby_keeps ..)
    | with_reducible apply KM.each
    | with_reducible apply KM.modPair
    | (extract_lets +onlyGivenNames x; refine KM.let_ (m := 3003121664) (s := s) (x := x) ?_ ?_; all_goals first | (intro hx; clear_value x) | subst x)
    | (extract_lets +onlyGivenNames v; subst v)

theorem State.modLoad_keeps (s : State) (c : LoadCh) (f : LoadChSt → LoadChSt) : KM 262144 s (State.modLoad s c f) := by
  have hx : KM 262144 s s := KM.refl
  unfold State.modLoad
  repeat' first
    | with_reducible assumption
    | (show _ ||| _ = _; decide)
    | (extract_lets +onlyGivenNames x; refine KM.let_ (m := 262144) (s := s) (x := x) ?_ ?_; all_goals first | (intro hx; clear_value x) | subst x)
    | (extract_lets +onlyGivenNames v; subst v)
    | ((with_reducible apply KM.mk_); intro p hp; cases p <;> first | exact absurd hp (by decide) | exact hx.get _ hp | rfl)

theorem State.emit_keeps (s : State) (p : PortId) (c : Completion) : KM 3003121664 s (State.emit s p c) := by
  have hx : KM 3003121664 s s := KM.refl
  unfold State.emit
  repeat' first
    | with_reducible assumption
    | intro hx
    | ((with_reducible apply Lit.mk); intro p hp; first | (cases p <;> first | exact absurd hp (by decide) | exact rfl) | (split <;> cases p <;> first | exact absurd hp (by decide) | exact rfl) | (split <;> split <;> cases p <;> first | exact absurd hp (by decide) | exact rfl))
    | (show _ ||| _ = _; decide)
    | with_reducible apply KM.app (g := State.modPort_keeps ..)
    | with_reducible apply KM.app (g := State.noteLayby_keeps ..)
    | with_reducible apply KM.modPair
    | (extract_lets +onlyGivenNames x; refine KM.let_ (m := 3003121664) (s := s) (x := x) ?_ ?_; all_goals first | (intro hx; clear_value x) | subst x)
    | (extract_lets +onlyGivenNames v; subst v)
    | split

theorem State.complete_keeps (s : State) (r : Req) (opcode : BitVec 15) (status : Byte) (detail : ℕ) (result : List Byte) : KM 3003121664 s (State.complete s r opcode status detail result) := by
  have hx : KM 3003121664 s s := KM.refl
  unfold State.complete
  repeat' first
    | with_reducible assumption
    | (show _ ||| _ = _; decide)
    | with_reducible apply KM.app (g := State.emit_keeps ..)
    | split

theorem State.modTime_keeps (s : State) (f : TimeSt → TimeSt) : KM 1073741824 s (State.modTime s f) := by
  have hx : KM 1073741824 s s := KM.refl
  unfold State.modTime
  repeat' first
    | with_reducible assumption
    | (show _ ||| _ = _; decide)
    | ((with_reducible apply KM.mk_); intro p hp; cases p <;> first | exact absurd hp (by decide) | exact hx.get _ hp | rfl)

theorem State.modAxMod_keeps (s : State) (a : Axis) (f : AxModSt → AxModSt) : KM 65536 s (State.modAxMod s a f) := by
  have hx : KM 65536 s s := KM.refl
  unfold State.modAxMod
  repeat' first
    | with_reducible assumption
    | (show _ ||| _ = _; decide)
    | ((with_reducible apply KM.mk_); intro p hp; cases p <;> first | exact absurd hp (by decide) | exact hx.get _ hp | rfl)

theorem State.releaseHeld_keeps (s : State) : KM 3003121664 s (State.releaseHeld s) := by
  have hx : KM 3003121664 s s := KM.refl
  unfold State.releaseHeld
  repeat' first
    | with_reducible assumption
    | (show _ ||| _ = _; decide)
    | with_reducible apply KM.app (g := State.releaseIf_keeps ..)

theorem State.completeAll_keeps (s : State) (rs : List Req) (opcode : BitVec 15) (status : Byte) (detail : ℕ) (result : List Byte) : KM 3003121664 s (State.completeAll s rs opcode status detail result) := by
  have hx : KM 3003121664 s s := KM.refl
  unfold State.completeAll
  repeat' first
    | with_reducible assumption
    | intro hx
    | (show _ ||| _ = _; decide)
    | with_reducible apply KM.app (g := State.complete_keeps ..)
    | with_reducible apply KM.each

theorem State.modChan_keeps (s : State) (c : Chan) (f : ChanSt → ChanSt) : KM 131072 s (State.modChan s c f) := by
  have hx : KM 131072 s s := KM.refl
  unfold State.modChan
  repeat' first
    | with_reducible assumption
    | (show _ ||| _ = _; decide)
    | (extract_lets +onlyGivenNames x; refine KM.let_ (m := 131072) (s := s) (x := x) ?_ ?_; all_goals first | (intro hx; clear_value x) | subst x)
    | (extract_lets +onlyGivenNames v; subst v)
    | ((with_reducible apply KM.mk_); intro p hp; cases p <;> first | exact absurd hp (by decide) | exact hx.get _ hp | rfl)

theorem State.modFirm_keeps (s : State) (k : Slot) (f : FirmSt → FirmSt) : KM 17179869184 s (State.modFirm s k f) := by
  have hx : KM 17179869184 s s := KM.refl
  unfold State.modFirm
  repeat' first
    | with_reducible assumption
    | (show _ ||| _ = _; decide)
    | (extract_lets +onlyGivenNames x; refine KM.let_ (m := 17179869184) (s := s) (x := x) ?_ ?_; all_goals first | (intro hx; clear_value x) | subst x)
    | (extract_lets +onlyGivenNames v; subst v)
    | ((with_reducible apply KM.mk_); intro p hp; cases p <;> first | exact absurd hp (by decide) | exact hx.get _ hp | rfl)

theorem State.fresh_keeps (s : State) : KM 4 s (State.fresh s).2 := by
  have hx : KM 4 s s := KM.refl
  unfold State.fresh
  repeat' first
    | with_reducible assumption
    | (show _ ||| _ = _; decide)
    | ((with_reducible apply KM.mk_); intro p hp; cases p <;> first | exact absurd hp (by decide) | exact hx.get _ hp | rfl)

theorem State.modNand_keeps (s : State) (c : CoreId) (f : NandSt → NandSt) : KM 4294967296 s (State.modNand s c f) := by
  have hx : KM 4294967296 s s := KM.refl
  unfold State.modNand
  repeat' first
    | with_reducible assumption
    | (show _ ||| _ = _; decide)
    | (extract_lets +onlyGivenNames x; refine KM.let_ (m := 4294967296) (s := s) (x := x) ?_ ?_; all_goals first | (intro hx; clear_value x) | subst x)
    | (extract_lets +onlyGivenNames v; subst v)
    | ((with_reducible apply KM.mk_); intro p hp; cases p <;> first | exact absurd hp (by decide) | exact hx.get _ hp | rfl)

theorem State.modSlot_keeps (s : State) (k : Slot) (f : SlotSt → SlotSt) : KM 32 s (State.modSlot s k f) := by
  have hx : KM 32 s s := KM.refl
  unfold State.modSlot
  repeat' first
    | with_reducible assumption
    | (show _ ||| _ = _; decide)
    | (extract_lets +onlyGivenNames x; refine KM.let_ (m := 32) (s := s) (x := x) ?_ ?_; all_goals first | (intro hx; clear_value x) | subst x)
    | (extract_lets +onlyGivenNames v; subst v)
    | ((with_reducible apply KM.mk_); intro p hp; cases p <;> first | exact absurd hp (by decide) | exact hx.get _ hp | rfl)

theorem State.modObst_keeps (s : State) (d : Doorway) (f : ObstSt → ObstSt) : KM 16384 s (State.modObst s d f) := by
  have hx : KM 16384 s s := KM.refl
  unfold State.modObst
  repeat' first
    | with_reducible assumption
    | (show _ ||| _ = _; decide)
    | ((with_reducible apply KM.mk_); intro p hp; cases p <;> first | exact absurd hp (by decide) | exact hx.get _ hp | rfl)

theorem State.modEnergy_keeps (s : State) (f : EnergySt → EnergySt) : KM 1048576 s (State.modEnergy s f) := by
  have hx : KM 1048576 s s := KM.refl
  unfold State.modEnergy
  repeat' first
    | with_reducible assumption
    | (show _ ||| _ = _; decide)
    | ((with_reducible apply KM.mk_); intro p hp; cases p <;> first | exact absurd hp (by decide) | exact hx.get _ hp | rfl)

theorem State.modSession_keeps (s : State) (c : CoreId) (f : SessionSt → SessionSt) : KM 34359738368 s (State.modSession s c f) := by
  have hx : KM 34359738368 s s := KM.refl
  unfold State.modSession
  repeat' first
    | with_reducible assumption
    | (show _ ||| _ = _; decide)
    | (extract_lets +onlyGivenNames x; refine KM.let_ (m := 34359738368) (s := s) (x := x) ?_ ?_; all_goals first | (intro hx; clear_value x) | subst x)
    | (extract_lets +onlyGivenNames v; subst v)
    | ((with_reducible apply KM.mk_); intro p hp; cases p <;> first | exact absurd hp (by decide) | exact hx.get _ hp | rfl)

theorem State.modAxis_keeps (s : State) (a : Axis) (f : AxisSt → AxisSt) : KM 32768 s (State.modAxis s a f) := by
  have hx : KM 32768 s s := KM.refl
  unfold State.modAxis
  repeat' first
    | with_reducible assumption
    | (show _ ||| _ = _; decide)
    | ((with_reducible apply KM.mk_); intro p hp; cases p <;> first | exact absurd hp (by decide) | exact hx.get _ hp | rfl)

theorem State.modPm_keeps (s : State) (p : Fin 2) (f : PmSt → PmSt) : KM 524288 s (State.modPm s p f) := by
  have hx : KM 524288 s s := KM.refl
  unfold State.modPm
  repeat' first
    | with_reducible assumption
    | (show _ ||| _ = _; decide)
    | (extract_lets +onlyGivenNames x; refine KM.let_ (m := 524288) (s := s) (x := x) ?_ ?_; all_goals first | (intro hx; clear_value x) | subst x)
    | (extract_lets +onlyGivenNames v; subst v)
    | ((with_reducible apply KM.mk_); intro p hp; cases p <;> first | exact absurd hp (by decide) | exact hx.get _ hp | rfl)

theorem State.ok_keeps (s : State) (r : Req) (opcode : BitVec 15) (result : List Byte) : KM 3003121664 s (State.ok s r opcode result) := by
  have hx : KM 3003121664 s s := KM.refl
  unfold State.ok
  repeat' first
    | with_reducible assumption
    | (show _ ||| _ = _; decide)
    | with_reducible apply KM.app (g := State.complete_keeps ..)

theorem State.modPower_keeps (s : State) (f : PowerSt → PowerSt) : KM 2097152 s (State.modPower s f) := by
  have hx : KM 2097152 s s := KM.refl
  unfold State.modPower
  repeat' first
    | with_reducible assumption
    | (show _ ||| _ = _; decide)
    | ((with_reducible apply KM.mk_); intro p hp; cases p <;> first | exact absurd hp (by decide) | exact hx.get _ hp | rfl)

theorem State.fail_keeps (s : State) (r : Req) (opcode : BitVec 15) (status : Byte) (detail : ℕ) : KM 3003121664 s (State.fail s r opcode status detail) := by
  have hx : KM 3003121664 s s := KM.refl
  unfold State.fail
  repeat' first
    | with_reducible assumption
    | (show _ ||| _ = _; decide)
    | with_reducible apply KM.app (g := State.complete_keeps ..)

theorem State.judgeTiers_keeps (s : State) (cause : Nat) : KM 3003121792 s (State.judgeTiers s cause) := by
  unfold State.judgeTiers
  extract_lets +onlyGivenNames one
  have h1 : ∀ (t : State) (d : Doorway), KM 3003121792 s t → KM 3003121792 s (one t d) := by
    intro t d h
    unfold one
    extract_lets
    split
    · exact h
    · with_reducible apply KM.app (g := State.raise_keeps _ _ _)
      · exact h.lit fun p hp => by cases p <;> first | exact absurd hp (by decide) | exact rfl
      · decide
  extract_lets +onlyGivenNames s1
  have h : KM 3003121792 s s1 := h1 _ _ (h1 _ _ KM.refl)
  clear_value s1
  extract_lets
  split
  · exact h
  · with_reducible apply KM.app (g := State.raise_keeps _ _ _)
    · exact h.lit fun p hp => by cases p <;> first | exact absurd hp (by decide) | exact rfl
    · decide

theorem State.pass_keeps (s : State) (d : Nat) : KM 1073741827 s (State.pass s d) := by
  refine KM.lit KM.refl fun p hp => ?_
  unfold State.pass
  cases p <;> first | exact absurd hp (by decide) | exact rfl

theorem State.until_keeps (s : State) (t : ℕ) : KM 1073741827 s (State.until s t) := by
  have hx : KM 1073741827 s s := KM.refl
  unfold State.until
  repeat' first
    | with_reducible assumption
    | (show _ ||| _ = _; decide)
    | with_reducible apply KM.app (g := State.pass_keeps ..)

theorem State.abortWindow_keeps (s : State) (cause : ℕ) : KM 3004170240 s (State.abortWindow s cause) := by
  have hx : KM 3004170240 s s := KM.refl
  unfold State.abortWindow
  repeat' first
    | with_reducible assumption
    | (show _ ||| _ = _; decide)
    | with_reducible apply KM.app (g := State.complete_keeps ..)
    | with_reducible apply KM.app (g := State.raise_keeps ..)
    | with_reducible apply KM.app (g := State.modEnergy_keeps ..)
    | (extract_lets +onlyGivenNames x; refine KM.let_ (m := 3004170240) (s := s) (x := x) ?_ ?_; all_goals first | (intro hx; clear_value x) | subst x)
    | (extract_lets +onlyGivenNames v; subst v)
    | split

theorem State.raiseRefused_keeps (s : State) (who : ℕ) (ms : List Movement) : KM 3003121664 s (State.raiseRefused s who ms) := by
  have hx : KM 3003121664 s s := KM.refl
  unfold State.raiseRefused
  repeat' first
    | with_reducible assumption
    | (show _ ||| _ = _; decide)
    | with_reducible apply KM.app (g := State.raise_keeps ..)
    | split

theorem State.setStage_keeps (s : State) (a : Axis) (st : RefStage) : KM 32768 s (State.setStage s a st) := by
  have hx : KM 32768 s s := KM.refl
  unfold State.setStage
  repeat' first
    | with_reducible assumption
    | (show _ ||| _ = _; decide)
    | with_reducible apply KM.app (g := State.modAxis_keeps ..)

theorem State.beginPlan_keeps (s : State) (a : Axis) (kind : PlanKind) (target : ℤ) (body : PlanBody) (a0 : ℤ) (reversal : Bool) : KM 3003154432 s (State.beginPlan s a kind target body a0 reversal) := by
  have hx : KM 3003154432 s s := KM.refl
  unfold State.beginPlan
  repeat' first
    | with_reducible assumption
    | (show _ ||| _ = _; decide)
    | with_reducible apply KM.app (g := State.raise_keeps ..)
    | with_reducible apply KM.app (g := State.modAxis_keeps ..)
    | (extract_lets +onlyGivenNames x; refine KM.let_ (m := 3003154432) (s := s) (x := x) ?_ ?_; all_goals first | (intro hx; clear_value x) | subst x)
    | (extract_lets +onlyGivenNames v; subst v)
    | split

theorem State.moveTo_keeps (s : State) (a : Axis) (kind : PlanKind) (table : Option Bool) (target : ℤ) (lim : Limits) : KM 3003154432 s (State.moveTo s a kind table target lim) := by
  have hx : KM 3003154432 s s := KM.refl
  unfold State.moveTo
  repeat' first
    | with_reducible assumption
    | (show _ ||| _ = _; decide)
    | with_reducible apply KM.app (g := State.beginPlan_keeps ..)
    | (extract_lets +onlyGivenNames x; refine KM.let_ (m := 3003154432) (s := s) (x := x) ?_ ?_; all_goals first | (intro hx; clear_value x) | subst x)
    | (extract_lets +onlyGivenNames v; subst v)

theorem State.refBack_keeps (s : State) (a : Axis) : KM 3003219968 s (State.refBack s a) := by
  have hx : KM 3003219968 s s := KM.refl
  unfold State.refBack
  repeat' first
    | with_reducible assumption
    | (show _ ||| _ = _; decide)
    | with_reducible apply KM.app (g := State.modAxMod_keeps ..)
    | with_reducible apply KM.app (g := State.setStage_keeps ..)
    | with_reducible apply KM.app (g := State.moveTo_keeps ..)
    | (extract_lets +onlyGivenNames x; refine KM.let_ (m := 3003219968) (s := s) (x := x) ?_ ?_; all_goals first | (intro hx; clear_value x) | subst x)
    | (extract_lets +onlyGivenNames v; subst v)
    | split

theorem State.rampStop_keeps (s : State) (a : Axis) : KM 32768 s (State.rampStop s a) := by
  have hx : KM 32768 s s := KM.refl
  unfold State.rampStop
  repeat' first
    | with_reducible assumption
    | (show _ ||| _ = _; decide)
    | with_reducible apply KM.app (g := State.modAxis_keeps ..)
    | (extract_lets +onlyGivenNames x; refine KM.let_ (m := 32768) (s := s) (x := x) ?_ ?_; all_goals first | (intro hx; clear_value x) | subst x)
    | (extract_lets +onlyGivenNames v; subst v)
    | split

theorem State.assignX_keeps (s : State) (a : Axis) (new : ℤ) : KM 32768 s (State.assignX s a new) := by
  have hx : KM 32768 s s := KM.refl
  unfold State.assignX
  repeat' first
    | with_reducible assumption
    | (show _ ||| _ = _; decide)
    | with_reducible apply KM.app (g := State.modAxis_keeps ..)
    | (extract_lets +onlyGivenNames x; refine KM.let_ (m := 32768) (s := s) (x := x) ?_ ?_; all_goals first | (intro hx; clear_value x) | subst x)
    | (extract_lets +onlyGivenNames v; subst v)
    | split

theorem State.refLatched_keeps (s : State) (a : Axis) (count : BitVec 32) : KM 98304 s (State.refLatched s a count) := by
  have hx : KM 98304 s s := KM.refl
  unfold State.refLatched
  repeat' first
    | with_reducible assumption
    | intro hx
    | (show _ ||| _ = _; decide)
    | with_reducible apply KM.app (g := State.modAxMod_keeps ..)
    | with_reducible apply KM.each
    | with_reducible apply KM.app (g := State.rampStop_keeps ..)
    | with_reducible apply KM.app (g := State.modAxis_keeps ..)
    | with_reducible apply KM.app (g := State.assignX_keeps ..)
    | (extract_lets +onlyGivenNames x; refine KM.let_ (m := 98304) (s := s) (x := x) ?_ ?_; all_goals first | (intro hx; clear_value x) | subst x)
    | (extract_lets +onlyGivenNames v; subst v)

theorem State.endAxisCmd_keeps (s : State) (a : Axis) (status : Byte) (detail : ℕ) (result : List Byte) : KM 3003154432 s (State.endAxisCmd s a status detail result) := by
  have hx : KM 3003154432 s s := KM.refl
  unfold State.endAxisCmd
  repeat' first
    | with_reducible assumption
    | (show _ ||| _ = _; decide)
    | with_reducible apply KM.app (g := State.completeAll_keeps ..)
    | with_reducible apply KM.app (g := State.modAxis_keeps ..)
    | split

theorem State.makeUncertain_keeps (s : State) (a : Axis) (cause : ℕ) : KM 3003154432 s (State.makeUncertain s a cause) := by
  have hx : KM 3003154432 s s := KM.refl
  unfold State.makeUncertain
  repeat' first
    | with_reducible assumption
    | (show _ ||| _ = _; decide)
    | with_reducible apply KM.app (g := State.raise_keeps ..)
    | with_reducible apply KM.app (g := State.modAxis_keeps ..)
    | split

theorem State.refFail_keeps (s : State) (a : Axis) (reason : ℕ) : KM 3003220224 s (State.refFail s a reason) := by
  have hx : KM 3003220224 s s := KM.refl
  unfold State.refFail
  repeat' first
    | with_reducible assumption
    | (show _ ||| _ = _; decide)
    | with_reducible apply KM.app (g := State.endAxisCmd_keeps ..)
    | with_reducible apply KM.app (g := State.modAxMod_keeps ..)
    | with_reducible apply KM.app (g := State.completeAll_keeps ..)
    | with_reducible apply KM.app (g := State.raise_keeps ..)
    | with_reducible apply KM.app (g := State.modDoor_keeps ..)
    | with_reducible apply KM.app (g := State.modAxis_keeps ..)
    | with_reducible apply KM.app (g := State.makeUncertain_keeps ..)
    | (extract_lets +onlyGivenNames x; refine KM.let_ (m := 3003220224) (s := s) (x := x) ?_ ?_; all_goals first | (intro hx; clear_value x) | subst x)
    | (extract_lets +onlyGivenNames v; subst v)
    | split

theorem State.refDone_keeps (s : State) (a : Axis) : KM 3003154432 s (State.refDone s a) := by
  have hx : KM 3003154432 s s := KM.refl
  unfold State.refDone
  repeat' first
    | with_reducible assumption
    | (show _ ||| _ = _; decide)
    | with_reducible apply KM.app (g := State.endAxisCmd_keeps ..)
    | with_reducible apply KM.app (g := State.raise_keeps ..)
    | with_reducible apply KM.app (g := State.modAxis_keeps ..)
    | (extract_lets +onlyGivenNames x; refine KM.let_ (m := 3003154432) (s := s) (x := x) ?_ ?_; all_goals first | (intro hx; clear_value x) | subst x)
    | (extract_lets +onlyGivenNames v; subst v)

theorem State.refPlanEnd_keeps (s : State) (a : Axis) (met : Bool) : KM 3003220224 s (State.refPlanEnd s a met) := by
  have hx : KM 3003220224 s s := KM.refl
  unfold State.refPlanEnd
  repeat' first
    | with_reducible assumption
    | (show _ ||| _ = _; decide)
    | with_reducible apply KM.app (g := State.refFail_keeps ..)
    | with_reducible apply KM.app (g := State.setStage_keeps ..)
    | with_reducible apply KM.app (g := State.refDone_keeps ..)
    | with_reducible apply KM.app (g := State.modAxis_keeps ..)
    | with_reducible apply KM.app (g := State.moveTo_keeps ..)
    | with_reducible apply KM.app (g := State.refBack_keeps ..)
    | split

theorem State.planEnd_keeps (s : State) (a : Axis) : KM 3003220224 s (State.planEnd s a) := by
  have hx : KM 3003220224 s s := KM.refl
  unfold State.planEnd
  repeat' first
    | with_reducible assumption
    | (show _ ||| _ = _; decide)
    | with_reducible apply KM.app (g := State.endAxisCmd_keeps ..)
    | with_reducible apply KM.app (g := State.raise_keeps ..)
    | with_reducible apply KM.app (g := State.modAxis_keeps ..)
    | with_reducible apply KM.app (g := State.refPlanEnd_keeps ..)
    | (extract_lets +onlyGivenNames x; refine KM.let_ (m := 3003220224) (s := s) (x := x) ?_ ?_; all_goals first | (intro hx; clear_value x) | subst x)
    | (extract_lets +onlyGivenNames v; subst v)
    | split

theorem State.raiseMarks_keeps (s : State) (a : Axis) (p : Plan) (from_ : ℕ) (upto : ℕ) : KM 3003121664 s (State.raiseMarks s a p from_ upto) := by
  have hx : KM 3003121664 s s := KM.refl
  unfold State.raiseMarks
  repeat' first
    | with_reducible assumption
    | intro hx
    | (show _ ||| _ = _; decide)
    | with_reducible apply KM.each
    | with_reducible apply KM.app (g := State.raise_keeps ..)
    | split

theorem State.advancePlan_keeps (s : State) (a : Axis) : KM 3003220224 s (State.advancePlan s a) := by
  have hx : KM 3003220224 s s := KM.refl
  unfold State.advancePlan
  repeat' first
    | with_reducible assumption
    | (show _ ||| _ = _; decide)
    | with_reducible apply KM.app (g := State.planEnd_keeps ..)
    | with_reducible apply KM.app (g := State.raiseMarks_keeps ..)
    | with_reducible apply KM.app (g := State.modAxis_keeps ..)
    | (extract_lets +onlyGivenNames x; refine KM.let_ (m := 3003220224) (s := s) (x := x) ?_ ?_; all_goals first | (intro hx; clear_value x) | subst x)
    | (extract_lets +onlyGivenNames v; subst v)
    | split

theorem State.resync_keeps (s : State) (a : Axis) : KM 3003154432 s (State.resync s a) := by
  have hx : KM 3003154432 s s := KM.refl
  unfold State.resync
  repeat' first
    | with_reducible assumption
    | (show _ ||| _ = _; decide)
    | with_reducible apply KM.app (g := State.raise_keeps ..)
    | with_reducible apply KM.app (g := State.modAxis_keeps ..)
    | with_reducible apply KM.app (g := State.assignX_keeps ..)
    | (extract_lets +onlyGivenNames x; refine KM.let_ (m := 3003154432) (s := s) (x := x) ?_ ?_; all_goals first | (intro hx; clear_value x) | subst x)
    | (extract_lets +onlyGivenNames v; subst v)
    | split

theorem State.placeBlocks_keeps (s : State) (a : Axis) : KM 65536 s (State.placeBlocks s a) := by
  have hx : KM 65536 s s := KM.refl
  unfold State.placeBlocks
  repeat' first
    | with_reducible assumption
    | intro hx
    | (show _ ||| _ = _; decide)
    | with_reducible apply KM.app (g := State.modAxMod_keeps ..)
    | with_reducible apply KM.each
    | (extract_lets +onlyGivenNames x; refine KM.let_ (m := 65536) (s := s) (x := x) ?_ ?_; all_goals first | (intro hx; clear_value x) | subst x)
    | (extract_lets +onlyGivenNames v; subst v)
    | split

theorem State.refMet_keeps (s : State) (a : Axis) : KM 3003219968 s (State.refMet s a) := by
  have hx : KM 3003219968 s s := KM.refl
  unfold State.refMet
  repeat' first
    | with_reducible assumption
    | (show _ ||| _ = _; decide)
    | with_reducible apply KM.app (g := State.rampStop_keeps ..)
    | with_reducible apply KM.app (g := State.refBack_keeps ..)
    | (extract_lets +onlyGivenNames x; refine KM.let_ (m := 3003219968) (s := s) (x := x) ?_ ?_; all_goals first | (intro hx; clear_value x) | subst x)
    | (extract_lets +onlyGivenNames v; subst v)
    | split

theorem State.reverseTo_keeps (s : State) (a : Axis) (kind : PlanKind) (target : Option ℤ) (lim : Limits) : KM 3003154432 s (State.reverseTo s a kind target lim) := by
  have hx : KM 3003154432 s s := KM.refl
  unfold State.reverseTo
  repeat' first
    | with_reducible assumption
    | (show _ ||| _ = _; decide)
    | with_reducible apply KM.app (g := State.modAxis_keeps ..)
    | with_reducible apply KM.app (g := State.beginPlan_keeps ..)
    | (extract_lets +onlyGivenNames x; refine KM.let_ (m := 3003154432) (s := s) (x := x) ?_ ?_; all_goals first | (intro hx; clear_value x) | subst x)
    | (extract_lets +onlyGivenNames v; subst v)

theorem State.switchTable_keeps (s : State) (a : Axis) : KM 32768 s (State.switchTable s a) := by
  have hx : KM 32768 s s := KM.refl
  unfold State.switchTable
  repeat' first
    | with_reducible assumption
    | (show _ ||| _ = _; decide)
    | with_reducible apply KM.app (g := State.modAxis_keeps ..)
    | split

theorem State.motionTick_keeps (s : State) (a : Axis) : KM 3003220224 s (State.motionTick s a) := by
  have hx : KM 3003220224 s s := KM.refl
  unfold State.motionTick
  repeat' first
    | with_reducible assumption
    | (show _ ||| _ = _; decide)
    | with_reducible apply KM.app (g := State.switchTable_keeps ..)
    | with_reducible apply KM.app (g := State.advancePlan_keeps ..)
    | with_reducible apply KM.app (g := State.raise_keeps ..)
    | with_reducible apply KM.app (g := State.modAxis_keeps ..)
    | with_reducible apply KM.app (g := State.placeBlocks_keeps ..)
    | (extract_lets +onlyGivenNames x; refine KM.let_ (m := 3003220224) (s := s) (x := x) ?_ ?_; all_goals first | (intro hx; clear_value x) | subst x)
    | (extract_lets +onlyGivenNames v; subst v)
    | split

theorem State.refChecked_keeps (s : State) (a : Axis) : KM 3003219968 s (State.refChecked s a) := by
  have hx : KM 3003219968 s s := KM.refl
  unfold State.refChecked
  repeat' first
    | with_reducible assumption
    | (show _ ||| _ = _; decide)
    | with_reducible apply KM.app (g := State.setStage_keeps ..)
    | with_reducible apply KM.app (g := State.moveTo_keeps ..)
    | with_reducible apply KM.app (g := State.refBack_keeps ..)
    | (extract_lets +onlyGivenNames x; refine KM.let_ (m := 3003219968) (s := s) (x := x) ?_ ?_; all_goals first | (intro hx; clear_value x) | subst x)
    | (extract_lets +onlyGivenNames v; subst v)
    | split

theorem State.coilsOff_keeps (s : State) (a : Axis) : KM 32768 s (State.coilsOff s a) := by
  have hx : KM 32768 s s := KM.refl
  unfold State.coilsOff
  repeat' first
    | with_reducible assumption
    | (show _ ||| _ = _; decide)
    | with_reducible apply KM.app (g := State.modAxis_keeps ..)

theorem State.freeze_keeps (s : State) (a : Axis) (cause : FreezeCause) (status : Byte) (detail : ℕ) : KM 3003220224 s (State.freeze s a cause status detail) := by
  have hx : KM 3003220224 s s := KM.refl
  unfold State.freeze
  repeat' first
    | with_reducible assumption
    | (show _ ||| _ = _; decide)
    | with_reducible apply KM.app (g := State.endAxisCmd_keeps ..)
    | with_reducible apply KM.app (g := State.refFail_keeps ..)
    | with_reducible apply KM.app (g := State.raise_keeps ..)
    | with_reducible apply KM.app (g := State.modAxis_keeps ..)
    | with_reducible apply KM.app (g := State.makeUncertain_keeps ..)
    | (extract_lets +onlyGivenNames x; refine KM.let_ (m := 3003220224) (s := s) (x := x) ?_ ?_; all_goals first | (intro hx; clear_value x) | subst x)
    | (extract_lets +onlyGivenNames v; subst v)
    | split

theorem State.refStart_keeps (s : State) (a : Axis) (req : Option AxisCmd) (party : Party) (forDoor : Bool) : KM 3003219968 s (State.refStart s a req party forDoor) := by
  have hx : KM 3003219968 s s := KM.refl
  unfold State.refStart
  repeat' first
    | with_reducible assumption
    | intro hx
    | (show _ ||| _ = _; decide)
    | with_reducible apply KM.app (g := State.modAxMod_keeps ..)
    | with_reducible apply KM.each
    | with_reducible apply KM.app (g := State.raise_keeps ..)
    | with_reducible apply KM.app (g := State.modAxis_keeps ..)

theorem State.standstill_keeps (s : State) (a : Axis) : KM 3003154432 s (State.standstill s a) := by
  have hx : KM 3003154432 s s := KM.refl
  unfold State.standstill
  repeat' first
    | with_reducible assumption
    | (show _ ||| _ = _; decide)
    | with_reducible apply KM.app (g := State.raise_keeps ..)
    | with_reducible apply KM.app (g := State.modAxis_keeps ..)
    | with_reducible apply KM.app (g := State.resync_keeps ..)
    | (extract_lets +onlyGivenNames x; refine KM.let_ (m := 3003154432) (s := s) (x := x) ?_ ?_; all_goals first | (intro hx; clear_value x) | subst x)
    | (extract_lets +onlyGivenNames v; subst v)
    | split

theorem State.failOwner_keeps (s : State) (r : Req) (opcode : BitVec 15) (res : Resource) : KM 3003121664 s (State.failOwner s r opcode res) := by
  have hx : KM 3003121664 s s := KM.refl
  unfold State.failOwner
  repeat' first
    | with_reducible assumption
    | (show _ ||| _ = _; decide)
    | with_reducible apply KM.app (g := State.fail_keeps ..)

theorem State.doSegTableLoad_keeps (s : State) (r : Req) (n : ℕ) (number : ℕ) (count : ℕ) (x0 : ℤ) : KM 3003154432 s (State.doSegTableLoad s r n number count x0) := by
  have hx : KM 3003154432 s s := KM.refl
  unfold State.doSegTableLoad
  repeat' first
    | with_reducible assumption
    | (show _ ||| _ = _; decide)
    | with_reducible apply KM.app (g := State.raise_keeps ..)
    | with_reducible apply KM.app (g := State.ok_keeps ..)
    | with_reducible apply KM.app (g := State.modAxis_keeps ..)
    | with_reducible apply KM.app (g := State.fail_keeps ..)
    | with_reducible apply KM.app (g := State.failOwner_keeps ..)
    | (extract_lets +onlyGivenNames x; refine KM.let_ (m := 3003154432) (s := s) (x := x) ?_ ?_; all_goals first | (intro hx; clear_value x) | subst x)
    | (extract_lets +onlyGivenNames v; subst v)
    | split

theorem State.encWrong_keeps (s : State) (a : Axis) : KM 3003220224 s (State.encWrong s a) := by
  have hx : KM 3003220224 s s := KM.refl
  unfold State.encWrong
  repeat' first
    | with_reducible assumption
    | (show _ ||| _ = _; decide)
    | with_reducible apply KM.app (g := State.freeze_keeps ..)
    | with_reducible apply KM.app (g := State.refFail_keeps ..)
    | with_reducible apply KM.app (g := State.raise_keeps ..)
    | with_reducible apply KM.app (g := State.modAxis_keeps ..)
    | (extract_lets +onlyGivenNames x; refine KM.let_ (m := 3003220224) (s := s) (x := x) ?_ ?_; all_goals first | (intro hx; clear_value x) | subst x)
    | (extract_lets +onlyGivenNames v; subst v)
    | split

theorem State.doMstepTableLoad_keeps (s : State) (r : Req) (n : ℕ) : KM 3003154432 s (State.doMstepTableLoad s r n) := by
  have hx : KM 3003154432 s s := KM.refl
  unfold State.doMstepTableLoad
  repeat' first
    | with_reducible assumption
    | (show _ ||| _ = _; decide)
    | with_reducible apply KM.app (g := State.switchTable_keeps ..)
    | with_reducible apply KM.app (g := State.raise_keeps ..)
    | with_reducible apply KM.app (g := State.ok_keeps ..)
    | with_reducible apply KM.app (g := State.modAxis_keeps ..)
    | with_reducible apply KM.app (g := State.fail_keeps ..)
    | with_reducible apply KM.app (g := State.failOwner_keeps ..)
    | (extract_lets +onlyGivenNames x; refine KM.let_ (m := 3003154432) (s := s) (x := x) ?_ ?_; all_goals first | (intro hx; clear_value x) | subst x)
    | (extract_lets +onlyGivenNames v; subst v)
    | split

theorem State.doAxisHalt_keeps (s : State) (r : Req) (n : ℕ) : KM 3003220224 s (State.doAxisHalt s r n) := by
  have hx : KM 3003220224 s s := KM.refl
  unfold State.doAxisHalt
  repeat' first
    | with_reducible assumption
    | (show _ ||| _ = _; decide)
    | with_reducible apply KM.app (g := State.freeze_keeps ..)
    | with_reducible apply KM.app (g := State.ok_keeps ..)
    | with_reducible apply KM.app (g := State.fail_keeps ..)
    | with_reducible apply KM.app (g := State.failOwner_keeps ..)
    | (extract_lets +onlyGivenNames x; refine KM.let_ (m := 3003220224) (s := s) (x := x) ?_ ?_; all_goals first | (intro hx; clear_value x) | subst x)
    | (extract_lets +onlyGivenNames v; subst v)
    | split

theorem State.doAxisSetPosition_keeps (s : State) (r : Req) (n : ℕ) (pos : ℤ) : KM 3003154432 s (State.doAxisSetPosition s r n pos) := by
  have hx : KM 3003154432 s s := KM.refl
  unfold State.doAxisSetPosition
  repeat' first
    | with_reducible assumption
    | (show _ ||| _ = _; decide)
    | with_reducible apply KM.app (g := State.ok_keeps ..)
    | with_reducible apply KM.app (g := State.modAxis_keeps ..)
    | with_reducible apply KM.app (g := State.assignX_keeps ..)
    | with_reducible apply KM.app (g := State.fail_keeps ..)
    | with_reducible apply KM.app (g := State.failOwner_keeps ..)
    | (extract_lets +onlyGivenNames x; refine KM.let_ (m := 3003154432) (s := s) (x := x) ?_ ?_; all_goals first | (intro hx; clear_value x) | subst x)
    | (extract_lets +onlyGivenNames v; subst v)
    | split

theorem State.doAxisMove_keeps (s : State) (r : Req) (n : ℕ) (pos : ℤ) : KM 3004203008 s (State.doAxisMove s r n pos) := by
  have hx : KM 3004203008 s s := KM.refl
  unfold State.doAxisMove
  repeat' first
    | with_reducible assumption
    | (show _ ||| _ = _; decide)
    | with_reducible apply KM.app (g := State.endAxisCmd_keeps ..)
    | with_reducible apply KM.app (g := State.raiseRefused_keeps ..)
    | with_reducible apply KM.app (g := State.abortWindow_keeps ..)
    | with_reducible apply KM.app (g := State.modEnergy_keeps ..)
    | with_reducible apply KM.app (g := State.modAxis_keeps ..)
    | with_reducible apply KM.app (g := State.beginPlan_keeps ..)
    | with_reducible apply KM.app (g := State.fail_keeps ..)
    | with_reducible apply KM.app (g := State.failOwner_keeps ..)
    | (extract_lets +onlyGivenNames x; refine KM.let_ (m := 3004203008) (s := s) (x := x) ?_ ?_; all_goals first | (intro hx; clear_value x) | subst x)
    | (extract_lets +onlyGivenNames v; subst v)
    | split

theorem State.doAxisReference_keeps (s : State) (r : Req) (n : ℕ) : KM 3004268544 s (State.doAxisReference s r n) := by
  have hx : KM 3004268544 s s := KM.refl
  unfold State.doAxisReference
  repeat' first
    | with_reducible assumption
    | (show _ ||| _ = _; decide)
    | with_reducible apply KM.app (g := State.refStart_keeps ..)
    | with_reducible apply KM.app (g := State.abortWindow_keeps ..)
    | with_reducible apply KM.app (g := State.fail_keeps ..)
    | with_reducible apply KM.app (g := State.failOwner_keeps ..)
    | (extract_lets +onlyGivenNames x; refine KM.let_ (m := 3004268544) (s := s) (x := x) ?_ ?_; all_goals first | (intro hx; clear_value x) | subst x)
    | (extract_lets +onlyGivenNames v; subst v)
    | split

theorem State.limitMet_keeps (s : State) (a : Axis) (b : Bool) : KM 3003220224 s (State.limitMet s a b) := by
  have hx : KM 3003220224 s s := KM.refl
  unfold State.limitMet
  repeat' first
    | with_reducible assumption
    | (show _ ||| _ = _; decide)
    | with_reducible apply KM.app (g := State.endAxisCmd_keeps ..)
    | with_reducible apply KM.app (g := State.freeze_keeps ..)
    | with_reducible apply KM.app (g := State.raise_keeps ..)
    | with_reducible apply KM.app (g := State.rampStop_keeps ..)
    | with_reducible apply KM.app (g := State.modAxis_keeps ..)
    | (extract_lets +onlyGivenNames x; refine KM.let_ (m := 3003220224) (s := s) (x := x) ?_ ?_; all_goals first | (intro hx; clear_value x) | subst x)
    | (extract_lets +onlyGivenNames v; subst v)
    | split

theorem State.refTick_keeps (s : State) (a : Axis) : KM 3003220224 s (State.refTick s a) := by
  have hx : KM 3003220224 s s := KM.refl
  unfold State.refTick
  repeat' first
    | with_reducible assumption
    | (show _ ||| _ = _; decide)
    | with_reducible apply KM.app (g := State.refFail_keeps ..)
    | with_reducible apply KM.app (g := State.refDone_keeps ..)
    | with_reducible apply KM.app (g := State.modAxis_keeps ..)
    | with_reducible apply KM.app (g := State.refMet_keeps ..)
    | with_reducible apply KM.app (g := State.encWrong_keeps ..)
    | with_reducible apply KM.app (g := State.refPlanEnd_keeps ..)
    | (extract_lets +onlyGivenNames x; refine KM.let_ (m := 3003220224) (s := s) (x := x) ?_ ?_; all_goals first | (intro hx; clear_value x) | subst x)
    | (extract_lets +onlyGivenNames v; subst v)
    | split

theorem State.noteCycle_keeps (s : State) (d : Doorway) (f : CycleRec → CycleRec) : KM 8589934592 s (State.noteCycle s d f) := by
  have hx : KM 8589934592 s s := KM.refl
  unfold State.noteCycle
  repeat' first
    | with_reducible assumption
    | intro hx
    | ((with_reducible apply Lit.mk); intro p hp; first | (cases p <;> first | exact absurd hp (by decide) | exact rfl) | (split <;> cases p <;> first | exact absurd hp (by decide) | exact rfl) | (split <;> split <;> cases p <;> first | exact absurd hp (by decide) | exact rfl))
    | (show _ ||| _ = _; decide)
    | with_reducible apply KM.modJournal
    | split

theorem State.milestone_keeps (s : State) (d : Doorway) (k : Fin 6) (direction : ℕ) : KM 11593056512 s (State.milestone s d k direction) := by
  have hx : KM 11593056512 s s := KM.refl
  unfold State.milestone
  repeat' first
    | with_reducible assumption
    | (show _ ||| _ = _; decide)
    | with_reducible apply KM.app (g := State.noteCycle_keeps ..)
    | with_reducible apply KM.app (g := State.modPanel_keeps ..)
    | with_reducible apply KM.app (g := State.raise_keeps ..)
    | with_reducible apply KM.app (g := State.sendFallback_keeps ..)
    | with_reducible apply KM.app (g := State.modDoor_keeps ..)
    | (extract_lets +onlyGivenNames x; refine KM.let_ (m := 11593056512) (s := s) (x := x) ?_ ?_; all_goals first | (intro hx; clear_value x) | subst x)
    | (extract_lets +onlyGivenNames v; subst v)
    | split

theorem State.rampLeaves_keeps (s : State) (d : Doorway) : KM 32768 s (State.rampLeaves s d) := by
  have hx : KM 32768 s s := KM.refl
  unfold State.rampLeaves
  repeat' first
    | with_reducible assumption
    | intro hx
    | (show _ ||| _ = _; decide)
    | with_reducible apply KM.each
    | with_reducible apply KM.app (g := State.rampStop_keeps ..)

theorem State.releaseLost_keeps (s : State) (d : Doorway) : KM 33024 s (State.releaseLost s d) := by
  have hx : KM 33024 s s := KM.refl
  unfold State.releaseLost
  repeat' first
    | with_reducible assumption
    | (show _ ||| _ = _; decide)
    | with_reducible apply KM.app (g := State.rampLeaves_keeps ..)
    | with_reducible apply KM.app (g := State.modDoor_keeps ..)
    | (extract_lets +onlyGivenNames x; refine KM.let_ (m := 33024) (s := s) (x := x) ?_ ?_; all_goals first | (intro hx; clear_value x) | subst x)
    | (extract_lets +onlyGivenNames v; subst v)
    | split

theorem State.startOpen_keeps (s : State) (d : Doorway) (evac : Bool) : KM 3003154432 s (State.startOpen s d evac) := by
  have hx : KM 3003154432 s s := KM.refl
  unfold State.startOpen
  repeat' first
    | with_reducible assumption
    | intro hx
    | (show _ ||| _ = _; decide)
    | with_reducible apply KM.each
    | with_reducible apply KM.app (g := State.modAxis_keeps ..)
    | with_reducible apply KM.app (g := State.moveTo_keeps ..)
    | split

theorem State.startClose_keeps (s : State) (d : Doorway) : KM 3003154432 s (State.startClose s d) := by
  have hx : KM 3003154432 s s := KM.refl
  unfold State.startClose
  repeat' first
    | with_reducible assumption
    | intro hx
    | (show _ ||| _ = _; decide)
    | with_reducible apply KM.each
    | with_reducible apply KM.app (g := State.moveTo_keeps ..)

theorem State.endCmd_keeps (s : State) (d : Doorway) (status : Byte) (detail : ℕ) (result : List Byte) : KM 3003121920 s (State.endCmd s d status detail result) := by
  have hx : KM 3003121920 s s := KM.refl
  unfold State.endCmd
  repeat' first
    | with_reducible assumption
    | (show _ ||| _ = _; decide)
    | with_reducible apply KM.app (g := State.completeAll_keeps ..)
    | with_reducible apply KM.app (g := State.modDoor_keeps ..)
    | split

theorem State.finishDoor_keeps (s : State) (d : Doorway) : KM 3003121920 s (State.finishDoor s d) := by
  have hx : KM 3003121920 s s := KM.refl
  unfold State.finishDoor
  repeat' first
    | with_reducible assumption
    | (show _ ||| _ = _; decide)
    | with_reducible apply KM.app (g := State.endCmd_keeps ..)
    | with_reducible apply KM.app (g := State.completeAll_keeps ..)
    | with_reducible apply KM.app (g := State.modDoor_keeps ..)
    | (extract_lets +onlyGivenNames x; refine KM.let_ (m := 3003121920) (s := s) (x := x) ?_ ?_; all_goals first | (intro hx; clear_value x) | subst x)
    | (extract_lets +onlyGivenNames v; subst v)
    | split

theorem State.sendStatus_keeps (s : State) (d : Doorway) : KM 268435456 s (State.sendStatus s d) := by
  have hx : KM 268435456 s s := KM.refl
  unfold State.sendStatus
  repeat' first
    | with_reducible assumption
    | (show _ ||| _ = _; decide)
    | with_reducible apply KM.app (g := State.sendFallback_keeps ..)
    | (extract_lets +onlyGivenNames x; refine KM.let_ (m := 268435456) (s := s) (x := x) ?_ ?_; all_goals first | (intro hx; clear_value x) | subst x)
    | (extract_lets +onlyGivenNames v; subst v)
    | split

theorem State.releaseLock_keeps (s : State) (d : Doorway) : KM 3003154688 s (State.releaseLock s d) := by
  have hx : KM 3003154688 s s := KM.refl
  unfold State.releaseLock
  repeat' first
    | with_reducible assumption
    | intro hx
    | (show _ ||| _ = _; decide)
    | with_reducible apply KM.each
    | with_reducible apply KM.app (g := State.modDoor_keeps ..)
    | with_reducible apply KM.app (g := State.moveTo_keeps ..)
    | split

theorem State.enterStep_keeps (s : State) (d : Doorway) (new : StepSt) (cause : Cause) : KM 11593089280 s (State.enterStep s d new cause) := by
  have hx : KM 11593089280 s s := KM.refl
  unfold State.enterStep
  repeat' first
    | with_reducible assumption
    | (show _ ||| _ = _; decide)
    | with_reducible apply KM.app (g := State.noteCycle_keeps ..)
    | with_reducible apply KM.app (g := State.raise_keeps ..)
    | with_reducible apply KM.app (g := State.rampStop_keeps ..)
    | with_reducible apply KM.app (g := State.milestone_keeps ..)
    | with_reducible apply KM.app (g := State.modDoor_keeps ..)
    | (extract_lets +onlyGivenNames x; refine KM.let_ (m := 11593089280) (s := s) (x := x) ?_ ?_; all_goals first | (intro hx; clear_value x) | subst x)
    | (extract_lets +onlyGivenNames v; subst v)
    | split

theorem State.stepObstacle_keeps (s : State) (d : Doorway) (src : ℕ) : KM 11593089280 s (State.stepObstacle s d src) := by
  have hx : KM 11593089280 s s := KM.refl
  unfold State.stepObstacle
  repeat' first
    | with_reducible assumption
    | (show _ ||| _ = _; decide)
    | with_reducible apply KM.app (g := State.noteCycle_keeps ..)
    | with_reducible apply KM.app (g := State.raise_keeps ..)
    | with_reducible apply KM.app (g := State.enterStep_keeps ..)
    | with_reducible apply KM.app (g := State.modDoor_keeps ..)
    | with_reducible apply KM.app (g := State.reverseTo_keeps ..)
    | (extract_lets +onlyGivenNames x; refine KM.let_ (m := 11593089280) (s := s) (x := x) ?_ ?_; all_goals first | (intro hx; clear_value x) | subst x)
    | (extract_lets +onlyGivenNames v; subst v)
    | split

theorem State.endCycle_keeps (s : State) (d : Doorway) (kind : ℕ) : KM 10737418240 s (State.endCycle s d kind) := by
  have hx : KM 10737418240 s s := KM.refl
  unfold State.endCycle
  repeat' first
    | with_reducible assumption
    | intro hx
    | ((with_reducible apply Lit.mk); intro p hp; first | (cases p <;> first | exact absurd hp (by decide) | exact rfl) | (split <;> cases p <;> first | exact absurd hp (by decide) | exact rfl) | (split <;> split <;> cases p <;> first | exact absurd hp (by decide) | exact rfl))
    | (show _ ||| _ = _; decide)
    | with_reducible apply KM.app (g := State.stage_keeps ..)
    | with_reducible apply KM.modJournal
    | (extract_lets +onlyGivenNames x; refine KM.let_ (m := 10737418240) (s := s) (x := x) ?_ ?_; all_goals first | (intro hx; clear_value x) | subst x)
    | (extract_lets +onlyGivenNames v; subst v)
    | split

theorem State.beginCycle_keeps (s : State) (d : Doorway) : KM 8589934592 s (State.beginCycle s d) := by
  have hx : KM 8589934592 s s := KM.refl
  unfold State.beginCycle
  repeat' first
    | with_reducible assumption
    | intro hx
    | ((with_reducible apply Lit.mk); intro p hp; cases p <;> first | exact absurd hp (by decide) | exact rfl)
    | (show _ ||| _ = _; decide)
    | with_reducible apply KM.modJournal

theorem State.enterLeaf_keeps (s : State) (d : Doorway) (new : Leaf) (cause : Cause) : KM 11593056512 s (State.enterLeaf s d new cause) := by
  have hx : KM 11593056512 s s := KM.refl
  unfold State.enterLeaf
  repeat' first
    | with_reducible assumption
    | (show _ ||| _ = _; decide)
    | with_reducible apply KM.app (g := State.noteCycle_keeps ..)
    | with_reducible apply KM.app (g := State.sendStatus_keeps ..)
    | with_reducible apply KM.app (g := State.endCycle_keeps ..)
    | with_reducible apply KM.app (g := State.raise_keeps ..)
    | with_reducible apply KM.app (g := State.milestone_keeps ..)
    | with_reducible apply KM.app (g := State.modDoor_keeps ..)
    | with_reducible apply KM.app (g := State.beginCycle_keeps ..)
    | (extract_lets +onlyGivenNames x; refine KM.let_ (m := 11593056512) (s := s) (x := x) ?_ ?_; all_goals first | (intro hx; clear_value x) | subst x)
    | (extract_lets +onlyGivenNames v; subst v)
    | split

theorem State.enterFault_keeps (s : State) (d : Doorway) (cause : Cause) : KM 11593154816 s (State.enterFault s d cause) := by
  have hx : KM 11593154816 s s := KM.refl
  unfold State.enterFault
  repeat' first
    | with_reducible assumption
    | intro hx
    | (show _ ||| _ = _; decide)
    | with_reducible apply KM.app (g := State.enterLeaf_keeps ..)
    | with_reducible apply KM.app (g := State.freeze_keeps ..)
    | with_reducible apply KM.app (g := State.endCmd_keeps ..)
    | with_reducible apply KM.each
    | with_reducible apply KM.app (g := State.modDoor_keeps ..)
    | (extract_lets +onlyGivenNames x; refine KM.let_ (m := 11593154816) (s := s) (x := x) ?_ ?_; all_goals first | (intro hx; clear_value x) | subst x)
    | (extract_lets +onlyGivenNames v; subst v)
    | split

theorem State.leafTimeout_keeps (s : State) (d : Doorway) (n : ℕ) : KM 11593154816 s (State.leafTimeout s d n) := by
  have hx : KM 11593154816 s s := KM.refl
  unfold State.leafTimeout
  repeat' first
    | with_reducible assumption
    | (show _ ||| _ = _; decide)
    | with_reducible apply KM.app (g := State.enterFault_keeps ..)
    | with_reducible apply KM.app (g := State.raise_keeps ..)

theorem State.emergency_keeps (s : State) (d : Doorway) : KM 11593089280 s (State.emergency s d) := by
  have hx : KM 11593089280 s s := KM.refl
  unfold State.emergency
  repeat' first
    | with_reducible assumption
    | intro hx
    | (show _ ||| _ = _; decide)
    | with_reducible apply KM.app (g := State.enterLeaf_keeps ..)
    | with_reducible apply KM.app (g := State.endCmd_keeps ..)
    | with_reducible apply KM.each
    | with_reducible apply KM.app (g := State.rampLeaves_keeps ..)
    | with_reducible apply KM.app (g := State.raise_keeps ..)
    | with_reducible apply KM.app (g := State.rampStop_keeps ..)
    | with_reducible apply KM.app (g := State.modDoor_keeps ..)
    | (extract_lets +onlyGivenNames x; refine KM.let_ (m := 11593089280) (s := s) (x := x) ?_ ?_; all_goals first | (intro hx; clear_value x) | subst x)
    | (extract_lets +onlyGivenNames v; subst v)
    | split

theorem State.startStow_keeps (s : State) (d : Doorway) (cause : Cause) : KM 11593089280 s (State.startStow s d cause) := by
  have hx : KM 11593089280 s s := KM.refl
  unfold State.startStow
  repeat' first
    | with_reducible assumption
    | (show _ ||| _ = _; decide)
    | with_reducible apply KM.app (g := State.enterStep_keeps ..)
    | with_reducible apply KM.app (g := State.moveTo_keeps ..)
    | split

theorem State.startDeploy_keeps (s : State) (d : Doorway) (cause : Cause) : KM 11593089280 s (State.startDeploy s d cause) := by
  have hx : KM 11593089280 s s := KM.refl
  unfold State.startDeploy
  repeat' first
    | with_reducible assumption
    | (show _ ||| _ = _; decide)
    | with_reducible apply KM.app (g := State.enterStep_keeps ..)
    | with_reducible apply KM.app (g := State.moveTo_keeps ..)
    | split

theorem State.stepStep_keeps (s : State) (d : Doorway) : KM 11593089280 s (State.stepStep s d) := by
  have hx : KM 11593089280 s s := KM.refl
  unfold State.stepStep
  repeat' first
    | with_reducible assumption
    | (show _ ||| _ = _; decide)
    | with_reducible apply KM.app (g := State.stepObstacle_keeps ..)
    | with_reducible apply KM.app (g := State.raise_keeps ..)
    | with_reducible apply KM.app (g := State.enterStep_keeps ..)
    | with_reducible apply KM.app (g := State.modDoor_keeps ..)
    | with_reducible apply KM.app (g := State.startStow_keeps ..)
    | with_reducible apply KM.app (g := State.startDeploy_keeps ..)
    | (extract_lets +onlyGivenNames x; refine KM.let_ (m := 11593089280) (s := s) (x := x) ?_ ?_; all_goals first | (intro hx; clear_value x) | subst x)
    | (extract_lets +onlyGivenNames v; subst v)
    | split

theorem State.obstacle_keeps (s : State) (d : Doorway) (src : ℕ) : KM 11593105664 s (State.obstacle s d src) := by
  have hx : KM 11593105664 s s := KM.refl
  unfold State.obstacle
  repeat' first
    | with_reducible assumption
    | intro hx
    | (show _ ||| _ = _; decide)
    | with_reducible apply KM.app (g := State.enterLeaf_keeps ..)
    | with_reducible apply KM.app (g := State.noteCycle_keeps ..)
    | with_reducible apply KM.each
    | with_reducible apply KM.app (g := State.raise_keeps ..)
    | with_reducible apply KM.app (g := State.modDoor_keeps ..)
    | with_reducible apply KM.app (g := State.reverseTo_keeps ..)
    | with_reducible apply KM.app (g := State.modObst_keeps ..)
    | (extract_lets +onlyGivenNames x; refine KM.let_ (m := 11593105664) (s := s) (x := x) ?_ ?_; all_goals first | (intro hx; clear_value x) | subst x)
    | (extract_lets +onlyGivenNames v; subst v)
    | split

theorem State.endOpen_keeps (s : State) (d : Doorway) : KM 11593056512 s (State.endOpen s d) := by
  have hx : KM 11593056512 s s := KM.refl
  unfold State.endOpen
  repeat' first
    | with_reducible assumption
    | (show _ ||| _ = _; decide)
    | with_reducible apply KM.app (g := State.noteCycle_keeps ..)
    | with_reducible apply KM.app (g := State.endCmd_keeps ..)
    | (extract_lets +onlyGivenNames x; refine KM.let_ (m := 11593056512) (s := s) (x := x) ?_ ?_; all_goals first | (intro hx; clear_value x) | subst x)
    | (extract_lets +onlyGivenNames v; subst v)
    | split

theorem State.settleOpen_keeps (s : State) (d : Doorway) : KM 11593056512 s (State.settleOpen s d) := by
  have hx : KM 11593056512 s s := KM.refl
  unfold State.settleOpen
  repeat' first
    | with_reducible assumption
    | (show _ ||| _ = _; decide)
    | with_reducible apply KM.app (g := State.enterLeaf_keeps ..)
    | with_reducible apply KM.app (g := State.noteCycle_keeps ..)
    | with_reducible apply KM.app (g := State.endCmd_keeps ..)
    | with_reducible apply KM.app (g := State.raise_keeps ..)
    | with_reducible apply KM.app (g := State.endOpen_keeps ..)
    | (extract_lets +onlyGivenNames x; refine KM.let_ (m := 11593056512) (s := s) (x := x) ?_ ?_; all_goals first | (intro hx; clear_value x) | subst x)
    | (extract_lets +onlyGivenNames v; subst v)
    | split

theorem State.reopenEnd_keeps (s : State) (d : Doorway) : KM 11593056512 s (State.reopenEnd s d) := by
  have hx : KM 11593056512 s s := KM.refl
  unfold State.reopenEnd
  repeat' first
    | with_reducible assumption
    | (show _ ||| _ = _; decide)
    | with_reducible apply KM.app (g := State.enterLeaf_keeps ..)
    | with_reducible apply KM.app (g := State.noteCycle_keeps ..)
    | with_reducible apply KM.app (g := State.endCmd_keeps ..)
    | with_reducible apply KM.app (g := State.raise_keeps ..)
    | with_reducible apply KM.app (g := State.modDoor_keeps ..)
    | (extract_lets +onlyGivenNames x; refine KM.let_ (m := 11593056512) (s := s) (x := x) ?_ ?_; all_goals first | (intro hx; clear_value x) | subst x)
    | (extract_lets +onlyGivenNames v; subst v)
    | split

theorem State.emergencyStep_keeps (s : State) (d : Doorway) : KM 3003154688 s (State.emergencyStep s d) := by
  have hx : KM 3003154688 s s := KM.refl
  unfold State.emergencyStep
  repeat' first
    | with_reducible assumption
    | intro hx
    | (show _ ||| _ = _; decide)
    | with_reducible apply KM.app (g := State.releaseLock_keeps ..)
    | with_reducible apply KM.each
    | with_reducible apply KM.app (g := State.modDoor_keeps ..)
    | with_reducible apply KM.app (g := State.startOpen_keeps ..)
    | with_reducible apply KM.app (g := State.coilsOff_keeps ..)
    | with_reducible apply KM.app (g := State.makeUncertain_keeps ..)
    | (extract_lets +onlyGivenNames x; refine KM.let_ (m := 3003154688) (s := s) (x := x) ?_ ?_; all_goals first | (intro hx; clear_value x) | subst x)
    | (extract_lets +onlyGivenNames v; subst v)
    | split

theorem State.engageLock_keeps (s : State) (d : Doorway) : KM 3003154688 s (State.engageLock s d) := by
  have hx : KM 3003154688 s s := KM.refl
  unfold State.engageLock
  repeat' first
    | with_reducible assumption
    | intro hx
    | (show _ ||| _ = _; decide)
    | with_reducible apply KM.each
    | with_reducible apply KM.app (g := State.modDoor_keeps ..)
    | with_reducible apply KM.app (g := State.moveTo_keeps ..)
    | split

theorem State.takeOpen_keeps (s : State) (d : Doorway) : KM 11593089280 s (State.takeOpen s d) := by
  have hx : KM 11593089280 s s := KM.refl
  unfold State.takeOpen
  repeat' first
    | with_reducible assumption
    | (show _ ||| _ = _; decide)
    | with_reducible apply KM.app (g := State.enterLeaf_keeps ..)
    | with_reducible apply KM.app (g := State.modDoor_keeps ..)
    | with_reducible apply KM.app (g := State.endOpen_keeps ..)
    | with_reducible apply KM.app (g := State.startOpen_keeps ..)
    | (extract_lets +onlyGivenNames x; refine KM.let_ (m := 11593089280) (s := s) (x := x) ?_ ?_; all_goals first | (intro hx; clear_value x) | subst x)
    | (extract_lets +onlyGivenNames v; subst v)
    | split

theorem State.endWarn_keeps (s : State) (d : Doorway) : KM 11593089280 s (State.endWarn s d) := by
  have hx : KM 11593089280 s s := KM.refl
  unfold State.endWarn
  repeat' first
    | with_reducible assumption
    | (show _ ||| _ = _; decide)
    | with_reducible apply KM.app (g := State.enterLeaf_keeps ..)
    | with_reducible apply KM.app (g := State.noteCycle_keeps ..)
    | with_reducible apply KM.app (g := State.raiseRefused_keeps ..)
    | with_reducible apply KM.app (g := State.endCmd_keeps ..)
    | with_reducible apply KM.app (g := State.startClose_keeps ..)
    | (extract_lets +onlyGivenNames x; refine KM.let_ (m := 11593089280) (s := s) (x := x) ?_ ?_; all_goals first | (intro hx; clear_value x) | subst x)
    | (extract_lets +onlyGivenNames v; subst v)
    | split

theorem State.leafStep_keeps (s : State) (d : Doorway) : KM 11593171200 s (State.leafStep s d) := by
  have hx : KM 11593171200 s s := KM.refl
  unfold State.leafStep
  repeat' first
    | with_reducible assumption
    | (show _ ||| _ = _; decide)
    | with_reducible apply KM.app (g := State.enterLeaf_keeps ..)
    | with_reducible apply KM.app (g := State.enterFault_keeps ..)
    | with_reducible apply KM.app (g := State.noteCycle_keeps ..)
    | with_reducible apply KM.app (g := State.releaseLock_keeps ..)
    | with_reducible apply KM.app (g := State.emergency_keeps ..)
    | with_reducible apply KM.app (g := State.obstacle_keeps ..)
    | with_reducible apply KM.app (g := State.settleOpen_keeps ..)
    | with_reducible apply KM.app (g := State.endCmd_keeps ..)
    | with_reducible apply KM.app (g := State.reopenEnd_keeps ..)
    | with_reducible apply KM.app (g := State.emergencyStep_keeps ..)
    | with_reducible apply KM.app (g := State.engageLock_keeps ..)
    | with_reducible apply KM.app (g := State.rampLeaves_keeps ..)
    | with_reducible apply KM.app (g := State.raise_keeps ..)
    | with_reducible apply KM.app (g := State.takeOpen_keeps ..)
    | with_reducible apply KM.app (g := State.modDoor_keeps ..)
    | with_reducible apply KM.app (g := State.endOpen_keeps ..)
    | with_reducible apply KM.app (g := State.leafTimeout_keeps ..)
    | with_reducible apply KM.app (g := State.startOpen_keeps ..)
    | with_reducible apply KM.app (g := State.endWarn_keeps ..)
    | with_reducible apply KM.app (g := State.modObst_keeps ..)
    | (extract_lets +onlyGivenNames x; refine KM.let_ (m := 11593171200) (s := s) (x := x) ?_ ?_; all_goals first | (intro hx; clear_value x) | subst x)
    | (extract_lets +onlyGivenNames v; subst v)
    | split

theorem State.resetStep_keeps (s : State) (d : Doorway) : KM 11593089280 s (State.resetStep s d) := by
  have hx : KM 11593089280 s s := KM.refl
  unfold State.resetStep
  repeat' first
    | with_reducible assumption
    | (show _ ||| _ = _; decide)
    | with_reducible apply KM.app (g := State.enterLeaf_keeps ..)
    | with_reducible apply KM.app (g := State.completeAll_keeps ..)
    | with_reducible apply KM.app (g := State.modDoor_keeps ..)
    | with_reducible apply KM.app (g := State.startStow_keeps ..)
    | (extract_lets +onlyGivenNames x; refine KM.let_ (m := 11593089280) (s := s) (x := x) ?_ ?_; all_goals first | (intro hx; clear_value x) | subst x)
    | (extract_lets +onlyGivenNames v; subst v)
    | split

theorem State.runDoor_keeps (s : State) (d : Doorway) : KM 11593171200 s (State.runDoor s d) := by
  have hx : KM 11593171200 s s := KM.refl
  unfold State.runDoor
  repeat' first
    | with_reducible assumption
    | (show _ ||| _ = _; decide)
    | with_reducible apply KM.app (g := State.stepStep_keeps ..)
    | with_reducible apply KM.app (g := State.leafStep_keeps ..)
    | with_reducible apply KM.app (g := State.finishDoor_keeps ..)
    | with_reducible apply KM.app (g := State.resetStep_keeps ..)

theorem State.keyTurnedOff_keeps (s : State) (d : Doorway) : KM 11593171200 s (State.keyTurnedOff s d) := by
  have hx : KM 11593171200 s s := KM.refl
  unfold State.keyTurnedOff
  repeat' first
    | with_reducible assumption
    | (show _ ||| _ = _; decide)
    | with_reducible apply KM.app (g := State.leafStep_keeps ..)
    | with_reducible apply KM.app (g := State.modDoor_keeps ..)

theorem State.preempt_keeps (s : State) (d : Doorway) (r : Req) : KM 3003121920 s (State.preempt s d r) := by
  have hx : KM 3003121920 s s := KM.refl
  unfold State.preempt
  repeat' first
    | with_reducible assumption
    | (show _ ||| _ = _; decide)
    | with_reducible apply KM.app (g := State.endCmd_keeps ..)

theorem State.charge_keeps (s : State) (d : Doorway) (ms : List Movement) : KM 8590983168 s (State.charge s d ms) := by
  have hx : KM 8590983168 s s := KM.refl
  unfold State.charge
  repeat' first
    | with_reducible assumption
    | intro hx
    | ((with_reducible apply Lit.mk); intro p hp; first | (cases p <;> first | exact absurd hp (by decide) | exact rfl) | (split <;> cases p <;> first | exact absurd hp (by decide) | exact rfl) | (split <;> split <;> cases p <;> first | exact absurd hp (by decide) | exact rfl))
    | (show _ ||| _ = _; decide)
    | with_reducible apply KM.app (g := State.modEnergy_keeps ..)
    | with_reducible apply KM.modJournal
    | split

theorem State.acceptDoor_keeps (s : State) (d : Doorway) (op : DoorOp) (r : Req) (grant : Admit) : KM 11594203392 s (State.acceptDoor s d op r grant) := by
  have hx : KM 11594203392 s s := KM.refl
  unfold State.acceptDoor
  repeat' first
    | with_reducible assumption
    | intro hx
    | ((with_reducible apply Lit.mk); intro p hp; first | (cases p <;> first | exact absurd hp (by decide) | exact rfl) | (split <;> cases p <;> first | exact absurd hp (by decide) | exact rfl) | (split <;> split <;> cases p <;> first | exact absurd hp (by decide) | exact rfl))
    | (show _ ||| _ = _; decide)
    | with_reducible apply KM.app (g := State.refStart_keeps ..)
    | with_reducible apply KM.app (g := State.preempt_keeps ..)
    | with_reducible apply KM.app (g := State.freeze_keeps ..)
    | with_reducible apply KM.app (g := State.noteCycle_keeps ..)
    | with_reducible apply KM.each
    | with_reducible apply KM.app (g := State.raise_keeps ..)
    | with_reducible apply KM.app (g := State.abortWindow_keeps ..)
    | with_reducible apply KM.app (g := State.ok_keeps ..)
    | with_reducible apply KM.app (g := State.modDoor_keeps ..)
    | with_reducible apply KM.app (g := State.charge_keeps ..)
    | with_reducible apply KM.modJournal
    | (extract_lets +onlyGivenNames x; refine KM.let_ (m := 11594203392) (s := s) (x := x) ?_ ?_; all_goals first | (intro hx; clear_value x) | subst x)
    | (extract_lets +onlyGivenNames v; subst v)
    | split

theorem State.zsLost_keeps (s : State) (d : Doorway) : KM 3003154688 s (State.zsLost s d) := by
  have hx : KM 3003154688 s s := KM.refl
  unfold State.zsLost
  repeat' first
    | with_reducible assumption
    | (show _ ||| _ = _; decide)
    | with_reducible apply KM.app (g := State.rampLeaves_keeps ..)
    | with_reducible apply KM.app (g := State.raise_keeps ..)
    | with_reducible apply KM.app (g := State.modDoor_keeps ..)
    | (extract_lets +onlyGivenNames x; refine KM.let_ (m := 3003154688) (s := s) (x := x) ?_ ?_; all_goals first | (intro hx; clear_value x) | subst x)
    | (extract_lets +onlyGivenNames v; subst v)
    | split

theorem State.addMerged_keeps (s : State) (d : Doorway) (op : DoorOp) (r : Req) (rest : List Req) : KM 3003121920 s (State.addMerged s d op r rest) := by
  have hx : KM 3003121920 s s := KM.refl
  unfold State.addMerged
  repeat' first
    | with_reducible assumption
    | (show _ ||| _ = _; decide)
    | with_reducible apply KM.app (g := State.completeAll_keeps ..)
    | with_reducible apply KM.app (g := State.modDoor_keeps ..)
    | (extract_lets +onlyGivenNames x; refine KM.let_ (m := 3003121920) (s := s) (x := x) ?_ ?_; all_goals first | (intro hx; clear_value x) | subst x)
    | (extract_lets +onlyGivenNames v; subst v)
    | split

theorem State.runDoorOp_keeps (s : State) (r : Req) (rest : List Req) (d : Doorway) (op : DoorOp) (grant : Admit) : KM 11594219776 s (State.runDoorOp s r rest d op grant) := by
  have hx : KM 11594219776 s s := KM.refl
  unfold State.runDoorOp
  repeat' first
    | with_reducible assumption
    | (show _ ||| _ = _; decide)
    | with_reducible apply KM.app (g := State.raiseRefused_keeps ..)
    | with_reducible apply KM.app (g := State.completeAll_keeps ..)
    | with_reducible apply KM.app (g := State.runDoor_keeps ..)
    | with_reducible apply KM.app (g := State.acceptDoor_keeps ..)
    | with_reducible apply KM.app (g := State.addMerged_keeps ..)
    | (extract_lets +onlyGivenNames x; refine KM.let_ (m := 11594219776) (s := s) (x := x) ?_ ?_; all_goals first | (intro hx; clear_value x) | subst x)
    | (extract_lets +onlyGivenNames v; subst v)
    | split

theorem State.doDoor_keeps (s : State) (r : Req) (d : Doorway) (op : DoorOp) : KM 11594219776 s (State.doDoor s r d op) := by
  have hx : KM 11594219776 s s := KM.refl
  unfold State.doDoor
  repeat' first
    | with_reducible assumption
    | (show _ ||| _ = _; decide)
    | with_reducible apply KM.app (g := State.runDoorOp_keeps ..)
    | with_reducible apply KM.app (g := State.fail_keeps ..)
    | split

theorem State.keyTurnedOn_keeps (s : State) (d : Doorway) : KM 11593171200 s (State.keyTurnedOn s d) := by
  have hx : KM 11593171200 s s := KM.refl
  unfold State.keyTurnedOn
  repeat' first
    | with_reducible assumption
    | (show _ ||| _ = _; decide)
    | with_reducible apply KM.app (g := State.leafStep_keeps ..)
    | with_reducible apply KM.app (g := State.raise_keeps ..)
    | with_reducible apply KM.app (g := State.modDoor_keeps ..)
    | (extract_lets +onlyGivenNames x; refine KM.let_ (m := 11593171200) (s := s) (x := x) ?_ ?_; all_goals first | (intro hx; clear_value x) | subst x)
    | (extract_lets +onlyGivenNames v; subst v)
    | split

theorem State.leafTimer_keeps {m : Nat} {s0 s : State} {d : Doorway} {inState : Leaf} {o : Nat} {act : State → State}
    (h : KM m s0 s) (hf : ∀ t, KM m s0 t → KM m s0 (act t)) (hm : 1073741827 ||| m = m) :
    KM m s0 (s.leafTimer d inState o act) := by
  unfold State.leafTimer
  extract_lets
  split
  · exact hf _ (KM.app h (State.until_keeps _ _) hm)
  · exact h

theorem State.modPairOf_keeps (s : State) (core : CoreId) (c : Chan) (f : Pair → Pair) : KM 2048 s (State.modPairOf s core c f) := by
  have hx : KM 2048 s s := KM.refl
  unfold State.modPairOf
  repeat' first
    | with_reducible assumption
    | (show _ ||| _ = _; decide)
    | (extract_lets +onlyGivenNames x; refine KM.let_ (m := 2048) (s := s) (x := x) ?_ ?_; all_goals first | (intro hx; clear_value x) | subst x)
    | (extract_lets +onlyGivenNames v; subst v)
    | ((with_reducible apply KM.mk_); intro p hp; cases p <;> first | exact absurd hp (by decide) | exact hx.get _ hp | rfl)

theorem State.setPair_keeps (s : State) (core : CoreId) (c : Chan) (v : PairVal) : KM 3003123712 s (State.setPair s core c v) := by
  have hx : KM 3003123712 s s := KM.refl
  unfold State.setPair
  repeat' first
    | with_reducible assumption
    | (show _ ||| _ = _; decide)
    | with_reducible apply KM.app (g := State.modPairOf_keeps ..)
    | with_reducible apply KM.app (g := State.raise_keeps ..)
    | (extract_lets +onlyGivenNames x; refine KM.let_ (m := 3003123712) (s := s) (x := x) ?_ ?_; all_goals first | (intro hx; clear_value x) | subst x)
    | (extract_lets +onlyGivenNames v; subst v)
    | split

theorem State.refsWithoutClaim_keeps (s : State) : KM 3003220224 s (State.refsWithoutClaim s) := by
  have hx : KM 3003220224 s s := KM.refl
  unfold State.refsWithoutClaim
  repeat' first
    | with_reducible assumption
    | intro hx
    | (show _ ||| _ = _; decide)
    | with_reducible apply KM.each
    | with_reducible apply KM.app (g := State.refFail_keeps ..)
    | with_reducible apply KM.app (g := State.rampStop_keeps ..)
    | split

theorem State.loseClaims_keeps (s : State) (p : Party) (reason : ℕ) : KM 11593155328 s (State.loseClaims s p reason) := by
  have hx : KM 11593155328 s s := KM.refl
  unfold State.loseClaims
  repeat' first
    | with_reducible assumption
    | (show _ ||| _ = _; decide)
    | with_reducible apply KM.app (g := State.releaseAll_keeps ..)
    | with_reducible apply KM.app (g := State.refsWithoutClaim_keeps ..)

theorem State.tlTakes_keeps (s : State) (d : Doorway) : KM 3003122432 s (State.tlTakes s d) := by
  have hx : KM 3003122432 s s := KM.refl
  unfold State.tlTakes
  repeat' first
    | with_reducible assumption
    | (show _ ||| _ = _; decide)
    | with_reducible apply KM.app (g := State.setOwner_keeps ..)
    | with_reducible apply KM.app (g := State.raise_keeps ..)

theorem State.loopClose_keeps (s : State) (core : CoreId) : KM 3003125760 s (State.loopClose s core) := by
  have hx : KM 3003125760 s s := KM.refl
  unfold State.loopClose
  repeat' first
    | with_reducible assumption
    | intro hx
    | ((with_reducible apply Lit.mk); intro p hp; cases p <;> first | exact absurd hp (by decide) | exact rfl)
    | (show _ ||| _ = _; decide)
    | with_reducible apply KM.modDoors
    | with_reducible apply KM.app (g := State.raise_keeps ..)

theorem State.loopDisagree_keeps (s : State) : KM 3003125760 s (State.loopDisagree s) := by
  have hx : KM 3003125760 s s := KM.refl
  unfold State.loopDisagree
  repeat' first
    | with_reducible assumption
    | intro hx
    | ((with_reducible apply Lit.mk); intro p hp; first | (cases p <;> first | exact absurd hp (by decide) | exact rfl) | (split <;> cases p <;> first | exact absurd hp (by decide) | exact rfl) | (split <;> split <;> cases p <;> first | exact absurd hp (by decide) | exact rfl))
    | (show _ ||| _ = _; decide)
    | with_reducible apply KM.modDoors
    | with_reducible apply KM.app (g := State.raise_keeps ..)
    | (extract_lets +onlyGivenNames x; refine KM.let_ (m := 3003125760) (s := s) (x := x) ?_ ?_; all_goals first | (intro hx; clear_value x) | subst x)
    | (extract_lets +onlyGivenNames v; subst v)
    | split

theorem State.disagreeTick_keeps (s : State) : KM 3003125760 s (State.disagreeTick s) := by
  have hx : KM 3003125760 s s := KM.refl
  unfold State.disagreeTick
  repeat' first
    | with_reducible assumption
    | intro hx
    | ((with_reducible apply Lit.mk); intro p hp; first | (cases p <;> first | exact absurd hp (by decide) | exact rfl) | (split <;> cases p <;> first | exact absurd hp (by decide) | exact rfl) | (split <;> split <;> cases p <;> first | exact absurd hp (by decide) | exact rfl))
    | (show _ ||| _ = _; decide)
    | with_reducible apply KM.app (g := State.loopDisagree_keeps ..)
    | with_reducible apply KM.modDoors
    | (extract_lets +onlyGivenNames x; refine KM.let_ (m := 3003125760) (s := s) (x := x) ?_ ?_; all_goals first | (intro hx; clear_value x) | subst x)
    | (extract_lets +onlyGivenNames v; subst v)
    | split

theorem State.ask_keeps (s : State) (p : Party) (op : Op) : KM 1024 s (State.ask s p op) := by
  have hx : KM 1024 s s := KM.refl
  unfold State.ask
  repeat' first
    | with_reducible assumption
    | (show _ ||| _ = _; decide)
    | (extract_lets +onlyGivenNames x; refine KM.let_ (m := 1024) (s := s) (x := x) ?_ ?_; all_goals first | (intro hx; clear_value x) | subst x)
    | (extract_lets +onlyGivenNames v; subst v)
    | ((with_reducible apply KM.mk_); intro p hp; cases p <;> first | exact absurd hp (by decide) | exact hx.get _ hp | rfl)

theorem State.releaseEdge_keeps (s : State) (d : Doorway) : KM 1280 s (State.releaseEdge s d) := by
  have hx : KM 1280 s s := KM.refl
  unfold State.releaseEdge
  repeat' first
    | with_reducible assumption
    | (show _ ||| _ = _; decide)
    | with_reducible apply KM.app (g := State.ask_keeps ..)
    | with_reducible apply KM.app (g := State.modDoor_keeps ..)
    | (extract_lets +onlyGivenNames x; refine KM.let_ (m := 1280) (s := s) (x := x) ?_ ?_; all_goals first | (intro hx; clear_value x) | subst x)
    | (extract_lets +onlyGivenNames v; subst v)
    | split

theorem State.doDoorStatus_keeps (s : State) (r : Req) (d : Doorway) : KM 3003121664 s (State.doDoorStatus s r d) := by
  have hx : KM 3003121664 s s := KM.refl
  unfold State.doDoorStatus
  repeat' first
    | with_reducible assumption
    | (show _ ||| _ = _; decide)
    | with_reducible apply KM.app (g := State.ok_keeps ..)

theorem State.pairDiscrepant_keeps (s : State) (core : CoreId) (c : Chan) : KM 3003123712 s (State.pairDiscrepant s core c) := by
  have hx : KM 3003123712 s s := KM.refl
  unfold State.pairDiscrepant
  repeat' first
    | with_reducible assumption
    | (show _ ||| _ = _; decide)
    | with_reducible apply KM.app (g := State.modPairOf_keeps ..)
    | with_reducible apply KM.app (g := State.raise_keeps ..)
    | with_reducible apply KM.app (g := State.setPair_keeps ..)
    | (extract_lets +onlyGivenNames x; refine KM.let_ (m := 3003123712) (s := s) (x := x) ?_ ?_; all_goals first | (intro hx; clear_value x) | subst x)
    | (extract_lets +onlyGivenNames v; subst v)
    | split

theorem State.closeTlEdge_keeps (s : State) : KM 9472 s (State.closeTlEdge s) := by
  have hx : KM 9472 s s := KM.refl
  unfold State.closeTlEdge
  repeat' first
    | with_reducible assumption
    | intro hx
    | (show _ ||| _ = _; decide)
    | with_reducible apply KM.app (g := State.ask_keeps ..)
    | with_reducible apply KM.each
    | with_reducible apply KM.app (g := State.modDoor_keeps ..)
    | (extract_lets +onlyGivenNames x; refine KM.let_ (m := 9472) (s := s) (x := x) ?_ ?_; all_goals first | (intro hx; clear_value x) | subst x)
    | (extract_lets +onlyGivenNames v; subst v)
    | split
    | ((with_reducible apply KM.mk_); intro p hp; cases p <;> first | exact absurd hp (by decide) | exact hx.get _ hp | rfl)

theorem State.buttonPressed_keeps (s : State) (d : Doorway) : KM 1024 s (State.buttonPressed s d) := by
  have hx : KM 1024 s s := KM.refl
  unfold State.buttonPressed
  repeat' first
    | with_reducible assumption
    | (show _ ||| _ = _; decide)
    | with_reducible apply KM.app (g := State.ask_keeps ..)
    | split

theorem State.doReleaseClaims_keeps (s : State) (r : Req) (codes : List (BitVec 32)) : KM 11593155328 s (State.doReleaseClaims s r codes) := by
  have hx : KM 11593155328 s s := KM.refl
  unfold State.doReleaseClaims
  repeat' first
    | with_reducible assumption
    | intro hx
    | (show _ ||| _ = _; decide)
    | with_reducible apply KM.app (g := State.releaseClaim_keeps ..)
    | with_reducible apply KM.each
    | with_reducible apply KM.app (g := State.ok_keeps ..)
    | with_reducible apply KM.app (g := State.refsWithoutClaim_keeps ..)
    | with_reducible apply KM.app (g := State.fail_keeps ..)
    | (extract_lets +onlyGivenNames x; refine KM.let_ (m := 11593155328) (s := s) (x := x) ?_ ?_; all_goals first | (intro hx; clear_value x) | subst x)
    | (extract_lets +onlyGivenNames v; subst v)
    | split

theorem State.handleTick_keeps (s : State) (d : Doorway) : KM 256 s (State.handleTick s d) := by
  have hx : KM 256 s s := KM.refl
  unfold State.handleTick
  repeat' first
    | with_reducible assumption
    | (show _ ||| _ = _; decide)
    | with_reducible apply KM.app (g := State.modDoor_keeps ..)
    | (extract_lets +onlyGivenNames x; refine KM.let_ (m := 256) (s := s) (x := x) ?_ ?_; all_goals first | (intro hx; clear_value x) | subst x)
    | (extract_lets +onlyGivenNames v; subst v)
    | split

theorem State.doStepRequest_keeps (s : State) (r : Req) (d : Doorway) : KM 3003121920 s (State.doStepRequest s r d) := by
  have hx : KM 3003121920 s s := KM.refl
  unfold State.doStepRequest
  repeat' first
    | with_reducible assumption
    | (show _ ||| _ = _; decide)
    | with_reducible apply KM.app (g := State.ok_keeps ..)
    | with_reducible apply KM.app (g := State.modDoor_keeps ..)
    | with_reducible apply KM.app (g := State.fail_keeps ..)
    | with_reducible apply KM.app (g := State.failOwner_keeps ..)
    | (extract_lets +onlyGivenNames x; refine KM.let_ (m := 3003121920) (s := s) (x := x) ?_ ?_; all_goals first | (intro hx; clear_value x) | subst x)
    | (extract_lets +onlyGivenNames v; subst v)
    | split

theorem State.evacEdge_keeps (s : State) : KM 9216 s (State.evacEdge s) := by
  have hx : KM 9216 s s := KM.refl
  unfold State.evacEdge
  repeat' first
    | with_reducible assumption
    | intro hx
    | (show _ ||| _ = _; decide)
    | with_reducible apply KM.app (g := State.ask_keeps ..)
    | with_reducible apply KM.each
    | (extract_lets +onlyGivenNames x; refine KM.let_ (m := 9216) (s := s) (x := x) ?_ ?_; all_goals first | (intro hx; clear_value x) | subst x)
    | (extract_lets +onlyGivenNames v; subst v)
    | ((with_reducible apply KM.mk_); intro p hp; cases p <;> first | exact absurd hp (by decide) | exact hx.get _ hp | rfl)

theorem State.doClaim_keeps (s : State) (r : Req) (code : BitVec 32) : KM 3003122432 s (State.doClaim s r code) := by
  have hx : KM 3003122432 s s := KM.refl
  unfold State.doClaim
  repeat' first
    | with_reducible assumption
    | (show _ ||| _ = _; decide)
    | with_reducible apply KM.app (g := State.setOwner_keeps ..)
    | with_reducible apply KM.app (g := State.raise_keeps ..)
    | with_reducible apply KM.app (g := State.ok_keeps ..)
    | with_reducible apply KM.app (g := State.fail_keeps ..)
    | (extract_lets +onlyGivenNames x; refine KM.let_ (m := 3003122432) (s := s) (x := x) ?_ ?_; all_goals first | (intro hx; clear_value x) | subst x)
    | (extract_lets +onlyGivenNames v; subst v)
    | split

theorem State.pairCleared_keeps (s : State) (core : CoreId) (c : Chan) : KM 3003123712 s (State.pairCleared s core c) := by
  have hx : KM 3003123712 s s := KM.refl
  unfold State.pairCleared
  repeat' first
    | with_reducible assumption
    | (show _ ||| _ = _; decide)
    | with_reducible apply KM.app (g := State.modPairOf_keeps ..)
    | with_reducible apply KM.app (g := State.setPair_keeps ..)

theorem State.pairTick_keeps (s : State) (core : CoreId) (c : Chan) : KM 3003123712 s (State.pairTick s core c) := by
  have hx : KM 3003123712 s s := KM.refl
  unfold State.pairTick
  repeat' first
    | with_reducible assumption
    | (show _ ||| _ = _; decide)
    | with_reducible apply KM.app (g := State.modPairOf_keeps ..)
    | with_reducible apply KM.app (g := State.pairCleared_keeps ..)
    | with_reducible apply KM.app (g := State.pairDiscrepant_keeps ..)
    | with_reducible apply KM.app (g := State.setPair_keeps ..)
    | (extract_lets +onlyGivenNames x; refine KM.let_ (m := 3003123712) (s := s) (x := x) ?_ ?_; all_goals first | (intro hx; clear_value x) | subst x)
    | (extract_lets +onlyGivenNames v; subst v)
    | split

theorem State.lockTimeout_keeps (s : State) (d : Doorway) : KM 11593154816 s (State.lockTimeout s d) := by
  have hx : KM 11593154816 s s := KM.refl
  unfold State.lockTimeout
  repeat' first
    | with_reducible assumption
    | (show _ ||| _ = _; decide)
    | with_reducible apply KM.app (g := State.enterLeaf_keeps ..)
    | with_reducible apply KM.app (g := State.noteCycle_keeps ..)
    | with_reducible apply KM.app (g := State.engageLock_keeps ..)
    | with_reducible apply KM.app (g := State.modDoor_keeps ..)
    | with_reducible apply KM.app (g := State.leafTimeout_keeps ..)
    | (extract_lets +onlyGivenNames x; refine KM.let_ (m := 11593154816) (s := s) (x := x) ?_ ?_; all_goals first | (intro hx; clear_value x) | subst x)
    | (extract_lets +onlyGivenNames v; subst v)
    | split

theorem State.loopDrop_keeps (s : State) (core : CoreId) (cause : ℕ) : KM 3003125760 s (State.loopDrop s core cause) := by
  have hx : KM 3003125760 s s := KM.refl
  unfold State.loopDrop
  repeat' first
    | with_reducible assumption
    | intro hx
    | ((with_reducible apply Lit.mk); intro p hp; cases p <;> first | exact absurd hp (by decide) | exact rfl)
    | (show _ ||| _ = _; decide)
    | with_reducible apply KM.modDoors
    | with_reducible apply KM.app (g := State.raise_keeps ..)

theorem State.loopTick_keeps (s : State) (core : CoreId) : KM 3003125760 s (State.loopTick s core) := by
  have hx : KM 3003125760 s s := KM.refl
  unfold State.loopTick
  repeat' first
    | with_reducible assumption
    | intro hx
    | ((with_reducible apply Lit.mk); intro p hp; first | (cases p <;> first | exact absurd hp (by decide) | exact rfl) | (split <;> cases p <;> first | exact absurd hp (by decide) | exact rfl) | (split <;> split <;> cases p <;> first | exact absurd hp (by decide) | exact rfl))
    | (show _ ||| _ = _; decide)
    | with_reducible apply KM.app (g := State.loopDrop_keeps ..)
    | with_reducible apply KM.modDoors
    | with_reducible apply KM.app (g := State.loopClose_keeps ..)
    | (extract_lets +onlyGivenNames x; refine KM.let_ (m := 3003125760) (s := s) (x := x) ?_ ?_; all_goals first | (intro hx; clear_value x) | subst x)
    | (extract_lets +onlyGivenNames v; subst v)
    | split

theorem State.doDoorObstacle_keeps (s : State) (r : Req) (d : Doorway) : KM 11593105664 s (State.doDoorObstacle s r d) := by
  have hx : KM 11593105664 s s := KM.refl
  unfold State.doDoorObstacle
  repeat' first
    | with_reducible assumption
    | (show _ ||| _ = _; decide)
    | with_reducible apply KM.app (g := State.obstacle_keeps ..)
    | with_reducible apply KM.app (g := State.ok_keeps ..)
    | with_reducible apply KM.app (g := State.fail_keeps ..)
    | with_reducible apply KM.app (g := State.failOwner_keeps ..)
    | (extract_lets +onlyGivenNames x; refine KM.let_ (m := 11593105664) (s := s) (x := x) ?_ ?_; all_goals first | (intro hx; clear_value x) | subst x)
    | (extract_lets +onlyGivenNames v; subst v)
    | split

theorem State.replanNow_keeps (s : State) (a : Axis) : KM 3003154432 s (State.replanNow s a) := by
  have hx : KM 3003154432 s s := KM.refl
  unfold State.replanNow
  repeat' first
    | with_reducible assumption
    | (show _ ||| _ = _; decide)
    | with_reducible apply KM.app (g := State.moveTo_keeps ..)
    | split

theorem State.setDerated_keeps (s : State) (a : Axis) (d : Bool) : KM 3003154432 s (State.setDerated s a d) := by
  have hx : KM 3003154432 s s := KM.refl
  unfold State.setDerated
  repeat' first
    | with_reducible assumption
    | (show _ ||| _ = _; decide)
    | with_reducible apply KM.app (g := State.replanNow_keeps ..)
    | with_reducible apply KM.app (g := State.raise_keeps ..)
    | with_reducible apply KM.app (g := State.modAxis_keeps ..)
    | (extract_lets +onlyGivenNames x; refine KM.let_ (m := 3003154432) (s := s) (x := x) ?_ ?_; all_goals first | (intro hx; clear_value x) | subst x)
    | (extract_lets +onlyGivenNames v; subst v)
    | split

theorem State.axisLost_keeps (s : State) (a : Axis) : KM 3003220224 s (State.axisLost s a) := by
  have hx : KM 3003220224 s s := KM.refl
  unfold State.axisLost
  repeat' first
    | with_reducible assumption
    | (show _ ||| _ = _; decide)
    | with_reducible apply KM.app (g := State.freeze_keeps ..)

theorem State.takeOut_keeps (s : State) (k : Slot) : KM 3003121824 s (State.takeOut s k) := by
  have hx : KM 3003121824 s s := KM.refl
  unfold State.takeOut
  repeat' first
    | with_reducible assumption
    | (show _ ||| _ = _; decide)
    | with_reducible apply KM.app (g := State.modSlot_keeps ..)
    | with_reducible apply KM.app (g := State.judgeTiers_keeps ..)
    | split

theorem State.encSupplyGone_keeps (s : State) (m : Axis) : KM 32768 s (State.encSupplyGone s m) := by
  have hx : KM 32768 s s := KM.refl
  unfold State.encSupplyGone
  repeat' first
    | with_reducible assumption
    | (show _ ||| _ = _; decide)
    | with_reducible apply KM.app (g := State.modAxis_keeps ..)
    | (extract_lets +onlyGivenNames x; refine KM.let_ (m := 32768) (s := s) (x := x) ?_ ?_; all_goals first | (intro hx; clear_value x) | subst x)
    | (extract_lets +onlyGivenNames v; subst v)
    | split

theorem State.laneGone_keeps (s : State) (m : Axis) : KM 3003220384 s (State.laneGone s m) := by
  have hx : KM 3003220384 s s := KM.refl
  unfold State.laneGone
  repeat' first
    | with_reducible assumption
    | (show _ ||| _ = _; decide)
    | with_reducible apply KM.app (g := State.endAxisCmd_keeps ..)
    | with_reducible apply KM.app (g := State.setDerated_keeps ..)
    | with_reducible apply KM.app (g := State.axisLost_keeps ..)
    | with_reducible apply KM.app (g := State.takeOut_keeps ..)
    | with_reducible apply KM.app (g := State.raise_keeps ..)
    | with_reducible apply KM.app (g := State.rampStop_keeps ..)
    | with_reducible apply KM.app (g := State.modAxis_keeps ..)
    | with_reducible apply KM.app (g := State.makeUncertain_keeps ..)
    | with_reducible apply KM.app (g := State.encSupplyGone_keeps ..)
    | (extract_lets +onlyGivenNames x; refine KM.let_ (m := 3003220384) (s := s) (x := x) ?_ ?_; all_goals first | (intro hx; clear_value x) | subst x)
    | (extract_lets +onlyGivenNames v; subst v)
    | split

theorem State.lossReported_keeps (s : State) (m : Axis) : KM 3003220384 s (State.lossReported s m) := by
  have hx : KM 3003220384 s s := KM.refl
  unfold State.lossReported
  repeat' first
    | with_reducible assumption
    | (show _ ||| _ = _; decide)
    | with_reducible apply KM.app (g := State.modAxMod_keeps ..)
    | with_reducible apply KM.app (g := State.raise_keeps ..)
    | with_reducible apply KM.app (g := State.laneGone_keeps ..)
    | with_reducible apply KM.app (g := State.makeUncertain_keeps ..)
    | (extract_lets +onlyGivenNames x; refine KM.let_ (m := 3003220384) (s := s) (x := x) ?_ ?_; all_goals first | (intro hx; clear_value x) | subst x)
    | (extract_lets +onlyGivenNames v; subst v)
    | split

theorem State.lanesDisagree_keeps (s : State) (a : Axis) (encoders : Bool) (difference : ℕ) : KM 3003154432 s (State.lanesDisagree s a encoders difference) := by
  have hx : KM 3003154432 s s := KM.refl
  unfold State.lanesDisagree
  repeat' first
    | with_reducible assumption
    | (show _ ||| _ = _; decide)
    | with_reducible apply KM.app (g := State.raise_keeps ..)
    | with_reducible apply KM.app (g := State.modAxis_keeps ..)
    | split

theorem State.driveFaultOn_keeps (s : State) (m : Axis) (code : ℕ) (ev : BitVec 10) (items : List Item) : KM 3003220384 s (State.driveFaultOn s m code ev items) := by
  have hx : KM 3003220384 s s := KM.refl
  unfold State.driveFaultOn
  repeat' first
    | with_reducible assumption
    | (show _ ||| _ = _; decide)
    | with_reducible apply KM.app (g := State.modAxMod_keeps ..)
    | with_reducible apply KM.app (g := State.modSlot_keeps ..)
    | with_reducible apply KM.app (g := State.raise_keeps ..)
    | with_reducible apply KM.app (g := State.laneGone_keeps ..)
    | (extract_lets +onlyGivenNames x; refine KM.let_ (m := 3003220384) (s := s) (x := x) ?_ ?_; all_goals first | (intro hx; clear_value x) | subst x)
    | (extract_lets +onlyGivenNames v; subst v)
    | split

theorem State.laneLeaves_keeps (s : State) (m : Axis) : KM 3003154432 s (State.laneLeaves s m) := by
  have hx : KM 3003154432 s s := KM.refl
  unfold State.laneLeaves
  repeat' first
    | with_reducible assumption
    | (show _ ||| _ = _; decide)
    | with_reducible apply KM.app (g := State.raise_keeps ..)
    | with_reducible apply KM.app (g := State.modAxis_keeps ..)
    | with_reducible apply KM.app (g := State.encSupplyGone_keeps ..)
    | (extract_lets +onlyGivenNames x; refine KM.let_ (m := 3003154432) (s := s) (x := x) ?_ ?_; all_goals first | (intro hx; clear_value x) | subst x)
    | (extract_lets +onlyGivenNames v; subst v)

theorem State.driveFaultOff_keeps (s : State) (m : Axis) : KM 65568 s (State.driveFaultOff s m) := by
  have hx : KM 65568 s s := KM.refl
  unfold State.driveFaultOff
  repeat' first
    | with_reducible assumption
    | (show _ ||| _ = _; decide)
    | with_reducible apply KM.app (g := State.modAxMod_keeps ..)
    | with_reducible apply KM.app (g := State.modSlot_keeps ..)
    | (extract_lets +onlyGivenNames x; refine KM.let_ (m := 65568) (s := s) (x := x) ?_ ?_; all_goals first | (intro hx; clear_value x) | subst x)
    | (extract_lets +onlyGivenNames v; subst v)

theorem State.limitTick_keeps (s : State) (a : Axis) : KM 3003220224 s (State.limitTick s a) := by
  have hx : KM 3003220224 s s := KM.refl
  unfold State.limitTick
  repeat' first
    | with_reducible assumption
    | (show _ ||| _ = _; decide)
    | with_reducible apply KM.app (g := State.limitMet_keeps ..)
    | with_reducible apply KM.app (g := State.raise_keeps ..)
    | with_reducible apply KM.app (g := State.modAxis_keeps ..)
    | (extract_lets +onlyGivenNames x; refine KM.let_ (m := 3003220224) (s := s) (x := x) ?_ ?_; all_goals first | (intro hx; clear_value x) | subst x)
    | (extract_lets +onlyGivenNames v; subst v)
    | split

theorem State.compareLanes_keeps (s : State) (a : Axis) : KM 3003154432 s (State.compareLanes s a) := by
  have hx : KM 3003154432 s s := KM.refl
  unfold State.compareLanes
  repeat' first
    | with_reducible assumption
    | (show _ ||| _ = _; decide)
    | with_reducible apply KM.app (g := State.lanesDisagree_keeps ..)
    | with_reducible apply KM.app (g := State.modAxis_keeps ..)
    | (extract_lets +onlyGivenNames x; refine KM.let_ (m := 3003154432) (s := s) (x := x) ?_ ?_; all_goals first | (intro hx; clear_value x) | subst x)
    | (extract_lets +onlyGivenNames v; subst v)
    | split

theorem State.motorTempRead_keeps (s : State) (m : Axis) (ohm : ℕ) : KM 3003219968 s (State.motorTempRead s m ohm) := by
  have hx : KM 3003219968 s s := KM.refl
  unfold State.motorTempRead
  repeat' first
    | with_reducible assumption
    | (show _ ||| _ = _; decide)
    | with_reducible apply KM.app (g := State.modAxMod_keeps ..)
    | with_reducible apply KM.app (g := State.raise_keeps ..)
    | with_reducible apply KM.app (g := State.modAxis_keeps ..)
    | (extract_lets +onlyGivenNames x; refine KM.let_ (m := 3003219968) (s := s) (x := x) ?_ ?_; all_goals first | (intro hx; clear_value x) | subst x)
    | (extract_lets +onlyGivenNames v; subst v)
    | split

end Sys2Proof.Machine
end

