-- ==== Sys2Proof/Laws/KeepsOps2.lean ====
section
/-!
SUPPORT. What the operations of the model leave alone, part 2 of 4 (see `Keeps`).
-/

set_option linter.all false

namespace Sys2Proof.Machine

theorem State.laneJoined_keeps (s : State) (m : Axis) : KM 3003154432 s (State.laneJoined s m) := by
  have hx : KM 3003154432 s s := KM.refl
  unfold State.laneJoined
  repeat' first
    | with_reducible assumption
    | (show _ ||| _ = _; decide)
    | with_reducible apply KM.app (g := State.setDerated_keeps ..)
    | with_reducible apply KM.app (g := State.raise_keeps ..)
    | with_reducible apply KM.app (g := State.modAxis_keeps ..)
    | (extract_lets +onlyGivenNames x; refine KM.let_ (m := 3003154432) (s := s) (x := x) ?_ ?_; all_goals first | (intro hx; clear_value x) | subst x)
    | (extract_lets +onlyGivenNames v; subst v)
    | split

theorem State.laneRejoins_keeps (s : State) (m : Axis) : KM 98304 s (State.laneRejoins s m) := by
  have hx : KM 98304 s s := KM.refl
  unfold State.laneRejoins
  repeat' first
    | with_reducible assumption
    | (show _ ||| _ = _; decide)
    | with_reducible apply KM.app (g := State.modAxMod_keeps ..)
    | with_reducible apply KM.app (g := State.modAxis_keeps ..)

theorem State.laneTick_keeps (s : State) (a : Axis) : KM 3003219968 s (State.laneTick s a) := by
  have hx : KM 3003219968 s s := KM.refl
  unfold State.laneTick
  repeat' first
    | with_reducible assumption
    | intro hx
    | (show _ ||| _ = _; decide)
    | with_reducible apply KM.app (g := State.laneJoined_keeps ..)
    | with_reducible apply KM.app (g := State.laneRejoins_keeps ..)
    | with_reducible apply KM.each
    | with_reducible apply KM.app (g := State.laneLeaves_keeps ..)
    | with_reducible apply KM.app (g := State.modAxis_keeps ..)
    | (extract_lets +onlyGivenNames x; refine KM.let_ (m := 3003219968) (s := s) (x := x) ?_ ?_; all_goals first | (intro hx; clear_value x) | subst x)
    | (extract_lets +onlyGivenNames v; subst v)
    | split

theorem State.verdictFault_keeps (s : State) (m : Axis) (v : Verdict) (n : ℕ) (ps : Vector CheckPhase 2) : KM 3003220384 s (State.verdictFault s m v n ps) := by
  have hx : KM 3003220384 s s := KM.refl
  unfold State.verdictFault
  repeat' first
    | with_reducible assumption
    | (show _ ||| _ = _; decide)
    | with_reducible apply KM.app (g := State.driveFaultOn_keeps ..)
    | (extract_lets +onlyGivenNames x; refine KM.let_ (m := 3003220384) (s := s) (x := x) ?_ ?_; all_goals first | (intro hx; clear_value x) | subst x)
    | (extract_lets +onlyGivenNames v; subst v)
    | split

theorem State.checkEnds_keeps (s : State) (m : Axis) (ps : Vector CheckPhase 2) : KM 3003220384 s (State.checkEnds s m ps) := by
  have hx : KM 3003220384 s s := KM.refl
  unfold State.checkEnds
  repeat' first
    | with_reducible assumption
    | (show _ ||| _ = _; decide)
    | with_reducible apply KM.app (g := State.verdictFault_keeps ..)
    | with_reducible apply KM.app (g := State.modAxMod_keeps ..)
    | with_reducible apply KM.app (g := State.refFail_keeps ..)
    | with_reducible apply KM.app (g := State.driveFaultOff_keeps ..)
    | with_reducible apply KM.app (g := State.raise_keeps ..)
    | with_reducible apply KM.app (g := State.modAxis_keeps ..)
    | with_reducible apply KM.app (g := State.refChecked_keeps ..)
    | (extract_lets +onlyGivenNames x; refine KM.let_ (m := 3003220384) (s := s) (x := x) ?_ ?_; all_goals first | (intro hx; clear_value x) | subst x)
    | (extract_lets +onlyGivenNames v; subst v)
    | split

theorem State.followFires_keeps (s : State) (a : Axis) : KM 11593171200 s (State.followFires s a) := by
  have hx : KM 11593171200 s s := KM.refl
  unfold State.followFires
  repeat' first
    | with_reducible assumption
    | (show _ ||| _ = _; decide)
    | with_reducible apply KM.app (g := State.endAxisCmd_keeps ..)
    | with_reducible apply KM.app (g := State.obstacle_keeps ..)
    | with_reducible apply KM.app (g := State.stepObstacle_keeps ..)
    | with_reducible apply KM.app (g := State.refFail_keeps ..)
    | with_reducible apply KM.app (g := State.rampLeaves_keeps ..)
    | with_reducible apply KM.app (g := State.raise_keeps ..)
    | with_reducible apply KM.app (g := State.rampStop_keeps ..)
    | with_reducible apply KM.app (g := State.modDoor_keeps ..)
    | (extract_lets +onlyGivenNames x; refine KM.let_ (m := 11593171200) (s := s) (x := x) ?_ ?_; all_goals first | (intro hx; clear_value x) | subst x)
    | (extract_lets +onlyGivenNames v; subst v)
    | split

theorem State.followTick_keeps (s : State) (a : Axis) : KM 11593171200 s (State.followTick s a) := by
  have hx : KM 11593171200 s s := KM.refl
  unfold State.followTick
  repeat' first
    | with_reducible assumption
    | (show _ ||| _ = _; decide)
    | with_reducible apply KM.app (g := State.followFires_keeps ..)
    | with_reducible apply KM.app (g := State.modAxis_keeps ..)
    | (extract_lets +onlyGivenNames x; refine KM.let_ (m := 11593171200) (s := s) (x := x) ?_ ?_; all_goals first | (intro hx; clear_value x) | subst x)
    | (extract_lets +onlyGivenNames v; subst v)
    | split

theorem State.lossEnter_keeps (s : State) (m : Axis) : KM 3003220384 s (State.lossEnter s m) := by
  have hx : KM 3003220384 s s := KM.refl
  unfold State.lossEnter
  repeat' first
    | with_reducible assumption
    | (show _ ||| _ = _; decide)
    | with_reducible apply KM.app (g := State.lossReported_keeps ..)
    | with_reducible apply KM.app (g := State.modAxMod_keeps ..)
    | (extract_lets +onlyGivenNames x; refine KM.let_ (m := 3003220384) (s := s) (x := x) ?_ ?_; all_goals first | (intro hx; clear_value x) | subst x)
    | (extract_lets +onlyGivenNames v; subst v)
    | split

theorem State.heatsinkRead_keeps (s : State) (m : Axis) (celsius : ℤ) : KM 3003220384 s (State.heatsinkRead s m celsius) := by
  have hx : KM 3003220384 s s := KM.refl
  unfold State.heatsinkRead
  repeat' first
    | with_reducible assumption
    | (show _ ||| _ = _; decide)
    | with_reducible apply KM.app (g := State.modAxMod_keeps ..)
    | with_reducible apply KM.app (g := State.raise_keeps ..)
    | with_reducible apply KM.app (g := State.driveFaultOn_keeps ..)
    | (extract_lets +onlyGivenNames x; refine KM.let_ (m := 3003220384) (s := s) (x := x) ?_ ?_; all_goals first | (intro hx; clear_value x) | subst x)
    | (extract_lets +onlyGivenNames v; subst v)
    | split

theorem State.encFaultOn_keeps (s : State) (m : Axis) (reason : ℕ) : KM 3003219968 s (State.encFaultOn s m reason) := by
  have hx : KM 3003219968 s s := KM.refl
  unfold State.encFaultOn
  repeat' first
    | with_reducible assumption
    | (show _ ||| _ = _; decide)
    | with_reducible apply KM.app (g := State.modAxMod_keeps ..)
    | with_reducible apply KM.app (g := State.raise_keeps ..)
    | with_reducible apply KM.app (g := State.modAxis_keeps ..)

theorem State.axMismatch_keeps (s : State) (m : Axis) : KM 3003220384 s (State.axMismatch s m) := by
  have hx : KM 3003220384 s s := KM.refl
  unfold State.axMismatch
  repeat' first
    | with_reducible assumption
    | (show _ ||| _ = _; decide)
    | with_reducible apply KM.app (g := State.modSlot_keeps ..)
    | with_reducible apply KM.app (g := State.judgeTiers_keeps ..)
    | with_reducible apply KM.app (g := State.driveFaultOn_keeps ..)
    | (extract_lets +onlyGivenNames x; refine KM.let_ (m := 3003220384) (s := s) (x := x) ?_ ?_; all_goals first | (intro hx; clear_value x) | subst x)
    | (extract_lets +onlyGivenNames v; subst v)

theorem State.creepTick_keeps (s : State) (d : Doorway) : KM 3003154688 s (State.creepTick s d) := by
  have hx : KM 3003154688 s s := KM.refl
  unfold State.creepTick
  repeat' first
    | with_reducible assumption
    | intro hx
    | (show _ ||| _ = _; decide)
    | with_reducible apply KM.app (g := State.replanNow_keeps ..)
    | with_reducible apply KM.each
    | with_reducible apply KM.app (g := State.modDoor_keeps ..)
    | (extract_lets +onlyGivenNames x; refine KM.let_ (m := 3003154688) (s := s) (x := x) ?_ ?_; all_goals first | (intro hx; clear_value x) | subst x)
    | (extract_lets +onlyGivenNames v; subst v)
    | split

theorem State.edgeFaults_keeps (s : State) (d : Doorway) (e : EdgeId) (fault : ℕ) : KM 3003138048 s (State.edgeFaults s d e fault) := by
  have hx : KM 3003138048 s s := KM.refl
  unfold State.edgeFaults
  repeat' first
    | with_reducible assumption
    | (show _ ||| _ = _; decide)
    | with_reducible apply KM.app (g := State.raise_keeps ..)
    | with_reducible apply KM.app (g := State.modObst_keeps ..)
    | split

theorem State.latencyAlarm_keeps (s : State) (d : Doorway) (us : ℕ) : KM 3003138048 s (State.latencyAlarm s d us) := by
  have hx : KM 3003138048 s s := KM.refl
  unfold State.latencyAlarm
  repeat' first
    | with_reducible assumption
    | (show _ ||| _ = _; decide)
    | with_reducible apply KM.app (g := State.raise_keeps ..)
    | with_reducible apply KM.app (g := State.modObst_keeps ..)
    | (extract_lets +onlyGivenNames x; refine KM.let_ (m := 3003138048) (s := s) (x := x) ?_ ?_; all_goals first | (intro hx; clear_value x) | subst x)
    | (extract_lets +onlyGivenNames v; subst v)
    | split

theorem State.gridFaults_keeps (s : State) (d : Doorway) (fault : ℕ) : KM 3003138048 s (State.gridFaults s d fault) := by
  have hx : KM 3003138048 s s := KM.refl
  unfold State.gridFaults
  repeat' first
    | with_reducible assumption
    | (show _ ||| _ = _; decide)
    | with_reducible apply KM.app (g := State.raise_keeps ..)
    | with_reducible apply KM.app (g := State.modObst_keeps ..)
    | split

theorem State.edgeClears_keeps (s : State) (d : Doorway) (e : EdgeId) : KM 3003138048 s (State.edgeClears s d e) := by
  have hx : KM 3003138048 s s := KM.refl
  unfold State.edgeClears
  repeat' first
    | with_reducible assumption
    | (show _ ||| _ = _; decide)
    | with_reducible apply KM.app (g := State.raise_keeps ..)
    | with_reducible apply KM.app (g := State.modObst_keeps ..)
    | split

theorem State.faultTick_keeps (s : State) (d : Doorway) : KM 3003138048 s (State.faultTick s d) := by
  have hx : KM 3003138048 s s := KM.refl
  unfold State.faultTick
  repeat' first
    | with_reducible assumption
    | intro hx
    | (show _ ||| _ = _; decide)
    | with_reducible apply KM.app (g := State.gridFaults_keeps ..)
    | with_reducible apply KM.app (g := State.edgeFaults_keeps ..)
    | with_reducible apply KM.app (g := State.edgeClears_keeps ..)
    | with_reducible apply KM.app (g := State.modObst_keeps ..)
    | (extract_lets +onlyGivenNames x; refine KM.let_ (m := 3003138048) (s := s) (x := x) ?_ ?_; all_goals first | (intro hx; clear_value x) | subst x)
    | (extract_lets +onlyGivenNames v; subst v)
    | with_reducible apply KM.foldl
    | split

theorem State.obstacleTick_keeps (s : State) (d : Doorway) : KM 3003171072 s (State.obstacleTick s d) := by
  have hx : KM 3003171072 s s := KM.refl
  unfold State.obstacleTick
  repeat' first
    | with_reducible assumption
    | (show _ ||| _ = _; decide)
    | with_reducible apply KM.app (g := State.creepTick_keeps ..)
    | with_reducible apply KM.app (g := State.raise_keeps ..)
    | with_reducible apply KM.app (g := State.faultTick_keeps ..)
    | with_reducible apply KM.app (g := State.modObst_keeps ..)
    | (extract_lets +onlyGivenNames x; refine KM.let_ (m := 3003171072) (s := s) (x := x) ?_ ?_; all_goals first | (intro hx; clear_value x) | subst x)
    | (extract_lets +onlyGivenNames v; subst v)
    | split

theorem State.fieldRearm_keeps (s : State) (c : Chan) : KM 131072 s (State.fieldRearm s c) := by
  have hx : KM 131072 s s := KM.refl
  unfold State.fieldRearm
  repeat' first
    | with_reducible assumption
    | (show _ ||| _ = _; decide)
    | with_reducible apply KM.app (g := State.modChan_keeps ..)

theorem State.fieldRearmEvent_keeps (s : State) (c : Chan) : KM 1073872899 s (State.fieldRearmEvent s c) := by
  have hx : KM 1073872899 s s := KM.refl
  unfold State.fieldRearmEvent
  repeat' first
    | with_reducible assumption
    | intro hx
    | (show _ ||| _ = _; decide)
    | with_reducible apply KM.app (g := State.modChan_keeps ..)
    | with_reducible apply KM.each
    | with_reducible apply KM.app (g := State.until_keeps ..)
    | with_reducible apply KM.app (g := State.fieldRearm_keeps ..)
    | (extract_lets +onlyGivenNames x; refine KM.let_ (m := 1073872899) (s := s) (x := x) ?_ ?_; all_goals first | (intro hx; clear_value x) | subst x)
    | (extract_lets +onlyGivenNames v; subst v)
    | split

theorem State.takeValue_keeps (s : State) (c : Chan) (v : Bool) : KM 131072 s (State.takeValue s c v) := by
  have hx : KM 131072 s s := KM.refl
  unfold State.takeValue
  repeat' first
    | with_reducible assumption
    | (show _ ||| _ = _; decide)
    | with_reducible apply KM.app (g := State.modChan_keeps ..)

theorem State.endDiag_keeps (s : State) (c : Chan) (codes : List ℕ) : KM 3003252736 s (State.endDiag s c codes) := by
  have hx : KM 3003252736 s s := KM.refl
  unfold State.endDiag
  repeat' first
    | with_reducible assumption
    | (show _ ||| _ = _; decide)
    | with_reducible apply KM.app (g := State.modChan_keeps ..)
    | with_reducible apply KM.app (g := State.raise_keeps ..)
    | (extract_lets +onlyGivenNames x; refine KM.let_ (m := 3003252736) (s := s) (x := x) ?_ ?_; all_goals first | (intro hx; clear_value x) | subst x)
    | (extract_lets +onlyGivenNames v; subst v)
    | split

theorem State.driveOutput_keeps (s : State) (lead : Chan) (c : Chan) (want : Bool) : KM 3003252736 s (State.driveOutput s lead c want) := by
  have hx : KM 3003252736 s s := KM.refl
  unfold State.driveOutput
  repeat' first
    | with_reducible assumption
    | (show _ ||| _ = _; decide)
    | with_reducible apply KM.app (g := State.modChan_keeps ..)
    | with_reducible apply KM.app (g := State.endDiag_keeps ..)
    | (extract_lets +onlyGivenNames x; refine KM.let_ (m := 3003252736) (s := s) (x := x) ?_ ?_; all_goals first | (intro hx; clear_value x) | subst x)
    | (extract_lets +onlyGivenNames v; subst v)
    | split

theorem State.driveSet_keeps (s : State) (lead : Chan) (want : Bool) : KM 3003252736 s (State.driveSet s lead want) := by
  have hx : KM 3003252736 s s := KM.refl
  unfold State.driveSet
  repeat' first
    | with_reducible assumption
    | intro hx
    | (show _ ||| _ = _; decide)
    | with_reducible apply KM.app (g := State.driveOutput_keeps ..)
    | with_reducible apply KM.each

theorem State.latchOutput_keeps (s : State) (c : Chan) (code : ℕ) (ev : BitVec 10) (items : List Item) : KM 3003252736 s (State.latchOutput s c code ev items) := by
  have hx : KM 3003252736 s s := KM.refl
  unfold State.latchOutput
  repeat' first
    | with_reducible assumption
    | (show _ ||| _ = _; decide)
    | with_reducible apply KM.app (g := State.modChan_keeps ..)
    | with_reducible apply KM.app (g := State.driveSet_keeps ..)
    | with_reducible apply KM.app (g := State.raise_keeps ..)
    | (extract_lets +onlyGivenNames x; refine KM.let_ (m := 3003252736) (s := s) (x := x) ?_ ?_; all_goals first | (intro hx; clear_value x) | subst x)
    | (extract_lets +onlyGivenNames v; subst v)
    | split

theorem State.barrierCrcTick_keeps (s : State) (m : Fin 2) : KM 3003252736 s (State.barrierCrcTick s m) := by
  have hx : KM 3003252736 s s := KM.refl
  unfold State.barrierCrcTick
  repeat' first
    | with_reducible assumption
    | (show _ ||| _ = _; decide)
    | with_reducible apply KM.app (g := State.raise_keeps ..)
    | with_reducible apply KM.app (g := State.modFieldMod_keeps ..)
    | (extract_lets +onlyGivenNames x; refine KM.let_ (m := 3003252736) (s := s) (x := x) ?_ ?_; all_goals first | (intro hx; clear_value x) | subst x)
    | (extract_lets +onlyGivenNames v; subst v)
    | split

theorem State.restrictTo_keeps (s : State) (c : Chan) (code : ℕ) : KM 131072 s (State.restrictTo s c code) := by
  have hx : KM 131072 s s := KM.refl
  unfold State.restrictTo
  repeat' first
    | with_reducible assumption
    | (show _ ||| _ = _; decide)
    | with_reducible apply KM.app (g := State.modChan_keeps ..)

theorem State.safeState_keeps (s : State) (c : Chan) : KM 3003252736 s (State.safeState s c) := by
  have hx : KM 3003252736 s s := KM.refl
  unfold State.safeState
  repeat' first
    | with_reducible assumption
    | (show _ ||| _ = _; decide)
    | with_reducible apply KM.app (g := State.driveSet_keeps ..)
    | split

theorem State.applySafe_keeps (s : State) (m : Fin 2) (cause : ℕ) : KM 3003252736 s (State.applySafe s m cause) := by
  have hx : KM 3003252736 s s := KM.refl
  unfold State.applySafe
  repeat' first
    | with_reducible assumption
    | intro hx
    | (show _ ||| _ = _; decide)
    | with_reducible apply KM.each
    | with_reducible apply KM.app (g := State.raise_keeps ..)
    | with_reducible apply KM.app (g := State.safeState_keeps ..)
    | with_reducible apply KM.app (g := State.modFieldMod_keeps ..)
    | split

theorem State.followCommands_keeps (s : State) (m : Fin 2) : KM 3003252736 s (State.followCommands s m) := by
  have hx : KM 3003252736 s s := KM.refl
  unfold State.followCommands
  repeat' first
    | with_reducible assumption
    | intro hx
    | (show _ ||| _ = _; decide)
    | with_reducible apply KM.each
    | with_reducible apply KM.app (g := State.driveSet_keeps ..)

theorem State.takeHold_keeps (s : State) (m : Fin 2) : KM 3003252736 s (State.takeHold s m) := by
  have hx : KM 3003252736 s s := KM.refl
  unfold State.takeHold
  repeat' first
    | with_reducible assumption
    | intro hx
    | (show _ ||| _ = _; decide)
    | with_reducible apply KM.app (g := State.modChan_keeps ..)
    | with_reducible apply KM.each
    | with_reducible apply KM.app (g := State.raise_keeps ..)
    | with_reducible apply KM.app (g := State.modFieldMod_keeps ..)
    | (extract_lets +onlyGivenNames x; refine KM.let_ (m := 3003252736) (s := s) (x := x) ?_ ?_; all_goals first | (intro hx; clear_value x) | subst x)
    | (extract_lets +onlyGivenNames v; subst v)
    | split

theorem State.clearLatched_keeps (s : State) (lead : Chan) : KM 3003252736 s (State.clearLatched s lead) := by
  have hx : KM 3003252736 s s := KM.refl
  unfold State.clearLatched
  repeat' first
    | with_reducible assumption
    | intro hx
    | (show _ ||| _ = _; decide)
    | with_reducible apply KM.app (g := State.modChan_keeps ..)
    | with_reducible apply KM.each
    | with_reducible apply KM.app (g := State.raise_keeps ..)
    | (extract_lets +onlyGivenNames x; refine KM.let_ (m := 3003252736) (s := s) (x := x) ?_ ?_; all_goals first | (intro hx; clear_value x) | subst x)
    | (extract_lets +onlyGivenNames v; subst v)
    | split

theorem State.commandFrame_keeps (s : State) (m : Fin 2) : KM 3003252736 s (State.commandFrame s m) := by
  have hx : KM 3003252736 s s := KM.refl
  unfold State.commandFrame
  repeat' first
    | with_reducible assumption
    | intro hx
    | (show _ ||| _ = _; decide)
    | with_reducible apply KM.each
    | with_reducible apply KM.app (g := State.raise_keeps ..)
    | with_reducible apply KM.app (g := State.applySafe_keeps ..)
    | with_reducible apply KM.app (g := State.followCommands_keeps ..)
    | with_reducible apply KM.app (g := State.modFieldMod_keeps ..)
    | with_reducible apply KM.app (g := State.takeHold_keeps ..)
    | with_reducible apply KM.app (g := State.clearLatched_keeps ..)
    | (extract_lets +onlyGivenNames x; refine KM.let_ (m := 3003252736) (s := s) (x := x) ?_ ?_; all_goals first | (intro hx; clear_value x) | subst x)
    | (extract_lets +onlyGivenNames v; subst v)
    | split

theorem State.loseValue_keeps (s : State) (c : Chan) : KM 131072 s (State.loseValue s c) := by
  have hx : KM 131072 s s := KM.refl
  unfold State.loseValue
  repeat' first
    | with_reducible assumption
    | (show _ ||| _ = _; decide)
    | with_reducible apply KM.app (g := State.modChan_keeps ..)
    | split

theorem State.applyField_keeps (s : State) (m : Fin 2) : KM 131072 s (State.applyField s m) := by
  have hx : KM 131072 s s := KM.refl
  unfold State.applyField
  repeat' first
    | with_reducible assumption
    | intro hx
    | (show _ ||| _ = _; decide)
    | with_reducible apply KM.app (g := State.modGroup_keeps ..)
    | with_reducible apply KM.app (g := State.loseValue_keeps ..)
    | with_reducible apply KM.app (g := State.modChan_keeps ..)
    | with_reducible apply KM.each
    | with_reducible apply KM.app (g := State.modFieldMod_keeps ..)
    | (extract_lets +onlyGivenNames x; refine KM.let_ (m := 131072) (s := s) (x := x) ?_ ?_; all_goals first | (intro hx; clear_value x) | subst x)
    | (extract_lets +onlyGivenNames v; subst v)
    | split

theorem State.confirmedChange_keeps (s : State) (c : Chan) (v : Bool) : KM 3003252736 s (State.confirmedChange s c v) := by
  have hx : KM 3003252736 s s := KM.refl
  unfold State.confirmedChange
  repeat' first
    | with_reducible assumption
    | (show _ ||| _ = _; decide)
    | with_reducible apply KM.app (g := State.modChan_keeps ..)
    | with_reducible apply KM.app (g := State.raiseAt_keeps ..)
    | with_reducible apply KM.app (g := State.raise_keeps ..)
    | (extract_lets +onlyGivenNames x; refine KM.let_ (m := 3003252736) (s := s) (x := x) ?_ ?_; all_goals first | (intro hx; clear_value x) | subst x)
    | (extract_lets +onlyGivenNames v; subst v)
    | split

theorem State.confirmInput_keeps (s : State) (c : Chan) (v : Bool) : KM 3003252736 s (State.confirmInput s c v) := by
  have hx : KM 3003252736 s s := KM.refl
  unfold State.confirmInput
  repeat' first
    | with_reducible assumption
    | (show _ ||| _ = _; decide)
    | with_reducible apply KM.app (g := State.takeValue_keeps ..)
    | with_reducible apply KM.app (g := State.raise_keeps ..)
    | with_reducible apply KM.app (g := State.confirmedChange_keeps ..)
    | (extract_lets +onlyGivenNames x; refine KM.let_ (m := 3003252736) (s := s) (x := x) ?_ ?_; all_goals first | (intro hx; clear_value x) | subst x)
    | (extract_lets +onlyGivenNames v; subst v)
    | split

theorem State.setDemand_keeps (s : State) (c : Chan) (v : Bool) : KM 131072 s (State.setDemand s c v) := by
  have hx : KM 131072 s s := KM.refl
  unfold State.setDemand
  repeat' first
    | with_reducible assumption
    | (show _ ||| _ = _; decide)
    | with_reducible apply KM.app (g := State.modChan_keeps ..)

theorem State.doFioSet_keeps (s : State) (r : Req) (mask : BitVec 64) (state : BitVec 64) : KM 3003252736 s (State.doFioSet s r mask state) := by
  have hx : KM 3003252736 s s := KM.refl
  unfold State.doFioSet
  repeat' first
    | with_reducible assumption
    | intro hx
    | (show _ ||| _ = _; decide)
    | with_reducible apply KM.each
    | with_reducible apply KM.app (g := State.ok_keeps ..)
    | with_reducible apply KM.app (g := State.setDemand_keeps ..)
    | with_reducible apply KM.app (g := State.fail_keeps ..)
    | (extract_lets +onlyGivenNames x; refine KM.let_ (m := 3003252736) (s := s) (x := x) ?_ ?_; all_goals first | (intro hx; clear_value x) | subst x)
    | (extract_lets +onlyGivenNames v; subst v)
    | split

theorem State.groupBecomes_keeps (s : State) (g : Group) (new : GroupState) (v : ℤ) : KM 3003252736 s (State.groupBecomes s g new v) := by
  have hx : KM 3003252736 s s := KM.refl
  unfold State.groupBecomes
  repeat' first
    | with_reducible assumption
    | intro hx
    | (show _ ||| _ = _; decide)
    | with_reducible apply KM.app (g := State.modGroup_keeps ..)
    | with_reducible apply KM.app (g := State.loseValue_keeps ..)
    | with_reducible apply KM.app (g := State.modChan_keeps ..)
    | with_reducible apply KM.app (g := State.restrictTo_keeps ..)
    | with_reducible apply KM.app (g := State.driveOutput_keeps ..)
    | with_reducible apply KM.each
    | with_reducible apply KM.app (g := State.raise_keeps ..)
    | with_reducible apply KM.app (g := State.safeState_keeps ..)
    | (extract_lets +onlyGivenNames x; refine KM.let_ (m := 3003252736) (s := s) (x := x) ?_ ?_; all_goals first | (intro hx; clear_value x) | subst x)
    | (extract_lets +onlyGivenNames v; subst v)
    | split

theorem State.diagnose_keeps (s : State) (c : Chan) (on : Bool) (code : ℕ) (ev : BitVec 10) (items : List Item) : KM 3003252736 s (State.diagnose s c on code ev items) := by
  have hx : KM 3003252736 s s := KM.refl
  unfold State.diagnose
  repeat' first
    | with_reducible assumption
    | (show _ ||| _ = _; decide)
    | with_reducible apply KM.app (g := State.modChan_keeps ..)
    | with_reducible apply KM.app (g := State.raise_keeps ..)
    | (extract_lets +onlyGivenNames x; refine KM.let_ (m := 3003252736) (s := s) (x := x) ?_ ?_; all_goals first | (intro hx; clear_value x) | subst x)
    | (extract_lets +onlyGivenNames v; subst v)
    | split

theorem State.fieldMismatch_keeps (s : State) (m : Fin 2) : KM 3003121824 s (State.fieldMismatch s m) := by
  have hx : KM 3003121824 s s := KM.refl
  unfold State.fieldMismatch
  repeat' first
    | with_reducible assumption
    | (show _ ||| _ = _; decide)
    | with_reducible apply KM.app (g := State.modSlot_keeps ..)
    | with_reducible apply KM.app (g := State.raise_keeps ..)
    | with_reducible apply KM.app (g := State.judgeTiers_keeps ..)
    | (extract_lets +onlyGivenNames x; refine KM.let_ (m := 3003121824) (s := s) (x := x) ?_ ?_; all_goals first | (intro hx; clear_value x) | subst x)
    | (extract_lets +onlyGivenNames v; subst v)

theorem State.latchImage_keeps (s : State) (m : Fin 2) : KM 131072 s (State.latchImage s m) := by
  have hx : KM 131072 s s := KM.refl
  unfold State.latchImage
  repeat' first
    | with_reducible assumption
    | (show _ ||| _ = _; decide)
    | with_reducible apply KM.app (g := State.modFieldMod_keeps ..)
    | (extract_lets +onlyGivenNames x; refine KM.let_ (m := 131072) (s := s) (x := x) ?_ ?_; all_goals first | (intro hx; clear_value x) | subst x)
    | (extract_lets +onlyGivenNames v; subst v)

theorem State.badBarrier_keeps (s : State) (m : Fin 2) : KM 3003252736 s (State.badBarrier s m) := by
  have hx : KM 3003252736 s s := KM.refl
  unfold State.badBarrier
  repeat' first
    | with_reducible assumption
    | intro hx
    | (show _ ||| _ = _; decide)
    | with_reducible apply KM.app (g := State.barrierCrcTick_keeps ..)
    | with_reducible apply KM.each
    | with_reducible apply KM.app (g := State.raise_keeps ..)
    | with_reducible apply KM.app (g := State.modFieldMod_keeps ..)
    | (extract_lets +onlyGivenNames x; refine KM.let_ (m := 3003252736) (s := s) (x := x) ?_ ?_; all_goals first | (intro hx; clear_value x) | subst x)
    | (extract_lets +onlyGivenNames v; subst v)
    | split

theorem State.doorOutputTick_keeps (s : State) (c : Chan) : KM 131072 s (State.doorOutputTick s c) := by
  have hx : KM 131072 s s := KM.refl
  unfold State.doorOutputTick
  repeat' first
    | with_reducible assumption
    | (show _ ||| _ = _; decide)
    | with_reducible apply KM.app (g := State.modChan_keeps ..)
    | with_reducible apply KM.app (g := State.setDemand_keeps ..)
    | (extract_lets +onlyGivenNames x; refine KM.let_ (m := 131072) (s := s) (x := x) ?_ ?_; all_goals first | (intro hx; clear_value x) | subst x)
    | (extract_lets +onlyGivenNames v; subst v)
    | split

theorem State.chatterTick_keeps (s : State) (c : Chan) : KM 131072 s (State.chatterTick s c) := by
  have hx : KM 131072 s s := KM.refl
  unfold State.chatterTick
  repeat' first
    | with_reducible assumption
    | (show _ ||| _ = _; decide)
    | with_reducible apply KM.app (g := State.modChan_keeps ..)
    | (extract_lets +onlyGivenNames x; refine KM.let_ (m := 131072) (s := s) (x := x) ?_ ?_; all_goals first | (intro hx; clear_value x) | subst x)
    | (extract_lets +onlyGivenNames v; subst v)
    | split

theorem State.fieldCoreTick_keeps (s : State) (m : Fin 2) : KM 3003252864 s (State.fieldCoreTick s m) := by
  have hx : KM 3003252864 s s := KM.refl
  unfold State.fieldCoreTick
  repeat' first
    | with_reducible assumption
    | intro hx
    | (show _ ||| _ = _; decide)
    | with_reducible apply KM.app (g := State.modChan_keeps ..)
    | with_reducible apply KM.each
    | with_reducible apply KM.app (g := State.judgeTiers_keeps ..)
    | with_reducible apply KM.app (g := State.doorOutputTick_keeps ..)
    | with_reducible apply KM.app (g := State.modFieldMod_keeps ..)
    | with_reducible apply KM.app (g := State.chatterTick_keeps ..)
    | with_reducible apply KM.app (g := State.fieldRearm_keeps ..)
    | (extract_lets +onlyGivenNames x; refine KM.let_ (m := 3003252864) (s := s) (x := x) ?_ ?_; all_goals first | (intro hx; clear_value x) | subst x)
    | (extract_lets +onlyGivenNames v; subst v)
    | split

theorem State.setLoadDemand_keeps (s : State) (c : LoadCh) (v : Bool) : KM 262144 s (State.setLoadDemand s c v) := by
  have hx : KM 262144 s s := KM.refl
  unfold State.setLoadDemand
  repeat' first
    | with_reducible assumption
    | (show _ ||| _ = _; decide)
    | with_reducible apply KM.app (g := State.modLoad_keeps ..)

theorem State.preemptLoad_keeps (s : State) (r : Req) (mask : BitVec 12) (p : PendingLoadSet) : KM 3003383808 s (State.preemptLoad s r mask p) := by
  have hx : KM 3003383808 s s := KM.refl
  unfold State.preemptLoad
  repeat' first
    | with_reducible assumption
    | intro hx
    | (show _ ||| _ = _; decide)
    | with_reducible apply KM.app (g := State.completeAll_keeps ..)
    | with_reducible apply KM.each
    | with_reducible apply KM.app (g := State.setLoadDemand_keeps ..)
    | (extract_lets +onlyGivenNames x; refine KM.let_ (m := 3003383808) (s := s) (x := x) ?_ ?_; all_goals first | (intro hx; clear_value x) | subst x)
    | (extract_lets +onlyGivenNames v; subst v)
    | split

theorem State.modLoads_keeps (s : State) (f : LoadSt → LoadSt) : KM 262144 s (State.modLoads s f) := by
  have hx : KM 262144 s s := KM.refl
  unfold State.modLoads
  repeat' first
    | with_reducible assumption
    | (show _ ||| _ = _; decide)
    | ((with_reducible apply KM.mk_); intro p hp; cases p <;> first | exact absurd hp (by decide) | exact hx.get _ hp | rfl)

theorem State.doLoadSet_keeps (s : State) (r : Req) (mask16 : BitVec 16) (state16 : BitVec 16) : KM 3003383808 s (State.doLoadSet s r mask16 state16) := by
  have hx : KM 3003383808 s s := KM.refl
  unfold State.doLoadSet
  repeat' first
    | with_reducible assumption
    | intro hx
    | (show _ ||| _ = _; decide)
    | with_reducible apply KM.each
    | with_reducible apply KM.app (g := State.modLoad_keeps ..)
    | with_reducible apply KM.app (g := State.preemptLoad_keeps ..)
    | with_reducible apply KM.app (g := State.modLoads_keeps ..)
    | with_reducible apply KM.app (g := State.setLoadDemand_keeps ..)
    | with_reducible apply KM.app (g := State.fail_keeps ..)
    | with_reducible apply KM.app (g := State.failOwner_keeps ..)
    | (extract_lets +onlyGivenNames x; refine KM.let_ (m := 3003383808) (s := s) (x := x) ?_ ?_; all_goals first | (intro hx; clear_value x) | subst x)
    | (extract_lets +onlyGivenNames v; subst v)
    | split

theorem State.endLoadDiag_keeps (s : State) (c : LoadCh) (codes : List ℕ) : KM 3003383808 s (State.endLoadDiag s c codes) := by
  have hx : KM 3003383808 s s := KM.refl
  unfold State.endLoadDiag
  repeat' first
    | with_reducible assumption
    | (show _ ||| _ = _; decide)
    | with_reducible apply KM.app (g := State.modLoad_keeps ..)
    | with_reducible apply KM.app (g := State.raise_keeps ..)
    | (extract_lets +onlyGivenNames x; refine KM.let_ (m := 3003383808) (s := s) (x := x) ?_ ?_; all_goals first | (intro hx; clear_value x) | subst x)
    | (extract_lets +onlyGivenNames v; subst v)
    | split

theorem State.loadFollow_keeps (s : State) (c : LoadCh) : KM 3003383808 s (State.loadFollow s c) := by
  have hx : KM 3003383808 s s := KM.refl
  unfold State.loadFollow
  repeat' first
    | with_reducible assumption
    | (show _ ||| _ = _; decide)
    | with_reducible apply KM.app (g := State.modLoad_keeps ..)
    | with_reducible apply KM.app (g := State.endLoadDiag_keeps ..)
    | (extract_lets +onlyGivenNames x; refine KM.let_ (m := 3003383808) (s := s) (x := x) ?_ ?_; all_goals first | (intro hx; clear_value x) | subst x)
    | (extract_lets +onlyGivenNames v; subst v)
    | split

theorem State.latchLoad_keeps (s : State) (c : LoadCh) (code : ℕ) (ev : BitVec 10) (items : List Item) : KM 3003383808 s (State.latchLoad s c code ev items) := by
  have hx : KM 3003383808 s s := KM.refl
  unfold State.latchLoad
  repeat' first
    | with_reducible assumption
    | (show _ ||| _ = _; decide)
    | with_reducible apply KM.app (g := State.loadFollow_keeps ..)
    | with_reducible apply KM.app (g := State.modLoad_keeps ..)
    | with_reducible apply KM.app (g := State.raise_keeps ..)
    | (extract_lets +onlyGivenNames x; refine KM.let_ (m := 3003383808) (s := s) (x := x) ?_ ?_; all_goals first | (intro hx; clear_value x) | subst x)
    | (extract_lets +onlyGivenNames v; subst v)
    | split

theorem State.loadRearm_keeps (s : State) (c : LoadCh) (p : ℕ) : KM 3003383808 s (State.loadRearm s c p) := by
  have hx : KM 3003383808 s s := KM.refl
  unfold State.loadRearm
  repeat' first
    | with_reducible assumption
    | (show _ ||| _ = _; decide)
    | with_reducible apply KM.app (g := State.modLoad_keeps ..)
    | with_reducible apply KM.app (g := State.raise_keeps ..)

theorem State.doLoadRearm_keeps (s : State) (r : Req) (mask16 : BitVec 16) : KM 3003383808 s (State.doLoadRearm s r mask16) := by
  have hx : KM 3003383808 s s := KM.refl
  unfold State.doLoadRearm
  repeat' first
    | with_reducible assumption
    | intro hx
    | (show _ ||| _ = _; decide)
    | with_reducible apply KM.each
    | with_reducible apply KM.app (g := State.loadRearm_keeps ..)
    | with_reducible apply KM.app (g := State.modLoads_keeps ..)
    | with_reducible apply KM.app (g := State.ok_keeps ..)
    | with_reducible apply KM.app (g := State.fail_keeps ..)
    | with_reducible apply KM.app (g := State.failOwner_keeps ..)
    | (extract_lets +onlyGivenNames x; refine KM.let_ (m := 3003383808) (s := s) (x := x) ?_ ?_; all_goals first | (intro hx; clear_value x) | subst x)
    | (extract_lets +onlyGivenNames v; subst v)
    | split

theorem State.loadDiagnose_keeps (s : State) (c : LoadCh) (on : Bool) (code : ℕ) (ev : BitVec 10) (items : List Item) : KM 3003383808 s (State.loadDiagnose s c on code ev items) := by
  have hx : KM 3003383808 s s := KM.refl
  unfold State.loadDiagnose
  repeat' first
    | with_reducible assumption
    | (show _ ||| _ = _; decide)
    | with_reducible apply KM.app (g := State.modLoad_keeps ..)
    | with_reducible apply KM.app (g := State.raise_keeps ..)
    | (extract_lets +onlyGivenNames x; refine KM.let_ (m := 3003383808) (s := s) (x := x) ?_ ?_; all_goals first | (intro hx; clear_value x) | subst x)
    | (extract_lets +onlyGivenNames v; subst v)
    | split

theorem State.loadsFollow_keeps (s : State) : KM 3003383808 s (State.loadsFollow s) := by
  have hx : KM 3003383808 s s := KM.refl
  unfold State.loadsFollow
  repeat' first
    | with_reducible assumption
    | intro hx
    | (show _ ||| _ = _; decide)
    | with_reducible apply KM.app (g := State.loadFollow_keeps ..)
    | with_reducible apply KM.each

theorem State.loadSupplyBecomes_keeps (s : State) (new : LoadSupply) (v : ℤ) : KM 3003383808 s (State.loadSupplyBecomes s new v) := by
  have hx : KM 3003383808 s s := KM.refl
  unfold State.loadSupplyBecomes
  repeat' first
    | with_reducible assumption
    | intro hx
    | (show _ ||| _ = _; decide)
    | with_reducible apply KM.app (g := State.loadsFollow_keeps ..)
    | with_reducible apply KM.each
    | with_reducible apply KM.app (g := State.modLoad_keeps ..)
    | with_reducible apply KM.app (g := State.raise_keeps ..)
    | with_reducible apply KM.app (g := State.modLoads_keeps ..)
    | (extract_lets +onlyGivenNames x; refine KM.let_ (m := 3003383808) (s := s) (x := x) ?_ ?_; all_goals first | (intro hx; clear_value x) | subst x)
    | (extract_lets +onlyGivenNames v; subst v)
    | split

theorem State.loadRearmEvent_keeps (s : State) (c : LoadCh) : KM 4077125635 s (State.loadRearmEvent s c) := by
  have hx : KM 4077125635 s s := KM.refl
  unfold State.loadRearmEvent
  repeat' first
    | with_reducible assumption
    | (show _ ||| _ = _; decide)
    | with_reducible apply KM.app (g := State.loadRearm_keeps ..)
    | with_reducible apply KM.app (g := State.modLoad_keeps ..)
    | with_reducible apply KM.app (g := State.until_keeps ..)
    | (extract_lets +onlyGivenNames x; refine KM.let_ (m := 4077125635) (s := s) (x := x) ?_ ?_; all_goals first | (intro hx; clear_value x) | subst x)
    | (extract_lets +onlyGivenNames v; subst v)
    | split

theorem State.loadTakeHold_keeps (s : State) (hold : Bool) : KM 3003383808 s (State.loadTakeHold s hold) := by
  have hx : KM 3003383808 s s := KM.refl
  unfold State.loadTakeHold
  repeat' first
    | with_reducible assumption
    | intro hx
    | (show _ ||| _ = _; decide)
    | with_reducible apply KM.each
    | with_reducible apply KM.app (g := State.modLoad_keeps ..)
    | with_reducible apply KM.app (g := State.raise_keeps ..)
    | with_reducible apply KM.app (g := State.modLoads_keeps ..)
    | (extract_lets +onlyGivenNames x; refine KM.let_ (m := 3003383808) (s := s) (x := x) ?_ ?_; all_goals first | (intro hx; clear_value x) | subst x)
    | (extract_lets +onlyGivenNames v; subst v)
    | split

theorem State.loadTakeRearm_keeps (s : State) (c : LoadCh) : KM 262144 s (State.loadTakeRearm s c) := by
  have hx : KM 262144 s s := KM.refl
  unfold State.loadTakeRearm
  repeat' first
    | with_reducible assumption
    | (show _ ||| _ = _; decide)
    | with_reducible apply KM.app (g := State.modLoad_keeps ..)
    | (extract_lets +onlyGivenNames x; refine KM.let_ (m := 262144) (s := s) (x := x) ?_ ?_; all_goals first | (intro hx; clear_value x) | subst x)
    | (extract_lets +onlyGivenNames v; subst v)
    | split

theorem State.loadCommand_keeps (s : State) (out : BitVec 12) (rearm : BitVec 12) (ack : Bool) (hold : Bool) (shed : Bool) : KM 3003383808 s (State.loadCommand s out rearm ack hold shed) := by
  have hx : KM 3003383808 s s := KM.refl
  unfold State.loadCommand
  repeat' first
    | with_reducible assumption
    | intro hx
    | (show _ ||| _ = _; decide)
    | with_reducible apply KM.app (g := State.loadsFollow_keeps ..)
    | with_reducible apply KM.app (g := State.loadTakeHold_keeps ..)
    | with_reducible apply KM.each
    | with_reducible apply KM.app (g := State.modLoad_keeps ..)
    | with_reducible apply KM.app (g := State.loadTakeRearm_keeps ..)
    | with_reducible apply KM.app (g := State.raise_keeps ..)
    | with_reducible apply KM.app (g := State.modLoads_keeps ..)
    | (extract_lets +onlyGivenNames x; refine KM.let_ (m := 3003383808) (s := s) (x := x) ?_ ?_; all_goals first | (intro hx; clear_value x) | subst x)
    | (extract_lets +onlyGivenNames v; subst v)
    | split

theorem State.applyLoad_keeps (s : State) : KM 3003383808 s (State.applyLoad s) := by
  have hx : KM 3003383808 s s := KM.refl
  unfold State.applyLoad
  repeat' first
    | with_reducible assumption
    | intro hx
    | (show _ ||| _ = _; decide)
    | with_reducible apply KM.app (g := State.loadsFollow_keeps ..)
    | with_reducible apply KM.each
    | with_reducible apply KM.app (g := State.modLoad_keeps ..)
    | with_reducible apply KM.app (g := State.modLoads_keeps ..)
    | (extract_lets +onlyGivenNames x; refine KM.let_ (m := 3003383808) (s := s) (x := x) ?_ ?_; all_goals first | (intro hx; clear_value x) | subst x)
    | (extract_lets +onlyGivenNames v; subst v)
    | split

theorem State.loadDoorTick_keeps (s : State) (c : LoadCh) : KM 262144 s (State.loadDoorTick s c) := by
  have hx : KM 262144 s s := KM.refl
  unfold State.loadDoorTick
  repeat' first
    | with_reducible assumption
    | (show _ ||| _ = _; decide)
    | with_reducible apply KM.app (g := State.modLoad_keeps ..)
    | with_reducible apply KM.app (g := State.setLoadDemand_keeps ..)
    | (extract_lets +onlyGivenNames x; refine KM.let_ (m := 262144) (s := s) (x := x) ?_ ?_; all_goals first | (intro hx; clear_value x) | subst x)
    | (extract_lets +onlyGivenNames v; subst v)
    | split

theorem State.loadPendingTick_keeps (s : State) : KM 3003383808 s (State.loadPendingTick s) := by
  have hx : KM 3003383808 s s := KM.refl
  unfold State.loadPendingTick
  repeat' first
    | with_reducible assumption
    | intro hx
    | (show _ ||| _ = _; decide)
    | with_reducible apply KM.app (g := State.completeAll_keeps ..)
    | with_reducible apply KM.each
    | with_reducible apply KM.app (g := State.modLoads_keeps ..)
    | with_reducible apply KM.app (g := State.ok_keeps ..)
    | (extract_lets +onlyGivenNames x; refine KM.let_ (m := 3003383808) (s := s) (x := x) ?_ ?_; all_goals first | (intro hx; clear_value x) | subst x)
    | (extract_lets +onlyGivenNames v; subst v)
    | split

theorem State.loadCoreTick_keeps (s : State) : KM 3003383808 s (State.loadCoreTick s) := by
  have hx : KM 3003383808 s s := KM.refl
  unfold State.loadCoreTick
  repeat' first
    | with_reducible assumption
    | intro hx
    | (show _ ||| _ = _; decide)
    | with_reducible apply KM.app (g := State.loadDoorTick_keeps ..)
    | with_reducible apply KM.app (g := State.loadPendingTick_keeps ..)
    | with_reducible apply KM.each
    | with_reducible apply KM.app (g := State.loadRearm_keeps ..)
    | with_reducible apply KM.app (g := State.modLoad_keeps ..)
    | with_reducible apply KM.app (g := State.raise_keeps ..)
    | with_reducible apply KM.app (g := State.modLoads_keeps ..)
    | (extract_lets +onlyGivenNames x; refine KM.let_ (m := 3003383808) (s := s) (x := x) ?_ ?_; all_goals first | (intro hx; clear_value x) | subst x)
    | (extract_lets +onlyGivenNames v; subst v)
    | split

theorem State.loadMismatch_keeps (s : State) : KM 3003121824 s (State.loadMismatch s) := by
  have hx : KM 3003121824 s s := KM.refl
  unfold State.loadMismatch
  repeat' first
    | with_reducible assumption
    | (show _ ||| _ = _; decide)
    | with_reducible apply KM.app (g := State.modSlot_keeps ..)
    | with_reducible apply KM.app (g := State.raise_keeps ..)
    | with_reducible apply KM.app (g := State.judgeTiers_keeps ..)
    | (extract_lets +onlyGivenNames x; refine KM.let_ (m := 3003121824) (s := s) (x := x) ?_ ?_; all_goals first | (intro hx; clear_value x) | subst x)
    | (extract_lets +onlyGivenNames v; subst v)

theorem State.loadSafe_keeps (s : State) : KM 3003383808 s (State.loadSafe s) := by
  have hx : KM 3003383808 s s := KM.refl
  unfold State.loadSafe
  repeat' first
    | with_reducible assumption
    | (show _ ||| _ = _; decide)
    | with_reducible apply KM.app (g := State.loadsFollow_keeps ..)
    | with_reducible apply KM.app (g := State.raise_keeps ..)
    | with_reducible apply KM.app (g := State.modLoads_keeps ..)
    | (extract_lets +onlyGivenNames x; refine KM.let_ (m := 3003383808) (s := s) (x := x) ?_ ?_; all_goals first | (intro hx; clear_value x) | subst x)
    | (extract_lets +onlyGivenNames v; subst v)
    | split

theorem State.wireStep_keeps (s : State) (c : LoadCh) (mA : ℕ) : KM 3003383808 s (State.wireStep s c mA) := by
  have hx : KM 3003383808 s s := KM.refl
  unfold State.wireStep
  repeat' first
    | with_reducible assumption
    | (show _ ||| _ = _; decide)
    | with_reducible apply KM.app (g := State.modLoad_keeps ..)
    | with_reducible apply KM.app (g := State.raise_keeps ..)
    | with_reducible apply KM.app (g := State.latchLoad_keeps ..)
    | (extract_lets +onlyGivenNames x; refine KM.let_ (m := 3003383808) (s := s) (x := x) ?_ ?_; all_goals first | (intro hx; clear_value x) | subst x)
    | (extract_lets +onlyGivenNames v; subst v)
    | split

theorem State.estBecomes_keeps (s : State) (new : EstState) : KM 3004170240 s (State.estBecomes s new) := by
  have hx : KM 3004170240 s s := KM.refl
  unfold State.estBecomes
  repeat' first
    | with_reducible assumption
    | (show _ ||| _ = _; decide)
    | with_reducible apply KM.app (g := State.raise_keeps ..)
    | with_reducible apply KM.app (g := State.modEnergy_keeps ..)
    | (extract_lets +onlyGivenNames x; refine KM.let_ (m := 3004170240) (s := s) (x := x) ?_ ?_; all_goals first | (intro hx; clear_value x) | subst x)
    | (extract_lets +onlyGivenNames v; subst v)
    | split

theorem State.estTick_keeps (s : State) : KM 3004170240 s (State.estTick s) := by
  have hx : KM 3004170240 s s := KM.refl
  unfold State.estTick
  repeat' first
    | with_reducible assumption
    | (show _ ||| _ = _; decide)
    | with_reducible apply KM.app (g := State.raise_keeps ..)
    | with_reducible apply KM.app (g := State.modEnergy_keeps ..)
    | with_reducible apply KM.app (g := State.estBecomes_keeps ..)
    | (extract_lets +onlyGivenNames x; refine KM.let_ (m := 3004170240) (s := s) (x := x) ?_ ?_; all_goals first | (intro hx; clear_value x) | subst x)
    | (extract_lets +onlyGivenNames v; subst v)
    | split

theorem State.lossAction_keeps (s : State) (d : Doorway) : KM 11594106112 s (State.lossAction s d) := by
  have hx : KM 11594106112 s s := KM.refl
  unfold State.lossAction
  repeat' first
    | with_reducible assumption
    | (show _ ||| _ = _; decide)
    | with_reducible apply KM.app (g := State.enterLeaf_keeps ..)
    | with_reducible apply KM.app (g := State.ask_keeps ..)
    | with_reducible apply KM.app (g := State.endCmd_keeps ..)
    | with_reducible apply KM.app (g := State.raise_keeps ..)
    | with_reducible apply KM.app (g := State.modEnergy_keeps ..)
    | (extract_lets +onlyGivenNames x; refine KM.let_ (m := 11594106112) (s := s) (x := x) ?_ ?_; all_goals first | (intro hx; clear_value x) | subst x)
    | (extract_lets +onlyGivenNames v; subst v)
    | split

theorem State.emBecomes_keeps (s : State) (new : EmState) : KM 3004170240 s (State.emBecomes s new) := by
  have hx : KM 3004170240 s s := KM.refl
  unfold State.emBecomes
  repeat' first
    | with_reducible assumption
    | (show _ ||| _ = _; decide)
    | with_reducible apply KM.app (g := State.raise_keeps ..)
    | with_reducible apply KM.app (g := State.modEnergy_keeps ..)
    | (extract_lets +onlyGivenNames x; refine KM.let_ (m := 3004170240) (s := s) (x := x) ?_ ?_; all_goals first | (intro hx; clear_value x) | subst x)
    | (extract_lets +onlyGivenNames v; subst v)
    | split

theorem State.judgeReady_keeps (s : State) : KM 3004170368 s (State.judgeReady s) := by
  have hx : KM 3004170368 s s := KM.refl
  unfold State.judgeReady
  repeat' first
    | with_reducible assumption
    | (show _ ||| _ = _; decide)
    | with_reducible apply KM.app (g := State.raise_keeps ..)
    | with_reducible apply KM.app (g := State.modEnergy_keeps ..)
    | with_reducible apply KM.app (g := State.judgeTiers_keeps ..)
    | (extract_lets +onlyGivenNames x; refine KM.let_ (m := 3004170368) (s := s) (x := x) ?_ ?_; all_goals first | (intro hx; clear_value x) | subst x)
    | (extract_lets +onlyGivenNames v; subst v)
    | split

theorem State.emFaultOn_keeps (s : State) (code : ℕ) : KM 3004170400 s (State.emFaultOn s code) := by
  have hx : KM 3004170400 s s := KM.refl
  unfold State.emFaultOn
  repeat' first
    | with_reducible assumption
    | (show _ ||| _ = _; decide)
    | with_reducible apply KM.app (g := State.emBecomes_keeps ..)
    | with_reducible apply KM.app (g := State.modSlot_keeps ..)
    | with_reducible apply KM.app (g := State.takeOut_keeps ..)
    | with_reducible apply KM.app (g := State.judgeReady_keeps ..)
    | with_reducible apply KM.app (g := State.raise_keeps ..)
    | with_reducible apply KM.app (g := State.modEnergy_keeps ..)
    | (extract_lets +onlyGivenNames x; refine KM.let_ (m := 3004170400) (s := s) (x := x) ?_ ?_; all_goals first | (intro hx; clear_value x) | subst x)
    | (extract_lets +onlyGivenNames v; subst v)

theorem State.beginBudget_keeps (s : State) (n : ℕ) : KM 3004170240 s (State.beginBudget s n) := by
  have hx : KM 3004170240 s s := KM.refl
  unfold State.beginBudget
  repeat' first
    | with_reducible assumption
    | (show _ ||| _ = _; decide)
    | with_reducible apply KM.app (g := State.raise_keeps ..)
    | with_reducible apply KM.app (g := State.modEnergy_keeps ..)
    | split

theorem State.startWindow_keeps (s : State) : KM 1048576 s (State.startWindow s) := by
  have hx : KM 1048576 s s := KM.refl
  unfold State.startWindow
  repeat' first
    | with_reducible assumption
    | (show _ ||| _ = _; decide)
    | with_reducible apply KM.app (g := State.modEnergy_keeps ..)

theorem State.doRestWindow_keeps (s : State) (r : Req) : KM 3004170240 s (State.doRestWindow s r) := by
  have hx : KM 3004170240 s s := KM.refl
  unfold State.doRestWindow
  repeat' first
    | with_reducible assumption
    | (show _ ||| _ = _; decide)
    | with_reducible apply KM.app (g := State.complete_keeps ..)
    | with_reducible apply KM.app (g := State.startWindow_keeps ..)
    | with_reducible apply KM.app (g := State.modEnergy_keeps ..)
    | with_reducible apply KM.app (g := State.fail_keeps ..)
    | (extract_lets +onlyGivenNames x; refine KM.let_ (m := 3004170240) (s := s) (x := x) ?_ ?_; all_goals first | (intro hx; clear_value x) | subst x)
    | (extract_lets +onlyGivenNames v; subst v)
    | split

theorem State.energyCommands_keeps (s : State) : KM 1048576 s (State.energyCommands s) := by
  have hx : KM 1048576 s s := KM.refl
  unfold State.energyCommands
  repeat' first
    | with_reducible assumption
    | (show _ ||| _ = _; decide)
    | with_reducible apply KM.app (g := State.modEnergy_keeps ..)
    | (extract_lets +onlyGivenNames x; refine KM.let_ (m := 1048576) (s := s) (x := x) ?_ ?_; all_goals first | (intro hx; clear_value x) | subst x)
    | (extract_lets +onlyGivenNames v; subst v)

theorem State.lineStop_keeps (s : State) (d : Doorway) (stranded : Bool) (detail : ℕ) : KM 49408 s (State.lineStop s d stranded detail) := by
  have hx : KM 49408 s s := KM.refl
  unfold State.lineStop
  repeat' first
    | with_reducible assumption
    | (show _ ||| _ = _; decide)
    | with_reducible apply KM.app (g := State.rampLeaves_keeps ..)
    | with_reducible apply KM.app (g := State.modDoor_keeps ..)
    | with_reducible apply KM.app (g := State.modObst_keeps ..)
    | (extract_lets +onlyGivenNames x; refine KM.let_ (m := 49408) (s := s) (x := x) ?_ ?_; all_goals first | (intro hx; clear_value x) | subst x)
    | (extract_lets +onlyGivenNames v; subst v)
    | split

theorem State.fitReading_keeps (s : State) (v : ℕ) (i : ℤ) : KM 3004170240 s (State.fitReading s v i) := by
  have hx : KM 3004170240 s s := KM.refl
  unfold State.fitReading
  repeat' first
    | with_reducible assumption
    | intro hx
    | (show _ ||| _ = _; decide)
    | with_reducible apply KM.app (g := State.raise_keeps ..)
    | with_reducible apply KM.app (g := State.modEnergy_keeps ..)
    | (extract_lets +onlyGivenNames x; refine KM.let_ (m := 3004170240) (s := s) (x := x) ?_ ?_; all_goals first | (intro hx; clear_value x) | subst x)
    | (extract_lets +onlyGivenNames v; subst v)
    | with_reducible apply KM.foldl
    | split

theorem State.lineFirst_keeps (s : State) (detail : ℕ) : KM 3003171072 s (State.lineFirst s detail) := by
  have hx : KM 3003171072 s s := KM.refl
  unfold State.lineFirst
  repeat' first
    | with_reducible assumption
    | intro hx
    | (show _ ||| _ = _; decide)
    | with_reducible apply KM.app (g := State.endAxisCmd_keeps ..)
    | with_reducible apply KM.app (g := State.lineStop_keeps ..)
    | with_reducible apply KM.each
    | with_reducible apply KM.app (g := State.rampStop_keeps ..)
    | (extract_lets +onlyGivenNames x; refine KM.let_ (m := 3003171072) (s := s) (x := x) ?_ ?_; all_goals first | (intro hx; clear_value x) | subst x)
    | (extract_lets +onlyGivenNames v; subst v)
    | split

theorem State.lineCut_keeps (s : State) (d : Doorway) : KM 3003154688 s (State.lineCut s d) := by
  have hx : KM 3003154688 s s := KM.refl
  unfold State.lineCut
  repeat' first
    | with_reducible assumption
    | intro hx
    | (show _ ||| _ = _; decide)
    | with_reducible apply KM.each
    | with_reducible apply KM.app (g := State.modDoor_keeps ..)
    | with_reducible apply KM.app (g := State.moveTo_keeps ..)
    | (extract_lets +onlyGivenNames x; refine KM.let_ (m := 3003154688) (s := s) (x := x) ?_ ?_; all_goals first | (intro hx; clear_value x) | subst x)
    | (extract_lets +onlyGivenNames v; subst v)
    | split

theorem State.lineRest_keeps (k : Nat) (s : State) (detail : Nat) : KM 1097984 s (State.lineRest k s detail) := by
  induction k generalizing s with
  | zero => exact KM.refl
  | succ k ih =>
    unfold State.lineRest
    split
    · exact KM.refl
    · split
      · exact KM.refl
      · refine KM.app (KM.app KM.refl (State.lineStop_keeps s _ _ _) (by decide)) (ih _) (by decide)

theorem State.crossLine_keeps (s : State) : KM 3004219648 s (State.crossLine s) := by
  have hx : KM 3004219648 s s := KM.refl
  unfold State.crossLine
  repeat' first
    | with_reducible assumption
    | intro hx
    | (show _ ||| _ = _; decide)
    | with_reducible apply KM.app (g := State.lineCut_keeps ..)
    | with_reducible apply KM.app (g := State.lineStop_keeps ..)
    | with_reducible apply KM.each
    | with_reducible apply KM.app (g := State.lineRest_keeps ..)
    | with_reducible apply KM.app (g := State.lineFirst_keeps ..)
    | (extract_lets +onlyGivenNames x; refine KM.let_ (m := 3004219648) (s := s) (x := x) ?_ ?_; all_goals first | (intro hx; clear_value x) | subst x)
    | (extract_lets +onlyGivenNames v; subst v)
    | split

theorem State.estInit_keeps (s : State) : KM 3004170240 s (State.estInit s) := by
  have hx : KM 3004170240 s s := KM.refl
  unfold State.estInit
  repeat' first
    | with_reducible assumption
    | (show _ ||| _ = _; decide)
    | with_reducible apply KM.app (g := State.modEnergy_keeps ..)
    | with_reducible apply KM.app (g := State.estBecomes_keeps ..)

theorem State.withERem_keeps (s : State) : KM 1048576 s (State.withERem s) := by
  have hx : KM 1048576 s s := KM.refl
  unfold State.withERem
  repeat' first
    | with_reducible assumption
    | (show _ ||| _ = _; decide)
    | with_reducible apply KM.app (g := State.modEnergy_keeps ..)

theorem State.floorReached_keeps (s : State) : KM 3004268800 s (State.floorReached s) := by
  have hx : KM 3004268800 s s := KM.refl
  unfold State.floorReached
  repeat' first
    | with_reducible assumption
    | intro hx
    | (show _ ||| _ = _; decide)
    | with_reducible apply KM.app (g := State.freeze_keeps ..)
    | with_reducible apply KM.each
    | with_reducible apply KM.app (g := State.raise_keeps ..)
    | with_reducible apply KM.app (g := State.modEnergy_keeps ..)
    | with_reducible apply KM.app (g := State.modAxis_keeps ..)
    | (extract_lets +onlyGivenNames x; refine KM.let_ (m := 3004268800) (s := s) (x := x) ?_ ?_; all_goals first | (intro hx; clear_value x) | subst x)
    | (extract_lets +onlyGivenNames v; subst v)
    | split

theorem State.hostRailsOff_keeps (s : State) : KM 34078752 s (State.hostRailsOff s) := by
  have hx : KM 34078752 s s := KM.refl
  unfold State.hostRailsOff
  repeat' first
    | with_reducible assumption
    | intro hx
    | (show _ ||| _ = _; decide)
    | with_reducible apply KM.app (g := State.modPort_keeps ..)
    | with_reducible apply KM.app (g := State.modSlot_keeps ..)
    | with_reducible apply KM.each
    | (extract_lets +onlyGivenNames x; refine KM.let_ (m := 34078752) (s := s) (x := x) ?_ ?_; all_goals first | (intro hx; clear_value x) | subst x)
    | (extract_lets +onlyGivenNames v; subst v)
    | ((with_reducible apply KM.mk_); intro p hp; cases p <;> first | exact absurd hp (by decide) | exact hx.get _ hp | rfl)

theorem State.drawTick_keeps (s : State) : KM 1048576 s (State.drawTick s) := by
  have hx : KM 1048576 s s := KM.refl
  unfold State.drawTick
  repeat' first
    | with_reducible assumption
    | intro hx
    | (show _ ||| _ = _; decide)
    | with_reducible apply KM.app (g := State.modEnergy_keeps ..)
    | (extract_lets +onlyGivenNames x; refine KM.let_ (m := 1048576) (s := s) (x := x) ?_ ?_; all_goals first | (intro hx; clear_value x) | subst x)
    | (extract_lets +onlyGivenNames v; subst v)
    | with_reducible apply KM.foldl
    | split

theorem State.energyTick_keeps (s : State) : KM 3004793248 s (State.energyTick s) := by
  have hx : KM 3004793248 s s := KM.refl
  unfold State.energyTick
  repeat' first
    | with_reducible assumption
    | (show _ ||| _ = _; decide)
    | with_reducible apply KM.app (g := State.beginBudget_keeps ..)
    | with_reducible apply KM.app (g := State.energyCommands_keeps ..)
    | with_reducible apply KM.app (g := State.hostRailsOff_keeps ..)
    | with_reducible apply KM.app (g := State.judgeReady_keeps ..)
    | with_reducible apply KM.app (g := State.startWindow_keeps ..)
    | with_reducible apply KM.app (g := State.modEnergy_keeps ..)
    | with_reducible apply KM.app (g := State.floorReached_keeps ..)
    | with_reducible apply KM.app (g := State.drawTick_keeps ..)
    | with_reducible apply KM.app (g := State.estTick_keeps ..)
    | (extract_lets +onlyGivenNames x; refine KM.let_ (m := 3004793248) (s := s) (x := x) ?_ ?_; all_goals first | (intro hx; clear_value x) | subst x)
    | (extract_lets +onlyGivenNames v; subst v)
    | split

theorem State.windowDone_keeps (s : State) (c : ℕ) (esr : ℕ) : KM 4077912067 s (State.windowDone s c esr) := by
  have hx : KM 4077912067 s s := KM.refl
  unfold State.windowDone
  repeat' first
    | with_reducible assumption
    | (show _ ||| _ = _; decide)
    | with_reducible apply KM.app (g := State.raise_keeps ..)
    | with_reducible apply KM.app (g := State.modEnergy_keeps ..)
    | with_reducible apply KM.app (g := State.ok_keeps ..)
    | with_reducible apply KM.app (g := State.until_keeps ..)
    | with_reducible apply KM.app (g := State.estBecomes_keeps ..)
    | (extract_lets +onlyGivenNames x; refine KM.let_ (m := 4077912067) (s := s) (x := x) ?_ ?_; all_goals first | (intro hx; clear_value x) | subst x)
    | (extract_lets +onlyGivenNames v; subst v)
    | split

theorem State.abortTick_keeps (s : State) : KM 3004219648 s (State.abortTick s) := by
  have hx : KM 3004219648 s s := KM.refl
  unfold State.abortTick
  repeat' first
    | with_reducible assumption
    | (show _ ||| _ = _; decide)
    | with_reducible apply KM.app (g := State.withERem_keeps ..)
    | with_reducible apply KM.app (g := State.crossLine_keeps ..)
    | with_reducible apply KM.app (g := State.raise_keeps ..)
    | with_reducible apply KM.app (g := State.modEnergy_keeps ..)
    | (extract_lets +onlyGivenNames x; refine KM.let_ (m := 3004219648) (s := s) (x := x) ?_ ?_; all_goals first | (intro hx; clear_value x) | subst x)
    | (extract_lets +onlyGivenNames v; subst v)
    | split

theorem State.lossActionTick_keeps (s : State) : KM 1049600 s (State.lossActionTick s) := by
  have hx : KM 1049600 s s := KM.refl
  unfold State.lossActionTick
  repeat' first
    | with_reducible assumption
    | intro hx
    | (show _ ||| _ = _; decide)
    | with_reducible apply KM.app (g := State.ask_keeps ..)
    | with_reducible apply KM.each
    | with_reducible apply KM.app (g := State.modEnergy_keeps ..)
    | (extract_lets +onlyGivenNames x; refine KM.let_ (m := 1049600) (s := s) (x := x) ?_ ?_; all_goals first | (intro hx; clear_value x) | subst x)
    | (extract_lets +onlyGivenNames v; subst v)
    | split

theorem State.journalRecover_keeps (s : State) (c : CoreId) : KM 7298088960 s (State.journalRecover s c) := by
  have hx : KM 7298088960 s s := KM.refl
  unfold State.journalRecover
  repeat' first
    | with_reducible assumption
    | (show _ ||| _ = _; decide)
    | with_reducible apply KM.app (g := State.modNand_keeps ..)
    | with_reducible apply KM.app (g := State.raise_keeps ..)
    | (extract_lets +onlyGivenNames x; refine KM.let_ (m := 7298088960) (s := s) (x := x) ?_ ?_; all_goals first | (intro hx; clear_value x) | subst x)
    | (extract_lets +onlyGivenNames v; subst v)
    | split

theorem State.intake_keeps (k : Nat) (s : State) : KM 15032385536 s (State.intake k s) := by
  induction k generalizing s with
  | zero => exact KM.refl
  | succ k ih =>
    unfold State.intake
    extract_lets n take
    split
    · exact KM.refl
    · have ht : ∀ r j, KM 15032385536 s { s with journal := { j with nextNumber := j.nextNumber + 1 } } → KM 15032385536 s (take r j) := by
        intro r j hj
        unfold take
        with_reducible apply KM.app (g := ih _)
        · with_reducible apply KM.app (g := State.modNand_keeps _ _ _)
          · exact hj
          · decide
        · decide
      clear_value take
      split
      · exact ht _ _ (KM.lit KM.refl fun p hp => by cases p <;> first | exact absurd hp (by decide) | exact rfl)
      · exact ht _ _ (KM.lit KM.refl fun p hp => by cases p <;> first | exact absurd hp (by decide) | exact rfl)
      · exact KM.refl

theorem State.pageWritten_keeps (s : State) (c : CoreId) : KM 7298088960 s (State.pageWritten s c) := by
  have hx : KM 7298088960 s s := KM.refl
  unfold State.pageWritten
  repeat' first
    | with_reducible assumption
    | (show _ ||| _ = _; decide)
    | with_reducible apply KM.app (g := State.modNand_keeps ..)
    | with_reducible apply KM.app (g := State.raise_keeps ..)
    | (extract_lets +onlyGivenNames x; refine KM.let_ (m := 7298088960) (s := s) (x := x) ?_ ?_; all_goals first | (intro hx; clear_value x) | subst x)
    | (extract_lets +onlyGivenNames v; subst v)
    | split

theorem State.recordCommitted_keeps (s : State) (c : CoreId) (r : Record) : KM 7298088960 s (State.recordCommitted s c r) := by
  have hx : KM 7298088960 s s := KM.refl
  unfold State.recordCommitted
  repeat' first
    | with_reducible assumption
    | (show _ ||| _ = _; decide)
    | with_reducible apply KM.app (g := State.modNand_keeps ..)
    | with_reducible apply KM.app (g := State.raise_keeps ..)
    | with_reducible apply KM.app (g := State.ok_keeps ..)
    | (extract_lets +onlyGivenNames x; refine KM.let_ (m := 7298088960) (s := s) (x := x) ?_ ?_; all_goals first | (intro hx; clear_value x) | subst x)
    | (extract_lets +onlyGivenNames v; subst v)
    | split

theorem State.commit_keeps (s : State) (c : CoreId) (n : ℕ) : KM 7298088960 s (State.commit s c n) := by
  have hx : KM 7298088960 s s := KM.refl
  unfold State.commit
  repeat' first
    | with_reducible assumption
    | intro hx
    | (show _ ||| _ = _; decide)
    | with_reducible apply KM.app (g := State.modNand_keeps ..)
    | with_reducible apply KM.each
    | with_reducible apply KM.app (g := State.recordCommitted_keeps ..)
    | (extract_lets +onlyGivenNames x; refine KM.let_ (m := 7298088960) (s := s) (x := x) ?_ ?_; all_goals first | (intro hx; clear_value x) | subst x)
    | (extract_lets +onlyGivenNames v; subst v)

theorem State.flushPages_keeps (k : Nat) (s : State) : KM 15888023552 s (State.flushPages k s) := by
  induction k generalizing s with
  | zero => exact KM.refl
  | succ k ih =>
    unfold State.flushPages
    extract_lets s1 c n s2
    have h : KM 15888023552 s s1 := KM.app KM.refl (State.intake_keeps ..) (by decide)
    have h2 : KM 15888023552 s s2 := by
      unfold s2
      with_reducible apply KM.app (g := State.pageWritten_keeps _ _)
      · with_reducible apply KM.app (g := State.commit_keeps _ _ _)
        · exact h
        · decide
      · decide
    by_cases hc : (n.image.isEmpty || n.faulted) = true
    · rw [if_pos hc]; exact h
    · rw [if_neg hc]
      with_reducible apply KM.app (g := ih _)
      · with_reducible apply KM.app (g := State.modNand_keeps _ _ _)
        · exact h2
        · decide
      · decide

theorem State.retireBlock_keeps (s : State) (c : CoreId) (block : ℕ) : KM 7298088960 s (State.retireBlock s c block) := by
  have hx : KM 7298088960 s s := KM.refl
  unfold State.retireBlock
  repeat' first
    | with_reducible assumption
    | (show _ ||| _ = _; decide)
    | with_reducible apply KM.app (g := State.modNand_keeps ..)
    | with_reducible apply KM.app (g := State.raise_keeps ..)
    | (extract_lets +onlyGivenNames x; refine KM.let_ (m := 7298088960) (s := s) (x := x) ?_ ?_; all_goals first | (intro hx; clear_value x) | subst x)
    | (extract_lets +onlyGivenNames v; subst v)
    | split

theorem State.gapRecord_keeps (s : State) : KM 2147483648 s (State.gapRecord s) := by
  have hx : KM 2147483648 s s := KM.refl
  unfold State.gapRecord
  repeat' first
    | with_reducible assumption
    | intro hx
    | ((with_reducible apply Lit.mk); intro p hp; first | (cases p <;> first | exact absurd hp (by decide) | exact rfl) | (split <;> cases p <;> first | exact absurd hp (by decide) | exact rfl) | (split <;> split <;> cases p <;> first | exact absurd hp (by decide) | exact rfl))
    | (show _ ||| _ = _; decide)
    | with_reducible apply KM.app (g := State.stage_keeps ..)
    | with_reducible apply KM.modJournal
    | (extract_lets +onlyGivenNames x; refine KM.let_ (m := 2147483648) (s := s) (x := x) ?_ ?_; all_goals first | (intro hx; clear_value x) | subst x)
    | (extract_lets +onlyGivenNames v; subst v)
    | split

theorem State.startProgram_keeps (s : State) (c : CoreId) (kind : NandProgram) : KM 4294967296 s (State.startProgram s c kind) := by
  have hx : KM 4294967296 s s := KM.refl
  unfold State.startProgram
  repeat' first
    | with_reducible assumption
    | (show _ ||| _ = _; decide)
    | with_reducible apply KM.app (g := State.modNand_keeps ..)
    | (extract_lets +onlyGivenNames x; refine KM.let_ (m := 4294967296) (s := s) (x := x) ?_ ?_; all_goals first | (intro hx; clear_value x) | subst x)
    | (extract_lets +onlyGivenNames v; subst v)
    | split

theorem State.nandTick_keeps (s : State) (c : CoreId) : KM 4294967296 s (State.nandTick s c) := by
  have hx : KM 4294967296 s s := KM.refl
  unfold State.nandTick
  repeat' first
    | with_reducible assumption
    | (show _ ||| _ = _; decide)
    | with_reducible apply KM.app (g := State.startProgram_keeps ..)
    | split

theorem State.journalTick_keeps (s : State) : KM 15032385536 s (State.journalTick s) := by
  have hx : KM 15032385536 s s := KM.refl
  unfold State.journalTick
  repeat' first
    | with_reducible assumption
    | intro hx
    | ((with_reducible apply Lit.mk); intro p hp; cases p <;> first | exact absurd hp (by decide) | exact rfl)
    | (show _ ||| _ = _; decide)
    | with_reducible apply KM.app (g := State.intake_keeps ..)
    | with_reducible apply KM.app (g := State.gapRecord_keeps ..)
    | with_reducible apply KM.app (g := State.nandTick_keeps ..)
    | with_reducible apply KM.modJournal
    | (extract_lets +onlyGivenNames x; refine KM.let_ (m := 15032385536) (s := s) (x := x) ?_ ?_; all_goals first | (intro hx; clear_value x) | subst x)
    | (extract_lets +onlyGivenNames v; subst v)

theorem State.programGood_keeps (s : State) (c : CoreId) : KM 7298088960 s (State.programGood s c) := by
  have hx : KM 7298088960 s s := KM.refl
  unfold State.programGood
  repeat' first
    | with_reducible assumption
    | (show _ ||| _ = _; decide)
    | with_reducible apply KM.app (g := State.modNand_keeps ..)
    | with_reducible apply KM.app (g := State.pageWritten_keeps ..)
    | with_reducible apply KM.app (g := State.commit_keeps ..)
    | (extract_lets +onlyGivenNames x; refine KM.let_ (m := 7298088960) (s := s) (x := x) ?_ ?_; all_goals first | (intro hx; clear_value x) | subst x)
    | (extract_lets +onlyGivenNames v; subst v)
    | split

theorem State.flushJournal_keeps (s : State) : KM 15888023552 s (State.flushJournal s) := by
  have hx : KM 15888023552 s s := KM.refl
  unfold State.flushJournal
  repeat' first
    | with_reducible assumption
    | intro hx
    | (show _ ||| _ = _; decide)
    | with_reducible apply KM.app (g := State.modNand_keeps ..)
    | with_reducible apply KM.app (g := State.flushPages_keeps ..)
    | with_reducible apply KM.each
    | with_reducible apply KM.app (g := State.pageWritten_keeps ..)
    | with_reducible apply KM.app (g := State.commit_keeps ..)
    | (extract_lets +onlyGivenNames x; refine KM.let_ (m := 15888023552) (s := s) (x := x) ?_ ?_; all_goals first | (intro hx; clear_value x) | subst x)
    | (extract_lets +onlyGivenNames v; subst v)
    | split

theorem State.programBad_keeps (s : State) (c : CoreId) (page : ℕ) (plane : ℕ) (blockBad : Bool) : KM 7302283264 s (State.programBad s c page plane blockBad) := by
  have hx : KM 7302283264 s s := KM.refl
  unfold State.programBad
  repeat' first
    | with_reducible assumption
    | (show _ ||| _ = _; decide)
    | with_reducible apply KM.app (g := State.retireBlock_keeps ..)
    | with_reducible apply KM.app (g := State.modCore_keeps ..)
    | with_reducible apply KM.app (g := State.modNand_keeps ..)
    | with_reducible apply KM.app (g := State.raise_keeps ..)
    | with_reducible apply KM.app (g := State.commit_keeps ..)
    | (extract_lets +onlyGivenNames x; refine KM.let_ (m := 7302283264) (s := s) (x := x) ?_ ?_; all_goals first | (intro hx; clear_value x) | subst x)
    | (extract_lets +onlyGivenNames v; subst v)
    | split

theorem State.stopPort_keeps (s : State) (p : PortId) (reason : ℕ) : KM 3003121664 s (State.stopPort s p reason) := by
  have hx : KM 3003121664 s s := KM.refl
  unfold State.stopPort
  repeat' first
    | with_reducible assumption
    | (show _ ||| _ = _; decide)
    | with_reducible apply KM.app (g := State.modPort_keeps ..)
    | with_reducible apply KM.app (g := State.raise_keeps ..)
    | split

theorem State.portDown_keeps (s : State) (p : PortId) (reason : ℕ) : KM 11593155328 s (State.portDown s p reason) := by
  have hx : KM 11593155328 s s := KM.refl
  unfold State.portDown
  repeat' first
    | with_reducible assumption
    | (show _ ||| _ = _; decide)
    | with_reducible apply KM.app (g := State.stopPort_keeps ..)
    | with_reducible apply KM.app (g := State.loseClaims_keeps ..)

theorem State.beginWake_keeps (s : State) (src : PowerState) (causes : BitVec 32) : KM 2097152 s (State.beginWake s src causes) := by
  have hx : KM 2097152 s s := KM.refl
  unfold State.beginWake
  repeat' first
    | with_reducible assumption
    | (show _ ||| _ = _; decide)
    | with_reducible apply KM.app (g := State.modPower_keeps ..)
    | split

theorem State.saveRestart_keeps (s : State) : KM 68719476736 s (State.saveRestart s) := by
  have hx : KM 68719476736 s s := KM.refl
  unfold State.saveRestart
  repeat' first
    | with_reducible assumption
    | (show _ ||| _ = _; decide)
    | ((with_reducible apply KM.mk_); intro p hp; cases p <;> first | exact absurd hp (by decide) | exact hx.get _ hp | rfl)

theorem State.lastGasp_keeps (s : State) (cause : ℕ) : KM 268435456 s (State.lastGasp s cause) := by
  have hx : KM 268435456 s s := KM.refl
  unfold State.lastGasp
  repeat' first
    | with_reducible assumption
    | intro hx
    | ((with_reducible apply Lit.mk); intro p hp; first | (cases p <;> first | exact absurd hp (by decide) | exact rfl) | (split <;> cases p <;> first | exact absurd hp (by decide) | exact rfl) | (split <;> split <;> cases p <;> first | exact absurd hp (by decide) | exact rfl))
    | (show _ ||| _ = _; decide)
    | with_reducible apply KM.app (g := State.sendOwn_keeps ..)
    | with_reducible apply KM.modCan
    | (extract_lets +onlyGivenNames x; refine KM.let_ (m := 268435456) (s := s) (x := x) ?_ ?_; all_goals first | (intro hx; clear_value x) | subst x)
    | (extract_lets +onlyGivenNames v; subst v)
    | split

theorem State.coreOff_keeps (s : State) (c : CoreId) : KM 37367058464 s (State.coreOff s c) := by
  have hx : KM 37367058464 s s := KM.refl
  unfold State.coreOff
  repeat' first
    | with_reducible assumption
    | (show _ ||| _ = _; decide)
    | with_reducible apply KM.app (g := State.modSession_keeps ..)
    | with_reducible apply KM.app (g := State.loopDrop_keeps ..)
    | with_reducible apply KM.app (g := State.modCore_keeps ..)
    | with_reducible apply KM.app (g := State.modSlot_keeps ..)
    | (extract_lets +onlyGivenNames x; refine KM.let_ (m := 37367058464) (s := s) (x := x) ?_ ?_; all_goals first | (intro hx; clear_value x) | subst x)
    | (extract_lets +onlyGivenNames v; subst v)
    | split

theorem State.frameOff_keeps (s : State) : KM 38451810336 s (State.frameOff s) := by
  have hx : KM 38451810336 s s := KM.refl
  unfold State.frameOff
  repeat' first
    | with_reducible assumption
    | intro hx
    | ((with_reducible apply Lit.mk); intro p hp; cases p <;> first | exact absurd hp (by decide) | exact rfl)
    | (show _ ||| _ = _; decide)
    | with_reducible apply KM.app (g := State.coreOff_keeps ..)
    | with_reducible apply KM.app (g := State.releaseHeld_keeps ..)
    | with_reducible apply KM.modPair
    | with_reducible apply KM.app (g := State.modPower_keeps ..)
    | (extract_lets +onlyGivenNames x; refine KM.let_ (m := 38451810336) (s := s) (x := x) ?_ ?_; all_goals first | (intro hx; clear_value x) | subst x)
    | (extract_lets +onlyGivenNames v; subst v)
    | ((with_reducible apply KM.mk_); intro p hp; cases p <;> first | exact absurd hp (by decide) | exact hx.get _ hp | rfl)

theorem State.bothLinksDown_keeps (s : State) (p : HostPort) (reason : ℕ) : KM 11595252480 s (State.bothLinksDown s p reason) := by
  have hx : KM 11595252480 s s := KM.refl
  unfold State.bothLinksDown
  repeat' first
    | with_reducible assumption
    | (show _ ||| _ = _; decide)
    | with_reducible apply KM.app (g := State.modPort_keeps ..)
    | with_reducible apply KM.app (g := State.portDown_keeps ..)
    | with_reducible apply KM.app (g := State.modPower_keeps ..)
    | (extract_lets +onlyGivenNames x; refine KM.let_ (m := 11595252480) (s := s) (x := x) ?_ ?_; all_goals first | (intro hx; clear_value x) | subst x)
    | (extract_lets +onlyGivenNames v; subst v)
    | split

theorem State.dropLinks_keeps (s : State) (p : HostPort) : KM 11595252480 s (State.dropLinks s p) := by
  have hx : KM 11595252480 s s := KM.refl
  unfold State.dropLinks
  repeat' first
    | with_reducible assumption
    | intro hx
    | (show _ ||| _ = _; decide)
    | with_reducible apply KM.app (g := State.modPort_keeps ..)
    | with_reducible apply KM.each
    | with_reducible apply KM.app (g := State.raise_keeps ..)
    | with_reducible apply KM.app (g := State.bothLinksDown_keeps ..)
    | (extract_lets +onlyGivenNames x; refine KM.let_ (m := 11595252480) (s := s) (x := x) ?_ ?_; all_goals first | (intro hx; clear_value x) | subst x)
    | (extract_lets +onlyGivenNames v; subst v)
    | split

theorem State.endSession_keeps (s : State) (c : CoreId) (reason : ℕ) : KM 45952893696 s (State.endSession s c reason) := by
  have hx : KM 45952893696 s s := KM.refl
  unfold State.endSession
  repeat' first
    | with_reducible assumption
    | (show _ ||| _ = _; decide)
    | with_reducible apply KM.app (g := State.modPort_keeps ..)
    | with_reducible apply KM.app (g := State.modSession_keeps ..)
    | with_reducible apply KM.app (g := State.raise_keeps ..)
    | with_reducible apply KM.app (g := State.loseClaims_keeps ..)
    | (extract_lets +onlyGivenNames x; refine KM.let_ (m := 45952893696) (s := s) (x := x) ?_ ?_; all_goals first | (intro hx; clear_value x) | subst x)
    | (extract_lets +onlyGivenNames v; subst v)
    | split

theorem State.commitShutdown_keeps (s : State) (kind : ℕ) (target : ℕ) (from_ : ℕ) (cycleEnd : ℕ) : KM 79457419264 s (State.commitShutdown s kind target from_ cycleEnd) := by
  have hx : KM 79457419264 s s := KM.refl
  unfold State.commitShutdown
  repeat' first
    | with_reducible assumption
    | intro hx
    | (show _ ||| _ = _; decide)
    | with_reducible apply KM.app (g := State.saveRestart_keeps ..)
    | with_reducible apply KM.app (g := State.stage_keeps ..)
    | with_reducible apply KM.app (g := State.endCycle_keeps ..)
    | with_reducible apply KM.each
    | (extract_lets +onlyGivenNames x; refine KM.let_ (m := 79457419264) (s := s) (x := x) ?_ ?_; all_goals first | (intro hx; clear_value x) | subst x)
    | (extract_lets +onlyGivenNames v; subst v)
    | ((with_reducible apply KM.mk_); intro p hp; cases p <;> first | exact absurd hp (by decide) | exact hx.get _ hp | rfl)

theorem State.cancelSched_keeps (s : State) : KM 4076863488 s (State.cancelSched s) := by
  have hx : KM 4076863488 s s := KM.refl
  unfold State.cancelSched
  repeat' first
    | with_reducible assumption
    | intro hx
    | (show _ ||| _ = _; decide)
    | with_reducible apply KM.each
    | with_reducible apply KM.app (g := State.raise_keeps ..)
    | with_reducible apply KM.app (g := State.fail_keeps ..)
    | with_reducible apply KM.app (g := State.modTime_keeps ..)
    | (extract_lets +onlyGivenNames x; refine KM.let_ (m := 4076863488) (s := s) (x := x) ?_ ?_; all_goals first | (intro hx; clear_value x) | subst x)
    | (extract_lets +onlyGivenNames v; subst v)

theorem State.modSupply_keeps (s : State) (f : SupplySt → SupplySt) : KM 524288 s (State.modSupply s f) := by
  have hx : KM 524288 s s := KM.refl
  unfold State.modSupply
  repeat' first
    | with_reducible assumption
    | (show _ ||| _ = _; decide)
    | ((with_reducible apply KM.mk_); intro p hp; cases p <;> first | exact absurd hp (by decide) | exact hx.get _ hp | rfl)

theorem State.beginStep_keeps (s : State) (k : ShutStep) : KM 3003645952 s (State.beginStep s k) := by
  have hx : KM 3003645952 s s := KM.refl
  unfold State.beginStep
  repeat' first
    | with_reducible assumption
    | (show _ ||| _ = _; decide)
    | with_reducible apply KM.app (g := State.raise_keeps ..)
    | with_reducible apply KM.app (g := State.modSupply_keeps ..)

theorem State.beginS4_keeps (s : State) : KM 80314105856 s (State.beginS4 s) := by
  have hx : KM 80314105856 s s := KM.refl
  unfold State.beginS4
  repeat' first
    | with_reducible assumption
    | (show _ ||| _ = _; decide)
    | with_reducible apply KM.app (g := State.beginBudget_keeps ..)
    | with_reducible apply KM.app (g := State.beginStep_keeps ..)
    | with_reducible apply KM.app (g := State.commitShutdown_keeps ..)
    | split

theorem State.lossEnds_keeps (s : State) : KM 1572864 s (State.lossEnds s) := by
  have hx : KM 1572864 s s := KM.refl
  unfold State.lossEnds
  repeat' first
    | with_reducible assumption
    | (show _ ||| _ = _; decide)
    | with_reducible apply KM.app (g := State.modEnergy_keeps ..)
    | with_reducible apply KM.app (g := State.modSupply_keeps ..)

theorem State.toS4_keeps (s : State) : KM 80314105856 s (State.toS4 s) := by
  have hx : KM 80314105856 s s := KM.refl
  unfold State.toS4
  repeat' first
    | with_reducible assumption
    | (show _ ||| _ = _; decide)
    | with_reducible apply KM.app (g := State.beginS4_keeps ..)
    | with_reducible apply KM.app (g := State.raise_keeps ..)
    | with_reducible apply KM.app (g := State.lossEnds_keeps ..)
    | (extract_lets +onlyGivenNames x; refine KM.let_ (m := 80314105856) (s := s) (x := x) ?_ ?_; all_goals first | (intro hx; clear_value x) | subst x)
    | (extract_lets +onlyGivenNames v; subst v)
    | split

theorem State.reserveEnds_keeps (s : State) : KM 80314105856 s (State.reserveEnds s) := by
  have hx : KM 80314105856 s s := KM.refl
  unfold State.reserveEnds
  repeat' first
    | with_reducible assumption
    | (show _ ||| _ = _; decide)
    | with_reducible apply KM.app (g := State.modSupply_keeps ..)
    | with_reducible apply KM.app (g := State.toS4_keeps ..)
    | split

theorem State.svcApply_keeps (s : State) : KM 524288 s (State.svcApply s) := by
  have hx : KM 524288 s s := KM.refl
  unfold State.svcApply
  repeat' first
    | with_reducible assumption
    | (show _ ||| _ = _; decide)
    | with_reducible apply KM.app (g := State.modSupply_keeps ..)
    | (extract_lets +onlyGivenNames x; refine KM.let_ (m := 524288) (s := s) (x := x) ?_ ?_; all_goals first | (intro hx; clear_value x) | subst x)
    | (extract_lets +onlyGivenNames v; subst v)

theorem State.beginS2_keeps (s : State) : KM 3003678720 s (State.beginS2 s) := by
  have hx : KM 3003678720 s s := KM.refl
  unfold State.beginS2
  repeat' first
    | with_reducible assumption
    | intro hx
    | (show _ ||| _ = _; decide)
    | with_reducible apply KM.app (g := State.beginStep_keeps ..)
    | with_reducible apply KM.each
    | with_reducible apply KM.app (g := State.rampStop_keeps ..)
    | (extract_lets +onlyGivenNames x; refine KM.let_ (m := 3003678720) (s := s) (x := x) ?_ ?_; all_goals first | (intro hx; clear_value x) | subst x)
    | (extract_lets +onlyGivenNames v; subst v)
    | split

theorem State.beginShutdown_keeps (s : State) : KM 12668404992 s (State.beginShutdown s) := by
  have hx : KM 12668404992 s s := KM.refl
  unfold State.beginShutdown
  repeat' first
    | with_reducible assumption
    | intro hx
    | (show _ ||| _ = _; decide)
    | with_reducible apply KM.app (g := State.beginS2_keeps ..)
    | with_reducible apply KM.app (g := State.lossAction_keeps ..)
    | with_reducible apply KM.app (g := State.cancelSched_keeps ..)
    | with_reducible apply KM.app (g := State.beginStep_keeps ..)
    | with_reducible apply KM.each
    | with_reducible apply KM.app (g := State.modSupply_keeps ..)
    | (extract_lets +onlyGivenNames x; refine KM.let_ (m := 12668404992) (s := s) (x := x) ?_ ?_; all_goals first | (intro hx; clear_value x) | subst x)
    | (extract_lets +onlyGivenNames v; subst v)
    | split

theorem State.supplyLoss_keeps (s : State) (feeds : ℕ) : KM 12668404992 s (State.supplyLoss s feeds) := by
  have hx : KM 12668404992 s s := KM.refl
  unfold State.supplyLoss
  repeat' first
    | with_reducible assumption
    | (show _ ||| _ = _; decide)
    | with_reducible apply KM.app (g := State.raise_keeps ..)
    | with_reducible apply KM.app (g := State.abortWindow_keeps ..)
    | with_reducible apply KM.app (g := State.modEnergy_keeps ..)
    | with_reducible apply KM.app (g := State.modSupply_keeps ..)
    | with_reducible apply KM.app (g := State.beginShutdown_keeps ..)
    | (extract_lets +onlyGivenNames x; refine KM.let_ (m := 12668404992) (s := s) (x := x) ?_ ?_; all_goals first | (intro hx; clear_value x) | subst x)
    | (extract_lets +onlyGivenNames v; subst v)
    | split

theorem State.judgeSupply_keeps (s : State) (p : Fin 2) (was : ℕ) : KM 12668405120 s (State.judgeSupply s p was) := by
  have hx : KM 12668405120 s s := KM.refl
  unfold State.judgeSupply
  repeat' first
    | with_reducible assumption
    | (show _ ||| _ = _; decide)
    | with_reducible apply KM.app (g := State.lossEnds_keeps ..)
    | with_reducible apply KM.app (g := State.judgeTiers_keeps ..)
    | with_reducible apply KM.app (g := State.svcApply_keeps ..)
    | with_reducible apply KM.app (g := State.supplyLoss_keeps ..)
    | (extract_lets +onlyGivenNames x; refine KM.let_ (m := 12668405120) (s := s) (x := x) ?_ ?_; all_goals first | (intro hx; clear_value x) | subst x)
    | (extract_lets +onlyGivenNames v; subst v)
    | split

theorem State.feedReported_keeps (s : State) (p : Fin 2) (new : Feed) (v : ℤ) : KM 12668405120 s (State.feedReported s p new v) := by
  have hx : KM 12668405120 s s := KM.refl
  unfold State.feedReported
  repeat' first
    | with_reducible assumption
    | (show _ ||| _ = _; decide)
    | with_reducible apply KM.app (g := State.modPm_keeps ..)
    | with_reducible apply KM.app (g := State.raise_keeps ..)
    | with_reducible apply KM.app (g := State.judgeSupply_keeps ..)
    | (extract_lets +onlyGivenNames x; refine KM.let_ (m := 12668405120) (s := s) (x := x) ?_ ?_; all_goals first | (intro hx; clear_value x) | subst x)
    | (extract_lets +onlyGivenNames v; subst v)
    | split

theorem State.feedBecomes_keeps (s : State) (p : Fin 2) (new : Feed) (v : ℤ) : KM 12670502272 s (State.feedBecomes s p new v) := by
  have hx : KM 12670502272 s s := KM.refl
  unfold State.feedBecomes
  repeat' first
    | with_reducible assumption
    | (show _ ||| _ = _; decide)
    | with_reducible apply KM.app (g := State.beginWake_keeps ..)
    | with_reducible apply KM.app (g := State.feedReported_keeps ..)
    | with_reducible apply KM.app (g := State.modPm_keeps ..)
    | (extract_lets +onlyGivenNames x; refine KM.let_ (m := 12670502272) (s := s) (x := x) ?_ ?_; all_goals first | (intro hx; clear_value x) | subst x)
    | (extract_lets +onlyGivenNames v; subst v)
    | split

theorem State.svcGone_keeps (s : State) (core : CoreId) : KM 45953417984 s (State.svcGone s core) := by
  have hx : KM 45953417984 s s := KM.refl
  unfold State.svcGone
  repeat' first
    | with_reducible assumption
    | (show _ ||| _ = _; decide)
    | with_reducible apply KM.app (g := State.svcApply_keeps ..)
    | with_reducible apply KM.app (g := State.modSink_keeps ..)
    | with_reducible apply KM.app (g := State.endSession_keeps ..)

theorem State.brownout_keeps (s : State) (core : CoreId) : KM 120056288032 s (State.brownout s core) := by
  have hx : KM 120056288032 s s := KM.refl
  unfold State.brownout
  repeat' first
    | with_reducible assumption
    | (show _ ||| _ = _; decide)
    | with_reducible apply KM.app (g := State.svcGone_keeps ..)
    | with_reducible apply KM.app (g := State.frameOff_keeps ..)
    | with_reducible apply KM.app (g := State.lastGasp_keeps ..)
    | with_reducible apply KM.app (g := State.flushJournal_keeps ..)
    | with_reducible apply KM.app (g := State.coreOff_keeps ..)
    | with_reducible apply KM.app (g := State.raise_keeps ..)
    | with_reducible apply KM.app (g := State.modSupply_keeps ..)
    | with_reducible apply KM.app (g := State.commitShutdown_keeps ..)
    | (extract_lets +onlyGivenNames x; refine KM.let_ (m := 120056288032) (s := s) (x := x) ?_ ?_; all_goals first | (intro hx; clear_value x) | subst x)
    | (extract_lets +onlyGivenNames v; subst v)
    | split

theorem State.vbusLost_keeps (s : State) (core : CoreId) : KM 120056288032 s (State.vbusLost s core) := by
  have hx : KM 120056288032 s s := KM.refl
  unfold State.vbusLost
  repeat' first
    | with_reducible assumption
    | (show _ ||| _ = _; decide)
    | with_reducible apply KM.app (g := State.svcGone_keeps ..)
    | with_reducible apply KM.app (g := State.brownout_keeps ..)
    | (extract_lets +onlyGivenNames x; refine KM.let_ (m := 120056288032) (s := s) (x := x) ?_ ?_; all_goals first | (intro hx; clear_value x) | subst x)
    | (extract_lets +onlyGivenNames v; subst v)
    | split

theorem State.shutdownCap_keeps (s : State) : KM 81387847683 s (State.shutdownCap s) := by
  have hx : KM 81387847683 s s := KM.refl
  unfold State.shutdownCap
  repeat' first
    | with_reducible assumption
    | (show _ ||| _ = _; decide)
    | with_reducible apply KM.app (g := State.raise_keeps ..)
    | with_reducible apply KM.app (g := State.modSupply_keeps ..)
    | with_reducible apply KM.app (g := State.until_keeps ..)
    | with_reducible apply KM.app (g := State.toS4_keeps ..)
    | (extract_lets +onlyGivenNames x; refine KM.let_ (m := 81387847683) (s := s) (x := x) ?_ ?_; all_goals first | (intro hx; clear_value x) | subst x)
    | (extract_lets +onlyGivenNames v; subst v)
    | split

theorem State.beginS7_keeps (s : State) : KM 47041844000 s (State.beginS7 s) := by
  have hx : KM 47041844000 s s := KM.refl
  unfold State.beginS7
  repeat' first
    | with_reducible assumption
    | intro hx
    | (show _ ||| _ = _; decide)
    | with_reducible apply KM.app (g := State.dropLinks_keeps ..)
    | with_reducible apply KM.app (g := State.loopDrop_keeps ..)
    | with_reducible apply KM.app (g := State.hostRailsOff_keeps ..)
    | with_reducible apply KM.app (g := State.frameOff_keeps ..)
    | with_reducible apply KM.app (g := State.beginStep_keeps ..)
    | with_reducible apply KM.each
    | with_reducible apply KM.app (g := State.coreOff_keeps ..)
    | with_reducible apply KM.app (g := State.raise_keeps ..)
    | with_reducible apply KM.app (g := State.modSupply_keeps ..)
    | with_reducible apply KM.app (g := State.svcApply_keeps ..)
    | with_reducible apply KM.app (g := State.loseClaims_keeps ..)
    | (extract_lets +onlyGivenNames x; refine KM.let_ (m := 47041844000) (s := s) (x := x) ?_ ?_; all_goals first | (intro hx; clear_value x) | subst x)
    | (extract_lets +onlyGivenNames v; subst v)
    | split

theorem State.sendHold_keeps (s : State) : KM 393216 s (State.sendHold s) := by
  have hx : KM 393216 s s := KM.refl
  unfold State.sendHold
  repeat' first
    | with_reducible assumption
    | intro hx
    | (show _ ||| _ = _; decide)
    | with_reducible apply KM.each
    | with_reducible apply KM.app (g := State.modLoads_keeps ..)
    | with_reducible apply KM.app (g := State.modFieldMod_keeps ..)

theorem State.park_keeps (s : State) : KM 2129920 s (State.park s) := by
  have hx : KM 2129920 s s := KM.refl
  unfold State.park
  repeat' first
    | with_reducible assumption
    | intro hx
    | (show _ ||| _ = _; decide)
    | with_reducible apply KM.each
    | with_reducible apply KM.app (g := State.modAxis_keeps ..)
    | with_reducible apply KM.app (g := State.modPower_keeps ..)

theorem State.endStep_keeps (s : State) : KM 120057729824 s (State.endStep s) := by
  have hx : KM 120057729824 s s := KM.refl
  unfold State.endStep
  repeat' first
    | with_reducible assumption
    | (show _ ||| _ = _; decide)
    | with_reducible apply KM.app (g := State.beginBudget_keeps ..)
    | with_reducible apply KM.app (g := State.beginS2_keeps ..)
    | with_reducible apply KM.app (g := State.beginS7_keeps ..)
    | with_reducible apply KM.app (g := State.beginStep_keeps ..)
    | with_reducible apply KM.app (g := State.lastGasp_keeps ..)
    | with_reducible apply KM.app (g := State.flushJournal_keeps ..)
    | with_reducible apply KM.app (g := State.sendHold_keeps ..)
    | with_reducible apply KM.app (g := State.modSupply_keeps ..)
    | with_reducible apply KM.app (g := State.toS4_keeps ..)
    | with_reducible apply KM.app (g := State.park_keeps ..)
    | split

theorem State.shutdownTick_keeps (s : State) : KM 120057729824 s (State.shutdownTick s) := by
  have hx : KM 120057729824 s s := KM.refl
  unfold State.shutdownTick
  repeat' first
    | with_reducible assumption
    | (show _ ||| _ = _; decide)
    | with_reducible apply KM.app (g := State.beginBudget_keeps ..)
    | with_reducible apply KM.app (g := State.endStep_keeps ..)
    | (extract_lets +onlyGivenNames x; refine KM.let_ (m := 120057729824) (s := s) (x := x) ?_ ?_; all_goals first | (intro hx; clear_value x) | subst x)
    | (extract_lets +onlyGivenNames v; subst v)
    | split

theorem State.svcCores_keeps (s : State) : KM 4194304 s (State.svcCores s) := by
  have hx : KM 4194304 s s := KM.refl
  unfold State.svcCores
  repeat' first
    | with_reducible assumption
    | intro hx
    | (show _ ||| _ = _; decide)
    | with_reducible apply KM.app (g := State.modCore_keeps ..)
    | with_reducible apply KM.each
    | split

theorem State.loadsReturn_keeps (s : State) (core : CoreId) : KM 4081582083 s (State.loadsReturn s core) := by
  have hx : KM 4081582083 s s := KM.refl
  unfold State.loadsReturn
  repeat' first
    | with_reducible assumption
    | (show _ ||| _ = _; decide)
    | with_reducible apply KM.app (g := State.raise_keeps ..)
    | with_reducible apply KM.app (g := State.svcCores_keeps ..)
    | with_reducible apply KM.app (g := State.until_keeps ..)
    | with_reducible apply KM.app (g := State.svcApply_keeps ..)
    | with_reducible apply KM.app (g := State.modSink_keeps ..)
    | (extract_lets +onlyGivenNames x; refine KM.let_ (m := 4081582083) (s := s) (x := x) ?_ ?_; all_goals first | (intro hx; clear_value x) | subst x)
    | (extract_lets +onlyGivenNames v; subst v)
    | split

theorem State.lossTick_keeps (s : State) : KM 120057730851 s (State.lossTick s) := by
  have hx : KM 120057730851 s s := KM.refl
  unfold State.lossTick
  repeat' first
    | with_reducible assumption
    | (show _ ||| _ = _; decide)
    | with_reducible apply KM.app (g := State.shutdownTick_keeps ..)
    | with_reducible apply KM.app (g := State.hostRailsOff_keeps ..)
    | with_reducible apply KM.app (g := State.reserveEnds_keeps ..)
    | with_reducible apply KM.app (g := State.shutdownCap_keeps ..)
    | with_reducible apply KM.app (g := State.beginShutdown_keeps ..)
    | (extract_lets +onlyGivenNames x; refine KM.let_ (m := 120057730851) (s := s) (x := x) ?_ ?_; all_goals first | (intro hx; clear_value x) | subst x)
    | (extract_lets +onlyGivenNames v; subst v)
    | split

theorem State.pmFaultOn_keeps (s : State) (p : Fin 2) (code : ℕ) : KM 12668405152 s (State.pmFaultOn s p code) := by
  have hx : KM 12668405152 s s := KM.refl
  unfold State.pmFaultOn
  repeat' first
    | with_reducible assumption
    | (show _ ||| _ = _; decide)
    | with_reducible apply KM.app (g := State.modPm_keeps ..)
    | with_reducible apply KM.app (g := State.modSlot_keeps ..)
    | with_reducible apply KM.app (g := State.takeOut_keeps ..)
    | with_reducible apply KM.app (g := State.raise_keeps ..)
    | with_reducible apply KM.app (g := State.judgeSupply_keeps ..)
    | (extract_lets +onlyGivenNames x; refine KM.let_ (m := 12668405152) (s := s) (x := x) ?_ ?_; all_goals first | (intro hx; clear_value x) | subst x)
    | (extract_lets +onlyGivenNames v; subst v)
    | split

theorem State.supplyCommands_keeps (s : State) : KM 524288 s (State.supplyCommands s) := by
  have hx : KM 524288 s s := KM.refl
  unfold State.supplyCommands
  repeat' first
    | with_reducible assumption
    | intro hx
    | (show _ ||| _ = _; decide)
    | with_reducible apply KM.app (g := State.modPm_keeps ..)
    | with_reducible apply KM.each
    | (extract_lets +onlyGivenNames x; refine KM.let_ (m := 524288) (s := s) (x := x) ?_ ?_; all_goals first | (intro hx; clear_value x) | subst x)
    | (extract_lets +onlyGivenNames v; subst v)
    | split

theorem State.refuseIndex_keeps (s : State) (p : HostPort) (f : PortSt → PortSt) (ring : ℕ) (reason : ℕ) : KM 3003121664 s (State.refuseIndex s p f ring reason) := by
  have hx : KM 3003121664 s s := KM.refl
  unfold State.refuseIndex
  repeat' first
    | with_reducible assumption
    | (show _ ||| _ = _; decide)
    | with_reducible apply KM.app (g := State.modPort_keeps ..)
    | with_reducible apply KM.app (g := State.raise_keeps ..)
    | (extract_lets +onlyGivenNames x; refine KM.let_ (m := 3003121664) (s := s) (x := x) ?_ ?_; all_goals first | (intro hx; clear_value x) | subst x)
    | (extract_lets +onlyGivenNames v; subst v)

theorem State.takeCqHead_keeps (s : State) (p : HostPort) (q : Fin 16) (h : ℕ) : KM 3003121664 s (State.takeCqHead s p q h) := by
  have hx : KM 3003121664 s s := KM.refl
  unfold State.takeCqHead
  repeat' first
    | with_reducible assumption
    | (show _ ||| _ = _; decide)
    | with_reducible apply KM.app (g := State.modPort_keeps ..)
    | with_reducible apply KM.app (g := State.refuseIndex_keeps ..)
    | (extract_lets +onlyGivenNames x; refine KM.let_ (m := 3003121664) (s := s) (x := x) ?_ ?_; all_goals first | (intro hx; clear_value x) | subst x)
    | (extract_lets +onlyGivenNames v; subst v)
    | split

theorem State.standbyDoorbell_keeps (s : State) (p : HostPort) : KM 3003121664 s (State.standbyDoorbell s p) := by
  have hx : KM 3003121664 s s := KM.refl
  unfold State.standbyDoorbell
  repeat' first
    | with_reducible assumption
    | (show _ ||| _ = _; decide)
    | with_reducible apply KM.app (g := State.modPort_keeps ..)
    | with_reducible apply KM.app (g := State.raise_keeps ..)
    | (extract_lets +onlyGivenNames x; refine KM.let_ (m := 3003121664) (s := s) (x := x) ?_ ?_; all_goals first | (intro hx; clear_value x) | subst x)
    | (extract_lets +onlyGivenNames v; subst v)
    | split

theorem State.doorbell_keeps {m : Nat} {s0 s : State} {p : HostPort} {core : CoreId} {f : State → State}
    (h : KM m s0 s) (hf : ∀ t, KM m s0 t → KM m s0 (f t)) (hm : 3003121664 ||| m = m) :
    KM m s0 (s.doorbell p core f) := by
  unfold State.doorbell
  split
  · exact hf _ h
  · exact KM.app h (State.standbyDoorbell_keeps _ _) hm

theorem State.doHeartbeat_keeps (s : State) (r : Req) : KM 3003121664 s (State.doHeartbeat s r) := by
  have hx : KM 3003121664 s s := KM.refl
  unfold State.doHeartbeat
  repeat' first
    | with_reducible assumption
    | intro hx
    | ((with_reducible apply Lit.mk); intro p hp; first | (cases p <;> first | exact absurd hp (by decide) | exact rfl) | (split <;> cases p <;> first | exact absurd hp (by decide) | exact rfl) | (split <;> split <;> cases p <;> first | exact absurd hp (by decide) | exact rfl))
    | (show _ ||| _ = _; decide)
    | with_reducible apply KM.modCan
    | with_reducible apply KM.app (g := State.ok_keeps ..)
    | split

theorem State.takeSet_keeps (s : State) (r : Req) (oc : BitVec 15) (ps : List (ℕ × ℕ)) : KM 3003121688 s (State.takeSet s r oc ps) := by
  have hx : KM 3003121688 s s := KM.refl
  unfold State.takeSet
  repeat' first
    | with_reducible assumption
    | (show _ ||| _ = _; decide)
    | with_reducible apply KM.app (g := State.ok_keeps ..)
    | (extract_lets +onlyGivenNames x; refine KM.let_ (m := 3003121688) (s := s) (x := x) ?_ ?_; all_goals first | (intro hx; clear_value x) | subst x)
    | (extract_lets +onlyGivenNames v; subst v)
    | ((with_reducible apply KM.mk_); intro p hp; cases p <;> first | exact absurd hp (by decide) | exact hx.get _ hp | rfl)

theorem State.doParamWrite_keeps (s : State) (r : Req) (es : List (ℕ × ℕ)) : KM 3003121688 s (State.doParamWrite s r es) := by
  have hx : KM 3003121688 s s := KM.refl
  unfold State.doParamWrite
  repeat' first
    | with_reducible assumption
    | intro hx
    | (show _ ||| _ = _; decide)
    | with_reducible apply KM.app (g := State.takeSet_keeps ..)
    | with_reducible apply KM.app (g := State.fail_keeps ..)
    | with_reducible apply KM.app (g := State.failOwner_keeps ..)
    | (extract_lets +onlyGivenNames x; refine KM.let_ (m := 3003121688) (s := s) (x := x) ?_ ?_; all_goals first | (intro hx; clear_value x) | subst x)
    | (extract_lets +onlyGivenNames v; subst v)
    | with_reducible apply KM.foldl
    | split

theorem State.msix_keeps (s : State) (p : HostPort) (ring : Option (Fin 16)) : KM 33554432 s (State.msix s p ring) := by
  have hx : KM 33554432 s s := KM.refl
  unfold State.msix
  repeat' first
    | with_reducible assumption
    | (show _ ||| _ = _; decide)
    | with_reducible apply KM.app (g := State.modPort_keeps ..)
    | (extract_lets +onlyGivenNames x; refine KM.let_ (m := 33554432) (s := s) (x := x) ?_ ?_; all_goals first | (intro hx; clear_value x) | subst x)
    | (extract_lets +onlyGivenNames v; subst v)
    | split

theorem State.doReplay_keeps (s : State) (r : Req) (first : BitVec 32) (count : ℕ) (ring : ℕ) : KM 3003121664 s (State.doReplay s r first count ring) := by
  have hx : KM 3003121664 s s := KM.refl
  unfold State.doReplay
  repeat' first
    | with_reducible assumption
    | intro hx
    | (show _ ||| _ = _; decide)
    | with_reducible apply KM.app (g := State.modPort_keeps ..)
    | with_reducible apply KM.app (g := State.ok_keeps ..)
    | with_reducible apply KM.app (g := State.fail_keeps ..)
    | (extract_lets +onlyGivenNames x; refine KM.let_ (m := 3003121664) (s := s) (x := x) ?_ ?_; all_goals first | (intro hx; clear_value x) | subst x)
    | (extract_lets +onlyGivenNames v; subst v)
    | with_reducible apply KM.foldl
    | split

theorem State.takeEvqHead_keeps (s : State) (p : HostPort) (h : ℕ) : KM 3003121664 s (State.takeEvqHead s p h) := by
  have hx : KM 3003121664 s s := KM.refl
  unfold State.takeEvqHead
  repeat' first
    | with_reducible assumption
    | (show _ ||| _ = _; decide)
    | with_reducible apply KM.app (g := State.modPort_keeps ..)
    | with_reducible apply KM.app (g := State.refuseIndex_keeps ..)
    | (extract_lets +onlyGivenNames x; refine KM.let_ (m := 3003121664) (s := s) (x := x) ?_ ?_; all_goals first | (intro hx; clear_value x) | subst x)
    | (extract_lets +onlyGivenNames v; subst v)
    | split

theorem State.takeTail_keeps (s : State) (p : HostPort) (q : Fin 16) (t : ℕ) : KM 3003121664 s (State.takeTail s p q t) := by
  have hx : KM 3003121664 s s := KM.refl
  unfold State.takeTail
  repeat' first
    | with_reducible assumption
    | (show _ ||| _ = _; decide)
    | with_reducible apply KM.app (g := State.modPort_keeps ..)
    | with_reducible apply KM.app (g := State.refuseIndex_keeps ..)
    | (extract_lets +onlyGivenNames x; refine KM.let_ (m := 3003121664) (s := s) (x := x) ?_ ?_; all_goals first | (intro hx; clear_value x) | subst x)
    | (extract_lets +onlyGivenNames v; subst v)
    | split

theorem State.readShadow_keeps (s : State) (p : HostPort) (area : List Byte) : KM 3003121664 s (State.readShadow s p area) := by
  have hx : KM 3003121664 s s := KM.refl
  unfold State.readShadow
  repeat' first
    | with_reducible assumption
    | intro hx
    | (show _ ||| _ = _; decide)
    | with_reducible apply KM.app (g := State.takeEvqHead_keeps ..)
    | with_reducible apply KM.app (g := State.takeCqHead_keeps ..)
    | with_reducible apply KM.app (g := State.takeTail_keeps ..)
    | with_reducible apply KM.each
    | (extract_lets +onlyGivenNames x; refine KM.let_ (m := 3003121664) (s := s) (x := x) ?_ ?_; all_goals first | (intro hx; clear_value x) | subst x)
    | (extract_lets +onlyGivenNames v; subst v)

theorem State.portError_keeps (s : State) (p : HostPort) (bit : ℕ) : KM 33554432 s (State.portError s p bit) := by
  have hx : KM 33554432 s s := KM.refl
  unfold State.portError
  repeat' first
    | with_reducible assumption
    | (show _ ||| _ = _; decide)
    | with_reducible apply KM.app (g := State.modPort_keeps ..)

theorem State.disablePort_keeps (s : State) (p : HostPort) (v : BitVec 32) : KM 3003121664 s (State.disablePort s p v) := by
  have hx : KM 3003121664 s s := KM.refl
  unfold State.disablePort
  repeat' first
    | with_reducible assumption
    | (show _ ||| _ = _; decide)
    | with_reducible apply KM.app (g := State.modPort_keeps ..)
    | with_reducible apply KM.app (g := State.stopPort_keeps ..)

theorem State.writeFailed_keeps (s : State) (p : HostPort) (bit : ℕ) : KM 3003121664 s (State.writeFailed s p bit) := by
  have hx : KM 3003121664 s s := KM.refl
  unfold State.writeFailed
  repeat' first
    | with_reducible assumption
    | (show _ ||| _ = _; decide)
    | with_reducible apply KM.app (g := State.portError_keeps ..)
    | with_reducible apply KM.app (g := State.disablePort_keeps ..)
    | with_reducible apply KM.app (g := State.raise_keeps ..)
    | (extract_lets +onlyGivenNames x; refine KM.let_ (m := 3003121664) (s := s) (x := x) ?_ ?_; all_goals first | (intro hx; clear_value x) | subst x)
    | (extract_lets +onlyGivenNames v; subst v)

theorem State.setUpWrite_keeps {m : Nat} {s0 s : State} {core : CoreId} {f : State → State}
    (h : KM m s0 s) (hf : ∀ t, KM m s0 t → KM m s0 (f t)) : KM m s0 (s.setUpWrite core f) := by
  unfold State.setUpWrite
  split
  · exact hf _ h
  · exact h

end Sys2Proof.Machine
end

