-- ==== Sys2Proof/Laws/KeepsOps3.lean ====
section
/-!
SUPPORT. What the operations of the model leave alone, part 3 of 4 (see `Keeps`).
-/

set_option linter.all false

namespace Sys2Proof.Machine

theorem State.msixTick_keeps (s : State) (p : HostPort) : KM 33554432 s (State.msixTick s p) := by
  have hx : KM 33554432 s s := KM.refl
  unfold State.msixTick
  repeat' first
    | with_reducible assumption
    | intro hx
    | (show _ ||| _ = _; decide)
    | with_reducible apply KM.each
    | with_reducible apply KM.app (g := State.msix_keeps ..)
    | (extract_lets +onlyGivenNames x; refine KM.let_ (m := 33554432) (s := s) (x := x) ?_ ?_; all_goals first | (intro hx; clear_value x) | subst x)
    | (extract_lets +onlyGivenNames v; subst v)
    | split

theorem State.reportDropped_keeps (s : State) (p : PortId) : KM 3003121664 s (State.reportDropped s p) := by
  have hx : KM 3003121664 s s := KM.refl
  unfold State.reportDropped
  repeat' first
    | with_reducible assumption
    | (show _ ||| _ = _; decide)
    | with_reducible apply KM.app (g := State.modPort_keeps ..)
    | with_reducible apply KM.app (g := State.raise_keeps ..)
    | (extract_lets +onlyGivenNames x; refine KM.let_ (m := 3003121664) (s := s) (x := x) ?_ ?_; all_goals first | (intro hx; clear_value x) | subst x)
    | (extract_lets +onlyGivenNames v; subst v)
    | split

theorem State.doIoRead_keeps (s : State) (r : Req) : KM 3003121664 s (State.doIoRead s r) := by
  have hx : KM 3003121664 s s := KM.refl
  unfold State.doIoRead
  repeat' first
    | with_reducible assumption
    | (show _ ||| _ = _; decide)
    | with_reducible apply KM.app (g := State.ok_keeps ..)

theorem State.copyOut_keeps (s : State) (r : Req) (data : List Byte) : KM 33554432 s (State.copyOut s r data) := by
  have hx : KM 33554432 s s := KM.refl
  unfold State.copyOut
  repeat' first
    | with_reducible assumption
    | (show _ ||| _ = _; decide)
    | with_reducible apply KM.app (g := State.modPort_keeps ..)
    | split

theorem State.writeRingCfg_keeps (s : State) (p : HostPort) (evq : Bool) (v : BitVec 32) : KM 33554432 s (State.writeRingCfg s p evq v) := by
  have hx : KM 33554432 s s := KM.refl
  unfold State.writeRingCfg
  repeat' first
    | with_reducible assumption
    | (show _ ||| _ = _; decide)
    | with_reducible apply KM.app (g := State.modPort_keeps ..)
    | with_reducible apply KM.app (g := State.portError_keeps ..)
    | (extract_lets +onlyGivenNames x; refine KM.let_ (m := 33554432) (s := s) (x := x) ?_ ?_; all_goals first | (intro hx; clear_value x) | subst x)
    | (extract_lets +onlyGivenNames v; subst v)
    | split

theorem State.doParamRead_keeps (s : State) (r : Req) (first : ℕ) (count : ℕ) : KM 3003121664 s (State.doParamRead s r first count) := by
  have hx : KM 3003121664 s s := KM.refl
  unfold State.doParamRead
  repeat' first
    | with_reducible assumption
    | (show _ ||| _ = _; decide)
    | with_reducible apply KM.app (g := State.copyOut_keeps ..)
    | with_reducible apply KM.app (g := State.ok_keeps ..)
    | with_reducible apply KM.app (g := State.fail_keeps ..)
    | (extract_lets +onlyGivenNames x; refine KM.let_ (m := 3003121664) (s := s) (x := x) ?_ ?_; all_goals first | (intro hx; clear_value x) | subst x)
    | (extract_lets +onlyGivenNames v; subst v)
    | split

theorem State.doParamSetRead_keeps (s : State) (r : Req) : KM 3003121664 s (State.doParamSetRead s r) := by
  have hx : KM 3003121664 s s := KM.refl
  unfold State.doParamSetRead
  repeat' first
    | with_reducible assumption
    | (show _ ||| _ = _; decide)
    | with_reducible apply KM.app (g := State.copyOut_keeps ..)
    | with_reducible apply KM.app (g := State.ok_keeps ..)
    | with_reducible apply KM.app (g := State.fail_keeps ..)
    | (extract_lets +onlyGivenNames x; refine KM.let_ (m := 3003121664) (s := s) (x := x) ?_ ?_; all_goals first | (intro hx; clear_value x) | subst x)
    | (extract_lets +onlyGivenNames v; subst v)
    | split

theorem State.drainLayby_keeps (s : State) (p : PortId) : KM 3003121664 s (State.drainLayby s p) := by
  have hx : KM 3003121664 s s := KM.refl
  unfold State.drainLayby
  repeat' first
    | with_reducible assumption
    | (show _ ||| _ = _; decide)
    | with_reducible apply KM.app (g := State.modPort_keeps ..)
    | with_reducible apply KM.app (g := State.noteLayby_keeps ..)
    | (extract_lets +onlyGivenNames x; refine KM.let_ (m := 3003121664) (s := s) (x := x) ?_ ?_; all_goals first | (intro hx; clear_value x) | subst x)
    | (extract_lets +onlyGivenNames v; subst v)
    | split

theorem State.linkChange_keeps (s : State) (p : HostPort) (core : CoreId) (isUp : Bool) (gen : BitVec 3) : KM 11595252480 s (State.linkChange s p core isUp gen) := by
  have hx : KM 11595252480 s s := KM.refl
  unfold State.linkChange
  repeat' first
    | with_reducible assumption
    | (show _ ||| _ = _; decide)
    | with_reducible apply KM.app (g := State.modPort_keeps ..)
    | with_reducible apply KM.app (g := State.raise_keeps ..)
    | with_reducible apply KM.app (g := State.bothLinksDown_keeps ..)
    | (extract_lets +onlyGivenNames x; refine KM.let_ (m := 11595252480) (s := s) (x := x) ?_ ?_; all_goals first | (intro hx; clear_value x) | subst x)
    | (extract_lets +onlyGivenNames v; subst v)
    | split

theorem State.doParamSetLoad_keeps (s : State) (r : Req) : KM 3003121688 s (State.doParamSetLoad s r) := by
  have hx : KM 3003121688 s s := KM.refl
  unfold State.doParamSetLoad
  repeat' first
    | with_reducible assumption
    | (show _ ||| _ = _; decide)
    | with_reducible apply KM.app (g := State.takeSet_keeps ..)
    | with_reducible apply KM.app (g := State.fail_keeps ..)
    | with_reducible apply KM.app (g := State.failOwner_keeps ..)
    | (extract_lets +onlyGivenNames x; refine KM.let_ (m := 3003121688) (s := s) (x := x) ?_ ?_; all_goals first | (intro hx; clear_value x) | subst x)
    | (extract_lets +onlyGivenNames v; subst v)
    | split

theorem State.enablePort_keeps (s : State) (p : HostPort) (v : BitVec 32) : KM 3003121664 s (State.enablePort s p v) := by
  have hx : KM 3003121664 s s := KM.refl
  unfold State.enablePort
  repeat' first
    | with_reducible assumption
    | (show _ ||| _ = _; decide)
    | with_reducible apply KM.app (g := State.modPort_keeps ..)
    | with_reducible apply KM.app (g := State.portError_keeps ..)
    | with_reducible apply KM.app (g := State.raise_keeps ..)
    | with_reducible apply KM.app (g := State.drainLayby_keeps ..)
    | (extract_lets +onlyGivenNames x; refine KM.let_ (m := 3003121664) (s := s) (x := x) ?_ ?_; all_goals first | (intro hx; clear_value x) | subst x)
    | (extract_lets +onlyGivenNames v; subst v)
    | split

theorem State.doNop_keeps (s : State) (r : Req) : KM 3003121664 s (State.doNop s r) := by
  have hx : KM 3003121664 s s := KM.refl
  unfold State.doNop
  repeat' first
    | with_reducible assumption
    | (show _ ||| _ = _; decide)
    | with_reducible apply KM.app (g := State.ok_keeps ..)

theorem State.p2Down_keeps (s : State) : KM 11593155328 s (State.p2Down s) := by
  have hx : KM 11593155328 s s := KM.refl
  unfold State.p2Down
  repeat' first
    | with_reducible assumption
    | (show _ ||| _ = _; decide)
    | with_reducible apply KM.app (g := State.portDown_keeps ..)
    | with_reducible apply KM.app (g := State.raise_keeps ..)
    | split

theorem State.modCtl_keeps (s : State) (core : CoreId) (b : Bus) (f : CanCtl → CanCtl) : KM 67108864 s (State.modCtl s core b f) := by
  have hx : KM 67108864 s s := KM.refl
  unfold State.modCtl
  repeat' first
    | with_reducible assumption
    | intro hx
    | ((with_reducible apply Lit.mk); intro p hp; cases p <;> first | exact absurd hp (by decide) | exact rfl)
    | (show _ ||| _ = _; decide)
    | with_reducible apply KM.modCan

theorem State.dropPortFrames_keeps (s : State) (b : Bus) : KM 3003121664 s (State.dropPortFrames s b) := by
  have hx : KM 3003121664 s s := KM.refl
  unfold State.dropPortFrames
  repeat' first
    | with_reducible assumption
    | intro hx
    | ((with_reducible apply Lit.mk); intro p hp; first | (cases p <;> first | exact absurd hp (by decide) | exact rfl) | (split <;> cases p <;> first | exact absurd hp (by decide) | exact rfl) | (split <;> split <;> cases p <;> first | exact absurd hp (by decide) | exact rfl))
    | (show _ ||| _ = _; decide)
    | with_reducible apply KM.modCan
    | with_reducible apply KM.each
    | with_reducible apply KM.app (g := State.fail_keeps ..)
    | (extract_lets +onlyGivenNames x; refine KM.let_ (m := 3003121664) (s := s) (x := x) ?_ ?_; all_goals first | (intro hx; clear_value x) | subst x)
    | (extract_lets +onlyGivenNames v; subst v)
    | split

theorem State.busBecomes_keeps (s : State) (core : CoreId) (b : Bus) (new : BusState) (tec : ℕ) (rec_ : ℕ) : KM 3070230528 s (State.busBecomes s core b new tec rec_) := by
  have hx : KM 3070230528 s s := KM.refl
  unfold State.busBecomes
  repeat' first
    | with_reducible assumption
    | (show _ ||| _ = _; decide)
    | with_reducible apply KM.app (g := State.modCtl_keeps ..)
    | with_reducible apply KM.app (g := State.completeAll_keeps ..)
    | with_reducible apply KM.app (g := State.raise_keeps ..)
    | with_reducible apply KM.app (g := State.dropPortFrames_keeps ..)
    | (extract_lets +onlyGivenNames x; refine KM.let_ (m := 3070230528) (s := s) (x := x) ?_ ?_; all_goals first | (intro hx; clear_value x) | subst x)
    | (extract_lets +onlyGivenNames v; subst v)
    | split

theorem State.rateGood_keeps (s : State) (b : Bus) (f : CanFrame) : KM 3070230528 s (State.rateGood s b f) := by
  have hx : KM 3070230528 s s := KM.refl
  unfold State.rateGood
  repeat' first
    | with_reducible assumption
    | (show _ ||| _ = _; decide)
    | with_reducible apply KM.app (g := State.modCtl_keeps ..)
    | with_reducible apply KM.app (g := State.raise_keeps ..)
    | with_reducible apply KM.app (g := State.busBecomes_keeps ..)
    | (extract_lets +onlyGivenNames x; refine KM.let_ (m := 3070230528) (s := s) (x := x) ?_ ?_; all_goals first | (intro hx; clear_value x) | subst x)
    | (extract_lets +onlyGivenNames v; subst v)
    | split

theorem State.endRead_keeps (s : State) (p : RxPortId) : KM 3137339392 s (State.endRead s p) := by
  have hx : KM 3137339392 s s := KM.refl
  unfold State.endRead
  repeat' first
    | with_reducible assumption
    | intro hx
    | ((with_reducible apply Lit.mk); intro p hp; first | (cases p <;> first | exact absurd hp (by decide) | exact rfl) | (split <;> cases p <;> first | exact absurd hp (by decide) | exact rfl) | (split <;> split <;> cases p <;> first | exact absurd hp (by decide) | exact rfl))
    | (show _ ||| _ = _; decide)
    | with_reducible apply KM.modCan
    | with_reducible apply KM.app (g := State.copyOut_keeps ..)
    | with_reducible apply KM.app (g := State.ok_keeps ..)
    | with_reducible apply KM.app (g := State.fail_keeps ..)
    | (extract_lets +onlyGivenNames x; refine KM.let_ (m := 3137339392) (s := s) (x := x) ?_ ?_; all_goals first | (intro hx; clear_value x) | subst x)
    | (extract_lets +onlyGivenNames v; subst v)
    | split

theorem State.readTick_keeps (s : State) (p : RxPortId) : KM 3137339392 s (State.readTick s p) := by
  have hx : KM 3137339392 s s := KM.refl
  unfold State.readTick
  repeat' first
    | with_reducible assumption
    | (show _ ||| _ = _; decide)
    | with_reducible apply KM.app (g := State.endRead_keeps ..)
    | (extract_lets +onlyGivenNames x; refine KM.let_ (m := 3137339392) (s := s) (x := x) ?_ ?_; all_goals first | (intro hx; clear_value x) | subst x)
    | (extract_lets +onlyGivenNames v; subst v)
    | split

theorem State.acceptFrame_keeps (s : State) (b : Bus) (f : CanFrame) : KM 3137339392 s (State.acceptFrame s b f) := by
  have hx : KM 3137339392 s s := KM.refl
  unfold State.acceptFrame
  repeat' first
    | with_reducible assumption
    | intro hx
    | ((with_reducible apply Lit.mk); intro p hp; first | (cases p <;> first | exact absurd hp (by decide) | exact rfl) | (split <;> cases p <;> first | exact absurd hp (by decide) | exact rfl) | (split <;> split <;> cases p <;> first | exact absurd hp (by decide) | exact rfl))
    | (show _ ||| _ = _; decide)
    | with_reducible apply KM.modCan
    | with_reducible apply KM.each
    | with_reducible apply KM.app (g := State.readTick_keeps ..)
    | split

theorem State.protocolException_keeps (s : State) (b : Bus) : KM 3070230528 s (State.protocolException s b) := by
  have hx : KM 3070230528 s s := KM.refl
  unfold State.protocolException
  repeat' first
    | with_reducible assumption
    | (show _ ||| _ = _; decide)
    | with_reducible apply KM.app (g := State.modCtl_keeps ..)
    | with_reducible apply KM.app (g := State.raise_keeps ..)
    | (extract_lets +onlyGivenNames x; refine KM.let_ (m := 3070230528) (s := s) (x := x) ?_ ?_; all_goals first | (intro hx; clear_value x) | subst x)
    | (extract_lets +onlyGivenNames v; subst v)
    | split

theorem State.frameReceived_keeps (s : State) (b : Bus) (f : CanFrame) : KM 3204448256 s (State.frameReceived s b f) := by
  have hx : KM 3204448256 s s := KM.refl
  unfold State.frameReceived
  repeat' first
    | with_reducible assumption
    | intro hx
    | ((with_reducible apply Lit.mk); intro p hp; first | (cases p <;> first | exact absurd hp (by decide) | exact rfl) | (split <;> cases p <;> first | exact absurd hp (by decide) | exact rfl) | (split <;> split <;> cases p <;> first | exact absurd hp (by decide) | exact rfl))
    | (show _ ||| _ = _; decide)
    | with_reducible apply KM.app (g := State.modCtl_keeps ..)
    | with_reducible apply KM.modCan
    | with_reducible apply KM.app (g := State.rateGood_keeps ..)
    | with_reducible apply KM.app (g := State.raise_keeps ..)
    | with_reducible apply KM.app (g := State.acceptFrame_keeps ..)
    | with_reducible apply KM.app (g := State.protocolException_keeps ..)
    | (extract_lets +onlyGivenNames x; refine KM.let_ (m := 3204448256) (s := s) (x := x) ?_ ?_; all_goals first | (intro hx; clear_value x) | subst x)
    | (extract_lets +onlyGivenNames v; subst v)
    | split

theorem State.rxDropped_keeps (s : State) (p : RxPortId) : KM 3137339392 s (State.rxDropped s p) := by
  have hx : KM 3137339392 s s := KM.refl
  unfold State.rxDropped
  repeat' first
    | with_reducible assumption
    | intro hx
    | ((with_reducible apply Lit.mk); intro p hp; first | (cases p <;> first | exact absurd hp (by decide) | exact rfl) | (split <;> cases p <;> first | exact absurd hp (by decide) | exact rfl) | (split <;> split <;> cases p <;> first | exact absurd hp (by decide) | exact rfl))
    | (show _ ||| _ = _; decide)
    | with_reducible apply KM.modCan
    | with_reducible apply KM.app (g := State.raise_keeps ..)
    | (extract_lets +onlyGivenNames x; refine KM.let_ (m := 3137339392) (s := s) (x := x) ?_ ?_; all_goals first | (intro hx; clear_value x) | subst x)
    | (extract_lets +onlyGivenNames v; subst v)
    | split

theorem State.dropTx_keeps (s : State) (e : TxEntry) : KM 268435456 s (State.dropTx s e) := by
  have hx : KM 268435456 s s := KM.refl
  unfold State.dropTx
  repeat' first
    | with_reducible assumption
    | intro hx
    | ((with_reducible apply Lit.mk); intro p hp; cases p <;> first | exact absurd hp (by decide) | exact rfl)
    | (show _ ||| _ = _; decide)
    | with_reducible apply KM.modCan

theorem State.doCanTxAbort_keeps (s : State) (r : Req) (hseq : BitVec 32) : KM 3003121664 s (State.doCanTxAbort s r hseq) := by
  have hx : KM 3003121664 s s := KM.refl
  unfold State.doCanTxAbort
  repeat' first
    | with_reducible assumption
    | (show _ ||| _ = _; decide)
    | with_reducible apply KM.app (g := State.dropTx_keeps ..)
    | with_reducible apply KM.app (g := State.ok_keeps ..)
    | with_reducible apply KM.app (g := State.fail_keeps ..)
    | (extract_lets +onlyGivenNames x; refine KM.let_ (m := 3003121664) (s := s) (x := x) ?_ ?_; all_goals first | (intro hx; clear_value x) | subst x)
    | (extract_lets +onlyGivenNames v; subst v)
    | split

theorem State.sendP2_keeps (s : State) (kind : ℕ) (data : List Byte) : KM 268435456 s (State.sendP2 s kind data) := by
  have hx : KM 268435456 s s := KM.refl
  unfold State.sendP2
  repeat' first
    | with_reducible assumption
    | (show _ ||| _ = _; decide)
    | with_reducible apply KM.app (g := State.sendOwn_keeps ..)
    | split

theorem State.p2Status_keeps (s : State) : KM 268435456 s (State.p2Status s) := by
  have hx : KM 268435456 s s := KM.refl
  unfold State.p2Status
  repeat' first
    | with_reducible assumption
    | (show _ ||| _ = _; decide)
    | with_reducible apply KM.app (g := State.sendP2_keeps ..)
    | split

theorem State.p2Tick_keeps (s : State) : KM 301989888 s (State.p2Tick s) := by
  have hx : KM 301989888 s s := KM.refl
  unfold State.p2Tick
  repeat' first
    | with_reducible assumption
    | intro hx
    | ((with_reducible apply Lit.mk); intro p hp; first | (cases p <;> first | exact absurd hp (by decide) | exact rfl) | (split <;> cases p <;> first | exact absurd hp (by decide) | exact rfl) | (split <;> split <;> cases p <;> first | exact absurd hp (by decide) | exact rfl))
    | (show _ ||| _ = _; decide)
    | with_reducible apply KM.app (g := State.modPort_keeps ..)
    | with_reducible apply KM.modCan
    | with_reducible apply KM.app (g := State.sendP2_keeps ..)
    | with_reducible apply KM.app (g := State.p2Status_keeps ..)
    | (extract_lets +onlyGivenNames x; refine KM.let_ (m := 301989888) (s := s) (x := x) ?_ ?_; all_goals first | (intro hx; clear_value x) | subst x)
    | (extract_lets +onlyGivenNames v; subst v)
    | split

theorem State.doCanRxAck_keeps (s : State) (r : Req) (rseq : BitVec 32) : KM 3137339392 s (State.doCanRxAck s r rseq) := by
  have hx : KM 3137339392 s s := KM.refl
  unfold State.doCanRxAck
  repeat' first
    | with_reducible assumption
    | intro hx
    | ((with_reducible apply Lit.mk); intro p hp; first | (cases p <;> first | exact absurd hp (by decide) | exact rfl) | (split <;> cases p <;> first | exact absurd hp (by decide) | exact rfl) | (split <;> split <;> cases p <;> first | exact absurd hp (by decide) | exact rfl))
    | (show _ ||| _ = _; decide)
    | with_reducible apply KM.modCan
    | with_reducible apply KM.app (g := State.ok_keeps ..)
    | with_reducible apply KM.app (g := State.fail_keeps ..)
    | (extract_lets +onlyGivenNames x; refine KM.let_ (m := 3137339392) (s := s) (x := x) ?_ ?_; all_goals first | (intro hx; clear_value x) | subst x)
    | (extract_lets +onlyGivenNames v; subst v)
    | split

theorem State.doCanTx_keeps (s : State) (r : Req) (bus : ℕ) (fmt : Byte) (len : ℕ) (id : BitVec 32) (sdt : Byte) (vcid : Byte) (af : BitVec 32) (data : List Byte) : KM 3003121664 s (State.doCanTx s r bus fmt len id sdt vcid af data) := by
  have hx : KM 3003121664 s s := KM.refl
  unfold State.doCanTx
  repeat' first
    | with_reducible assumption
    | intro hx
    | ((with_reducible apply Lit.mk); intro p hp; first | (cases p <;> first | exact absurd hp (by decide) | exact rfl) | (split <;> cases p <;> first | exact absurd hp (by decide) | exact rfl) | (split <;> split <;> cases p <;> first | exact absurd hp (by decide) | exact rfl))
    | (show _ ||| _ = _; decide)
    | with_reducible apply KM.modCan
    | with_reducible apply KM.app (g := State.fail_keeps ..)
    | (extract_lets +onlyGivenNames x; refine KM.let_ (m := 3003121664) (s := s) (x := x) ?_ ?_; all_goals first | (intro hx; clear_value x) | subst x)
    | (extract_lets +onlyGivenNames v; subst v)
    | split

theorem State.sendHeartbeat_keeps (s : State) : KM 268435456 s (State.sendHeartbeat s) := by
  have hx : KM 268435456 s s := KM.refl
  unfold State.sendHeartbeat
  repeat' first
    | with_reducible assumption
    | intro hx
    | ((with_reducible apply Lit.mk); intro p hp; cases p <;> first | exact absurd hp (by decide) | exact rfl)
    | (show _ ||| _ = _; decide)
    | with_reducible apply KM.modCan
    | with_reducible apply KM.app (g := State.sendFallback_keeps ..)

theorem State.statusRequest_keeps (s : State) (id : BitVec 29) (data : List Byte) : KM 3137339392 s (State.statusRequest s id data) := by
  have hx : KM 3137339392 s s := KM.refl
  unfold State.statusRequest
  repeat' first
    | with_reducible assumption
    | intro hx
    | (show _ ||| _ = _; decide)
    | with_reducible apply KM.app (g := State.sendStatus_keeps ..)
    | with_reducible apply KM.app (g := State.sendHeartbeat_keeps ..)
    | with_reducible apply KM.each
    | with_reducible apply KM.app (g := State.raise_keeps ..)
    | with_reducible apply KM.app (g := State.acceptFrame_keeps ..)
    | (extract_lets +onlyGivenNames x; refine KM.let_ (m := 3137339392) (s := s) (x := x) ?_ ?_; all_goals first | (intro hx; clear_value x) | subst x)
    | (extract_lets +onlyGivenNames v; subst v)
    | split

theorem State.txAgain_keeps (s : State) : KM 3003121664 s (State.txAgain s) := by
  have hx : KM 3003121664 s s := KM.refl
  unfold State.txAgain
  repeat' first
    | with_reducible assumption
    | intro hx
    | ((with_reducible apply Lit.mk); intro p hp; first | (cases p <;> first | exact absurd hp (by decide) | exact rfl) | (split <;> cases p <;> first | exact absurd hp (by decide) | exact rfl) | (split <;> split <;> cases p <;> first | exact absurd hp (by decide) | exact rfl))
    | (show _ ||| _ = _; decide)
    | with_reducible apply KM.modCan
    | with_reducible apply KM.each
    | with_reducible apply KM.app (g := State.raise_keeps ..)
    | (extract_lets +onlyGivenNames x; refine KM.let_ (m := 3003121664) (s := s) (x := x) ?_ ?_; all_goals first | (intro hx; clear_value x) | subst x)
    | (extract_lets +onlyGivenNames v; subst v)
    | split

theorem State.txDone_keeps (s : State) (b : Bus) (n : ℕ) (stamp : BitVec 48) (delay : Option ℕ) : KM 3070230528 s (State.txDone s b n stamp delay) := by
  have hx : KM 3070230528 s s := KM.refl
  unfold State.txDone
  repeat' first
    | with_reducible assumption
    | intro hx
    | ((with_reducible apply Lit.mk); intro p hp; first | (cases p <;> first | exact absurd hp (by decide) | exact rfl) | (split <;> cases p <;> first | exact absurd hp (by decide) | exact rfl) | (split <;> split <;> cases p <;> first | exact absurd hp (by decide) | exact rfl))
    | (show _ ||| _ = _; decide)
    | with_reducible apply KM.app (g := State.dropTx_keeps ..)
    | with_reducible apply KM.app (g := State.modCtl_keeps ..)
    | with_reducible apply KM.modCan
    | with_reducible apply KM.app (g := State.raise_keeps ..)
    | with_reducible apply KM.app (g := State.ok_keeps ..)
    | (extract_lets +onlyGivenNames x; refine KM.let_ (m := 3070230528) (s := s) (x := x) ?_ ?_; all_goals first | (intro hx; clear_value x) | subst x)
    | (extract_lets +onlyGivenNames v; subst v)
    | split

theorem State.doorCommand_keeps (s : State) (id : BitVec 29) (data : List Byte) : KM 3137340416 s (State.doorCommand s id data) := by
  have hx : KM 3137340416 s s := KM.refl
  unfold State.doorCommand
  repeat' first
    | with_reducible assumption
    | intro hx
    | ((with_reducible apply Lit.mk); intro p hp; first | (cases p <;> first | exact absurd hp (by decide) | exact rfl) | (split <;> cases p <;> first | exact absurd hp (by decide) | exact rfl) | (split <;> split <;> cases p <;> first | exact absurd hp (by decide) | exact rfl))
    | (show _ ||| _ = _; decide)
    | with_reducible apply KM.app (g := State.sendStatus_keeps ..)
    | with_reducible apply KM.modCan
    | with_reducible apply KM.app (g := State.ask_keeps ..)
    | with_reducible apply KM.app (g := State.raise_keeps ..)
    | with_reducible apply KM.app (g := State.acceptFrame_keeps ..)
    | (extract_lets +onlyGivenNames x; refine KM.let_ (m := 3137340416) (s := s) (x := x) ?_ ?_; all_goals first | (intro hx; clear_value x) | subst x)
    | (extract_lets +onlyGivenNames v; subst v)
    | split

theorem State.canSleep_keeps (s : State) : KM 3070230528 s (State.canSleep s) := by
  have hx : KM 3070230528 s s := KM.refl
  unfold State.canSleep
  repeat' first
    | with_reducible assumption
    | intro hx
    | (show _ ||| _ = _; decide)
    | with_reducible apply KM.each
    | with_reducible apply KM.app (g := State.busBecomes_keeps ..)
    | split

theorem State.doCanRecover_keeps (s : State) (r : Req) (bus : ℕ) : KM 3070230528 s (State.doCanRecover s r bus) := by
  have hx : KM 3070230528 s s := KM.refl
  unfold State.doCanRecover
  repeat' first
    | with_reducible assumption
    | (show _ ||| _ = _; decide)
    | with_reducible apply KM.app (g := State.modCtl_keeps ..)
    | with_reducible apply KM.app (g := State.fail_keeps ..)
    | (extract_lets +onlyGivenNames x; refine KM.let_ (m := 3070230528) (s := s) (x := x) ?_ ?_; all_goals first | (intro hx; clear_value x) | subst x)
    | (extract_lets +onlyGivenNames v; subst v)
    | split

theorem State.canError_keeps (s : State) (b : Bus) (index : Option ℕ) (kind : ℕ) (tec : ℕ) (rec_ : ℕ) : KM 3070230528 s (State.canError s b index kind tec rec_) := by
  have hx : KM 3070230528 s s := KM.refl
  unfold State.canError
  repeat' first
    | with_reducible assumption
    | intro hx
    | ((with_reducible apply Lit.mk); intro p hp; first | (cases p <;> first | exact absurd hp (by decide) | exact rfl) | (split <;> cases p <;> first | exact absurd hp (by decide) | exact rfl) | (split <;> split <;> cases p <;> first | exact absurd hp (by decide) | exact rfl))
    | (show _ ||| _ = _; decide)
    | with_reducible apply KM.app (g := State.modCtl_keeps ..)
    | with_reducible apply KM.modCan
    | with_reducible apply KM.app (g := State.raise_keeps ..)
    | (extract_lets +onlyGivenNames x; refine KM.let_ (m := 3070230528) (s := s) (x := x) ?_ ?_; all_goals first | (intro hx; clear_value x) | subst x)
    | (extract_lets +onlyGivenNames v; subst v)
    | split

theorem State.loseQueues_keeps (s : State) : KM 134217728 s (State.loseQueues s) := by
  have hx : KM 134217728 s s := KM.refl
  unfold State.loseQueues
  repeat' first
    | with_reducible assumption
    | intro hx
    | ((with_reducible apply Lit.mk); intro p hp; first | (cases p <;> first | exact absurd hp (by decide) | exact rfl) | (split <;> cases p <;> first | exact absurd hp (by decide) | exact rfl) | (split <;> split <;> cases p <;> first | exact absurd hp (by decide) | exact rfl))
    | (show _ ||| _ = _; decide)
    | with_reducible apply KM.modCan
    | (extract_lets +onlyGivenNames x; refine KM.let_ (m := 134217728) (s := s) (x := x) ?_ ?_; all_goals first | (intro hx; clear_value x) | subst x)
    | (extract_lets +onlyGivenNames v; subst v)
    | split

theorem State.txTick_keeps (s : State) : KM 268435456 s (State.txTick s) := by
  have hx : KM 268435456 s s := KM.refl
  unfold State.txTick
  repeat' first
    | with_reducible assumption
    | intro hx
    | ((with_reducible apply Lit.mk); intro p hp; first | (cases p <;> first | exact absurd hp (by decide) | exact rfl) | (split <;> cases p <;> first | exact absurd hp (by decide) | exact rfl) | (split <;> split <;> cases p <;> first | exact absurd hp (by decide) | exact rfl))
    | (show _ ||| _ = _; decide)
    | with_reducible apply KM.modCan
    | with_reducible apply KM.each
    | (extract_lets +onlyGivenNames x; refine KM.let_ (m := 268435456) (s := s) (x := x) ?_ ?_; all_goals first | (intro hx; clear_value x) | subst x)
    | (extract_lets +onlyGivenNames v; subst v)
    | split

theorem State.canTick_keeps (s : State) : KM 11794481920 s (State.canTick s) := by
  have hx : KM 11794481920 s s := KM.refl
  unfold State.canTick
  repeat' first
    | with_reducible assumption
    | intro hx
    | (show _ ||| _ = _; decide)
    | with_reducible apply KM.app (g := State.modCtl_keeps ..)
    | with_reducible apply KM.app (g := State.p2Down_keeps ..)
    | with_reducible apply KM.app (g := State.sendHeartbeat_keeps ..)
    | with_reducible apply KM.each
    | with_reducible apply KM.app (g := State.txTick_keeps ..)
    | with_reducible apply KM.app (g := State.p2Tick_keeps ..)
    | with_reducible apply KM.app (g := State.readTick_keeps ..)
    | with_reducible apply KM.app (g := State.rxDropped_keeps ..)
    | with_reducible apply KM.app (g := State.p2Status_keeps ..)
    | (extract_lets +onlyGivenNames x; refine KM.let_ (m := 11794481920) (s := s) (x := x) ?_ ?_; all_goals first | (intro hx; clear_value x) | subst x)
    | (extract_lets +onlyGivenNames v; subst v)
    | split

theorem State.p2Frame_keeps (s : State) (id : BitVec 29) (xl : Bool) (stamp : BitVec 48) (data : List Byte) : KM 3137339392 s (State.p2Frame s id xl stamp data) := by
  have hx : KM 3137339392 s s := KM.refl
  unfold State.p2Frame
  repeat' first
    | with_reducible assumption
    | intro hx
    | ((with_reducible apply Lit.mk); intro p hp; first | (cases p <;> first | exact absurd hp (by decide) | exact rfl) | (split <;> cases p <;> first | exact absurd hp (by decide) | exact rfl) | (split <;> split <;> cases p <;> first | exact absurd hp (by decide) | exact rfl))
    | (show _ ||| _ = _; decide)
    | with_reducible apply KM.app (g := State.modPort_keeps ..)
    | with_reducible apply KM.modCan
    | with_reducible apply KM.app (g := State.raise_keeps ..)
    | with_reducible apply KM.app (g := State.acceptFrame_keeps ..)
    | with_reducible apply KM.app (g := State.drainLayby_keeps ..)
    | (extract_lets +onlyGivenNames x; refine KM.let_ (m := 3137339392) (s := s) (x := x) ?_ ?_; all_goals first | (intro hx; clear_value x) | subst x)
    | (extract_lets +onlyGivenNames v; subst v)
    | split

theorem State.canStart_keeps (s : State) : KM 3070230528 s (State.canStart s) := by
  have hx : KM 3070230528 s s := KM.refl
  unfold State.canStart
  repeat' first
    | with_reducible assumption
    | intro hx
    | (show _ ||| _ = _; decide)
    | with_reducible apply KM.app (g := State.modCtl_keeps ..)
    | with_reducible apply KM.each
    | with_reducible apply KM.app (g := State.busBecomes_keeps ..)
    | (extract_lets +onlyGivenNames x; refine KM.let_ (m := 3070230528) (s := s) (x := x) ?_ ?_; all_goals first | (intro hx; clear_value x) | subst x)
    | (extract_lets +onlyGivenNames v; subst v)
    | split

theorem State.errorSecond_keeps (s : State) (b : Bus) : KM 3070230528 s (State.errorSecond s b) := by
  have hx : KM 3070230528 s s := KM.refl
  unfold State.errorSecond
  repeat' first
    | with_reducible assumption
    | (show _ ||| _ = _; decide)
    | with_reducible apply KM.app (g := State.modCtl_keeps ..)
    | with_reducible apply KM.app (g := State.raise_keeps ..)
    | (extract_lets +onlyGivenNames x; refine KM.let_ (m := 3070230528) (s := s) (x := x) ?_ ?_; all_goals first | (intro hx; clear_value x) | subst x)
    | (extract_lets +onlyGivenNames v; subst v)
    | split

theorem State.doCanFilterSet_keeps (s : State) (r : Req) (index : ℕ) (x : CanFilter) : KM 3137339392 s (State.doCanFilterSet s r index x) := by
  have hx : KM 3137339392 s s := KM.refl
  unfold State.doCanFilterSet
  repeat' first
    | with_reducible assumption
    | intro hx
    | ((with_reducible apply Lit.mk); intro p hp; first | (cases p <;> first | exact absurd hp (by decide) | exact rfl) | (split <;> cases p <;> first | exact absurd hp (by decide) | exact rfl) | (split <;> split <;> cases p <;> first | exact absurd hp (by decide) | exact rfl))
    | (show _ ||| _ = _; decide)
    | with_reducible apply KM.modCan
    | with_reducible apply KM.app (g := State.ok_keeps ..)
    | with_reducible apply KM.app (g := State.fail_keeps ..)
    | (extract_lets +onlyGivenNames x; refine KM.let_ (m := 3137339392) (s := s) (x := x) ?_ ?_; all_goals first | (intro hx; clear_value x) | subst x)
    | (extract_lets +onlyGivenNames v; subst v)
    | split

theorem State.doCanStatus_keeps (s : State) (r : Req) (bus : ℕ) : KM 3003121664 s (State.doCanStatus s r bus) := by
  have hx : KM 3003121664 s s := KM.refl
  unfold State.doCanStatus
  repeat' first
    | with_reducible assumption
    | (show _ ||| _ = _; decide)
    | with_reducible apply KM.app (g := State.ok_keeps ..)
    | with_reducible apply KM.app (g := State.fail_keeps ..)
    | (extract_lets +onlyGivenNames x; refine KM.let_ (m := 3003121664) (s := s) (x := x) ?_ ?_; all_goals first | (intro hx; clear_value x) | subst x)
    | (extract_lets +onlyGivenNames v; subst v)
    | split

theorem State.doCanRxRead_keeps (s : State) (r : Req) (max_ : ℕ) (min_ : ℕ) (wait : ℕ) (fromOldest : Bool) : KM 3137339392 s (State.doCanRxRead s r max_ min_ wait fromOldest) := by
  have hx : KM 3137339392 s s := KM.refl
  unfold State.doCanRxRead
  repeat' first
    | with_reducible assumption
    | intro hx
    | ((with_reducible apply Lit.mk); intro p hp; first | (cases p <;> first | exact absurd hp (by decide) | exact rfl) | (split <;> cases p <;> first | exact absurd hp (by decide) | exact rfl) | (split <;> split <;> cases p <;> first | exact absurd hp (by decide) | exact rfl))
    | (show _ ||| _ = _; decide)
    | with_reducible apply KM.modCan
    | with_reducible apply KM.app (g := State.readTick_keeps ..)
    | with_reducible apply KM.app (g := State.fail_keeps ..)
    | (extract_lets +onlyGivenNames x; refine KM.let_ (m := 3137339392) (s := s) (x := x) ?_ ?_; all_goals first | (intro hx; clear_value x) | subst x)
    | (extract_lets +onlyGivenNames v; subst v)
    | split

theorem State.collisionTick_keeps (s : State) : KM 3003121664 s (State.collisionTick s) := by
  have hx : KM 3003121664 s s := KM.refl
  unfold State.collisionTick
  repeat' first
    | with_reducible assumption
    | (show _ ||| _ = _; decide)
    | with_reducible apply KM.app (g := State.modPanel_keeps ..)
    | with_reducible apply KM.app (g := State.raise_keeps ..)
    | (extract_lets +onlyGivenNames x; refine KM.let_ (m := 3003121664) (s := s) (x := x) ?_ ?_; all_goals first | (intro hx; clear_value x) | subst x)
    | (extract_lets +onlyGivenNames v; subst v)
    | split

theorem State.panelResult_keeps (s : State) (c : PanelCmd) (result : ℕ) : KM 536870912 s (State.panelResult s c result) := by
  have hx : KM 536870912 s s := KM.refl
  unfold State.panelResult
  repeat' first
    | with_reducible assumption
    | (show _ ||| _ = _; decide)
    | with_reducible apply KM.app (g := State.modPanel_keeps ..)

theorem State.notTaken_keeps (s : State) (c : PanelCmd) : KM 3003121664 s (State.notTaken s c) := by
  have hx : KM 3003121664 s s := KM.refl
  unfold State.notTaken
  repeat' first
    | with_reducible assumption
    | (show _ ||| _ = _; decide)
    | with_reducible apply KM.app (g := State.modPanel_keeps ..)
    | with_reducible apply KM.app (g := State.raise_keeps ..)
    | with_reducible apply KM.app (g := State.panelResult_keeps ..)

theorem State.takeCmd_keeps (s : State) (c : PanelCmd) : KM 536870912 s (State.takeCmd s c) := by
  have hx : KM 536870912 s s := KM.refl
  unfold State.takeCmd
  repeat' first
    | with_reducible assumption
    | (show _ ||| _ = _; decide)
    | with_reducible apply KM.app (g := State.modPanel_keeps ..)

theorem State.intercomInd_keeps (s : State) (d : Doorway) (state : ℕ) : KM 3003121664 s (State.intercomInd s d state) := by
  have hx : KM 3003121664 s s := KM.refl
  unfold State.intercomInd
  repeat' first
    | with_reducible assumption
    | (show _ ||| _ = _; decide)
    | with_reducible apply KM.app (g := State.modPanel_keeps ..)
    | with_reducible apply KM.app (g := State.raise_keeps ..)
    | (extract_lets +onlyGivenNames x; refine KM.let_ (m := 3003121664) (s := s) (x := x) ?_ ?_; all_goals first | (intro hx; clear_value x) | subst x)
    | (extract_lets +onlyGivenNames v; subst v)
    | split

theorem State.panelObstacle_keeps (s : State) (d : Doorway) : KM 11593105664 s (State.panelObstacle s d).1 := by
  have hx : KM 11593105664 s s := KM.refl
  unfold State.panelObstacle
  repeat' first
    | with_reducible assumption
    | (show _ ||| _ = _; decide)
    | with_reducible apply KM.app (g := State.obstacle_keeps ..)
    | split

theorem State.accessReq_keeps (s : State) (d : Doorway) : KM 3003122944 s (State.accessReq s d).1 := by
  have hx : KM 3003122944 s s := KM.refl
  unfold State.accessReq
  repeat' first
    | with_reducible assumption
    | (show _ ||| _ = _; decide)
    | with_reducible apply KM.app (g := State.raise_keeps ..)
    | with_reducible apply KM.app (g := State.modDoor_keeps ..)
    | with_reducible apply KM.app (g := State.buttonPressed_keeps ..)
    | (extract_lets +onlyGivenNames x; refine KM.let_ (m := 3003122944) (s := s) (x := x) ?_ ?_; all_goals first | (intro hx; clear_value x) | subst x)
    | (extract_lets +onlyGivenNames v; subst v)
    | split

theorem State.panelEffect_keeps (s : State) (c : PanelCmd) : KM 11593106688 s (State.panelEffect s c).1 := by
  have hx : KM 11593106688 s s := KM.refl
  unfold State.panelEffect
  repeat' first
    | with_reducible assumption
    | (show _ ||| _ = _; decide)
    | with_reducible apply KM.app (g := State.intercomInd_keeps ..)
    | with_reducible apply KM.app (g := State.panelObstacle_keeps ..)
    | with_reducible apply KM.app (g := State.accessReq_keeps ..)
    | split

theorem State.collect_keeps (s : State) (c : PanelCmd) : KM 11593106688 s (State.collect s c) := by
  have hx : KM 11593106688 s s := KM.refl
  unfold State.collect
  repeat' first
    | with_reducible assumption
    | (show _ ||| _ = _; decide)
    | with_reducible apply KM.app (g := State.panelEffect_keeps ..)
    | with_reducible apply KM.app (g := State.modPanel_keeps ..)
    | with_reducible apply KM.app (g := State.raise_keeps ..)
    | with_reducible apply KM.app (g := State.panelResult_keeps ..)
    | (extract_lets +onlyGivenNames x; refine KM.let_ (m := 11593106688) (s := s) (x := x) ?_ ?_; all_goals first | (intro hx; clear_value x) | subst x)
    | (extract_lets +onlyGivenNames v; subst v)
    | split

theorem State.collectTick_keeps (s : State) : KM 11593106688 s (State.collectTick s) := by
  have hx : KM 11593106688 s s := KM.refl
  unfold State.collectTick
  repeat' first
    | with_reducible assumption
    | (show _ ||| _ = _; decide)
    | with_reducible apply KM.app (g := State.takeCmd_keeps ..)
    | with_reducible apply KM.app (g := State.notTaken_keeps ..)
    | with_reducible apply KM.app (g := State.modPanel_keeps ..)
    | with_reducible apply KM.app (g := State.collect_keeps ..)
    | (extract_lets +onlyGivenNames x; refine KM.let_ (m := 11593106688) (s := s) (x := x) ?_ ?_; all_goals first | (intro hx; clear_value x) | subst x)
    | (extract_lets +onlyGivenNames v; subst v)
    | split

theorem State.panelRow_keeps (s : State) (cmd : ℕ) (door : ℕ) (arg : ℕ) : KM 11593106688 s (State.panelRow s cmd door arg) := by
  have hx : KM 11593106688 s s := KM.refl
  unfold State.panelRow
  repeat' first
    | with_reducible assumption
    | (show _ ||| _ = _; decide)
    | with_reducible apply KM.app (g := State.collectTick_keeps ..)
    | with_reducible apply KM.app (g := State.modPanel_keeps ..)
    | with_reducible apply KM.app (g := State.collect_keeps ..)
    | (extract_lets +onlyGivenNames x; refine KM.let_ (m := 11593106688) (s := s) (x := x) ?_ ?_; all_goals first | (intro hx; clear_value x) | subst x)
    | (extract_lets +onlyGivenNames v; subst v)
    | split

theorem State.blink_keeps (s : State) (d : Doorway) : KM 536870912 s (State.blink s d) := by
  have hx : KM 536870912 s s := KM.refl
  unfold State.blink
  repeat' first
    | with_reducible assumption
    | (show _ ||| _ = _; decide)
    | with_reducible apply KM.app (g := State.modPanel_keeps ..)

theorem State.refusedTick_keeps (s : State) : KM 3003121664 s (State.refusedTick s) := by
  have hx : KM 3003121664 s s := KM.refl
  unfold State.refusedTick
  repeat' first
    | with_reducible assumption
    | (show _ ||| _ = _; decide)
    | with_reducible apply KM.app (g := State.modPanel_keeps ..)
    | with_reducible apply KM.app (g := State.raise_keeps ..)
    | (extract_lets +onlyGivenNames x; refine KM.let_ (m := 3003121664) (s := s) (x := x) ?_ ?_; all_goals first | (intro hx; clear_value x) | subst x)
    | (extract_lets +onlyGivenNames v; subst v)
    | split

theorem State.panelTick_keeps (s : State) : KM 11593106688 s (State.panelTick s) := by
  have hx : KM 11593106688 s s := KM.refl
  unfold State.panelTick
  repeat' first
    | with_reducible assumption
    | intro hx
    | (show _ ||| _ = _; decide)
    | with_reducible apply KM.app (g := State.collectTick_keeps ..)
    | with_reducible apply KM.app (g := State.blink_keeps ..)
    | with_reducible apply KM.each
    | with_reducible apply KM.app (g := State.modPanel_keeps ..)
    | with_reducible apply KM.app (g := State.refusedTick_keeps ..)
    | with_reducible apply KM.app (g := State.collisionTick_keeps ..)
    | (extract_lets +onlyGivenNames x; refine KM.let_ (m := 11593106688) (s := s) (x := x) ?_ ?_; all_goals first | (intro hx; clear_value x) | subst x)
    | (extract_lets +onlyGivenNames v; subst v)
    | split

theorem State.checkByte_keeps (s : State) (c : PanelCmd) : KM 11593106688 s (State.checkByte s c) := by
  have hx : KM 11593106688 s s := KM.refl
  unfold State.checkByte
  repeat' first
    | with_reducible assumption
    | (show _ ||| _ = _; decide)
    | with_reducible apply KM.app (g := State.collectTick_keeps ..)
    | with_reducible apply KM.app (g := State.takeCmd_keeps ..)
    | with_reducible apply KM.app (g := State.notTaken_keeps ..)
    | with_reducible apply KM.app (g := State.modPanel_keeps ..)
    | (extract_lets +onlyGivenNames x; refine KM.let_ (m := 11593106688) (s := s) (x := x) ?_ ?_; all_goals first | (intro hx; clear_value x) | subst x)
    | (extract_lets +onlyGivenNames v; subst v)
    | split

theorem State.refuseByte_keeps (s : State) (offset : Byte) : KM 536870912 s (State.refuseByte s offset) := by
  have hx : KM 536870912 s s := KM.refl
  unfold State.refuseByte
  repeat' first
    | with_reducible assumption
    | (show _ ||| _ = _; decide)
    | with_reducible apply KM.app (g := State.modPanel_keeps ..)

theorem State.writeByte_keeps (s : State) (b : Byte) : KM 536870912 s (State.writeByte s b) := by
  have hx : KM 536870912 s s := KM.refl
  unfold State.writeByte
  repeat' first
    | with_reducible assumption
    | (show _ ||| _ = _; decide)
    | with_reducible apply KM.app (g := State.modPanel_keeps ..)
    | with_reducible apply KM.app (g := State.refuseByte_keeps ..)
    | (extract_lets +onlyGivenNames x; refine KM.let_ (m := 536870912) (s := s) (x := x) ?_ ?_; all_goals first | (intro hx; clear_value x) | subst x)
    | (extract_lets +onlyGivenNames v; subst v)
    | split

theorem State.panelWrite_keeps (s : State) (bytes : List Byte) : KM 11593106688 s (State.panelWrite s bytes) := by
  have hx : KM 11593106688 s s := KM.refl
  unfold State.panelWrite
  repeat' first
    | with_reducible assumption
    | intro hx
    | (show _ ||| _ = _; decide)
    | with_reducible apply KM.each
    | with_reducible apply KM.app (g := State.modPanel_keeps ..)
    | with_reducible apply KM.app (g := State.checkByte_keeps ..)
    | with_reducible apply KM.app (g := State.writeByte_keeps ..)
    | (extract_lets +onlyGivenNames x; refine KM.let_ (m := 11593106688) (s := s) (x := x) ?_ ?_; all_goals first | (intro hx; clear_value x) | subst x)
    | (extract_lets +onlyGivenNames v; subst v)
    | split

theorem State.panelOff_keeps (s : State) : KM 536870912 s (State.panelOff s) := by
  have hx : KM 536870912 s s := KM.refl
  unfold State.panelOff
  repeat' first
    | with_reducible assumption
    | (show _ ||| _ = _; decide)
    | with_reducible apply KM.app (g := State.modPanel_keeps ..)

theorem State.swapWindow_keeps (s : State) : KM 536870912 s (State.swapWindow s) := by
  have hx : KM 536870912 s s := KM.refl
  unfold State.swapWindow
  repeat' first
    | with_reducible assumption
    | (show _ ||| _ = _; decide)
    | with_reducible apply KM.app (g := State.modPanel_keeps ..)
    | (extract_lets +onlyGivenNames x; refine KM.let_ (m := 536870912) (s := s) (x := x) ?_ ?_; all_goals first | (intro hx; clear_value x) | subst x)
    | (extract_lets +onlyGivenNames v; subst v)
    | split

theorem State.panelPower_keeps (s : State) : KM 536870912 s (State.panelPower s) := by
  have hx : KM 536870912 s s := KM.refl
  unfold State.panelPower
  repeat' first
    | with_reducible assumption
    | (show _ ||| _ = _; decide)
    | with_reducible apply KM.app (g := State.swapWindow_keeps ..)
    | with_reducible apply KM.app (g := State.modPanel_keeps ..)

theorem State.slewDone_keeps (s : State) : KM 4076863488 s (State.slewDone s) := by
  have hx : KM 4076863488 s s := KM.refl
  unfold State.slewDone
  repeat' first
    | with_reducible assumption
    | (show _ ||| _ = _; decide)
    | with_reducible apply KM.app (g := State.raise_keeps ..)
    | with_reducible apply KM.app (g := State.modTime_keeps ..)
    | split

theorem State.doSchedCancel_keeps (s : State) (r : Req) (hseq : BitVec 32) : KM 4076863488 s (State.doSchedCancel s r hseq) := by
  have hx : KM 4076863488 s s := KM.refl
  unfold State.doSchedCancel
  repeat' first
    | with_reducible assumption
    | (show _ ||| _ = _; decide)
    | with_reducible apply KM.app (g := State.raise_keeps ..)
    | with_reducible apply KM.app (g := State.ok_keeps ..)
    | with_reducible apply KM.app (g := State.fail_keeps ..)
    | with_reducible apply KM.app (g := State.modTime_keeps ..)
    | (extract_lets +onlyGivenNames x; refine KM.let_ (m := 4076863488) (s := s) (x := x) ?_ ?_; all_goals first | (intro hx; clear_value x) | subst x)
    | (extract_lets +onlyGivenNames v; subst v)
    | split

theorem State.takeLabel_keeps (s : State) (label : Option ℕ) : KM 4076863488 s (State.takeLabel s label) := by
  have hx : KM 4076863488 s s := KM.refl
  unfold State.takeLabel
  repeat' first
    | with_reducible assumption
    | (show _ ||| _ = _; decide)
    | with_reducible apply KM.app (g := State.raise_keeps ..)
    | with_reducible apply KM.app (g := State.modTime_keeps ..)
    | (extract_lets +onlyGivenNames x; refine KM.let_ (m := 4076863488) (s := s) (x := x) ?_ ?_; all_goals first | (intro hx; clear_value x) | subst x)
    | (extract_lets +onlyGivenNames v; subst v)
    | split

theorem State.selectSource_keeps (s : State) : KM 4076863488 s (State.selectSource s) := by
  have hx : KM 4076863488 s s := KM.refl
  unfold State.selectSource
  repeat' first
    | with_reducible assumption
    | (show _ ||| _ = _; decide)
    | with_reducible apply KM.app (g := State.raise_keeps ..)
    | with_reducible apply KM.app (g := State.modTime_keeps ..)
    | (extract_lets +onlyGivenNames x; refine KM.let_ (m := 4076863488) (s := s) (x := x) ?_ ?_; all_goals first | (intro hx; clear_value x) | subst x)
    | (extract_lets +onlyGivenNames v; subst v)
    | split

theorem State.tpiAccept_keeps (s : State) (stamp : BitVec 48) : KM 4076863488 s (State.tpiAccept s stamp) := by
  have hx : KM 4076863488 s s := KM.refl
  unfold State.tpiAccept
  repeat' first
    | with_reducible assumption
    | (show _ ||| _ = _; decide)
    | with_reducible apply KM.app (g := State.takeLabel_keeps ..)
    | with_reducible apply KM.app (g := State.selectSource_keeps ..)
    | with_reducible apply KM.app (g := State.modTime_keeps ..)
    | (extract_lets +onlyGivenNames x; refine KM.let_ (m := 4076863488) (s := s) (x := x) ?_ ?_; all_goals first | (intro hx; clear_value x) | subst x)
    | (extract_lets +onlyGivenNames v; subst v)
    | split

theorem State.tpiFault_keeps (s : State) (kind : ℕ) : KM 4076863488 s (State.tpiFault s kind) := by
  have hx : KM 4076863488 s s := KM.refl
  unfold State.tpiFault
  repeat' first
    | with_reducible assumption
    | (show _ ||| _ = _; decide)
    | with_reducible apply KM.app (g := State.raise_keeps ..)
    | with_reducible apply KM.app (g := State.modTime_keeps ..)

theorem State.sourceInvalid_keeps (s : State) (k : Fin 3) : KM 4076863488 s (State.sourceInvalid s k) := by
  have hx : KM 4076863488 s s := KM.refl
  unfold State.sourceInvalid
  repeat' first
    | with_reducible assumption
    | (show _ ||| _ = _; decide)
    | with_reducible apply KM.app (g := State.selectSource_keeps ..)
    | with_reducible apply KM.app (g := State.modTime_keeps ..)
    | split

theorem State.judgeTime_keeps (s : State) : KM 4076863488 s (State.judgeTime s) := by
  have hx : KM 4076863488 s s := KM.refl
  unfold State.judgeTime
  repeat' first
    | with_reducible assumption
    | (show _ ||| _ = _; decide)
    | with_reducible apply KM.app (g := State.raise_keeps ..)
    | with_reducible apply KM.app (g := State.modTime_keeps ..)
    | (extract_lets +onlyGivenNames x; refine KM.let_ (m := 4076863488) (s := s) (x := x) ?_ ?_; all_goals first | (intro hx; clear_value x) | subst x)
    | (extract_lets +onlyGivenNames v; subst v)
    | split

theorem State.sourceLost_keeps (s : State) (src : TimeSrcId) : KM 4076863488 s (State.sourceLost s src) := by
  have hx : KM 4076863488 s s := KM.refl
  unfold State.sourceLost
  repeat' first
    | with_reducible assumption
    | (show _ ||| _ = _; decide)
    | with_reducible apply KM.app (g := State.judgeTime_keeps ..)
    | with_reducible apply KM.app (g := State.sourceInvalid_keeps ..)
    | with_reducible apply KM.app (g := State.modTime_keeps ..)
    | split

theorem State.runSched_keeps (s : State) (q : SchedAction) : KM 4076864512 s (State.runSched s q) := by
  have hx : KM 4076864512 s s := KM.refl
  unfold State.runSched
  repeat' first
    | with_reducible assumption
    | (show _ ||| _ = _; decide)
    | with_reducible apply KM.app (g := State.raise_keeps ..)
    | with_reducible apply KM.app (g := State.fail_keeps ..)
    | with_reducible apply KM.app (g := State.modTime_keeps ..)
    | (extract_lets +onlyGivenNames x; refine KM.let_ (m := 4076864512) (s := s) (x := x) ?_ ?_; all_goals first | (intro hx; clear_value x) | subst x)
    | (extract_lets +onlyGivenNames v; subst v)
    | split
    | ((with_reducible apply KM.mk_); intro p hp; cases p <;> first | exact absurd hp (by decide) | exact hx.get _ hp | rfl)

theorem State.schedTick_keeps (s : State) : KM 4076864512 s (State.schedTick s) := by
  have hx : KM 4076864512 s s := KM.refl
  unfold State.schedTick
  repeat' first
    | with_reducible assumption
    | intro hx
    | (show _ ||| _ = _; decide)
    | with_reducible apply KM.app (g := State.runSched_keeps ..)
    | with_reducible apply KM.each
    | (extract_lets +onlyGivenNames x; refine KM.let_ (m := 4076864512) (s := s) (x := x) ?_ ?_; all_goals first | (intro hx; clear_value x) | subst x)
    | (extract_lets +onlyGivenNames v; subst v)

theorem State.takeTaiUtc_keeps (s : State) (v : ℕ) : KM 4076863488 s (State.takeTaiUtc s v) := by
  have hx : KM 4076863488 s s := KM.refl
  unfold State.takeTaiUtc
  repeat' first
    | with_reducible assumption
    | (show _ ||| _ = _; decide)
    | with_reducible apply KM.app (g := State.raise_keeps ..)
    | with_reducible apply KM.app (g := State.modTime_keeps ..)
    | (extract_lets +onlyGivenNames x; refine KM.let_ (m := 4076863488) (s := s) (x := x) ?_ ?_; all_goals first | (intro hx; clear_value x) | subst x)
    | (extract_lets +onlyGivenNames v; subst v)
    | split

theorem State.timeFrame_keeps (s : State) (stamp : BitVec 48) (data : List Byte) : KM 4076863488 s (State.timeFrame s stamp data) := by
  have hx : KM 4076863488 s s := KM.refl
  unfold State.timeFrame
  repeat' first
    | with_reducible assumption
    | (show _ ||| _ = _; decide)
    | with_reducible apply KM.app (g := State.takeTaiUtc_keeps ..)
    | with_reducible apply KM.app (g := State.raise_keeps ..)
    | with_reducible apply KM.app (g := State.sourceInvalid_keeps ..)
    | with_reducible apply KM.app (g := State.modTime_keeps ..)
    | (extract_lets +onlyGivenNames x; refine KM.let_ (m := 4076863488) (s := s) (x := x) ?_ ?_; all_goals first | (intro hx; clear_value x) | subst x)
    | (extract_lets +onlyGivenNames v; subst v)
    | split

theorem State.doTimeRead_keeps (s : State) (r : Req) : KM 3003121664 s (State.doTimeRead s r) := by
  have hx : KM 3003121664 s s := KM.refl
  unfold State.doTimeRead
  repeat' first
    | with_reducible assumption
    | (show _ ||| _ = _; decide)
    | with_reducible apply KM.app (g := State.copyOut_keeps ..)
    | with_reducible apply KM.app (g := State.ok_keeps ..)
    | with_reducible apply KM.app (g := State.fail_keeps ..)
    | (extract_lets +onlyGivenNames x; refine KM.let_ (m := 3003121664) (s := s) (x := x) ?_ ?_; all_goals first | (intro hx; clear_value x) | subst x)
    | (extract_lets +onlyGivenNames v; subst v)
    | split

theorem State.takeOffset_keeps (s : State) (o : ℤ) : KM 4076863492 s (State.takeOffset s o).1 := by
  have hx : KM 4076863492 s s := KM.refl
  unfold State.takeOffset
  repeat' first
    | with_reducible assumption
    | (show _ ||| _ = _; decide)
    | with_reducible apply KM.app (g := State.fresh_keeps ..)
    | with_reducible apply KM.app (g := State.raise_keeps ..)
    | with_reducible apply KM.app (g := State.modTime_keeps ..)
    | (extract_lets +onlyGivenNames x; refine KM.let_ (m := 4076863492) (s := s) (x := x) ?_ ?_; all_goals first | (intro hx; clear_value x) | subst x)
    | (extract_lets +onlyGivenNames v; subst v)
    | split

theorem State.measure_keeps (s : State) : KM 4076863492 s (State.measure s) := by
  have hx : KM 4076863492 s s := KM.refl
  unfold State.measure
  repeat' first
    | with_reducible assumption
    | (show _ ||| _ = _; decide)
    | with_reducible apply KM.app (g := State.takeOffset_keeps ..)
    | with_reducible apply KM.app (g := State.judgeTime_keeps ..)
    | split

theorem State.doTimeSet_keeps (s : State) (r : Req) (tai : ℕ) (tick : BitVec 32) (err : ℕ) (taiUtc : ℕ) : KM 4076863492 s (State.doTimeSet s r tai tick err taiUtc) := by
  have hx : KM 4076863492 s s := KM.refl
  unfold State.doTimeSet
  repeat' first
    | with_reducible assumption
    | (show _ ||| _ = _; decide)
    | with_reducible apply KM.app (g := State.takeOffset_keeps ..)
    | with_reducible apply KM.app (g := State.takeTaiUtc_keeps ..)
    | with_reducible apply KM.app (g := State.selectSource_keeps ..)
    | with_reducible apply KM.app (g := State.raise_keeps ..)
    | with_reducible apply KM.app (g := State.judgeTime_keeps ..)
    | with_reducible apply KM.app (g := State.ok_keeps ..)
    | with_reducible apply KM.app (g := State.fail_keeps ..)
    | with_reducible apply KM.app (g := State.modTime_keeps ..)
    | (extract_lets +onlyGivenNames x; refine KM.let_ (m := 4076863492) (s := s) (x := x) ?_ ?_; all_goals first | (intro hx; clear_value x) | subst x)
    | (extract_lets +onlyGivenNames v; subst v)
    | split

theorem State.doTimeStep_keeps (s : State) (o : ℤ) : KM 4076863488 s (State.doTimeStep s o) := by
  have hx : KM 4076863488 s s := KM.refl
  unfold State.doTimeStep
  repeat' first
    | with_reducible assumption
    | intro hx
    | (show _ ||| _ = _; decide)
    | with_reducible apply KM.app (g := State.stage_keeps ..)
    | with_reducible apply KM.each
    | with_reducible apply KM.app (g := State.raise_keeps ..)
    | with_reducible apply KM.app (g := State.judgeTime_keeps ..)
    | with_reducible apply KM.app (g := State.fail_keeps ..)
    | with_reducible apply KM.app (g := State.modTime_keeps ..)
    | (extract_lets +onlyGivenNames x; refine KM.let_ (m := 4076863488) (s := s) (x := x) ?_ ?_; all_goals first | (intro hx; clear_value x) | subst x)
    | (extract_lets +onlyGivenNames v; subst v)

theorem State.stepTick_keeps (s : State) : KM 4076863488 s (State.stepTick s) := by
  have hx : KM 4076863488 s s := KM.refl
  unfold State.stepTick
  repeat' first
    | with_reducible assumption
    | (show _ ||| _ = _; decide)
    | with_reducible apply KM.app (g := State.doTimeStep_keeps ..)
    | split

theorem State.tpoRise_keeps (s : State) (second : ℕ) : KM 1073741824 s (State.tpoRise s second) := by
  have hx : KM 1073741824 s s := KM.refl
  unfold State.tpoRise
  repeat' first
    | with_reducible assumption
    | (show _ ||| _ = _; decide)
    | with_reducible apply KM.app (g := State.modTime_keeps ..)
    | (extract_lets +onlyGivenNames x; refine KM.let_ (m := 1073741824) (s := s) (x := x) ?_ ?_; all_goals first | (intro hx; clear_value x) | subst x)
    | (extract_lets +onlyGivenNames v; subst v)
    | split

theorem State.tpoTick_keeps (s : State) : KM 1073741824 s (State.tpoTick s) := by
  have hx : KM 1073741824 s s := KM.refl
  unfold State.tpoTick
  repeat' first
    | with_reducible assumption
    | (show _ ||| _ = _; decide)
    | with_reducible apply KM.app (g := State.tpoRise_keeps ..)
    | with_reducible apply KM.app (g := State.modTime_keeps ..)
    | (extract_lets +onlyGivenNames x; refine KM.let_ (m := 1073741824) (s := s) (x := x) ?_ ?_; all_goals first | (intro hx; clear_value x) | subst x)
    | (extract_lets +onlyGivenNames v; subst v)
    | split

theorem State.timeTick_keeps (s : State) : KM 4076864516 s (State.timeTick s) := by
  have hx : KM 4076864516 s s := KM.refl
  unfold State.timeTick
  repeat' first
    | with_reducible assumption
    | (show _ ||| _ = _; decide)
    | with_reducible apply KM.app (g := State.stepTick_keeps ..)
    | with_reducible apply KM.app (g := State.slewDone_keeps ..)
    | with_reducible apply KM.app (g := State.selectSource_keeps ..)
    | with_reducible apply KM.app (g := State.judgeTime_keeps ..)
    | with_reducible apply KM.app (g := State.sourceLost_keeps ..)
    | with_reducible apply KM.app (g := State.measure_keeps ..)
    | with_reducible apply KM.app (g := State.tpoTick_keeps ..)
    | with_reducible apply KM.app (g := State.sourceInvalid_keeps ..)
    | with_reducible apply KM.app (g := State.schedTick_keeps ..)
    | (extract_lets +onlyGivenNames x; refine KM.let_ (m := 4076864516) (s := s) (x := x) ?_ ?_; all_goals first | (intro hx; clear_value x) | subst x)
    | (extract_lets +onlyGivenNames v; subst v)
    | split

theorem State.timeWake_keeps (s : State) (bank : Bool) (ppb : ℕ) (slept : ℕ) : KM 4076863492 s (State.timeWake s bank ppb slept) := by
  have hx : KM 4076863492 s s := KM.refl
  unfold State.timeWake
  repeat' first
    | with_reducible assumption
    | (show _ ||| _ = _; decide)
    | with_reducible apply KM.app (g := State.fresh_keeps ..)
    | with_reducible apply KM.app (g := State.judgeTime_keeps ..)
    | with_reducible apply KM.app (g := State.modTime_keeps ..)
    | (extract_lets +onlyGivenNames x; refine KM.let_ (m := 4076863492) (s := s) (x := x) ?_ ?_; all_goals first | (intro hx; clear_value x) | subst x)
    | (extract_lets +onlyGivenNames v; subst v)
    | split

theorem State.timeStart_keeps (s : State) (off : ℕ) : KM 4076863492 s (State.timeStart s off) := by
  have hx : KM 4076863492 s s := KM.refl
  unfold State.timeStart
  repeat' first
    | with_reducible assumption
    | (show _ ||| _ = _; decide)
    | with_reducible apply KM.app (g := State.fresh_keeps ..)
    | with_reducible apply KM.app (g := State.raise_keeps ..)
    | with_reducible apply KM.app (g := State.judgeTime_keeps ..)
    | with_reducible apply KM.app (g := State.modTime_keeps ..)
    | (extract_lets +onlyGivenNames x; refine KM.let_ (m := 4076863492) (s := s) (x := x) ?_ ?_; all_goals first | (intro hx; clear_value x) | subst x)
    | (extract_lets +onlyGivenNames v; subst v)
    | split

theorem State.notesSecond_keeps (s : State) : KM 11593056256 s (State.notesSecond s) := by
  have hx : KM 11593056256 s s := KM.refl
  unfold State.notesSecond
  repeat' first
    | with_reducible assumption
    | intro hx
    | ((with_reducible apply Lit.mk); intro p hp; first | (cases p <;> first | exact absurd hp (by decide) | exact rfl) | (split <;> cases p <;> first | exact absurd hp (by decide) | exact rfl) | (split <;> split <;> cases p <;> first | exact absurd hp (by decide) | exact rfl))
    | (show _ ||| _ = _; decide)
    | with_reducible apply KM.each
    | with_reducible apply KM.app (g := State.raise_keeps ..)
    | with_reducible apply KM.modJournal
    | split

theorem State.retainOn_keeps (s : State) (c : CoreId) (first : ℕ) (count : ℕ) : KM 7298088960 s (State.retainOn s c first count) := by
  have hx : KM 7298088960 s s := KM.refl
  unfold State.retainOn
  repeat' first
    | with_reducible assumption
    | (show _ ||| _ = _; decide)
    | with_reducible apply KM.app (g := State.modNand_keeps ..)
    | with_reducible apply KM.app (g := State.raise_keeps ..)
    | (extract_lets +onlyGivenNames x; refine KM.let_ (m := 7298088960) (s := s) (x := x) ?_ ?_; all_goals first | (intro hx; clear_value x) | subst x)
    | (extract_lets +onlyGivenNames v; subst v)
    | split

theorem State.doJournalStatus_keeps (s : State) (r : Req) : KM 3003121664 s (State.doJournalStatus s r) := by
  have hx : KM 3003121664 s s := KM.refl
  unfold State.doJournalStatus
  repeat' first
    | with_reducible assumption
    | (show _ ||| _ = _; decide)
    | with_reducible apply KM.app (g := State.copyOut_keeps ..)
    | with_reducible apply KM.app (g := State.ok_keeps ..)
    | with_reducible apply KM.app (g := State.fail_keeps ..)
    | (extract_lets +onlyGivenNames x; refine KM.let_ (m := 3003121664) (s := s) (x := x) ?_ ?_; all_goals first | (intro hx; clear_value x) | subst x)
    | (extract_lets +onlyGivenNames v; subst v)
    | split

theorem State.sendRecords_keeps (s : State) (rs : List Record) : KM 268435456 s (State.sendRecords s rs) := by
  have hx : KM 268435456 s s := KM.refl
  unfold State.sendRecords
  repeat' first
    | with_reducible assumption
    | intro hx
    | (show _ ||| _ = _; decide)
    | with_reducible apply KM.each
    | with_reducible apply KM.app (g := State.sendP2_keeps ..)
    | split

theorem State.readNow_keeps (s : State) (r : Req) (reader : Fin 4) (mode : ℕ) (area : ℕ) (typeMask : ℕ) (doorId : ℕ) (count : ℕ) (start : ℕ) (bad : List ℕ) : KM 11593056256 s (State.readNow s r reader mode area typeMask doorId count start bad).1 := by
  have hx : KM 11593056256 s s := KM.refl
  unfold State.readNow
  repeat' first
    | with_reducible assumption
    | intro hx
    | ((with_reducible apply Lit.mk); intro p hp; first | (cases p <;> first | exact absurd hp (by decide) | exact rfl) | (split <;> cases p <;> first | exact absurd hp (by decide) | exact rfl) | (split <;> split <;> cases p <;> first | exact absurd hp (by decide) | exact rfl))
    | (show _ ||| _ = _; decide)
    | with_reducible apply KM.each
    | with_reducible apply KM.app (g := State.copyOut_keeps ..)
    | with_reducible apply KM.app (g := State.raise_keeps ..)
    | with_reducible apply KM.app (g := State.ok_keeps ..)
    | with_reducible apply KM.app (g := State.sendRecords_keeps ..)
    | with_reducible apply KM.modJournal
    | (extract_lets +onlyGivenNames x; refine KM.let_ (m := 11593056256) (s := s) (x := x) ?_ ?_; all_goals first | (intro hx; clear_value x) | subst x)
    | (extract_lets +onlyGivenNames v; subst v)
    | split

theorem State.doJournalNote_keeps (s : State) (r : Req) (code : BitVec 16) (text : List Byte) : KM 11593056256 s (State.doJournalNote s r code text) := by
  have hx : KM 11593056256 s s := KM.refl
  unfold State.doJournalNote
  repeat' first
    | with_reducible assumption
    | intro hx
    | ((with_reducible apply Lit.mk); intro p hp; first | (cases p <;> first | exact absurd hp (by decide) | exact rfl) | (split <;> cases p <;> first | exact absurd hp (by decide) | exact rfl) | (split <;> split <;> cases p <;> first | exact absurd hp (by decide) | exact rfl))
    | (show _ ||| _ = _; decide)
    | with_reducible apply KM.app (g := State.stage_keeps ..)
    | with_reducible apply KM.modJournal
    | with_reducible apply KM.app (g := State.fail_keeps ..)
    | (extract_lets +onlyGivenNames x; refine KM.let_ (m := 11593056256) (s := s) (x := x) ?_ ?_; all_goals first | (intro hx; clear_value x) | subst x)
    | (extract_lets +onlyGivenNames v; subst v)
    | split

theorem State.endWait_keeps (s : State) (w : WaitingRead) : KM 11593056256 s (State.endWait s w) := by
  have hx : KM 11593056256 s s := KM.refl
  unfold State.endWait
  repeat' first
    | with_reducible assumption
    | intro hx
    | ((with_reducible apply Lit.mk); intro p hp; cases p <;> first | exact absurd hp (by decide) | exact rfl)
    | (show _ ||| _ = _; decide)
    | with_reducible apply KM.app (g := State.readNow_keeps ..)
    | with_reducible apply KM.modJournal

theorem State.doJournalRead_keeps (s : State) (r : Req) (reader : ℕ) (mode : ℕ) (area : ℕ) (typeMask : ℕ) (doorId : ℕ) (count : ℕ) (start : ℕ) (wait : ℕ) (bad : List ℕ) : KM 11593056256 s (State.doJournalRead s r reader mode area typeMask doorId count start wait bad) := by
  have hx : KM 11593056256 s s := KM.refl
  unfold State.doJournalRead
  repeat' first
    | with_reducible assumption
    | intro hx
    | ((with_reducible apply Lit.mk); intro p hp; first | (cases p <;> first | exact absurd hp (by decide) | exact rfl) | (split <;> cases p <;> first | exact absurd hp (by decide) | exact rfl) | (split <;> split <;> cases p <;> first | exact absurd hp (by decide) | exact rfl))
    | (show _ ||| _ = _; decide)
    | with_reducible apply KM.app (g := State.readNow_keeps ..)
    | with_reducible apply KM.modJournal
    | with_reducible apply KM.app (g := State.fail_keeps ..)
    | with_reducible apply KM.app (g := State.failOwner_keeps ..)
    | (extract_lets +onlyGivenNames x; refine KM.let_ (m := 11593056256) (s := s) (x := x) ?_ ?_; all_goals first | (intro hx; clear_value x) | subst x)
    | (extract_lets +onlyGivenNames v; subst v)
    | split

theorem State.waitingTick_keeps (s : State) : KM 11593056256 s (State.waitingTick s) := by
  have hx : KM 11593056256 s s := KM.refl
  unfold State.waitingTick
  repeat' first
    | with_reducible assumption
    | intro hx
    | (show _ ||| _ = _; decide)
    | with_reducible apply KM.each
    | with_reducible apply KM.app (g := State.endWait_keeps ..)
    | split

theorem State.doJournalRelease_keeps (s : State) (r : Req) : KM 7298088960 s (State.doJournalRelease s r) := by
  have hx : KM 7298088960 s s := KM.refl
  unfold State.doJournalRelease
  repeat' first
    | with_reducible assumption
    | intro hx
    | (show _ ||| _ = _; decide)
    | with_reducible apply KM.app (g := State.modNand_keeps ..)
    | with_reducible apply KM.each
    | with_reducible apply KM.app (g := State.raise_keeps ..)
    | with_reducible apply KM.app (g := State.ok_keeps ..)
    | with_reducible apply KM.app (g := State.failOwner_keeps ..)
    | (extract_lets +onlyGivenNames x; refine KM.let_ (m := 7298088960) (s := s) (x := x) ?_ ?_; all_goals first | (intro hx; clear_value x) | subst x)
    | (extract_lets +onlyGivenNames v; subst v)
    | split

theorem State.doJournalRetain_keeps (s : State) (r : Req) (first : ℕ) (count : ℕ) : KM 11593056256 s (State.doJournalRetain s r first count) := by
  have hx : KM 11593056256 s s := KM.refl
  unfold State.doJournalRetain
  repeat' first
    | with_reducible assumption
    | intro hx
    | ((with_reducible apply Lit.mk); intro p hp; first | (cases p <;> first | exact absurd hp (by decide) | exact rfl) | (split <;> cases p <;> first | exact absurd hp (by decide) | exact rfl) | (split <;> split <;> cases p <;> first | exact absurd hp (by decide) | exact rfl))
    | (show _ ||| _ = _; decide)
    | with_reducible apply KM.app (g := State.raise_keeps ..)
    | with_reducible apply KM.modJournal
    | with_reducible apply KM.app (g := State.fail_keeps ..)
    | with_reducible apply KM.app (g := State.failOwner_keeps ..)
    | (extract_lets +onlyGivenNames x; refine KM.let_ (m := 11593056256) (s := s) (x := x) ?_ ?_; all_goals first | (intro hx; clear_value x) | subst x)
    | (extract_lets +onlyGivenNames v; subst v)
    | with_reducible apply KM.foldl
    | split

theorem State.doCoreHandover_keeps (s : State) (r : Req) : KM 3011510272 s (State.doCoreHandover s r) := by
  have hx : KM 3011510272 s s := KM.refl
  unfold State.doCoreHandover
  repeat' first
    | with_reducible assumption
    | intro hx
    | ((with_reducible apply Lit.mk); intro p hp; first | (cases p <;> first | exact absurd hp (by decide) | exact rfl) | (split <;> cases p <;> first | exact absurd hp (by decide) | exact rfl) | (split <;> split <;> cases p <;> first | exact absurd hp (by decide) | exact rfl))
    | (show _ ||| _ = _; decide)
    | with_reducible apply KM.app (g := State.raise_keeps ..)
    | with_reducible apply KM.modPair
    | with_reducible apply KM.app (g := State.fail_keeps ..)
    | with_reducible apply KM.app (g := State.failOwner_keeps ..)
    | (extract_lets +onlyGivenNames x; refine KM.let_ (m := 3011510272) (s := s) (x := x) ?_ ?_; all_goals first | (intro hx; clear_value x) | subst x)
    | (extract_lets +onlyGivenNames v; subst v)
    | split

theorem State.coldFreeze_keeps (s : State) : KM 11593154816 s (State.coldFreeze s) := by
  have hx : KM 11593154816 s s := KM.refl
  unfold State.coldFreeze
  repeat' first
    | with_reducible assumption
    | intro hx
    | (show _ ||| _ = _; decide)
    | with_reducible apply KM.app (g := State.freeze_keeps ..)
    | with_reducible apply KM.app (g := State.enterFault_keeps ..)
    | with_reducible apply KM.each
    | with_reducible apply KM.app (g := State.makeUncertain_keeps ..)
    | (extract_lets +onlyGivenNames x; refine KM.let_ (m := 11593154816) (s := s) (x := x) ?_ ?_; all_goals first | (intro hx; clear_value x) | subst x)
    | (extract_lets +onlyGivenNames v; subst v)
    | split

theorem State.unmirroredChunks_keeps (s : State) : KM 17179869184 s (State.unmirroredChunks s) := by
  have hx : KM 17179869184 s s := KM.refl
  unfold State.unmirroredChunks
  repeat' first
    | with_reducible assumption
    | intro hx
    | ((with_reducible apply Lit.mk); intro p hp; first | (cases p <;> first | exact absurd hp (by decide) | exact rfl) | (split <;> cases p <;> first | exact absurd hp (by decide) | exact rfl) | (split <;> split <;> cases p <;> first | exact absurd hp (by decide) | exact rfl))
    | (show _ ||| _ = _; decide)
    | with_reducible apply KM.modUpdate
    | split

theorem State.roleChange_keeps (s : State) (new : CoreId) : KM 21328035872 s (State.roleChange s new) := by
  have hx : KM 21328035872 s s := KM.refl
  unfold State.roleChange
  repeat' first
    | with_reducible assumption
    | intro hx
    | ((with_reducible apply Lit.mk); intro p hp; first | (cases p <;> first | exact absurd hp (by decide) | exact rfl) | (split <;> cases p <;> first | exact absurd hp (by decide) | exact rfl) | (split <;> split <;> cases p <;> first | exact absurd hp (by decide) | exact rfl))
    | (show _ ||| _ = _; decide)
    | with_reducible apply KM.modCan
    | with_reducible apply KM.app (g := State.modCore_keeps ..)
    | with_reducible apply KM.app (g := State.modSlot_keeps ..)
    | with_reducible apply KM.app (g := State.txAgain_keeps ..)
    | with_reducible apply KM.app (g := State.modTime_keeps ..)
    | with_reducible apply KM.app (g := State.unmirroredChunks_keeps ..)
    | (extract_lets +onlyGivenNames x; refine KM.let_ (m := 21328035872) (s := s) (x := x) ?_ ?_; all_goals first | (intro hx; clear_value x) | subst x)
    | (extract_lets +onlyGivenNames v; subst v)
    | split

theorem State.coreFaultEvent_keeps (s : State) (c : CoreId) : KM 3003121664 s (State.coreFaultEvent s c) := by
  have hx : KM 3003121664 s s := KM.refl
  unfold State.coreFaultEvent
  repeat' first
    | with_reducible assumption
    | (show _ ||| _ = _; decide)
    | with_reducible apply KM.app (g := State.raise_keeps ..)

theorem State.skipNumbers_keeps (s : State) : KM 10737418240 s (State.skipNumbers s) := by
  have hx : KM 10737418240 s s := KM.refl
  unfold State.skipNumbers
  repeat' first
    | with_reducible assumption
    | intro hx
    | ((with_reducible apply Lit.mk); intro p hp; cases p <;> first | exact absurd hp (by decide) | exact rfl)
    | (show _ ||| _ = _; decide)
    | with_reducible apply KM.modJournal
    | (extract_lets +onlyGivenNames x; refine KM.let_ (m := 10737418240) (s := s) (x := x) ?_ ?_; all_goals first | (intro hx; clear_value x) | subst x)
    | (extract_lets +onlyGivenNames v; subst v)

theorem State.takeover_keeps (s : State) (new : CoreId) : KM 64286213024 s (State.takeover s new) := by
  have hx : KM 64286213024 s s := KM.refl
  unfold State.takeover
  repeat' first
    | with_reducible assumption
    | intro hx
    | ((with_reducible apply Lit.mk); intro p hp; first | (cases p <;> first | exact absurd hp (by decide) | exact rfl) | (split <;> cases p <;> first | exact absurd hp (by decide) | exact rfl) | (split <;> split <;> cases p <;> first | exact absurd hp (by decide) | exact rfl))
    | (show _ ||| _ = _; decide)
    | with_reducible apply KM.app (g := State.coldFreeze_keeps ..)
    | with_reducible apply KM.app (g := State.obstacle_keeps ..)
    | with_reducible apply KM.app (g := State.roleChange_keeps ..)
    | with_reducible apply KM.app (g := State.coreFaultEvent_keeps ..)
    | with_reducible apply KM.each
    | with_reducible apply KM.app (g := State.modPanel_keeps ..)
    | with_reducible apply KM.app (g := State.releaseHeld_keeps ..)
    | with_reducible apply KM.app (g := State.raise_keeps ..)
    | with_reducible apply KM.app (g := State.skipNumbers_keeps ..)
    | with_reducible apply KM.app (g := State.ok_keeps ..)
    | with_reducible apply KM.app (g := State.judgeTiers_keeps ..)
    | with_reducible apply KM.modPair
    | with_reducible apply KM.app (g := State.endSession_keeps ..)
    | (extract_lets +onlyGivenNames x; refine KM.let_ (m := 64286213024) (s := s) (x := x) ?_ ?_; all_goals first | (intro hx; clear_value x) | subst x)
    | (extract_lets +onlyGivenNames v; subst v)
    | split

theorem State.coreSilent_keeps (s : State) (c : CoreId) (cause : ℕ) : KM 4194336 s (State.coreSilent s c cause) := by
  have hx : KM 4194336 s s := KM.refl
  unfold State.coreSilent
  repeat' first
    | with_reducible assumption
    | (show _ ||| _ = _; decide)
    | with_reducible apply KM.app (g := State.modCore_keeps ..)
    | with_reducible apply KM.app (g := State.modSlot_keeps ..)

theorem State.wantHandover_keeps (s : State) (why : HandoverCause) : KM 8388608 s (State.wantHandover s why) := by
  have hx : KM 8388608 s s := KM.refl
  unfold State.wantHandover
  repeat' first
    | with_reducible assumption
    | intro hx
    | ((with_reducible apply Lit.mk); intro p hp; first | (cases p <;> first | exact absurd hp (by decide) | exact rfl) | (split <;> cases p <;> first | exact absurd hp (by decide) | exact rfl) | (split <;> split <;> cases p <;> first | exact absurd hp (by decide) | exact rfl))
    | (show _ ||| _ = _; decide)
    | with_reducible apply KM.modPair
    | split

theorem State.coverageTrigger_keeps (s : State) : KM 3011510272 s (State.coverageTrigger s) := by
  have hx : KM 3011510272 s s := KM.refl
  unfold State.coverageTrigger
  repeat' first
    | with_reducible assumption
    | (show _ ||| _ = _; decide)
    | with_reducible apply KM.app (g := State.wantHandover_keeps ..)
    | with_reducible apply KM.app (g := State.raise_keeps ..)
    | split

theorem State.handoverTick_keeps (s : State) : KM 3011510272 s (State.handoverTick s) := by
  have hx : KM 3011510272 s s := KM.refl
  unfold State.handoverTick
  repeat' first
    | with_reducible assumption
    | intro hx
    | ((with_reducible apply Lit.mk); intro p hp; first | (cases p <;> first | exact absurd hp (by decide) | exact rfl) | (split <;> cases p <;> first | exact absurd hp (by decide) | exact rfl) | (split <;> split <;> cases p <;> first | exact absurd hp (by decide) | exact rfl))
    | (show _ ||| _ = _; decide)
    | with_reducible apply KM.app (g := State.wantHandover_keeps ..)
    | with_reducible apply KM.app (g := State.coverageTrigger_keeps ..)
    | with_reducible apply KM.modPair
    | (extract_lets +onlyGivenNames x; refine KM.let_ (m := 3011510272) (s := s) (x := x) ?_ ?_; all_goals first | (intro hx; clear_value x) | subst x)
    | (extract_lets +onlyGivenNames v; subst v)
    | split

theorem State.standbyBecomes_keeps (s : State) (new : StandbyState) (reason : Nat) :
    KM 3011514368 s (s.standbyBecomes new reason) := by
  unfold State.standbyBecomes
  extract_lets +onlyGivenNames old
  by_cases h0 : new = old
  · rw [if_pos h0]; exact KM.refl
  rw [if_neg h0]
  extract_lets +onlyGivenNames s1
  have h : KM 3011514368 s s1 := by
    unfold s1
    with_reducible apply KM.app (g := State.raise_keeps _ _ _)
    · with_reducible apply KM.modPair
      · exact KM.refl
      · exact fun t => ⟨fun p hp => by cases p <;> first | exact absurd hp (by decide) | exact rfl⟩
    · decide
  by_cases h1 : new = .inStep
  · rw [if_pos h1]; exact h
  rw [if_neg h1]
  extract_lets +onlyGivenNames s2
  have h2 : KM 3011514368 s s2 := KM.app h (State.releaseHeld_keeps _) (by decide)
  by_cases h3 : s2.doors.relays[s2.standbyCore] = true
  · rw [if_pos h3]; (with_reducible apply KM.app (g := State.loopDrop_keeps _ _ _)) <;> first | exact h2 | decide
  · rw [if_neg h3]; exact h2

theorem State.mirrorRecord_keeps (s : State) (number : ℕ) : KM 4303355904 s (State.mirrorRecord s number) := by
  have hx : KM 4303355904 s s := KM.refl
  unfold State.mirrorRecord
  repeat' first
    | with_reducible assumption
    | intro hx
    | ((with_reducible apply Lit.mk); intro p hp; first | (cases p <;> first | exact absurd hp (by decide) | exact rfl) | (split <;> cases p <;> first | exact absurd hp (by decide) | exact rfl) | (split <;> split <;> cases p <;> first | exact absurd hp (by decide) | exact rfl))
    | (show _ ||| _ = _; decide)
    | with_reducible apply KM.app (g := State.modNand_keeps ..)
    | with_reducible apply KM.modPair
    | (extract_lets +onlyGivenNames x; refine KM.let_ (m := 4303355904) (s := s) (x := x) ?_ ?_; all_goals first | (intro hx; clear_value x) | subst x)
    | (extract_lets +onlyGivenNames v; subst v)
    | split

theorem State.badMirror_keeps (s : State) : KM 3011514368 s (State.badMirror s) := by
  have hx : KM 3011514368 s s := KM.refl
  unfold State.badMirror
  repeat' first
    | with_reducible assumption
    | intro hx
    | ((with_reducible apply Lit.mk); intro p hp; first | (cases p <;> first | exact absurd hp (by decide) | exact rfl) | (split <;> cases p <;> first | exact absurd hp (by decide) | exact rfl) | (split <;> split <;> cases p <;> first | exact absurd hp (by decide) | exact rfl))
    | (show _ ||| _ = _; decide)
    | with_reducible apply KM.app (g := State.standbyBecomes_keeps ..)
    | with_reducible apply KM.app (g := State.raise_keeps ..)
    | with_reducible apply KM.modPair
    | (extract_lets +onlyGivenNames x; refine KM.let_ (m := 3011514368) (s := s) (x := x) ?_ ?_; all_goals first | (intro hx; clear_value x) | subst x)
    | (extract_lets +onlyGivenNames v; subst v)
    | split

theorem State.backfillRecord_keeps (s : State) : KM 7298088960 s (State.backfillRecord s) := by
  have hx : KM 7298088960 s s := KM.refl
  unfold State.backfillRecord
  repeat' first
    | with_reducible assumption
    | (show _ ||| _ = _; decide)
    | with_reducible apply KM.app (g := State.modNand_keeps ..)
    | with_reducible apply KM.app (g := State.raise_keeps ..)
    | (extract_lets +onlyGivenNames x; refine KM.let_ (m := 7298088960) (s := s) (x := x) ?_ ?_; all_goals first | (intro hx; clear_value x) | subst x)
    | (extract_lets +onlyGivenNames v; subst v)
    | split

theorem State.resendRecord_keeps (s : State) : KM 4303355904 s (State.resendRecord s) := by
  unfold State.resendRecord
  extract_lets c
  split
  · exact KM.refl
  · next k hk =>
    extract_lets s1 hv nx
    have h : KM 4303355904 s s1 := by
      unfold s1
      split
      · exact KM.app KM.refl (State.modNand_keeps _ _ _) (by decide)
      · exact KM.refl
    clear_value nx hv s1
    with_reducible apply KM.modPair
    · exact h
    · exact fun t => ⟨fun p hp => by cases p <;> first | exact absurd hp (by decide) | exact rfl⟩

theorem State.takeBulk_keeps (s : State) (kind : ℕ) (offset : ℕ) : KM 24486346768 s (State.takeBulk s kind offset) := by
  have hx : KM 24486346768 s s := KM.refl
  unfold State.takeBulk
  repeat' first
    | with_reducible assumption
    | intro hx
    | ((with_reducible apply Lit.mk); intro p hp; first | (cases p <;> first | exact absurd hp (by decide) | exact rfl) | (split <;> cases p <;> first | exact absurd hp (by decide) | exact rfl) | (split <;> split <;> cases p <;> first | exact absurd hp (by decide) | exact rfl))
    | (show _ ||| _ = _; decide)
    | with_reducible apply KM.app (g := State.backfillRecord_keeps ..)
    | with_reducible apply KM.modUpdate
    | with_reducible apply KM.app (g := State.resendRecord_keeps ..)
    | with_reducible apply KM.each
    | (extract_lets +onlyGivenNames x; refine KM.let_ (m := 24486346768) (s := s) (x := x) ?_ ?_; all_goals first | (intro hx; clear_value x) | subst x)
    | (extract_lets +onlyGivenNames v; subst v)
    | split
    | ((with_reducible apply KM.mk_); intro p hp; cases p <;> first | exact absurd hp (by decide) | exact hx.get _ hp | rfl)

theorem State.mirrorFrame_keeps (s : State) (frame : List Byte) : KM 25560092688 s (State.mirrorFrame s frame) := by
  have hx : KM 25560092688 s s := KM.refl
  unfold State.mirrorFrame
  repeat' first
    | with_reducible assumption
    | intro hx
    | ((with_reducible apply Lit.mk); intro p hp; first | (cases p <;> first | exact absurd hp (by decide) | exact rfl) | (split <;> cases p <;> first | exact absurd hp (by decide) | exact rfl) | (split <;> split <;> cases p <;> first | exact absurd hp (by decide) | exact rfl))
    | (show _ ||| _ = _; decide)
    | with_reducible apply KM.app (g := State.mirrorRecord_keeps ..)
    | with_reducible apply KM.app (g := State.badMirror_keeps ..)
    | with_reducible apply KM.app (g := State.standbyBecomes_keeps ..)
    | with_reducible apply KM.app (g := State.takeBulk_keeps ..)
    | with_reducible apply KM.each
    | with_reducible apply KM.modPair
    | with_reducible apply KM.app (g := State.modTime_keeps ..)
    | (extract_lets +onlyGivenNames x; refine KM.let_ (m := 25560092688) (s := s) (x := x) ?_ ?_; all_goals first | (intro hx; clear_value x) | subst x)
    | (extract_lets +onlyGivenNames v; subst v)
    | split

theorem State.coreStarts_keeps (s : State) (core : CoreId) : KM 3015708672 s (State.coreStarts s core) := by
  have hx : KM 3015708672 s s := KM.refl
  unfold State.coreStarts
  repeat' first
    | with_reducible assumption
    | intro hx
    | ((with_reducible apply Lit.mk); intro p hp; first | (cases p <;> first | exact absurd hp (by decide) | exact rfl) | (split <;> cases p <;> first | exact absurd hp (by decide) | exact rfl) | (split <;> split <;> cases p <;> first | exact absurd hp (by decide) | exact rfl))
    | (show _ ||| _ = _; decide)
    | with_reducible apply KM.app (g := State.modCore_keeps ..)
    | with_reducible apply KM.app (g := State.standbyBecomes_keeps ..)
    | with_reducible apply KM.app (g := State.raise_keeps ..)
    | with_reducible apply KM.modPair
    | (extract_lets +onlyGivenNames x; refine KM.let_ (m := 3015708672) (s := s) (x := x) ?_ ?_; all_goals first | (intro hx; clear_value x) | subst x)
    | (extract_lets +onlyGivenNames v; subst v)
    | split

theorem State.bothSilent_keeps (s : State) : KM 27791360 s (State.bothSilent s) := by
  have hx : KM 27791360 s s := KM.refl
  unfold State.bothSilent
  repeat' first
    | with_reducible assumption
    | intro hx
    | ((with_reducible apply Lit.mk); intro p hp; first | (cases p <;> first | exact absurd hp (by decide) | exact rfl) | (split <;> cases p <;> first | exact absurd hp (by decide) | exact rfl) | (split <;> split <;> cases p <;> first | exact absurd hp (by decide) | exact rfl))
    | (show _ ||| _ = _; decide)
    | with_reducible apply KM.modDoors
    | with_reducible apply KM.modPair
    | with_reducible apply KM.app (g := State.modPower_keeps ..)
    | (extract_lets +onlyGivenNames x; refine KM.let_ (m := 27791360) (s := s) (x := x) ?_ ?_; all_goals first | (intro hx; clear_value x) | subst x)
    | (extract_lets +onlyGivenNames v; subst v)
    | split
    | ((with_reducible apply KM.mk_); intro p hp; cases p <;> first | exact absurd hp (by decide) | exact hx.get _ hp | rfl)

theorem State.takeCovered_keeps (s : State) (core : CoreId) (mask : Nat) : KM 32 s (s.takeCovered core mask) := by
  refine KM.lit KM.refl fun p hp => ?_
  unfold State.takeCovered
  generalize mapV s.frame.slots _ = v
  cases p <;> first | exact absurd hp (by decide) | exact rfl

theorem State.crossTick_keeps (s : State) : KM 3011510272 s (State.crossTick s) := by
  have hx : KM 3011510272 s s := KM.refl
  unfold State.crossTick
  repeat' first
    | with_reducible assumption
    | intro hx
    | ((with_reducible apply Lit.mk); intro p hp; first | (cases p <;> first | exact absurd hp (by decide) | exact rfl) | (split <;> cases p <;> first | exact absurd hp (by decide) | exact rfl) | (split <;> split <;> cases p <;> first | exact absurd hp (by decide) | exact rfl))
    | (show _ ||| _ = _; decide)
    | with_reducible apply KM.each
    | with_reducible apply KM.app (g := State.raise_keeps ..)
    | with_reducible apply KM.modPair
    | (extract_lets +onlyGivenNames x; refine KM.let_ (m := 3011510272) (s := s) (x := x) ?_ ?_; all_goals first | (intro hx; clear_value x) | subst x)
    | (extract_lets +onlyGivenNames v; subst v)
    | split

theorem State.returnFrame_keeps (s : State) (frame : List Byte) : KM 11605643312 s (State.returnFrame s frame) := by
  unfold State.returnFrame
  split
  · exact KM.refl
  extract_lets +onlyGivenNames c flags ack s1
  have h1 : KM 11605643312 s s1 := by
    with_reducible apply KM.modPair
    · exact KM.refl
    · exact fun t => ⟨fun p hp => by cases p <;> first | exact absurd hp (by decide) | exact rfl⟩
  extract_lets +onlyGivenNames s2
  have h2 : KM 11605643312 s s2 := by
    unfold s2
    by_cases h : s1.pair.standby = .inStep
    · rw [if_pos h]; exact KM.app h1 (State.releaseIf_keeps _ _) (by decide)
    · rw [if_neg h]; exact h1
  extract_lets +onlyGivenNames r s3
  have hr : KM 11605643312 s r := KM.app h2 (State.modCore_keeps _ _ _) (by decide)
  have h3 : KM 11605643312 s s3 := hr.lit fun p hp => by
    unfold s3
    cases p <;> first | exact absurd hp (by decide) | exact rfl
  extract_lets +onlyGivenNames s4
  have h4 : KM 11605643312 s s4 := KM.app h3 (State.takeCovered_keeps _ _ _) (by decide)
  extract_lets +onlyGivenNames missing t
  have ht : KM 11605643312 s t := by
    unfold t
    with_reducible apply KM.modPair
    · exact h4
    · exact fun t => ⟨fun p hp => by cases p <;> first | exact absurd hp (by decide) | exact rfl⟩
  extract_lets +onlyGivenNames s5
  have h5 : KM 11605643312 s s5 := by
    unfold s5
    by_cases h : missing = 0
    · rw [if_pos h]
      with_reducible apply KM.modPair
      · with_reducible apply KM.modJournal
        · exact h4
        · exact fun t => ⟨fun p hp => by cases p <;> first | exact absurd hp (by decide) | exact rfl⟩
      · exact fun t => ⟨fun p hp => by cases p <;> first | exact absurd hp (by decide) | exact rfl⟩
    · rw [if_neg h]
      by_cases h : t.journal.missingRaised = true
      · rw [if_pos h]; exact ht
      · rw [if_neg h]
        with_reducible apply KM.app (g := State.raise_keeps _ _ _)
        · with_reducible apply KM.modJournal
          · exact ht
          · exact fun t => ⟨fun p hp => by cases p <;> first | exact absurd hp (by decide) | exact rfl⟩
        · decide
  extract_lets +onlyGivenNames hashSame s6
  have h6 : KM 11605643312 s s6 := by
    unfold s6
    by_cases h : (!hashSame && s5.pair.standby == .inStep) = true
    · rw [if_pos h]
      with_reducible apply KM.app (g := State.standbyBecomes_keeps _ _ _)
      · with_reducible apply KM.app (g := State.raise_keeps _ _ _)
        · exact h5
        · decide
      · decide
    · rw [if_neg h]; exact h5
  extract_lets +onlyGivenNames told
  by_cases h : told = .absent ∨ told = .inStep ∨ s6.pair.standby = .catchingUp
  · have h' : (decide (told = .absent) || decide (told = .inStep) || decide (s6.pair.standby = .catchingUp)) = true := by
      simpa [or_assoc] using h
    first | rw [if_pos h] | rw [if_pos h'] | (split <;> first | exact h6 | exact KM.app h6 (State.standbyBecomes_keeps _ _ _) (by decide))
    exact h6
  · split
    · exact h6
    · exact KM.app h6 (State.standbyBecomes_keeps _ _ _) (by decide)

theorem State.plannedHandover_keeps (s : State) (acknowledged : Bool) : KM 34221326368 s (State.plannedHandover s acknowledged) := by
  have hx : KM 34221326368 s s := KM.refl
  unfold State.plannedHandover
  repeat' first
    | with_reducible assumption
    | intro hx
    | ((with_reducible apply Lit.mk); intro p hp; first | (cases p <;> first | exact absurd hp (by decide) | exact rfl) | (split <;> cases p <;> first | exact absurd hp (by decide) | exact rfl) | (split <;> split <;> cases p <;> first | exact absurd hp (by decide) | exact rfl))
    | (show _ ||| _ = _; decide)
    | with_reducible apply KM.app (g := State.roleChange_keeps ..)
    | with_reducible apply KM.app (g := State.modNand_keeps ..)
    | with_reducible apply KM.app (g := State.modSlot_keeps ..)
    | with_reducible apply KM.app (g := State.flushJournal_keeps ..)
    | with_reducible apply KM.app (g := State.releaseHeld_keeps ..)
    | with_reducible apply KM.app (g := State.raise_keeps ..)
    | with_reducible apply KM.app (g := State.ok_keeps ..)
    | with_reducible apply KM.modPair
    | with_reducible apply KM.app (g := State.fail_keeps ..)
    | (extract_lets +onlyGivenNames x; refine KM.let_ (m := 34221326368) (s := s) (x := x) ?_ ?_; all_goals first | (intro hx; clear_value x) | subst x)
    | (extract_lets +onlyGivenNames v; subst v)
    | split

theorem State.takeRole_keeps (s : State) (core : CoreId) : KM 3015708704 s (State.takeRole s core) := by
  have hx : KM 3015708704 s s := KM.refl
  unfold State.takeRole
  repeat' first
    | with_reducible assumption
    | intro hx
    | ((with_reducible apply Lit.mk); intro p hp; first | (cases p <;> first | exact absurd hp (by decide) | exact rfl) | (split <;> cases p <;> first | exact absurd hp (by decide) | exact rfl) | (split <;> split <;> cases p <;> first | exact absurd hp (by decide) | exact rfl))
    | (show _ ||| _ = _; decide)
    | with_reducible apply KM.app (g := State.modCore_keeps ..)
    | with_reducible apply KM.app (g := State.standbyBecomes_keeps ..)
    | with_reducible apply KM.app (g := State.modSlot_keeps ..)
    | with_reducible apply KM.app (g := State.raise_keeps ..)
    | with_reducible apply KM.modPair
    | (extract_lets +onlyGivenNames x; refine KM.let_ (m := 3015708704) (s := s) (x := x) ?_ ?_; all_goals first | (intro hx; clear_value x) | subst x)
    | (extract_lets +onlyGivenNames v; subst v)
    | split

theorem State.pairStepTick_keeps (s : State) : KM 3011514368 s (State.pairStepTick s) := by
  have hx : KM 3011514368 s s := KM.refl
  unfold State.pairStepTick
  repeat' first
    | with_reducible assumption
    | intro hx
    | ((with_reducible apply Lit.mk); intro p hp; first | (cases p <;> first | exact absurd hp (by decide) | exact rfl) | (split <;> cases p <;> first | exact absurd hp (by decide) | exact rfl) | (split <;> split <;> cases p <;> first | exact absurd hp (by decide) | exact rfl))
    | (show _ ||| _ = _; decide)
    | with_reducible apply KM.app (g := State.standbyBecomes_keeps ..)
    | with_reducible apply KM.modPair
    | (extract_lets +onlyGivenNames x; refine KM.let_ (m := 3011514368) (s := s) (x := x) ?_ ?_; all_goals first | (intro hx; clear_value x) | subst x)
    | (extract_lets +onlyGivenNames v; subst v)
    | split

theorem State.catchupEnds_keeps (s : State) : KM 7306481680 s (State.catchupEnds s) := by
  have hx : KM 7306481680 s s := KM.refl
  unfold State.catchupEnds
  repeat' first
    | with_reducible assumption
    | intro hx
    | ((with_reducible apply Lit.mk); intro p hp; cases p <;> first | exact absurd hp (by decide) | exact rfl)
    | (show _ ||| _ = _; decide)
    | with_reducible apply KM.app (g := State.modNand_keeps ..)
    | with_reducible apply KM.app (g := State.standbyBecomes_keeps ..)
    | with_reducible apply KM.app (g := State.raise_keeps ..)
    | with_reducible apply KM.modPair
    | (extract_lets +onlyGivenNames x; refine KM.let_ (m := 7306481680) (s := s) (x := x) ?_ ?_; all_goals first | (intro hx; clear_value x) | subst x)
    | (extract_lets +onlyGivenNames v; subst v)
    | ((with_reducible apply KM.mk_); intro p hp; cases p <;> first | exact absurd hp (by decide) | exact hx.get _ hp | rfl)

theorem State.waitFor_keeps (s : State) (k : Slot) (why : WaitReason) : KM 3003121696 s (State.waitFor s k why) := by
  have hx : KM 3003121696 s s := KM.refl
  unfold State.waitFor
  repeat' first
    | with_reducible assumption
    | (show _ ||| _ = _; decide)
    | with_reducible apply KM.app (g := State.modSlot_keeps ..)
    | with_reducible apply KM.app (g := State.raise_keeps ..)
    | split

theorem State.confirmRemoval_keeps (s : State) (k : Slot) : KM 3003121696 s (State.confirmRemoval s k) := by
  have hx : KM 3003121696 s s := KM.refl
  unfold State.confirmRemoval
  repeat' first
    | with_reducible assumption
    | (show _ ||| _ = _; decide)
    | with_reducible apply KM.app (g := State.modSlot_keeps ..)
    | with_reducible apply KM.app (g := State.waitFor_keeps ..)
    | split

theorem State.updBecomes_keeps (s : State) (k : Slot) (new : UpdState) : KM 20182990848 s (State.updBecomes s k new) := by
  have hx : KM 20182990848 s s := KM.refl
  unfold State.updBecomes
  repeat' first
    | with_reducible assumption
    | (show _ ||| _ = _; decide)
    | with_reducible apply KM.app (g := State.modFirm_keeps ..)
    | with_reducible apply KM.app (g := State.raise_keeps ..)
    | (extract_lets +onlyGivenNames x; refine KM.let_ (m := 20182990848) (s := s) (x := x) ?_ ?_; all_goals first | (intro hx; clear_value x) | subst x)
    | (extract_lets +onlyGivenNames v; subst v)
    | split

theorem State.suspendUpdate_keeps (s : State) (k : Slot) : KM 20182990848 s (State.suspendUpdate s k) := by
  have hx : KM 20182990848 s s := KM.refl
  unfold State.suspendUpdate
  repeat' first
    | with_reducible assumption
    | (show _ ||| _ = _; decide)
    | with_reducible apply KM.app (g := State.updBecomes_keeps ..)
    | with_reducible apply KM.app (g := State.modFirm_keeps ..)
    | with_reducible apply KM.app (g := State.raise_keeps ..)
    | (extract_lets +onlyGivenNames x; refine KM.let_ (m := 20182990848) (s := s) (x := x) ?_ ?_; all_goals first | (intro hx; clear_value x) | subst x)
    | (extract_lets +onlyGivenNames v; subst v)
    | split

theorem State.openLatch_keeps (s : State) (k : Slot) : KM 20182990880 s (State.openLatch s k) := by
  have hx : KM 20182990880 s s := KM.refl
  unfold State.openLatch
  repeat' first
    | with_reducible assumption
    | intro hx
    | (show _ ||| _ = _; decide)
    | with_reducible apply KM.app (g := State.modSlot_keeps ..)
    | with_reducible apply KM.app (g := State.confirmRemoval_keeps ..)
    | with_reducible apply KM.each
    | with_reducible apply KM.app (g := State.raise_keeps ..)
    | with_reducible apply KM.app (g := State.waitFor_keeps ..)
    | with_reducible apply KM.app (g := State.suspendUpdate_keeps ..)
    | (extract_lets +onlyGivenNames x; refine KM.let_ (m := 20182990880) (s := s) (x := x) ?_ ?_; all_goals first | (intro hx; clear_value x) | subst x)
    | (extract_lets +onlyGivenNames v; subst v)
    | split

theorem State.loadsOff_keeps (s : State) : KM 3003383808 s (State.loadsOff s) := by
  have hx : KM 3003383808 s s := KM.refl
  unfold State.loadsOff
  repeat' first
    | with_reducible assumption
    | intro hx
    | (show _ ||| _ = _; decide)
    | with_reducible apply KM.app (g := State.loadsFollow_keeps ..)
    | with_reducible apply KM.each
    | with_reducible apply KM.app (g := State.modLoad_keeps ..)

theorem State.takeWork_keeps (s : State) (k : Slot) : KM 11605086976 s (State.takeWork s k) := by
  have hx : KM 11605086976 s s := KM.refl
  unfold State.takeWork
  repeat' first
    | with_reducible assumption
    | intro hx
    | (show _ ||| _ = _; decide)
    | with_reducible apply KM.app (g := State.loopDrop_keeps ..)
    | with_reducible apply KM.app (g := State.wantHandover_keeps ..)
    | with_reducible apply KM.app (g := State.setDerated_keeps ..)
    | with_reducible apply KM.app (g := State.linkChange_keeps ..)
    | with_reducible apply KM.app (g := State.standbyBecomes_keeps ..)
    | with_reducible apply KM.each
    | with_reducible apply KM.app (g := State.raise_keeps ..)
    | with_reducible apply KM.app (g := State.modEnergy_keeps ..)
    | with_reducible apply KM.app (g := State.modAxis_keeps ..)
    | with_reducible apply KM.app (g := State.safeState_keeps ..)
    | with_reducible apply KM.app (g := State.loadsOff_keeps ..)
    | with_reducible apply KM.app (g := State.coilsOff_keeps ..)
    | (extract_lets +onlyGivenNames x; refine KM.let_ (m := 11605086976) (s := s) (x := x) ?_ ?_; all_goals first | (intro hx; clear_value x) | subst x)
    | (extract_lets +onlyGivenNames v; subst v)
    | split

theorem State.hostOut_keeps (s : State) (p : HostPort) : KM 11595252480 s (State.hostOut s p) := by
  have hx : KM 11595252480 s s := KM.refl
  unfold State.hostOut
  repeat' first
    | with_reducible assumption
    | intro hx
    | (show _ ||| _ = _; decide)
    | with_reducible apply KM.app (g := State.modPort_keeps ..)
    | with_reducible apply KM.each
    | with_reducible apply KM.app (g := State.raise_keeps ..)
    | with_reducible apply KM.app (g := State.bothLinksDown_keeps ..)
    | (extract_lets +onlyGivenNames x; refine KM.let_ (m := 11595252480) (s := s) (x := x) ?_ ?_; all_goals first | (intro hx; clear_value x) | subst x)
    | (extract_lets +onlyGivenNames v; subst v)
    | split

theorem State.clearEnable_keeps (s : State) (k : Slot) : KM 12683155360 s (State.clearEnable s k) := by
  have hx : KM 12683155360 s s := KM.refl
  unfold State.clearEnable
  repeat' first
    | with_reducible assumption
    | (show _ ||| _ = _; decide)
    | with_reducible apply KM.app (g := State.emBecomes_keeps ..)
    | with_reducible apply KM.app (g := State.modCore_keeps ..)
    | with_reducible apply KM.app (g := State.standbyBecomes_keeps ..)
    | with_reducible apply KM.app (g := State.modSlot_keeps ..)
    | with_reducible apply KM.app (g := State.judgeReady_keeps ..)
    | with_reducible apply KM.app (g := State.judgeTiers_keeps ..)
    | with_reducible apply KM.app (g := State.hostOut_keeps ..)
    | with_reducible apply KM.app (g := State.judgeSupply_keeps ..)
    | (extract_lets +onlyGivenNames x; refine KM.let_ (m := 12683155360) (s := s) (x := x) ?_ ?_; all_goals first | (intro hx; clear_value x) | subst x)
    | (extract_lets +onlyGivenNames v; subst v)
    | split

theorem State.finishRemoval_keeps (s : State) (k : Slot) : KM 12683548576 s (State.finishRemoval s k) := by
  have hx : KM 12683548576 s s := KM.refl
  unfold State.finishRemoval
  repeat' first
    | with_reducible assumption
    | (show _ ||| _ = _; decide)
    | with_reducible apply KM.app (g := State.takeWork_keeps ..)
    | with_reducible apply KM.app (g := State.modSlot_keeps ..)
    | with_reducible apply KM.app (g := State.raise_keeps ..)
    | with_reducible apply KM.app (g := State.clearEnable_keeps ..)
    | (extract_lets +onlyGivenNames x; refine KM.let_ (m := 12683548576) (s := s) (x := x) ?_ ?_; all_goals first | (intro hx; clear_value x) | subst x)
    | (extract_lets +onlyGivenNames v; subst v)
    | split

theorem State.emptySlot_keeps (s : State) (k : Slot) : KM 34399518752 s (State.emptySlot s k) := by
  have hx : KM 34399518752 s s := KM.refl
  unfold State.emptySlot
  repeat' first
    | with_reducible assumption
    | intro hx
    | (show _ ||| _ = _; decide)
    | with_reducible apply KM.app (g := State.modPort_keeps ..)
    | with_reducible apply KM.app (g := State.modGroup_keeps ..)
    | with_reducible apply KM.app (g := State.modSession_keeps ..)
    | with_reducible apply KM.app (g := State.modPm_keeps ..)
    | with_reducible apply KM.app (g := State.modChan_keeps ..)
    | with_reducible apply KM.app (g := State.modCore_keeps ..)
    | with_reducible apply KM.app (g := State.modAxMod_keeps ..)
    | with_reducible apply KM.app (g := State.modSlot_keeps ..)
    | with_reducible apply KM.each
    | with_reducible apply KM.app (g := State.modLoad_keeps ..)
    | with_reducible apply KM.app (g := State.modLoads_keeps ..)
    | with_reducible apply KM.app (g := State.modEnergy_keeps ..)
    | with_reducible apply KM.app (g := State.modFieldMod_keeps ..)
    | (extract_lets +onlyGivenNames x; refine KM.let_ (m := 34399518752) (s := s) (x := x) ?_ ?_; all_goals first | (intro hx; clear_value x) | subst x)
    | (extract_lets +onlyGivenNames v; subst v)
    | split

theorem State.lampTick_keeps (s : State) : KM 64 s s.lampTick := by
  refine KM.lit KM.refl fun p hp => ?_
  unfold State.lampTick
  extract_lets a b
  generalize Vector.ofFn a = v
  generalize Vector.ofFn b = w
  generalize (if s.lampTest.isNone then none else s.frame.lampTestFrom) = u
  clear_value a b
  cases p <;> first | exact absurd hp (by decide) | exact rfl

theorem State.doServiceDrop_keeps (s : State) (r : Req) (slot : ℕ) : KM 20182990880 s (State.doServiceDrop s r slot) := by
  have hx : KM 20182990880 s s := KM.refl
  unfold State.doServiceDrop
  repeat' first
    | with_reducible assumption
    | (show _ ||| _ = _; decide)
    | with_reducible apply KM.app (g := State.modFirm_keeps ..)
    | with_reducible apply KM.app (g := State.confirmRemoval_keeps ..)
    | with_reducible apply KM.app (g := State.ok_keeps ..)
    | with_reducible apply KM.app (g := State.fail_keeps ..)
    | (extract_lets +onlyGivenNames x; refine KM.let_ (m := 20182990880) (s := s) (x := x) ?_ ?_; all_goals first | (intro hx; clear_value x) | subst x)
    | (extract_lets +onlyGivenNames v; subst v)
    | split

theorem State.moduleLost_keeps (s : State) (k : Slot) : KM 47042893728 s (State.moduleLost s k) := by
  have hx : KM 47042893728 s s := KM.refl
  unfold State.moduleLost
  repeat' first
    | with_reducible assumption
    | (show _ ||| _ = _; decide)
    | with_reducible apply KM.app (g := State.standbyBecomes_keeps ..)
    | with_reducible apply KM.app (g := State.takeOut_keeps ..)
    | with_reducible apply KM.app (g := State.judgeReady_keeps ..)
    | with_reducible apply KM.app (g := State.coreOff_keeps ..)
    | with_reducible apply KM.app (g := State.modEnergy_keeps ..)
    | with_reducible apply KM.app (g := State.laneGone_keeps ..)
    | with_reducible apply KM.app (g := State.hostOut_keeps ..)
    | with_reducible apply KM.app (g := State.judgeSupply_keeps ..)
    | (extract_lets +onlyGivenNames x; refine KM.let_ (m := 47042893728) (s := s) (x := x) ?_ ?_; all_goals first | (intro hx; clear_value x) | subst x)
    | (extract_lets +onlyGivenNames v; subst v)
    | split

theorem State.unannounced_keeps (s : State) (k : Slot) : KM 64223156128 s (State.unannounced s k) := by
  have hx : KM 64223156128 s s := KM.refl
  unfold State.unannounced
  repeat' first
    | with_reducible assumption
    | (show _ ||| _ = _; decide)
    | with_reducible apply KM.app (g := State.emptySlot_keeps ..)
    | with_reducible apply KM.app (g := State.raise_keeps ..)
    | with_reducible apply KM.app (g := State.moduleLost_keeps ..)
    | with_reducible apply KM.app (g := State.suspendUpdate_keeps ..)
    | (extract_lets +onlyGivenNames x; refine KM.let_ (m := 64223156128) (s := s) (x := x) ?_ ?_; all_goals first | (intro hx; clear_value x) | subst x)
    | (extract_lets +onlyGivenNames v; subst v)
    | split

theorem State.releaseClaims_keeps (s : State) (r : Req) (codes : List (BitVec 32)) : KM 12683548576 s (State.releaseClaims s r codes) := by
  have hx : KM 12683548576 s s := KM.refl
  unfold State.releaseClaims
  repeat' first
    | with_reducible assumption
    | (show _ ||| _ = _; decide)
    | with_reducible apply KM.app (g := State.modSlot_keeps ..)
    | with_reducible apply KM.app (g := State.finishRemoval_keeps ..)
    | with_reducible apply KM.app (g := State.doReleaseClaims_keeps ..)
    | (extract_lets +onlyGivenNames x; refine KM.let_ (m := 12683548576) (s := s) (x := x) ?_ ?_; all_goals first | (intro hx; clear_value x) | subst x)
    | (extract_lets +onlyGivenNames v; subst v)
    | split

theorem State.removalComplete_keeps (s : State) (k : Slot) : KM 12683548579 s (State.removalComplete s k) := by
  have hx : KM 12683548579 s s := KM.refl
  unfold State.removalComplete
  repeat' first
    | with_reducible assumption
    | (show _ ||| _ = _; decide)
    | with_reducible apply KM.app (g := State.finishRemoval_keeps ..)
    | with_reducible apply KM.app (g := State.until_keeps ..)
    | (extract_lets +onlyGivenNames x; refine KM.let_ (m := 12683548579) (s := s) (x := x) ?_ ?_; all_goals first | (intro hx; clear_value x) | subst x)
    | (extract_lets +onlyGivenNames v; subst v)
    | split

theorem State.reIdentify_keeps (s : State) (k : Slot) : KM 32 s (State.reIdentify s k) := by
  have hx : KM 32 s s := KM.refl
  unfold State.reIdentify
  repeat' first
    | with_reducible assumption
    | (show _ ||| _ = _; decide)
    | with_reducible apply KM.app (g := State.modSlot_keeps ..)

theorem State.startRemoval_keeps (s : State) (k : Slot) : KM 11605087008 s (State.startRemoval s k) := by
  have hx : KM 11605087008 s s := KM.refl
  unfold State.startRemoval
  repeat' first
    | with_reducible assumption
    | (show _ ||| _ = _; decide)
    | with_reducible apply KM.app (g := State.takeWork_keeps ..)
    | with_reducible apply KM.app (g := State.modSlot_keeps ..)
    | (extract_lets +onlyGivenNames x; refine KM.let_ (m := 11605087008) (s := s) (x := x) ?_ ?_; all_goals first | (intro hx; clear_value x) | subst x)
    | (extract_lets +onlyGivenNames v; subst v)
    | split

theorem State.cancelRemoval_keeps (s : State) (k : Slot) : KM 29863024544 s (State.cancelRemoval s k) := by
  have hx : KM 29863024544 s s := KM.refl
  unfold State.cancelRemoval
  repeat' first
    | with_reducible assumption
    | (show _ ||| _ = _; decide)
    | with_reducible apply KM.app (g := State.modPort_keeps ..)
    | with_reducible apply KM.app (g := State.updBecomes_keeps ..)
    | with_reducible apply KM.app (g := State.modSlot_keeps ..)
    | with_reducible apply KM.app (g := State.raise_keeps ..)
    | with_reducible apply KM.app (g := State.reIdentify_keeps ..)
    | with_reducible apply KM.app (g := State.modAxis_keeps ..)
    | with_reducible apply KM.app (g := State.clearEnable_keeps ..)
    | (extract_lets +onlyGivenNames x; refine KM.let_ (m := 29863024544) (s := s) (x := x) ?_ ?_; all_goals first | (intro hx; clear_value x) | subst x)
    | (extract_lets +onlyGivenNames v; subst v)
    | split

theorem State.evalRemoval_keeps (s : State) (k : Slot) : KM 11605087008 s (State.evalRemoval s k) := by
  have hx : KM 11605087008 s s := KM.refl
  unfold State.evalRemoval
  repeat' first
    | with_reducible assumption
    | (show _ ||| _ = _; decide)
    | with_reducible apply KM.app (g := State.startRemoval_keeps ..)
    | with_reducible apply KM.app (g := State.waitFor_keeps ..)
    | split

theorem State.removalTick_keeps (s : State) : KM 12683548576 s (State.removalTick s) := by
  have hx : KM 12683548576 s s := KM.refl
  unfold State.removalTick
  repeat' first
    | with_reducible assumption
    | intro hx
    | (show _ ||| _ = _; decide)
    | with_reducible apply KM.app (g := State.finishRemoval_keeps ..)
    | with_reducible apply KM.each
    | with_reducible apply KM.app (g := State.evalRemoval_keeps ..)
    | (extract_lets +onlyGivenNames x; refine KM.let_ (m := 12683548576) (s := s) (x := x) ?_ ?_; all_goals first | (intro hx; clear_value x) | subst x)
    | (extract_lets +onlyGivenNames v; subst v)
    | split

theorem State.tlIdleTick_keeps (s : State) : KM 2097152 s (State.tlIdleTick s) := by
  have hx : KM 2097152 s s := KM.refl
  unfold State.tlIdleTick
  repeat' first
    | with_reducible assumption
    | (show _ ||| _ = _; decide)
    | with_reducible apply KM.app (g := State.modPower_keeps ..)
    | split

theorem State.cpuResumes_keeps (s : State) (k : WakeSt) : KM 4211081220 s (State.cpuResumes s k) := by
  have hx : KM 4211081220 s s := KM.refl
  unfold State.cpuResumes
  repeat' first
    | with_reducible assumption
    | (show _ ||| _ = _; decide)
    | with_reducible apply KM.app (g := State.loseQueues_keeps ..)
    | with_reducible apply KM.app (g := State.timeWake_keeps ..)
    | (extract_lets +onlyGivenNames x; refine KM.let_ (m := 4211081220) (s := s) (x := x) ?_ ?_; all_goals first | (intro hx; clear_value x) | subst x)
    | (extract_lets +onlyGivenNames v; subst v)
    | split

theorem State.writeWakeCause_keeps (s : State) (core : CoreId) (v : BitVec 32) : KM 2097152 s (State.writeWakeCause s core v) := by
  have hx : KM 2097152 s s := KM.refl
  unfold State.writeWakeCause
  repeat' first
    | with_reducible assumption
    | intro hx
    | (show _ ||| _ = _; decide)
    | with_reducible apply KM.app (g := State.modPower_keeps ..)
    | with_reducible apply State.setUpWrite_keeps

theorem State.wakeFailMessage_keeps (s : State) : KM 268435456 s (State.wakeFailMessage s) := by
  have hx : KM 268435456 s s := KM.refl
  unfold State.wakeFailMessage
  repeat' first
    | with_reducible assumption
    | (show _ ||| _ = _; decide)
    | with_reducible apply KM.app (g := State.sendFallback_keeps ..)
    | (extract_lets +onlyGivenNames x; refine KM.let_ (m := 268435456) (s := s) (x := x) ?_ ?_; all_goals first | (intro hx; clear_value x) | subst x)
    | (extract_lets +onlyGivenNames v; subst v)

theorem State.enterStepN_keeps (s : State) (k : EntryStep) : KM 2097152 s (State.enterStepN s k) := by
  have hx : KM 2097152 s s := KM.refl
  unfold State.enterStepN
  repeat' first
    | with_reducible assumption
    | (show _ ||| _ = _; decide)
    | with_reducible apply KM.app (g := State.modPower_keeps ..)

theorem State.beginN2_keeps (s : State) (target : ℕ) (alarm : ℕ) : KM 79459516416 s (State.beginN2 s target alarm) := by
  have hx : KM 79459516416 s s := KM.refl
  unfold State.beginN2
  repeat' first
    | with_reducible assumption
    | (show _ ||| _ = _; decide)
    | with_reducible apply KM.app (g := State.enterStepN_keeps ..)
    | with_reducible apply KM.app (g := State.commitShutdown_keeps ..)
    | with_reducible apply KM.app (g := State.modPower_keeps ..)

theorem State.endWaits_keeps (s : State) (status : Byte) (detail : ℕ) (result : List Byte) : KM 3005218816 s (State.endWaits s status detail result) := by
  have hx : KM 3005218816 s s := KM.refl
  unfold State.endWaits
  repeat' first
    | with_reducible assumption
    | (show _ ||| _ = _; decide)
    | with_reducible apply KM.app (g := State.completeAll_keeps ..)
    | with_reducible apply KM.app (g := State.modPower_keeps ..)
    | (extract_lets +onlyGivenNames x; refine KM.let_ (m := 3005218816) (s := s) (x := x) ?_ ?_; all_goals first | (intro hx; clear_value x) | subst x)
    | (extract_lets +onlyGivenNames v; subst v)

theorem State.tryEntry_keeps (s : State) : KM 80315154432 s (State.tryEntry s) := by
  have hx : KM 80315154432 s s := KM.refl
  unfold State.tryEntry
  repeat' first
    | with_reducible assumption
    | (show _ ||| _ = _; decide)
    | with_reducible apply KM.app (g := State.beginN2_keeps ..)
    | with_reducible apply KM.app (g := State.raise_keeps ..)
    | with_reducible apply KM.app (g := State.endWaits_keeps ..)
    | with_reducible apply KM.app (g := State.modPower_keeps ..)
    | (extract_lets +onlyGivenNames x; refine KM.let_ (m := 80315154432) (s := s) (x := x) ?_ ?_; all_goals first | (intro hx; clear_value x) | subst x)
    | (extract_lets +onlyGivenNames v; subst v)
    | split

theorem State.noteConsent_keeps (s : State) (p : Party) : KM 3005218816 s (State.noteConsent s p) := by
  have hx : KM 3005218816 s s := KM.refl
  unfold State.noteConsent
  repeat' first
    | with_reducible assumption
    | (show _ ||| _ = _; decide)
    | with_reducible apply KM.app (g := State.raise_keeps ..)
    | with_reducible apply KM.app (g := State.modPower_keeps ..)
    | (extract_lets +onlyGivenNames x; refine KM.let_ (m := 3005218816) (s := s) (x := x) ?_ ?_; all_goals first | (intro hx; clear_value x) | subst x)
    | (extract_lets +onlyGivenNames v; subst v)
    | split

theorem State.releaseHold_keeps (s : State) (who : ℕ) : KM 3006136320 s (State.releaseHold s who) := by
  have hx : KM 3006136320 s s := KM.refl
  unfold State.releaseHold
  repeat' first
    | with_reducible assumption
    | intro hx
    | (show _ ||| _ = _; decide)
    | with_reducible apply KM.each
    | with_reducible apply KM.app (g := State.raise_keeps ..)
    | with_reducible apply KM.app (g := State.modLoads_keeps ..)
    | with_reducible apply KM.app (g := State.modSupply_keeps ..)
    | with_reducible apply KM.app (g := State.modFieldMod_keeps ..)
    | with_reducible apply KM.app (g := State.modPower_keeps ..)
    | (extract_lets +onlyGivenNames x; refine KM.let_ (m := 3006136320) (s := s) (x := x) ?_ ?_; all_goals first | (intro hx; clear_value x) | subst x)
    | (extract_lets +onlyGivenNames v; subst v)
    | split

theorem State.abortEntry_keeps (s : State) (cause : ℕ) : KM 3006136320 s (State.abortEntry s cause) := by
  have hx : KM 3006136320 s s := KM.refl
  unfold State.abortEntry
  repeat' first
    | with_reducible assumption
    | (show _ ||| _ = _; decide)
    | with_reducible apply KM.app (g := State.raise_keeps ..)
    | with_reducible apply KM.app (g := State.releaseHold_keeps ..)
    | with_reducible apply KM.app (g := State.endWaits_keeps ..)
    | with_reducible apply KM.app (g := State.modPower_keeps ..)
    | (extract_lets +onlyGivenNames x; refine KM.let_ (m := 3006136320) (s := s) (x := x) ?_ ?_; all_goals first | (intro hx; clear_value x) | subst x)
    | (extract_lets +onlyGivenNames v; subst v)
    | split

theorem State.consentGone_keeps (s : State) (p : Party) : KM 3006136320 s (State.consentGone s p) := by
  have hx : KM 3006136320 s s := KM.refl
  unfold State.consentGone
  repeat' first
    | with_reducible assumption
    | (show _ ||| _ = _; decide)
    | with_reducible apply KM.app (g := State.completeAll_keeps ..)
    | with_reducible apply KM.app (g := State.abortEntry_keeps ..)
    | with_reducible apply KM.app (g := State.noteConsent_keeps ..)
    | with_reducible apply KM.app (g := State.modPower_keeps ..)
    | (extract_lets +onlyGivenNames x; refine KM.let_ (m := 3006136320) (s := s) (x := x) ?_ ?_; all_goals first | (intro hx; clear_value x) | subst x)
    | (extract_lets +onlyGivenNames v; subst v)
    | split

end Sys2Proof.Machine
end

