-- ==== Sys2Proof/Laws/KeepsOps4.lean ====
section
/-!
SUPPORT. What the operations of the model leave alone, part 4 of 4 (see `Keeps`).
-/

set_option linter.all false

namespace Sys2Proof.Machine

theorem State.writePwrMode_keeps (s : State) (p : HostPort) (core : CoreId) (v : BitVec 32) : KM 80315547648 s (State.writePwrMode s p core v) := by
  have hx : KM 80315547648 s s := KM.refl
  unfold State.writePwrMode
  repeat' first
    | with_reducible assumption
    | (show _ ||| _ = _; decide)
    | with_reducible apply KM.app (g := State.tryEntry_keeps ..)
    | with_reducible apply KM.app (g := State.noteConsent_keeps ..)
    | with_reducible apply KM.app (g := State.consentGone_keeps ..)
    | with_reducible apply KM.app (g := State.modPower_keeps ..)
    | (extract_lets +onlyGivenNames x; refine KM.let_ (m := 80315547648) (s := s) (x := x) ?_ ?_; all_goals first | (intro hx; clear_value x) | subst x)
    | (extract_lets +onlyGivenNames v; subst v)
    | split

theorem State.doWait_keeps (s : State) (r : Req) (target : ℕ) (alarm : ℕ) : KM 80315154432 s (State.doWait s r target alarm) := by
  have hx : KM 80315154432 s s := KM.refl
  unfold State.doWait
  repeat' first
    | with_reducible assumption
    | (show _ ||| _ = _; decide)
    | with_reducible apply KM.app (g := State.tryEntry_keeps ..)
    | with_reducible apply KM.app (g := State.noteConsent_keeps ..)
    | with_reducible apply KM.app (g := State.fail_keeps ..)
    | with_reducible apply KM.app (g := State.modPower_keeps ..)
    | (extract_lets +onlyGivenNames x; refine KM.let_ (m := 80315154432) (s := s) (x := x) ?_ ?_; all_goals first | (intro hx; clear_value x) | subst x)
    | (extract_lets +onlyGivenNames v; subst v)
    | split

theorem State.beginN4_keeps (s : State) : KM 3005218816 s (State.beginN4 s) := by
  have hx : KM 3005218816 s s := KM.refl
  unfold State.beginN4
  repeat' first
    | with_reducible assumption
    | (show _ ||| _ = _; decide)
    | with_reducible apply KM.app (g := State.raise_keeps ..)
    | with_reducible apply KM.app (g := State.enterStepN_keeps ..)
    | with_reducible apply KM.app (g := State.endWaits_keeps ..)
    | (extract_lets +onlyGivenNames x; refine KM.let_ (m := 3005218816) (s := s) (x := x) ?_ ?_; all_goals first | (intro hx; clear_value x) | subst x)
    | (extract_lets +onlyGivenNames v; subst v)

theorem State.abortRun_keeps (s : State) : KM 3072327808 s (State.abortRun s) := by
  have hx : KM 3072327808 s s := KM.refl
  unfold State.abortRun
  repeat' first
    | with_reducible assumption
    | (show _ ||| _ = _; decide)
    | with_reducible apply KM.app (g := State.canStart_keeps ..)
    | with_reducible apply KM.app (g := State.judgeTiers_keeps ..)
    | with_reducible apply KM.app (g := State.modPower_keeps ..)

theorem State.doReleaseHold_keeps (s : State) (r : Req) : KM 3006136320 s (State.doReleaseHold s r) := by
  have hx : KM 3006136320 s s := KM.refl
  unfold State.doReleaseHold
  repeat' first
    | with_reducible assumption
    | (show _ ||| _ = _; decide)
    | with_reducible apply KM.app (g := State.ok_keeps ..)
    | with_reducible apply KM.app (g := State.releaseHold_keeps ..)
    | with_reducible apply KM.app (g := State.fail_keeps ..)
    | (extract_lets +onlyGivenNames x; refine KM.let_ (m := 3006136320) (s := s) (x := x) ?_ ?_; all_goals first | (intro hx; clear_value x) | subst x)
    | (extract_lets +onlyGivenNames v; subst v)
    | split

theorem State.fieldDark_keeps (s : State) : KM 131072 s (State.fieldDark s) := by
  have hx : KM 131072 s s := KM.refl
  unfold State.fieldDark
  repeat' first
    | with_reducible assumption
    | intro hx
    | (show _ ||| _ = _; decide)
    | with_reducible apply KM.each
    | with_reducible apply KM.app (g := State.modFieldMod_keeps ..)

theorem State.lowPower_keeps (s : State) : KM 38451941408 s (State.lowPower s) := by
  have hx : KM 38451941408 s s := KM.refl
  unfold State.lowPower
  repeat' first
    | with_reducible assumption
    | (show _ ||| _ = _; decide)
    | with_reducible apply KM.app (g := State.frameOff_keeps ..)
    | with_reducible apply KM.app (g := State.fieldDark_keeps ..)
    | with_reducible apply KM.app (g := State.modPower_keeps ..)
    | (extract_lets +onlyGivenNames x; refine KM.let_ (m := 38451941408) (s := s) (x := x) ?_ ?_; all_goals first | (intro hx; clear_value x) | subst x)
    | (extract_lets +onlyGivenNames v; subst v)
    | split

theorem State.beginN6_keeps (s : State) : KM 2097152 s (State.beginN6 s) := by
  have hx : KM 2097152 s s := KM.refl
  unfold State.beginN6
  repeat' first
    | with_reducible assumption
    | (show _ ||| _ = _; decide)
    | with_reducible apply KM.app (g := State.enterStepN_keeps ..)
    | with_reducible apply KM.app (g := State.modPower_keeps ..)

theorem State.startRecord_keeps (s : State) (kind : ℕ) (ms : ℕ) (restored : ℕ) (off : ℕ) : KM 10737418240 s (State.startRecord s kind ms restored off) := by
  have hx : KM 10737418240 s s := KM.refl
  unfold State.startRecord
  repeat' first
    | with_reducible assumption
    | intro hx
    | ((with_reducible apply Lit.mk); intro p hp; cases p <;> first | exact absurd hp (by decide) | exact rfl)
    | (show _ ||| _ = _; decide)
    | with_reducible apply KM.app (g := State.stage_keeps ..)
    | with_reducible apply KM.modJournal
    | (extract_lets +onlyGivenNames x; refine KM.let_ (m := 10737418240) (s := s) (x := x) ?_ ?_; all_goals first | (intro hx; clear_value x) | subst x)
    | (extract_lets +onlyGivenNames v; subst v)

theorem State.wakeBy_keeps (s : State) (causes : BitVec 32) (retentionFailed : Bool) : KM 38451810336 s (State.wakeBy s causes retentionFailed) := by
  have hx : KM 38451810336 s s := KM.refl
  unfold State.wakeBy
  repeat' first
    | with_reducible assumption
    | (show _ ||| _ = _; decide)
    | with_reducible apply KM.app (g := State.beginWake_keeps ..)
    | with_reducible apply KM.app (g := State.frameOff_keeps ..)
    | with_reducible apply KM.app (g := State.raise_keeps ..)
    | with_reducible apply KM.app (g := State.modPower_keeps ..)
    | (extract_lets +onlyGivenNames x; refine KM.let_ (m := 38451810336) (s := s) (x := x) ?_ ?_; all_goals first | (intro hx; clear_value x) | subst x)
    | (extract_lets +onlyGivenNames v; subst v)
    | split

theorem State.holdAtRun_keeps (s : State) : KM 3006136320 s (State.holdAtRun s) := by
  have hx : KM 3006136320 s s := KM.refl
  unfold State.holdAtRun
  repeat' first
    | with_reducible assumption
    | (show _ ||| _ = _; decide)
    | with_reducible apply KM.app (g := State.releaseHold_keeps ..)
    | with_reducible apply KM.app (g := State.modPower_keeps ..)
    | split

theorem State.readPairs_keeps (s : State) : KM 3003123712 s (State.readPairs s) := by
  have hx : KM 3003123712 s s := KM.refl
  unfold State.readPairs
  repeat' first
    | with_reducible assumption
    | intro hx
    | (show _ ||| _ = _; decide)
    | with_reducible apply KM.app (g := State.pairTick_keeps ..)
    | with_reducible apply KM.each

theorem State.tlStart_keeps (s : State) : KM 11593155328 s (State.tlStart s) := by
  have hx : KM 11593155328 s s := KM.refl
  unfold State.tlStart
  repeat' first
    | with_reducible assumption
    | intro hx
    | (show _ ||| _ = _; decide)
    | with_reducible apply KM.each
    | with_reducible apply KM.app (g := State.tlTakes_keeps ..)
    | with_reducible apply KM.app (g := State.modDoor_keeps ..)
    | with_reducible apply KM.app (g := State.loseClaims_keeps ..)
    | (extract_lets +onlyGivenNames x; refine KM.let_ (m := 11593155328) (s := s) (x := x) ?_ ?_; all_goals first | (intro hx; clear_value x) | subst x)
    | (extract_lets +onlyGivenNames v; subst v)
    | split

theorem State.wakeRun_keeps (s : State) (k : WakeSt) : KM 12738072448 s (State.wakeRun s k) := by
  have hx : KM 12738072448 s s := KM.refl
  unfold State.wakeRun
  repeat' first
    | with_reducible assumption
    | intro hx
    | (show _ ||| _ = _; decide)
    | with_reducible apply KM.app (g := State.enterFault_keeps ..)
    | with_reducible apply KM.app (g := State.startRecord_keeps ..)
    | with_reducible apply KM.app (g := State.holdAtRun_keeps ..)
    | with_reducible apply KM.each
    | with_reducible apply KM.app (g := State.readPairs_keeps ..)
    | with_reducible apply KM.app (g := State.modPanel_keeps ..)
    | with_reducible apply KM.app (g := State.raise_keeps ..)
    | with_reducible apply KM.app (g := State.canStart_keeps ..)
    | with_reducible apply KM.app (g := State.modDoor_keeps ..)
    | with_reducible apply KM.app (g := State.judgeTiers_keeps ..)
    | with_reducible apply KM.app (g := State.judgeSupply_keeps ..)
    | with_reducible apply KM.app (g := State.makeUncertain_keeps ..)
    | with_reducible apply KM.app (g := State.modPower_keeps ..)
    | with_reducible apply KM.app (g := State.tlStart_keeps ..)
    | (extract_lets +onlyGivenNames x; refine KM.let_ (m := 12738072448) (s := s) (x := x) ?_ ?_; all_goals first | (intro hx; clear_value x) | subst x)
    | (extract_lets +onlyGivenNames v; subst v)
    | split

theorem State.beginN5_keeps (s : State) : KM 46030492448 s (State.beginN5 s) := by
  have hx : KM 46030492448 s s := KM.refl
  unfold State.beginN5
  repeat' first
    | with_reducible assumption
    | intro hx
    | ((with_reducible apply Lit.mk); intro p hp; first | (cases p <;> first | exact absurd hp (by decide) | exact rfl) | (split <;> cases p <;> first | exact absurd hp (by decide) | exact rfl) | (split <;> split <;> cases p <;> first | exact absurd hp (by decide) | exact rfl))
    | (show _ ||| _ = _; decide)
    | with_reducible apply KM.app (g := State.modPort_keeps ..)
    | with_reducible apply KM.app (g := State.dropLinks_keeps ..)
    | with_reducible apply KM.app (g := State.canSleep_keeps ..)
    | with_reducible apply KM.app (g := State.portDown_keeps ..)
    | with_reducible apply KM.app (g := State.standbyBecomes_keeps ..)
    | with_reducible apply KM.app (g := State.modSlot_keeps ..)
    | with_reducible apply KM.each
    | with_reducible apply KM.app (g := State.releaseHeld_keeps ..)
    | with_reducible apply KM.app (g := State.enterStepN_keeps ..)
    | with_reducible apply KM.modPair
    | with_reducible apply KM.app (g := State.endSession_keeps ..)
    | with_reducible apply KM.app (g := State.panelOff_keeps ..)
    | (extract_lets +onlyGivenNames x; refine KM.let_ (m := 46030492448) (s := s) (x := x) ?_ ?_; all_goals first | (intro hx; clear_value x) | subst x)
    | (extract_lets +onlyGivenNames v; subst v)
    | split

theorem State.linksReturn_keeps (s : State) : KM 3011514400 s (State.linksReturn s) := by
  have hx : KM 3011514400 s s := KM.refl
  unfold State.linksReturn
  repeat' first
    | with_reducible assumption
    | intro hx
    | ((with_reducible apply Lit.mk); intro p hp; first | (cases p <;> first | exact absurd hp (by decide) | exact rfl) | (split <;> cases p <;> first | exact absurd hp (by decide) | exact rfl) | (split <;> split <;> cases p <;> first | exact absurd hp (by decide) | exact rfl))
    | (show _ ||| _ = _; decide)
    | with_reducible apply KM.app (g := State.modPort_keeps ..)
    | with_reducible apply KM.app (g := State.standbyBecomes_keeps ..)
    | with_reducible apply KM.app (g := State.modSlot_keeps ..)
    | with_reducible apply KM.each
    | with_reducible apply KM.modPair
    | with_reducible apply KM.app (g := State.panelPower_keeps ..)
    | (extract_lets +onlyGivenNames x; refine KM.let_ (m := 3011514400) (s := s) (x := x) ?_ ?_; all_goals first | (intro hx; clear_value x) | subst x)
    | (extract_lets +onlyGivenNames v; subst v)
    | split

theorem State.beginN3_keeps (s : State) : KM 15891599360 s (State.beginN3 s) := by
  have hx : KM 15891599360 s s := KM.refl
  unfold State.beginN3
  repeat' first
    | with_reducible assumption
    | intro hx
    | (show _ ||| _ = _; decide)
    | with_reducible apply KM.app (g := State.loopDrop_keeps ..)
    | with_reducible apply KM.each
    | with_reducible apply KM.app (g := State.flushJournal_keeps ..)
    | with_reducible apply KM.app (g := State.sendHold_keeps ..)
    | with_reducible apply KM.app (g := State.modEnergy_keeps ..)
    | with_reducible apply KM.app (g := State.enterStepN_keeps ..)
    | with_reducible apply KM.app (g := State.park_keeps ..)
    | with_reducible apply KM.app (g := State.modPower_keeps ..)
    | (extract_lets +onlyGivenNames x; refine KM.let_ (m := 15891599360) (s := s) (x := x) ?_ ?_; all_goals first | (intro hx; clear_value x) | subst x)
    | (extract_lets +onlyGivenNames v; subst v)
    | split

theorem State.endEntryStep_keeps (s : State) : KM 50326901536 s (State.endEntryStep s) := by
  have hx : KM 50326901536 s s := KM.refl
  unfold State.endEntryStep
  repeat' first
    | with_reducible assumption
    | (show _ ||| _ = _; decide)
    | with_reducible apply KM.app (g := State.beginN6_keeps ..)
    | with_reducible apply KM.app (g := State.beginN5_keeps ..)
    | with_reducible apply KM.app (g := State.beginN3_keeps ..)
    | with_reducible apply KM.app (g := State.beginN4_keeps ..)
    | split

theorem State.toRow_keeps (s : State) (k : WakeSt) (row : WakeRow) : KM 2097152 s (State.toRow s k row) := by
  have hx : KM 2097152 s s := KM.refl
  unfold State.toRow
  repeat' first
    | with_reducible assumption
    | (show _ ||| _ = _; decide)
    | with_reducible apply KM.app (g := State.modPower_keeps ..)

theorem State.fieldReturns_keeps (s : State) : KM 262144 s (State.fieldReturns s) := by
  have hx : KM 262144 s s := KM.refl
  unfold State.fieldReturns
  repeat' first
    | with_reducible assumption
    | intro hx
    | (show _ ||| _ = _; decide)
    | with_reducible apply KM.each
    | with_reducible apply KM.app (g := State.modLoad_keeps ..)

theorem State.wakeFailed_keeps (s : State) (check : ℕ) : KM 55689875616 s (State.wakeFailed s check) := by
  have hx : KM 55689875616 s s := KM.refl
  unfold State.wakeFailed
  repeat' first
    | with_reducible assumption
    | (show _ ||| _ = _; decide)
    | with_reducible apply KM.app (g := State.wakeFailMessage_keeps ..)
    | with_reducible apply KM.app (g := State.roleChange_keeps ..)
    | with_reducible apply KM.app (g := State.modCore_keeps ..)
    | with_reducible apply KM.app (g := State.modSlot_keeps ..)
    | with_reducible apply KM.app (g := State.coreOff_keeps ..)
    | with_reducible apply KM.app (g := State.raise_keeps ..)
    | with_reducible apply KM.app (g := State.judgeTiers_keeps ..)
    | with_reducible apply KM.app (g := State.modPower_keeps ..)
    | (extract_lets +onlyGivenNames x; refine KM.let_ (m := 55689875616) (s := s) (x := x) ?_ ?_; all_goals first | (intro hx; clear_value x) | subst x)
    | (extract_lets +onlyGivenNames v; subst v)
    | split

theorem State.commanded_keeps (s : State) (k : Slot) : KM 1507328 s (State.commanded s k) := by
  have hx : KM 1507328 s s := KM.refl
  unfold State.commanded
  repeat' first
    | with_reducible assumption
    | (show _ ||| _ = _; decide)
    | with_reducible apply KM.app (g := State.modAxMod_keeps ..)
    | with_reducible apply KM.app (g := State.modLoads_keeps ..)
    | with_reducible apply KM.app (g := State.modEnergy_keeps ..)
    | with_reducible apply KM.app (g := State.modFieldMod_keeps ..)
    | split

theorem State.memoryRequest_keeps (s : State) (k : Slot) (q : List Byte) : KM 17179869184 s (State.memoryRequest s k q) := by
  have hx : KM 17179869184 s s := KM.refl
  unfold State.memoryRequest
  repeat' first
    | with_reducible assumption
    | (show _ ||| _ = _; decide)
    | with_reducible apply KM.app (g := State.modFirm_keeps ..)
    | (extract_lets +onlyGivenNames x; refine KM.let_ (m := 17179869184) (s := s) (x := x) ?_ ?_; all_goals first | (intro hx; clear_value x) | subst x)
    | (extract_lets +onlyGivenNames v; subst v)
    | split

theorem State.doUpdateStatus_keeps (s : State) (r : Req) : KM 3003121664 s (State.doUpdateStatus s r) := by
  have hx : KM 3003121664 s s := KM.refl
  unfold State.doUpdateStatus
  repeat' first
    | with_reducible assumption
    | (show _ ||| _ = _; decide)
    | with_reducible apply KM.app (g := State.copyOut_keeps ..)
    | with_reducible apply KM.app (g := State.ok_keeps ..)
    | with_reducible apply KM.app (g := State.fail_keeps ..)
    | (extract_lets +onlyGivenNames x; refine KM.let_ (m := 3003121664) (s := s) (x := x) ?_ ?_; all_goals first | (intro hx; clear_value x) | subst x)
    | (extract_lets +onlyGivenNames v; subst v)
    | split

theorem State.bootModule_keeps (s : State) (k : Slot) : KM 20182990880 s (State.bootModule s k) := by
  have hx : KM 20182990880 s s := KM.refl
  unfold State.bootModule
  repeat' first
    | with_reducible assumption
    | (show _ ||| _ = _; decide)
    | with_reducible apply KM.app (g := State.updBecomes_keeps ..)
    | with_reducible apply KM.app (g := State.modFirm_keeps ..)
    | with_reducible apply KM.app (g := State.modSlot_keeps ..)
    | with_reducible apply KM.app (g := State.raise_keeps ..)
    | (extract_lets +onlyGivenNames x; refine KM.let_ (m := 20182990880) (s := s) (x := x) ?_ ?_; all_goals first | (intro hx; clear_value x) | subst x)
    | (extract_lets +onlyGivenNames v; subst v)
    | split

theorem State.booted_keeps (s : State) (k : Slot) : KM 20182990880 s (State.booted s k) := by
  have hx : KM 20182990880 s s := KM.refl
  unfold State.booted
  repeat' first
    | with_reducible assumption
    | (show _ ||| _ = _; decide)
    | with_reducible apply KM.app (g := State.bootModule_keeps ..)
    | split

theorem State.alignModule_keeps (s : State) (k : Slot) : KM 20182990880 s (State.alignModule s k) := by
  have hx : KM 20182990880 s s := KM.refl
  unfold State.alignModule
  repeat' first
    | with_reducible assumption
    | (show _ ||| _ = _; decide)
    | with_reducible apply KM.app (g := State.modFirm_keeps ..)
    | with_reducible apply KM.app (g := State.modSlot_keeps ..)
    | with_reducible apply KM.app (g := State.bootModule_keeps ..)
    | with_reducible apply KM.app (g := State.raise_keeps ..)
    | with_reducible apply KM.app (g := State.booted_keeps ..)
    | (extract_lets +onlyGivenNames x; refine KM.let_ (m := 20182990880) (s := s) (x := x) ?_ ?_; all_goals first | (intro hx; clear_value x) | subst x)
    | (extract_lets +onlyGivenNames v; subst v)
    | split

theorem State.usbContainer_keeps (s : State) (core : CoreId) (bytes : List Byte) : KM 51539607552 s (State.usbContainer s core bytes) := by
  have hx : KM 51539607552 s s := KM.refl
  unfold State.usbContainer
  repeat' first
    | with_reducible assumption
    | intro hx
    | ((with_reducible apply Lit.mk); intro p hp; first | (cases p <;> first | exact absurd hp (by decide) | exact rfl) | (split <;> cases p <;> first | exact absurd hp (by decide) | exact rfl) | (split <;> split <;> cases p <;> first | exact absurd hp (by decide) | exact rfl))
    | (show _ ||| _ = _; decide)
    | with_reducible apply KM.app (g := State.modSession_keeps ..)
    | with_reducible apply KM.modUpdate
    | (extract_lets +onlyGivenNames x; refine KM.let_ (m := 51539607552) (s := s) (x := x) ?_ ?_; all_goals first | (intro hx; clear_value x) | subst x)
    | (extract_lets +onlyGivenNames v; subst v)
    | split

theorem State.doSessionClose_keeps (s : State) (r : Req) : KM 45952893696 s (State.doSessionClose s r) := by
  have hx : KM 45952893696 s s := KM.refl
  unfold State.doSessionClose
  repeat' first
    | with_reducible assumption
    | (show _ ||| _ = _; decide)
    | with_reducible apply KM.app (g := State.ok_keeps ..)
    | with_reducible apply KM.app (g := State.endSession_keeps ..)

theorem State.setStaged_keeps (s : State) (kind : ℕ) (g : Option Staged) : KM 17179869184 s (State.setStaged s kind g) := by
  have hx : KM 17179869184 s s := KM.refl
  unfold State.setStaged
  repeat' first
    | with_reducible assumption
    | intro hx
    | ((with_reducible apply Lit.mk); intro p hp; first | (cases p <;> first | exact absurd hp (by decide) | exact rfl) | (split <;> cases p <;> first | exact absurd hp (by decide) | exact rfl) | (split <;> split <;> cases p <;> first | exact absurd hp (by decide) | exact rfl))
    | (show _ ||| _ = _; decide)
    | with_reducible apply KM.modUpdate
    | split

theorem State.stagedBecomes_keeps (s : State) (kind : ℕ) (g : Option Staged) : KM 20182990848 s (State.stagedBecomes s kind g) := by
  have hx : KM 20182990848 s s := KM.refl
  unfold State.stagedBecomes
  repeat' first
    | with_reducible assumption
    | (show _ ||| _ = _; decide)
    | with_reducible apply KM.app (g := State.setStaged_keeps ..)
    | with_reducible apply KM.app (g := State.raise_keeps ..)
    | (extract_lets +onlyGivenNames x; refine KM.let_ (m := 20182990848) (s := s) (x := x) ?_ ?_; all_goals first | (intro hx; clear_value x) | subst x)
    | (extract_lets +onlyGivenNames v; subst v)
    | split

theorem State.outForUpdate_keeps (s : State) (k : Slot) : KM 12672599456 s (State.outForUpdate s k) := by
  have hx : KM 12672599456 s s := KM.refl
  unfold State.outForUpdate
  repeat' first
    | with_reducible assumption
    | (show _ ||| _ = _; decide)
    | with_reducible apply KM.app (g := State.emBecomes_keeps ..)
    | with_reducible apply KM.app (g := State.modCore_keeps ..)
    | with_reducible apply KM.app (g := State.modSlot_keeps ..)
    | with_reducible apply KM.app (g := State.judgeReady_keeps ..)
    | with_reducible apply KM.app (g := State.judgeTiers_keeps ..)
    | with_reducible apply KM.app (g := State.judgeSupply_keeps ..)
    | (extract_lets +onlyGivenNames x; refine KM.let_ (m := 12672599456) (s := s) (x := x) ?_ ?_; all_goals first | (intro hx; clear_value x) | subst x)
    | (extract_lets +onlyGivenNames v; subst v)
    | split

theorem State.leaveForUpdate_keeps (s : State) (k : Slot) : KM 29863417760 s (State.leaveForUpdate s k) := by
  have hx : KM 29863417760 s s := KM.refl
  unfold State.leaveForUpdate
  repeat' first
    | with_reducible assumption
    | (show _ ||| _ = _; decide)
    | with_reducible apply KM.app (g := State.takeWork_keeps ..)
    | with_reducible apply KM.app (g := State.modFirm_keeps ..)
    | with_reducible apply KM.app (g := State.modSlot_keeps ..)
    | with_reducible apply KM.app (g := State.outForUpdate_keeps ..)
    | (extract_lets +onlyGivenNames x; refine KM.let_ (m := 29863417760) (s := s) (x := x) ?_ ?_; all_goals first | (intro hx; clear_value x) | subst x)
    | (extract_lets +onlyGivenNames v; subst v)
    | split

theorem State.endActivation_keeps (s : State) (status : Byte) (detail : ℕ) (result : List Byte) : KM 20182990848 s (State.endActivation s status detail result) := by
  have hx : KM 20182990848 s s := KM.refl
  unfold State.endActivation
  repeat' first
    | with_reducible assumption
    | intro hx
    | ((with_reducible apply Lit.mk); intro p hp; first | (cases p <;> first | exact absurd hp (by decide) | exact rfl) | (split <;> cases p <;> first | exact absurd hp (by decide) | exact rfl) | (split <;> split <;> cases p <;> first | exact absurd hp (by decide) | exact rfl))
    | (show _ ||| _ = _; decide)
    | with_reducible apply KM.app (g := State.updBecomes_keeps ..)
    | with_reducible apply KM.modUpdate
    | with_reducible apply KM.app (g := State.complete_keeps ..)
    | with_reducible apply KM.each
    | (extract_lets +onlyGivenNames x; refine KM.let_ (m := 20182990848) (s := s) (x := x) ?_ ?_; all_goals first | (intro hx; clear_value x) | subst x)
    | (extract_lets +onlyGivenNames v; subst v)
    | split

theorem State.activationFails_keeps (s : State) (k : Slot) (status : Byte) (detail : ℕ) : KM 20182990848 s (State.activationFails s k status detail) := by
  have hx : KM 20182990848 s s := KM.refl
  unfold State.activationFails
  repeat' first
    | with_reducible assumption
    | (show _ ||| _ = _; decide)
    | with_reducible apply KM.app (g := State.updBecomes_keeps ..)
    | with_reducible apply KM.app (g := State.endActivation_keeps ..)

theorem State.startSlot_keeps (s : State) (k : Slot) : KM 29863417760 s (State.startSlot s k) := by
  have hx : KM 29863417760 s s := KM.refl
  unfold State.startSlot
  repeat' first
    | with_reducible assumption
    | (show _ ||| _ = _; decide)
    | with_reducible apply KM.app (g := State.updBecomes_keeps ..)
    | with_reducible apply KM.app (g := State.wantHandover_keeps ..)
    | with_reducible apply KM.app (g := State.modFirm_keeps ..)
    | with_reducible apply KM.app (g := State.leaveForUpdate_keeps ..)
    | with_reducible apply KM.app (g := State.raise_keeps ..)
    | with_reducible apply KM.app (g := State.endActivation_keeps ..)
    | with_reducible apply KM.app (g := State.activationFails_keeps ..)
    | (extract_lets +onlyGivenNames x; refine KM.let_ (m := 29863417760) (s := s) (x := x) ?_ ?_; all_goals first | (intro hx; clear_value x) | subst x)
    | (extract_lets +onlyGivenNames v; subst v)
    | split

theorem State.doUpdateActivate_keeps (s : State) (r : Req) (kind : ℕ) (mask : BitVec 16) : KM 29863417760 s (State.doUpdateActivate s r kind mask) := by
  have hx : KM 29863417760 s s := KM.refl
  unfold State.doUpdateActivate
  repeat' first
    | with_reducible assumption
    | intro hx
    | ((with_reducible apply Lit.mk); intro p hp; first | (cases p <;> first | exact absurd hp (by decide) | exact rfl) | (split <;> cases p <;> first | exact absurd hp (by decide) | exact rfl) | (split <;> split <;> cases p <;> first | exact absurd hp (by decide) | exact rfl))
    | (show _ ||| _ = _; decide)
    | with_reducible apply KM.app (g := State.updBecomes_keeps ..)
    | with_reducible apply KM.modUpdate
    | with_reducible apply KM.app (g := State.startSlot_keeps ..)
    | with_reducible apply KM.each
    | with_reducible apply KM.app (g := State.fail_keeps ..)
    | with_reducible apply KM.app (g := State.failOwner_keeps ..)
    | (extract_lets +onlyGivenNames x; refine KM.let_ (m := 29863417760) (s := s) (x := x) ?_ ?_; all_goals first | (intro hx; clear_value x) | subst x)
    | (extract_lets +onlyGivenNames v; subst v)
    | split

theorem State.restartModule_keeps (s : State) (k : Slot) : KM 17179869216 s (State.restartModule s k) := by
  have hx : KM 17179869216 s s := KM.refl
  unfold State.restartModule
  repeat' first
    | with_reducible assumption
    | (show _ ||| _ = _; decide)
    | with_reducible apply KM.app (g := State.modFirm_keeps ..)
    | with_reducible apply KM.app (g := State.reIdentify_keeps ..)

theorem State.doKeyProvision_keeps (s : State) (r : Req) : KM 552758935552 s (State.doKeyProvision s r) := by
  have hx : KM 552758935552 s s := KM.refl
  unfold State.doKeyProvision
  repeat' first
    | with_reducible assumption
    | intro hx
    | ((with_reducible apply Lit.mk); intro p hp; first | (cases p <;> first | exact absurd hp (by decide) | exact rfl) | (split <;> cases p <;> first | exact absurd hp (by decide) | exact rfl) | (split <;> split <;> cases p <;> first | exact absurd hp (by decide) | exact rfl))
    | (show _ ||| _ = _; decide)
    | with_reducible apply KM.modUpdate
    | with_reducible apply KM.app (g := State.raise_keeps ..)
    | with_reducible apply KM.app (g := State.ok_keeps ..)
    | with_reducible apply KM.app (g := State.fail_keeps ..)
    | (extract_lets +onlyGivenNames x; refine KM.let_ (m := 552758935552) (s := s) (x := x) ?_ ?_; all_goals first | (intro hx; clear_value x) | subst x)
    | (extract_lets +onlyGivenNames v; subst v)
    | split

theorem State.updOnStore_keeps (s : State) : KM 20182990880 s (State.updOnStore s) := by
  have hx : KM 20182990880 s s := KM.refl
  unfold State.updOnStore
  repeat' first
    | with_reducible assumption
    | intro hx
    | (show _ ||| _ = _; decide)
    | with_reducible apply KM.app (g := State.updBecomes_keeps ..)
    | with_reducible apply KM.each
    | with_reducible apply KM.app (g := State.endActivation_keeps ..)
    | with_reducible apply KM.app (g := State.restartModule_keeps ..)
    | (extract_lets +onlyGivenNames x; refine KM.let_ (m := 20182990880) (s := s) (x := x) ?_ ?_; all_goals first | (intro hx; clear_value x) | subst x)
    | (extract_lets +onlyGivenNames v; subst v)
    | split

theorem State.doSessionOpen_keeps (s : State) (r : Req) (level : ℕ) (response : BitVec 40) : KM 37362860032 s (State.doSessionOpen s r level response) := by
  have hx : KM 37362860032 s s := KM.refl
  unfold State.doSessionOpen
  repeat' first
    | with_reducible assumption
    | (show _ ||| _ = _; decide)
    | with_reducible apply KM.app (g := State.modPort_keeps ..)
    | with_reducible apply KM.app (g := State.modSession_keeps ..)
    | with_reducible apply KM.app (g := State.raise_keeps ..)
    | with_reducible apply KM.app (g := State.ok_keeps ..)
    | with_reducible apply KM.app (g := State.drainLayby_keeps ..)
    | with_reducible apply KM.app (g := State.fail_keeps ..)
    | (extract_lets +onlyGivenNames x; refine KM.let_ (m := 37362860032) (s := s) (x := x) ?_ ?_; all_goals first | (intro hx; clear_value x) | subst x)
    | (extract_lets +onlyGivenNames v; subst v)
    | split

theorem State.releaseStaged_keeps (s : State) (kind : ℕ) : KM 20182990848 s (State.releaseStaged s kind) := by
  have hx : KM 20182990848 s s := KM.refl
  unfold State.releaseStaged
  repeat' first
    | with_reducible assumption
    | intro hx
    | ((with_reducible apply Lit.mk); intro p hp; first | (cases p <;> first | exact absurd hp (by decide) | exact rfl) | (split <;> cases p <;> first | exact absurd hp (by decide) | exact rfl) | (split <;> split <;> cases p <;> first | exact absurd hp (by decide) | exact rfl))
    | (show _ ||| _ = _; decide)
    | with_reducible apply KM.modUpdate
    | with_reducible apply KM.app (g := State.stagedBecomes_keeps ..)
    | split

theorem State.confirmOne_keeps (s : State) (k : Slot) (how : ℕ) : KM 295060897792 s (State.confirmOne s k how) := by
  have hx : KM 295060897792 s s := KM.refl
  unfold State.confirmOne
  repeat' first
    | with_reducible assumption
    | intro hx
    | ((with_reducible apply Lit.mk); intro p hp; first | (cases p <;> first | exact absurd hp (by decide) | exact rfl) | (split <;> cases p <;> first | exact absurd hp (by decide) | exact rfl) | (split <;> split <;> cases p <;> first | exact absurd hp (by decide) | exact rfl))
    | (show _ ||| _ = _; decide)
    | with_reducible apply KM.app (g := State.updBecomes_keeps ..)
    | with_reducible apply KM.app (g := State.modFirm_keeps ..)
    | with_reducible apply KM.modUpdate
    | with_reducible apply KM.app (g := State.releaseStaged_keeps ..)
    | with_reducible apply KM.app (g := State.raise_keeps ..)
    | (extract_lets +onlyGivenNames x; refine KM.let_ (m := 295060897792) (s := s) (x := x) ?_ ?_; all_goals first | (intro hx; clear_value x) | subst x)
    | (extract_lets +onlyGivenNames v; subst v)
    | split

theorem State.rollBack_keeps (s : State) (k : Slot) (why : ℕ) : KM 20182990880 s (State.rollBack s k why) := by
  have hx : KM 20182990880 s s := KM.refl
  unfold State.rollBack
  repeat' first
    | with_reducible assumption
    | (show _ ||| _ = _; decide)
    | with_reducible apply KM.app (g := State.updBecomes_keeps ..)
    | with_reducible apply KM.app (g := State.modFirm_keeps ..)
    | with_reducible apply KM.app (g := State.raise_keeps ..)
    | with_reducible apply KM.app (g := State.restartModule_keeps ..)
    | (extract_lets +onlyGivenNames x; refine KM.let_ (m := 20182990880) (s := s) (x := x) ?_ ?_; all_goals first | (intro hx; clear_value x) | subst x)
    | (extract_lets +onlyGivenNames v; subst v)

theorem State.tryRollback_keeps (s : State) (k : Slot) : KM 98582894496 s (State.tryRollback s k) := by
  have hx : KM 98582894496 s s := KM.refl
  unfold State.tryRollback
  repeat' first
    | with_reducible assumption
    | intro hx
    | ((with_reducible apply Lit.mk); intro p hp; first | (cases p <;> first | exact absurd hp (by decide) | exact rfl) | (split <;> cases p <;> first | exact absurd hp (by decide) | exact rfl) | (split <;> split <;> cases p <;> first | exact absurd hp (by decide) | exact rfl))
    | (show _ ||| _ = _; decide)
    | with_reducible apply KM.app (g := State.updBecomes_keeps ..)
    | with_reducible apply KM.app (g := State.wantHandover_keeps ..)
    | with_reducible apply KM.app (g := State.modFirm_keeps ..)
    | with_reducible apply KM.modUpdate
    | with_reducible apply KM.app (g := State.leaveForUpdate_keeps ..)
    | with_reducible apply KM.app (g := State.beginN2_keeps ..)
    | with_reducible apply KM.app (g := State.raise_keeps ..)
    | with_reducible apply KM.app (g := State.rollBack_keeps ..)
    | (extract_lets +onlyGivenNames x; refine KM.let_ (m := 98582894496) (s := s) (x := x) ?_ ?_; all_goals first | (intro hx; clear_value x) | subst x)
    | (extract_lets +onlyGivenNames v; subst v)
    | split

theorem State.startRollback_keeps (s : State) (k : Slot) (why : ℕ) : KM 98582894496 s (State.startRollback s k why) := by
  have hx : KM 98582894496 s s := KM.refl
  unfold State.startRollback
  repeat' first
    | with_reducible assumption
    | (show _ ||| _ = _; decide)
    | with_reducible apply KM.app (g := State.updBecomes_keeps ..)
    | with_reducible apply KM.app (g := State.modFirm_keeps ..)
    | with_reducible apply KM.app (g := State.tryRollback_keeps ..)

theorem State.abortSlot_keeps (s : State) (k : Slot) : KM 98582894496 s (State.abortSlot s k) := by
  have hx : KM 98582894496 s s := KM.refl
  unfold State.abortSlot
  repeat' first
    | with_reducible assumption
    | (show _ ||| _ = _; decide)
    | with_reducible apply KM.app (g := State.updBecomes_keeps ..)
    | with_reducible apply KM.app (g := State.startRollback_keeps ..)
    | with_reducible apply KM.app (g := State.restartModule_keeps ..)
    | split

theorem State.doUpdateAbort_keeps (s : State) (r : Req) (kind : ℕ) (mask : BitVec 16) : KM 98582894496 s (State.doUpdateAbort s r kind mask) := by
  have hx : KM 98582894496 s s := KM.refl
  unfold State.doUpdateAbort
  repeat' first
    | with_reducible assumption
    | intro hx
    | (show _ ||| _ = _; decide)
    | with_reducible apply KM.app (g := State.releaseStaged_keeps ..)
    | with_reducible apply KM.each
    | with_reducible apply KM.app (g := State.endActivation_keeps ..)
    | with_reducible apply KM.app (g := State.ok_keeps ..)
    | with_reducible apply KM.app (g := State.abortSlot_keeps ..)
    | with_reducible apply KM.app (g := State.fail_keeps ..)
    | with_reducible apply KM.app (g := State.failOwner_keeps ..)
    | (extract_lets +onlyGivenNames x; refine KM.let_ (m := 98582894496) (s := s) (x := x) ?_ ?_; all_goals first | (intro hx; clear_value x) | subst x)
    | (extract_lets +onlyGivenNames v; subst v)
    | split

theorem State.takeFirmware_keeps (s : State) (k : Slot) (serial : BitVec 32) : KM 17179869184 s (State.takeFirmware s k serial) := by
  have hx : KM 17179869184 s s := KM.refl
  unfold State.takeFirmware
  repeat' first
    | with_reducible assumption
    | (show _ ||| _ = _; decide)
    | with_reducible apply KM.app (g := State.modFirm_keeps ..)
    | (extract_lets +onlyGivenNames x; refine KM.let_ (m := 17179869184) (s := s) (x := x) ?_ ?_; all_goals first | (intro hx; clear_value x) | subst x)
    | (extract_lets +onlyGivenNames v; subst v)
    | split

theorem State.doUpdateVerify_keeps (s : State) (r : Req) (kind : ℕ) : KM 20182990848 s (State.doUpdateVerify s r kind) := by
  have hx : KM 20182990848 s s := KM.refl
  unfold State.doUpdateVerify
  repeat' first
    | with_reducible assumption
    | (show _ ||| _ = _; decide)
    | with_reducible apply KM.app (g := State.stagedBecomes_keeps ..)
    | with_reducible apply KM.app (g := State.raise_keeps ..)
    | with_reducible apply KM.app (g := State.ok_keeps ..)
    | with_reducible apply KM.app (g := State.fail_keeps ..)
    | with_reducible apply KM.app (g := State.failOwner_keeps ..)
    | (extract_lets +onlyGivenNames x; refine KM.let_ (m := 20182990848) (s := s) (x := x) ?_ ?_; all_goals first | (intro hx; clear_value x) | subst x)
    | (extract_lets +onlyGivenNames v; subst v)
    | split

theorem State.doSessionChallenge_keeps (s : State) (r : Req) (level : ℕ) : KM 37362860036 s (State.doSessionChallenge s r level) := by
  have hx : KM 37362860036 s s := KM.refl
  unfold State.doSessionChallenge
  repeat' first
    | with_reducible assumption
    | (show _ ||| _ = _; decide)
    | with_reducible apply KM.app (g := State.modSession_keeps ..)
    | with_reducible apply KM.app (g := State.ok_keeps ..)
    | with_reducible apply KM.app (g := State.fail_keeps ..)
    | (extract_lets +onlyGivenNames x; refine KM.let_ (m := 37362860036) (s := s) (x := x) ?_ ?_; all_goals first | (intro hx; clear_value x) | subst x)
    | (extract_lets +onlyGivenNames v; subst v)
    | split
    | ((with_reducible apply KM.mk_); intro p hp; cases p <;> first | exact absurd hp (by decide) | exact hx.get _ hp | rfl)

theorem State.confirmSlot_keeps (s : State) (k : Slot) (how : ℕ) : KM 295060897792 s (State.confirmSlot s k how) := by
  have hx : KM 295060897792 s s := KM.refl
  unfold State.confirmSlot
  repeat' first
    | with_reducible assumption
    | intro hx
    | ((with_reducible apply Lit.mk); intro p hp; first | (cases p <;> first | exact absurd hp (by decide) | exact rfl) | (split <;> cases p <;> first | exact absurd hp (by decide) | exact rfl) | (split <;> split <;> cases p <;> first | exact absurd hp (by decide) | exact rfl))
    | (show _ ||| _ = _; decide)
    | with_reducible apply KM.app (g := State.confirmOne_keeps ..)
    | with_reducible apply KM.modUpdate
    | with_reducible apply KM.each
    | (extract_lets +onlyGivenNames x; refine KM.let_ (m := 295060897792) (s := s) (x := x) ?_ ?_; all_goals first | (intro hx; clear_value x) | subst x)
    | (extract_lets +onlyGivenNames v; subst v)
    | split

theorem State.doUpdateConfirm_keeps (s : State) (r : Req) (mask : BitVec 16) : KM 295060897792 s (State.doUpdateConfirm s r mask) := by
  have hx : KM 295060897792 s s := KM.refl
  unfold State.doUpdateConfirm
  repeat' first
    | with_reducible assumption
    | intro hx
    | (show _ ||| _ = _; decide)
    | with_reducible apply KM.app (g := State.confirmSlot_keeps ..)
    | with_reducible apply KM.each
    | with_reducible apply KM.app (g := State.ok_keeps ..)
    | with_reducible apply KM.app (g := State.fail_keeps ..)
    | with_reducible apply KM.app (g := State.failOwner_keeps ..)
    | (extract_lets +onlyGivenNames x; refine KM.let_ (m := 295060897792) (s := s) (x := x) ?_ ?_; all_goals first | (intro hx; clear_value x) | subst x)
    | (extract_lets +onlyGivenNames v; subst v)
    | split

theorem State.doUpdateChunk_keeps (s : State) (r : Req) (index : ℕ) (hash : List Byte) : KM 20182990848 s (State.doUpdateChunk s r index hash) := by
  have hx : KM 20182990848 s s := KM.refl
  unfold State.doUpdateChunk
  repeat' first
    | with_reducible assumption
    | (show _ ||| _ = _; decide)
    | with_reducible apply KM.app (g := State.stagedBecomes_keeps ..)
    | with_reducible apply KM.app (g := State.raise_keeps ..)
    | with_reducible apply KM.app (g := State.ok_keeps ..)
    | with_reducible apply KM.app (g := State.fail_keeps ..)
    | with_reducible apply KM.app (g := State.failOwner_keeps ..)
    | (extract_lets +onlyGivenNames x; refine KM.let_ (m := 20182990848) (s := s) (x := x) ?_ ?_; all_goals first | (intro hx; clear_value x) | subst x)
    | (extract_lets +onlyGivenNames v; subst v)
    | split

theorem State.pairWritten_keeps (s : State) : KM 96639385600 s (State.pairWritten s) := by
  have hx : KM 96639385600 s s := KM.refl
  unfold State.pairWritten
  repeat' first
    | with_reducible assumption
    | intro hx
    | ((with_reducible apply Lit.mk); intro p hp; first | (cases p <;> first | exact absurd hp (by decide) | exact rfl) | (split <;> cases p <;> first | exact absurd hp (by decide) | exact rfl) | (split <;> split <;> cases p <;> first | exact absurd hp (by decide) | exact rfl))
    | (show _ ||| _ = _; decide)
    | with_reducible apply KM.modUpdate
    | with_reducible apply KM.app (g := State.beginN2_keeps ..)
    | (extract_lets +onlyGivenNames x; refine KM.let_ (m := 96639385600) (s := s) (x := x) ?_ ?_; all_goals first | (intro hx; clear_value x) | subst x)
    | (extract_lets +onlyGivenNames v; subst v)
    | split

theorem State.bankWritten_keeps (s : State) (k : Slot) (good : Bool) : KM 98574042528 s (State.bankWritten s k good) := by
  have hx : KM 98574042528 s s := KM.refl
  unfold State.bankWritten
  repeat' first
    | with_reducible assumption
    | (show _ ||| _ = _; decide)
    | with_reducible apply KM.app (g := State.modFirm_keeps ..)
    | with_reducible apply KM.app (g := State.pairWritten_keeps ..)
    | with_reducible apply KM.app (g := State.raise_keeps ..)
    | with_reducible apply KM.app (g := State.activationFails_keeps ..)
    | with_reducible apply KM.app (g := State.restartModule_keeps ..)
    | with_reducible apply KM.app (g := State.outForUpdate_keeps ..)
    | (extract_lets +onlyGivenNames x; refine KM.let_ (m := 98574042528) (s := s) (x := x) ?_ ?_; all_goals first | (intro hx; clear_value x) | subst x)
    | (extract_lets +onlyGivenNames v; subst v)
    | split

theorem State.updInService_keeps (s : State) (k : Slot) : KM 20182990848 s (s.updInService k) := by
  unfold State.updInService
  extract_lets +onlyGivenNames f
  subst f
  extract_lets +onlyGivenNames act
  have ha : ∀ t, KM 20182990848 s t → KM 20182990848 s (act t) := by
    intro t h
    unfold act
    extract_lets +onlyGivenNames s1
    have h1 : KM 20182990848 s s1 := by
      unfold s1
      with_reducible apply KM.app (g := State.raise_keeps _ _ _)
      · with_reducible apply KM.app (g := State.modFirm_keeps _ _ _)
        · with_reducible apply KM.app (g := State.updBecomes_keeps _ _ _)
          · exact h
          · decide
        · decide
      · decide
    clear_value s1
    split
    · exact h1
    · next a _ =>
      extract_lets left done_ s2
      have h2 : KM 20182990848 s s2 := by
        unfold s2
        with_reducible apply KM.modUpdate
        · exact h1
        · exact fun t => ⟨fun p hp => by cases p <;> first | exact absurd hp (by decide) | exact rfl⟩
      clear_value s2
      split
      · exact KM.app h2 (State.endActivation_keeps _ _ _ _) (by decide)
      · exact h2
  clear_value act
  have hu : ∀ x, KM 20182990848 s (s.updBecomes k x) := fun x => KM.app KM.refl (State.updBecomes_keeps _ _ _) (by decide)
  split
  · split
    · exact ha _ KM.refl
    · exact KM.app KM.refl (State.activationFails_keeps _ _ _ _) (by decide)
  · split
    · exact KM.app (hu _) (State.modFirm_keeps _ _ _) (by decide)
    · split
      · exact hu _
      · exact hu _
  · exact KM.app KM.refl (State.modFirm_keeps _ _ _) (by decide)
  · exact KM.refl

theorem State.usbTick_keeps (s : State) : KM 17213423616 s (State.usbTick s) := by
  have hx : KM 17213423616 s s := KM.refl
  unfold State.usbTick
  repeat' first
    | with_reducible assumption
    | intro hx
    | ((with_reducible apply Lit.mk); intro p hp; first | (cases p <;> first | exact absurd hp (by decide) | exact rfl) | (split <;> cases p <;> first | exact absurd hp (by decide) | exact rfl) | (split <;> split <;> cases p <;> first | exact absurd hp (by decide) | exact rfl))
    | (show _ ||| _ = _; decide)
    | with_reducible apply KM.app (g := State.modPort_keeps ..)
    | with_reducible apply KM.modUpdate
    | (extract_lets +onlyGivenNames x; refine KM.let_ (m := 17213423616) (s := s) (x := x) ?_ ?_; all_goals first | (intro hx; clear_value x) | subst x)
    | (extract_lets +onlyGivenNames v; subst v)
    | split

theorem State.updSlotTick_keeps (s : State) (k : Slot) : KM 373460801440 s (State.updSlotTick s k) := by
  have hx : KM 373460801440 s s := KM.refl
  unfold State.updSlotTick
  repeat' first
    | with_reducible assumption
    | (show _ ||| _ = _; decide)
    | with_reducible apply KM.app (g := State.confirmSlot_keeps ..)
    | with_reducible apply KM.app (g := State.modFirm_keeps ..)
    | with_reducible apply KM.app (g := State.tryRollback_keeps ..)
    | with_reducible apply KM.app (g := State.startRollback_keeps ..)
    | with_reducible apply KM.app (g := State.startSlot_keeps ..)
    | with_reducible apply KM.app (g := State.leaveForUpdate_keeps ..)
    | (extract_lets +onlyGivenNames x; refine KM.let_ (m := 373460801440) (s := s) (x := x) ?_ ?_; all_goals first | (intro hx; clear_value x) | subst x)
    | (extract_lets +onlyGivenNames v; subst v)
    | split

theorem State.sessionTick_keeps (s : State) : KM 45952893696 s (State.sessionTick s) := by
  have hx : KM 45952893696 s s := KM.refl
  unfold State.sessionTick
  repeat' first
    | with_reducible assumption
    | intro hx
    | (show _ ||| _ = _; decide)
    | with_reducible apply KM.app (g := State.modSession_keeps ..)
    | with_reducible apply KM.each
    | with_reducible apply KM.app (g := State.endSession_keeps ..)
    | (extract_lets +onlyGivenNames x; refine KM.let_ (m := 45952893696) (s := s) (x := x) ?_ ?_; all_goals first | (intro hx; clear_value x) | subst x)
    | (extract_lets +onlyGivenNames v; subst v)
    | split

theorem State.doUpdateBegin_keeps (s : State) (r : Req) : KM 20182990848 s (State.doUpdateBegin s r) := by
  have hx : KM 20182990848 s s := KM.refl
  unfold State.doUpdateBegin
  repeat' first
    | with_reducible assumption
    | intro hx
    | ((with_reducible apply Lit.mk); intro p hp; first | (cases p <;> first | exact absurd hp (by decide) | exact rfl) | (split <;> cases p <;> first | exact absurd hp (by decide) | exact rfl) | (split <;> split <;> cases p <;> first | exact absurd hp (by decide) | exact rfl))
    | (show _ ||| _ = _; decide)
    | with_reducible apply KM.modUpdate
    | with_reducible apply KM.app (g := State.stagedBecomes_keeps ..)
    | with_reducible apply KM.app (g := State.raise_keeps ..)
    | with_reducible apply KM.app (g := State.ok_keeps ..)
    | with_reducible apply KM.app (g := State.fail_keeps ..)
    | with_reducible apply KM.app (g := State.failOwner_keeps ..)
    | (extract_lets +onlyGivenNames x; refine KM.let_ (m := 20182990848) (s := s) (x := x) ?_ ?_; all_goals first | (intro hx; clear_value x) | subst x)
    | (extract_lets +onlyGivenNames v; subst v)
    | split

theorem State.updateTick_keeps (s : State) : KM 373460801440 s (State.updateTick s) := by
  have hx : KM 373460801440 s s := KM.refl
  unfold State.updateTick
  repeat' first
    | with_reducible assumption
    | intro hx
    | ((with_reducible apply Lit.mk); intro p hp; first | (cases p <;> first | exact absurd hp (by decide) | exact rfl) | (split <;> cases p <;> first | exact absurd hp (by decide) | exact rfl) | (split <;> split <;> cases p <;> first | exact absurd hp (by decide) | exact rfl))
    | (show _ ||| _ = _; decide)
    | with_reducible apply KM.app (g := State.updBecomes_keeps ..)
    | with_reducible apply KM.modUpdate
    | with_reducible apply KM.each
    | with_reducible apply KM.app (g := State.updSlotTick_keeps ..)
    | with_reducible apply KM.app (g := State.updOnStore_keeps ..)
    | (extract_lets +onlyGivenNames x; refine KM.let_ (m := 373460801440) (s := s) (x := x) ?_ ?_; all_goals first | (intro hx; clear_value x) | subst x)
    | (extract_lets +onlyGivenNames v; subst v)
    | split

theorem State.unitInService_keeps (s : State) (k : Slot) : KM 12668536192 s (State.unitInService s k) := by
  have hx : KM 12668536192 s s := KM.refl
  unfold State.unitInService
  repeat' first
    | with_reducible assumption
    | (show _ ||| _ = _; decide)
    | with_reducible apply KM.app (g := State.estInit_keeps ..)
    | with_reducible apply KM.app (g := State.modPm_keeps ..)
    | with_reducible apply KM.app (g := State.judgeReady_keeps ..)
    | with_reducible apply KM.app (g := State.modEnergy_keeps ..)
    | with_reducible apply KM.app (g := State.modAxis_keeps ..)
    | with_reducible apply KM.app (g := State.modFieldMod_keeps ..)
    | with_reducible apply KM.app (g := State.judgeSupply_keeps ..)
    | with_reducible apply KM.app (g := State.makeUncertain_keeps ..)
    | (extract_lets +onlyGivenNames x; refine KM.let_ (m := 12668536192) (s := s) (x := x) ?_ ?_; all_goals first | (intro hx; clear_value x) | subst x)
    | (extract_lets +onlyGivenNames v; subst v)
    | split

theorem State.moduleIn_keeps (s : State) (k : Slot) : KM 29848405408 s (State.moduleIn s k) := by
  have hx : KM 29848405408 s s := KM.refl
  unfold State.moduleIn
  repeat' first
    | with_reducible assumption
    | (show _ ||| _ = _; decide)
    | with_reducible apply KM.app (g := State.updInService_keeps ..)
    | with_reducible apply KM.app (g := State.modSlot_keeps ..)
    | with_reducible apply KM.app (g := State.unitInService_keeps ..)
    | with_reducible apply KM.app (g := State.raise_keeps ..)
    | with_reducible apply KM.app (g := State.judgeTiers_keeps ..)
    | (extract_lets +onlyGivenNames x; refine KM.let_ (m := 29848405408) (s := s) (x := x) ?_ ?_; all_goals first | (intro hx; clear_value x) | subst x)
    | (extract_lets +onlyGivenNames v; subst v)
    | split

theorem State.enabledNow_keeps (s : State) (k : Slot) (b : List Byte) : KM 3015774240 s (State.enabledNow s k b) := by
  have hx : KM 3015774240 s s := KM.refl
  unfold State.enabledNow
  repeat' first
    | with_reducible assumption
    | (show _ ||| _ = _; decide)
    | with_reducible apply KM.app (g := State.modPort_keeps ..)
    | with_reducible apply KM.app (g := State.coreStarts_keeps ..)
    | with_reducible apply KM.app (g := State.modAxMod_keeps ..)
    | with_reducible apply KM.app (g := State.modSlot_keeps ..)
    | with_reducible apply KM.app (g := State.raise_keeps ..)
    | (extract_lets +onlyGivenNames x; refine KM.let_ (m := 3015774240) (s := s) (x := x) ?_ ?_; all_goals first | (intro hx; clear_value x) | subst x)
    | (extract_lets +onlyGivenNames v; subst v)
    | split

theorem State.identityBad_keeps (s : State) (k : Slot) (reason : ℕ) : KM 3003121696 s (State.identityBad s k reason) := by
  have hx : KM 3003121696 s s := KM.refl
  unfold State.identityBad
  repeat' first
    | with_reducible assumption
    | (show _ ||| _ = _; decide)
    | with_reducible apply KM.app (g := State.modSlot_keeps ..)
    | with_reducible apply KM.app (g := State.raise_keeps ..)

theorem State.identityRead_keeps (s : State) (k : Slot) (b : List Byte) (lowRail : Option (ℕ × ℕ)) : KM 20195643424 s (State.identityRead s k b lowRail) := by
  have hx : KM 20195643424 s s := KM.refl
  unfold State.identityRead
  repeat' first
    | with_reducible assumption
    | (show _ ||| _ = _; decide)
    | with_reducible apply KM.app (g := State.alignModule_keeps ..)
    | with_reducible apply KM.app (g := State.modSlot_keeps ..)
    | with_reducible apply KM.app (g := State.enabledNow_keeps ..)
    | with_reducible apply KM.app (g := State.raise_keeps ..)
    | with_reducible apply KM.app (g := State.identityBad_keeps ..)
    | with_reducible apply KM.app (g := State.takeFirmware_keeps ..)
    | (extract_lets +onlyGivenNames x; refine KM.let_ (m := 20195643424) (s := s) (x := x) ?_ ?_; all_goals first | (intro hx; clear_value x) | subst x)
    | (extract_lets +onlyGivenNames v; subst v)
    | split

theorem State.debounced_keeps (s : State) (k : Slot) : KM 3003121696 s (State.debounced s k) := by
  have hx : KM 3003121696 s s := KM.refl
  unfold State.debounced
  repeat' first
    | with_reducible assumption
    | (show _ ||| _ = _; decide)
    | with_reducible apply KM.app (g := State.modSlot_keeps ..)
    | with_reducible apply KM.app (g := State.raise_keeps ..)
    | (extract_lets +onlyGivenNames x; refine KM.let_ (m := 3003121696) (s := s) (x := x) ?_ ?_; all_goals first | (intro hx; clear_value x) | subst x)
    | (extract_lets +onlyGivenNames v; subst v)
    | split

theorem State.presMade_keeps (s : State) (k : Slot) (sid : BitVec 4) (sidp : Bool) : KM 17179869216 s (State.presMade s k sid sidp) := by
  have hx : KM 17179869216 s s := KM.refl
  unfold State.presMade
  repeat' first
    | with_reducible assumption
    | (show _ ||| _ = _; decide)
    | with_reducible apply KM.app (g := State.modFirm_keeps ..)
    | with_reducible apply KM.app (g := State.modSlot_keeps ..)
    | split

theorem State.insertTick_keeps (s : State) : KM 3003121696 s (State.insertTick s) := by
  have hx : KM 3003121696 s s := KM.refl
  unfold State.insertTick
  repeat' first
    | with_reducible assumption
    | intro hx
    | (show _ ||| _ = _; decide)
    | with_reducible apply KM.each
    | with_reducible apply KM.app (g := State.debounced_keeps ..)
    | with_reducible apply KM.app (g := State.identityBad_keeps ..)
    | (extract_lets +onlyGivenNames x; refine KM.let_ (m := 3003121696) (s := s) (x := x) ?_ ?_; all_goals first | (intro hx; clear_value x) | subst x)
    | (extract_lets +onlyGivenNames v; subst v)
    | split

theorem State.updResume_keeps (s : State) : KM 20182990880 s (State.updResume s) := by
  have hx : KM 20182990880 s s := KM.refl
  unfold State.updResume
  repeat' first
    | with_reducible assumption
    | intro hx
    | ((with_reducible apply Lit.mk); intro p hp; first | (cases p <;> first | exact absurd hp (by decide) | exact rfl) | (split <;> cases p <;> first | exact absurd hp (by decide) | exact rfl) | (split <;> split <;> cases p <;> first | exact absurd hp (by decide) | exact rfl))
    | (show _ ||| _ = _; decide)
    | with_reducible apply KM.app (g := State.updBecomes_keeps ..)
    | with_reducible apply KM.app (g := State.updInService_keeps ..)
    | with_reducible apply KM.modUpdate
    | with_reducible apply KM.each
    | with_reducible apply KM.app (g := State.raise_keeps ..)
    | with_reducible apply KM.app (g := State.booted_keeps ..)
    | (extract_lets +onlyGivenNames x; refine KM.let_ (m := 20182990880) (s := s) (x := x) ?_ ?_; all_goals first | (intro hx; clear_value x) | subst x)
    | (extract_lets +onlyGivenNames v; subst v)
    | split

theorem State.slotRestarts_keeps (s : State) (j : Slot) : KM 17179869216 s (State.slotRestarts s j) := by
  have hx : KM 17179869216 s s := KM.refl
  unfold State.slotRestarts
  repeat' first
    | with_reducible assumption
    | (show _ ||| _ = _; decide)
    | with_reducible apply KM.app (g := State.modFirm_keeps ..)
    | with_reducible apply KM.app (g := State.modSlot_keeps ..)
    | with_reducible apply KM.app (g := State.reIdentify_keeps ..)
    | (extract_lets +onlyGivenNames x; refine KM.let_ (m := 17179869216) (s := s) (x := x) ?_ ?_; all_goals first | (intro hx; clear_value x) | subst x)
    | (extract_lets +onlyGivenNames v; subst v)
    | split

theorem State.lockHeld_keeps (s : State) (d : Doorway) : KM 256 s (State.lockHeld s d) := by
  have hx : KM 256 s s := KM.refl
  unfold State.lockHeld
  repeat' first
    | with_reducible assumption
    | (show _ ||| _ = _; decide)
    | with_reducible apply KM.app (g := State.modDoor_keeps ..)

theorem State.doorsFromRecord_keeps (s : State) (r : ShutRecord) : KM 11593154816 s (State.doorsFromRecord s r) := by
  have hx : KM 11593154816 s s := KM.refl
  unfold State.doorsFromRecord
  repeat' first
    | with_reducible assumption
    | intro hx
    | (show _ ||| _ = _; decide)
    | with_reducible apply KM.app (g := State.enterFault_keeps ..)
    | with_reducible apply KM.app (g := State.lockHeld_keeps ..)
    | with_reducible apply KM.each
    | with_reducible apply KM.app (g := State.enterStep_keeps ..)
    | with_reducible apply KM.app (g := State.modDoor_keeps ..)
    | with_reducible apply KM.app (g := State.modAxis_keeps ..)
    | with_reducible apply KM.app (g := State.makeUncertain_keeps ..)
    | (extract_lets +onlyGivenNames x; refine KM.let_ (m := 11593154816) (s := s) (x := x) ?_ ?_; all_goals first | (intro hx; clear_value x) | subst x)
    | (extract_lets +onlyGivenNames v; subst v)
    | split

theorem State.leaveService_keeps (s : State) : KM 3003645952 s (State.leaveService s) := by
  have hx : KM 3003645952 s s := KM.refl
  unfold State.leaveService
  repeat' first
    | with_reducible assumption
    | (show _ ||| _ = _; decide)
    | with_reducible apply KM.app (g := State.raise_keeps ..)
    | with_reducible apply KM.app (g := State.modSupply_keeps ..)
    | split

theorem State.noteBothSilent_keeps (s : State) : KM 3003121664 s (State.noteBothSilent s) := by
  have hx : KM 3003121664 s s := KM.refl
  unfold State.noteBothSilent
  repeat' first
    | with_reducible assumption
    | (show _ ||| _ = _; decide)
    | with_reducible apply KM.app (g := State.raise_keeps ..)
    | split

theorem State.restoreImage_keeps (s : State) (img : Option RestartImage) : KM 505413890 s (State.restoreImage s img) := by
  have hx : KM 505413890 s s := KM.refl
  unfold State.restoreImage
  repeat' first
    | with_reducible assumption
    | (show _ ||| _ = _; decide)
    | with_reducible apply KM.app (g := State.loseQueues_keeps ..)
    | (extract_lets +onlyGivenNames x; refine KM.let_ (m := 505413890) (s := s) (x := x) ?_ ?_; all_goals first | (intro hx; clear_value x) | subst x)
    | (extract_lets +onlyGivenNames v; subst v)
    | split
    | ((with_reducible apply KM.mk_); intro p hp; cases p <;> first | exact absurd hp (by decide) | exact hx.get _ hp | rfl)

theorem State.coresStart_keeps (s : State) : KM 3015708704 s (State.coresStart s) := by
  have hx : KM 3015708704 s s := KM.refl
  unfold State.coresStart
  repeat' first
    | with_reducible assumption
    | intro hx
    | (show _ ||| _ = _; decide)
    | with_reducible apply KM.app (g := State.coreStarts_keeps ..)
    | with_reducible apply KM.app (g := State.modSlot_keeps ..)
    | with_reducible apply KM.each
    | with_reducible apply KM.app (g := State.takeRole_keeps ..)
    | (extract_lets +onlyGivenNames x; refine KM.let_ (m := 3015708704) (s := s) (x := x) ?_ ?_; all_goals first | (intro hx; clear_value x) | subst x)
    | (extract_lets +onlyGivenNames v; subst v)
    | split

theorem State.unitsRestarted_keeps (s : State) (full : Bool) : KM 63919095744 s (State.unitsRestarted s full) := by
  have hx : KM 63919095744 s s := KM.refl
  unfold State.unitsRestarted
  repeat' first
    | with_reducible assumption
    | (show _ ||| _ = _; decide)
    | (extract_lets +onlyGivenNames x; refine KM.let_ (m := 63919095744) (s := s) (x := x) ?_ ?_; all_goals first | (intro hx; clear_value x) | subst x)
    | (extract_lets +onlyGivenNames v; subst v)
    | split
    | ((with_reducible apply KM.mk_); intro p hp; cases p <;> first | exact absurd hp (by decide) | exact hx.get _ hp | rfl)

theorem State.startFrame_keeps (s : State) (full : Bool) (k : WakeSt) (cause : BitVec 32) : KM 68719476710 s (State.startFrame s full k cause) := by
  have hx : KM 68719476710 s s := KM.refl
  unfold State.startFrame
  repeat' first
    | with_reducible assumption
    | intro hx
    | (show _ ||| _ = _; decide)
    | with_reducible apply KM.app (g := State.noteBothSilent_keeps ..)
    | with_reducible apply KM.app (g := State.restoreImage_keeps ..)
    | with_reducible apply KM.app (g := State.journalRecover_keeps ..)
    | with_reducible apply KM.each
    | with_reducible apply KM.app (g := State.slotRestarts_keeps ..)
    | with_reducible apply KM.app (g := State.coresStart_keeps ..)
    | with_reducible apply KM.app (g := State.unitsRestarted_keeps ..)
    | with_reducible apply KM.app (g := State.timeStart_keeps ..)
    | with_reducible apply KM.app (g := State.modPower_keeps ..)
    | with_reducible apply KM.app (g := State.panelPower_keeps ..)
    | (extract_lets +onlyGivenNames x; refine KM.let_ (m := 68719476710) (s := s) (x := x) ?_ ?_; all_goals first | (intro hx; clear_value x) | subst x)
    | (extract_lets +onlyGivenNames v; subst v)
    | split

theorem State.wakeRow_keeps (s : State) (k : WakeSt) (ready : Bool) : KM 68719476710 s (State.wakeRow s k ready) := by
  have hx : KM 68719476710 s s := KM.refl
  unfold State.wakeRow
  repeat' first
    | with_reducible assumption
    | (show _ ||| _ = _; decide)
    | with_reducible apply KM.app (g := State.fieldReturns_keeps ..)
    | with_reducible apply KM.app (g := State.wakeFailed_keeps ..)
    | with_reducible apply KM.app (g := State.modCore_keeps ..)
    | with_reducible apply KM.app (g := State.abortRun_keeps ..)
    | with_reducible apply KM.app (g := State.startFrame_keeps ..)
    | with_reducible apply KM.app (g := State.raise_keeps ..)
    | with_reducible apply KM.app (g := State.linksReturn_keeps ..)
    | with_reducible apply KM.app (g := State.wakeRun_keeps ..)
    | with_reducible apply KM.app (g := State.toRow_keeps ..)
    | with_reducible apply KM.app (g := State.cpuResumes_keeps ..)
    | with_reducible apply KM.app (g := State.modPower_keeps ..)
    | (extract_lets +onlyGivenNames x; refine KM.let_ (m := 68719476710) (s := s) (x := x) ?_ ?_; all_goals first | (intro hx; clear_value x) | subst x)
    | (extract_lets +onlyGivenNames v; subst v)
    | split

theorem State.doorsFromProofs_keeps (s : State) : KM 11593154816 s (State.doorsFromProofs s) := by
  have hx : KM 11593154816 s s := KM.refl
  unfold State.doorsFromProofs
  repeat' first
    | with_reducible assumption
    | intro hx
    | (show _ ||| _ = _; decide)
    | with_reducible apply KM.app (g := State.enterFault_keeps ..)
    | with_reducible apply KM.app (g := State.lockHeld_keeps ..)
    | with_reducible apply KM.each
    | with_reducible apply KM.app (g := State.enterStep_keeps ..)
    | with_reducible apply KM.app (g := State.modDoor_keeps ..)
    | (extract_lets +onlyGivenNames x; refine KM.let_ (m := 11593154816) (s := s) (x := x) ?_ ?_; all_goals first | (intro hx; clear_value x) | subst x)
    | (extract_lets +onlyGivenNames v; subst v)
    | split

theorem State.finishStart_keeps (s : State) (k : WakeSt) : KM 29917941664 s (State.finishStart s k) := by
  have hx : KM 29917941664 s s := KM.refl
  unfold State.finishStart
  repeat' first
    | with_reducible assumption
    | (show _ ||| _ = _; decide)
    | with_reducible apply KM.app (g := State.startRecord_keeps ..)
    | with_reducible apply KM.app (g := State.doorsFromProofs_keeps ..)
    | with_reducible apply KM.app (g := State.doorsFromRecord_keeps ..)
    | with_reducible apply KM.app (g := State.updResume_keeps ..)
    | with_reducible apply KM.app (g := State.readPairs_keeps ..)
    | with_reducible apply KM.app (g := State.raise_keeps ..)
    | with_reducible apply KM.app (g := State.canStart_keeps ..)
    | with_reducible apply KM.app (g := State.judgeTiers_keeps ..)
    | with_reducible apply KM.app (g := State.modSupply_keeps ..)
    | with_reducible apply KM.app (g := State.releaseHold_keeps ..)
    | with_reducible apply KM.app (g := State.judgeSupply_keeps ..)
    | with_reducible apply KM.app (g := State.modPower_keeps ..)
    | with_reducible apply KM.app (g := State.tlStart_keeps ..)
    | (extract_lets +onlyGivenNames x; refine KM.let_ (m := 29917941664) (s := s) (x := x) ?_ ?_; all_goals first | (intro hx; clear_value x) | subst x)
    | (extract_lets +onlyGivenNames v; subst v)
    | split

theorem State.flagFault_keeps (s : State) (k : Slot) (on : Bool) : KM 3003121700 s (State.flagFault s k on) := by
  have hx : KM 3003121700 s s := KM.refl
  unfold State.flagFault
  repeat' first
    | with_reducible assumption
    | (show _ ||| _ = _; decide)
    | with_reducible apply KM.app (g := State.fresh_keeps ..)
    | with_reducible apply KM.app (g := State.modSlot_keeps ..)
    | with_reducible apply KM.app (g := State.raise_keeps ..)
    | split

theorem State.linkLost_keeps (s : State) (k : Slot) (core : CoreId) : KM 47042893728 s (State.linkLost s k core) := by
  have hx : KM 47042893728 s s := KM.refl
  unfold State.linkLost
  repeat' first
    | with_reducible assumption
    | (show _ ||| _ = _; decide)
    | with_reducible apply KM.app (g := State.modSlot_keeps ..)
    | with_reducible apply KM.app (g := State.raise_keeps ..)
    | with_reducible apply KM.app (g := State.coverageTrigger_keeps ..)
    | with_reducible apply KM.app (g := State.moduleLost_keeps ..)
    | (extract_lets +onlyGivenNames x; refine KM.let_ (m := 47042893728) (s := s) (x := x) ?_ ?_; all_goals first | (intro hx; clear_value x) | subst x)
    | (extract_lets +onlyGivenNames v; subst v)
    | split

theorem State.axFaultRead_keeps (s : State) (m : Axis) (code : Nat) : KM 3003220388 s (s.axFaultRead m code) := by
  unfold State.axFaultRead
  have h1 : KM 3003220388 s s.fresh.2 := KM.app KM.refl (State.fresh_keeps _) (by decide)
  have h2 : KM 3003220388 s s.fresh.2.fresh.2 := KM.app h1 (State.fresh_keeps _) (by decide)
  have hd : ∀ t code ev items, KM 3003220388 s t → KM 3003220388 s (t.driveFaultOn m code ev items) :=
    fun t _ _ _ h => KM.app h (State.driveFaultOn_keeps _ _ _ _ _) (by decide)
  simp only
  split <;> first
    | exact hd _ _ _ _ h2
    | skip
  have h3 : ∀ n, KM 3003220388 s ((((s.modAxMod m fun k => { k with fault := n }).modSlot (axisSlot m) fun x =>
      { x with fault := some n })).raise Ev.FR_MODULE_FAULT [.u8 (axSlotNo m), .u8 n]) := by
    intro n
    with_reducible apply KM.app (g := State.raise_keeps _ _ _)
    · with_reducible apply KM.app (g := State.modSlot_keeps _ _ _)
      · with_reducible apply KM.app (g := State.modAxMod_keeps _ _ _)
        · exact KM.refl
        · decide
      · decide
    · decide
  split
  · exact KM.app (h3 _) (State.laneGone_keeps _ _) (by decide)
  · exact h3 _

theorem State.axStates_keeps (s : State) (m : Axis) (u : AxUplink) : KM 3003220388 s (State.axStates s m u) := by
  have hx : KM 3003220388 s s := KM.refl
  unfold State.axStates
  repeat' first
    | with_reducible assumption
    | (show _ ||| _ = _; decide)
    | with_reducible apply KM.app (g := State.lossReported_keeps ..)
    | with_reducible apply KM.app (g := State.modAxMod_keeps ..)
    | with_reducible apply KM.app (g := State.driveFaultOff_keeps ..)
    | with_reducible apply KM.app (g := State.axFaultRead_keeps ..)
    | (extract_lets +onlyGivenNames x; refine KM.let_ (m := 3003220388) (s := s) (x := x) ?_ ?_; all_goals first | (intro hx; clear_value x) | subst x)
    | (extract_lets +onlyGivenNames v; subst v)
    | split

theorem State.missedCount_keeps (s : State) (m : Axis) (count : ℕ) : KM 3003187200 s (State.missedCount s m count) := by
  have hx : KM 3003187200 s s := KM.refl
  unfold State.missedCount
  repeat' first
    | with_reducible assumption
    | (show _ ||| _ = _; decide)
    | with_reducible apply KM.app (g := State.modAxMod_keeps ..)
    | with_reducible apply KM.app (g := State.raise_keeps ..)
    | (extract_lets +onlyGivenNames x; refine KM.let_ (m := 3003187200) (s := s) (x := x) ?_ ?_; all_goals first | (intro hx; clear_value x) | subst x)
    | (extract_lets +onlyGivenNames v; subst v)
    | split

theorem State.axChanges_keeps (s : State) (m : Axis) (old : AxModSt) (u : AxUplink) : KM 3003220388 s (State.axChanges s m old u) := by
  have hx : KM 3003220388 s s := KM.refl
  unfold State.axChanges
  repeat' first
    | with_reducible assumption
    | (show _ ||| _ = _; decide)
    | with_reducible apply KM.app (g := State.encFaultOn_keeps ..)
    | with_reducible apply KM.app (g := State.heatsinkRead_keeps ..)
    | with_reducible apply KM.app (g := State.missedCount_keeps ..)
    | with_reducible apply KM.app (g := State.fresh_keeps ..)
    | with_reducible apply KM.app (g := State.modAxMod_keeps ..)
    | with_reducible apply KM.app (g := State.motorTempRead_keeps ..)
    | with_reducible apply KM.app (g := State.refLatched_keeps ..)
    | with_reducible apply KM.app (g := State.raise_keeps ..)
    | with_reducible apply KM.app (g := State.limitTick_keeps ..)
    | (extract_lets +onlyGivenNames x; refine KM.let_ (m := 3003220388) (s := s) (x := x) ?_ ?_; all_goals first | (intro hx; clear_value x) | subst x)
    | (extract_lets +onlyGivenNames v; subst v)
    | split

theorem State.axReadings_keeps (s : State) (m : Axis) (u : AxUplink) : KM 98304 s (State.axReadings s m u) := by
  have hx : KM 98304 s s := KM.refl
  unfold State.axReadings
  repeat' first
    | with_reducible assumption
    | (show _ ||| _ = _; decide)
    | with_reducible apply KM.app (g := State.modAxMod_keeps ..)
    | with_reducible apply KM.app (g := State.modAxis_keeps ..)
    | (extract_lets +onlyGivenNames x; refine KM.let_ (m := 98304) (s := s) (x := x) ?_ ?_; all_goals first | (intro hx; clear_value x) | subst x)
    | (extract_lets +onlyGivenNames v; subst v)
    | split

theorem State.axisUplink_keeps (s : State) (m : Axis) (p : List Byte) (tick : ℕ) : KM 3003220388 s (State.axisUplink s m p tick) := by
  have hx : KM 3003220388 s s := KM.refl
  unfold State.axisUplink
  repeat' first
    | with_reducible assumption
    | (show _ ||| _ = _; decide)
    | with_reducible apply KM.app (g := State.axStates_keeps ..)
    | with_reducible apply KM.app (g := State.axChanges_keeps ..)
    | with_reducible apply KM.app (g := State.axReadings_keeps ..)
    | (extract_lets +onlyGivenNames x; refine KM.let_ (m := 3003220388) (s := s) (x := x) ?_ ?_; all_goals first | (intro hx; clear_value x) | subst x)
    | (extract_lets +onlyGivenNames v; subst v)

theorem State.loadUplink_keeps (s : State) (p : List Byte) : KM 262144 s (State.loadUplink s p) := by
  have hx : KM 262144 s s := KM.refl
  unfold State.loadUplink
  repeat' first
    | with_reducible assumption
    | (show _ ||| _ = _; decide)
    | with_reducible apply KM.app (g := State.modLoads_keeps ..)

theorem State.energyEdge_keeps (s : State) : KM 1048576 s (State.energyEdge s) := by
  have hx : KM 1048576 s s := KM.refl
  unfold State.energyEdge
  repeat' first
    | with_reducible assumption
    | (show _ ||| _ = _; decide)
    | with_reducible apply KM.app (g := State.modEnergy_keeps ..)
    | split

theorem State.powerUplink_keeps (s : State) (q : Fin 2) (p : List Byte) : KM 12668405152 s (State.powerUplink s q p) := by
  have hx : KM 12668405152 s s := KM.refl
  unfold State.powerUplink
  repeat' first
    | with_reducible assumption
    | (show _ ||| _ = _; decide)
    | with_reducible apply KM.app (g := State.pmFaultOn_keeps ..)
    | with_reducible apply KM.app (g := State.feedReported_keeps ..)
    | with_reducible apply KM.app (g := State.modPm_keeps ..)
    | with_reducible apply KM.app (g := State.modSlot_keeps ..)
    | (extract_lets +onlyGivenNames x; refine KM.let_ (m := 12668405152) (s := s) (x := x) ?_ ?_; all_goals first | (intro hx; clear_value x) | subst x)
    | (extract_lets +onlyGivenNames v; subst v)
    | split

theorem State.takeDownlink_keeps (s : State) (k : Slot) (p : List Byte) : KM 2031616 s (State.takeDownlink s k p) := by
  have hx : KM 2031616 s s := KM.refl
  unfold State.takeDownlink
  repeat' first
    | with_reducible assumption
    | (show _ ||| _ = _; decide)
    | with_reducible apply KM.app (g := State.modPm_keeps ..)
    | with_reducible apply KM.app (g := State.modAxMod_keeps ..)
    | with_reducible apply KM.app (g := State.modLoads_keeps ..)
    | with_reducible apply KM.app (g := State.modEnergy_keeps ..)
    | with_reducible apply KM.app (g := State.modFieldMod_keeps ..)
    | (extract_lets +onlyGivenNames x; refine KM.let_ (m := 2031616) (s := s) (x := x) ?_ ?_; all_goals first | (intro hx; clear_value x) | subst x)
    | (extract_lets +onlyGivenNames v; subst v)
    | split

theorem State.tickMissed_keeps (s : State) (k : Slot) : KM 3005186464 s (State.tickMissed s k) := by
  have hx : KM 3005186464 s s := KM.refl
  unfold State.tickMissed
  repeat' first
    | with_reducible assumption
    | (show _ ||| _ = _; decide)
    | with_reducible apply KM.app (g := State.missedCount_keeps ..)
    | with_reducible apply KM.app (g := State.loadSafe_keeps ..)
    | with_reducible apply KM.app (g := State.modPm_keeps ..)
    | with_reducible apply KM.app (g := State.modAxMod_keeps ..)
    | with_reducible apply KM.app (g := State.modLoads_keeps ..)
    | with_reducible apply KM.app (g := State.modEnergy_keeps ..)
    | with_reducible apply KM.app (g := State.applySafe_keeps ..)
    | with_reducible apply KM.app (g := State.modFieldMod_keeps ..)
    | with_reducible apply KM.app (g := State.lossEnter_keeps ..)
    | (extract_lets +onlyGivenNames x; refine KM.let_ (m := 3005186464) (s := s) (x := x) ?_ ?_; all_goals first | (intro hx; clear_value x) | subst x)
    | (extract_lets +onlyGivenNames v; subst v)
    | split

theorem State.linkCrcError_keeps (s : State) (k : Slot) (core : CoreId) : KM 3003121696 s (State.linkCrcError s k core) := by
  have hx : KM 3003121696 s s := KM.refl
  unfold State.linkCrcError
  repeat' first
    | with_reducible assumption
    | (show _ ||| _ = _; decide)
    | with_reducible apply KM.app (g := State.modSlot_keeps ..)
    | with_reducible apply KM.app (g := State.raise_keeps ..)
    | (extract_lets +onlyGivenNames x; refine KM.let_ (m := 3003121696) (s := s) (x := x) ?_ ?_; all_goals first | (intro hx; clear_value x) | subst x)
    | (extract_lets +onlyGivenNames v; subst v)
    | split

theorem State.loadEdge_keeps (s : State) : KM 3003383808 s (State.loadEdge s) := by
  have hx : KM 3003383808 s s := KM.refl
  unfold State.loadEdge
  repeat' first
    | with_reducible assumption
    | (show _ ||| _ = _; decide)
    | with_reducible apply KM.app (g := State.applyLoad_keeps ..)
    | with_reducible apply KM.app (g := State.loadCommand_keeps ..)
    | with_reducible apply KM.app (g := State.modLoads_keeps ..)
    | (extract_lets +onlyGivenNames x; refine KM.let_ (m := 3003383808) (s := s) (x := x) ?_ ?_; all_goals first | (intro hx; clear_value x) | subst x)
    | (extract_lets +onlyGivenNames v; subst v)
    | split

theorem State.fieldUplink_keeps (s : State) (m : Fin 2) (core : CoreId) (p : List Byte) : KM 131072 s (State.fieldUplink s m core p) := by
  have hx : KM 131072 s s := KM.refl
  unfold State.fieldUplink
  repeat' first
    | with_reducible assumption
    | (show _ ||| _ = _; decide)
    | with_reducible apply KM.app (g := State.modFieldMod_keeps ..)

theorem State.linkSecond_keeps (s : State) : KM 32 s (State.linkSecond s) := by
  have hx : KM 32 s s := KM.refl
  unfold State.linkSecond
  repeat' first
    | with_reducible assumption
    | (show _ ||| _ = _; decide)
    | (extract_lets +onlyGivenNames x; refine KM.let_ (m := 32) (s := s) (x := x) ?_ ?_; all_goals first | (intro hx; clear_value x) | subst x)
    | (extract_lets +onlyGivenNames v; subst v)
    | split
    | ((with_reducible apply KM.mk_); intro p hp; cases p <;> first | exact absurd hp (by decide) | exact hx.get _ hp | rfl)

theorem State.fieldEdge_keeps (s : State) (m : Fin 2) : KM 131072 s (State.fieldEdge s m) := by
  have hx : KM 131072 s s := KM.refl
  unfold State.fieldEdge
  repeat' first
    | with_reducible assumption
    | (show _ ||| _ = _; decide)
    | with_reducible apply KM.app (g := State.applyField_keeps ..)
    | with_reducible apply KM.app (g := State.modFieldMod_keeps ..)
    | (extract_lets +onlyGivenNames x; refine KM.let_ (m := 131072) (s := s) (x := x) ?_ ?_; all_goals first | (intro hx; clear_value x) | subst x)
    | (extract_lets +onlyGivenNames v; subst v)
    | split

theorem State.uplinkFlags_keeps (s : State) (k : Slot) (flags : ℕ) : KM 29848405408 s (State.uplinkFlags s k flags) := by
  have hx : KM 29848405408 s s := KM.refl
  unfold State.uplinkFlags
  repeat' first
    | with_reducible assumption
    | (show _ ||| _ = _; decide)
    | with_reducible apply KM.app (g := State.moduleIn_keeps ..)
    | with_reducible apply KM.app (g := State.modSlot_keeps ..)
    | (extract_lets +onlyGivenNames x; refine KM.let_ (m := 29848405408) (s := s) (x := x) ?_ ?_; all_goals first | (intro hx; clear_value x) | subst x)
    | (extract_lets +onlyGivenNames v; subst v)
    | split

theorem State.failsInRemoval_keeps (s : State) (k : Slot) (faultFlag : Bool) : KM 3003121824 s (State.failsInRemoval s k faultFlag) := by
  have hx : KM 3003121824 s s := KM.refl
  unfold State.failsInRemoval
  repeat' first
    | with_reducible assumption
    | (show _ ||| _ = _; decide)
    | with_reducible apply KM.app (g := State.takeOut_keeps ..)
    | split

theorem State.energyUplink_keeps (s : State) (p : List Byte) : KM 4077912227 s (State.energyUplink s p) := by
  have hx : KM 4077912227 s s := KM.refl
  unfold State.energyUplink
  repeat' first
    | with_reducible assumption
    | (show _ ||| _ = _; decide)
    | with_reducible apply KM.app (g := State.emBecomes_keeps ..)
    | with_reducible apply KM.app (g := State.emFaultOn_keeps ..)
    | with_reducible apply KM.app (g := State.fitReading_keeps ..)
    | with_reducible apply KM.app (g := State.modSlot_keeps ..)
    | with_reducible apply KM.app (g := State.windowDone_keeps ..)
    | with_reducible apply KM.app (g := State.judgeReady_keeps ..)
    | with_reducible apply KM.app (g := State.modEnergy_keeps ..)
    | (extract_lets +onlyGivenNames x; refine KM.let_ (m := 4077912227) (s := s) (x := x) ?_ ?_; all_goals first | (intro hx; clear_value x) | subst x)
    | (extract_lets +onlyGivenNames v; subst v)
    | split

theorem State.takeUplink_keeps (s : State) (k : Slot) (core : CoreId) (p : List Byte) (tick : ℕ) (faultFlag : Bool) : KM 12668863911 s (State.takeUplink s k core p tick faultFlag) := by
  have hx : KM 12668863911 s s := KM.refl
  unfold State.takeUplink
  repeat' first
    | with_reducible assumption
    | (show _ ||| _ = _; decide)
    | with_reducible apply KM.app (g := State.loadUplink_keeps ..)
    | with_reducible apply KM.app (g := State.axisUplink_keeps ..)
    | with_reducible apply KM.app (g := State.flagFault_keeps ..)
    | with_reducible apply KM.app (g := State.energyUplink_keeps ..)
    | with_reducible apply KM.app (g := State.powerUplink_keeps ..)
    | with_reducible apply KM.app (g := State.fieldUplink_keeps ..)
    | (extract_lets +onlyGivenNames x; refine KM.let_ (m := 12668863911) (s := s) (x := x) ?_ ?_; all_goals first | (intro hx; clear_value x) | subst x)
    | (extract_lets +onlyGivenNames v; subst v)
    | split

theorem State.powerEdge_keeps (s : State) (p : Fin 2) : KM 3003645952 s (State.powerEdge s p) := by
  have hx : KM 3003645952 s s := KM.refl
  unfold State.powerEdge
  repeat' first
    | with_reducible assumption
    | (show _ ||| _ = _; decide)
    | with_reducible apply KM.app (g := State.modPm_keeps ..)
    | with_reducible apply KM.app (g := State.raise_keeps ..)
    | (extract_lets +onlyGivenNames x; refine KM.let_ (m := 3003645952) (s := s) (x := x) ?_ ?_; all_goals first | (intro hx; clear_value x) | subst x)
    | (extract_lets +onlyGivenNames v; subst v)
    | split

theorem State.countUplinks_keeps (s : State) : KM 32 s (State.countUplinks s) := by
  have hx : KM 32 s s := KM.refl
  unfold State.countUplinks
  repeat' first
    | with_reducible assumption
    | (show _ ||| _ = _; decide)
    | (extract_lets +onlyGivenNames x; refine KM.let_ (m := 32) (s := s) (x := x) ?_ ?_; all_goals first | (intro hx; clear_value x) | subst x)
    | (extract_lets +onlyGivenNames v; subst v)
    | ((with_reducible apply KM.mk_); intro p hp; cases p <;> first | exact absurd hp (by decide) | exact hx.get _ hp | rfl)

theorem State.linksTick_keeps (s : State) : KM 47042893728 s (State.linksTick s) := by
  have hx : KM 47042893728 s s := KM.refl
  unfold State.linksTick
  repeat' first
    | with_reducible assumption
    | intro hx
    | (show _ ||| _ = _; decide)
    | with_reducible apply KM.app (g := State.linkLost_keeps ..)
    | with_reducible apply KM.each
    | split

theorem State.axisEdge_keeps (s : State) (m : Axis) : KM 65536 s (State.axisEdge s m) := by
  have hx : KM 65536 s s := KM.refl
  unfold State.axisEdge
  repeat' first
    | with_reducible assumption
    | (show _ ||| _ = _; decide)
    | with_reducible apply KM.app (g := State.modAxMod_keeps ..)
    | (extract_lets +onlyGivenNames x; refine KM.let_ (m := 65536) (s := s) (x := x) ?_ ?_; all_goals first | (intro hx; clear_value x) | subst x)
    | (extract_lets +onlyGivenNames v; subst v)
    | split

theorem State.edge_keeps (s : State) : KM 3005153280 s (State.edge s) := by
  have hx : KM 3005153280 s s := KM.refl
  unfold State.edge
  repeat' first
    | with_reducible assumption
    | intro hx
    | (show _ ||| _ = _; decide)
    | with_reducible apply KM.app (g := State.powerEdge_keeps ..)
    | with_reducible apply KM.app (g := State.loadEdge_keeps ..)
    | with_reducible apply KM.each
    | with_reducible apply KM.app (g := State.energyEdge_keeps ..)
    | with_reducible apply KM.app (g := State.axisEdge_keeps ..)
    | with_reducible apply KM.app (g := State.fieldEdge_keeps ..)
    | (extract_lets +onlyGivenNames x; refine KM.let_ (m := 3005153280) (s := s) (x := x) ?_ ?_; all_goals first | (intro hx; clear_value x) | subst x)
    | (extract_lets +onlyGivenNames v; subst v)

theorem State.arbitrate_keeps (s : State) (ws : List Waiting) (vs : List Winner) : KM 3003121664 s (s.arbitrate ws vs).1 := by
  induction ws generalizing s vs with
  | nil => exact KM.refl
  | cons w ws ih =>
    unfold State.arbitrate
    extract_lets mine clash
    clear_value clash mine
    split
    · exact ih _ _
    · split
      · exact ih _ _
      · extract_lets g s1
        have h : KM 3003121664 s s1 := by
          unfold s1
          with_reducible apply KM.app (g := State.raise_keeps _ _ _)
          · with_reducible apply KM.app (g := State.fail_keeps _ _ _ _ _)
            · exact KM.refl
            · decide
          · decide
        exact KM.app h (ih _ _) (by decide)

theorem State.doDoorArg_keeps (s : State) (r : Req) (d : ℕ) (op : DoorOp) : KM 11594219776 s (State.doDoorArg s r d op) := by
  have hx : KM 11594219776 s s := KM.refl
  unfold State.doDoorArg
  repeat' first
    | with_reducible assumption
    | (show _ ||| _ = _; decide)
    | with_reducible apply KM.app (g := State.doDoor_keeps ..)
    | with_reducible apply KM.app (g := State.fail_keeps ..)
    | split

theorem State.runOp_keeps (s : State) (r : Req) (x2 : Op) : KM 962072663996 s (State.runOp s r x2) := by
  have hx : KM 962072663996 s s := KM.refl
  unfold State.runOp
  repeat' first
    | with_reducible assumption
    | (show _ ||| _ = _; decide)
    | with_reducible apply KM.app (g := State.doJournalRetain_keeps ..)
    | with_reducible apply KM.app (g := State.doTimeSet_keeps ..)
    | with_reducible apply KM.app (g := State.doUpdateVerify_keeps ..)
    | with_reducible apply KM.app (g := State.doCoreHandover_keeps ..)
    | with_reducible apply KM.app (g := State.doCanRxRead_keeps ..)
    | with_reducible apply KM.app (g := State.doParamWrite_keeps ..)
    | with_reducible apply KM.app (g := State.doCanFilterSet_keeps ..)
    | with_reducible apply KM.app (g := State.doParamSetLoad_keeps ..)
    | with_reducible apply KM.app (g := State.doParamSetRead_keeps ..)
    | with_reducible apply KM.app (g := State.doUpdateBegin_keeps ..)
    | with_reducible apply KM.app (g := State.doSessionChallenge_keeps ..)
    | with_reducible apply KM.app (g := State.doKeyProvision_keeps ..)
    | with_reducible apply KM.app (g := State.doDoorStatus_keeps ..)
    | with_reducible apply KM.app (g := State.doFioSet_keeps ..)
    | with_reducible apply KM.app (g := State.doParamRead_keeps ..)
    | with_reducible apply KM.app (g := State.doCanStatus_keeps ..)
    | with_reducible apply KM.app (g := State.doNop_keeps ..)
    | with_reducible apply KM.app (g := State.doCanRxAck_keeps ..)
    | with_reducible apply KM.app (g := State.doJournalRelease_keeps ..)
    | with_reducible apply KM.app (g := State.doAxisSetPosition_keeps ..)
    | with_reducible apply KM.app (g := State.doSchedCancel_keeps ..)
    | with_reducible apply KM.app (g := State.doUpdateConfirm_keeps ..)
    | with_reducible apply KM.app (g := State.doJournalRead_keeps ..)
    | with_reducible apply KM.app (g := State.doCanTxAbort_keeps ..)
    | with_reducible apply KM.app (g := State.doJournalStatus_keeps ..)
    | with_reducible apply KM.app (g := State.doIoRead_keeps ..)
    | with_reducible apply KM.app (g := State.doClaim_keeps ..)
    | with_reducible apply KM.app (g := State.doRestWindow_keeps ..)
    | with_reducible apply KM.app (g := State.doUpdateActivate_keeps ..)
    | with_reducible apply KM.app (g := State.doUpdateStatus_keeps ..)
    | with_reducible apply KM.app (g := State.doReplay_keeps ..)
    | with_reducible apply KM.app (g := State.doUpdateChunk_keeps ..)
    | with_reducible apply KM.app (g := State.doTimeRead_keeps ..)
    | with_reducible apply KM.app (g := State.doSessionClose_keeps ..)
    | with_reducible apply KM.app (g := State.doCanTx_keeps ..)
    | with_reducible apply KM.app (g := State.doSegTableLoad_keeps ..)
    | with_reducible apply KM.app (g := State.doLoadRearm_keeps ..)
    | with_reducible apply KM.app (g := State.doHeartbeat_keeps ..)
    | with_reducible apply KM.app (g := State.doReleaseHold_keeps ..)
    | with_reducible apply KM.app (g := State.doMstepTableLoad_keeps ..)
    | with_reducible apply KM.app (g := State.doAxisHalt_keeps ..)
    | with_reducible apply KM.app (g := State.doAxisReference_keeps ..)
    | with_reducible apply KM.app (g := State.doUpdateAbort_keeps ..)
    | with_reducible apply KM.app (g := State.releaseClaims_keeps ..)
    | with_reducible apply KM.app (g := State.doStepRequest_keeps ..)
    | with_reducible apply KM.app (g := State.doLoadSet_keeps ..)
    | with_reducible apply KM.app (g := State.doSessionOpen_keeps ..)
    | with_reducible apply KM.app (g := State.doServiceDrop_keeps ..)
    | with_reducible apply KM.app (g := State.doJournalNote_keeps ..)
    | with_reducible apply KM.app (g := State.doDoorArg_keeps ..)
    | with_reducible apply KM.app (g := State.doAxisMove_keeps ..)
    | with_reducible apply KM.app (g := State.doCanRecover_keeps ..)
    | with_reducible apply KM.app (g := State.doWait_keeps ..)
    | with_reducible apply KM.app (g := State.fail_keeps ..)
    | with_reducible apply KM.app (g := State.doDoorObstacle_keeps ..)
    | split

theorem State.refusedNowBy_keeps (s : State) (w : Waiting) :
    ∀ t, s.refusedNowBy w = some t → KM 962072663996 s t := by
  intro t h
  have hf : ∀ r oc st d, KM 962072663996 s (s.fail r oc st d) := fun _ _ _ _ => KM.app KM.refl (State.fail_keeps _ _ _ _ _) (by decide)
  have hr : KM 962072663996 s (s.runOp w.req w.op) := KM.app KM.refl (State.runOp_keeps _ _ _) (by decide)
  unfold State.refusedNowBy at h
  split at h
  · split at h
    · injection h with h; subst h; exact hf _ _ _ _
    · rw [Option.map_eq_some_iff] at h
      obtain ⟨x, -, hx⟩ := h
      subst hx; exact hf _ _ _ _
  · extract_lets t' at h
    change KM 962072663996 s t' at hr
    clear_value t'
    split at h
    · split at h
      · simp at h
      · injection h with h; subst h; exact hr
    · simp at h

theorem State.refuseFirst_keeps (s : State) (ws : List Waiting) : KM 962072663996 s (s.refuseFirst ws).1 := by
  induction ws generalizing s with
  | nil => exact KM.refl
  | cons w ws ih =>
    unfold State.refuseFirst
    split
    · next t h => exact KM.app (State.refusedNowBy_keeps s w t h) (ih t) (by decide)
    · exact ih s

theorem State.safetyFirst_keeps (s : State) (r : Req) : KM 3007184896 s (State.safetyFirst s r) := by
  have hx : KM 3007184896 s s := KM.refl
  unfold State.safetyFirst
  repeat' first
    | with_reducible assumption
    | (show _ ||| _ = _; decide)
    | with_reducible apply KM.app (g := State.abortWindow_keeps ..)
    | with_reducible apply KM.app (g := State.abortEntry_keeps ..)
    | with_reducible apply KM.app (g := State.modEnergy_keeps ..)
    | with_reducible apply KM.app (g := State.releaseHold_keeps ..)
    | (extract_lets +onlyGivenNames x; refine KM.let_ (m := 3007184896) (s := s) (x := x) ?_ ?_; all_goals first | (intro hx; clear_value x) | subst x)
    | (extract_lets +onlyGivenNames v; subst v)
    | split

theorem State.mergeInto_keeps (s t : State) (w : Winner) : KM 3003416576 t (s.mergeInto t w) := by
  unfold State.mergeInto
  split
  · exact KM.refl
  · split
    · exact KM.app KM.refl (State.completeAll_keeps _ _ _ _ _ _) (by decide)
    · extract_lets join
      have h : ∀ a, KM 3003416576 t (match asFin 4 a with
          | some a => t.modAxis a fun x => { x with cmd := x.cmd.map fun c => { c with merged := join c.merged } }
          | none => t) := by
        intro a
        split
        · exact KM.app KM.refl (State.modAxis_keeps _ _ _) (by decide)
        · exact KM.refl
      split
      · exact h _
      · exact h _
      · exact h _
      · exact h _
      · exact KM.app KM.refl (State.modLoads_keeps _ _) (by decide)
      · exact KM.app KM.refl (State.modLoads_keeps _ _) (by decide)
      · exact KM.refl

theorem State.runWinner_keeps (s : State) (admits : List (OpenAsk × Admit)) (w : Winner) : KM 962072663996 s (State.runWinner s admits w) := by
  have hx : KM 962072663996 s s := KM.refl
  unfold State.runWinner
  repeat' first
    | with_reducible assumption
    | (show _ ||| _ = _; decide)
    | with_reducible apply KM.app (g := State.runOp_keeps ..)
    | with_reducible apply KM.app (g := State.mergeInto_keeps ..)
    | with_reducible apply KM.app (g := State.runDoorOp_keeps ..)
    | (extract_lets +onlyGivenNames x; refine KM.let_ (m := 962072663996) (s := s) (x := x) ?_ ?_; all_goals first | (intro hx; clear_value x) | subst x)
    | (extract_lets +onlyGivenNames v; subst v)
    | split

theorem State.resolve_keeps (s : State) : KM 962072663996 s (State.resolve s) := by
  have hx : KM 962072663996 s s := KM.refl
  unfold State.resolve
  repeat' first
    | with_reducible assumption
    | intro hx
    | ((with_reducible apply Lit.mk); intro p hp; first | (cases p <;> first | exact absurd hp (by decide) | exact rfl) | (split <;> cases p <;> first | exact absurd hp (by decide) | exact rfl) | (split <;> split <;> cases p <;> first | exact absurd hp (by decide) | exact rfl))
    | (show _ ||| _ = _; decide)
    | with_reducible apply KM.app (g := State.refuseFirst_keeps ..)
    | with_reducible apply KM.modDoors
    | with_reducible apply KM.each
    | with_reducible apply KM.app (g := State.arbitrate_keeps ..)
    | with_reducible apply KM.app (g := State.modEnergy_keeps ..)
    | with_reducible apply KM.app (g := State.safetyFirst_keeps ..)
    | with_reducible apply KM.app (g := State.runWinner_keeps ..)
    | (extract_lets +onlyGivenNames x; refine KM.let_ (m := 962072663996) (s := s) (x := x) ?_ ?_; all_goals first | (intro hx; clear_value x) | subst x)
    | (extract_lets +onlyGivenNames v; subst v)
    | split

theorem State.queueReq_keeps (s : State) (r : Req) (op : Op) : KM 1024 s (State.queueReq s r op) := by
  have hx : KM 1024 s s := KM.refl
  unfold State.queueReq
  repeat' first
    | with_reducible assumption
    | intro hx
    | ((with_reducible apply Lit.mk); intro p hp; cases p <;> first | exact absurd hp (by decide) | exact rfl)
    | (show _ ||| _ = _; decide)
    | with_reducible apply KM.modDoors

theorem State.doorAlone_keeps (s : State) (r : Req) (d : Doorway) (op : DoorOp) (o : Op) : KM 11597235456 s (State.doorAlone s r d op o) := by
  have hx : KM 11597235456 s s := KM.refl
  unfold State.doorAlone
  repeat' first
    | with_reducible assumption
    | (show _ ||| _ = _; decide)
    | with_reducible apply KM.app (g := State.doDoor_keeps ..)
    | with_reducible apply KM.app (g := State.queueReq_keeps ..)
    | with_reducible apply KM.app (g := State.safetyFirst_keeps ..)
    | (extract_lets +onlyGivenNames x; refine KM.let_ (m := 11597235456) (s := s) (x := x) ?_ ?_; all_goals first | (intro hx; clear_value x) | subst x)
    | (extract_lets +onlyGivenNames v; subst v)
    | split

theorem State.passOn_keeps (s : State) (p : PortId) (r : Req) (op : Op) (b : List Byte) : KM 962072663996 s (State.passOn s p r op b) := by
  have hx : KM 962072663996 s s := KM.refl
  unfold State.passOn
  repeat' first
    | with_reducible assumption
    | (show _ ||| _ = _; decide)
    | with_reducible apply KM.app (g := State.runOp_keeps ..)
    | with_reducible apply KM.app (g := State.queueReq_keeps ..)
    | with_reducible apply KM.app (g := State.raise_keeps ..)
    | with_reducible apply KM.app (g := State.fail_keeps ..)
    | with_reducible apply KM.app (g := State.modTime_keeps ..)
    | (extract_lets +onlyGivenNames x; refine KM.let_ (m := 962072663996) (s := s) (x := x) ?_ ?_; all_goals first | (intro hx; clear_value x) | subst x)
    | (extract_lets +onlyGivenNames v; subst v)
    | split

theorem State.takeDescriptor_keeps (s : State) (p : PortId) (q : Fin 16) (core : CoreId) (b : List Byte) (buf : Option (List Byte)) (stamp : Option (BitVec 48)) : KM 962072663996 s (State.takeDescriptor s p q core b buf stamp) := by
  have hx : KM 962072663996 s s := KM.refl
  unfold State.takeDescriptor
  repeat' first
    | with_reducible assumption
    | (show _ ||| _ = _; decide)
    | with_reducible apply KM.app (g := State.modPort_keeps ..)
    | with_reducible apply KM.app (g := State.raise_keeps ..)
    | with_reducible apply KM.app (g := State.passOn_keeps ..)
    | with_reducible apply KM.app (g := State.fail_keeps ..)
    | (extract_lets +onlyGivenNames x; refine KM.let_ (m := 962072663996) (s := s) (x := x) ?_ ?_; all_goals first | (intro hx; clear_value x) | subst x)
    | (extract_lets +onlyGivenNames v; subst v)
    | split

theorem State.countFetch_keeps (s : State) (p : PortId) : KM 1024 s (State.countFetch s p) := by
  have hx : KM 1024 s s := KM.refl
  unfold State.countFetch
  repeat' first
    | with_reducible assumption
    | intro hx
    | ((with_reducible apply Lit.mk); intro p hp; cases p <;> first | exact absurd hp (by decide) | exact rfl)
    | (show _ ||| _ = _; decide)
    | with_reducible apply KM.modDoors

theorem State.stopFetching_keeps (s : State) (p : PortId) (stop : Bool) : KM 3003121664 s (State.stopFetching s p stop) := by
  have hx : KM 3003121664 s s := KM.refl
  unfold State.stopFetching
  repeat' first
    | with_reducible assumption
    | (show _ ||| _ = _; decide)
    | with_reducible apply KM.app (g := State.modPort_keeps ..)
    | with_reducible apply KM.app (g := State.noteLayby_keeps ..)

theorem State.p4Fetch_keeps (s : State) : KM 962072663996 s (State.p4Fetch s) := by
  have hx : KM 962072663996 s s := KM.refl
  unfold State.p4Fetch
  repeat' first
    | with_reducible assumption
    | intro hx
    | ((with_reducible apply Lit.mk); intro p hp; first | (cases p <;> first | exact absurd hp (by decide) | exact rfl) | (split <;> cases p <;> first | exact absurd hp (by decide) | exact rfl) | (split <;> split <;> cases p <;> first | exact absurd hp (by decide) | exact rfl))
    | (show _ ||| _ = _; decide)
    | with_reducible apply KM.app (g := State.modSession_keeps ..)
    | with_reducible apply KM.app (g := State.takeDescriptor_keeps ..)
    | with_reducible apply KM.app (g := State.countFetch_keeps ..)
    | with_reducible apply KM.modUpdate
    | with_reducible apply KM.app (g := State.stopFetching_keeps ..)
    | (extract_lets +onlyGivenNames x; refine KM.let_ (m := 962072663996) (s := s) (x := x) ?_ ?_; all_goals first | (intro hx; clear_value x) | subst x)
    | (extract_lets +onlyGivenNames v; subst v)
    | split

theorem State.doorbellWrite_keeps (s : State) (p : HostPort) (o : ℕ) (v : ℕ) : KM 3003121664 s (State.doorbellWrite s p o v) := by
  have hx : KM 3003121664 s s := KM.refl
  unfold State.doorbellWrite
  repeat' first
    | with_reducible assumption
    | (show _ ||| _ = _; decide)
    | with_reducible apply KM.app (g := State.takeEvqHead_keeps ..)
    | with_reducible apply KM.app (g := State.takeCqHead_keeps ..)
    | with_reducible apply KM.app (g := State.takeTail_keeps ..)
    | split

theorem State.p2Fetch_keeps (s : State) : KM 962072663996 s (State.p2Fetch s) := by
  have hx : KM 962072663996 s s := KM.refl
  unfold State.p2Fetch
  repeat' first
    | with_reducible assumption
    | intro hx
    | ((with_reducible apply Lit.mk); intro p hp; first | (cases p <;> first | exact absurd hp (by decide) | exact rfl) | (split <;> cases p <;> first | exact absurd hp (by decide) | exact rfl) | (split <;> split <;> cases p <;> first | exact absurd hp (by decide) | exact rfl))
    | (show _ ||| _ = _; decide)
    | with_reducible apply KM.modCan
    | with_reducible apply KM.app (g := State.takeDescriptor_keeps ..)
    | with_reducible apply KM.app (g := State.countFetch_keeps ..)
    | with_reducible apply KM.app (g := State.stopFetching_keeps ..)
    | split

theorem State.hostFetch_keeps (s : State) (p : PortId) (q : Fin 16) (desc : Option (List Byte)) (buf : Option (List Byte)) : KM 962072663996 s (State.hostFetch s p q desc buf) := by
  have hx : KM 962072663996 s s := KM.refl
  unfold State.hostFetch
  repeat' first
    | with_reducible assumption
    | (show _ ||| _ = _; decide)
    | with_reducible apply KM.app (g := State.modPort_keeps ..)
    | with_reducible apply KM.app (g := State.takeDescriptor_keeps ..)
    | with_reducible apply KM.app (g := State.countFetch_keeps ..)
    | with_reducible apply KM.app (g := State.raise_keeps ..)
    | with_reducible apply KM.app (g := State.stopFetching_keeps ..)
    | (extract_lets +onlyGivenNames x; refine KM.let_ (m := 962072663996) (s := s) (x := x) ?_ ?_; all_goals first | (intro hx; clear_value x) | subst x)
    | (extract_lets +onlyGivenNames v; subst v)
    | split

theorem State.ownFetches_keeps (s : State) : KM 962072663996 s (State.ownFetches s) := by
  have hx : KM 962072663996 s s := KM.refl
  unfold State.ownFetches
  repeat' first
    | with_reducible assumption
    | intro hx
    | (show _ ||| _ = _; decide)
    | with_reducible apply KM.app (g := State.p4Fetch_keeps ..)
    | with_reducible apply KM.app (g := State.p2Fetch_keeps ..)
    | with_reducible apply KM.each
    | (extract_lets +onlyGivenNames x; refine KM.let_ (m := 962072663996) (s := s) (x := x) ?_ ?_; all_goals first | (intro hx; clear_value x) | subst x)
    | (extract_lets +onlyGivenNames v; subst v)

theorem State.returnTick_keeps (s : State) : KM 68719476710 s (State.returnTick s) := by
  have hx : KM 68719476710 s s := KM.refl
  unfold State.returnTick
  repeat' first
    | with_reducible assumption
    | (show _ ||| _ = _; decide)
    | with_reducible apply KM.app (g := State.wakeRow_keeps ..)
    | split

theorem State.noteReadings_keeps (s : State) (d : Doorway) (leaf : Bool) (m : Axis) : KM 8589934592 s (State.noteReadings s d leaf m) := by
  have hx : KM 8589934592 s s := KM.refl
  unfold State.noteReadings
  repeat' first
    | with_reducible assumption
    | (show _ ||| _ = _; decide)
    | with_reducible apply KM.app (g := State.noteCycle_keeps ..)
    | (extract_lets +onlyGivenNames x; refine KM.let_ (m := 8589934592) (s := s) (x := x) ?_ ?_; all_goals first | (intro hx; clear_value x) | subst x)
    | (extract_lets +onlyGivenNames v; subst v)
    | split

theorem State.noteAxis_keeps (s : State) (before : State) (d : Doorway) (a : Axis) : KM 8589967360 s (State.noteAxis s before d a) := by
  have hx : KM 8589967360 s s := KM.refl
  unfold State.noteAxis
  repeat' first
    | with_reducible assumption
    | intro hx
    | (show _ ||| _ = _; decide)
    | with_reducible apply KM.app (g := State.noteReadings_keeps ..)
    | with_reducible apply KM.app (g := State.noteCycle_keeps ..)
    | with_reducible apply KM.each
    | with_reducible apply KM.app (g := State.modAxis_keeps ..)
    | (extract_lets +onlyGivenNames x; refine KM.let_ (m := 8589967360) (s := s) (x := x) ?_ ?_; all_goals first | (intro hx; clear_value x) | subst x)
    | (extract_lets +onlyGivenNames v; subst v)
    | split

theorem State.doorNotes_keeps (s : State) (before : State) (d : Doorway) : KM 11593089280 s (State.doorNotes s before d) := by
  have hx : KM 11593089280 s s := KM.refl
  unfold State.doorNotes
  repeat' first
    | with_reducible assumption
    | intro hx
    | (show _ ||| _ = _; decide)
    | with_reducible apply KM.app (g := State.noteCycle_keeps ..)
    | with_reducible apply KM.app (g := State.noteAxis_keeps ..)
    | with_reducible apply KM.each
    | with_reducible apply KM.app (g := State.milestone_keeps ..)
    | with_reducible apply KM.app (g := State.modDoor_keeps ..)
    | (extract_lets +onlyGivenNames x; refine KM.let_ (m := 11593089280) (s := s) (x := x) ?_ ?_; all_goals first | (intro hx; clear_value x) | subst x)
    | (extract_lets +onlyGivenNames v; subst v)
    | split

theorem State.axisReadings_keeps (s : State) (a : Axis) : KM 11593171200 s (State.axisReadings s a) := by
  have hx : KM 11593171200 s s := KM.refl
  unfold State.axisReadings
  repeat' first
    | with_reducible assumption
    | (show _ ||| _ = _; decide)
    | with_reducible apply KM.app (g := State.followTick_keeps ..)
    | with_reducible apply KM.app (g := State.compareLanes_keeps ..)
    | with_reducible apply KM.app (g := State.refTick_keeps ..)
    | with_reducible apply KM.app (g := State.laneTick_keeps ..)
    | with_reducible apply KM.app (g := State.limitTick_keeps ..)

theorem State.passMachines_keeps (s : State) : KM 962072663996 s (State.passMachines s) := by
  have hx : KM 962072663996 s s := KM.refl
  unfold State.passMachines
  repeat' first
    | with_reducible assumption
    | intro hx
    | (show _ ||| _ = _; decide)
    | with_reducible apply KM.app (g := State.axisReadings_keeps ..)
    | with_reducible apply KM.app (g := State.runDoor_keeps ..)
    | with_reducible apply KM.each
    | with_reducible apply KM.app (g := State.obstacleTick_keeps ..)
    | with_reducible apply KM.app (g := State.ownFetches_keeps ..)
    | with_reducible apply KM.app (g := State.resolve_keeps ..)
    | (extract_lets +onlyGivenNames x; refine KM.let_ (m := 962072663996) (s := s) (x := x) ?_ ?_; all_goals first | (intro hx; clear_value x) | subst x)
    | (extract_lets +onlyGivenNames v; subst v)

theorem State.doorTimes_keeps (s : State) (d : Doorway) : KM 3003123456 s (State.doorTimes s d) := by
  have hx : KM 3003123456 s s := KM.refl
  unfold State.doorTimes
  repeat' first
    | with_reducible assumption
    | (show _ ||| _ = _; decide)
    | with_reducible apply KM.app (g := State.ask_keeps ..)
    | with_reducible apply KM.app (g := State.tlTakes_keeps ..)
    | with_reducible apply KM.app (g := State.modDoor_keeps ..)
    | (extract_lets +onlyGivenNames x; refine KM.let_ (m := 3003123456) (s := s) (x := x) ?_ ?_; all_goals first | (intro hx; clear_value x) | subst x)
    | (extract_lets +onlyGivenNames v; subst v)
    | split

theorem State.doorEdges_keeps (s : State) (d : Doorway) : KM 11593172224 s (State.doorEdges s d) := by
  have hx : KM 11593172224 s s := KM.refl
  unfold State.doorEdges
  repeat' first
    | with_reducible assumption
    | (show _ ||| _ = _; decide)
    | with_reducible apply KM.app (g := State.releaseEdge_keeps ..)
    | with_reducible apply KM.app (g := State.keyTurnedOn_keeps ..)
    | with_reducible apply KM.app (g := State.handleTick_keeps ..)
    | with_reducible apply KM.app (g := State.zsLost_keeps ..)
    | with_reducible apply KM.app (g := State.modDoor_keeps ..)
    | with_reducible apply KM.app (g := State.buttonPressed_keeps ..)
    | with_reducible apply KM.app (g := State.releaseLost_keeps ..)
    | with_reducible apply KM.app (g := State.keyTurnedOff_keeps ..)
    | (extract_lets +onlyGivenNames x; refine KM.let_ (m := 11593172224) (s := s) (x := x) ?_ ?_; all_goals first | (intro hx; clear_value x) | subst x)
    | (extract_lets +onlyGivenNames v; subst v)
    | split

theorem State.inputTick_keeps (s : State) : KM 11593182976 s (State.inputTick s) := by
  have hx : KM 11593182976 s s := KM.refl
  unfold State.inputTick
  repeat' first
    | with_reducible assumption
    | intro hx
    | ((with_reducible apply Lit.mk); intro p hp; first | (cases p <;> first | exact absurd hp (by decide) | exact rfl) | (split <;> cases p <;> first | exact absurd hp (by decide) | exact rfl) | (split <;> split <;> cases p <;> first | exact absurd hp (by decide) | exact rfl))
    | (show _ ||| _ = _; decide)
    | with_reducible apply KM.app (g := State.doorTimes_keeps ..)
    | with_reducible apply KM.modDoors
    | with_reducible apply KM.app (g := State.doorEdges_keeps ..)
    | with_reducible apply KM.app (g := State.pairTick_keeps ..)
    | with_reducible apply KM.each
    | with_reducible apply KM.app (g := State.closeTlEdge_keeps ..)
    | with_reducible apply KM.app (g := State.evacEdge_keeps ..)
    | (extract_lets +onlyGivenNames x; refine KM.let_ (m := 11593182976) (s := s) (x := x) ?_ ?_; all_goals first | (intro hx; clear_value x) | subst x)
    | (extract_lets +onlyGivenNames v; subst v)
    | split

theorem State.pumpTick_keeps (s : State) : KM 4194304 s (State.pumpTick s) := by
  have hx : KM 4194304 s s := KM.refl
  unfold State.pumpTick
  repeat' first
    | with_reducible assumption
    | intro hx
    | (show _ ||| _ = _; decide)
    | with_reducible apply KM.app (g := State.modCore_keeps ..)
    | with_reducible apply KM.each
    | split

theorem State.entryTick_keeps (s : State) : KM 50326901536 s (State.entryTick s) := by
  have hx : KM 50326901536 s s := KM.refl
  unfold State.entryTick
  repeat' first
    | with_reducible assumption
    | (show _ ||| _ = _; decide)
    | with_reducible apply KM.app (g := State.endEntryStep_keeps ..)
    | split

theorem State.passUnits_keeps (s : State) : KM 120057730979 s (State.passUnits s) := by
  have hx : KM 120057730979 s s := KM.refl
  unfold State.passUnits
  repeat' first
    | with_reducible assumption
    | (show _ ||| _ = _; decide)
    | with_reducible apply KM.app (g := State.loadCoreTick_keeps ..)
    | with_reducible apply KM.app (g := State.energyTick_keeps ..)
    | with_reducible apply KM.app (g := State.lossActionTick_keeps ..)
    | with_reducible apply KM.app (g := State.fieldCoreTick_keeps ..)
    | with_reducible apply KM.app (g := State.disagreeTick_keeps ..)
    | with_reducible apply KM.app (g := State.lossTick_keeps ..)
    | with_reducible apply KM.app (g := State.supplyCommands_keeps ..)
    | with_reducible apply KM.app (g := State.loopTick_keeps ..)
    | (extract_lets +onlyGivenNames x; refine KM.let_ (m := 120057730979) (s := s) (x := x) ?_ ?_; all_goals first | (intro hx; clear_value x) | subst x)
    | (extract_lets +onlyGivenNames v; subst v)

theorem State.settleTick_keeps (s : State) (a : Axis) : KM 3003154432 s (State.settleTick s a) := by
  have hx : KM 3003154432 s s := KM.refl
  unfold State.settleTick
  repeat' first
    | with_reducible assumption
    | (show _ ||| _ = _; decide)
    | with_reducible apply KM.app (g := State.standstill_keeps ..)
    | split

theorem State.passMotion_keeps (s : State) : KM 11594219776 s (State.passMotion s) := by
  have hx : KM 11594219776 s s := KM.refl
  unfold State.passMotion
  repeat' first
    | with_reducible assumption
    | intro hx
    | (show _ ||| _ = _; decide)
    | with_reducible apply KM.app (g := State.settleTick_keeps ..)
    | with_reducible apply KM.app (g := State.abortTick_keeps ..)
    | with_reducible apply KM.each
    | with_reducible apply KM.app (g := State.doorNotes_keeps ..)
    | with_reducible apply KM.app (g := State.motionTick_keeps ..)
    | (extract_lets +onlyGivenNames x; refine KM.let_ (m := 11594219776) (s := s) (x := x) ?_ ?_; all_goals first | (intro hx; clear_value x) | subst x)
    | (extract_lets +onlyGivenNames v; subst v)

theorem State.secondTick_keeps (s : State) : KM 11660165120 s (State.secondTick s) := by
  have hx : KM 11660165120 s s := KM.refl
  unfold State.secondTick
  repeat' first
    | with_reducible assumption
    | (show _ ||| _ = _; decide)
    | with_reducible apply KM.app (g := State.errorSecond_keeps ..)
    | with_reducible apply KM.app (g := State.notesSecond_keeps ..)
    | split

theorem State.holdTick_keeps (s : State) : KM 3006136320 s (State.holdTick s) := by
  have hx : KM 3006136320 s s := KM.refl
  unfold State.holdTick
  repeat' first
    | with_reducible assumption
    | (show _ ||| _ = _; decide)
    | with_reducible apply KM.app (g := State.releaseHold_keeps ..)
    | split

theorem State.powerTick_keeps (s : State) : KM 137438953446 s (State.powerTick s) := by
  have hx : KM 137438953446 s s := KM.refl
  unfold State.powerTick
  repeat' first
    | with_reducible assumption
    | intro hx
    | (show _ ||| _ = _; decide)
    | with_reducible apply KM.app (g := State.returnTick_keeps ..)
    | with_reducible apply KM.each
    | with_reducible apply KM.app (g := State.tryEntry_keeps ..)
    | with_reducible apply KM.app (g := State.abortEntry_keeps ..)
    | with_reducible apply KM.app (g := State.tlIdleTick_keeps ..)
    | with_reducible apply KM.app (g := State.holdTick_keeps ..)
    | with_reducible apply KM.app (g := State.noteConsent_keeps ..)
    | with_reducible apply KM.app (g := State.consentGone_keeps ..)
    | with_reducible apply KM.app (g := State.entryTick_keeps ..)
    | (extract_lets +onlyGivenNames x; refine KM.let_ (m := 137438953446) (s := s) (x := x) ?_ ?_; all_goals first | (intro hx; clear_value x) | subst x)
    | (extract_lets +onlyGivenNames v; subst v)
    | split

theorem State.portTick_keeps (s : State) (p : PortId) : KM 3003121664 s (State.portTick s p) := by
  have hx : KM 3003121664 s s := KM.refl
  unfold State.portTick
  repeat' first
    | with_reducible assumption
    | (show _ ||| _ = _; decide)
    | with_reducible apply KM.app (g := State.modPort_keeps ..)
    | with_reducible apply KM.app (g := State.reportDropped_keeps ..)
    | with_reducible apply KM.app (g := State.drainLayby_keeps ..)

theorem State.clearTick_keeps (s : State) : KM 214272 s (State.clearTick s) := by
  have hx : KM 214272 s s := KM.refl
  unfold State.clearTick
  repeat' first
    | with_reducible assumption
    | (show _ ||| _ = _; decide)
    | (extract_lets +onlyGivenNames x; refine KM.let_ (m := 214272) (s := s) (x := x) ?_ ?_; all_goals first | (intro hx; clear_value x) | subst x)
    | (extract_lets +onlyGivenNames v; subst v)
    | ((with_reducible apply KM.mk_); intro p hp; cases p <;> first | exact absurd hp (by decide) | exact hx.get _ hp | rfl)

theorem State.endTick_keeps (s : State) : KM 1073956131 s (State.endTick s) := by
  have hx : KM 1073956131 s s := KM.refl
  unfold State.endTick
  repeat' first
    | with_reducible assumption
    | (show _ ||| _ = _; decide)
    | with_reducible apply KM.app (g := State.clearTick_keeps ..)
    | with_reducible apply KM.app (g := State.countUplinks_keeps ..)
    | with_reducible apply KM.app (g := State.pass_keeps ..)

theorem State.fieldConfigTick_keeps (s : State) (m : Fin 2) : KM 3003252896 s (State.fieldConfigTick s m) := by
  have hx : KM 3003252896 s s := KM.refl
  unfold State.fieldConfigTick
  repeat' first
    | with_reducible assumption
    | (show _ ||| _ = _; decide)
    | with_reducible apply KM.app (g := State.fieldMismatch_keeps ..)
    | with_reducible apply KM.app (g := State.modFieldMod_keeps ..)
    | (extract_lets +onlyGivenNames x; refine KM.let_ (m := 3003252896) (s := s) (x := x) ?_ ?_; all_goals first | (intro hx; clear_value x) | subst x)
    | (extract_lets +onlyGivenNames v; subst v)
    | split

theorem State.loadConfigTick_keeps (s : State) : KM 3003383968 s (State.loadConfigTick s) := by
  have hx : KM 3003383968 s s := KM.refl
  unfold State.loadConfigTick
  repeat' first
    | with_reducible assumption
    | (show _ ||| _ = _; decide)
    | with_reducible apply KM.app (g := State.modLoads_keeps ..)
    | with_reducible apply KM.app (g := State.loadMismatch_keeps ..)
    | (extract_lets +onlyGivenNames x; refine KM.let_ (m := 3003383968) (s := s) (x := x) ?_ ?_; all_goals first | (intro hx; clear_value x) | subst x)
    | (extract_lets +onlyGivenNames v; subst v)
    | split

theorem State.axConfigTick_keeps (s : State) (m : Axis) : KM 3003220384 s (State.axConfigTick s m) := by
  have hx : KM 3003220384 s s := KM.refl
  unfold State.axConfigTick
  repeat' first
    | with_reducible assumption
    | (show _ ||| _ = _; decide)
    | with_reducible apply KM.app (g := State.modAxMod_keeps ..)
    | with_reducible apply KM.app (g := State.axMismatch_keeps ..)
    | (extract_lets +onlyGivenNames x; refine KM.let_ (m := 3003220384) (s := s) (x := x) ?_ ?_; all_goals first | (intro hx; clear_value x) | subst x)
    | (extract_lets +onlyGivenNames v; subst v)
    | split

theorem State.configTick_keeps (s : State) : KM 3003613600 s (State.configTick s) := by
  have hx : KM 3003613600 s s := KM.refl
  unfold State.configTick
  repeat' first
    | with_reducible assumption
    | intro hx
    | (show _ ||| _ = _; decide)
    | with_reducible apply KM.app (g := State.loadConfigTick_keeps ..)
    | with_reducible apply KM.app (g := State.fieldConfigTick_keeps ..)
    | with_reducible apply KM.app (g := State.axConfigTick_keeps ..)
    | with_reducible apply KM.each

theorem State.passFrame_keeps (s : State) : KM 407820539808 s (State.passFrame s) := by
  have hx : KM 407820539808 s s := KM.refl
  unfold State.passFrame
  repeat' first
    | with_reducible assumption
    | (show _ ||| _ = _; decide)
    | with_reducible apply KM.app (g := State.removalTick_keeps ..)
    | with_reducible apply KM.app (g := State.updateTick_keeps ..)
    | with_reducible apply KM.app (g := State.sessionTick_keeps ..)
    | with_reducible apply KM.app (g := State.judgeTiers_keeps ..)
    | with_reducible apply KM.app (g := State.insertTick_keeps ..)
    | with_reducible apply KM.app (g := State.configTick_keeps ..)

theorem State.portsTick_keeps (s : State) : KM 3003121664 s (State.portsTick s) := by
  have hx : KM 3003121664 s s := KM.refl
  unfold State.portsTick
  repeat' first
    | with_reducible assumption
    | intro hx
    | (show _ ||| _ = _; decide)
    | with_reducible apply KM.app (g := State.portTick_keeps ..)
    | with_reducible apply KM.app (g := State.msixTick_keeps ..)
    | with_reducible apply KM.each

theorem State.servicePass_keeps (s : State) : KM 962072663996 s (State.servicePass s) := by
  have hx : KM 962072663996 s s := KM.refl
  unfold State.servicePass
  repeat' first
    | with_reducible assumption
    | (show _ ||| _ = _; decide)
    | with_reducible apply KM.app (g := State.swapWindow_keeps ..)
    | with_reducible apply KM.app (g := State.timeTick_keeps ..)
    | with_reducible apply KM.app (g := State.edge_keeps ..)
    | with_reducible apply KM.app (g := State.usbTick_keeps ..)
    | with_reducible apply KM.app (g := State.waitingTick_keeps ..)
    | with_reducible apply KM.app (g := State.sessionTick_keeps ..)
    | with_reducible apply KM.app (g := State.ownFetches_keeps ..)
    | with_reducible apply KM.app (g := State.portsTick_keeps ..)
    | with_reducible apply KM.app (g := State.resolve_keeps ..)
    | with_reducible apply KM.app (g := State.linksTick_keeps ..)
    | with_reducible apply KM.app (g := State.panelTick_keeps ..)
    | with_reducible apply KM.app (g := State.linkSecond_keeps ..)
    | with_reducible apply KM.app (g := State.journalTick_keeps ..)
    | (extract_lets +onlyGivenNames x; refine KM.let_ (m := 962072663996) (s := s) (x := x) ?_ ?_; all_goals first | (intro hx; clear_value x) | subst x)
    | (extract_lets +onlyGivenNames v; subst v)

theorem State.startPass_keeps (s : State) (k : WakeSt) : KM 68585234400 s (State.startPass s k) := by
  have hx : KM 68585234400 s s := KM.refl
  unfold State.startPass
  repeat' first
    | with_reducible assumption
    | (show _ ||| _ = _; decide)
    | with_reducible apply KM.app (g := State.swapWindow_keeps ..)
    | with_reducible apply KM.app (g := State.lampTick_keeps ..)
    | with_reducible apply KM.app (g := State.edge_keeps ..)
    | with_reducible apply KM.app (g := State.finishStart_keeps ..)
    | with_reducible apply KM.app (g := State.sessionTick_keeps ..)
    | with_reducible apply KM.app (g := State.linksTick_keeps ..)
    | with_reducible apply KM.app (g := State.insertTick_keeps ..)
    | with_reducible apply KM.app (g := State.linkSecond_keeps ..)
    | with_reducible apply KM.app (g := State.journalTick_keeps ..)
    | with_reducible apply KM.app (g := State.configTick_keeps ..)
    | (extract_lets +onlyGivenNames x; refine KM.let_ (m := 68585234400) (s := s) (x := x) ?_ ?_; all_goals first | (intro hx; clear_value x) | subst x)
    | (extract_lets +onlyGivenNames v; subst v)
    | split

theorem State.passOutputs_keeps (s : State) : KM 137438953446 s (State.passOutputs s) := by
  have hx : KM 137438953446 s s := KM.refl
  unfold State.passOutputs
  repeat' first
    | with_reducible assumption
    | (show _ ||| _ = _; decide)
    | with_reducible apply KM.app (g := State.powerTick_keeps ..)
    | with_reducible apply KM.app (g := State.swapWindow_keeps ..)
    | with_reducible apply KM.app (g := State.lampTick_keeps ..)
    | with_reducible apply KM.app (g := State.usbTick_keeps ..)
    | with_reducible apply KM.app (g := State.pumpTick_keeps ..)
    | with_reducible apply KM.app (g := State.secondTick_keeps ..)
    | with_reducible apply KM.app (g := State.waitingTick_keeps ..)
    | with_reducible apply KM.app (g := State.portsTick_keeps ..)
    | with_reducible apply KM.app (g := State.crossTick_keeps ..)
    | with_reducible apply KM.app (g := State.canTick_keeps ..)
    | with_reducible apply KM.app (g := State.handoverTick_keeps ..)
    | with_reducible apply KM.app (g := State.journalTick_keeps ..)
    | (extract_lets +onlyGivenNames x; refine KM.let_ (m := 137438953446) (s := s) (x := x) ?_ ?_; all_goals first | (intro hx; clear_value x) | subst x)
    | (extract_lets +onlyGivenNames v; subst v)

theorem State.passInputs_keeps (s : State) : KM 47043313572 s (State.passInputs s) := by
  have hx : KM 47043313572 s s := KM.refl
  unfold State.passInputs
  repeat' first
    | with_reducible assumption
    | (show _ ||| _ = _; decide)
    | with_reducible apply KM.app (g := State.timeTick_keeps ..)
    | with_reducible apply KM.app (g := State.edge_keeps ..)
    | with_reducible apply KM.app (g := State.pairStepTick_keeps ..)
    | with_reducible apply KM.app (g := State.linksTick_keeps ..)
    | with_reducible apply KM.app (g := State.panelTick_keeps ..)
    | with_reducible apply KM.app (g := State.inputTick_keeps ..)
    | with_reducible apply KM.app (g := State.linkSecond_keeps ..)

theorem State.runPass_keeps (s : State) : KM 962072674303 s (State.runPass s) := by
  have hx : KM 962072674303 s s := KM.refl
  unfold State.runPass
  repeat' first
    | with_reducible assumption
    | (show _ ||| _ = _; decide)
    | with_reducible apply KM.app (g := State.passFrame_keeps ..)
    | with_reducible apply KM.app (g := State.passOutputs_keeps ..)
    | with_reducible apply KM.app (g := State.passMotion_keeps ..)
    | with_reducible apply KM.app (g := State.passInputs_keeps ..)
    | with_reducible apply KM.app (g := State.passMachines_keeps ..)
    | with_reducible apply KM.app (g := State.passUnits_keeps ..)

theorem State.withFetchWord_keeps (s : State) (nbits : ℕ) (w : ℕ) : KM 137438953472 s (State.withFetchWord s nbits w) := by
  have hx : KM 137438953472 s s := KM.refl
  unfold State.withFetchWord
  repeat' first
    | with_reducible assumption
    | (show _ ||| _ = _; decide)
    | split
    | ((with_reducible apply KM.mk_); intro p hp; cases p <;> first | exact absurd hp (by decide) | exact hx.get _ hp | rfl)

end Sys2Proof.Machine
end

