-- ==== Sys2Proof/Laws/KeepsExec.lean ====
section
/-!
SUPPORT. What every command leaves alone: one lemma per meaning (see `Keeps`).
-/

set_option linter.all false

namespace Sys2Proof.Machine

theorem execEncDirection_keeps (a : Axis) (s : State) : KO 3003220224 s (execEncDirection a s) := by
  have hx : KM 3003220224 s s := KM.refl
  unfold execEncDirection
  repeat' first
    | with_reducible apply KO.next
    | with_reducible apply KO.fault
    | with_reducible assumption
    | (show _ ||| _ = _; decide)
    | with_reducible apply KM.app (g := State.encWrong_keeps ..)
    | split

theorem execOpMstepTableLoad_keeps (r : Req) (a : ℕ) (s : State) : KO 3003154432 s (execOpMstepTableLoad r a s) := by
  have hx : KM 3003154432 s s := KM.refl
  unfold execOpMstepTableLoad
  repeat' first
    | with_reducible apply KO.next
    | with_reducible apply KO.fault
    | with_reducible assumption
    | (show _ ||| _ = _; decide)
    | with_reducible apply KM.app (g := State.doMstepTableLoad_keeps ..)

theorem execOpAxisMove_keeps (r : Req) (a : ℕ) (pos : ℤ) (s : State) : KO 3004203008 s (execOpAxisMove r a pos s) := by
  have hx : KM 3004203008 s s := KM.refl
  unfold execOpAxisMove
  repeat' first
    | with_reducible apply KO.next
    | with_reducible apply KO.fault
    | with_reducible assumption
    | (show _ ||| _ = _; decide)
    | with_reducible apply KM.app (g := State.doAxisMove_keeps ..)

theorem execRefSearchFail_keeps (a : Axis) (s : State) : KO 3003220224 s (execRefSearchFail a s) := by
  have hx : KM 3003220224 s s := KM.refl
  unfold execRefSearchFail
  repeat' first
    | with_reducible apply KO.next
    | with_reducible apply KO.fault
    | with_reducible assumption
    | (show _ ||| _ = _; decide)
    | with_reducible apply KM.app (g := State.planEnd_keeps ..)
    | with_reducible apply KM.app (g := State.refFail_keeps ..)
    | with_reducible apply KM.app (g := State.modAxis_keeps ..)
    | split

theorem execOpSegTableLoad_keeps (r : Req) (a : ℕ) (number : ℕ) (count : ℕ) (x0 : ℤ) (s : State) : KO 3003154432 s (execOpSegTableLoad r a number count x0 s) := by
  have hx : KM 3003154432 s s := KM.refl
  unfold execOpSegTableLoad
  repeat' first
    | with_reducible apply KO.next
    | with_reducible apply KO.fault
    | with_reducible assumption
    | (show _ ||| _ = _; decide)
    | with_reducible apply KM.app (g := State.doSegTableLoad_keeps ..)

theorem execWakeRampEnd_keeps (a : Axis) (s : State) : KO 1073774595 s (execWakeRampEnd a s) := by
  have hx : KM 1073774595 s s := KM.refl
  unfold execWakeRampEnd
  repeat' first
    | with_reducible apply KO.next
    | with_reducible apply KO.fault
    | with_reducible assumption
    | (show _ ||| _ = _; decide)
    | with_reducible apply KM.app (g := State.modAxis_keeps ..)
    | with_reducible apply KM.app (g := State.until_keeps ..)
    | split

theorem execOpAxisReference_keeps (r : Req) (a : ℕ) (s : State) : KO 3004268544 s (execOpAxisReference r a s) := by
  have hx : KM 3004268544 s s := KM.refl
  unfold execOpAxisReference
  repeat' first
    | with_reducible apply KO.next
    | with_reducible apply KO.fault
    | with_reducible assumption
    | (show _ ||| _ = _; decide)
    | with_reducible apply KM.app (g := State.doAxisReference_keeps ..)

theorem execOpAxisHalt_keeps (r : Req) (a : ℕ) (s : State) : KO 3003220224 s (execOpAxisHalt r a s) := by
  have hx : KM 3003220224 s s := KM.refl
  unfold execOpAxisHalt
  repeat' first
    | with_reducible apply KO.next
    | with_reducible apply KO.fault
    | with_reducible assumption
    | (show _ ||| _ = _; decide)
    | with_reducible apply KM.app (g := State.doAxisHalt_keeps ..)

theorem execStandstillSettle_keeps (a : Axis) (s : State) : KO 4076896259 s (execStandstillSettle a s) := by
  have hx : KM 4076896259 s s := KM.refl
  unfold execStandstillSettle
  repeat' first
    | with_reducible apply KO.next
    | with_reducible apply KO.fault
    | with_reducible assumption
    | (show _ ||| _ = _; decide)
    | with_reducible apply KM.app (g := State.standstill_keeps ..)
    | with_reducible apply KM.app (g := State.until_keeps ..)
    | split

theorem execRefLatch_keeps (a : Axis) (latchCount : BitVec 32) (s : State) : KO 98304 s (execRefLatch a latchCount s) := by
  have hx : KM 98304 s s := KM.refl
  unfold execRefLatch
  repeat' first
    | with_reducible apply KO.next
    | with_reducible apply KO.fault
    | with_reducible assumption
    | (show _ ||| _ = _; decide)
    | with_reducible apply KM.app (g := State.refLatched_keeps ..)
    | with_reducible apply KM.app (g := State.modAxis_keeps ..)
    | (extract_lets +onlyGivenNames x; refine KM.let_ (m := 98304) (s := s) (x := x) ?_ ?_; all_goals first | (intro hx; clear_value x) | subst x)
    | (extract_lets +onlyGivenNames v; subst v)
    | split

theorem execMoveEnd_keeps (a : Axis) (s : State) : KO 4076962051 s (execMoveEnd a s) := by
  have hx : KM 4076962051 s s := KM.refl
  unfold execMoveEnd
  repeat' first
    | with_reducible apply KO.next
    | with_reducible apply KO.fault
    | with_reducible assumption
    | (show _ ||| _ = _; decide)
    | with_reducible apply KM.app (g := State.planEnd_keeps ..)
    | with_reducible apply KM.app (g := State.until_keeps ..)
    | split

theorem execRefLatchFail_keeps (a : Axis) (s : State) : KO 3003220224 s (execRefLatchFail a s) := by
  have hx : KM 3003220224 s s := KM.refl
  unfold execRefLatchFail
  repeat' first
    | with_reducible apply KO.next
    | with_reducible apply KO.fault
    | with_reducible assumption
    | (show _ ||| _ = _; decide)
    | with_reducible apply KM.app (g := State.planEnd_keeps ..)
    | with_reducible apply KM.app (g := State.refFail_keeps ..)
    | with_reducible apply KM.app (g := State.modAxis_keeps ..)
    | split

theorem execOpAxisSetPosition_keeps (r : Req) (a : ℕ) (pos : ℤ) (s : State) : KO 3003154432 s (execOpAxisSetPosition r a pos s) := by
  have hx : KM 3003154432 s s := KM.refl
  unfold execOpAxisSetPosition
  repeat' first
    | with_reducible apply KO.next
    | with_reducible apply KO.fault
    | with_reducible assumption
    | (show _ ||| _ = _; decide)
    | with_reducible apply KM.app (g := State.doAxisSetPosition_keeps ..)

theorem execRefSwitchMet_keeps (a : Axis) (s : State) : KO 3003219968 s (execRefSwitchMet a s) := by
  have hx : KM 3003219968 s s := KM.refl
  unfold execRefSwitchMet
  repeat' first
    | with_reducible apply KO.next
    | with_reducible apply KO.fault
    | with_reducible assumption
    | (show _ ||| _ = _; decide)
    | with_reducible apply KM.app (g := State.modAxis_keeps ..)
    | with_reducible apply KM.app (g := State.refMet_keeps ..)
    | (extract_lets +onlyGivenNames x; refine KM.let_ (m := 3003219968) (s := s) (x := x) ?_ ?_; all_goals first | (intro hx; clear_value x) | subst x)
    | (extract_lets +onlyGivenNames v; subst v)
    | split

theorem execRefLockTimeout_keeps (a : Axis) (s : State) : KO 4076962051 s (execRefLockTimeout a s) := by
  have hx : KM 4076962051 s s := KM.refl
  unfold execRefLockTimeout
  repeat' first
    | with_reducible apply KO.next
    | with_reducible apply KO.fault
    | with_reducible assumption
    | (show _ ||| _ = _; decide)
    | with_reducible apply KM.app (g := State.refFail_keeps ..)
    | with_reducible apply KM.app (g := State.until_keeps ..)
    | split

theorem execLimitReached_keeps (a : Axis) (b : Bool) (s : State) : KO 3003220224 s (execLimitReached a b s) := by
  have hx : KM 3003220224 s s := KM.refl
  unfold execLimitReached
  repeat' first
    | with_reducible apply KO.next
    | with_reducible apply KO.fault
    | with_reducible assumption
    | (show _ ||| _ = _; decide)
    | with_reducible apply KM.app (g := State.limitMet_keeps ..)

theorem execEmergencyHandle_keeps (d : Doorway) (s : State) : KO 11593089280 s (execEmergencyHandle d s) := by
  have hx : KM 11593089280 s s := KM.refl
  unfold execEmergencyHandle
  repeat' first
    | with_reducible apply KO.next
    | with_reducible apply KO.fault
    | with_reducible assumption
    | (show _ ||| _ = _; decide)
    | with_reducible apply KM.app (g := State.emergency_keeps ..)
    | (extract_lets +onlyGivenNames x; refine KM.let_ (m := 11593089280) (s := s) (x := x) ?_ ?_; all_goals first | (intro hx; clear_value x) | subst x)
    | (extract_lets +onlyGivenNames v; subst v)
    | split

theorem execUnlockTimeout_keeps (d : Doorway) (s : State) : KO 12666896643 s (execUnlockTimeout d s) := by
  have hx : KM 12666896643 s s := KM.refl
  unfold execUnlockTimeout
  repeat' first
    | with_reducible apply KO.next
    | with_reducible apply KO.fault
    | with_reducible assumption
    | intro hx
    | (show _ ||| _ = _; decide)
    | with_reducible apply State.leafTimer_keeps
    | with_reducible apply KM.app (g := State.leafTimeout_keeps ..)

theorem execSafe2Discrepancy_keeps (core : CoreId) (c : Chan) (s : State) : KO 4076865539 s (execSafe2Discrepancy core c s) := by
  have hx : KM 4076865539 s s := KM.refl
  unfold execSafe2Discrepancy
  repeat' first
    | with_reducible apply KO.next
    | with_reducible apply KO.fault
    | with_reducible assumption
    | (show _ ||| _ = _; decide)
    | with_reducible apply KM.app (g := State.pairDiscrepant_keeps ..)
    | with_reducible apply KM.app (g := State.until_keeps ..)
    | (extract_lets +onlyGivenNames x; refine KM.let_ (m := 4076865539) (s := s) (x := x) ?_ ?_; all_goals first | (intro hx; clear_value x) | subst x)
    | (extract_lets +onlyGivenNames v; subst v)
    | split

theorem execCloseTrainlineEdge_keeps (s : State) : KO 9472 s (execCloseTrainlineEdge s) := by
  have hx : KM 9472 s s := KM.refl
  unfold execCloseTrainlineEdge
  repeat' first
    | with_reducible apply KO.next
    | with_reducible apply KO.fault
    | with_reducible assumption
    | (show _ ||| _ = _; decide)
    | with_reducible apply KM.app (g := State.closeTlEdge_keeps ..)
    | split

theorem execProofLost_keeps (d : Doorway) (s : State) : KO 11593171200 s (execProofLost d s) := by
  have hx : KM 11593171200 s s := KM.refl
  unfold execProofLost
  repeat' first
    | with_reducible apply KO.next
    | with_reducible apply KO.fault
    | with_reducible assumption
    | (show _ ||| _ = _; decide)
    | with_reducible apply KM.app (g := State.enterFault_keeps ..)
    | with_reducible apply KM.app (g := State.obstacle_keeps ..)
    | with_reducible apply KM.app (g := State.raise_keeps ..)
    | with_reducible apply KM.app (g := State.modDoor_keeps ..)
    | (extract_lets +onlyGivenNames x; refine KM.let_ (m := 11593171200) (s := s) (x := x) ?_ ?_; all_goals first | (intro hx; clear_value x) | subst x)
    | (extract_lets +onlyGivenNames v; subst v)
    | split

theorem execZsLostOpen_keeps (d : Doorway) (s : State) : KO 3003154688 s (execZsLostOpen d s) := by
  have hx : KM 3003154688 s s := KM.refl
  unfold execZsLostOpen
  repeat' first
    | with_reducible apply KO.next
    | with_reducible apply KO.fault
    | with_reducible assumption
    | (show _ ||| _ = _; decide)
    | with_reducible apply KM.app (g := State.zsLost_keeps ..)
    | with_reducible apply KM.app (g := State.modDoor_keeps ..)
    | split

theorem execStepTimeout_keeps (d : Doorway) (s : State) : KO 12666831107 s (execStepTimeout d s) := by
  have hx : KM 12666831107 s s := KM.refl
  unfold execStepTimeout
  repeat' first
    | with_reducible apply KO.next
    | with_reducible apply KO.fault
    | with_reducible assumption
    | (show _ ||| _ = _; decide)
    | with_reducible apply KM.app (g := State.raise_keeps ..)
    | with_reducible apply KM.app (g := State.enterStep_keeps ..)
    | with_reducible apply KM.app (g := State.until_keeps ..)
    | (extract_lets +onlyGivenNames x; refine KM.let_ (m := 12666831107) (s := s) (x := x) ?_ ?_; all_goals first | (intro hx; clear_value x) | subst x)
    | (extract_lets +onlyGivenNames v; subst v)
    | split

theorem execIsolationKeyOn_keeps (d : Doorway) (s : State) : KO 11593171200 s (execIsolationKeyOn d s) := by
  have hx : KM 11593171200 s s := KM.refl
  unfold execIsolationKeyOn
  repeat' first
    | with_reducible apply KO.next
    | with_reducible apply KO.fault
    | with_reducible assumption
    | (show _ ||| _ = _; decide)
    | with_reducible apply KM.app (g := State.keyTurnedOn_keeps ..)
    | split

theorem execReopenPauseExpired_keeps (d : Doorway) (s : State) : KO 12666798339 s (execReopenPauseExpired d s) := by
  have hx : KM 12666798339 s s := KM.refl
  unfold execReopenPauseExpired
  repeat' first
    | with_reducible apply KO.next
    | with_reducible apply KO.fault
    | with_reducible assumption
    | (show _ ||| _ = _; decide)
    | with_reducible apply KM.app (g := State.enterLeaf_keeps ..)
    | with_reducible apply KM.app (g := State.until_keeps ..)
    | (extract_lets +onlyGivenNames x; refine KM.let_ (m := 12666798339) (s := s) (x := x) ?_ ?_; all_goals first | (intro hx; clear_value x) | subst x)
    | (extract_lets +onlyGivenNames v; subst v)
    | split

theorem execOpStepRequest_keeps (r : Req) (d : Doorway) (s : State) : KO 3003121920 s (execOpStepRequest r d s) := by
  have hx : KM 3003121920 s s := KM.refl
  unfold execOpStepRequest
  repeat' first
    | with_reducible apply KO.next
    | with_reducible apply KO.fault
    | with_reducible assumption
    | (show _ ||| _ = _; decide)
    | with_reducible apply KM.app (g := State.doStepRequest_keeps ..)

theorem execWarnTimeExpired_keeps (d : Doorway) (s : State) : KO 12666831107 s (execWarnTimeExpired d s) := by
  have hx : KM 12666831107 s s := KM.refl
  unfold execWarnTimeExpired
  repeat' first
    | with_reducible apply KO.next
    | with_reducible apply KO.fault
    | with_reducible assumption
    | intro hx
    | (show _ ||| _ = _; decide)
    | with_reducible apply State.leafTimer_keeps
    | with_reducible apply KM.app (g := State.endWarn_keeps ..)
    | split

theorem execIsolationKeyOff_keeps (d : Doorway) (s : State) : KO 11593171200 s (execIsolationKeyOff d s) := by
  have hx : KM 11593171200 s s := KM.refl
  unfold execIsolationKeyOff
  repeat' first
    | with_reducible apply KO.next
    | with_reducible apply KO.fault
    | with_reducible assumption
    | (show _ ||| _ = _; decide)
    | with_reducible apply KM.app (g := State.keyTurnedOff_keeps ..)
    | split

theorem execOpDoorStatus_keeps (r : Req) (d : Doorway) (s : State) : KO 3003121664 s (execOpDoorStatus r d s) := by
  have hx : KM 3003121664 s s := KM.refl
  unfold execOpDoorStatus
  repeat' first
    | with_reducible apply KO.next
    | with_reducible apply KO.fault
    | with_reducible assumption
    | (show _ ||| _ = _; decide)
    | with_reducible apply KM.app (g := State.doDoorStatus_keeps ..)

theorem execTlTakeover_keeps (d : Doorway) (s : State) : KO 4076864259 s (execTlTakeover d s) := by
  have hx : KM 4076864259 s s := KM.refl
  unfold execTlTakeover
  repeat' first
    | with_reducible apply KO.next
    | with_reducible apply KO.fault
    | with_reducible assumption
    | (show _ ||| _ = _; decide)
    | with_reducible apply KM.app (g := State.tlTakes_keeps ..)
    | with_reducible apply KM.app (g := State.until_keeps ..)
    | split

theorem execCloseTimeout_keeps (d : Doorway) (s : State) : KO 12666896643 s (execCloseTimeout d s) := by
  have hx : KM 12666896643 s s := KM.refl
  unfold execCloseTimeout
  repeat' first
    | with_reducible apply KO.next
    | with_reducible apply KO.fault
    | with_reducible assumption
    | intro hx
    | (show _ ||| _ = _; decide)
    | with_reducible apply State.leafTimer_keeps
    | with_reducible apply KM.app (g := State.leafTimeout_keeps ..)

theorem execOpDoorObstacle_keeps (r : Req) (d : Doorway) (s : State) : KO 11593105664 s (execOpDoorObstacle r d s) := by
  have hx : KM 11593105664 s s := KM.refl
  unfold execOpDoorObstacle
  repeat' first
    | with_reducible apply KO.next
    | with_reducible apply KO.fault
    | with_reducible assumption
    | (show _ ||| _ = _; decide)
    | with_reducible apply KM.app (g := State.doDoorObstacle_keeps ..)

theorem execPushbuttonPress_keeps (d : Doorway) (s : State) : KO 1280 s (execPushbuttonPress d s) := by
  have hx : KM 1280 s s := KM.refl
  unfold execPushbuttonPress
  repeat' first
    | with_reducible apply KO.next
    | with_reducible apply KO.fault
    | with_reducible assumption
    | (show _ ||| _ = _; decide)
    | with_reducible apply KM.app (g := State.modDoor_keeps ..)
    | with_reducible apply KM.app (g := State.buttonPressed_keeps ..)
    | split

theorem execSafe2Cleared_keeps (core : CoreId) (c : Chan) (s : State) : KO 4076865539 s (execSafe2Cleared core c s) := by
  have hx : KM 4076865539 s s := KM.refl
  unfold execSafe2Cleared
  repeat' first
    | with_reducible apply KO.next
    | with_reducible apply KO.fault
    | with_reducible assumption
    | (show _ ||| _ = _; decide)
    | with_reducible apply KM.app (g := State.pairCleared_keeps ..)
    | with_reducible apply KM.app (g := State.until_keeps ..)
    | (extract_lets +onlyGivenNames x; refine KM.let_ (m := 4076865539) (s := s) (x := x) ?_ ?_; all_goals first | (intro hx; clear_value x) | subst x)
    | (extract_lets +onlyGivenNames v; subst v)
    | split

theorem execLockTimeout_keeps (d : Doorway) (s : State) : KO 12666896643 s (execLockTimeout d s) := by
  have hx : KM 12666896643 s s := KM.refl
  unfold execLockTimeout
  repeat' first
    | with_reducible apply KO.next
    | with_reducible apply KO.fault
    | with_reducible assumption
    | intro hx
    | (show _ ||| _ = _; decide)
    | with_reducible apply State.leafTimer_keeps
    | with_reducible apply KM.app (g := State.lockTimeout_keeps ..)

theorem execHandleResetAllowed_keeps (d : Doorway) (s : State) : KO 1073742083 s (execHandleResetAllowed d s) := by
  have hx : KM 1073742083 s s := KM.refl
  unfold execHandleResetAllowed
  repeat' first
    | with_reducible apply KO.next
    | with_reducible apply KO.fault
    | with_reducible assumption
    | (show _ ||| _ = _; decide)
    | with_reducible apply KM.app (g := State.modDoor_keeps ..)
    | with_reducible apply KM.app (g := State.until_keeps ..)
    | (extract_lets +onlyGivenNames x; refine KM.let_ (m := 1073742083) (s := s) (x := x) ?_ ?_; all_goals first | (intro hx; clear_value x) | subst x)
    | (extract_lets +onlyGivenNames v; subst v)
    | split

theorem execLoopCloseDelay_keeps (core : CoreId) (s : State) : KO 4076867587 s (execLoopCloseDelay core s) := by
  have hx : KM 4076867587 s s := KM.refl
  unfold execLoopCloseDelay
  repeat' first
    | with_reducible apply KO.next
    | with_reducible apply KO.fault
    | with_reducible assumption
    | intro hx
    | ((with_reducible apply Lit.mk); intro p hp; first | (cases p <;> first | exact absurd hp (by decide) | exact rfl) | (split <;> cases p <;> first | exact absurd hp (by decide) | exact rfl) | (split <;> split <;> cases p <;> first | exact absurd hp (by decide) | exact rfl))
    | (show _ ||| _ = _; decide)
    | with_reducible apply KM.app (g := State.loopDrop_keeps ..)
    | with_reducible apply KM.modDoors
    | with_reducible apply KM.app (g := State.loopClose_keeps ..)
    | with_reducible apply KM.app (g := State.until_keeps ..)
    | (extract_lets +onlyGivenNames x; refine KM.let_ (m := 4076867587) (s := s) (x := x) ?_ ?_; all_goals first | (intro hx; clear_value x) | subst x)
    | (extract_lets +onlyGivenNames v; subst v)
    | split

theorem execReleaseLost_keeps (d : Doorway) (s : State) : KO 33024 s (execReleaseLost d s) := by
  have hx : KM 33024 s s := KM.refl
  unfold execReleaseLost
  repeat' first
    | with_reducible apply KO.next
    | with_reducible apply KO.fault
    | with_reducible assumption
    | (show _ ||| _ = _; decide)
    | with_reducible apply KM.app (g := State.modDoor_keeps ..)
    | with_reducible apply KM.app (g := State.releaseLost_keeps ..)
    | split

theorem execLoopDisagreement_keeps (s : State) : KO 4076867587 s (execLoopDisagreement s) := by
  have hx : KM 4076867587 s s := KM.refl
  unfold execLoopDisagreement
  repeat' first
    | with_reducible apply KO.next
    | with_reducible apply KO.fault
    | with_reducible assumption
    | (show _ ||| _ = _; decide)
    | with_reducible apply KM.app (g := State.loopDisagree_keeps ..)
    | with_reducible apply KM.app (g := State.until_keeps ..)
    | split

theorem execEvacuationInput_keeps (s : State) : KO 9216 s (execEvacuationInput s) := by
  have hx : KM 9216 s s := KM.refl
  unfold execEvacuationInput
  repeat' first
    | with_reducible apply KO.next
    | with_reducible apply KO.fault
    | with_reducible assumption
    | (show _ ||| _ = _; decide)
    | with_reducible apply KM.app (g := State.evacEdge_keeps ..)
    | split

theorem execOpClaim_keeps (r : Req) (code : BitVec 32) (s : State) : KO 3003122432 s (execOpClaim r code s) := by
  have hx : KM 3003122432 s s := KM.refl
  unfold execOpClaim
  repeat' first
    | with_reducible apply KO.next
    | with_reducible apply KO.fault
    | with_reducible assumption
    | (show _ ||| _ = _; decide)
    | with_reducible apply KM.app (g := State.doClaim_keeps ..)

theorem execReleaseEdge_keeps (d : Doorway) (s : State) : KO 1280 s (execReleaseEdge d s) := by
  have hx : KM 1280 s s := KM.refl
  unfold execReleaseEdge
  repeat' first
    | with_reducible apply KO.next
    | with_reducible apply KO.fault
    | with_reducible assumption
    | (show _ ||| _ = _; decide)
    | with_reducible apply KM.app (g := State.releaseEdge_keeps ..)
    | split

theorem execDwellClose_keeps (d : Doorway) (s : State) : KO 1073742851 s (execDwellClose d s) := by
  have hx : KM 1073742851 s s := KM.refl
  unfold execDwellClose
  repeat' first
    | with_reducible apply KO.next
    | with_reducible apply KO.fault
    | with_reducible assumption
    | (show _ ||| _ = _; decide)
    | with_reducible apply KM.app (g := State.ask_keeps ..)
    | with_reducible apply KM.app (g := State.until_keeps ..)
    | split

theorem execOpenTimeout_keeps (d : Doorway) (s : State) : KO 12666896643 s (execOpenTimeout d s) := by
  have hx : KM 12666896643 s s := KM.refl
  unfold execOpenTimeout
  repeat' first
    | with_reducible apply KO.next
    | with_reducible apply KO.fault
    | with_reducible assumption
    | intro hx
    | (show _ ||| _ = _; decide)
    | with_reducible apply State.leafTimer_keeps
    | with_reducible apply KM.app (g := State.leafTimeout_keeps ..)

theorem execLaneDisagree_keeps (a : Axis) (encoders : Bool) (difference : ℕ) (s : State) : KO 4076896259 s (execLaneDisagree a encoders difference s) := by
  have hx : KM 4076896259 s s := KM.refl
  unfold execLaneDisagree
  repeat' first
    | with_reducible apply KO.next
    | with_reducible apply KO.fault
    | with_reducible assumption
    | (show _ ||| _ = _; decide)
    | with_reducible apply KM.app (g := State.lanesDisagree_keeps ..)
    | with_reducible apply KM.app (g := State.until_keeps ..)
    | split

theorem execLaneLeft_keeps (m : Axis) (s : State) : KO 3003154432 s (execLaneLeft m s) := by
  have hx : KM 3003154432 s s := KM.refl
  unfold execLaneLeft
  repeat' first
    | with_reducible apply KO.next
    | with_reducible apply KO.fault
    | with_reducible assumption
    | (show _ ||| _ = _; decide)
    | with_reducible apply KM.app (g := State.laneLeaves_keeps ..)
    | split

theorem execBusRangeClear_keeps (m : Axis) (s : State) : KO 65568 s (execBusRangeClear m s) := by
  have hx : KM 65568 s s := KM.refl
  unfold execBusRangeClear
  repeat' first
    | with_reducible apply KO.next
    | with_reducible apply KO.fault
    | with_reducible assumption
    | (show _ ||| _ = _; decide)
    | with_reducible apply KM.app (g := State.driveFaultOff_keeps ..)
    | split

theorem execLaneRejoin_keeps (m : Axis) (s : State) : KO 98304 s (execLaneRejoin m s) := by
  have hx : KM 98304 s s := KM.refl
  unfold execLaneRejoin
  repeat' first
    | with_reducible apply KO.next
    | with_reducible apply KO.fault
    | with_reducible assumption
    | (show _ ||| _ = _; decide)
    | with_reducible apply KM.app (g := State.laneRejoins_keeps ..)
    | split

theorem execLaneLost_keeps (m : Axis) (s : State) : KO 3003220384 s (execLaneLost m s) := by
  have hx : KM 3003220384 s s := KM.refl
  unfold execLaneLost
  repeat' first
    | with_reducible apply KO.next
    | with_reducible apply KO.fault
    | with_reducible assumption
    | (show _ ||| _ = _; decide)
    | with_reducible apply KM.app (g := State.laneGone_keeps ..)

theorem execPeakLimit_keeps (m : Axis) (s : State) : KO 3003187200 s (execPeakLimit m s) := by
  have hx : KM 3003187200 s s := KM.refl
  unfold execPeakLimit
  repeat' first
    | with_reducible apply KO.next
    | with_reducible apply KO.fault
    | with_reducible assumption
    | (show _ ||| _ = _; decide)
    | with_reducible apply KM.app (g := State.modAxMod_keeps ..)
    | with_reducible apply KM.app (g := State.raise_keeps ..)

theorem execTwinJoined_keeps (m : Axis) (s : State) : KO 4076896259 s (execTwinJoined m s) := by
  have hx : KM 4076896259 s s := KM.refl
  unfold execTwinJoined
  repeat' first
    | with_reducible apply KO.next
    | with_reducible apply KO.fault
    | with_reducible assumption
    | (show _ ||| _ = _; decide)
    | with_reducible apply KM.app (g := State.laneJoined_keeps ..)
    | with_reducible apply KM.app (g := State.until_keeps ..)
    | (extract_lets +onlyGivenNames x; refine KM.let_ (m := 4076896259) (s := s) (x := x) ?_ ?_; all_goals first | (intro hx; clear_value x) | subst x)
    | (extract_lets +onlyGivenNames v; subst v)
    | split

theorem execLossState_keeps (m : Axis) (s : State) : KO 3003220384 s (execLossState m s) := by
  have hx : KM 3003220384 s s := KM.refl
  unfold execLossState
  repeat' first
    | with_reducible apply KO.next
    | with_reducible apply KO.fault
    | with_reducible assumption
    | (show _ ||| _ = _; decide)
    | with_reducible apply KM.app (g := State.lossEnter_keeps ..)
    | split

theorem execHeatsink_keeps (m : Axis) (celsius : ℤ) (s : State) : KO 3003220384 s (execHeatsink m celsius s) := by
  have hx : KM 3003220384 s s := KM.refl
  unfold execHeatsink
  repeat' first
    | with_reducible apply KO.next
    | with_reducible apply KO.fault
    | with_reducible assumption
    | (show _ ||| _ = _; decide)
    | with_reducible apply KM.app (g := State.heatsinkRead_keeps ..)

theorem execEncFault_keeps (m : Axis) (reason : ℕ) (s : State) : KO 3003219968 s (execEncFault m reason s) := by
  have hx : KM 3003219968 s s := KM.refl
  unfold execEncFault
  repeat' first
    | with_reducible apply KO.next
    | with_reducible apply KO.fault
    | with_reducible assumption
    | (show _ ||| _ = _; decide)
    | with_reducible apply KM.app (g := State.encFaultOn_keeps ..)

theorem execResistanceCheck_keeps (m : Axis) (phase : Vector CheckPhase 2) (s : State) : KO 3003220384 s (execResistanceCheck m phase s) := by
  have hx : KM 3003220384 s s := KM.refl
  unfold execResistanceCheck
  repeat' first
    | with_reducible apply KO.next
    | with_reducible apply KO.fault
    | with_reducible assumption
    | (show _ ||| _ = _; decide)
    | with_reducible apply KM.app (g := State.checkEnds_keeps ..)

theorem execFollowing_keeps (a : Axis) (s : State) : KO 11593171200 s (execFollowing a s) := by
  have hx : KM 11593171200 s s := KM.refl
  unfold execFollowing
  repeat' first
    | with_reducible apply KO.next
    | with_reducible apply KO.fault
    | with_reducible assumption
    | (show _ ||| _ = _; decide)
    | with_reducible apply KM.app (g := State.followFires_keeps ..)

theorem execAxConfigMismatch_keeps (m : Axis) (s : State) : KO 3003220384 s (execAxConfigMismatch m s) := by
  have hx : KM 3003220384 s s := KM.refl
  unfold execAxConfigMismatch
  repeat' first
    | with_reducible apply KO.next
    | with_reducible apply KO.fault
    | with_reducible assumption
    | (show _ ||| _ = _; decide)
    | with_reducible apply KM.app (g := State.axMismatch_keeps ..)

theorem execOvercurrentTrip_keeps (m : Axis) (phaseB : Bool) (s : State) : KO 3003220384 s (execOvercurrentTrip m phaseB s) := by
  have hx : KM 3003220384 s s := KM.refl
  unfold execOvercurrentTrip
  repeat' first
    | with_reducible apply KO.next
    | with_reducible apply KO.fault
    | with_reducible assumption
    | (show _ ||| _ = _; decide)
    | with_reducible apply KM.app (g := State.driveFaultOn_keeps ..)

theorem execBusRangeFault_keeps (m : Axis) (mV : ℕ) (s : State) : KO 3003220384 s (execBusRangeFault m mV s) := by
  have hx : KM 3003220384 s s := KM.refl
  unfold execBusRangeFault
  repeat' first
    | with_reducible apply KO.next
    | with_reducible apply KO.fault
    | with_reducible assumption
    | (show _ ||| _ = _; decide)
    | with_reducible apply KM.app (g := State.modAxMod_keeps ..)
    | with_reducible apply KM.app (g := State.driveFaultOn_keeps ..)
    | (extract_lets +onlyGivenNames x; refine KM.let_ (m := 3003220384) (s := s) (x := x) ?_ ?_; all_goals first | (intro hx; clear_value x) | subst x)
    | (extract_lets +onlyGivenNames v; subst v)
    | split

theorem execMotorTemp_keeps (m : Axis) (ohm : ℕ) (s : State) : KO 3003219968 s (execMotorTemp m ohm s) := by
  have hx : KM 3003219968 s s := KM.refl
  unfold execMotorTemp
  repeat' first
    | with_reducible apply KO.next
    | with_reducible apply KO.fault
    | with_reducible assumption
    | (show _ ||| _ = _; decide)
    | with_reducible apply KM.app (g := State.motorTempRead_keeps ..)

theorem execStepObstacle_keeps (d : Doorway) (following : Bool) (s : State) : KO 11593089280 s (execStepObstacle d following s) := by
  have hx : KM 11593089280 s s := KM.refl
  unfold execStepObstacle
  repeat' first
    | with_reducible apply KO.next
    | with_reducible apply KO.fault
    | with_reducible assumption
    | (show _ ||| _ = _; decide)
    | with_reducible apply KM.app (g := State.stepObstacle_keeps ..)
    | split

theorem execRelayWeld_keeps (core : CoreId) (relay : Fin 2) (s : State) : KO 4076867587 s (execRelayWeld core relay s) := by
  have hx : KM 4076867587 s s := KM.refl
  unfold execRelayWeld
  repeat' first
    | with_reducible apply KO.next
    | with_reducible apply KO.fault
    | with_reducible assumption
    | intro hx
    | ((with_reducible apply Lit.mk); intro p hp; first | (cases p <;> first | exact absurd hp (by decide) | exact rfl) | (split <;> cases p <;> first | exact absurd hp (by decide) | exact rfl) | (split <;> split <;> cases p <;> first | exact absurd hp (by decide) | exact rfl))
    | (show _ ||| _ = _; decide)
    | with_reducible apply KM.modDoors
    | with_reducible apply KM.app (g := State.raise_keeps ..)
    | with_reducible apply KM.app (g := State.until_keeps ..)
    | split

theorem execEdgeFault_keeps (d : Doorway) (edge : EdgeId) (fault : ℕ) (s : State) : KO 11593105664 s (execEdgeFault d edge fault s) := by
  have hx : KM 11593105664 s s := KM.refl
  unfold execEdgeFault
  repeat' first
    | with_reducible apply KO.next
    | with_reducible apply KO.fault
    | with_reducible assumption
    | intro hx
    | (show _ ||| _ = _; decide)
    | with_reducible apply KM.app (g := State.replanNow_keeps ..)
    | with_reducible apply KM.app (g := State.obstacle_keeps ..)
    | with_reducible apply KM.app (g := State.stepObstacle_keeps ..)
    | with_reducible apply KM.each
    | with_reducible apply KM.app (g := State.edgeFaults_keeps ..)
    | with_reducible apply KM.app (g := State.modDoor_keeps ..)
    | (extract_lets +onlyGivenNames x; refine KM.let_ (m := 11593105664) (s := s) (x := x) ?_ ?_; all_goals first | (intro hx; clear_value x) | subst x)
    | (extract_lets +onlyGivenNames v; subst v)
    | split

theorem execObObstacle_keeps (d : Doorway) (src : ObSource) (sampleToTick : ℕ) (s : State) : KO 11593105664 s (execObObstacle d src sampleToTick s) := by
  have hx : KM 11593105664 s s := KM.refl
  unfold execObObstacle
  repeat' first
    | with_reducible apply KO.next
    | with_reducible apply KO.fault
    | with_reducible assumption
    | (show _ ||| _ = _; decide)
    | with_reducible apply KM.app (g := State.obstacle_keeps ..)
    | with_reducible apply KM.app (g := State.latencyAlarm_keeps ..)
    | (extract_lets +onlyGivenNames x; refine KM.let_ (m := 11593105664) (s := s) (x := x) ?_ ?_; all_goals first | (intro hx; clear_value x) | subst x)
    | (extract_lets +onlyGivenNames v; subst v)
    | split

theorem execEdgeCleared_keeps (d : Doorway) (edge : EdgeId) (s : State) : KO 3003138048 s (execEdgeCleared d edge s) := by
  have hx : KM 3003138048 s s := KM.refl
  unfold execEdgeCleared
  repeat' first
    | with_reducible apply KO.next
    | with_reducible apply KO.fault
    | with_reducible assumption
    | (show _ ||| _ = _; decide)
    | with_reducible apply KM.app (g := State.edgeClears_keeps ..)

theorem execGridFault_keeps (d : Doorway) (fault : ℕ) (s : State) : KO 11593105664 s (execGridFault d fault s) := by
  have hx : KM 11593105664 s s := KM.refl
  unfold execGridFault
  repeat' first
    | with_reducible apply KO.next
    | with_reducible apply KO.fault
    | with_reducible assumption
    | (show _ ||| _ = _; decide)
    | with_reducible apply KM.app (g := State.obstacle_keeps ..)
    | with_reducible apply KM.app (g := State.gridFaults_keeps ..)
    | (extract_lets +onlyGivenNames x; refine KM.let_ (m := 11593105664) (s := s) (x := x) ?_ ?_; all_goals first | (intro hx; clear_value x) | subst x)
    | (extract_lets +onlyGivenNames v; subst v)
    | split

theorem execOutOvertemp_keeps (c : Chan) (s : State) : KO 3003252736 s (execOutOvertemp c s) := by
  have hx : KM 3003252736 s s := KM.refl
  unfold execOutOvertemp
  repeat' first
    | with_reducible apply KO.next
    | with_reducible apply KO.fault
    | with_reducible assumption
    | (show _ ||| _ = _; decide)
    | with_reducible apply KM.app (g := State.latchOutput_keeps ..)

theorem execInputFault_keeps (c : Chan) (kind : InFault) (data : ℕ) (s : State) : KO 3003252736 s (execInputFault c kind data s) := by
  have hx : KM 3003252736 s s := KM.refl
  unfold execInputFault
  repeat' first
    | with_reducible apply KO.next
    | with_reducible apply KO.fault
    | with_reducible assumption
    | (show _ ||| _ = _; decide)
    | with_reducible apply KM.app (g := State.restrictTo_keeps ..)
    | with_reducible apply KM.app (g := State.raise_keeps ..)
    | (extract_lets +onlyGivenNames x; refine KM.let_ (m := 3003252736) (s := s) (x := x) ?_ ?_; all_goals first | (intro hx; clear_value x) | subst x)
    | (extract_lets +onlyGivenNames v; subst v)
    | split

theorem execFilterConfirm_keeps (c : Chan) (active : Bool) (s : State) : KO 3003252736 s (execFilterConfirm c active s) := by
  have hx : KM 3003252736 s s := KM.refl
  unfold execFilterConfirm
  repeat' first
    | with_reducible apply KO.next
    | with_reducible apply KO.fault
    | with_reducible assumption
    | (show _ ||| _ = _; decide)
    | with_reducible apply KM.app (g := State.confirmInput_keeps ..)

theorem execFiConfigApply_keeps (m : Fin 2) (s : State) : KO 131072 s (execFiConfigApply m s) := by
  have hx : KM 131072 s s := KM.refl
  unfold execFiConfigApply
  repeat' first
    | with_reducible apply KO.next
    | with_reducible apply KO.fault
    | with_reducible assumption
    | (show _ ||| _ = _; decide)
    | with_reducible apply KM.app (g := State.applyField_keeps ..)
    | split

theorem execParallelFault_keeps (c : Chan) (member : Chan) (mA : ℕ) (s : State) : KO 3003121664 s (execParallelFault c member mA s) := by
  have hx : KM 3003121664 s s := KM.refl
  unfold execParallelFault
  repeat' first
    | with_reducible apply KO.next
    | with_reducible apply KO.fault
    | with_reducible assumption
    | (show _ ||| _ = _; decide)
    | with_reducible apply KM.app (g := State.raise_keeps ..)

theorem execInputFaultClear_keeps (c : Chan) (s : State) : KO 3003252736 s (execInputFaultClear c s) := by
  have hx : KM 3003252736 s s := KM.refl
  unfold execInputFaultClear
  repeat' first
    | with_reducible apply KO.next
    | with_reducible apply KO.fault
    | with_reducible assumption
    | (show _ ||| _ = _; decide)
    | with_reducible apply KM.app (g := State.loseValue_keeps ..)
    | with_reducible apply KM.app (g := State.raise_keeps ..)
    | (extract_lets +onlyGivenNames x; refine KM.let_ (m := 3003252736) (s := s) (x := x) ?_ ?_; all_goals first | (intro hx; clear_value x) | subst x)
    | (extract_lets +onlyGivenNames v; subst v)
    | split

theorem execGroupSupplyChange_keeps (g : Group) (deciVolt : ℤ) (s : State) : KO 3003252736 s (execGroupSupplyChange g deciVolt s) := by
  have hx : KM 3003252736 s s := KM.refl
  unfold execGroupSupplyChange
  repeat' first
    | with_reducible apply KO.next
    | with_reducible apply KO.fault
    | with_reducible assumption
    | (show _ ||| _ = _; decide)
    | with_reducible apply KM.app (g := State.groupBecomes_keeps ..)
    | split

theorem execOutShortSupply_keeps (c : Chan) (deciVolt : ℕ) (s : State) : KO 3003252736 s (execOutShortSupply c deciVolt s) := by
  have hx : KM 3003252736 s s := KM.refl
  unfold execOutShortSupply
  repeat' first
    | with_reducible apply KO.next
    | with_reducible apply KO.fault
    | with_reducible assumption
    | (show _ ||| _ = _; decide)
    | with_reducible apply KM.app (g := State.diagnose_keeps ..)

theorem execBarrierCmdFrame_keeps (m : Fin 2) (good : Bool) (s : State) : KO 3003252736 s (execBarrierCmdFrame m good s) := by
  have hx : KM 3003252736 s s := KM.refl
  unfold execBarrierCmdFrame
  repeat' first
    | with_reducible apply KO.next
    | with_reducible apply KO.fault
    | with_reducible assumption
    | (show _ ||| _ = _; decide)
    | with_reducible apply KM.app (g := State.modFieldMod_keeps ..)
    | with_reducible apply KM.app (g := State.commandFrame_keeps ..)
    | split

theorem execBandResolve_keeps (c : Chan) (data : ℕ) (s : State) : KO 4076994563 s (execBandResolve c data s) := by
  have hx : KM 4076994563 s s := KM.refl
  unfold execBandResolve
  repeat' first
    | with_reducible apply KO.next
    | with_reducible apply KO.fault
    | with_reducible assumption
    | (show _ ||| _ = _; decide)
    | with_reducible apply KM.app (g := State.restrictTo_keeps ..)
    | with_reducible apply KM.app (g := State.raise_keeps ..)
    | with_reducible apply KM.app (g := State.until_keeps ..)
    | (extract_lets +onlyGivenNames x; refine KM.let_ (m := 4076994563) (s := s) (x := x) ?_ ?_; all_goals first | (intro hx; clear_value x) | subst x)
    | (extract_lets +onlyGivenNames v; subst v)
    | split

theorem execOutOpenOn_keeps (c : Chan) (mA : ℕ) (s : State) : KO 3003252736 s (execOutOpenOn c mA s) := by
  have hx : KM 3003252736 s s := KM.refl
  unfold execOutOpenOn
  repeat' first
    | with_reducible apply KO.next
    | with_reducible apply KO.fault
    | with_reducible assumption
    | (show _ ||| _ = _; decide)
    | with_reducible apply KM.app (g := State.diagnose_keeps ..)

theorem execFiSafeState_keeps (m : Fin 2) (barrier : Bool) (s : State) : KO 3003252736 s (execFiSafeState m barrier s) := by
  have hx : KM 3003252736 s s := KM.refl
  unfold execFiSafeState
  repeat' first
    | with_reducible apply KO.next
    | with_reducible apply KO.fault
    | with_reducible assumption
    | (show _ ||| _ = _; decide)
    | with_reducible apply KM.app (g := State.applySafe_keeps ..)
    | with_reducible apply KM.app (g := State.modFieldMod_keeps ..)
    | (extract_lets +onlyGivenNames x; refine KM.let_ (m := 3003252736) (s := s) (x := x) ?_ ?_; all_goals first | (intro hx; clear_value x) | subst x)
    | (extract_lets +onlyGivenNames v; subst v)
    | split

theorem execOpFioSet_keeps (r : Req) (mask : BitVec 64) (state : BitVec 64) (s : State) : KO 3003252736 s (execOpFioSet r mask state s) := by
  have hx : KM 3003252736 s s := KM.refl
  unfold execOpFioSet
  repeat' first
    | with_reducible apply KO.next
    | with_reducible apply KO.fault
    | with_reducible assumption
    | (show _ ||| _ = _; decide)
    | with_reducible apply KM.app (g := State.doFioSet_keeps ..)

theorem execBandHold_keeps (c : Chan) (data : ℕ) (s : State) : KO 3003252736 s (execBandHold c data s) := by
  have hx : KM 3003252736 s s := KM.refl
  unfold execBandHold
  repeat' first
    | with_reducible apply KO.next
    | with_reducible apply KO.fault
    | with_reducible assumption
    | (show _ ||| _ = _; decide)
    | with_reducible apply KM.app (g := State.restrictTo_keeps ..)
    | with_reducible apply KM.app (g := State.raise_keeps ..)
    | split

theorem execOutOverload_keeps (c : Chan) (s : State) : KO 3003252736 s (execOutOverload c s) := by
  have hx : KM 3003252736 s s := KM.refl
  unfold execOutOverload
  repeat' first
    | with_reducible apply KO.next
    | with_reducible apply KO.fault
    | with_reducible assumption
    | (show _ ||| _ = _; decide)
    | with_reducible apply KM.app (g := State.latchOutput_keeps ..)
    | (extract_lets +onlyGivenNames x; refine KM.let_ (m := 3003252736) (s := s) (x := x) ?_ ?_; all_goals first | (intro hx; clear_value x) | subst x)
    | (extract_lets +onlyGivenNames v; subst v)

theorem execBarrierFrame_keeps (m : Fin 2) (good : Bool) (s : State) : KO 3003252736 s (execBarrierFrame m good s) := by
  have hx : KM 3003252736 s s := KM.refl
  unfold execBarrierFrame
  repeat' first
    | with_reducible apply KO.next
    | with_reducible apply KO.fault
    | with_reducible assumption
    | (show _ ||| _ = _; decide)
    | with_reducible apply KM.app (g := State.badBarrier_keeps ..)
    | with_reducible apply KM.app (g := State.latchImage_keeps ..)
    | with_reducible apply KM.app (g := State.modFieldMod_keeps ..)
    | split

theorem execFiConfigMismatch_keeps (m : Fin 2) (s : State) : KO 3003121824 s (execFiConfigMismatch m s) := by
  have hx : KM 3003121824 s s := KM.refl
  unfold execFiConfigMismatch
  repeat' first
    | with_reducible apply KO.next
    | with_reducible apply KO.fault
    | with_reducible assumption
    | (show _ ||| _ = _; decide)
    | with_reducible apply KM.app (g := State.fieldMismatch_keeps ..)

theorem execOutOpenOff_keeps (c : Chan) (deciVolt : ℕ) (s : State) : KO 3003252736 s (execOutOpenOff c deciVolt s) := by
  have hx : KM 3003252736 s s := KM.refl
  unfold execOutOpenOff
  repeat' first
    | with_reducible apply KO.next
    | with_reducible apply KO.fault
    | with_reducible assumption
    | (show _ ||| _ = _; decide)
    | with_reducible apply KM.app (g := State.diagnose_keeps ..)
    | split

theorem execOpLoadSet_keeps (r : Req) (mask : BitVec 16) (state : BitVec 16) (s : State) : KO 3003383808 s (execOpLoadSet r mask state s) := by
  have hx : KM 3003383808 s s := KM.refl
  unfold execOpLoadSet
  repeat' first
    | with_reducible apply KO.next
    | with_reducible apply KO.fault
    | with_reducible assumption
    | (show _ ||| _ = _; decide)
    | with_reducible apply KM.app (g := State.doLoadSet_keeps ..)

theorem execLs24OvervoltSwitch_keeps (deciVolt : ℕ) (s : State) : KO 1074003971 s (execLs24OvervoltSwitch deciVolt s) := by
  have hx : KM 1074003971 s s := KM.refl
  unfold execLs24OvervoltSwitch
  repeat' first
    | with_reducible apply KO.next
    | with_reducible apply KO.fault
    | with_reducible assumption
    | (show _ ||| _ = _; decide)
    | with_reducible apply KM.app (g := State.modLoads_keeps ..)
    | with_reducible apply KM.app (g := State.until_keeps ..)
    | split

theorem execClampHoldEnd_keeps (c : LoadCh) (avg : ℕ) (s : State) : KO 3003383808 s (execClampHoldEnd c avg s) := by
  have hx : KM 3003383808 s s := KM.refl
  unfold execClampHoldEnd
  repeat' first
    | with_reducible apply KO.next
    | with_reducible apply KO.fault
    | with_reducible assumption
    | (show _ ||| _ = _; decide)
    | with_reducible apply KM.app (g := State.loadFollow_keeps ..)
    | with_reducible apply KM.app (g := State.modLoad_keeps ..)
    | (extract_lets +onlyGivenNames x; refine KM.let_ (m := 3003383808) (s := s) (x := x) ?_ ?_; all_goals first | (intro hx; clear_value x) | subst x)
    | (extract_lets +onlyGivenNames v; subst v)
    | split

theorem execLsOverload_keeps (c : LoadCh) (why : ℕ) (s : State) : KO 3003383808 s (execLsOverload c why s) := by
  have hx : KM 3003383808 s s := KM.refl
  unfold execLsOverload
  repeat' first
    | with_reducible apply KO.next
    | with_reducible apply KO.fault
    | with_reducible assumption
    | (show _ ||| _ = _; decide)
    | with_reducible apply KM.app (g := State.latchLoad_keeps ..)

theorem execLoadSupplyChange_keeps (deciVolt : ℤ) (s : State) : KO 3003383808 s (execLoadSupplyChange deciVolt s) := by
  have hx : KM 3003383808 s s := KM.refl
  unfold execLoadSupplyChange
  repeat' first
    | with_reducible apply KO.next
    | with_reducible apply KO.fault
    | with_reducible assumption
    | (show _ ||| _ = _; decide)
    | with_reducible apply KM.app (g := State.loadSupplyBecomes_keeps ..)
    | split

theorem execLsOpenOff_keeps (c : LoadCh) (deciVolt : ℕ) (s : State) : KO 3003383808 s (execLsOpenOff c deciVolt s) := by
  have hx : KM 3003383808 s s := KM.refl
  unfold execLsOpenOff
  repeat' first
    | with_reducible apply KO.next
    | with_reducible apply KO.fault
    | with_reducible assumption
    | (show _ ||| _ = _; decide)
    | with_reducible apply KM.app (g := State.loadDiagnose_keeps ..)
    | split

theorem execRearmDue_keeps (load : Bool) (c : ℕ) (s : State) : KO 4077256707 s (execRearmDue load c s) := by
  have hx : KM 4077256707 s s := KM.refl
  unfold execRearmDue
  repeat' first
    | with_reducible apply KO.next
    | with_reducible apply KO.fault
    | with_reducible assumption
    | (show _ ||| _ = _; decide)
    | with_reducible apply KM.app (g := State.loadRearmEvent_keeps ..)
    | with_reducible apply KM.app (g := State.fieldRearmEvent_keeps ..)
    | split

theorem execLsConfigApply_keeps (s : State) : KO 3003383808 s (execLsConfigApply s) := by
  have hx : KM 3003383808 s s := KM.refl
  unfold execLsConfigApply
  repeat' first
    | with_reducible apply KO.next
    | with_reducible apply KO.fault
    | with_reducible assumption
    | (show _ ||| _ = _; decide)
    | with_reducible apply KM.app (g := State.applyLoad_keeps ..)
    | split

theorem execLsDiagCleared_keeps (c : LoadCh) (s : State) : KO 3003383808 s (execLsDiagCleared c s) := by
  have hx : KM 3003383808 s s := KM.refl
  unfold execLsDiagCleared
  repeat' first
    | with_reducible apply KO.next
    | with_reducible apply KO.fault
    | with_reducible assumption
    | (show _ ||| _ = _; decide)
    | with_reducible apply KM.app (g := State.endLoadDiag_keeps ..)

theorem execLsConfigMismatch_keeps (s : State) : KO 3003121824 s (execLsConfigMismatch s) := by
  have hx : KM 3003121824 s s := KM.refl
  unfold execLsConfigMismatch
  repeat' first
    | with_reducible apply KO.next
    | with_reducible apply KO.fault
    | with_reducible assumption
    | (show _ ||| _ = _; decide)
    | with_reducible apply KM.app (g := State.loadMismatch_keeps ..)

theorem execLsOvertemp_keeps (c : LoadCh) (celsius : ℕ) (s : State) : KO 3003383808 s (execLsOvertemp c celsius s) := by
  have hx : KM 3003383808 s s := KM.refl
  unfold execLsOvertemp
  repeat' first
    | with_reducible apply KO.next
    | with_reducible apply KO.fault
    | with_reducible assumption
    | (show _ ||| _ = _; decide)
    | with_reducible apply KM.app (g := State.latchLoad_keeps ..)

theorem execInrushWindowEnd_keeps (c : LoadCh) (inLimit : Bool) (s : State) : KO 4077125635 s (execInrushWindowEnd c inLimit s) := by
  have hx : KM 4077125635 s s := KM.refl
  unfold execInrushWindowEnd
  repeat' first
    | with_reducible apply KO.next
    | with_reducible apply KO.fault
    | with_reducible assumption
    | (show _ ||| _ = _; decide)
    | with_reducible apply KM.app (g := State.latchLoad_keeps ..)
    | with_reducible apply KM.app (g := State.until_keeps ..)
    | (extract_lets +onlyGivenNames x; refine KM.let_ (m := 4077125635) (s := s) (x := x) ?_ ?_; all_goals first | (intro hx; clear_value x) | subst x)
    | (extract_lets +onlyGivenNames v; subst v)
    | split

theorem execLsShortSupply_keeps (c : LoadCh) (deciVolt : ℕ) (s : State) : KO 3003383808 s (execLsShortSupply c deciVolt s) := by
  have hx : KM 3003383808 s s := KM.refl
  unfold execLsShortSupply
  repeat' first
    | with_reducible apply KO.next
    | with_reducible apply KO.fault
    | with_reducible assumption
    | (show _ ||| _ = _; decide)
    | with_reducible apply KM.app (g := State.loadDiagnose_keeps ..)

theorem execClampPulse_keeps (c : LoadCh) (mJ : ℕ) (avg : ℕ) (s : State) : KO 3003383808 s (execClampPulse c mJ avg s) := by
  have hx : KM 3003383808 s s := KM.refl
  unfold execClampPulse
  repeat' first
    | with_reducible apply KO.next
    | with_reducible apply KO.fault
    | with_reducible assumption
    | (show _ ||| _ = _; decide)
    | with_reducible apply KM.app (g := State.modLoad_keeps ..)
    | with_reducible apply KM.app (g := State.raise_keeps ..)
    | with_reducible apply KM.app (g := State.latchLoad_keeps ..)
    | (extract_lets +onlyGivenNames x; refine KM.let_ (m := 3003383808) (s := s) (x := x) ?_ ?_; all_goals first | (intro hx; clear_value x) | subst x)
    | (extract_lets +onlyGivenNames v; subst v)
    | split

theorem execLsSafeState_keeps (s : State) : KO 3003383808 s (execLsSafeState s) := by
  have hx : KM 3003383808 s s := KM.refl
  unfold execLsSafeState
  repeat' first
    | with_reducible apply KO.next
    | with_reducible apply KO.fault
    | with_reducible assumption
    | (show _ ||| _ = _; decide)
    | with_reducible apply KM.app (g := State.loadSafe_keeps ..)

theorem execLsOpenOn_keeps (c : LoadCh) (mA : ℕ) (s : State) : KO 3003383808 s (execLsOpenOn c mA s) := by
  have hx : KM 3003383808 s s := KM.refl
  unfold execLsOpenOn
  repeat' first
    | with_reducible apply KO.next
    | with_reducible apply KO.fault
    | with_reducible assumption
    | (show _ ||| _ = _; decide)
    | with_reducible apply KM.app (g := State.loadDiagnose_keeps ..)
    | split

theorem execOpLoadRearm_keeps (r : Req) (mask : BitVec 16) (s : State) : KO 3003383808 s (execOpLoadRearm r mask s) := by
  have hx : KM 3003383808 s s := KM.refl
  unfold execOpLoadRearm
  repeat' first
    | with_reducible apply KO.next
    | with_reducible apply KO.fault
    | with_reducible assumption
    | (show _ ||| _ = _; decide)
    | with_reducible apply KM.app (g := State.doLoadRearm_keeps ..)

theorem execWireModelUpdate_keeps (mA : Vector ℕ 12) (s : State) : KO 3003383808 s (execWireModelUpdate mA s) := by
  have hx : KM 3003383808 s s := KM.refl
  unfold execWireModelUpdate
  repeat' first
    | with_reducible apply KO.next
    | with_reducible apply KO.fault
    | with_reducible assumption
    | intro hx
    | (show _ ||| _ = _; decide)
    | with_reducible apply KM.each
    | with_reducible apply KM.app (g := State.wireStep_keeps ..)

theorem execEstStaleAfter_keeps (s : State) : KO 4077912067 s (execEstStaleAfter s) := by
  have hx : KM 4077912067 s s := KM.refl
  unfold execEstStaleAfter
  repeat' first
    | with_reducible apply KO.next
    | with_reducible apply KO.fault
    | with_reducible assumption
    | (show _ ||| _ = _; decide)
    | with_reducible apply KM.app (g := State.until_keeps ..)
    | with_reducible apply KM.app (g := State.estTick_keeps ..)
    | split

theorem execCellFault_keeps (cell : ℕ) (kind : ℕ) (value : ℕ) (s : State) : KO 3004170400 s (execCellFault cell kind value s) := by
  have hx : KM 3004170400 s s := KM.refl
  unfold execCellFault
  repeat' first
    | with_reducible apply KO.next
    | with_reducible apply KO.fault
    | with_reducible assumption
    | (show _ ||| _ = _; decide)
    | with_reducible apply KM.app (g := State.emFaultOn_keeps ..)
    | with_reducible apply KM.app (g := State.raise_keeps ..)
    | split

theorem execEmLossTimeout_keeps (s : State) : KO 1048576 s (execEmLossTimeout s) := by
  have hx : KM 1048576 s s := KM.refl
  unfold execEmLossTimeout
  repeat' first
    | with_reducible apply KO.next
    | with_reducible apply KO.fault
    | with_reducible assumption
    | (show _ ||| _ = _; decide)
    | with_reducible apply KM.app (g := State.modEnergy_keeps ..)

theorem execOpRestWindow_keeps (r : Req) (s : State) : KO 3004170240 s (execOpRestWindow r s) := by
  have hx : KM 3004170240 s s := KM.refl
  unfold execOpRestWindow
  repeat' first
    | with_reducible apply KO.next
    | with_reducible apply KO.fault
    | with_reducible assumption
    | (show _ ||| _ = _; decide)
    | with_reducible apply KM.app (g := State.doRestWindow_keeps ..)

theorem execEstFitAfter_keeps (s : State) : KO 4077912067 s (execEstFitAfter s) := by
  have hx : KM 4077912067 s s := KM.refl
  unfold execEstFitAfter
  repeat' first
    | with_reducible apply KO.next
    | with_reducible apply KO.fault
    | with_reducible assumption
    | (show _ ||| _ = _; decide)
    | with_reducible apply KM.app (g := State.until_keeps ..)
    | with_reducible apply KM.app (g := State.estTick_keeps ..)
    | split

theorem execBoostLimit_keeps (budget : Bool) (s : State) : KO 3004170240 s (execBoostLimit budget s) := by
  have hx : KM 3004170240 s s := KM.refl
  unfold execBoostLimit
  repeat' first
    | with_reducible apply KO.next
    | with_reducible apply KO.fault
    | with_reducible assumption
    | (show _ ||| _ = _; decide)
    | with_reducible apply KM.app (g := State.raise_keeps ..)
    | with_reducible apply KM.app (g := State.modEnergy_keeps ..)
    | split

theorem execCellTemp_keeps (cell : ℕ) (celsius : ℤ) (s : State) : KO 3004170240 s (execCellTemp cell celsius s) := by
  have hx : KM 3004170240 s s := KM.refl
  unfold execCellTemp
  repeat' first
    | with_reducible apply KO.next
    | with_reducible apply KO.fault
    | with_reducible assumption
    | (show _ ||| _ = _; decide)
    | with_reducible apply KM.app (g := State.raise_keeps ..)
    | with_reducible apply KM.app (g := State.modEnergy_keeps ..)
    | (extract_lets +onlyGivenNames x; refine KM.let_ (m := 3004170240) (s := s) (x := x) ?_ ?_; all_goals first | (intro hx; clear_value x) | subst x)
    | (extract_lets +onlyGivenNames v; subst v)
    | split

theorem execRestWindowStart_keeps (s : State) : KO 1048576 s (execRestWindowStart s) := by
  have hx : KM 1048576 s s := KM.refl
  unfold execRestWindowStart
  repeat' first
    | with_reducible apply KO.next
    | with_reducible apply KO.fault
    | with_reducible assumption
    | (show _ ||| _ = _; decide)
    | with_reducible apply KM.app (g := State.startWindow_keeps ..)
    | split

theorem execRestWanted_keeps (s : State) : KO 4077912067 s (execRestWanted s) := by
  have hx : KM 4077912067 s s := KM.refl
  unfold execRestWanted
  repeat' first
    | with_reducible apply KO.next
    | with_reducible apply KO.fault
    | with_reducible assumption
    | (show _ ||| _ = _; decide)
    | with_reducible apply KM.app (g := State.until_keeps ..)
    | with_reducible apply KM.app (g := State.estTick_keeps ..)
    | split

theorem execBoostCutoff_keeps (s : State) : KO 3004170240 s (execBoostCutoff s) := by
  have hx : KM 3004170240 s s := KM.refl
  unfold execBoostCutoff
  repeat' first
    | with_reducible apply KO.next
    | with_reducible apply KO.fault
    | with_reducible assumption
    | (show _ ||| _ = _; decide)
    | with_reducible apply KM.app (g := State.emBecomes_keeps ..)
    | with_reducible apply KM.app (g := State.modEnergy_keeps ..)

theorem execReserveFloor_keeps (s : State) : KO 3004268800 s (execReserveFloor s) := by
  have hx : KM 3004268800 s s := KM.refl
  unfold execReserveFloor
  repeat' first
    | with_reducible apply KO.next
    | with_reducible apply KO.fault
    | with_reducible assumption
    | (show _ ||| _ = _; decide)
    | with_reducible apply KM.app (g := State.floorReached_keeps ..)

theorem execRestWindowDone_keeps (c : ℕ) (esr : ℕ) (s : State) : KO 4077912067 s (execRestWindowDone c esr s) := by
  have hx : KM 4077912067 s s := KM.refl
  unfold execRestWindowDone
  repeat' first
    | with_reducible apply KO.next
    | with_reducible apply KO.fault
    | with_reducible assumption
    | (show _ ||| _ = _; decide)
    | with_reducible apply KM.app (g := State.windowDone_keeps ..)

theorem execWindowAborted_keeps (cause : ℕ) (s : State) : KO 3004170240 s (execWindowAborted cause s) := by
  have hx : KM 3004170240 s s := KM.refl
  unfold execWindowAborted
  repeat' first
    | with_reducible apply KO.next
    | with_reducible apply KO.fault
    | with_reducible assumption
    | (show _ ||| _ = _; decide)
    | with_reducible apply KM.app (g := State.abortWindow_keeps ..)

theorem execLastAction_keeps (s : State) : KO 80314105856 s (execLastAction s) := by
  have hx : KM 80314105856 s s := KM.refl
  unfold execLastAction
  repeat' first
    | with_reducible apply KO.next
    | with_reducible apply KO.fault
    | with_reducible assumption
    | (show _ ||| _ = _; decide)
    | with_reducible apply KM.app (g := State.reserveEnds_keeps ..)

theorem execShareFault_keeps (share0 : ℕ) (share1 : ℕ) (s : State) : KO 3003121664 s (execShareFault share0 share1 s) := by
  have hx : KM 3003121664 s s := KM.refl
  unfold execShareFault
  repeat' first
    | with_reducible apply KO.next
    | with_reducible apply KO.fault
    | with_reducible assumption
    | (show _ ||| _ = _; decide)
    | with_reducible apply KM.app (g := State.raise_keeps ..)

theorem execHostHoldExpired_keeps (s : State) : KO 1107820579 s (execHostHoldExpired s) := by
  have hx : KM 1107820579 s s := KM.refl
  unfold execHostHoldExpired
  repeat' first
    | with_reducible apply KO.next
    | with_reducible apply KO.fault
    | with_reducible assumption
    | (show _ ||| _ = _; decide)
    | with_reducible apply KM.app (g := State.hostRailsOff_keeps ..)
    | with_reducible apply KM.app (g := State.until_keeps ..)
    | split

theorem execFeedInterruptEnd_keeps (p : Fin 2) (s : State) : KO 12670502275 s (execFeedInterruptEnd p s) := by
  have hx : KM 12670502275 s s := KM.refl
  unfold execFeedInterruptEnd
  repeat' first
    | with_reducible apply KO.next
    | with_reducible apply KO.fault
    | with_reducible assumption
    | (show _ ||| _ = _; decide)
    | with_reducible apply KM.app (g := State.feedBecomes_keeps ..)
    | with_reducible apply KM.app (g := State.until_keeps ..)
    | (extract_lets +onlyGivenNames x; refine KM.let_ (m := 12670502275) (s := s) (x := x) ?_ ?_; all_goals first | (intro hx; clear_value x) | subst x)
    | (extract_lets +onlyGivenNames v; subst v)
    | split

theorem execSvcBrownout_keeps (core : CoreId) (s : State) : KO 120056288032 s (execSvcBrownout core s) := by
  have hx : KM 120056288032 s s := KM.refl
  unfold execSvcBrownout
  repeat' first
    | with_reducible apply KO.next
    | with_reducible apply KO.fault
    | with_reducible assumption
    | (show _ ||| _ = _; decide)
    | with_reducible apply KM.app (g := State.vbusLost_keeps ..)

theorem execShutdownCap_keeps (s : State) : KO 81387847683 s (execShutdownCap s) := by
  have hx : KM 81387847683 s s := KM.refl
  unfold execShutdownCap
  repeat' first
    | with_reducible apply KO.next
    | with_reducible apply KO.fault
    | with_reducible assumption
    | (show _ ||| _ = _; decide)
    | with_reducible apply KM.app (g := State.shutdownCap_keeps ..)

theorem execFeedCrossing_keeps (p : Fin 2) (deciVolt : ℤ) (s : State) : KO 12670502272 s (execFeedCrossing p deciVolt s) := by
  have hx : KM 12670502272 s s := KM.refl
  unfold execFeedCrossing
  repeat' first
    | with_reducible apply KO.next
    | with_reducible apply KO.fault
    | with_reducible assumption
    | (show _ ||| _ = _; decide)
    | with_reducible apply KM.app (g := State.feedBecomes_keeps ..)
    | split

theorem execSuOverload_keeps (p : Fin 2) (pOut : ℕ) (rail : ℕ) (s : State) : KO 3003645952 s (execSuOverload p pOut rail s) := by
  have hx : KM 3003645952 s s := KM.refl
  unfold execSuOverload
  repeat' first
    | with_reducible apply KO.next
    | with_reducible apply KO.fault
    | with_reducible assumption
    | (show _ ||| _ = _; decide)
    | with_reducible apply KM.app (g := State.modPm_keeps ..)
    | with_reducible apply KM.app (g := State.raise_keeps ..)
    | (extract_lets +onlyGivenNames x; refine KM.let_ (m := 3003645952) (s := s) (x := x) ?_ ?_; all_goals first | (intro hx; clear_value x) | subst x)
    | (extract_lets +onlyGivenNames v; subst v)
    | split

theorem execShutdownStepEnd_keeps (s : State) : KO 120057729824 s (execShutdownStepEnd s) := by
  have hx : KM 120057729824 s s := KM.refl
  unfold execShutdownStepEnd
  repeat' first
    | with_reducible apply KO.next
    | with_reducible apply KO.fault
    | with_reducible assumption
    | (show _ ||| _ = _; decide)
    | with_reducible apply KM.app (g := State.endStep_keeps ..)

theorem execSvcAttach_keeps (core : CoreId) (pd : Bool) (offers : List (ℕ × ℕ)) (typeC : ℕ) (s : State) : KO 3007840256 s (execSvcAttach core pd offers typeC s) := by
  have hx : KM 3007840256 s s := KM.refl
  unfold execSvcAttach
  repeat' first
    | with_reducible apply KO.next
    | with_reducible apply KO.fault
    | with_reducible assumption
    | (show _ ||| _ = _; decide)
    | with_reducible apply KM.app (g := State.raise_keeps ..)
    | with_reducible apply KM.app (g := State.modSupply_keeps ..)
    | with_reducible apply KM.app (g := State.svcCores_keeps ..)
    | with_reducible apply KM.app (g := State.svcApply_keeps ..)
    | with_reducible apply KM.app (g := State.modSink_keeps ..)
    | (extract_lets +onlyGivenNames x; refine KM.let_ (m := 3007840256) (s := s) (x := x) ?_ ?_; all_goals first | (intro hx; clear_value x) | subst x)
    | (extract_lets +onlyGivenNames v; subst v)
    | split

theorem execPdHardReset_keeps (core : CoreId) (s : State) : KO 120056288032 s (execPdHardReset core s) := by
  have hx : KM 120056288032 s s := KM.refl
  unfold execPdHardReset
  repeat' first
    | with_reducible apply KO.next
    | with_reducible apply KO.fault
    | with_reducible assumption
    | (show _ ||| _ = _; decide)
    | with_reducible apply KM.app (g := State.vbusLost_keeps ..)
    | with_reducible apply KM.app (g := State.modSink_keeps ..)
    | with_reducible apply KM.app (g := State.endSession_keeps ..)
    | split

theorem execFeedQualified_keeps (p : Fin 2) (s : State) : KO 12670502275 s (execFeedQualified p s) := by
  have hx : KM 12670502275 s s := KM.refl
  unfold execFeedQualified
  repeat' first
    | with_reducible apply KO.next
    | with_reducible apply KO.fault
    | with_reducible assumption
    | (show _ ||| _ = _; decide)
    | with_reducible apply KM.app (g := State.feedBecomes_keeps ..)
    | with_reducible apply KM.app (g := State.until_keeps ..)
    | (extract_lets +onlyGivenNames x; refine KM.let_ (m := 12670502275) (s := s) (x := x) ?_ ?_; all_goals first | (intro hx; clear_value x) | subst x)
    | (extract_lets +onlyGivenNames v; subst v)
    | split

theorem execSvcDetach_keeps (core : CoreId) (s : State) : KO 120056288032 s (execSvcDetach core s) := by
  have hx : KM 120056288032 s s := KM.refl
  unfold execSvcDetach
  repeat' first
    | with_reducible apply KO.next
    | with_reducible apply KO.fault
    | with_reducible assumption
    | (show _ ||| _ = _; decide)
    | with_reducible apply KM.app (g := State.svcGone_keeps ..)
    | with_reducible apply KM.app (g := State.vbusLost_keeps ..)
    | with_reducible apply KM.app (g := State.raise_keeps ..)
    | split

theorem execLossRideExpired_keeps (s : State) : KO 12668404995 s (execLossRideExpired s) := by
  have hx : KM 12668404995 s s := KM.refl
  unfold execLossRideExpired
  repeat' first
    | with_reducible apply KO.next
    | with_reducible apply KO.fault
    | with_reducible assumption
    | (show _ ||| _ = _; decide)
    | with_reducible apply KM.app (g := State.until_keeps ..)
    | with_reducible apply KM.app (g := State.beginShutdown_keeps ..)
    | split

theorem execPowerModuleEnergised_keeps (p : Fin 2) (deciVolt : ℤ) (s : State) : KO 12670502272 s (execPowerModuleEnergised p deciVolt s) := by
  have hx : KM 12670502272 s s := KM.refl
  unfold execPowerModuleEnergised
  repeat' first
    | with_reducible apply KO.next
    | with_reducible apply KO.fault
    | with_reducible assumption
    | (show _ ||| _ = _; decide)
    | with_reducible apply KM.app (g := State.modPm_keeps ..)
    | with_reducible apply KM.app (g := State.raise_keeps ..)
    | with_reducible apply KM.app (g := State.feedBecomes_keeps ..)
    | (extract_lets +onlyGivenNames x; refine KM.let_ (m := 12670502272) (s := s) (x := x) ?_ ?_; all_goals first | (intro hx; clear_value x) | subst x)
    | (extract_lets +onlyGivenNames v; subst v)
    | split

theorem execSvcPsRdy_keeps (core : CoreId) (s : State) : KO 524288 s (execSvcPsRdy core s) := by
  have hx : KM 524288 s s := KM.refl
  unfold execSvcPsRdy
  repeat' first
    | with_reducible apply KO.next
    | with_reducible apply KO.fault
    | with_reducible assumption
    | (show _ ||| _ = _; decide)
    | with_reducible apply KM.app (g := State.modSink_keeps ..)
    | split

theorem execSvcTransitionAccept_keeps (core : CoreId) (volts : ℕ) (s : State) : KO 524288 s (execSvcTransitionAccept core volts s) := by
  have hx : KM 524288 s s := KM.refl
  unfold execSvcTransitionAccept
  repeat' first
    | with_reducible apply KO.next
    | with_reducible apply KO.fault
    | with_reducible assumption
    | (show _ ||| _ = _; decide)
    | with_reducible apply KM.app (g := State.svcApply_keeps ..)
    | with_reducible apply KM.app (g := State.modSink_keeps ..)
    | split

theorem execSvcLoadsReturn_keeps (core : CoreId) (s : State) : KO 4081582083 s (execSvcLoadsReturn core s) := by
  have hx : KM 4081582083 s s := KM.refl
  unfold execSvcLoadsReturn
  repeat' first
    | with_reducible apply KO.next
    | with_reducible apply KO.fault
    | with_reducible assumption
    | (show _ ||| _ = _; decide)
    | with_reducible apply KM.app (g := State.loadsReturn_keeps ..)

theorem execCqHeadDoorbell_keeps (p : HostPort) (core : CoreId) (q : Fin 16) (h : BitVec 32) (s : State) : KO 3003121664 s (execCqHeadDoorbell p core q h s) := by
  have hx : KM 3003121664 s s := KM.refl
  unfold execCqHeadDoorbell
  repeat' first
    | with_reducible apply KO.next
    | with_reducible apply KO.fault
    | with_reducible assumption
    | intro hx
    | (show _ ||| _ = _; decide)
    | with_reducible apply KM.app (g := State.takeCqHead_keeps ..)
    | with_reducible apply State.doorbell_keeps

theorem execOpHeartbeat_keeps (r : Req) (s : State) : KO 3003121664 s (execOpHeartbeat r s) := by
  have hx : KM 3003121664 s s := KM.refl
  unfold execOpHeartbeat
  repeat' first
    | with_reducible apply KO.next
    | with_reducible apply KO.fault
    | with_reducible assumption
    | (show _ ||| _ = _; decide)
    | with_reducible apply KM.app (g := State.doHeartbeat_keeps ..)

theorem execOpParamWrite_keeps (r : Req) (entries : List (ℕ × ℕ)) (s : State) : KO 3003121688 s (execOpParamWrite r entries s) := by
  have hx : KM 3003121688 s s := KM.refl
  unfold execOpParamWrite
  repeat' first
    | with_reducible apply KO.next
    | with_reducible apply KO.fault
    | with_reducible assumption
    | (show _ ||| _ = _; decide)
    | with_reducible apply KM.app (g := State.doParamWrite_keeps ..)

theorem execPortDisable_keeps (p : HostPort) (core : CoreId) (v : BitVec 32) (s : State) : KO 3003121664 s (execPortDisable p core v s) := by
  have hx : KM 3003121664 s s := KM.refl
  unfold execPortDisable
  repeat' first
    | with_reducible apply KO.next
    | with_reducible apply KO.fault
    | with_reducible assumption
    | intro hx
    | (show _ ||| _ = _; decide)
    | with_reducible apply KM.app (g := State.disablePort_keeps ..)
    | with_reducible apply State.setUpWrite_keeps

theorem execEventsDroppedReport_keeps (p : PortId) (s : State) : KO 3003121664 s (execEventsDroppedReport p s) := by
  have hx : KM 3003121664 s s := KM.refl
  unfold execEventsDroppedReport
  repeat' first
    | with_reducible apply KO.next
    | with_reducible apply KO.fault
    | with_reducible assumption
    | (show _ ||| _ = _; decide)
    | with_reducible apply KM.app (g := State.reportDropped_keeps ..)

theorem execOpIoRead_keeps (r : Req) (s : State) : KO 3003121664 s (execOpIoRead r s) := by
  have hx : KM 3003121664 s s := KM.refl
  unfold execOpIoRead
  repeat' first
    | with_reducible apply KO.next
    | with_reducible apply KO.fault
    | with_reducible assumption
    | (show _ ||| _ = _; decide)
    | with_reducible apply KM.app (g := State.doIoRead_keeps ..)

theorem execOpParamRead_keeps (r : Req) (first : ℕ) (count : ℕ) (s : State) : KO 3003121664 s (execOpParamRead r first count s) := by
  have hx : KM 3003121664 s s := KM.refl
  unfold execOpParamRead
  repeat' first
    | with_reducible apply KO.next
    | with_reducible apply KO.fault
    | with_reducible assumption
    | (show _ ||| _ = _; decide)
    | with_reducible apply KM.app (g := State.doParamRead_keeps ..)

theorem execOpParamSetRead_keeps (r : Req) (s : State) : KO 3003121664 s (execOpParamSetRead r s) := by
  have hx : KM 3003121664 s s := KM.refl
  unfold execOpParamSetRead
  repeat' first
    | with_reducible apply KO.next
    | with_reducible apply KO.fault
    | with_reducible assumption
    | (show _ ||| _ = _; decide)
    | with_reducible apply KM.app (g := State.doParamSetRead_keeps ..)

theorem execEvqHeadDoorbell_keeps (p : HostPort) (core : CoreId) (h : BitVec 32) (s : State) : KO 3003121664 s (execEvqHeadDoorbell p core h s) := by
  have hx : KM 3003121664 s s := KM.refl
  unfold execEvqHeadDoorbell
  repeat' first
    | with_reducible apply KO.next
    | with_reducible apply KO.fault
    | with_reducible assumption
    | intro hx
    | (show _ ||| _ = _; decide)
    | with_reducible apply KM.app (g := State.takeEvqHead_keeps ..)
    | with_reducible apply State.doorbell_keeps

theorem execSqTailDoorbell_keeps (p : HostPort) (core : CoreId) (q : Fin 16) (t : BitVec 32) (s : State) : KO 3003121664 s (execSqTailDoorbell p core q t s) := by
  have hx : KM 3003121664 s s := KM.refl
  unfold execSqTailDoorbell
  repeat' first
    | with_reducible apply KO.next
    | with_reducible apply KO.fault
    | with_reducible assumption
    | intro hx
    | (show _ ||| _ = _; decide)
    | with_reducible apply KM.app (g := State.takeTail_keeps ..)
    | with_reducible apply State.doorbell_keeps

theorem execLaybyDrain_keeps (p : PortId) (s : State) : KO 3003121664 s (execLaybyDrain p s) := by
  have hx : KM 3003121664 s s := KM.refl
  unfold execLaybyDrain
  repeat' first
    | with_reducible apply KO.next
    | with_reducible apply KO.fault
    | with_reducible assumption
    | (show _ ||| _ = _; decide)
    | with_reducible apply KM.app (g := State.drainLayby_keeps ..)

theorem execRingCfgWrite_keeps (p : HostPort) (core : CoreId) (evq : Bool) (v : BitVec 32) (s : State) : KO 33554432 s (execRingCfgWrite p core evq v s) := by
  have hx : KM 33554432 s s := KM.refl
  unfold execRingCfgWrite
  repeat' first
    | with_reducible apply KO.next
    | with_reducible apply KO.fault
    | with_reducible assumption
    | intro hx
    | (show _ ||| _ = _; decide)
    | with_reducible apply KM.app (g := State.writeRingCfg_keeps ..)
    | with_reducible apply State.setUpWrite_keeps

theorem execMsixMessage_keeps (p : HostPort) (ring : Option (Fin 16)) (s : State) : KO 33554432 s (execMsixMessage p ring s) := by
  have hx : KM 33554432 s s := KM.refl
  unfold execMsixMessage
  repeat' first
    | with_reducible apply KO.next
    | with_reducible apply KO.fault
    | with_reducible assumption
    | (show _ ||| _ = _; decide)
    | with_reducible apply KM.app (g := State.msix_keeps ..)

theorem execDmaError_keeps (p : HostPort) (kind : DmaKind) (s : State) : KO 3003121664 s (execDmaError p kind s) := by
  have hx : KM 3003121664 s s := KM.refl
  unfold execDmaError
  repeat' first
    | with_reducible apply KO.next
    | with_reducible apply KO.fault
    | with_reducible assumption
    | (show _ ||| _ = _; decide)
    | with_reducible apply KM.app (g := State.modPort_keeps ..)
    | with_reducible apply KM.app (g := State.writeFailed_keeps ..)
    | with_reducible apply KM.app (g := State.portError_keeps ..)
    | with_reducible apply KM.app (g := State.raise_keeps ..)
    | (extract_lets +onlyGivenNames x; refine KM.let_ (m := 3003121664) (s := s) (x := x) ?_ ?_; all_goals first | (intro hx; clear_value x) | subst x)
    | (extract_lets +onlyGivenNames v; subst v)
    | split

theorem execPortEnable_keeps (p : HostPort) (core : CoreId) (v : BitVec 32) (s : State) : KO 3003121664 s (execPortEnable p core v s) := by
  have hx : KM 3003121664 s s := KM.refl
  unfold execPortEnable
  repeat' first
    | with_reducible apply KO.next
    | with_reducible apply KO.fault
    | with_reducible assumption
    | intro hx
    | (show _ ||| _ = _; decide)
    | with_reducible apply KM.app (g := State.enablePort_keeps ..)
    | with_reducible apply State.setUpWrite_keeps

theorem execHostPowerTrip_keeps (p : HostPort) (mA : ℕ) (s : State) : KO 11595252640 s (execHostPowerTrip p mA s) := by
  have hx : KM 11595252640 s s := KM.refl
  unfold execHostPowerTrip
  repeat' first
    | with_reducible apply KO.next
    | with_reducible apply KO.fault
    | with_reducible assumption
    | (show _ ||| _ = _; decide)
    | with_reducible apply KM.app (g := State.modPort_keeps ..)
    | with_reducible apply KM.app (g := State.dropLinks_keeps ..)
    | with_reducible apply KM.app (g := State.modSlot_keeps ..)
    | with_reducible apply KM.app (g := State.raise_keeps ..)
    | with_reducible apply KM.app (g := State.judgeTiers_keeps ..)
    | (extract_lets +onlyGivenNames x; refine KM.let_ (m := 11595252640) (s := s) (x := x) ?_ ?_; all_goals first | (intro hx; clear_value x) | subst x)
    | (extract_lets +onlyGivenNames v; subst v)
    | split

theorem execOpNop_keeps (r : Req) (s : State) : KO 3003121664 s (execOpNop r s) := by
  have hx : KM 3003121664 s s := KM.refl
  unfold execOpNop
  repeat' first
    | with_reducible apply KO.next
    | with_reducible apply KO.fault
    | with_reducible assumption
    | (show _ ||| _ = _; decide)
    | with_reducible apply KM.app (g := State.doNop_keeps ..)

theorem execShadowPoll_keeps (p : HostPort) (area : Option (List Byte)) (s : State) : KO 3003121664 s (execShadowPoll p area s) := by
  have hx : KM 3003121664 s s := KM.refl
  unfold execShadowPoll
  repeat' first
    | with_reducible apply KO.next
    | with_reducible apply KO.fault
    | with_reducible assumption
    | (show _ ||| _ = _; decide)
    | with_reducible apply KM.app (g := State.modPort_keeps ..)
    | with_reducible apply KM.app (g := State.readShadow_keeps ..)
    | split

theorem execOpCompletionReplay_keeps (r : Req) (first : BitVec 32) (count : ℕ) (ring : ℕ) (s : State) : KO 3003121664 s (execOpCompletionReplay r first count ring s) := by
  have hx : KM 3003121664 s s := KM.refl
  unfold execOpCompletionReplay
  repeat' first
    | with_reducible apply KO.next
    | with_reducible apply KO.fault
    | with_reducible assumption
    | (show _ ||| _ = _; decide)
    | with_reducible apply KM.app (g := State.doReplay_keeps ..)

theorem execOpParamSetLoad_keeps (r : Req) (s : State) : KO 3003121688 s (execOpParamSetLoad r s) := by
  have hx : KM 3003121688 s s := KM.refl
  unfold execOpParamSetLoad
  repeat' first
    | with_reducible apply KO.next
    | with_reducible apply KO.fault
    | with_reducible assumption
    | (show _ ||| _ = _; decide)
    | with_reducible apply KM.app (g := State.doParamSetLoad_keeps ..)

theorem execPcieLinkChange_keeps (p : HostPort) (core : CoreId) (isUp : Bool) (gen : BitVec 3) (s : State) : KO 11595252480 s (execPcieLinkChange p core isUp gen s) := by
  have hx : KM 11595252480 s s := KM.refl
  unfold execPcieLinkChange
  repeat' first
    | with_reducible apply KO.next
    | with_reducible apply KO.fault
    | with_reducible assumption
    | (show _ ||| _ = _; decide)
    | with_reducible apply KM.app (g := State.linkChange_keeps ..)

theorem execP2Timeout_keeps (s : State) : KO 12666897155 s (execP2Timeout s) := by
  have hx : KM 12666897155 s s := KM.refl
  unfold execP2Timeout
  repeat' first
    | with_reducible apply KO.next
    | with_reducible apply KO.fault
    | with_reducible assumption
    | (show _ ||| _ = _; decide)
    | with_reducible apply KM.app (g := State.p2Down_keeps ..)
    | with_reducible apply KM.app (g := State.until_keeps ..)
    | split

theorem execCanFrameReceived_keeps (bus : Bus) (f : CanFrame) (s : State) : KO 3204448256 s (execCanFrameReceived bus f s) := by
  have hx : KM 3204448256 s s := KM.refl
  unfold execCanFrameReceived
  repeat' first
    | with_reducible apply KO.next
    | with_reducible apply KO.fault
    | with_reducible assumption
    | (show _ ||| _ = _; decide)
    | with_reducible apply KM.app (g := State.frameReceived_keeps ..)

theorem execOpCanTxAbort_keeps (r : Req) (hseq : BitVec 32) (s : State) : KO 3003121664 s (execOpCanTxAbort r hseq s) := by
  have hx : KM 3003121664 s s := KM.refl
  unfold execOpCanTxAbort
  repeat' first
    | with_reducible apply KO.next
    | with_reducible apply KO.fault
    | with_reducible assumption
    | (show _ ||| _ = _; decide)
    | with_reducible apply KM.app (g := State.doCanTxAbort_keeps ..)

theorem execOpCanRxAck_keeps (r : Req) (rseq : BitVec 32) (s : State) : KO 3137339392 s (execOpCanRxAck r rseq s) := by
  have hx : KM 3137339392 s s := KM.refl
  unfold execOpCanRxAck
  repeat' first
    | with_reducible apply KO.next
    | with_reducible apply KO.fault
    | with_reducible assumption
    | (show _ ||| _ = _; decide)
    | with_reducible apply KM.app (g := State.doCanRxAck_keeps ..)

theorem execBusStateChange_keeps (core : CoreId) (bus : Bus) (new : ℕ) (tec : ℕ) (rec : ℕ) (s : State) : KO 3070230528 s (execBusStateChange core bus new tec rec s) := by
  have hx : KM 3070230528 s s := KM.refl
  unfold execBusStateChange
  repeat' first
    | with_reducible apply KO.next
    | with_reducible apply KO.fault
    | with_reducible assumption
    | (show _ ||| _ = _; decide)
    | with_reducible apply KM.app (g := State.busBecomes_keeps ..)
    | split

theorem execProtocolException_keeps (bus : Bus) (s : State) : KO 3070230528 s (execProtocolException bus s) := by
  have hx : KM 3070230528 s s := KM.refl
  unfold execProtocolException
  repeat' first
    | with_reducible apply KO.next
    | with_reducible apply KO.fault
    | with_reducible assumption
    | (show _ ||| _ = _; decide)
    | with_reducible apply KM.app (g := State.protocolException_keeps ..)

theorem execRateFail_keeps (bus : Bus) (s : State) : KO 3003121664 s (execRateFail bus s) := by
  have hx : KM 3003121664 s s := KM.refl
  unfold execRateFail
  repeat' first
    | with_reducible apply KO.next
    | with_reducible apply KO.fault
    | with_reducible assumption
    | (show _ ||| _ = _; decide)
    | with_reducible apply KM.app (g := State.raise_keeps ..)
    | (extract_lets +onlyGivenNames x; refine KM.let_ (m := 3003121664) (s := s) (x := x) ?_ ?_; all_goals first | (intro hx; clear_value x) | subst x)
    | (extract_lets +onlyGivenNames v; subst v)
    | split

theorem execStatusReq_keeps (id : BitVec 29) (data : List Byte) (s : State) : KO 3137339392 s (execStatusReq id data s) := by
  have hx : KM 3137339392 s s := KM.refl
  unfold execStatusReq
  repeat' first
    | with_reducible apply KO.next
    | with_reducible apply KO.fault
    | with_reducible assumption
    | (show _ ||| _ = _; decide)
    | with_reducible apply KM.app (g := State.statusRequest_keeps ..)

theorem execCanTxDone_keeps (bus : Bus) (index : ℕ) (stamp : BitVec 48) (delay : Option ℕ) (s : State) : KO 3070230528 s (execCanTxDone bus index stamp delay s) := by
  have hx : KM 3070230528 s s := KM.refl
  unfold execCanTxDone
  repeat' first
    | with_reducible apply KO.next
    | with_reducible apply KO.fault
    | with_reducible assumption
    | (show _ ||| _ = _; decide)
    | with_reducible apply KM.app (g := State.txDone_keeps ..)

theorem execDoorCmd_keeps (id : BitVec 29) (data : List Byte) (s : State) : KO 3137340416 s (execDoorCmd id data s) := by
  have hx : KM 3137340416 s s := KM.refl
  unfold execDoorCmd
  repeat' first
    | with_reducible apply KO.next
    | with_reducible apply KO.fault
    | with_reducible assumption
    | (show _ ||| _ = _; decide)
    | with_reducible apply KM.app (g := State.doorCommand_keeps ..)

theorem execRxReadWaitExpired_keeps (p : RxPortId) (s : State) : KO 4211081219 s (execRxReadWaitExpired p s) := by
  have hx : KM 4211081219 s s := KM.refl
  unfold execRxReadWaitExpired
  repeat' first
    | with_reducible apply KO.next
    | with_reducible apply KO.fault
    | with_reducible assumption
    | (show _ ||| _ = _; decide)
    | with_reducible apply KM.app (g := State.endRead_keeps ..)
    | with_reducible apply KM.app (g := State.until_keeps ..)
    | split

theorem execOpCanTx_keeps (r : Req) (bus : ℕ) (fmt : Byte) (len : ℕ) (id : BitVec 32) (sdt : Byte) (vcid : Byte) (af : BitVec 32) (data : List Byte) (s : State) : KO 3003121664 s (execOpCanTx r bus fmt len id sdt vcid af data s) := by
  have hx : KM 3003121664 s s := KM.refl
  unfold execOpCanTx
  repeat' first
    | with_reducible apply KO.next
    | with_reducible apply KO.fault
    | with_reducible assumption
    | (show _ ||| _ = _; decide)
    | with_reducible apply KM.app (g := State.doCanTx_keeps ..)

theorem execP2DescriptorFrame_keeps (id : BitVec 29) (xl : Bool) (stamp : BitVec 48) (data : List Byte) (s : State) : KO 3137339392 s (execP2DescriptorFrame id xl stamp data s) := by
  have hx : KM 3137339392 s s := KM.refl
  unfold execP2DescriptorFrame
  repeat' first
    | with_reducible apply KO.next
    | with_reducible apply KO.fault
    | with_reducible assumption
    | (show _ ||| _ = _; decide)
    | with_reducible apply KM.app (g := State.p2Frame_keeps ..)

theorem execP2StatusPeriod_keeps (s : State) : KO 268435456 s (execP2StatusPeriod s) := by
  have hx : KM 268435456 s s := KM.refl
  unfold execP2StatusPeriod
  repeat' first
    | with_reducible apply KO.next
    | with_reducible apply KO.fault
    | with_reducible assumption
    | (show _ ||| _ = _; decide)
    | with_reducible apply KM.app (g := State.p2Status_keeps ..)

theorem execFallbackHeartbeat_keeps (s : State) : KO 1342177283 s (execFallbackHeartbeat s) := by
  have hx : KM 1342177283 s s := KM.refl
  unfold execFallbackHeartbeat
  repeat' first
    | with_reducible apply KO.next
    | with_reducible apply KO.fault
    | with_reducible assumption
    | (show _ ||| _ = _; decide)
    | with_reducible apply KM.app (g := State.sendHeartbeat_keeps ..)
    | with_reducible apply KM.app (g := State.until_keeps ..)
    | split

theorem execOpCanFilterSet_keeps (r : Req) (index : ℕ) (bits : Byte) (id : BitVec 32) (mask : BitVec 32) (sdt : Byte) (sdtMask : Byte) (vcid : Byte) (vcidMask : Byte) (s : State) : KO 3137339392 s (execOpCanFilterSet r index bits id mask sdt sdtMask vcid vcidMask s) := by
  have hx : KM 3137339392 s s := KM.refl
  unfold execOpCanFilterSet
  repeat' first
    | with_reducible apply KO.next
    | with_reducible apply KO.fault
    | with_reducible assumption
    | (show _ ||| _ = _; decide)
    | with_reducible apply KM.app (g := State.doCanFilterSet_keeps ..)

theorem execCanBusError_keeps (bus : Bus) (index : Option ℕ) (kind : ℕ) (tec : ℕ) (rec : ℕ) (s : State) : KO 3070230528 s (execCanBusError bus index kind tec rec s) := by
  have hx : KM 3070230528 s s := KM.refl
  unfold execCanBusError
  repeat' first
    | with_reducible apply KO.next
    | with_reducible apply KO.fault
    | with_reducible assumption
    | (show _ ||| _ = _; decide)
    | with_reducible apply KM.app (g := State.canError_keeps ..)

theorem execOpCanStatus_keeps (r : Req) (bus : ℕ) (s : State) : KO 3003121664 s (execOpCanStatus r bus s) := by
  have hx : KM 3003121664 s s := KM.refl
  unfold execOpCanStatus
  repeat' first
    | with_reducible apply KO.next
    | with_reducible apply KO.fault
    | with_reducible assumption
    | (show _ ||| _ = _; decide)
    | with_reducible apply KM.app (g := State.doCanStatus_keeps ..)

theorem execOpCanRecover_keeps (r : Req) (bus : ℕ) (s : State) : KO 3070230528 s (execOpCanRecover r bus s) := by
  have hx : KM 3070230528 s s := KM.refl
  unfold execOpCanRecover
  repeat' first
    | with_reducible apply KO.next
    | with_reducible apply KO.fault
    | with_reducible assumption
    | (show _ ||| _ = _; decide)
    | with_reducible apply KM.app (g := State.doCanRecover_keeps ..)

theorem execBusoffDelayExpired_keeps (bus : Bus) (s : State) : KO 1140850691 s (execBusoffDelayExpired bus s) := by
  have hx : KM 1140850691 s s := KM.refl
  unfold execBusoffDelayExpired
  repeat' first
    | with_reducible apply KO.next
    | with_reducible apply KO.fault
    | with_reducible assumption
    | (show _ ||| _ = _; decide)
    | with_reducible apply KM.app (g := State.modCtl_keeps ..)
    | with_reducible apply KM.app (g := State.until_keeps ..)
    | (extract_lets +onlyGivenNames x; refine KM.let_ (m := 1140850691) (s := s) (x := x) ?_ ?_; all_goals first | (intro hx; clear_value x) | subst x)
    | (extract_lets +onlyGivenNames v; subst v)
    | split

theorem execOpCanRxRead_keeps (r : Req) (max : ℕ) (min : ℕ) (wait : ℕ) (fromOldest : Bool) (s : State) : KO 3137339392 s (execOpCanRxRead r max min wait fromOldest s) := by
  have hx : KM 3137339392 s s := KM.refl
  unfold execOpCanRxRead
  repeat' first
    | with_reducible apply KO.next
    | with_reducible apply KO.fault
    | with_reducible assumption
    | (show _ ||| _ = _; decide)
    | with_reducible apply KM.app (g := State.doCanRxRead_keeps ..)

theorem execRxDroppedReport_keeps (p : RxPortId) (s : State) : KO 3137339392 s (execRxDroppedReport p s) := by
  have hx : KM 3137339392 s s := KM.refl
  unfold execRxDroppedReport
  repeat' first
    | with_reducible apply KO.next
    | with_reducible apply KO.fault
    | with_reducible assumption
    | (show _ ||| _ = _; decide)
    | with_reducible apply KM.app (g := State.rxDropped_keeps ..)

theorem execMbErrorRate_keeps (bus : Bus) (s : State) : KO 3070230528 s (execMbErrorRate bus s) := by
  have hx : KM 3070230528 s s := KM.refl
  unfold execMbErrorRate
  repeat' first
    | with_reducible apply KO.next
    | with_reducible apply KO.fault
    | with_reducible assumption
    | (show _ ||| _ = _; decide)
    | with_reducible apply KM.app (g := State.errorSecond_keeps ..)

theorem execRateCandidateTimeout_keeps (bus : Bus) (s : State) : KO 1140850691 s (execRateCandidateTimeout bus s) := by
  have hx : KM 1140850691 s s := KM.refl
  unfold execRateCandidateTimeout
  repeat' first
    | with_reducible apply KO.next
    | with_reducible apply KO.fault
    | with_reducible assumption
    | (show _ ||| _ = _; decide)
    | with_reducible apply KM.app (g := State.modCtl_keeps ..)
    | with_reducible apply KM.app (g := State.until_keeps ..)
    | (extract_lets +onlyGivenNames x; refine KM.let_ (m := 1140850691) (s := s) (x := x) ?_ ?_; all_goals first | (intro hx; clear_value x) | subst x)
    | (extract_lets +onlyGivenNames v; subst v)
    | split

theorem execRequestCollision_keeps (s : State) : KO 3003121664 s (execRequestCollision s) := by
  have hx : KM 3003121664 s s := KM.refl
  unfold execRequestCollision
  repeat' first
    | with_reducible apply KO.next
    | with_reducible apply KO.fault
    | with_reducible assumption
    | (show _ ||| _ = _; decide)
    | with_reducible apply KM.app (g := State.modPanel_keeps ..)
    | with_reducible apply KM.app (g := State.collisionTick_keeps ..)
    | split

theorem execStretchLimit_keeps (cmd : List Byte) (s : State) : KO 4076863491 s (execStretchLimit cmd s) := by
  have hx : KM 4076863491 s s := KM.refl
  unfold execStretchLimit
  repeat' first
    | with_reducible apply KO.next
    | with_reducible apply KO.fault
    | with_reducible assumption
    | (show _ ||| _ = _; decide)
    | with_reducible apply KM.app (g := State.notTaken_keeps ..)
    | with_reducible apply KM.app (g := State.until_keeps ..)
    | split

theorem execIntercomInd_keeps (d : Doorway) (state : ℕ) (s : State) : KO 11593106688 s (execIntercomInd d state s) := by
  have hx : KM 11593106688 s s := KM.refl
  unfold execIntercomInd
  repeat' first
    | with_reducible apply KO.next
    | with_reducible apply KO.fault
    | with_reducible assumption
    | (show _ ||| _ = _; decide)
    | with_reducible apply KM.app (g := State.panelRow_keeps ..)

theorem execIntercomBlink_keeps (d : Doorway) (s : State) : KO 1610612739 s (execIntercomBlink d s) := by
  have hx : KM 1610612739 s s := KM.refl
  unfold execIntercomBlink
  repeat' first
    | with_reducible apply KO.next
    | with_reducible apply KO.fault
    | with_reducible assumption
    | (show _ ||| _ = _; decide)
    | with_reducible apply KM.app (g := State.blink_keeps ..)
    | with_reducible apply KM.app (g := State.until_keeps ..)
    | split

theorem execPanelWriteTransfer_keeps (bytes : List Byte) (s : State) : KO 11593106688 s (execPanelWriteTransfer bytes s) := by
  have hx : KM 11593106688 s s := KM.refl
  unfold execPanelWriteTransfer
  repeat' first
    | with_reducible apply KO.next
    | with_reducible apply KO.fault
    | with_reducible assumption
    | (show _ ||| _ = _; decide)
    | with_reducible apply KM.app (g := State.panelWrite_keeps ..)
    | with_reducible apply KM.app (g := State.refusedTick_keeps ..)
    | split

theorem execPbBusFree_keeps (s : State) : KO 3003121664 s (execPbBusFree s) := by
  have hx : KM 3003121664 s s := KM.refl
  unfold execPbBusFree
  repeat' first
    | with_reducible apply KO.next
    | with_reducible apply KO.fault
    | with_reducible assumption
    | (show _ ||| _ = _; decide)
    | with_reducible apply KM.app (g := State.modPanel_keeps ..)
    | with_reducible apply KM.app (g := State.raise_keeps ..)
    | split

theorem execPanelObstacle_keeps (d : Doorway) (s : State) : KO 11593106688 s (execPanelObstacle d s) := by
  have hx : KM 11593106688 s s := KM.refl
  unfold execPanelObstacle
  repeat' first
    | with_reducible apply KO.next
    | with_reducible apply KO.fault
    | with_reducible assumption
    | (show _ ||| _ = _; decide)
    | with_reducible apply KM.app (g := State.panelRow_keeps ..)

theorem execPbBusTimeout_keeps (s : State) : KO 3003121664 s (execPbBusTimeout s) := by
  have hx : KM 3003121664 s s := KM.refl
  unfold execPbBusTimeout
  repeat' first
    | with_reducible apply KO.next
    | with_reducible apply KO.fault
    | with_reducible assumption
    | (show _ ||| _ = _; decide)
    | with_reducible apply KM.app (g := State.modPanel_keeps ..)
    | with_reducible apply KM.app (g := State.raise_keeps ..)
    | split

theorem execPbBusStuck_keeps (lines : ℕ) (s : State) : KO 3003121664 s (execPbBusStuck lines s) := by
  have hx : KM 3003121664 s s := KM.refl
  unfold execPbBusStuck
  repeat' first
    | with_reducible apply KO.next
    | with_reducible apply KO.fault
    | with_reducible assumption
    | (show _ ||| _ = _; decide)
    | with_reducible apply KM.app (g := State.modPanel_keeps ..)
    | with_reducible apply KM.app (g := State.raise_keeps ..)
    | split

theorem execAccessReq_keeps (d : Doorway) (s : State) : KO 11593106688 s (execAccessReq d s) := by
  have hx : KM 11593106688 s s := KM.refl
  unfold execAccessReq
  repeat' first
    | with_reducible apply KO.next
    | with_reducible apply KO.fault
    | with_reducible assumption
    | (show _ ||| _ = _; decide)
    | with_reducible apply KM.app (g := State.panelRow_keeps ..)

theorem execPanelReadTransfer_keeps (count : ℕ) (stop : Bool) (s : State) : KO 536870912 s (execPanelReadTransfer count stop s) := by
  have hx : KM 536870912 s s := KM.refl
  unfold execPanelReadTransfer
  repeat' first
    | with_reducible apply KO.next
    | with_reducible apply KO.fault
    | with_reducible assumption
    | (show _ ||| _ = _; decide)
    | with_reducible apply KM.app (g := State.modPanel_keeps ..)
    | (extract_lets +onlyGivenNames x; refine KM.let_ (m := 536870912) (s := s) (x := x) ?_ ?_; all_goals first | (intro hx; clear_value x) | subst x)
    | (extract_lets +onlyGivenNames v; subst v)
    | split

theorem execPanelAddrPoll_keeps (pins : BitVec 4) (s : State) : KO 3003121664 s (execPanelAddrPoll pins s) := by
  have hx : KM 3003121664 s s := KM.refl
  unfold execPanelAddrPoll
  repeat' first
    | with_reducible apply KO.next
    | with_reducible apply KO.fault
    | with_reducible assumption
    | (show _ ||| _ = _; decide)
    | with_reducible apply KM.app (g := State.modPanel_keeps ..)
    | with_reducible apply KM.app (g := State.raise_keeps ..)
    | (extract_lets +onlyGivenNames x; refine KM.let_ (m := 3003121664) (s := s) (x := x) ?_ ?_; all_goals first | (intro hx; clear_value x) | subst x)
    | (extract_lets +onlyGivenNames v; subst v)
    | split

theorem execPanelRequest_keeps (s : State) : KO 536870912 s (execPanelRequest s) := by
  have hx : KM 536870912 s s := KM.refl
  unfold execPanelRequest
  repeat' first
    | with_reducible apply KO.next
    | with_reducible apply KO.fault
    | with_reducible assumption
    | (show _ ||| _ = _; decide)
    | with_reducible apply KM.app (g := State.modPanel_keeps ..)
    | split

theorem execOpSchedCancel_keeps (r : Req) (hseq : BitVec 32) (s : State) : KO 4076863488 s (execOpSchedCancel r hseq s) := by
  have hx : KM 4076863488 s s := KM.refl
  unfold execOpSchedCancel
  repeat' first
    | with_reducible apply KO.next
    | with_reducible apply KO.fault
    | with_reducible assumption
    | (show _ ||| _ = _; decide)
    | with_reducible apply KM.app (g := State.doSchedCancel_keeps ..)

theorem execTpiEdge_keeps (stamp : BitVec 48) (width : ℕ) (s : State) : KO 4076863488 s (execTpiEdge stamp width s) := by
  have hx : KM 4076863488 s s := KM.refl
  unfold execTpiEdge
  repeat' first
    | with_reducible apply KO.next
    | with_reducible apply KO.fault
    | with_reducible assumption
    | (show _ ||| _ = _; decide)
    | with_reducible apply KM.app (g := State.tpiAccept_keeps ..)
    | with_reducible apply KM.app (g := State.tpiFault_keeps ..)
    | (extract_lets +onlyGivenNames x; refine KM.let_ (m := 4076863488) (s := s) (x := x) ?_ ?_; all_goals first | (intro hx; clear_value x) | subst x)
    | (extract_lets +onlyGivenNames v; subst v)
    | split

theorem execSourceLoss_keeps (src : TimeSrcId) (s : State) : KO 4076863491 s (execSourceLoss src s) := by
  have hx : KM 4076863491 s s := KM.refl
  unfold execSourceLoss
  repeat' first
    | with_reducible apply KO.next
    | with_reducible apply KO.fault
    | with_reducible assumption
    | (show _ ||| _ = _; decide)
    | with_reducible apply KM.app (g := State.sourceLost_keeps ..)
    | with_reducible apply KM.app (g := State.until_keeps ..)
    | split

theorem execTimeFrame_keeps (stamp : BitVec 48) (data : List Byte) (s : State) : KO 4211081216 s (execTimeFrame stamp data s) := by
  have hx : KM 4211081216 s s := KM.refl
  unfold execTimeFrame
  repeat' first
    | with_reducible apply KO.next
    | with_reducible apply KO.fault
    | with_reducible assumption
    | (show _ ||| _ = _; decide)
    | with_reducible apply KM.app (g := State.timeFrame_keeps ..)
    | with_reducible apply KM.app (g := State.acceptFrame_keeps ..)
    | split

theorem execOffsetMeasure_keeps (s : State) : KO 4076863492 s (execOffsetMeasure s) := by
  have hx : KM 4076863492 s s := KM.refl
  unfold execOffsetMeasure
  repeat' first
    | with_reducible apply KO.next
    | with_reducible apply KO.fault
    | with_reducible assumption
    | (show _ ||| _ = _; decide)
    | with_reducible apply KM.app (g := State.measure_keeps ..)

theorem execOpTimeSet_keeps (r : Req) (tai : ℕ) (tick : BitVec 32) (err : ℕ) (taiUtc : ℕ) (s : State) : KO 4076863492 s (execOpTimeSet r tai tick err taiUtc s) := by
  have hx : KM 4076863492 s s := KM.refl
  unfold execOpTimeSet
  repeat' first
    | with_reducible apply KO.next
    | with_reducible apply KO.fault
    | with_reducible assumption
    | (show _ ||| _ = _; decide)
    | with_reducible apply KM.app (g := State.doTimeSet_keeps ..)

theorem execTimeStep_keeps (s : State) : KO 4076863488 s (execTimeStep s) := by
  have hx : KM 4076863488 s s := KM.refl
  unfold execTimeStep
  repeat' first
    | with_reducible apply KO.next
    | with_reducible apply KO.fault
    | with_reducible assumption
    | (show _ ||| _ = _; decide)
    | with_reducible apply KM.app (g := State.stepTick_keeps ..)

theorem execHostRefreshExpired_keeps (s : State) : KO 4076863491 s (execHostRefreshExpired s) := by
  have hx : KM 4076863491 s s := KM.refl
  unfold execHostRefreshExpired
  repeat' first
    | with_reducible apply KO.next
    | with_reducible apply KO.fault
    | with_reducible assumption
    | (show _ ||| _ = _; decide)
    | with_reducible apply KM.app (g := State.judgeTime_keeps ..)
    | with_reducible apply KM.app (g := State.until_keeps ..)
    | with_reducible apply KM.app (g := State.sourceInvalid_keeps ..)
    | split

theorem execSchedExec_keeps (p : PortId) (hseq : BitVec 32) (s : State) : KO 4076864515 s (execSchedExec p hseq s) := by
  have hx : KM 4076864515 s s := KM.refl
  unfold execSchedExec
  repeat' first
    | with_reducible apply KO.next
    | with_reducible apply KO.fault
    | with_reducible assumption
    | (show _ ||| _ = _; decide)
    | with_reducible apply KM.app (g := State.runSched_keeps ..)
    | with_reducible apply KM.app (g := State.pass_keeps ..)
    | split

theorem execOpTimeRead_keeps (r : Req) (s : State) : KO 3003121664 s (execOpTimeRead r s) := by
  have hx : KM 3003121664 s s := KM.refl
  unfold execOpTimeRead
  repeat' first
    | with_reducible apply KO.next
    | with_reducible apply KO.fault
    | with_reducible assumption
    | (show _ ||| _ = _; decide)
    | with_reducible apply KM.app (g := State.doTimeRead_keeps ..)

theorem execTpoPulse_keeps (s : State) : KO 1073741827 s (execTpoPulse s) := by
  have hx : KM 1073741827 s s := KM.refl
  unfold execTpoPulse
  repeat' first
    | with_reducible apply KO.next
    | with_reducible apply KO.fault
    | with_reducible assumption
    | (show _ ||| _ = _; decide)
    | with_reducible apply KM.app (g := State.tpoRise_keeps ..)
    | with_reducible apply KM.app (g := State.pass_keeps ..)
    | (extract_lets +onlyGivenNames x; refine KM.let_ (m := 1073741827) (s := s) (x := x) ?_ ?_; all_goals first | (intro hx; clear_value x) | subst x)
    | (extract_lets +onlyGivenNames v; subst v)

theorem execRetainCopyDone_keeps (s : State) : KO 15888023552 s (execRetainCopyDone s) := by
  have hx : KM 15888023552 s s := KM.refl
  unfold execRetainCopyDone
  repeat' first
    | with_reducible apply KO.next
    | with_reducible apply KO.fault
    | with_reducible assumption
    | intro hx
    | ((with_reducible apply Lit.mk); intro p hp; first | (cases p <;> first | exact absurd hp (by decide) | exact rfl) | (split <;> cases p <;> first | exact absurd hp (by decide) | exact rfl) | (split <;> split <;> cases p <;> first | exact absurd hp (by decide) | exact rfl))
    | (show _ ||| _ = _; decide)
    | with_reducible apply KM.app (g := State.retainOn_keeps ..)
    | with_reducible apply KM.app (g := State.raise_keeps ..)
    | with_reducible apply KM.app (g := State.ok_keeps ..)
    | with_reducible apply KM.modJournal
    | (extract_lets +onlyGivenNames x; refine KM.let_ (m := 15888023552) (s := s) (x := x) ?_ ?_; all_goals first | (intro hx; clear_value x) | subst x)
    | (extract_lets +onlyGivenNames v; subst v)
    | split

theorem execOpJournalStatus_keeps (r : Req) (s : State) : KO 3003121664 s (execOpJournalStatus r s) := by
  have hx : KM 3003121664 s s := KM.refl
  unfold execOpJournalStatus
  repeat' first
    | with_reducible apply KO.next
    | with_reducible apply KO.fault
    | with_reducible assumption
    | (show _ ||| _ = _; decide)
    | with_reducible apply KM.app (g := State.doJournalStatus_keeps ..)

theorem execJournalGapRecord_keeps (s : State) : KO 2147483648 s (execJournalGapRecord s) := by
  have hx : KM 2147483648 s s := KM.refl
  unfold execJournalGapRecord
  repeat' first
    | with_reducible apply KO.next
    | with_reducible apply KO.fault
    | with_reducible assumption
    | (show _ ||| _ = _; decide)
    | with_reducible apply KM.app (g := State.gapRecord_keeps ..)

theorem execJournalReadWaitExpired_keeps (reader : Fin 4) (s : State) : KO 12666798083 s (execJournalReadWaitExpired reader s) := by
  have hx : KM 12666798083 s s := KM.refl
  unfold execJournalReadWaitExpired
  repeat' first
    | with_reducible apply KO.next
    | with_reducible apply KO.fault
    | with_reducible assumption
    | (show _ ||| _ = _; decide)
    | with_reducible apply KM.app (g := State.until_keeps ..)
    | with_reducible apply KM.app (g := State.endWait_keeps ..)
    | split

theorem execOpJournalRead_keeps (r : Req) (reader : ℕ) (mode : ℕ) (area : ℕ) (typeMask : ℕ) (doorId : ℕ) (count : ℕ) (start : ℕ) (wait : ℕ) (bad : List ℕ) (s : State) : KO 11593056256 s (execOpJournalRead r reader mode area typeMask doorId count start wait bad s) := by
  have hx : KM 11593056256 s s := KM.refl
  unfold execOpJournalRead
  repeat' first
    | with_reducible apply KO.next
    | with_reducible apply KO.fault
    | with_reducible assumption
    | (show _ ||| _ = _; decide)
    | with_reducible apply KM.app (g := State.doJournalRead_keeps ..)

theorem execJournalProgramDone_keeps (core : CoreId) (good : Bool) (page : ℕ) (plane : ℕ) (blockBad : Bool) (s : State) : KO 15892217856 s (execJournalProgramDone core good page plane blockBad s) := by
  have hx : KM 15892217856 s s := KM.refl
  unfold execJournalProgramDone
  repeat' first
    | with_reducible apply KO.next
    | with_reducible apply KO.fault
    | with_reducible assumption
    | (show _ ||| _ = _; decide)
    | with_reducible apply KM.app (g := State.programGood_keeps ..)
    | with_reducible apply KM.app (g := State.waitingTick_keeps ..)
    | with_reducible apply KM.app (g := State.programBad_keeps ..)
    | split

theorem execOpJournalRelease_keeps (r : Req) (s : State) : KO 7298088960 s (execOpJournalRelease r s) := by
  have hx : KM 7298088960 s s := KM.refl
  unfold execOpJournalRelease
  repeat' first
    | with_reducible apply KO.next
    | with_reducible apply KO.fault
    | with_reducible assumption
    | (show _ ||| _ = _; decide)
    | with_reducible apply KM.app (g := State.doJournalRelease_keeps ..)

theorem execPriorityTailProgram_keeps (core : CoreId) (s : State) : KO 5368709123 s (execPriorityTailProgram core s) := by
  have hx : KM 5368709123 s s := KM.refl
  unfold execPriorityTailProgram
  repeat' first
    | with_reducible apply KO.next
    | with_reducible apply KO.fault
    | with_reducible assumption
    | (show _ ||| _ = _; decide)
    | with_reducible apply KM.app (g := State.until_keeps ..)
    | with_reducible apply KM.app (g := State.startProgram_keeps ..)
    | split

theorem execOpJournalNote_keeps (r : Req) (code : BitVec 16) (text : List Byte) (s : State) : KO 11593056256 s (execOpJournalNote r code text s) := by
  have hx : KM 11593056256 s s := KM.refl
  unfold execOpJournalNote
  repeat' first
    | with_reducible apply KO.next
    | with_reducible apply KO.fault
    | with_reducible assumption
    | (show _ ||| _ = _; decide)
    | with_reducible apply KM.app (g := State.doJournalNote_keeps ..)

theorem execOpJournalRetain_keeps (r : Req) (first : ℕ) (count : ℕ) (s : State) : KO 11593056256 s (execOpJournalRetain r first count s) := by
  have hx : KM 11593056256 s s := KM.refl
  unfold execOpJournalRetain
  repeat' first
    | with_reducible apply KO.next
    | with_reducible apply KO.fault
    | with_reducible assumption
    | (show _ ||| _ = _; decide)
    | with_reducible apply KM.app (g := State.doJournalRetain_keeps ..)

theorem execOrdinaryWaitExpired_keeps (core : CoreId) (s : State) : KO 5368709123 s (execOrdinaryWaitExpired core s) := by
  have hx : KM 5368709123 s s := KM.refl
  unfold execOrdinaryWaitExpired
  repeat' first
    | with_reducible apply KO.next
    | with_reducible apply KO.fault
    | with_reducible assumption
    | (show _ ||| _ = _; decide)
    | with_reducible apply KM.app (g := State.until_keeps ..)
    | with_reducible apply KM.app (g := State.startProgram_keeps ..)
    | split

theorem execOpCoreHandover_keeps (r : Req) (s : State) : KO 3011510272 s (execOpCoreHandover r s) := by
  have hx : KM 3011510272 s s := KM.refl
  unfold execOpCoreHandover
  repeat' first
    | with_reducible apply KO.next
    | with_reducible apply KO.fault
    | with_reducible assumption
    | (show _ ||| _ = _; decide)
    | with_reducible apply KM.app (g := State.doCoreHandover_keeps ..)

theorem execTakeover_keeps (s : State) : KO 64286213024 s (execTakeover s) := by
  have hx : KM 64286213024 s s := KM.refl
  unfold execTakeover
  repeat' first
    | with_reducible apply KO.next
    | with_reducible apply KO.fault
    | with_reducible assumption
    | (show _ ||| _ = _; decide)
    | with_reducible apply KM.app (g := State.takeover_keeps ..)
    | split

theorem execMirrorLost_keeps (s : State) : KO 3011514368 s (execMirrorLost s) := by
  have hx : KM 3011514368 s s := KM.refl
  unfold execMirrorLost
  repeat' first
    | with_reducible apply KO.next
    | with_reducible apply KO.fault
    | with_reducible assumption
    | (show _ ||| _ = _; decide)
    | with_reducible apply KM.app (g := State.standbyBecomes_keeps ..)
    | with_reducible apply KM.app (g := State.raise_keeps ..)
    | split

theorem execCoreFault_keeps (core : CoreId) (cause : ℕ) (s : State) : KO 3018330144 s (execCoreFault core cause s) := by
  have hx : KM 3018330144 s s := KM.refl
  unfold execCoreFault
  repeat' first
    | with_reducible apply KO.next
    | with_reducible apply KO.fault
    | with_reducible assumption
    | (show _ ||| _ = _; decide)
    | with_reducible apply KM.app (g := State.standbyBecomes_keeps ..)
    | with_reducible apply KM.app (g := State.coreSilent_keeps ..)
    | with_reducible apply KM.app (g := State.coreFaultEvent_keeps ..)
    | with_reducible apply KM.app (g := State.bothSilent_keeps ..)
    | split

theorem execStandbyInStep_keeps (s : State) : KO 3011514368 s (execStandbyInStep s) := by
  have hx : KM 3011514368 s s := KM.refl
  unfold execStandbyInStep
  repeat' first
    | with_reducible apply KO.next
    | with_reducible apply KO.fault
    | with_reducible assumption
    | (show _ ||| _ = _; decide)
    | with_reducible apply KM.app (g := State.standbyBecomes_keeps ..)
    | split

theorem execStandbyAckLost_keeps (s : State) : KO 3011514368 s (execStandbyAckLost s) := by
  have hx : KM 3011514368 s s := KM.refl
  unfold execStandbyAckLost
  repeat' first
    | with_reducible apply KO.next
    | with_reducible apply KO.fault
    | with_reducible assumption
    | (show _ ||| _ = _; decide)
    | with_reducible apply KM.app (g := State.standbyBecomes_keeps ..)
    | split

theorem execTickFault_keeps (s : State) : KO 3003121664 s (execTickFault s) := by
  have hx : KM 3003121664 s s := KM.refl
  unfold execTickFault
  repeat' first
    | with_reducible apply KO.next
    | with_reducible apply KO.fault
    | with_reducible assumption
    | (show _ ||| _ = _; decide)
    | with_reducible apply KM.app (g := State.raise_keeps ..)
    | split

theorem execMirrorFrame_keeps (frame : List Byte) (s : State) : KO 25560092688 s (execMirrorFrame frame s) := by
  have hx : KM 25560092688 s s := KM.refl
  unfold execMirrorFrame
  repeat' first
    | with_reducible apply KO.next
    | with_reducible apply KO.fault
    | with_reducible assumption
    | (show _ ||| _ = _; decide)
    | with_reducible apply KM.app (g := State.mirrorFrame_keeps ..)

theorem execPlannedHandover_keeps (acknowledged : Bool) (s : State) : KO 34221326368 s (execPlannedHandover acknowledged s) := by
  have hx : KM 34221326368 s s := KM.refl
  unfold execPlannedHandover
  repeat' first
    | with_reducible apply KO.next
    | with_reducible apply KO.fault
    | with_reducible assumption
    | (show _ ||| _ = _; decide)
    | with_reducible apply KM.app (g := State.plannedHandover_keeps ..)

theorem execCoverageHandover_keeps (s : State) : KO 3011510272 s (execCoverageHandover s) := by
  have hx : KM 3011510272 s s := KM.refl
  unfold execCoverageHandover
  repeat' first
    | with_reducible apply KO.next
    | with_reducible apply KO.fault
    | with_reducible assumption
    | (show _ ||| _ = _; decide)
    | with_reducible apply KM.app (g := State.coverageTrigger_keeps ..)
    | split

theorem execReturnFrame_keeps (frame : List Byte) (s : State) : KO 11605643312 s (execReturnFrame frame s) := by
  have hx : KM 11605643312 s s := KM.refl
  unfold execReturnFrame
  repeat' first
    | with_reducible apply KO.next
    | with_reducible apply KO.fault
    | with_reducible assumption
    | (show _ ||| _ = _; decide)
    | with_reducible apply KM.app (g := State.returnFrame_keeps ..)

theorem execHostLinkGrace_keeps (s : State) : KO 4085252099 s (execHostLinkGrace s) := by
  have hx : KM 4085252099 s s := KM.refl
  unfold execHostLinkGrace
  repeat' first
    | with_reducible apply KO.next
    | with_reducible apply KO.fault
    | with_reducible assumption
    | (show _ ||| _ = _; decide)
    | with_reducible apply KM.app (g := State.coverageTrigger_keeps ..)
    | with_reducible apply KM.app (g := State.until_keeps ..)
    | split

theorem execChargePumpExpired_keeps (core : CoreId) (s : State) : KO 4076867587 s (execChargePumpExpired core s) := by
  have hx : KM 4076867587 s s := KM.refl
  unfold execChargePumpExpired
  repeat' first
    | with_reducible apply KO.next
    | with_reducible apply KO.fault
    | with_reducible assumption
    | (show _ ||| _ = _; decide)
    | with_reducible apply KM.app (g := State.loopDrop_keeps ..)
    | with_reducible apply KM.app (g := State.until_keeps ..)
    | split

theorem execDualActive_keeps (how : ℕ) (s : State) : KO 21336428576 s (execDualActive how s) := by
  have hx : KM 21336428576 s s := KM.refl
  unfold execDualActive
  repeat' first
    | with_reducible apply KO.next
    | with_reducible apply KO.fault
    | with_reducible assumption
    | intro hx
    | ((with_reducible apply Lit.mk); intro p hp; first | (cases p <;> first | exact absurd hp (by decide) | exact rfl) | (split <;> cases p <;> first | exact absurd hp (by decide) | exact rfl) | (split <;> split <;> cases p <;> first | exact absurd hp (by decide) | exact rfl))
    | (show _ ||| _ = _; decide)
    | with_reducible apply KM.app (g := State.roleChange_keeps ..)
    | with_reducible apply KM.app (g := State.standbyBecomes_keeps ..)
    | with_reducible apply KM.app (g := State.raise_keeps ..)
    | with_reducible apply KM.modPair
    | (extract_lets +onlyGivenNames x; refine KM.let_ (m := 21336428576) (s := s) (x := x) ?_ ?_; all_goals first | (intro hx; clear_value x) | subst x)
    | (extract_lets +onlyGivenNames v; subst v)
    | split

theorem execCoreRestart_keeps (core : CoreId) (s : State) : KO 4089450499 s (execCoreRestart core s) := by
  have hx : KM 4089450499 s s := KM.refl
  unfold execCoreRestart
  repeat' first
    | with_reducible apply KO.next
    | with_reducible apply KO.fault
    | with_reducible assumption
    | (show _ ||| _ = _; decide)
    | with_reducible apply KM.app (g := State.coreStarts_keeps ..)
    | with_reducible apply KM.app (g := State.modCore_keeps ..)
    | with_reducible apply KM.app (g := State.until_keeps ..)
    | (extract_lets +onlyGivenNames x; refine KM.let_ (m := 4089450499) (s := s) (x := x) ?_ ?_; all_goals first | (intro hx; clear_value x) | subst x)
    | (extract_lets +onlyGivenNames v; subst v)
    | split

theorem execHostGraceExpired_keeps (slot : Slot) (s : State) : KO 12683548579 s (execHostGraceExpired slot s) := by
  have hx : KM 12683548579 s s := KM.refl
  unfold execHostGraceExpired
  repeat' first
    | with_reducible apply KO.next
    | with_reducible apply KO.fault
    | with_reducible assumption
    | (show _ ||| _ = _; decide)
    | with_reducible apply KM.app (g := State.modSlot_keeps ..)
    | with_reducible apply KM.app (g := State.finishRemoval_keeps ..)
    | with_reducible apply KM.app (g := State.until_keeps ..)
    | split

theorem execOpReleaseClaims_keeps (r : Req) (codes : List (BitVec 32)) (s : State) : KO 12683548576 s (execOpReleaseClaims r codes s) := by
  have hx : KM 12683548576 s s := KM.refl
  unfold execOpReleaseClaims
  repeat' first
    | with_reducible apply KO.next
    | with_reducible apply KO.fault
    | with_reducible assumption
    | (show _ ||| _ = _; decide)
    | with_reducible apply KM.app (g := State.releaseClaims_keeps ..)

theorem execRemovalComplete_keeps (slot : Slot) (s : State) : KO 12683548579 s (execRemovalComplete slot s) := by
  have hx : KM 12683548579 s s := KM.refl
  unfold execRemovalComplete
  repeat' first
    | with_reducible apply KO.next
    | with_reducible apply KO.fault
    | with_reducible assumption
    | (show _ ||| _ = _; decide)
    | with_reducible apply KM.app (g := State.removalComplete_keeps ..)

theorem execLatchFault_keeps (slot : Slot) (s : State) : KO 3003121696 s (execLatchFault slot s) := by
  have hx : KM 3003121696 s s := KM.refl
  unfold execLatchFault
  repeat' first
    | with_reducible apply KO.next
    | with_reducible apply KO.fault
    | with_reducible assumption
    | (show _ ||| _ = _; decide)
    | with_reducible apply KM.app (g := State.modSlot_keeps ..)
    | with_reducible apply KM.app (g := State.raise_keeps ..)
    | split

theorem execUnannouncedPull_keeps (slot : Slot) (s : State) : KO 64223156128 s (execUnannouncedPull slot s) := by
  have hx : KM 64223156128 s s := KM.refl
  unfold execUnannouncedPull
  repeat' first
    | with_reducible apply KO.next
    | with_reducible apply KO.fault
    | with_reducible assumption
    | (show _ ||| _ = _; decide)
    | with_reducible apply KM.app (g := State.emptySlot_keeps ..)
    | with_reducible apply KM.app (g := State.raise_keeps ..)
    | with_reducible apply KM.app (g := State.unannounced_keeps ..)
    | split

theorem execOpServiceDrop_keeps (r : Req) (slot : Slot) (s : State) : KO 20182990880 s (execOpServiceDrop r slot s) := by
  have hx : KM 20182990880 s s := KM.refl
  unfold execOpServiceDrop
  repeat' first
    | with_reducible apply KO.next
    | with_reducible apply KO.fault
    | with_reducible assumption
    | (show _ ||| _ = _; decide)
    | with_reducible apply KM.app (g := State.doServiceDrop_keeps ..)

theorem execRemoveCancelled_keeps (slot : Slot) (s : State) : KO 29863024544 s (execRemoveCancelled slot s) := by
  have hx : KM 29863024544 s s := KM.refl
  unfold execRemoveCancelled
  repeat' first
    | with_reducible apply KO.next
    | with_reducible apply KO.fault
    | with_reducible assumption
    | (show _ ||| _ = _; decide)
    | with_reducible apply KM.app (g := State.cancelRemoval_keeps ..)

theorem execLatchReopenConfirm_keeps (slot : Slot) (s : State) : KO 20182990880 s (execLatchReopenConfirm slot s) := by
  have hx : KM 20182990880 s s := KM.refl
  unfold execLatchReopenConfirm
  repeat' first
    | with_reducible apply KO.next
    | with_reducible apply KO.fault
    | with_reducible assumption
    | (show _ ||| _ = _; decide)
    | with_reducible apply KM.app (g := State.openLatch_keeps ..)

theorem execRemoveGateMet_keeps (slot : Slot) (s : State) : KO 11605087008 s (execRemoveGateMet slot s) := by
  have hx : KM 11605087008 s s := KM.refl
  unfold execRemoveGateMet
  repeat' first
    | with_reducible apply KO.next
    | with_reducible apply KO.fault
    | with_reducible assumption
    | (show _ ||| _ = _; decide)
    | with_reducible apply KM.app (g := State.evalRemoval_keeps ..)

theorem execModuleRemoved_keeps (slot : Slot) (s : State) : KO 64223156128 s (execModuleRemoved slot s) := by
  have hx : KM 64223156128 s s := KM.refl
  unfold execModuleRemoved
  repeat' first
    | with_reducible apply KO.next
    | with_reducible apply KO.fault
    | with_reducible assumption
    | (show _ ||| _ = _; decide)
    | with_reducible apply KM.app (g := State.emptySlot_keeps ..)
    | with_reducible apply KM.app (g := State.raise_keeps ..)
    | with_reducible apply KM.app (g := State.unannounced_keeps ..)
    | split

theorem execRemoveRequest_keeps (slot : Slot) (s : State) : KO 20182990880 s (execRemoveRequest slot s) := by
  have hx : KM 20182990880 s s := KM.refl
  unfold execRemoveRequest
  repeat' first
    | with_reducible apply KO.next
    | with_reducible apply KO.fault
    | with_reducible assumption
    | (show _ ||| _ = _; decide)
    | with_reducible apply KM.app (g := State.openLatch_keeps ..)

theorem execPwrWakeCauseClear_keeps (_p : HostPort) (core : CoreId) (v : BitVec 32) (s : State) : KO 2097152 s (execPwrWakeCauseClear _p core v s) := by
  have hx : KM 2097152 s s := KM.refl
  unfold execPwrWakeCauseClear
  repeat' first
    | with_reducible apply KO.next
    | with_reducible apply KO.fault
    | with_reducible assumption
    | (show _ ||| _ = _; decide)
    | with_reducible apply KM.app (g := State.writeWakeCause_keeps ..)

theorem execOpWait_keeps (r : Req) (target : ℕ) (alarm : ℕ) (s : State) : KO 80315154432 s (execOpWait r target alarm s) := by
  have hx : KM 80315154432 s s := KM.refl
  unfold execOpWait
  repeat' first
    | with_reducible apply KO.next
    | with_reducible apply KO.fault
    | with_reducible assumption
    | (show _ ||| _ = _; decide)
    | with_reducible apply KM.app (g := State.doWait_keeps ..)

theorem execWakeFailRepeat_keeps (s : State) : KO 1344274435 s (execWakeFailRepeat s) := by
  have hx : KM 1344274435 s s := KM.refl
  unfold execWakeFailRepeat
  repeat' first
    | with_reducible apply KO.next
    | with_reducible apply KO.fault
    | with_reducible assumption
    | (show _ ||| _ = _; decide)
    | with_reducible apply KM.app (g := State.wakeFailMessage_keeps ..)
    | with_reducible apply KM.app (g := State.until_keeps ..)
    | with_reducible apply KM.app (g := State.modPower_keeps ..)
    | (extract_lets +onlyGivenNames x; refine KM.let_ (m := 1344274435) (s := s) (x := x) ?_ ?_; all_goals first | (intro hx; clear_value x) | subst x)
    | (extract_lets +onlyGivenNames v; subst v)
    | split

theorem execHoldAutoRelease_keeps (s : State) : KO 4079878147 s (execHoldAutoRelease s) := by
  have hx : KM 4079878147 s s := KM.refl
  unfold execHoldAutoRelease
  repeat' first
    | with_reducible apply KO.next
    | with_reducible apply KO.fault
    | with_reducible assumption
    | (show _ ||| _ = _; decide)
    | with_reducible apply KM.app (g := State.until_keeps ..)
    | with_reducible apply KM.app (g := State.releaseHold_keeps ..)
    | split

theorem execPwrModeConsent_keeps (p : HostPort) (core : CoreId) (v : BitVec 32) (s : State) : KO 80315547648 s (execPwrModeConsent p core v s) := by
  have hx : KM 80315547648 s s := KM.refl
  unfold execPwrModeConsent
  repeat' first
    | with_reducible apply KO.next
    | with_reducible apply KO.fault
    | with_reducible assumption
    | (show _ ||| _ = _; decide)
    | with_reducible apply KM.app (g := State.writePwrMode_keeps ..)

theorem execEntryWindowEnd_keeps (wk : Byte) (s : State) : KO 38451941411 s (execEntryWindowEnd wk s) := by
  have hx : KM 38451941411 s s := KM.refl
  unfold execEntryWindowEnd
  repeat' first
    | with_reducible apply KO.next
    | with_reducible apply KO.fault
    | with_reducible assumption
    | (show _ ||| _ = _; decide)
    | with_reducible apply KM.app (g := State.beginWake_keeps ..)
    | with_reducible apply KM.app (g := State.lowPower_keeps ..)
    | with_reducible apply KM.app (g := State.until_keeps ..)
    | with_reducible apply KM.app (g := State.modPower_keeps ..)
    | with_reducible apply KM.app (g := State.wakeBy_keeps ..)
    | (extract_lets +onlyGivenNames x; refine KM.let_ (m := 38451941411) (s := s) (x := x) ?_ ?_; all_goals first | (intro hx; clear_value x) | subst x)
    | (extract_lets +onlyGivenNames v; subst v)
    | split

theorem execOpReleaseHold_keeps (r : Req) (s : State) : KO 3006136320 s (execOpReleaseHold r s) := by
  have hx : KM 3006136320 s s := KM.refl
  unfold execOpReleaseHold
  repeat' first
    | with_reducible apply KO.next
    | with_reducible apply KO.fault
    | with_reducible assumption
    | (show _ ||| _ = _; decide)
    | with_reducible apply KM.app (g := State.doReleaseHold_keeps ..)

theorem execWakeEvent_keeps (causes : BitVec 32) (retentionFailed : Bool) (slept : ℕ) (s : State) : KO 38452203555 s (execWakeEvent causes retentionFailed slept s) := by
  have hx : KM 38452203555 s s := KM.refl
  unfold execWakeEvent
  repeat' first
    | with_reducible apply KO.next
    | with_reducible apply KO.fault
    | with_reducible assumption
    | (show _ ||| _ = _; decide)
    | with_reducible apply KM.app (g := State.abortEntry_keeps ..)
    | with_reducible apply KM.app (g := State.until_keeps ..)
    | with_reducible apply KM.app (g := State.wakeBy_keeps ..)
    | split

theorem execEntryStepEnd_keeps (s : State) : KO 51400643363 s (execEntryStepEnd s) := by
  have hx : KM 51400643363 s s := KM.refl
  unfold execEntryStepEnd
  repeat' first
    | with_reducible apply KO.next
    | with_reducible apply KO.fault
    | with_reducible assumption
    | (show _ ||| _ = _; decide)
    | with_reducible apply KM.app (g := State.endEntryStep_keeps ..)
    | with_reducible apply KM.app (g := State.until_keeps ..)
    | split

theorem execTlConsent_keeps (s : State) : KO 81388896259 s (execTlConsent s) := by
  have hx : KM 81388896259 s s := KM.refl
  unfold execTlConsent
  repeat' first
    | with_reducible apply KO.next
    | with_reducible apply KO.fault
    | with_reducible assumption
    | (show _ ||| _ = _; decide)
    | with_reducible apply KM.app (g := State.tryEntry_keeps ..)
    | with_reducible apply KM.app (g := State.tlIdleTick_keeps ..)
    | with_reducible apply KM.app (g := State.noteConsent_keeps ..)
    | with_reducible apply KM.app (g := State.until_keeps ..)
    | (extract_lets +onlyGivenNames x; refine KM.let_ (m := 81388896259) (s := s) (x := x) ?_ ?_; all_goals first | (intro hx; clear_value x) | subst x)
    | (extract_lets +onlyGivenNames v; subst v)
    | split

theorem execEntryAborted_keeps (cause : ℕ) (s : State) : KO 3006136320 s (execEntryAborted cause s) := by
  have hx : KM 3006136320 s s := KM.refl
  unfold execEntryAborted
  repeat' first
    | with_reducible apply KO.next
    | with_reducible apply KO.fault
    | with_reducible assumption
    | (show _ ||| _ = _; decide)
    | with_reducible apply KM.app (g := State.abortEntry_keeps ..)

theorem execWakeFrame_keeps (f : CanFrame) (slept : ℕ) (s : State) : KO 38452203555 s (execWakeFrame f slept s) := by
  have hx : KM 38452203555 s s := KM.refl
  unfold execWakeFrame
  repeat' first
    | with_reducible apply KO.next
    | with_reducible apply KO.fault
    | with_reducible assumption
    | (show _ ||| _ = _; decide)
    | with_reducible apply KM.app (g := State.abortEntry_keeps ..)
    | with_reducible apply KM.app (g := State.until_keeps ..)
    | with_reducible apply KM.app (g := State.wakeBy_keeps ..)
    | split

theorem execMemoryFrame_keeps (slot : Slot) (_core : CoreId) (frame : List Byte) (s : State) : KO 17181376512 s (execMemoryFrame slot _core frame s) := by
  have hx : KM 17181376512 s s := KM.refl
  unfold execMemoryFrame
  repeat' first
    | with_reducible apply KO.next
    | with_reducible apply KO.fault
    | with_reducible assumption
    | (show _ ||| _ = _; decide)
    | with_reducible apply KM.app (g := State.commanded_keeps ..)
    | with_reducible apply KM.app (g := State.memoryRequest_keeps ..)
    | split

theorem execOpUpdateStatus_keeps (r : Req) (s : State) : KO 3003121664 s (execOpUpdateStatus r s) := by
  have hx : KM 3003121664 s s := KM.refl
  unfold execOpUpdateStatus
  repeat' first
    | with_reducible apply KO.next
    | with_reducible apply KO.fault
    | with_reducible assumption
    | (show _ ||| _ = _; decide)
    | with_reducible apply KM.app (g := State.doUpdateStatus_keeps ..)

theorem execOpSessionClose_keeps (r : Req) (s : State) : KO 45952893696 s (execOpSessionClose r s) := by
  have hx : KM 45952893696 s s := KM.refl
  unfold execOpSessionClose
  repeat' first
    | with_reducible apply KO.next
    | with_reducible apply KO.fault
    | with_reducible assumption
    | (show _ ||| _ = _; decide)
    | with_reducible apply KM.app (g := State.doSessionClose_keeps ..)

theorem execOpUpdateActivate_keeps (r : Req) (kind : ℕ) (mask : BitVec 16) (s : State) : KO 29863417760 s (execOpUpdateActivate r kind mask s) := by
  have hx : KM 29863417760 s s := KM.refl
  unfold execOpUpdateActivate
  repeat' first
    | with_reducible apply KO.next
    | with_reducible apply KO.fault
    | with_reducible assumption
    | (show _ ||| _ = _; decide)
    | with_reducible apply KM.app (g := State.doUpdateActivate_keeps ..)

theorem execOpUpdateVerify_keeps (r : Req) (kind : ℕ) (s : State) : KO 20182990848 s (execOpUpdateVerify r kind s) := by
  have hx : KM 20182990848 s s := KM.refl
  unfold execOpUpdateVerify
  repeat' first
    | with_reducible apply KO.next
    | with_reducible apply KO.fault
    | with_reducible assumption
    | (show _ ||| _ = _; decide)
    | with_reducible apply KM.app (g := State.doUpdateVerify_keeps ..)

theorem execSessionIdle_keeps (core : CoreId) (s : State) : KO 47026635523 s (execSessionIdle core s) := by
  have hx : KM 47026635523 s s := KM.refl
  unfold execSessionIdle
  repeat' first
    | with_reducible apply KO.next
    | with_reducible apply KO.fault
    | with_reducible assumption
    | (show _ ||| _ = _; decide)
    | with_reducible apply KM.app (g := State.until_keeps ..)
    | with_reducible apply KM.app (g := State.endSession_keeps ..)
    | split

theorem execOpUpdateConfirm_keeps (r : Req) (mask : BitVec 16) (s : State) : KO 295060897792 s (execOpUpdateConfirm r mask s) := by
  have hx : KM 295060897792 s s := KM.refl
  unfold execOpUpdateConfirm
  repeat' first
    | with_reducible apply KO.next
    | with_reducible apply KO.fault
    | with_reducible assumption
    | (show _ ||| _ = _; decide)
    | with_reducible apply KM.app (g := State.doUpdateConfirm_keeps ..)

theorem execSlotActivationStart_keeps (slot : Slot) (s : State) : KO 29863417760 s (execSlotActivationStart slot s) := by
  have hx : KM 29863417760 s s := KM.refl
  unfold execSlotActivationStart
  repeat' first
    | with_reducible apply KO.next
    | with_reducible apply KO.fault
    | with_reducible assumption
    | (show _ ||| _ = _; decide)
    | with_reducible apply KM.app (g := State.startSlot_keeps ..)

theorem execTrialTimeout_keeps (slot : Slot) (s : State) : KO 98582894499 s (execTrialTimeout slot s) := by
  have hx : KM 98582894499 s s := KM.refl
  unfold execTrialTimeout
  repeat' first
    | with_reducible apply KO.next
    | with_reducible apply KO.fault
    | with_reducible assumption
    | (show _ ||| _ = _; decide)
    | with_reducible apply KM.app (g := State.modFirm_keeps ..)
    | with_reducible apply KM.app (g := State.startRollback_keeps ..)
    | with_reducible apply KM.app (g := State.until_keeps ..)
    | (extract_lets +onlyGivenNames x; refine KM.let_ (m := 98582894499) (s := s) (x := x) ?_ ?_; all_goals first | (intro hx; clear_value x) | subst x)
    | (extract_lets +onlyGivenNames v; subst v)
    | split

theorem execAutoConfirm_keeps (slot : Slot) (s : State) : KO 296134639619 s (execAutoConfirm slot s) := by
  have hx : KM 296134639619 s s := KM.refl
  unfold execAutoConfirm
  repeat' first
    | with_reducible apply KO.next
    | with_reducible apply KO.fault
    | with_reducible assumption
    | (show _ ||| _ = _; decide)
    | with_reducible apply KM.app (g := State.confirmSlot_keeps ..)
    | with_reducible apply KM.app (g := State.until_keeps ..)
    | split

theorem execOpSessionOpen_keeps (r : Req) (level : ℕ) (response : BitVec 40) (s : State) : KO 37362860032 s (execOpSessionOpen r level response s) := by
  have hx : KM 37362860032 s s := KM.refl
  unfold execOpSessionOpen
  repeat' first
    | with_reducible apply KO.next
    | with_reducible apply KO.fault
    | with_reducible assumption
    | (show _ ||| _ = _; decide)
    | with_reducible apply KM.app (g := State.doSessionOpen_keeps ..)

theorem execBankWriteDone_keeps (slot : Slot) (good : Bool) (s : State) : KO 98574042528 s (execBankWriteDone slot good s) := by
  have hx : KM 98574042528 s s := KM.refl
  unfold execBankWriteDone
  repeat' first
    | with_reducible apply KO.next
    | with_reducible apply KO.fault
    | with_reducible assumption
    | (show _ ||| _ = _; decide)
    | with_reducible apply KM.app (g := State.bankWritten_keeps ..)

theorem execOpUpdateChunk_keeps (r : Req) (index : ℕ) (hash : List Byte) (s : State) : KO 20182990848 s (execOpUpdateChunk r index hash s) := by
  have hx : KM 20182990848 s s := KM.refl
  unfold execOpUpdateChunk
  repeat' first
    | with_reducible apply KO.next
    | with_reducible apply KO.fault
    | with_reducible assumption
    | (show _ ||| _ = _; decide)
    | with_reducible apply KM.app (g := State.doUpdateChunk_keeps ..)

theorem execLockoutEnd_keeps (core : CoreId) (s : State) : KO 35433480195 s (execLockoutEnd core s) := by
  have hx : KM 35433480195 s s := KM.refl
  unfold execLockoutEnd
  repeat' first
    | with_reducible apply KO.next
    | with_reducible apply KO.fault
    | with_reducible assumption
    | (show _ ||| _ = _; decide)
    | with_reducible apply KM.app (g := State.modSession_keeps ..)
    | with_reducible apply KM.app (g := State.until_keeps ..)
    | split

theorem execModuleBoot_keeps (slot : Slot) (s : State) : KO 20182990880 s (execModuleBoot slot s) := by
  have hx : KM 20182990880 s s := KM.refl
  unfold execModuleBoot
  repeat' first
    | with_reducible apply KO.next
    | with_reducible apply KO.fault
    | with_reducible assumption
    | (show _ ||| _ = _; decide)
    | with_reducible apply KM.app (g := State.bootModule_keeps ..)
    | split

theorem execUsbContainer_keeps (core : CoreId) (bytes : List Byte) (s : State) : KO 51539607552 s (execUsbContainer core bytes s) := by
  have hx : KM 51539607552 s s := KM.refl
  unfold execUsbContainer
  repeat' first
    | with_reducible apply KO.next
    | with_reducible apply KO.fault
    | with_reducible assumption
    | (show _ ||| _ = _; decide)
    | with_reducible apply KM.app (g := State.usbContainer_keeps ..)

theorem execOpUpdateAbort_keeps (r : Req) (kind : ℕ) (mask : BitVec 16) (s : State) : KO 98582894496 s (execOpUpdateAbort r kind mask s) := by
  have hx : KM 98582894496 s s := KM.refl
  unfold execOpUpdateAbort
  repeat' first
    | with_reducible apply KO.next
    | with_reducible apply KO.fault
    | with_reducible assumption
    | (show _ ||| _ = _; decide)
    | with_reducible apply KM.app (g := State.doUpdateAbort_keeps ..)

theorem execOpKeyProvision_keeps (r : Req) (s : State) : KO 552758935552 s (execOpKeyProvision r s) := by
  have hx : KM 552758935552 s s := KM.refl
  unfold execOpKeyProvision
  repeat' first
    | with_reducible apply KO.next
    | with_reducible apply KO.fault
    | with_reducible assumption
    | (show _ ||| _ = _; decide)
    | with_reducible apply KM.app (g := State.doKeyProvision_keeps ..)

theorem execOpUpdateBegin_keeps (r : Req) (s : State) : KO 20182990848 s (execOpUpdateBegin r s) := by
  have hx : KM 20182990848 s s := KM.refl
  unfold execOpUpdateBegin
  repeat' first
    | with_reducible apply KO.next
    | with_reducible apply KO.fault
    | with_reducible assumption
    | (show _ ||| _ = _; decide)
    | with_reducible apply KM.app (g := State.doUpdateBegin_keeps ..)

theorem execOpSessionChallenge_keeps (r : Req) (level : ℕ) (s : State) : KO 37362860036 s (execOpSessionChallenge r level s) := by
  have hx : KM 37362860036 s s := KM.refl
  unfold execOpSessionChallenge
  repeat' first
    | with_reducible apply KO.next
    | with_reducible apply KO.fault
    | with_reducible assumption
    | (show _ ||| _ = _; decide)
    | with_reducible apply KM.app (g := State.doSessionChallenge_keeps ..)

theorem execCatchupDone_keeps (s : State) : KO 34151765424 s (execCatchupDone s) := by
  have hx : KM 34151765424 s s := KM.refl
  unfold execCatchupDone
  repeat' first
    | with_reducible apply KO.next
    | with_reducible apply KO.fault
    | with_reducible assumption
    | (show _ ||| _ = _; decide)
    | with_reducible apply KM.app (g := State.catchupEnds_keeps ..)
    | with_reducible apply KM.app (g := State.moduleIn_keeps ..)
    | with_reducible apply KM.app (g := State.modSlot_keeps ..)
    | (extract_lets +onlyGivenNames x; refine KM.let_ (m := 34151765424) (s := s) (x := x) ?_ ?_; all_goals first | (intro hx; clear_value x) | subst x)
    | (extract_lets +onlyGivenNames v; subst v)
    | split

theorem execModuleInService_keeps (slot : Slot) (s : State) : KO 29848405408 s (execModuleInService slot s) := by
  have hx : KM 29848405408 s s := KM.refl
  unfold execModuleInService
  repeat' first
    | with_reducible apply KO.next
    | with_reducible apply KO.fault
    | with_reducible assumption
    | (show _ ||| _ = _; decide)
    | with_reducible apply KM.app (g := State.moduleIn_keeps ..)
    | (extract_lets +onlyGivenNames x; refine KM.let_ (m := 29848405408) (s := s) (x := x) ?_ ?_; all_goals first | (intro hx; clear_value x) | subst x)
    | (extract_lets +onlyGivenNames v; subst v)
    | split

theorem execIdentityData_keeps (slot : Slot) (block : List Byte) (lowRail : Option (ℕ × ℕ)) (s : State) : KO 20195643424 s (execIdentityData slot block lowRail s) := by
  have hx : KM 20195643424 s s := KM.refl
  unfold execIdentityData
  repeat' first
    | with_reducible apply KO.next
    | with_reducible apply KO.fault
    | with_reducible assumption
    | (show _ ||| _ = _; decide)
    | with_reducible apply KM.app (g := State.identityRead_keeps ..)

theorem execPresenceDebounceDone_keeps (slot : Slot) (s : State) : KO 4076863523 s (execPresenceDebounceDone slot s) := by
  have hx : KM 4076863523 s s := KM.refl
  unfold execPresenceDebounceDone
  repeat' first
    | with_reducible apply KO.next
    | with_reducible apply KO.fault
    | with_reducible assumption
    | (show _ ||| _ = _; decide)
    | with_reducible apply KM.app (g := State.debounced_keeps ..)
    | with_reducible apply KM.app (g := State.until_keeps ..)
    | (extract_lets +onlyGivenNames x; refine KM.let_ (m := 4076863523) (s := s) (x := x) ?_ ?_; all_goals first | (intro hx; clear_value x) | subst x)
    | (extract_lets +onlyGivenNames v; subst v)
    | split

theorem execIdentityTimeout_keeps (slot : Slot) (s : State) : KO 4076863523 s (execIdentityTimeout slot s) := by
  have hx : KM 4076863523 s s := KM.refl
  unfold execIdentityTimeout
  repeat' first
    | with_reducible apply KO.next
    | with_reducible apply KO.fault
    | with_reducible assumption
    | (show _ ||| _ = _; decide)
    | with_reducible apply KM.app (g := State.identityBad_keeps ..)
    | with_reducible apply KM.app (g := State.until_keeps ..)
    | split

theorem execPresAsserted_keeps (slot : Slot) (sid : BitVec 4) (sidp : Bool) (s : State) : KO 17179869216 s (execPresAsserted slot sid sidp s) := by
  have hx : KM 17179869216 s s := KM.refl
  unfold execPresAsserted
  repeat' first
    | with_reducible apply KO.next
    | with_reducible apply KO.fault
    | with_reducible assumption
    | (show _ ||| _ = _; decide)
    | with_reducible apply KM.app (g := State.presMade_keeps ..)

theorem execFastRestart_keeps (s : State) : KO 68719476710 s (execFastRestart s) := by
  have hx : KM 68719476710 s s := KM.refl
  unfold execFastRestart
  repeat' first
    | with_reducible apply KO.next
    | with_reducible apply KO.fault
    | with_reducible assumption
    | (show _ ||| _ = _; decide)
    | with_reducible apply KM.app (g := State.leaveService_keeps ..)
    | with_reducible apply KM.app (g := State.startFrame_keeps ..)
    | split

theorem execWakeTimetableRow_keeps (ready : Bool) (s : State) : KO 68719476711 s (execWakeTimetableRow ready s) := by
  have hx : KM 68719476711 s s := KM.refl
  unfold execWakeTimetableRow
  repeat' first
    | with_reducible apply KO.next
    | with_reducible apply KO.fault
    | with_reducible assumption
    | (show _ ||| _ = _; decide)
    | with_reducible apply KM.app (g := State.wakeRow_keeps ..)
    | with_reducible apply KM.app (g := State.finishStart_keeps ..)
    | with_reducible apply KM.app (g := State.until_keeps ..)
    | (extract_lets +onlyGivenNames x; refine KM.let_ (m := 68719476711) (s := s) (x := x) ?_ ?_; all_goals first | (intro hx; clear_value x) | subst x)
    | (extract_lets +onlyGivenNames v; subst v)
    | split

theorem execListenTimeout_keeps (core : CoreId) (s : State) : KO 68719476711 s (execListenTimeout core s) := by
  have hx : KM 68719476711 s s := KM.refl
  unfold execListenTimeout
  repeat' first
    | with_reducible apply KO.next
    | with_reducible apply KO.fault
    | with_reducible assumption
    | (show _ ||| _ = _; decide)
    | with_reducible apply KM.app (g := State.startFrame_keeps ..)
    | with_reducible apply KM.app (g := State.takeRole_keeps ..)
    | with_reducible apply KM.app (g := State.until_keeps ..)
    | (extract_lets +onlyGivenNames x; refine KM.let_ (m := 68719476711) (s := s) (x := x) ?_ ?_; all_goals first | (intro hx; clear_value x) | subst x)
    | (extract_lets +onlyGivenNames v; subst v)
    | split

theorem execFullStart_keeps (s : State) : KO 68719476710 s (execFullStart s) := by
  have hx : KM 68719476710 s s := KM.refl
  unfold execFullStart
  repeat' first
    | with_reducible apply KO.next
    | with_reducible apply KO.fault
    | with_reducible assumption
    | (show _ ||| _ = _; decide)
    | with_reducible apply KM.app (g := State.leaveService_keeps ..)
    | with_reducible apply KM.app (g := State.startFrame_keeps ..)
    | split

theorem execDownlinkFrame_keeps (slot : Slot) (core : CoreId) (frame : List Byte) (s : State) : KO 3005186464 s (execDownlinkFrame slot core frame s) := by
  have hx : KM 3005186464 s s := KM.refl
  unfold execDownlinkFrame
  repeat' first
    | with_reducible apply KO.next
    | with_reducible apply KO.fault
    | with_reducible assumption
    | (show _ ||| _ = _; decide)
    | with_reducible apply KM.app (g := State.takeDownlink_keeps ..)
    | with_reducible apply KM.app (g := State.raise_keeps ..)
    | with_reducible apply KM.app (g := State.tickMissed_keeps ..)
    | with_reducible apply KM.app (g := State.linkCrcError_keeps ..)
    | split

theorem execMissedTick_keeps (slot : Slot) (twoActive : Bool) (s : State) : KO 3005186464 s (execMissedTick slot twoActive s) := by
  have hx : KM 3005186464 s s := KM.refl
  unfold execMissedTick
  repeat' first
    | with_reducible apply KO.next
    | with_reducible apply KO.fault
    | with_reducible assumption
    | (show _ ||| _ = _; decide)
    | with_reducible apply KM.app (g := State.raise_keeps ..)
    | with_reducible apply KM.app (g := State.tickMissed_keeps ..)
    | (extract_lets +onlyGivenNames x; refine KM.let_ (m := 3005186464) (s := s) (x := x) ?_ ?_; all_goals first | (intro hx; clear_value x) | subst x)
    | (extract_lets +onlyGivenNames v; subst v)
    | split

theorem execUplinkFrame_keeps (slot : Slot) (core : CoreId) (frame : List Byte) (s : State) : KO 29848733095 s (execUplinkFrame slot core frame s) := by
  have hx : KM 29848733095 s s := KM.refl
  unfold execUplinkFrame
  repeat' first
    | with_reducible apply KO.next
    | with_reducible apply KO.fault
    | with_reducible assumption
    | (show _ ||| _ = _; decide)
    | with_reducible apply KM.app (g := State.uplinkFlags_keeps ..)
    | with_reducible apply KM.app (g := State.failsInRemoval_keeps ..)
    | with_reducible apply KM.app (g := State.modSlot_keeps ..)
    | with_reducible apply KM.app (g := State.linkCrcError_keeps ..)
    | with_reducible apply KM.app (g := State.takeUplink_keeps ..)
    | (extract_lets +onlyGivenNames x; refine KM.let_ (m := 29848733095) (s := s) (x := x) ?_ ?_; all_goals first | (intro hx; clear_value x) | subst x)
    | (extract_lets +onlyGivenNames v; subst v)
    | split

theorem execLinkLost_keeps (slot : Slot) (core : CoreId) (s : State) : KO 47042893728 s (execLinkLost slot core s) := by
  have hx : KM 47042893728 s s := KM.refl
  unfold execLinkLost
  repeat' first
    | with_reducible apply KO.next
    | with_reducible apply KO.fault
    | with_reducible assumption
    | (show _ ||| _ = _; decide)
    | with_reducible apply KM.app (g := State.linkLost_keeps ..)
    | split

theorem execOpDoorEvacOpen_keeps (r : Req) (d : Doorway) (s : State) : KO 11597235456 s (execOpDoorEvacOpen r d s) := by
  have hx : KM 11597235456 s s := KM.refl
  unfold execOpDoorEvacOpen
  repeat' first
    | with_reducible apply KO.next
    | with_reducible apply KO.fault
    | with_reducible assumption
    | (show _ ||| _ = _; decide)
    | with_reducible apply KM.app (g := State.doorAlone_keeps ..)

theorem execOpDoorOpen_keeps (r : Req) (d : Doorway) (s : State) : KO 11597235456 s (execOpDoorOpen r d s) := by
  have hx : KM 11597235456 s s := KM.refl
  unfold execOpDoorOpen
  repeat' first
    | with_reducible apply KO.next
    | with_reducible apply KO.fault
    | with_reducible assumption
    | (show _ ||| _ = _; decide)
    | with_reducible apply KM.app (g := State.doorAlone_keeps ..)

theorem execOpDoorClose_keeps (r : Req) (d : Doorway) (s : State) : KO 11597235456 s (execOpDoorClose r d s) := by
  have hx : KM 11597235456 s s := KM.refl
  unfold execOpDoorClose
  repeat' first
    | with_reducible apply KO.next
    | with_reducible apply KO.fault
    | with_reducible assumption
    | (show _ ||| _ = _; decide)
    | with_reducible apply KM.app (g := State.doorAlone_keeps ..)

theorem execOpDoorReset_keeps (r : Req) (d : Doorway) (s : State) : KO 11597235456 s (execOpDoorReset r d s) := by
  have hx : KM 11597235456 s s := KM.refl
  unfold execOpDoorReset
  repeat' first
    | with_reducible apply KO.next
    | with_reducible apply KO.fault
    | with_reducible assumption
    | (show _ ||| _ = _; decide)
    | with_reducible apply KM.app (g := State.doorAlone_keeps ..)

theorem execOpDoorStop_keeps (r : Req) (d : Doorway) (s : State) : KO 11597235456 s (execOpDoorStop r d s) := by
  have hx : KM 11597235456 s s := KM.refl
  unfold execOpDoorStop
  repeat' first
    | with_reducible apply KO.next
    | with_reducible apply KO.fault
    | with_reducible assumption
    | (show _ ||| _ = _; decide)
    | with_reducible apply KM.app (g := State.doorAlone_keeps ..)

theorem execDescriptorFetch_keeps (p : PortId) (q : Fin 16) (desc : Option (List Byte)) (buf : Option (List Byte)) (s : State) : KO 962072663996 s (execDescriptorFetch p q desc buf s) := by
  have hx : KM 962072663996 s s := KM.refl
  unfold execDescriptorFetch
  repeat' first
    | with_reducible apply KO.next
    | with_reducible apply KO.fault
    | with_reducible assumption
    | (show _ ||| _ = _; decide)
    | with_reducible apply KM.app (g := State.p4Fetch_keeps ..)
    | with_reducible apply KM.app (g := State.p2Fetch_keeps ..)
    | with_reducible apply KM.app (g := State.hostFetch_keeps ..)
    | split

theorem execRegisterWrite_keeps (p : HostPort) (core : CoreId) (offset : BitVec 12) (v : BitVec 32) (s : State) : KO 80315547648 s (execRegisterWrite p core offset v s) := by
  have hx : KM 80315547648 s s := KM.refl
  unfold execRegisterWrite
  repeat' first
    | with_reducible apply KO.next
    | with_reducible apply KO.fault
    | with_reducible assumption
    | intro hx
    | (show _ ||| _ = _; decide)
    | with_reducible apply KM.app (g := State.modPort_keeps ..)
    | with_reducible apply KM.app (g := State.enablePort_keeps ..)
    | with_reducible apply State.doorbell_keeps
    | with_reducible apply KM.app (g := State.writeRingCfg_keeps ..)
    | with_reducible apply KM.app (g := State.doorbellWrite_keeps ..)
    | with_reducible apply KM.app (g := State.disablePort_keeps ..)
    | with_reducible apply KM.app (g := State.writePwrMode_keeps ..)
    | with_reducible apply KM.app (g := State.writeWakeCause_keeps ..)
    | with_reducible apply State.setUpWrite_keeps
    | (extract_lets +onlyGivenNames x; refine KM.let_ (m := 80315547648) (s := s) (x := x) ?_ ?_; all_goals first | (intro hx; clear_value x) | subst x)
    | (extract_lets +onlyGivenNames v; subst v)
    | split

theorem execTickPass_keeps (s : State) : KO 962072674303 s (execTickPass s) := by
  have hx : KM 962072674303 s s := KM.refl
  unfold execTickPass
  repeat' first
    | with_reducible apply KO.next
    | with_reducible apply KO.fault
    | with_reducible assumption
    | (show _ ||| _ = _; decide)
    | with_reducible apply KM.app (g := State.servicePass_keeps ..)
    | with_reducible apply KM.app (g := State.endTick_keeps ..)
    | with_reducible apply KM.app (g := State.startPass_keeps ..)
    | with_reducible apply KM.app (g := State.runPass_keeps ..)
    | split

end Sys2Proof.Machine
end

