-- ==== Sys2Proof/Laws/Parts.lean ====
section
/-!
SUPPORT. A part that an operation leaves alone, as equations of its fields: what `KM m s t` says of each part whose bit
of `m` is clear.
-/

namespace Sys2Proof.Machine

/-- One operation after another. -/
theorem KM.comp {m m' : Nat} {s t u : State} (h : KM m s t) (g : KM m' t u) : KM (m ||| m') s u :=
  ⟨fun p hp => by
    rw [Nat.testBit_or] at hp
    simp at hp
    exact (h.get p hp.1).trans (g.get p hp.2)⟩

section
variable {m : Nat} {s t : State} (h : KM m s t)
include h

theorem KM.now_eq (b : m.testBit 0 = false := by decide) : t.now = s.now := h.get .now b
theorem KM.tick_eq (b : m.testBit 1 = false := by decide) : t.tick = s.tick := h.get .tick b
theorem KM.free_eq (b : m.testBit 2 = false := by decide) : t.free = s.free := h.get .free b
theorem KM.params_eq (b : m.testBit 3 = false := by decide) : t.params = s.params := h.get .params b
theorem KM.param_eq (b : m.testBit 3 = false := by decide) (i : Nat) : t.param i = s.param i := by
  unfold State.param; rw [h.params_eq b]
theorem KM.slots_eq (b : m.testBit 5 = false := by decide) : t.frame.slots = s.frame.slots :=
  congrArg Prod.fst (h.get .slots b : (_, _) = (_, _))
theorem KM.doorTier_eq (b : m.testBit 7 = false := by decide) : t.frame.doorTier = s.frame.doorTier :=
  congrArg Prod.fst (h.get .tiers b : (_, _) = (_, _))
theorem KM.frameTier_eq (b : m.testBit 7 = false := by decide) : t.frame.frameTier = s.frame.frameTier :=
  congrArg Prod.snd (h.get .tiers b : (_, _) = (_, _))
theorem KM.door_eq (b : m.testBit 8 = false := by decide) : t.doors.door = s.doors.door := h.get .door b
theorem KM.claims_eq (b : m.testBit 9 = false := by decide) : t.doors.claims = s.doors.claims := h.get .claims b
theorem KM.requests_eq (b : m.testBit 10 = false := by decide) : t.doors.requests = s.doors.requests :=
  congrArg Prod.fst (h.get .requests b : (_, _) = (_, _))
theorem KM.fetched_eq (b : m.testBit 10 = false := by decide) : t.doors.fetched = s.doors.fetched :=
  congrArg Prod.snd (h.get .requests b : (_, _) = (_, _))
theorem KM.pairs_eq (b : m.testBit 11 = false := by decide) : t.doors.pairs = s.doors.pairs := h.get .safePairs b
theorem KM.relays_eq (b : m.testBit 12 = false := by decide) : t.doors.relays = s.doors.relays :=
  congrArg Prod.fst (h.get .relays b : (_, _) = (_, _))
theorem KM.weld_eq (b : m.testBit 12 = false := by decide) : t.doors.weld = s.doors.weld :=
  congrArg (fun x => x.2.2.1) (h.get .relays b : (_, _, _, _, _, _) = (_, _, _, _, _, _))
theorem KM.disagreed_eq (b : m.testBit 12 = false := by decide) : t.doors.disagreed = s.doors.disagreed :=
  congrArg (fun x => x.2.2.2.2.2) (h.get .relays b : (_, _, _, _, _, _) = (_, _, _, _, _, _))
theorem KM.obst_eq (b : m.testBit 14 = false := by decide) : t.obst = s.obst := h.get .obst b
theorem KM.axes_eq (b : m.testBit 15 = false := by decide) : t.axes = s.axes := h.get .axes b
theorem KM.axMods_eq (b : m.testBit 16 = false := by decide) : t.axMods = s.axMods := h.get .axMods b
theorem KM.field_eq (b : m.testBit 17 = false := by decide) : t.field = s.field := h.get .field b
theorem KM.load_eq (b : m.testBit 18 = false := by decide) : t.load = s.load := h.get .load b
theorem KM.supply_eq (b : m.testBit 19 = false := by decide) : t.supply = s.supply := h.get .supply b
theorem KM.energy_eq (b : m.testBit 20 = false := by decide) : t.energy = s.energy := h.get .energy b
theorem KM.power_eq (b : m.testBit 21 = false := by decide) : t.power = s.power := h.get .power b
theorem KM.core_eq (b : m.testBit 22 = false := by decide) : t.pair.core = s.pair.core := h.get .cores b
theorem KM.mirror_eq (b : m.testBit 23 = false := by decide) :
    ({ t.pair with core := .replicate 2 {}, heldCompletions := [], heldEvents := [] } : PairSt)
      = { s.pair with core := .replicate 2 {}, heldCompletions := [], heldEvents := [] } := h.get .mirror b
theorem KM.standby_eq (b : m.testBit 23 = false := by decide) : t.pair.standby = s.pair.standby := by
  have g := congrArg PairSt.standby (h.mirror_eq b); exact g
theorem KM.ports_eq (b : m.testBit 25 = false := by decide) : t.ports = s.ports := h.get .ports b
theorem KM.ctl_eq (b : m.testBit 26 = false := by decide) : t.can.ctl = s.can.ctl := h.get .canCtl b
theorem KM.rx_eq (b : m.testBit 27 = false := by decide) : t.can.rx = s.can.rx := h.get .canRx b
theorem KM.panel_eq (b : m.testBit 29 = false := by decide) : t.panel = s.panel := h.get .panel b
theorem KM.time_eq (b : m.testBit 30 = false := by decide) : t.time = s.time := h.get .time b
theorem KM.nand_eq (b : m.testBit 32 = false := by decide) : t.journal.nand = s.journal.nand := h.get .nand b
theorem KM.cursors_eq (b : m.testBit 33 = false := by decide) : t.journal.cursors = s.journal.cursors :=
  congrArg (fun x => x.2.2.2.2.2.1)
    (h.get .journalLog b : (_, _, _, _, _, _, _, _, _, _, _, _, _) = (_, _, _, _, _, _, _, _, _, _, _, _, _))
theorem KM.firmware_eq (b : m.testBit 34 = false := by decide) :
    ({ t.update with
      session := .replicate 2 {}, counter := .replicate 7 0, baseline := .replicate 7 none, key := none } : UpdateSt)
      = { s.update with
        session := .replicate 2 {}, counter := .replicate 7 0, baseline := .replicate 7 none, key := none } :=
  h.get .firmware b
theorem KM.firm_eq (b : m.testBit 34 = false := by decide) : t.update.firm = s.update.firm := by
  have g := congrArg UpdateSt.firm (h.firmware_eq b); exact g
theorem KM.staged_eq (b : m.testBit 34 = false := by decide) : t.update.staged = s.update.staged := by
  have g := congrArg UpdateSt.staged (h.firmware_eq b); exact g
theorem KM.activation_eq (b : m.testBit 34 = false := by decide) : t.update.activation = s.update.activation := by
  have g := congrArg UpdateSt.activation (h.firmware_eq b); exact g
theorem KM.counter_eq (b : m.testBit 38 = false := by decide) : t.update.counter = s.update.counter :=
  congrArg Prod.fst (h.get .counters b : (_, _) = (_, _))
theorem KM.baseline_eq (b : m.testBit 38 = false := by decide) : t.update.baseline = s.update.baseline :=
  congrArg Prod.snd (h.get .counters b : (_, _) = (_, _))
theorem KM.key_eq (b : m.testBit 39 = false := by decide) : t.update.key = s.update.key := h.get .key b
theorem KM.session_eq (b : m.testBit 35 = false := by decide) : t.update.session = s.update.session := h.get .sessions b
theorem KM.restart_eq (b : m.testBit 36 = false := by decide) : t.restart = s.restart := h.get .restart b
theorem KM.pending_eq (b : m.testBit 37 = false := by decide) : t.pending = s.pending := h.get .pending b

end

/-- A command completes with the state its meaning gives. -/
theorem Does.intro {c : Instr} {s t : State} {P : State → Prop} (h : exec c s = .next t) (g : P t) : Does c s P :=
  ⟨t, h, g⟩

end Sys2Proof.Machine
end

