-- ==== Sys2Proof/Laws/Door.lean ====
section
/-!
SUPPORT. What the operations of a doorway do to its leaf state: one lemma per operation, for the doorway it is about
and for the other one.
-/

namespace Sys2Proof.Machine

variable (s : State) (d j : Doorway)

theorem State.modDoor_leaf (f : DoorSt → DoorSt) (h : ∀ x, (f x).leaf = x.leaf) :
    (s.modDoor d f).doors.door[j].leaf = s.doors.door[j].leaf := by
  show (updV s.doors.door d f)[j].leaf = _
  by_cases e : d = j
  · subst e; rw [updV_self, h]
  · rw [updV_other _ _ _ _ e]

theorem State.completeAll_door (rs : List Req) (oc : BitVec 15) (st : Byte) (n : Nat) (res : List Byte) :
    (s.completeAll rs oc st n res).doors.door = s.doors.door := (State.completeAll_keeps ..).door_eq

theorem State.noteCycle_door (f : CycleRec → CycleRec) : (s.noteCycle d f).doors.door = s.doors.door :=
  (State.noteCycle_keeps ..).door_eq

theorem State.endCycle_door (n : Nat) : (s.endCycle d n).doors.door = s.doors.door :=
  (State.endCycle_keeps ..).door_eq

theorem State.beginCycle_door : (s.beginCycle d).doors.door = s.doors.door := (State.beginCycle_keeps ..).door_eq

theorem State.sendStatus_door : (s.sendStatus d).doors.door = s.doors.door := (State.sendStatus_keeps ..).door_eq

theorem State.moveTo_door (a : Axis) (k : PlanKind) (t : Option Bool) (x : Int) (l : Limits) :
    (s.moveTo a k t x l).doors.door = s.doors.door := (State.moveTo_keeps ..).door_eq

theorem State.reverseTo_door (a : Axis) (k : PlanKind) (t : Option Int) (l : Limits) :
    (s.reverseTo a k t l).doors.door = s.doors.door := (State.reverseTo_keeps ..).door_eq

theorem State.rampLeaves_door : (s.rampLeaves d).doors.door = s.doors.door := (State.rampLeaves_keeps ..).door_eq
theorem State.startOpen_door (b : Bool) : (s.startOpen d b).doors.door = s.doors.door := (State.startOpen_keeps ..).door_eq
theorem State.startClose_door : (s.startClose d).doors.door = s.doors.door := (State.startClose_keeps ..).door_eq
theorem State.raise_door (c : BitVec 10) (l : List Item) : (s.raise c l).doors.door = s.doors.door := by
  rw [State.raise_doors]

/-- A milestone leaves the leaf state alone. -/
theorem State.milestone_leaf (k : Fin 6) (n : Nat) :
    (s.milestone d k n).doors.door[j].leaf = s.doors.door[j].leaf := by
  unfold State.milestone
  extract_lets t s1 s2
  have h1 : s1.doors.door = s.doors.door := State.noteCycle_door ..
  have h2 : s2.doors.door[j].leaf = s.doors.door[j].leaf := by
    simp only [s2, State.raise_door]
    show (s1.modDoor d _).doors.door[j].leaf = _
    rw [State.modDoor_leaf]
    · simp only [h1]
    · intro x; rfl
  clear_value s2
  split
  · simp only [(State.sendFallback_keeps ..).door_eq]; exact h2
  · exact h2

/-- A doorway that enters a leaf state is in it. -/
theorem State.enterLeaf_leaf (new : Leaf) (c : Cause) : (s.enterLeaf d new c).doors.door[d].leaf = new := by
  unfold State.enterLeaf
  extract_lets old s0 s1 s2 s3 xs posOf
  have h1 : s1.doors.door[d].leaf = new := by
    simp only [s1, State.sendStatus_door, State.raise_door]
    simp
  have h2 : s2.doors.door[d].leaf = new := by
    simp only [s2]; rw [State.modDoor_leaf]; exact h1; intro x; rfl
  have h3 : s3.doors.door[d].leaf = new := by
    simp only [s3]; split
    · rw [State.milestone_leaf]; exact h2
    · exact h2
  clear_value s1 s2 s3
  cases new <;> simp only
  all_goals first
    | exact h1
    | (rw [State.milestone_leaf]; exact h1)
    | (split <;> first | exact h1 | (rw [State.milestone_leaf]; exact h1))
    | (simp only [State.noteCycle_door]; exact h1)
    | (simp only [State.endCycle_door, State.noteCycle_door]; exact h3)
    | (rw [State.modDoor_leaf]; exact h1; intro x; rfl)

/-- A command that ends leaves the leaf state alone. -/
theorem State.endCmd_leaf (st : Byte) (n : Nat) (res : List Byte) :
    (s.endCmd d st n res).doors.door[j].leaf = s.doors.door[j].leaf := by
  unfold State.endCmd
  split
  · rfl
  · simp only [State.completeAll_door]
    rw [State.modDoor_leaf]; intro x; rfl

/-- The doorway freezes its leaves and enters FAULT (R43). -/
theorem State.enterFault_leaf (c : Cause) : (s.enterFault d c).doors.door[d].leaf = .fault := by
  unfold State.enterFault
  extract_lets s1
  rw [State.modDoor_leaf, State.endCmd_leaf, State.enterLeaf_leaf]
  intro x; rfl

theorem State.leafTimeout_leaf (n : Nat) : (s.leafTimeout d n).doors.door[d].leaf = .fault :=
  State.enterFault_leaf ..

theorem State.each_leaf {α : Type} (l : List α) (f : State → α → State)
    (h : ∀ (t : State) (a : α), (f t a).doors.door[j].leaf = t.doors.door[j].leaf) :
    (s.each l f).doors.door[j].leaf = s.doors.door[j].leaf := by
  unfold State.each
  induction l generalizing s with
  | nil => rfl
  | cons a l ih => rw [List.foldl_cons, ih, h]

theorem State.releaseLock_leaf : (s.releaseLock d).doors.door[j].leaf = s.doors.door[j].leaf := by
  unfold State.releaseLock
  split
  · apply State.each_leaf; intro t a; split
    · simp only [State.moveTo_door]
    · rfl
  · rw [State.modDoor_leaf]; intro x; rfl

theorem State.engageLock_leaf : (s.engageLock d).doors.door[j].leaf = s.doors.door[j].leaf := by
  unfold State.engageLock
  split
  · apply State.each_leaf; intro t a; split
    · simp only [State.moveTo_door]
    · rfl
  · rw [State.modDoor_leaf]; intro x; rfl

/-- A step state leaves the leaf state alone. -/
theorem State.enterStep_leaf (new : StepSt) (c : Cause) :
    (s.enterStep d new c).doors.door[j].leaf = s.doors.door[j].leaf := by
  unfold State.enterStep
  extract_lets old s1
  have h1 : s1.doors.door[j].leaf = s.doors.door[j].leaf := by
    simp only [s1, State.raise_door]
    rw [State.modDoor_leaf]; intro x; rfl
  clear_value s1
  split
  · split
    · rw [State.milestone_leaf]; exact h1
    · exact h1
  · simp only [State.noteCycle_door]; exact h1
  · split
    · simp only [(State.rampStop_keeps s1 _).door_eq]; exact h1
    · exact h1
  · exact h1

theorem State.startDeploy_leaf (c : Cause) : (s.startDeploy d c).doors.door[j].leaf = s.doors.door[j].leaf := by
  unfold State.startDeploy
  split
  · simp only [State.moveTo_door, State.enterStep_leaf]
  · rfl

theorem State.startStow_leaf (c : Cause) : (s.startStow d c).doors.door[j].leaf = s.doors.door[j].leaf := by
  unfold State.startStow
  split
  · simp only [State.moveTo_door, State.enterStep_leaf]
  · rfl

theorem State.stepObstacle_leaf (n : Nat) : (s.stepObstacle d n).doors.door[j].leaf = s.doors.door[j].leaf := by
  unfold State.stepObstacle
  split
  · rfl
  · extract_lets x left s1 s2
    have h1 : s1.doors.door[j].leaf = s.doors.door[j].leaf := by simp only [s1, State.noteCycle_door, State.raise_door]
    have h2 : s2.doors.door[j].leaf = s.doors.door[j].leaf := by
      simp only [s2]; rw [State.modDoor_leaf, State.enterStep_leaf]; exact h1; intro x; rfl
    split
    · rfl
    · split
      · rw [State.enterStep_leaf]; simp only [State.reverseTo_door]; exact h1
      · simp only [State.reverseTo_door]; exact h2

/-- An obstacle in CLOSING or LOCKING brings REOPENING (R120). -/
theorem State.obstacle_leaf (n : Nat) (h : s.doors.door[d].leaf = .closing ∨ s.doors.door[d].leaf = .locking) :
    (s.obstacle d n).doors.door[d].leaf = .reopening := by
  unfold State.obstacle
  extract_lets x both s1 s2 s3 s4 s5
  rw [if_pos (by simp only [x]; rcases h with h | h <;> rw [h] <;> rfl)]
  simp only [State.raise_door, s5, State.noteCycle_door, s4]
  show s3.doors.door[d].leaf = _
  simp only [s3]
  rw [State.modDoor_leaf, State.enterLeaf_leaf]
  intro x; rfl

/-- The step machine never changes the leaf state. -/
theorem State.stepStep_leaf : (s.stepStep d).doors.door[j].leaf = s.doors.door[j].leaf := by
  unfold State.stepStep
  extract_lets x core waited
  split
  · rfl
  · split
    · rfl
    · extract_lets arrived
      split
      · split
        · exact State.enterStep_leaf ..
        · split
          · exact State.startDeploy_leaf ..
          · rfl
      · split
        · rw [State.modDoor_leaf, State.enterStep_leaf]; intro x; rfl
        · split
          · rw [State.enterStep_leaf, State.raise_door]
          · rfl
      · split
        · exact State.startStow_leaf ..
        · rfl
      · split
        · exact State.startDeploy_leaf ..
        · split
          · exact State.stepObstacle_leaf ..
          · split
            · exact State.enterStep_leaf ..
            · split
              · rw [State.enterStep_leaf, State.raise_door]
              · rfl
      · rfl

/-- Completions that follow from the state reached change no leaf state. -/
theorem State.finishDoor_leaf : (s.finishDoor d).doors.door[j].leaf = s.doors.door[j].leaf := by
  unfold State.finishDoor
  extract_lets x closeDone s1 rest
  have h1 : s1.doors.door[j].leaf = s.doors.door[j].leaf := by
    simp only [s1]; split
    · rw [State.modDoor_leaf, State.endCmd_leaf]; intro x; rfl
    · rfl
  clear_value s1
  split
  · rw [State.modDoor_leaf]
    · simp only [State.completeAll_door]; exact h1
    · intro x; rfl
  · exact h1

end Sys2Proof.Machine
end

