-- ==== Sys2Proof/Laws/Params.lean ====
section
/-!
SUPPORT. The stored parameters: changing the set keeps its canonical form, and the operations that may write
the set keep the invariant `ParamsInv`.
-/

namespace Sys2Proof.Machine

/-! ### The canonical form -/

theorem paramsWf_tail {e : Nat × Nat} {l : List (Nat × Nat)} (h : paramsWf (e :: l) = true) : paramsWf l = true := by
  obtain ⟨k, v⟩ := e
  cases l with
  | nil => rfl
  | cons f l => obtain ⟨k', v'⟩ := f; simp only [paramsWf, Bool.and_eq_true] at h; exact h.2

theorem paramsWf_head {k v : Nat} {l : List (Nat × Nat)} (h : paramsWf ((k, v) :: l) = true) :
    k < paramCount ∧ v ≠ paramDefault k := by
  cases l with
  | nil => simpa [paramsWf] using h
  | cons f l =>
    obtain ⟨k', v'⟩ := f
    simp only [paramsWf, Bool.and_eq_true, decide_eq_true_eq] at h
    exact ⟨h.1.1.1, h.1.1.2⟩

theorem paramsWf_lt {k v : Nat} {l : List (Nat × Nat)} (h : paramsWf ((k, v) :: l) = true) :
    ∀ e ∈ l, k < e.1 := by
  induction l generalizing k v with
  | nil => simp
  | cons f l ih =>
    obtain ⟨k', v'⟩ := f
    simp only [paramsWf, Bool.and_eq_true, decide_eq_true_eq] at h
    intro e he
    rcases List.mem_cons.mp he with rfl | he
    · exact h.1.2
    · exact Nat.lt_trans h.1.2 (ih h.2 e he)

theorem paramsWf_cons {k v : Nat} {l : List (Nat × Nat)} (hk : k < paramCount) (hv : v ≠ paramDefault k)
    (hl : ∀ e ∈ l, k < e.1) (h : paramsWf l = true) : paramsWf ((k, v) :: l) = true := by
  cases l with
  | nil => simp [paramsWf, hk, hv]
  | cons f l =>
    obtain ⟨k', v'⟩ := f
    have := hl (k', v') (by simp)
    simp_all [paramsWf]

theorem paramsWf_filter {l : List (Nat × Nat)} {p : Nat × Nat → Bool} (h : paramsWf l = true) :
    paramsWf (l.filter p) = true := by
  induction l with
  | nil => rfl
  | cons e l ih =>
    obtain ⟨k, v⟩ := e
    by_cases hp : p (k, v) = true
    · rw [List.filter_cons_of_pos hp]
      exact paramsWf_cons (paramsWf_head h).1 (paramsWf_head h).2
        (fun e he => paramsWf_lt h e (List.mem_of_mem_filter he)) (ih (paramsWf_tail h))
    · rw [List.filter_cons_of_neg hp]
      exact ih (paramsWf_tail h)

theorem mem_insertEntry {i v : Nat} {l : List (Nat × Nat)} {e : Nat × Nat} (h : e ∈ insertEntry i v l) :
    e = (i, v) ∨ e ∈ l := by
  induction l with
  | nil => simpa [insertEntry] using h
  | cons f l ih =>
    obtain ⟨k, w⟩ := f
    unfold insertEntry at h
    split at h
    · simpa using h
    · split at h
      · rcases List.mem_cons.mp h with h | h
        · exact .inl h
        · exact .inr (List.mem_cons_of_mem _ h)
      · rcases List.mem_cons.mp h with h | h
        · exact .inr (by simp [h])
        · exact (ih h).imp id (List.mem_cons_of_mem _)

theorem insertEntry_wf {i v : Nat} {l : List (Nat × Nat)} (hi : i < paramCount) (hv : v ≠ paramDefault i)
    (h : paramsWf l = true) : paramsWf (insertEntry i v l) = true := by
  induction l with
  | nil => simp [insertEntry, paramsWf, hi, hv]
  | cons f l ih =>
    obtain ⟨k, w⟩ := f
    have hlt := paramsWf_lt h
    unfold insertEntry
    split
    · next hik =>
      refine paramsWf_cons hi hv ?_ h
      intro e he
      rcases List.mem_cons.mp he with rfl | he
      · exact hik
      · exact Nat.lt_trans hik (hlt e he)
    · split
      · next hik => subst hik; exact paramsWf_cons hi hv hlt (paramsWf_tail h)
      · next h1 h2 =>
        refine paramsWf_cons (paramsWf_head h).1 (paramsWf_head h).2 ?_ (ih (paramsWf_tail h))
        intro e he
        rcases mem_insertEntry he with rfl | he
        · exact Nat.lt_of_le_of_ne (Nat.le_of_not_lt h1) (Ne.symm h2)
        · exact hlt e he

theorem paramPut_wf {i v : Nat} {l : List (Nat × Nat)} (hi : i < paramCount) (h : paramsWf l = true) :
    paramsWf (paramPut l i v) = true := by
  unfold paramPut
  split
  · exact paramsWf_filter h
  · next hv => exact insertEntry_wf hi hv h

theorem mem_paramsFrom {n : Nat} {vs : List Nat} {e : Nat × Nat} (h : e ∈ paramsFrom n vs) :
    n ≤ e.1 ∧ e.1 < n + vs.length := by
  induction vs generalizing n with
  | nil => simp [paramsFrom] at h
  | cons v vs ih =>
    unfold paramsFrom at h
    split at h
    · have := ih h; simp only [List.length_cons]; omega
    · rcases List.mem_cons.mp h with rfl | h
      · simp
      · have := ih h; simp only [List.length_cons]; omega

theorem paramsFrom_wf {n : Nat} {vs : List Nat} (hn : n + vs.length ≤ paramCount) :
    paramsWf (paramsFrom n vs) = true := by
  induction vs generalizing n with
  | nil => rfl
  | cons v vs ih =>
    simp only [List.length_cons] at hn
    have h := ih (n := n + 1) (by omega)
    unfold paramsFrom
    split
    · exact h
    · next hv => exact paramsWf_cons (by omega) hv (fun e he => by have := (mem_paramsFrom he).1; omega) h

theorem paramGet_mem {l : List (Nat × Nat)} (h : paramsWf l = true) : ∀ e ∈ l, paramGet l e.1 = e.2 := by
  induction l with
  | nil => simp
  | cons f l ih =>
    obtain ⟨k, v⟩ := f
    intro e he
    rcases List.mem_cons.mp he with rfl | he
    · simp [paramGet]
    · have := paramsWf_lt h e he
      simp only [paramGet]
      rw [if_neg (by omega)]
      exact ih (paramsWf_tail h) e he

theorem paramsWf_bound {l : List (Nat × Nat)} (h : paramsWf l = true) : ∀ e ∈ l, e.1 < paramCount := by
  induction l with
  | nil => simp
  | cons f l ih =>
    obtain ⟨k, v⟩ := f
    intro e he
    rcases List.mem_cons.mp he with rfl | he
    · exact (paramsWf_head h).1
    · exact ih (paramsWf_tail h) e he

/-- A set that passes the check of R309 keeps every parameter in its own range. -/
theorem checkSet_ok {s : State} {ps : List (Nat × Nat)} (h : s.checkSet ps = none) :
    ∀ i, i < paramCount → paramOk i (paramGet ps i) = true := by
  intro i hi
  unfold State.checkSet firstOffence at h
  rw [List.min?_eq_none_iff] at h
  generalize paramGet ps = g at h ⊢
  have h' := h
  unfold setOffences at h'
  simp only [List.append_eq_nil_iff] at h'
  have h1 : (List.filter (fun i => !paramOk i (g i)) (List.range paramCount)) = [] := by
    simp only [and_assoc] at h'; exact h'.1
  rw [List.filter_eq_nil_iff] at h1
  simpa using h1 i (List.mem_range.mpr hi)

/-! ### The operations that write the set -/

theorem ParamsInv.of_params {s t : State} (h : ParamsInv s) (ht : t.params = s.params) : ParamsInv t := by
  unfold ParamsInv at *; rw [ht]; exact h

/-- An operation that leaves the parameters alone keeps the invariant. -/
theorem ParamsInv.app {m : Nat} {s t : State} (h : ParamsInv s) (g : KM m s t) (hm : m.testBit 3 = false) :
    ParamsInv t := h.of_params (g.get .params hm)

theorem State.takeSet_inv {s : State} {r : Req} {oc : BitVec 15} {ps : List (Nat × Nat)} (hw : paramsWf ps = true)
    (hc : s.checkSet ps = none) : ParamsInv (s.takeSet r oc ps) := by
  have h : ParamsInv { s with params := ps, paramsValid := .replicate 2 true } :=
    ⟨hw, fun e he => by
      have := checkSet_ok hc e.1 (paramsWf_bound hw e he)
      rwa [paramGet_mem hw e he] at this⟩
  exact h.app (State.ok_keeps ..) (by decide)

theorem foldl_paramPut_wf {es : List (Nat × Nat)} {l : List (Nat × Nat)} (hl : paramsWf l = true)
    (he : ∀ e ∈ es, e.1 < paramCount) : paramsWf (es.foldl (fun l e => paramPut l e.1 e.2) l) = true := by
  induction es generalizing l with
  | nil => exact hl
  | cons e es ih =>
    exact ih (paramPut_wf (he e (by simp)) hl) fun f hf => he f (by simp [hf])

theorem badEntries_bound {es : List (Nat × Nat)} (h : badEntries es = []) : ∀ e ∈ es, e.1 < paramCount := by
  intro e he
  unfold badEntries at h
  rw [List.filter_eq_nil_iff] at h
  have := h e.1 (List.mem_map.mpr ⟨e, he, rfl⟩)
  simp only [Bool.or_eq_true, decide_eq_true_eq, not_or, not_le] at this
  exact this.1.1

theorem State.doParamWrite_inv {s : State} {r : Req} {es : List (Nat × Nat)} (h : ParamsInv s) :
    ParamsInv (s.doParamWrite r es) := by
  unfold State.doParamWrite
  extract_lets oc ps
  split
  · exact h.app (State.fail_keeps ..) (by decide)
  · split
    · exact h.app (State.failOwner_keeps ..) (by decide)
    · split
      · exact h.app (State.fail_keeps ..) (by decide)
      · next hb =>
        split
        · exact h.app (State.fail_keeps ..) (by decide)
        · next hc => exact State.takeSet_inv (foldl_paramPut_wf h.1 (badEntries_bound (List.min?_eq_none_iff.mp hb))) hc

theorem State.doParamSetLoad_inv {s : State} {r : Req} (h : ParamsInv s) : ParamsInv (s.doParamSetLoad r) := by
  unfold State.doParamSetLoad
  extract_lets oc
  split
  · exact h.app (State.fail_keeps ..) (by decide)
  · split
    · exact h.app (State.failOwner_keeps ..) (by decide)
    · split
      · exact h.app (State.fail_keeps ..) (by decide)
      · split
        · exact h.app (State.fail_keeps ..) (by decide)
        · extract_lets ps
          split
          · exact h.app (State.fail_keeps ..) (by decide)
          · next hc => exact State.takeSet_inv (paramsFrom_wf (by simp)) hc

theorem ParamsInv.each {α : Type} {s : State} {l : List α} {f : State → α → State} (h : ParamsInv s)
    (hf : ∀ t x, ParamsInv t → ParamsInv (f t x)) : ParamsInv (s.each l f) := by
  unfold State.each
  induction l generalizing s with
  | nil => exact h
  | cons a l ih => exact ih (hf _ _ h)

/-- What an operation answers keeps the invariant: by its frame, or because it is one that writes the set. -/
theorem State.runOp_inv {s : State} {r : Req} {op : Op} (h : ParamsInv s) : ParamsInv (s.runOp r op) := by
  have hf : ∀ oc st d, ParamsInv (s.fail r oc st d) := fun _ _ _ => h.app (State.fail_keeps ..) (by decide)
  cases op
  case paramWrite es => exact State.doParamWrite_inv h
  case paramSetLoad => exact State.doParamSetLoad_inv h
  case stepRequest d =>
    unfold State.runOp
    dsimp only
    split
    · exact h.app (State.doStepRequest_keeps ..) (by decide)
    · exact hf _ _ _
  case doorObstacle d =>
    unfold State.runOp
    dsimp only
    split
    · exact h.app (State.doDoorObstacle_keeps ..) (by decide)
    · exact hf _ _ _
  case doorStatus d =>
    unfold State.runOp
    dsimp only
    split
    · exact h.app (State.doDoorStatus_keeps ..) (by decide)
    · exact hf _ _ _
  · exact h.app (State.doNop_keeps ..) (by decide)
  · exact h.app (State.doClaim_keeps ..) (by decide)
  · exact h.app (State.releaseClaims_keeps ..) (by decide)
  · exact h.app (State.doReplay_keeps ..) (by decide)
  · exact h.app (State.doHeartbeat_keeps ..) (by decide)
  · exact h.app (State.doWait_keeps ..) (by decide)
  · exact h.app (State.doReleaseHold_keeps ..) (by decide)
  · exact h.app (State.doServiceDrop_keeps ..) (by decide)
  · exact h.app (State.doCoreHandover_keeps ..) (by decide)
  · exact h.app (State.doRestWindow_keeps ..) (by decide)
  · exact h.app (State.doDoorArg_keeps ..) (by decide)
  · exact h.app (State.doDoorArg_keeps ..) (by decide)
  · exact h.app (State.doDoorArg_keeps ..) (by decide)
  · exact h.app (State.doDoorArg_keeps ..) (by decide)
  · exact h.app (State.doDoorArg_keeps ..) (by decide)
  · exact h.app (State.doAxisMove_keeps ..) (by decide)
  · exact h.app (State.doAxisHalt_keeps ..) (by decide)
  · exact h.app (State.doAxisReference_keeps ..) (by decide)
  · exact h.app (State.doAxisSetPosition_keeps ..) (by decide)
  · exact h.app (State.doSegTableLoad_keeps ..) (by decide)
  · exact h.app (State.doMstepTableLoad_keeps ..) (by decide)
  · exact h.app (State.doFioSet_keeps ..) (by decide)
  · exact h.app (State.doLoadSet_keeps ..) (by decide)
  · exact h.app (State.doLoadRearm_keeps ..) (by decide)
  · exact h.app (State.doIoRead_keeps ..) (by decide)
  · exact h.app (State.doParamRead_keeps ..) (by decide)
  · exact h.app (State.doParamSetRead_keeps ..) (by decide)
  · exact h.app (State.doTimeSet_keeps ..) (by decide)
  · exact h.app (State.doTimeRead_keeps ..) (by decide)
  · exact h.app (State.doSchedCancel_keeps ..) (by decide)
  · exact h.app (State.doCanTx_keeps ..) (by decide)
  · exact h.app (State.doCanTxAbort_keeps ..) (by decide)
  · exact h.app (State.doCanRxRead_keeps ..) (by decide)
  · exact h.app (State.doCanRxAck_keeps ..) (by decide)
  · exact h.app (State.doCanFilterSet_keeps ..) (by decide)
  · exact h.app (State.doCanStatus_keeps ..) (by decide)
  · exact h.app (State.doCanRecover_keeps ..) (by decide)
  · exact h.app (State.doJournalRead_keeps ..) (by decide)
  · exact h.app (State.doJournalStatus_keeps ..) (by decide)
  · exact h.app (State.doJournalRetain_keeps ..) (by decide)
  · exact h.app (State.doJournalRelease_keeps ..) (by decide)
  · exact h.app (State.doJournalNote_keeps ..) (by decide)
  · exact h.app (State.doUpdateBegin_keeps ..) (by decide)
  · exact h.app (State.doUpdateChunk_keeps ..) (by decide)
  · exact h.app (State.doUpdateVerify_keeps ..) (by decide)
  · exact h.app (State.doUpdateActivate_keeps ..) (by decide)
  · exact h.app (State.doUpdateConfirm_keeps ..) (by decide)
  · exact h.app (State.doUpdateAbort_keeps ..) (by decide)
  · exact h.app (State.doUpdateStatus_keeps ..) (by decide)
  · exact h.app (State.doSessionChallenge_keeps ..) (by decide)
  · exact h.app (State.doSessionOpen_keeps ..) (by decide)
  · exact h.app (State.doSessionClose_keeps ..) (by decide)
  · exact h.app (State.doKeyProvision_keeps ..) (by decide)

/-! ### The resolver and the fetches -/

theorem State.refusedNowBy_inv {s t : State} {w : Waiting} (h : ParamsInv s) (ht : s.refusedNowBy w = some t) :
    ParamsInv t := by
  unfold State.refusedNowBy at ht
  split at ht
  · split at ht
    · injection ht with ht; subst ht; exact h.app (State.fail_keeps ..) (by decide)
    · rw [Option.map_eq_some_iff] at ht
      obtain ⟨x, -, hx⟩ := ht
      subst hx; exact h.app (State.fail_keeps ..) (by decide)
  · have hr : ParamsInv (s.runOp w.req w.op) := State.runOp_inv h
    extract_lets t' at ht
    change ParamsInv t' at hr
    clear_value t'
    split at ht
    · split at ht
      · simp at ht
      · injection ht with ht; subst ht; exact hr
    · simp at ht

theorem State.refuseFirst_inv {s : State} {ws : List Waiting} (h : ParamsInv s) : ParamsInv (s.refuseFirst ws).1 := by
  induction ws generalizing s with
  | nil => exact h
  | cons w ws ih =>
    unfold State.refuseFirst
    split
    · next t ht => exact ih (State.refusedNowBy_inv h ht)
    · exact ih h

theorem State.runWinner_inv {s : State} {admits : List (OpenAsk × Admit)} {w : Winner} (h : ParamsInv s) :
    ParamsInv (s.runWinner admits w) := by
  unfold State.runWinner
  extract_lets r
  split
  · split
    · exact h.app (State.runDoorOp_keeps ..) (by decide)
    · exact h
  · exact (State.runOp_inv h).app (State.mergeInto_keeps ..) (by decide)

theorem State.resolve_inv {s : State} (h : ParamsInv s) : ParamsInv s.resolve := by
  unfold State.resolve
  extract_lets all s0 waits now s1
  have h0 : ParamsInv s0 := h.each fun _ _ h => h.app (State.safetyFirst_keeps ..) (by decide)
  have h1 : ParamsInv s1 := h0.of_params rfl
  have h2 : ParamsInv (s1.refuseFirst now).1 := State.refuseFirst_inv h1
  refine ParamsInv.each ?_ fun _ _ h => State.runWinner_inv h
  exact h2.app (State.arbitrate_keeps ..) (by decide)

theorem State.passOn_inv {s : State} {p : PortId} {r : Req} {op : Op} {b : List Byte} (h : ParamsInv s) :
    ParamsInv (s.passOn p r op b) := by
  unfold State.passOn
  extract_lets atTime needLocked
  split
  · split
    · extract_lets s1
      have h1 : ParamsInv s1 := h.app (State.fail_keeps ..) (by decide)
      split
      · exact h1
      · exact h1.app (State.raise_keeps ..) (by decide)
    · exact h.of_params rfl
  · split
    · exact h.app (State.queueReq_keeps ..) (by decide)
    · exact State.runOp_inv h

theorem State.takeDescriptor_inv {s : State} {p : PortId} {q : Fin 16} {core : CoreId} {b : List Byte}
    {buf : Option (List Byte)} {stamp : Option (BitVec 48)} (h : ParamsInv s) :
    ParamsInv (s.takeDescriptor p q core b buf stamp) := by
  unfold State.takeDescriptor
  extract_lets own hseq refusal dup r s1
  have h1 : ParamsInv s1 := h.of_params rfl
  clear_value s1 refusal
  split
  · extract_lets s2
    have h2 : ParamsInv s2 := h1.app (State.fail_keeps ..) (by decide)
    clear_value s2
    split
    · exact h2.app (State.raise_keeps ..) (by decide)
    · exact h2
  · split
    · exact State.passOn_inv h1
    · exact h1

theorem State.p2Fetch_inv {s : State} (h : ParamsInv s) : ParamsInv s.p2Fetch := by
  unfold State.p2Fetch
  split
  · exact h
  · split
    · exact h
    · split
      · exact h.app (State.stopFetching_keeps ..) (by decide)
      · have h1 : ParamsInv ((s.stopFetching 2 false).countFetch 2) :=
          (h.app (State.stopFetching_keeps ..) (by decide)).app (State.countFetch_keeps ..) (by decide)
        exact State.takeDescriptor_inv (h1.of_params rfl)

theorem State.p4Fetch_inv {s : State} (h : ParamsInv s) : ParamsInv s.p4Fetch := by
  unfold State.p4Fetch
  split
  · exact h
  · split
    · exact h
    · split
      · exact h.app (State.stopFetching_keeps ..) (by decide)
      · have h1 : ParamsInv ((s.stopFetching 3 false).countFetch 3) :=
          (h.app (State.stopFetching_keeps ..) (by decide)).app (State.countFetch_keeps ..) (by decide)
        exact State.takeDescriptor_inv (h1.of_params rfl)

theorem State.hostFetch_inv {s : State} {p : PortId} {q : Fin 16} {desc buf : Option (List Byte)} (h : ParamsInv s) :
    ParamsInv (s.hostFetch p q desc buf) := by
  unfold State.hostFetch
  extract_lets t
  split
  · exact h
  · split
    · exact (h.app (State.modPort_keeps ..) (by decide)).app (State.raise_keeps ..) (by decide)
    · split
      · exact h.app (State.stopFetching_keeps ..) (by decide)
      · have h1 : ParamsInv ((s.stopFetching p false).countFetch p) :=
          (h.app (State.stopFetching_keeps ..) (by decide)).app (State.countFetch_keeps ..) (by decide)
        exact State.takeDescriptor_inv (h1.of_params rfl)

theorem State.ownFetches_inv {s : State} (h : ParamsInv s) : ParamsInv s.ownFetches :=
  ParamsInv.each (ParamsInv.each h fun _ _ h => State.p2Fetch_inv h) fun _ _ h => State.p4Fetch_inv h

theorem State.passMachines_inv {s : State} (h : ParamsInv s) : ParamsInv s.passMachines := by
  have h1 : ParamsInv (s.each s.enabledDoors State.obstacleTick) :=
    h.each fun _ _ h => h.app (State.obstacleTick_keeps ..) (by decide)
  have h2 : ParamsInv ((s.each s.enabledDoors State.obstacleTick).each
      (s.each s.enabledDoors State.obstacleTick).generators State.axisReadings) :=
    h1.each fun _ _ h => h.app (State.axisReadings_keeps ..) (by decide)
  exact (State.resolve_inv (State.ownFetches_inv h2)).each fun _ _ h => h.app (State.runDoor_keeps ..) (by decide)

theorem State.servicePass_inv {s : State} (h : ParamsInv s) : ParamsInv s.servicePass := by
  have h1 : ParamsInv ((((s.edge.linksTick).linkSecond).timeTick).panelTick) :=
    ((((h.app (State.edge_keeps ..) (by decide)).app (State.linksTick_keeps ..) (by decide)).app
      (State.linkSecond_keeps ..) (by decide)).app (State.timeTick_keeps ..) (by decide)).app
      (State.panelTick_keeps ..) (by decide)
  have h2 := (State.resolve_inv (State.ownFetches_inv h1)).app (State.sessionTick_keeps _) (by decide)
  exact ((((h2.app (State.swapWindow_keeps ..) (by decide)).app (State.waitingTick_keeps ..) (by decide)).app
    (State.usbTick_keeps ..) (by decide)).app (State.journalTick_keeps ..) (by decide)).app
    (State.portsTick_keeps ..) (by decide)

theorem State.runPass_inv {s : State} (h : ParamsInv s) : ParamsInv s.runPass :=
  ((((State.passMachines_inv (h.app (State.passInputs_keeps ..) (by decide))).app
    (State.passMotion_keeps ..) (by decide)).app (State.passUnits_keeps ..) (by decide)).app
    (State.passFrame_keeps ..) (by decide)).app (State.passOutputs_keeps ..) (by decide)

/-! ### The commands that write the set -/

theorem execOpParamWrite_inv {r : Req} {es : List (Nat × Nat)} {s t : State} (h : ParamsInv s)
    (ht : execOpParamWrite r es s = .next t) : ParamsInv t := by
  cases ht; exact State.doParamWrite_inv h

theorem execOpParamSetLoad_inv {r : Req} {s t : State} (h : ParamsInv s)
    (ht : execOpParamSetLoad r s = .next t) : ParamsInv t := by
  cases ht; exact State.doParamSetLoad_inv h

theorem execDescriptorFetch_inv {p : PortId} {q : Fin 16} {desc buf : Option (List Byte)} {s t : State}
    (h : ParamsInv s) (ht : execDescriptorFetch p q desc buf s = .next t) : ParamsInv t := by
  unfold execDescriptorFetch at ht
  injection ht with ht
  subst ht
  split
  · exact h
  · split
    · exact State.p2Fetch_inv h
    · split
      · exact State.p4Fetch_inv h
      · exact State.hostFetch_inv h

theorem execTickPass_inv {s t : State} (h : ParamsInv s) (ht : execTickPass s = .next t) : ParamsInv t := by
  unfold execTickPass at ht
  injection ht with ht
  subst ht
  have he : ∀ u : State, ParamsInv u → ParamsInv u.endTick := fun _ h => h.app (State.endTick_keeps ..) (by decide)
  split
  · exact h
  · split
    · exact he _ (State.servicePass_inv h)
    · split
      · split
        · exact he _ (h.app (State.startPass_keeps ..) (by decide))
        · split
          · exact he _ (State.runPass_inv h)
          · exact h
      · split
        · exact he _ (State.runPass_inv h)
        · exact h

end Sys2Proof.Machine
end

