-- ==== Sys2Proof/WellFormed.lean ====
section
/-!
DEFINITION. Commands as the frame's links, buses and rings can carry them: a frame goes to a slot of its link and has
a length of its table, and a number fits the field that carries it. A meaning never rests on this; a command outside it
is none that can be sent.
-/

namespace Sys2Proof

/-- Slots on the module link: all but the cores and the host slots. -/
def linkSlot (k : Slot) : Bool := decide (k.val < 3) || decide (6 < k.val)

/-- A number fits an unsigned field of `w` bits. -/
def fitsU (w n : Nat) : Bool := decide (n < 2 ^ w)

/-- A number fits a signed field of `w` bits. -/
def fitsS (w : Nat) (n : Int) : Bool := decide (-(2 ^ (w - 1) : Int) ≤ n) && decide (n < (2 ^ (w - 1) : Int))

/-- The content of a request's buffer is no longer than the buffer. -/
def Req.wellFormed (r : Req) : Bool := r.buf.elim true fun b => decide (b.length ≤ r.bufLen)

/-- Data lengths of a classical, an FD and an XL frame; a classical or FD identifier without IDE has 11 bits. -/
def CanFrame.wellFormed (f : CanFrame) : Bool :=
  let n := f.data.length
  let length := match f.fmt with
    | 0 => decide (n ≤ 8)
    | 1 => decide (n ≤ 8) || [12, 16, 20, 24, 32, 48, 64].contains n
    | 2 => decide (1 ≤ n) && decide (n ≤ 2048)
    | _ => false
  length && (f.ide || decide (f.id.toNat < 2 ^ 11))

/-- A link frame is at most 252 bytes long (R16). -/
def linkFrame (slot : Slot) (frame : List Byte) : Bool := linkSlot slot && decide (frame.length ≤ 252)

/-- Commands that can be sent. -/
def Instr.wellFormed : Instr → Bool
  -- the module link and the slots (R16, Table FR-7)
  | .downlinkFrame k _ f => linkFrame k f
  | .uplinkFrame k _ f => linkFrame k f
  | .missedTick k _ => linkSlot k
  | .linkLost k _ => linkSlot k
  | .memoryFrame _ _ f => decide (f.length ≤ 252)
  | .identityData _ b _ => decide (b.length = 256)
  | .hostGraceExpired k => decide (k.val = 5) || decide (k.val = 6)
  -- the mirror link (R264, R265)
  | .mirrorFrame f => decide (f.length = 1024)
  | .returnFrame f => decide (f.length = 64)
  -- buses, panel and time frames
  | .wakeFrame f _ => f.wellFormed && f.fmt == 0
  | .canFrameReceived _ f => f.wellFormed
  | .p2DescriptorFrame _ xl _ d => if xl then decide (1 ≤ d.length) && decide (d.length ≤ 2048) else decide (d.length ≤ 64)
  | .doorCmd _ d => decide (d.length ≤ 64)
  | .statusReq _ d => decide (d.length ≤ 64)
  | .timeFrame _ d => decide (d.length ≤ 64)
  | .busStateChange _ _ n t r => fitsU 3 n && fitsU 16 t && fitsU 16 r
  | .canBusError _ _ k t r => fitsU 8 k && fitsU 16 t && fitsU 16 r
  | .stretchLimit c => decide (c.length = 5)
  | .pbBusStuck n => fitsU 2 n
  -- host ports and the service port (Tables HR-9, HR-12, UD-9)
  | .descriptorFetch _ _ d _ => d.elim true fun b => decide (b.length = 64)
  | .usbContainer _ b => decide (16 ≤ b.length)
  -- readings with the width of their fields
  | .busRangeFault _ n => fitsU 17 n
  | .motorTemp _ n => fitsU 16 n
  | .heatsink _ c => fitsS 8 c
  | .suOverload _ p _ => fitsU 16 p
  | .cellTemp n c => decide (n < 8) && fitsS 8 c
  | .cellFault n k v => decide (n < 8) && fitsU 8 k && fitsU 16 v
  | .svcAttach _ _ os t => os.all (fun o => fitsU 16 o.1 && fitsU 16 o.2) && fitsU 16 t
  | .rearmDue load c => if load then decide (1 ≤ c) && decide (c ≤ 12) else decide (c < 64)
  | .intercomInd _ n => fitsU 8 n
  -- requests: the buffer, and each argument in its field
  | .opServiceDrop r _ => r.wellFormed
  | .opDoorOpen r _ => r.wellFormed
  | .opDoorClose r _ => r.wellFormed
  | .opDoorStop r _ => r.wellFormed
  | .opDoorEvacOpen r _ => r.wellFormed
  | .opDoorReset r _ => r.wellFormed
  | .opStepRequest r _ => r.wellFormed
  | .opDoorObstacle r _ => r.wellFormed
  | .opDoorStatus r _ => r.wellFormed
  | .opClaim r _ => r.wellFormed
  | .opReleaseClaims r cs => r.wellFormed && decide (cs.length ≤ 8)
  | .opAxisMove r a x => r.wellFormed && fitsU 8 a && fitsS 32 x
  | .opAxisHalt r a => r.wellFormed && fitsU 8 a
  | .opAxisReference r a => r.wellFormed && fitsU 8 a
  | .opAxisSetPosition r a x => r.wellFormed && fitsU 8 a && fitsS 32 x
  | .opSegTableLoad r a n c x => r.wellFormed && fitsU 8 a && fitsU 8 n && fitsU 16 c && fitsS 32 x
  | .opMstepTableLoad r a => r.wellFormed && fitsU 8 a
  | .opLoadSet r _ _ => r.wellFormed
  | .opLoadRearm r _ => r.wellFormed
  | .opRestWindow r => r.wellFormed
  | .opWait r t a => r.wellFormed && fitsU 8 t && fitsU 64 a
  | .opReleaseHold r => r.wellFormed
  | .opCoreHandover r => r.wellFormed
  | .opCompletionReplay r _ n q => r.wellFormed && fitsU 16 n && fitsU 8 q
  | .opNop r => r.wellFormed
  | .opHeartbeat r => r.wellFormed
  | .opParamRead r f n => r.wellFormed && fitsU 16 f && fitsU 16 n
  | .opParamWrite r es => r.wellFormed && es.all fun e => fitsU 16 e.1 && fitsU 32 e.2
  | .opParamSetLoad r => r.wellFormed
  | .opParamSetRead r => r.wellFormed
  | .opIoRead r => r.wellFormed
  | .opFioSet r _ _ => r.wellFormed
  | .opCanTx r b _ n _ _ _ _ d => r.wellFormed && fitsU 8 b && fitsU 16 n && decide (d.length ≤ 2048)
  | .opCanTxAbort r _ => r.wellFormed
  | .opCanRxRead r a b c _ => r.wellFormed && fitsU 8 a && fitsU 8 b && fitsU 16 c
  | .opCanRxAck r _ => r.wellFormed
  | .opCanFilterSet r i _ _ _ _ _ _ _ => r.wellFormed && fitsU 8 i
  | .opCanStatus r b => r.wellFormed && fitsU 8 b
  | .opCanRecover r b => r.wellFormed && fitsU 8 b
  | .opTimeSet r t _ e u => r.wellFormed && fitsU 64 t && fitsU 32 e && fitsU 16 u
  | .opSchedCancel r _ => r.wellFormed
  | .opTimeRead r => r.wellFormed
  | .opJournalRead r a b c d e n st w _ => r.wellFormed && fitsU 8 a && fitsU 8 b && fitsU 8 c && fitsU 8 d
      && fitsU 16 e && fitsU 16 n && fitsU 64 st && fitsU 16 w
  | .opJournalStatus r => r.wellFormed
  | .opJournalRetain r f n => r.wellFormed && fitsU 64 f && fitsU 32 n
  | .opJournalRelease r => r.wellFormed
  | .opJournalNote r _ t => r.wellFormed && decide (t.length ≤ 44)
  | .opUpdateBegin r => r.wellFormed
  | .opUpdateChunk r i h => r.wellFormed && fitsU 16 i && decide (h.length = 32)
  | .opUpdateVerify r k => r.wellFormed && fitsU 8 k
  | .opUpdateActivate r k _ => r.wellFormed && fitsU 8 k
  | .opUpdateConfirm r _ => r.wellFormed
  | .opUpdateAbort r k _ => r.wellFormed && fitsU 8 k
  | .opUpdateStatus r => r.wellFormed
  | .opKeyProvision r => r.wellFormed
  | .opSessionChallenge r n => r.wellFormed && fitsU 8 n
  | .opSessionOpen r n _ => r.wellFormed && fitsU 8 n
  | .opSessionClose r => r.wellFormed
  | _ => true

end Sys2Proof
end

