-- ==== Sys2Proof/Tests/Slice0.lean ====
section
/-!
SUPPORT. Tests of the model: small states, a witness for every statement with hypotheses (one for each of its clauses,
at a boundary of its range where it has one), figures of the spec's worked cases, and ill-formed commands. The proofs
run one after another, since each evaluates in the kernel.
-/

open Sys2Proof Sys2Proof.Machine

namespace Sys2Proof.Tests

set_option Elab.async false

/-! ### Small states -/

/-- A machine in RUN with C0 fitted and active and these parameters set. -/
def wp (ps : List (Nat × Nat)) : State :=
  { params := ps, power := { state := .run }, pair := { core := #v[{ present := true, active := true }, {}] } }

def w : State := wp []

/-- Doorway 0 enabled, its own state given. -/
def wd (f : DoorSt → DoorSt) : State := (wp [(0x0A0, 1)]).modDoor 0 f

def ws (k : Slot) (f : SlotSt → SlotSt) : State := w.modSlot k f

/-- Field module 0 in service with these input bits, all of them valid, and channel pairs `on` active. -/
def inputs (s : State) (value : BitVec 32) (on : List Chan) : State :=
  on.foldl (fun t c => (t.modPairOf 0 c fun p => { p with val := .active }).modPairOf 1 c fun p =>
      { p with val := .active })
    ((s.modSlot 11 fun x => { x with pres := true, inService := true }).modFieldMod 0 fun m =>
      { m with fieldUp := true, views := .replicate 2 { value := value, valid := 0xFFFFFFFF } })

/-- Both cores fitted, C0 active, C1 the standby. -/
def w2 (st : StandbyState) : State :=
  w.modPair fun p => { p with core := #v[{ present := true, active := true }, { present := true }], standby := st }

/-- A request of P0. -/
def r0 : Req := { party := .p0 }

/-- Bytes followed by their CRC-32. -/
def sealed (b : List Byte) : List Byte := b ++ leBytes 4 (crc32 b).toNat

/-- A module link frame to slot `k` with this payload and its check. -/
def frameTo (type : Byte) (k : Slot) (payload : List Byte) : List Byte :=
  sealed ([type, 1, 0, 0, BitVec.ofNat 8 (k.val + 1), BitVec.ofNat 8 payload.length, 0, 0] ++ payload)

/-- An identity block of class 2 with its check. -/
def hostBody : List Byte := [1, 0] ++ List.replicate 13 0 ++ [2] ++ List.replicate 236 0
def hostBlock : List Byte := sealed hostBody

/-- Doorway 0 enabled and claimed by P0, released, at zero speed, proven closed and locked, in tier REVENUE. -/
def doorReady : State :=
  let s := (inputs (wp [(0x083, 2), (0x085, 4), (0x0A0, 1), (0x0A9, 6), (0x0AB, 7)]) 0xC0 [2, 4]).modDoors fun x =>
    { x with claims := [(.doorway 0, .p0)] }
  ({ s with frame := { s.frame with doorTier := .replicate 2 .revenue } } : State).modAxis 0 fun x =>
    { x with uncertain := false }

/-- These resources claimed by P0. -/
def owned (s : State) (rs : List Resource) : State := s.modDoors fun x => { x with claims := rs.map fun r => (r, .p0) }

/-- Axis 1, which no doorway uses, in service and claimed by P0; its parameters given. -/
def axisReady (ps : List (Nat × Nat)) : State :=
  owned ((wp ps).modSlot 8 fun x => { x with pres := true, inService := true }) [.axis 1, .paramSet]

/-- Axis 1 with a plan of this kind. -/
def jogPlan : Plan := { kind := .jog, target := 5, body := .phases 0 0 0 [] }

/-- Axis 1 in this stage of referencing. -/
def referencing (ps : List (Nat × Nat)) (st : RefStage) : State :=
  (wp ps).modAxis 1 fun x => { x with ref := some { stage := st } }

/-- Axes 0 and 1 as the lanes of one twin axis. -/
def twinAxis (f : AxisSt → AxisSt) : State :=
  ((wp [(0x2F0, 1)]).modSlot 8 fun x => { x with pres := true, inService := true }).modAxis 0 f

/-- A segment table of one segment that holds still for 50 us. -/
def oneSegment : List Byte := leBytes 4 50 ++ List.replicate 8 0 ++ leBytes 4 1

/-- 512 entries of 2,047, then 512 of -2,047. -/
def squareLow : List Byte := (List.replicate 512 ([0xFF, 0x07] : List Byte)).flatten
def squareHigh : List Byte := (List.replicate 512 ([0x01, 0xF8] : List Byte)).flatten
def squareBody : List Byte := squareLow ++ squareHigh

/-- A microstep table of 2,047 and -2,047 with its check. -/
def squareTable : List Byte :=
  sealed squareBody

/-- Field module 0 with its field side up and this word for channel 0 of its applied set-up. -/
def fieldCfg (word : BitVec 32) (f : ChanSt → ChanSt) : State :=
  ((w.modFieldMod 0 fun m => { m with fieldUp := true, applied := (Vector.replicate 103 0).set 0 word }).modGroup 0
    fun g => { g with state := .ok }).modChan 0 f

/-- Load channel 1 with this word in its applied set-up. -/
def loadCfg (word : BitVec 32) (f : LoadChSt → LoadChSt) : State :=
  (w.modLoads fun l => { l with powerUp := true, appliedAny := true, applied := (Vector.replicate 13 0).set 0 word }).modLoad
    0 f

/-- The bytes of a staged set-up. -/
def wordBytes (l : List (Option (BitVec 32))) : List Byte := l.flatMap fun v => leBytes 4 (v.elim 0 BitVec.toNat)

/-- Field module 0 with a whole legal set-up staged and its check. -/
def fieldWords : Vector (Option (BitVec 32)) 103 := ((Vector.replicate 103 (some 0)).set 0x64 (some 20)).set 0x65 (some 50)
def stagedField : FieldModSt := { staged := fieldWords, cfgCrc := crc16 (wordBytes fieldWords.toList) }
def fieldStaged : State := w.modFieldMod 0 fun _ => stagedField

/-- The load switch module with a whole legal set-up staged and its check. -/
def loadWords : Vector (Option (BitVec 32)) 13 := (Vector.replicate 13 (some 0x10000)).set 12 (some 20)
def loadStaged : State := w.modLoads fun _ => { staged := loadWords, cfgCrc := crc16 (wordBytes loadWords.toList) }

/-- A core-pair frame of `n` + 5 bytes with its check. -/
def pairFrame (type : Byte) (n : Nat) : List Byte := sealed (type :: List.replicate n 0)

/-- Power module 0 in service and reporting a good feed. -/
def fed (s : State) : State :=
  (s.modSlot 0 fun x => { x with pres := true, inService := true }).modPm 0 fun p => { p with feed := .good, repFeed := .good }

/-- On the store, in this step of the shutdown. -/
def shutting (st : Option ShutStep) : State := w.modSupply fun x => { x with onStore := true, step := st }

/-- The energy module in service, floating, at its charge voltage. -/
def resting : State :=
  ((fed w).modSlot 2 fun x => { x with pres := true, inService := true }).modEnergy fun e =>
    { e with state := .float, vBank := 24000 }

/-- In this step of a power entry, another party's claim held. -/
def entering (k : EntryStep) : State := w.modPower fun x => { x with entry := some k, target := 2 }

def waking (k : WakeSt) : State := w.modPower fun x => { x with state := .sleep, wake := some k }

def sleeping : State := w.modPower fun x => { x with state := .sleep }

def shutRec : ShutRecord :=
  { number := 1, leaf := .replicate 2 .closedLocked, step := .replicate 2 .stowed, pos := .replicate 4 0,
    uncertain := .replicate 4 true, eOff := .replicate 4 0, e0Serial := none, at_ := 0, kind := 0 }

/-- Port P0 running, submission ring 0 with one descriptor waiting, completion ring 0 enabled, rings of 16. -/
def fetching : State :=
  w.modPort 0 fun p => { p with
    running := true, up := true, sq := p.sq.set 0 { cfg := 0x14, host := 1 }, cq := p.cq.set 0 { cfg := 0x14 } }

/-- A descriptor of this opcode, hseq 1, with nothing else set. -/
def descOf (opcode : Nat) : List Byte := leBytes 2 opcode ++ [0, 0, 1] ++ List.replicate 59 0

/-- Both controllers of both cores in this bus state. -/
def onBus (s : State) (st : BusState) : State :=
  s.modCan fun c => { c with ctl := .replicate 2 (.replicate 2 { state := st }) }

/-- A transmit entry of P0. -/
def txOf (started : Bool) : TxEntry :=
  { owner := .port { r0 with hseq := 9 }, bus := .d, frame := { fmt := 0, id := 5 }, inBuffer := true, started := started }

/-- The panel powered, doorway 0 enabled. -/
def panelReady (f : PanelSt → PanelSt) : State := (wp [(0x0A0, 1)]).modPanel fun p => f { p with powered := true }

/-- A record numbered `n`. -/
def recNo (n : Nat) (priority : Bool) : Record := { number := n, priority := priority, body := .gapSkipped 0 0 }

/-- An image header of type `kind`, one issue, no chunks. -/
def header (kind : Byte) : List Byte :=
  [0x57, 0x53, 0x4B, 0x37, 1, 0, kind, 0, 1, 0, 0, 0] ++ List.replicate 244 0

/-- An image of that header staged for its type. -/
def stagedOf (kind : Byte) (i : Fin 7) (verified : Bool) (s : State) : State :=
  s.modUpdate fun u => { u with staged := u.staged.set i (some { header := header kind, verified := verified }) }

/-- The load switch module on trial of the bank it runs. -/
def onTrial : State :=
  (owned ((wp [(0x570, 1)]).modSlot 13 fun x => { x with pres := true, inService := true }) [.paramSet]).modFirm 13 fun f =>
    { f with state := .trial, ptr := .replicate 2 { trial := true } }

/-- A USB container of the given kind with a block of 64 bytes. -/
def container (kind : Byte) : List Byte := [kind, 0, 0, 0, 64, 0, 0, 0] ++ List.replicate 72 0

/-- A service session of core 0, level 1, its challenge open. -/
def session (f : SessionSt → SessionSt) : State := w.modSession 0 fun x => f { x with level := 1 }

def keptNo (n : BitVec 32) : Completion := { opcode := 1, status := 0, hseq := n, dseq := n }

/-- The default parameters as OP_PARAM_SET_LOAD takes them. -/
def defaultBody : List Byte := (List.range 1536).flatMap fun i => leBytes 4 (paramDefault i)
def defaultImage : List Byte := sealed defaultBody

/-- A header of type 4 with one chunk of 8 bytes. -/
def chunky : List Byte := putBytes (header 4) 0x18 [8, 0, 0, 0, 1]

/-- Field module 0 in service on trial, doorway 0 enabled and in tier RESTRICTED. -/
def looping : State :=
  (((((fed (inputs (wp [(0x030, 0), (0x0A0, 1)]) 0 [])).modSlot 3 fun x => { x with pres := true, inService := true }).modSlot 7
    fun x => { x with pres := true, inService := true }).modAxis 0 fun x => { x with uncertain := false, referenced := true }).modFirm
    11 fun f => { f with state := .trial, ptr := .replicate 2 { trial := true } }).modFieldMod 0 fun m =>
      { m with resolved := true }

/-- RUN, fed, at zero speed, nothing moving, P0's consent given. -/
def consenting : State :=
  (inputs (fed (wp [(0x085, 4)])) 0 [4]).modPower fun x => { x with mode := .replicate 2 5 }

/-! ### The checks of the witnesses' frames and blocks -/

theorem leBytes_length : ∀ k n : Nat, (leBytes k n).length = k
  | 0, _ => rfl
  | k + 1, n => by simp [leBytes, leBytes_length k]

theorem byteAt_right (a b : List Byte) (i : Nat) : byteAt (a ++ b) (a.length + i) = byteAt b i := by
  simp [byteAt, List.getD_eq_getElem?_getD, List.getElem?_append_right (Nat.le_add_right _ _)]

/-- A number below 2^32 written in four bytes is read back. -/
theorem u32At_leBytes (a rest : List Byte) (n : Nat) (h : n < 2 ^ 32) : u32At (a ++ (leBytes 4 n ++ rest)) a.length = n := by
  have e : ∀ i, byteAt (a ++ (leBytes 4 n ++ rest)) (a.length + i) = byteAt (leBytes 4 n ++ rest) i := byteAt_right a _
  have e0 := e 0
  rw [Nat.add_zero] at e0
  simp only [u32At, leAt, Nat.add_assoc, e, e0]
  simp [leBytes, byteAt]
  omega

theorem sealed_take (b : List Byte) (n : Nat) (h : b.length = n) : (sealed b).take n = b := by
  subst h; simp [sealed]

theorem sealed_check (b : List Byte) (n : Nat) (h : b.length = n) : u32At (sealed b) n = (crc32 b).toNat := by
  subst h
  have := u32At_leBytes b [] (crc32 b).toNat (crc32 b).isLt
  rwa [List.append_nil] at this

theorem sealed_length (b : List Byte) : (sealed b).length = b.length + 4 := by simp [sealed, leBytes_length]

theorem hostBlock_valid : identityInvalid hostBlock = none := by
  have len : hostBody.length = 252 := by decide +kernel
  have h : (hostBlock.length ≠ 256 || (crc32 (hostBlock.take 0xFC)).toNat ≠ u32At hostBlock 0xFC : Bool) = false := by
    unfold hostBlock
    rw [sealed_take _ _ len, sealed_check _ _ len, sealed_length, len]
    simp
  unfold identityInvalid
  rw [h, if_neg Bool.false_ne_true, if_neg (by decide +kernel)]

theorem frameTo_body (type : Byte) (k : Slot) (payload : List Byte) (h : payload.length ≤ 240) :
    byteAt (frameTo type k payload) 5 = payload.length := by
  simp [frameTo, sealed, byteAt]; omega

theorem frameTo_crc (type : Byte) (k : Slot) (payload : List Byte) (h : payload.length ≤ 240) :
    linkCrcHolds (frameTo type k payload) = true := by
  have l : ([type, 1, 0, 0, BitVec.ofNat 8 (k.val + 1), BitVec.ofNat 8 payload.length, 0, 0] ++ payload).length
      = payload.length + 8 := by simp
  unfold linkCrcHolds
  rw [frameTo_body type k payload h]
  dsimp only
  unfold frameTo
  rw [sealed_take _ _ l, sealed_check _ _ l, sealed_length, l]
  simp [h]

theorem frameTo_good (type : Byte) (k : Slot) (payload : List Byte) (h : payload.length ≤ 240) :
    linkFrameGood k type.toNat (frameTo type k payload) = true := by
  have e5 := frameTo_body type k payload h
  have e0 : byteAt (frameTo type k payload) 0 = type.toNat := rfl
  have e1 : byteAt (frameTo type k payload) 1 = 1 := rfl
  have e4 : byteAt (frameTo type k payload) 4 % 16 = k.val + 1 := by
    have : byteAt (frameTo type k payload) 4 = (k.val + 1) % 256 := rfl
    rw [this]; omega
  have l : ([type, 1, 0, 0, BitVec.ofNat 8 (k.val + 1), BitVec.ofNat 8 payload.length, 0, 0] ++ payload).length
      = payload.length + 8 := by simp
  unfold linkFrameGood
  rw [e5, e0, e1, e4]
  dsimp only
  unfold frameTo
  rw [sealed_take _ _ l, sealed_check _ _ l, sealed_length, l]
  simp [h, bit, bits]

theorem pairFrame_good (type : Byte) (n : Nat) : frameGood (pairFrame type n) (n + 5) type = true := by
  unfold frameGood
  have e0 : (pairFrame type n).getD 0 0 = type := rfl
  rw [e0]
  unfold pairFrame
  rw [sealed_take _ _ (by simp), sealed_check _ _ (by simp), sealed_length]
  simp

/-! ### A microstep table -/

theorem byteAt_pairs (a b : Byte) (rest : List Byte) : ∀ m n : Nat, n < m →
    byteAt ((List.replicate m [a, b]).flatten ++ rest) (2 * n) = a.toNat ∧
    byteAt ((List.replicate m [a, b]).flatten ++ rest) (2 * n + 1) = b.toNat
  | 0, _, h => absurd h (Nat.not_lt_zero _)
  | m + 1, 0, _ => by simp [List.replicate_succ, byteAt]
  | m + 1, n + 1, h => by
    have ih := byteAt_pairs a b rest m n (by omega)
    simpa [List.replicate_succ, byteAt, Nat.mul_add] using ih

theorem squareLow_length : squareLow.length = 1024 := by decide +kernel
theorem squareBody_length : squareBody.length = 2048 := by decide +kernel

theorem squareTable_low (n : Nat) (h : n < 512) : s16At squareTable (2 * n) = 2047 := by
  have e := byteAt_pairs 0xFF 0x07 (squareHigh ++ leBytes 4 (crc32 squareBody).toNat) 512 n h
  have e1 : squareTable = squareLow ++ (squareHigh ++ leBytes 4 (crc32 squareBody).toNat) := by
    unfold squareTable sealed
    conv => lhs; lhs; unfold squareBody
    rw [List.append_assoc]
  rw [e1]
  unfold squareLow s16At u16At leAt leAt leAt
  rw [e.1, e.2]
  decide

theorem squareTable_high (n : Nat) (h : n < 512) : s16At squareTable (2 * (n + 512)) = -2047 := by
  have e := byteAt_pairs 0x01 0xF8 (leBytes 4 (crc32 squareBody).toNat) 512 n h
  have e1 : squareTable = squareLow ++ (squareHigh ++ leBytes 4 (crc32 squareBody).toNat) := by
    unfold squareTable sealed
    conv => lhs; lhs; unfold squareBody
    rw [List.append_assoc]
  have e0 : 2 * (n + 512) = squareLow.length + 2 * n := by rw [squareLow_length]; omega
  rw [e1, e0]
  unfold s16At u16At leAt leAt leAt
  rw [Nat.add_assoc, byteAt_right, byteAt_right]
  unfold squareHigh
  rw [e.1, e.2]
  decide

theorem squareTable_entry (n : Nat) (h : n < 1024) :
    s16At squareTable (2 * n) = 2047 ∨ s16At squareTable (2 * n) = -2047 := by
  rcases Nat.lt_or_ge n 512 with h1 | h1
  · exact .inl (squareTable_low n h1)
  · have := squareTable_high (n - 512) (by omega)
    rw [Nat.sub_add_cancel h1] at this
    exact .inr this

/-- The entries as `mstepFail` reads them. -/
def squareEntries : List Int := (List.range 1024).map fun n => s16At squareTable (2 * n)

theorem squareEntries_getD (n : Nat) (h : n < 1024) : squareEntries.getD n 0 = s16At squareTable (2 * n) := by
  unfold squareEntries
  rw [List.getD_eq_getElem?_getD, List.getElem?_map, List.getElem?_range h]
  rfl

theorem mstepFail_none (bs : List Byte) (es : List Int) (he : es = (List.range 1024).map fun n => s16At bs (2 * n))
    (hc : (crc32 (slice bs 0 2048)).toNat = u32At bs 2048)
    (h1 : es.findIdx? (fun e => decide (2047 < e.natAbs)) = none)
    (h2 : ((List.range 512).find? fun n => es.getD (n + 512) 0 != -(es.getD n 0)) = none)
    (h3 : es.all (fun e => decide (e < 1024)) = false) : mstepFail bs = none := by
  unfold mstepFail
  extract_lets fs
  have hf : fs = es := he.symm
  clear_value fs
  subst hf
  rw [if_neg (not_not_intro hc), h1, h2, h3]
  exact if_neg Bool.false_ne_true

theorem squareTable_good : mstepFail squareTable = none := by
  have hm : ∀ x ∈ squareEntries, x = 2047 ∨ x = -2047 := by
    intro x hx
    obtain ⟨n, hn, rfl⟩ := List.mem_map.mp hx
    exact squareTable_entry n (List.mem_range.mp hn)
  have ht : squareTable.take 2048 = squareBody := sealed_take _ _ squareBody_length
  have hc : (crc32 (slice squareTable 0 2048)).toNat = u32At squareTable 2048 := by
    have hs : slice squareTable 0 2048 = squareBody := by
      simp only [slice, List.drop_zero, ht, squareBody_length, Nat.sub_self]
      exact List.append_nil _
    rw [hs]
    exact (sealed_check _ _ squareBody_length).symm
  have h1 : squareEntries.findIdx? (fun e => decide (2047 < e.natAbs)) = none := by
    rw [List.findIdx?_eq_none_iff]
    intro x hx
    rcases hm x hx with rfl | rfl <;> rfl
  have h2 : ((List.range 512).find? fun n => squareEntries.getD (n + 512) 0 != -(squareEntries.getD n 0)) = none := by
    rw [List.find?_eq_none]
    intro n hn
    have hn := List.mem_range.mp hn
    rw [squareEntries_getD _ (by omega), squareEntries_getD _ (by omega), squareTable_low n hn, squareTable_high n hn]
    decide
  have h3 : squareEntries.all (fun e => decide (e < 1024)) = false := by
    rw [List.all_eq_false]
    exact ⟨_, List.mem_map.mpr ⟨0, List.mem_range.mpr (by omega), rfl⟩, by rw [squareTable_low 0 (by omega)]; decide⟩
  exact mstepFail_none squareTable squareEntries rfl hc h1 h2 h3

/-! ### A parameter image -/

theorem u32At_words (f : Nat → Nat) (rest : List Byte) : ∀ (l : List Nat) (i k : Nat), (∀ j ∈ l, f j < 2 ^ 32) →
    l[i]? = some k → u32At ((l.flatMap fun j => leBytes 4 (f j)) ++ rest) (4 * i) = f k
  | [], _, _, _, h => by simp at h
  | j :: l, 0, k, hf, h => by
    simp at h
    subst h
    have := u32At_leBytes [] ((l.flatMap fun j => leBytes 4 (f j)) ++ rest) (f j) (hf j (List.mem_cons_self ..))
    simpa using this
  | j :: l, i + 1, k, hf, h => by
    have ih := u32At_words f rest l i k (fun x hx => hf x (List.mem_cons_of_mem _ hx)) (by simpa using h)
    have e : ∀ n, byteAt (leBytes 4 (f j) ++ ((l.flatMap fun j => leBytes 4 (f j)) ++ rest)) (4 + n)
        = byteAt ((l.flatMap fun j => leBytes 4 (f j)) ++ rest) n := fun n => by
      have := byteAt_right (leBytes 4 (f j)) ((l.flatMap fun j => leBytes 4 (f j)) ++ rest) n
      rwa [leBytes_length] at this
    rw [List.flatMap_cons, List.append_assoc]
    simp only [u32At, leAt] at ih ⊢
    have e4 : 4 * (i + 1) = 4 + 4 * i := by omega
    rw [e4]
    simp only [Nat.add_assoc, e]
    simpa [Nat.add_assoc] using ih

theorem paramsFrom_defaults : ∀ n i : Nat, paramsFrom i ((List.range' i n).map paramDefault) = []
  | 0, _ => rfl
  | n + 1, i => by simp [List.range'_succ, paramsFrom, paramsFrom_defaults n (i + 1)]

theorem default_small : ∀ i, i < 1536 → paramDefault i < 2 ^ 32 := by decide +kernel

theorem w_defaults : (owned w [.paramSet]).checkSet [] = none := by decide +kernel

theorem words_length (f : Nat → Nat) : ∀ l : List Nat, (l.flatMap fun j => leBytes 4 (f j)).length = 4 * l.length
  | [] => rfl
  | j :: l => by simp [words_length f l, leBytes_length]; omega

/-- The words of the default set, without its check. -/
theorem defaultBody_length : defaultBody.length = 6144 := by
  unfold defaultBody; rw [words_length, List.length_range]

theorem defaultImage_crc : (crc32 (slice defaultImage 0 6144)).toNat = u32At defaultImage 6144 := by
  have ht : defaultImage.take 6144 = defaultBody := sealed_take _ _ defaultBody_length
  have hs : slice defaultImage 0 6144 = defaultBody := by
    simp only [slice, List.drop_zero, ht, defaultBody_length, Nat.sub_self]
    exact List.append_nil _
  rw [hs]
  exact (sealed_check _ _ defaultBody_length).symm

/-- What OP_PARAM_SET_LOAD reads from that image is the default set. -/
theorem defaultImage_good :
    (owned w [.paramSet]).checkSet (paramsFrom 0 ((List.range paramCount).map fun i => u32At defaultImage (4 * i))) = none := by
  have h : ((List.range paramCount).map fun i => u32At defaultImage (4 * i)) = (List.range' 0 1536).map paramDefault := by
    rw [← List.range_eq_range']
    apply List.map_congr_left
    intro i hi
    have hi : i < 1536 := List.mem_range.mp hi
    unfold defaultImage sealed defaultBody
    exact u32At_words paramDefault _ (List.range 1536) i i (fun k hk => default_small k (List.mem_range.mp hk))
      (List.getElem?_range hi)
  rw [h, paramsFrom_defaults]
  exact w_defaults

theorem consenting_may_enter : ∀ n, consenting.entryRefusal n = none := by
  intro n
  have h : (consenting.wkLevel n &&& consenting.wkActiveMask consenting.power.wk != 0) = false := by
    have e : consenting.wkActiveMask consenting.power.wk = 0 := by decide +kernel
    rw [e, Nat.and_zero]; rfl
  unfold State.entryRefusal
  rw [if_neg (by decide +kernel), if_neg (by decide +kernel), if_neg (by decide +kernel), if_neg (by decide +kernel),
    if_neg (by rw [h]; exact Bool.false_ne_true), if_neg (by decide +kernel)]

theorem fieldStaged_matches : fieldStaged.fieldMatches 0 = true := by
  have h : stagedField.stagedCrc = some stagedField.cfgCrc := by
    unfold FieldModSt.stagedCrc
    rw [if_pos (by decide +kernel)]
    dsimp only [stagedField, wordBytes]
  have e : fieldStaged.field.mods[(0 : Fin 2)] = stagedField := updV_self _ _ _
  unfold State.fieldMatches
  dsimp only
  rw [e, h, beq_self_eq_true, Bool.true_and]
  decide +kernel

theorem loadStaged_matches : loadStaged.loadMatches = true := by
  have h : loadStaged.load.stagedCrc = some loadStaged.load.cfgCrc := by
    unfold LoadSt.stagedCrc
    rw [if_pos (by decide +kernel)]
    dsimp only [loadStaged, State.modLoads, wordBytes]
  unfold State.loadMatches
  rw [h, beq_self_eq_true, Bool.true_and]
  decide +kernel

theorem succ_ne (x : BitVec 40) : x + 1 ≠ x := by simp

/-! ### A witness for every statement with hypotheses -/

theorem witness_StepRunsFront : ∃ (s : State) (c : Instr) (rest : List Instr), s.pending = c :: rest :=
  ⟨{ w with pending := [.tickPass] }, .tickPass, [], rfl⟩

theorem witness_StepIdles : ∃ s : State, s.pending = [] := ⟨w, rfl⟩

theorem witness_StepKeepsQueueOrder : ∃ s t : State, step s = .next t ∧ t.pending ≠ [] :=
  ⟨{ w with pending := [.missedTick 13 false, .tickPass] }, _, rfl, by decide +kernel⟩

theorem witness_ParamsStayInRange : ∃ s t : State, ParamsInv s ∧ s.params ≠ [] ∧ step s = .next t :=
  ⟨{ wp [(0x030, 0)] with pending := [.missedTick 13 false] }, _, ⟨by decide +kernel, by decide +kernel⟩, by decide +kernel,
    rfl⟩

theorem witness_DefaultsInRange : (0 < 1536) ∧ (1535 < 1536) := by decide

theorem witness_EveryCommandKeepsItsFrame : ∃ (c : Instr) (s t : State), exec c s = .next t :=
  ⟨.missedTick 13 false, w, _, rfl⟩

/-- The load switch module's trial of an image of security version 5. -/
def newer : State := onTrial.modFirm 13 fun f => { f with banks := .replicate 2 { header := putBytes (header 4) 0x10 [5] } }

theorem witness_SecurityCountersOnlyRise :
    (∃ s t : State, step s = .next t) ∧
    (∃ (c : Instr) (s t : State) (kind : Nat), exec c s = .next t ∧ t.secCounter kind ≠ s.secCounter kind) ∧
    (∃ (s : State) (r : Req) (kind : Nat) (g : Staged), maxBody kind ≠ 0 ∧ s.updDenied r = false ∧ s.staged kind = some g ∧
      g.missing = none ∧ hdrSec g.header < s.secCounter (hdrType g.header)) :=
  ⟨⟨{ w with pending := [.missedTick 13 false] }, _, rfl⟩,
    ⟨.autoConfirm 13, newer, _, 4, rfl, by decide +kernel⟩,
    ⟨(stagedOf 4 4 false (owned w [.paramSet])).modUpdate fun u => { u with counter := .replicate 7 1 }, r0, 4,
      { header := header 4 }, by decide +kernel⟩⟩

theorem witness_OtherDoorwayStands : ∃ (s t : State) (d j : Doorway) (c : Instr), j ≠ d ∧ c = .proofLost d ∧
    exec c s = .next t ∧ t.doors.door[d].leaf ≠ s.doors.door[d].leaf :=
  ⟨wd id, _, 0, 1, _, by decide, rfl, rfl, by decide +kernel⟩

theorem witness_OtherSlotsStand : ∃ (s t : State) (k j : Slot) (c : Instr), j ≠ k ∧ c = .presAsserted k 14 true ∧
    exec c s = .next t ∧ t.frame.slots[k] ≠ s.frame.slots[k] :=
  ⟨w, _, 13, 0, _, by decide, rfl, rfl, by decide +kernel⟩

theorem witness_InsertionCompletes :
    (∃ (s : State) (k : Slot), s.frame.slots[k].pres = false) ∧
    (∃ (s : State) (k : Slot), s.frame.slots[k].pres = true ∧ s.frame.slots[k].debounced = false ∧ s.coreReads = true) ∧
    (∃ (s : State) (k : Slot) (block : List Byte), s.frame.slots[k].identAsked = true ∧ identityInvalid block = none ∧
      s.identityMatches k block = true ∧ (((s.modSlot k fun x =>
      { x with identAsked := false, ident := some block }).takeFirmware k (BitVec.ofNat 32 (u32At block
      0x10))).alignModule k).frame.slots[k].heldOut ≠ some .image) ∧
    (∃ (s : State) (k : Slot) (block : List Byte), s.frame.slots[k].identAsked = true ∧ (identityInvalid block ≠ none
      ∨ s.identityMatches k block = false)) ∧
    (∃ (s : State) (k : Slot), s.frame.slots[k].identAsked = true) ∧
    (∃ (s : State) (k : Slot), s.frame.slots[k].enable = true ∧ s.frame.slots[k].inService = false ∧
      s.frame.slots[k].heldOut = none ∧ s.mayReport k = true) ∧
    (∃ (s : State) (k : Slot), s.frame.slots[k].pres = false ∧ s.frame.slots[k].latchFault = false) :=
  ⟨⟨w, 13, by decide +kernel⟩,
    ⟨ws 13 (fun x => { x with pres := true }), 13, by decide +kernel⟩,
    ⟨ws 5 (fun x => { x with pres := true, identAsked := true }), 5, hostBlock, ⟨by decide +kernel, hostBlock_valid,
      by decide +kernel, by decide +kernel⟩⟩,
    ⟨ws 5 (fun x => { x with pres := true, identAsked := true }), 5, [], by decide +kernel⟩,
    ⟨ws 5 (fun x => { x with pres := true, identAsked := true }), 5, by decide +kernel⟩,
    ⟨ws 5 (fun x => { x with pres := true, enable := true }), 5, by decide +kernel⟩,
    ⟨w, 13, by decide +kernel⟩⟩

theorem witness_RemovalCompletes :
    (∃ (s : State) (k : Slot), s.frame.slots[k].pres = true ∧ s.frame.slots[k].latchFault = false ∧
      s.frame.slots[k].removal = none) ∧
    (∃ (s : State) (k : Slot), s.frame.slots[k].pres = true ∧ s.frame.slots[k].latchFault = false ∧
      s.frame.slots[k].removal = none ∧ s.removalRefused k = none ∧ s.frame.slots[k].latchReclosed = true ∧ s.since
      s.frame.slots[k].latchClosedAt ≤ s.param 0x031 * sec ∧ s.zeroSpeed s.activeCore = true) ∧
    (∃ (s : State) (k : Slot) (why : WaitReason), s.frame.slots[k].removal = some (.waiting why) ∧ s.waitReason k =
      none) ∧
    (∃ (s : State) (k : Slot) (why : WaitReason), s.frame.slots[k].removal = some (.waiting why) ∧ s.zeroSpeed
      s.activeCore = true) ∧
    (∃ (s : State) (k : Slot) (p : HostPort), slotKind k = .host p ∧ s.frame.slots[k].removal = some (.running 1)) ∧
    (∃ (s : State) (k : Slot) (n : _), s.frame.slots[k].removal = some (.running n) ∧ s.removalDone k = true ∧ (∀ p,
      slotKind k ≠ .power p)) ∧
    (∃ (s : State) (k : Slot) (n : _) (p : Fin 2), s.frame.slots[k].removal = some (.running n) ∧ slotKind k = .power
      p) ∧
    (∃ (s : State) (k : Slot) (stage : RemStage), s.frame.slots[k].removal = some stage) ∧
    (∃ (s : State) (k : Slot), s.frame.slots[k].removal = some .free) ∧
    (∃ (s : State) (k : Slot), s.frame.slots[k].pres = true ∧ s.frame.slots[k].removal ≠ some .free) :=
  ⟨⟨ws 13 (fun x => { x with pres := true }), 13, by decide +kernel⟩,
    ⟨(inputs (wp [(0x085, 4)]) 0 [4]).modSlot 13 (fun x => { x with pres := true, latchReclosed := true }), 13,
      by decide +kernel⟩,
    ⟨ws 13 (fun x => { x with pres := true, removal := some (.waiting .turn) }), 13, .turn, by decide +kernel⟩,
    ⟨(inputs (wp [(0x085, 4)]) 0 [4]).modSlot 12 (fun x =>
      { x with pres := true, removal := some (.waiting .confirmation) }), 12, .confirmation, by decide +kernel⟩,
    ⟨ws 5 (fun x => { x with pres := true, removal := some (.running 1) }), 5, 0, by decide +kernel⟩,
    ⟨ws 13 (fun x => { x with pres := true, removal := some (.running 1) }), 13, 1, by decide +kernel⟩,
    ⟨ws 0 (fun x => { x with pres := true, removal := some (.running 1) }), 0, 1, 0, by decide +kernel⟩,
    ⟨ws 13 (fun x => { x with pres := true, removal := some (.waiting .turn) }), 13, (.waiting .turn),
      by decide +kernel⟩,
    ⟨ws 13 (fun x => { x with pres := true, removal := some .free }), 13, by decide +kernel⟩,
    ⟨ws 13 (fun x => { x with pres := true, inService := true }), 13, by decide +kernel⟩⟩

theorem witness_LinkCompletes :
    (∃ (s : State) (k : Slot) (frame : List Byte), s.frame.slots[k].pres = true ∧ onLink k = true ∧ linkCrcHolds frame
      = true ∧ linkFrameGood k 1 frame = true ∧ byteAt frame 5 = (payloadLengths k).1 ∧ s.commandWaits k = false) ∧
    (∃ (s : State) (k : Slot) (frame : List Byte), s.frame.slots[k].pres = true ∧ onLink k = true ∧ linkCrcHolds frame
      = false) ∧
    (∃ (s : State) (k : Slot), s.frame.slots[k].pres = true ∧ onLink k = true) ∧
    (∃ (s : State) (k : Slot) (core : CoreId) (frame : List Byte), s.frame.slots[k].pres = true ∧ onLink k = true ∧
      s.pair.core[core].present = true ∧ linkCrcHolds frame = true ∧ byteAt frame 0 = 2 ∧ byteAt frame 4 % 16 = k.val
      + 1 ∧ byteAt frame 5 = (payloadLengths k).2 ∧ core ≠ s.activeCore) ∧
    (∃ (s : State) (k : Slot) (frame : List Byte), s.frame.slots[k].pres = true ∧ slotKind k = .load ∧
      s.pair.core[s.activeCore].present = true ∧ s.frame.slots[k].inService = true ∧ s.frame.slots[k].removal = none ∧
      linkCrcHolds frame = true ∧ byteAt frame 0 = 2 ∧ byteAt frame 4 % 16 = k.val + 1 ∧ byteAt frame 5 =
      (payloadLengths k).2) ∧
    (∃ (s : State) (k : Slot) (core : CoreId), onLink k = true ∧ s.frame.slots[k].linkUp[core] = true ∧ core ≠
      s.activeCore) ∧
    (∃ (s : State), s.journal.unstaged ≠ 0 ∧ s.journal.staged < 256) ∧
    (∃ (s : State), s.anyActive = true ∧ s.supply.serviceOnly = false ∧ s.power.wake = none ∧ s.power.state = .run ∧
      s.power.entry ≠ some .n6) :=
  ⟨⟨ws 13 (fun x => { x with pres := true }), 13, frameTo 1 13 (List.replicate 16 0), ⟨by decide +kernel,
      by decide +kernel, frameTo_crc _ _ _ (by decide), frameTo_good _ _ _ (by decide), by decide +kernel,
      by decide +kernel⟩⟩,
    ⟨ws 13 (fun x => { x with pres := true }), 13, [], by decide +kernel⟩,
    ⟨ws 13 (fun x => { x with pres := true }), 13, by decide +kernel⟩,
    ⟨(w2 .inStep).modSlot 13 (fun x => { x with pres := true }), 13, 1, frameTo 2 13 (List.replicate 48 0),
      ⟨by decide +kernel, by decide +kernel, by decide +kernel, frameTo_crc _ _ _ (by decide), by decide +kernel,
      by decide +kernel, by decide +kernel, by decide +kernel⟩⟩,
    ⟨ws 13 (fun x => { x with pres := true, inService := true }), 13, frameTo 2 13 (List.replicate 48 0),
      ⟨by decide +kernel, by decide +kernel, by decide +kernel, by decide +kernel, by decide +kernel, frameTo_crc _ _
      _ (by decide), by decide +kernel, by decide +kernel, by decide +kernel⟩⟩,
    ⟨(w2 .inStep).modSlot 13 (fun x => { x with pres := true, linkUp := #v[true, true] }), 13, 1, by decide +kernel⟩,
    ⟨w.modJournal (fun j => { j with unstaged := 3 }), by decide +kernel⟩,
    ⟨w, by decide +kernel⟩⟩

theorem witness_DoorTimersComplete :
    (∃ (s : State) (d : Doorway), s.enabled d = true ∧ s.doors.door[d].leaf = .unlocking) ∧
    (∃ (s : State) (d : Doorway), s.enabled d = true ∧ s.doors.door[d].leaf = .opening) ∧
    (∃ (s : State) (d : Doorway), s.enabled d = true ∧ s.doors.door[d].leaf = .closing) ∧
    (∃ (s : State) (d : Doorway), s.enabled d = true ∧ s.doors.door[d].leaf = .locking) ∧
    (∃ (s : State) (d : Doorway), s.enabled d = true ∧ (s.doors.door[d].step = .deploying ∨ s.doors.door[d].step =
      .stowing)) ∧
    (∃ (s : State) (d : Doorway), s.enabled d = true ∧ s.doors.door[d].leaf = .warn ∧ s.leavesAtRest d = true ∧
      s.supply.onStore = false) ∧
    (∃ (s : State) (d : Doorway), s.doors.door[d].leaf = .reopening ∧ s.doors.door[d].reopenDone = true) ∧
    (∃ (s : State) (d : Doorway), s.doors.door[d].leaf = .emergencyReleased) ∧
    (∃ (s : State) (d : Doorway) (at_ : _), s.dwellDue d = some at_) ∧
    (∃ (s : State) (d : Doorway), s.tlMayTake d = true) :=
  ⟨⟨wd (fun x => { x with leaf := .unlocking }), 0, by decide +kernel⟩,
    ⟨wd (fun x => { x with leaf := .opening }), 0, by decide +kernel⟩,
    ⟨wd (fun x => { x with leaf := .closing }), 0, by decide +kernel⟩,
    ⟨wd (fun x => { x with leaf := .locking }), 0, by decide +kernel⟩,
    ⟨wd (fun x => { x with step := .deploying }), 0, by decide +kernel⟩,
    ⟨wd (fun x => { x with leaf := .warn }), 0, by decide +kernel⟩,
    ⟨wd (fun x => { x with leaf := .reopening, reopenDone := true }), 0, by decide +kernel⟩,
    ⟨wd (fun x => { x with leaf := .emergencyReleased }), 0, by decide +kernel⟩,
    ⟨((wp [(0x0A0, 1), (0x0B8, 1000)]).modDoors fun x => { x with claims := [(.doorway 0, .tl)] }).modDoor 0 (fun x =>
      { x with leaf := .opened, restSince := some 5 }), 0, 5 + 1000 * msec, by decide +kernel⟩,
    ⟨wd id, 0, by decide +kernel⟩⟩

theorem witness_DoorInputsComplete :
    (∃ (s : State) (core : CoreId) (c : Chan), s.doors.pairs[core][c].val ≠ .discrepant) ∧
    (∃ (s : State) (core : CoreId) (c : Chan), s.doors.pairs[core][c].val = .discrepant) ∧
    (∃ (s : State) (d : Doorway), s.enabled d = true ∧ s.doors.door[d].leaf ≠ .isolated ∧ s.doors.door[d].leaf ≠
      .emergencyReleased) ∧
    (∃ (s : State) (d : Doorway), s.enabled d = true ∧ s.doors.door[d].keyOn = false ∧ s.doors.door[d].leaf ≠
      .closedLocked ∧ s.doors.door[d].leaf ≠ .isolated) ∧
    (∃ (s : State) (d : Doorway), s.enabled d = true ∧ s.doors.door[d].keyOn = true ∧ s.doors.door[d].moved = true) ∧
    (∃ (s : State) (d : Doorway), s.enabled d = true ∧ s.doors.door[d].leaf = .isolated ∧ s.doors.door[d].keyOn = true
      ∧ s.doors.door[d].moved = false) ∧
    (∃ (s : State) (d : Doorway), s.enabled d = true ∧ s.doors.door[d].leaf = .closedLocked) ∧
    (∃ (s : State) (d : Doorway), s.enabled d = true ∧ s.doors.door[d].leaf = .locking) ∧
    (∃ (s : State) (d : Doorway), s.enabled d = true ∧ s.doors.door[d].releaseWas = true ∧ s.doors.door[d].leaf =
      .opening) ∧
    (∃ (s : State) (d : Doorway), s.enabled d = true ∧ s.doors.door[d].zsWas = true ∧ s.doors.door[d].leaf = .opening) ∧
    (∃ (s : State) (d : Doorway), s.enabled d = true ∧ s.doors.door[d].releaseWas = false ∧ s.tlOwns d = true ∧ s.dp d
      0x14 = 0 ∧ s.closeTl s.activeCore = false) ∧
    (∃ (s : State) (d : Doorway), s.enabled d = true ∧ s.doors.door[d].buttonWas = false ∧ s.tlOwns d = true ∧ s.dp d
      0x14 = 1 ∧ s.released s.activeCore d = true ∧ s.closeTl s.activeCore = false) ∧
    (∃ (s : State) (d : Doorway), s.doors.closeTlWas = false ∧ s.enabled d = true ∧ s.tlOwns d = true ∧
      s.doors.door[d].leaf ≠ .emergencyReleased) ∧
    (∃ (s : State) (d : Doorway), s.param 0x087 ≠ 0xFF ∧ s.doors.evacWas = false ∧ s.enabled d = true) ∧
    (∃ (s : State) (core : CoreId), s.mayClose core = true) ∧
    (∃ (s : State), s.doors.disagreed = false ∧ s.pair.core[s.standbyCore].present = true) :=
  ⟨⟨w, 0, 4, by decide +kernel⟩,
    ⟨w.modPairOf 0 4 (fun p => { p with val := .discrepant }), 0, 4, by decide +kernel⟩,
    ⟨wd (fun x => { x with leaf := .opened }), 0, by decide +kernel⟩,
    ⟨wd (fun x => { x with leaf := .opened }), 0, by decide +kernel⟩,
    ⟨wd (fun x => { x with leaf := .opened, keyOn := true, moved := true }), 0, by decide +kernel⟩,
    ⟨wd (fun x => { x with leaf := .isolated, keyOn := true }), 0, by decide +kernel⟩,
    ⟨wd id, 0, by decide +kernel⟩,
    ⟨wd (fun x => { x with leaf := .locking }), 0, by decide +kernel⟩,
    ⟨wd (fun x => { x with leaf := .opening, releaseWas := true }), 0, by decide +kernel⟩,
    ⟨wd (fun x => { x with leaf := .opening, zsWas := true }), 0, by decide +kernel⟩,
    ⟨(wp [(0x0A0, 1), (0x0B4, 0)]).modDoors (fun x => { x with claims := [(.doorway 0, .tl)] }), 0, by decide +kernel⟩,
    ⟨(inputs (wp [(0x083, 2), (0x0A0, 1)]) 0 [2]).modDoors (fun x => { x with claims := [(.doorway 0, .tl)] }), 0,
      by decide +kernel⟩,
    ⟨(wd (fun x => { x with leaf := .opened })).modDoors (fun x => { x with claims := [(.doorway 0, .tl)] }), 0,
      by decide +kernel⟩,
    ⟨wp [(0x087, 3), (0x0A0, 1)], 0, by decide +kernel⟩,
    ⟨{ w with frame := { w.frame with frameTier := .revenue } }, 0, by decide +kernel⟩,
    ⟨w2 .inStep, by decide +kernel⟩⟩

theorem witness_DoorCommandsComplete :
    (∃ (s : State) (d : Doorway) (r : Req), r.party ≠ .sv ∧ s.doors.door[d].moved = false ∧ s.handleInactive
      s.activeCore d = true ∧ s.doors.door[d].leaf = .closedLocked ∧ s.doors.door[d].keyOn = false ∧ s.allProven
      s.activeCore d = true ∧ s.stepWanted d = false ∧ s.checkDoor d .open r = none ∧ s.admitDoor d .open r ≠
      .refused) ∧
    (∃ (s : State) (d : Doorway) (r : Req), r.party ≠ .sv ∧ s.doors.door[d].moved = false ∧ s.handleInactive
      s.activeCore d = true ∧ s.doors.door[d].leaf = .opened ∧ s.checkDoor d .close r = none ∧ s.admitDoor d .close r
      ≠ .refused) ∧
    (∃ (s : State) (d : Doorway) (r : Req), r.party ≠ .sv ∧ s.doors.door[d].moved = false ∧ s.handleInactive
      s.activeCore d = true ∧ s.doors.door[d].leaf = .closing ∧ s.enabled d = true ∧ s.obst[d].raised = none ∧
      s.doors.door[d].rampToOpen = false ∧ s.safetyFirst r = s ∧ s.power.wake = none) ∧
    (∃ (s : State) (d : Doorway) (r : Req), r.party ≠ .sv ∧ s.doors.door[d].moved = false ∧ s.handleInactive
      s.activeCore d = true ∧ s.doors.door[d].leaf = .fault ∧ s.checkDoor d .evac r = none ∧ s.admitDoor d .evac r ≠
      .refused ∧ s.safetyFirst r = s ∧ s.power.wake = none) ∧
    (∃ (s : State) (d : Doorway) (r : Req), r.party ≠ .sv ∧ s.doors.door[d].moved = false ∧ s.handleInactive
      s.activeCore d = true ∧ s.doors.door[d].leaf = .fault ∧ s.doors.door[d].evacAsked = false ∧ s.checkDoor d .reset
      r = none ∧ (∀ a ∈ s.leafAxesOf d, s.needsRef a = false ∧ s.axes[a].ref = none) ∧ s.stepAxisOf d = none) ∧
    (∃ (s : State) (d : Doorway) (r : Req), r.party ≠ .sv ∧ s.doors.door[d].moved = false ∧ s.handleInactive
      s.activeCore d = true ∧ s.enabled d = true ∧ s.notOwner r (.doorway d.val) = false ∧ s.dp d 0x05 ≠ 0 ∧
      s.doors.door[d].leaf ≠ .isolated) ∧
    (∃ (s : State) (d : Doorway) (r : Req), r.party ≠ .sv ∧ s.doors.door[d].moved = false ∧ s.handleInactive
      s.activeCore d = true ∧ s.enabled d = false) :=
  ⟨⟨doorReady.modDoor 0 (fun x => x), 0, r0, by decide +kernel⟩,
    ⟨doorReady.modDoor 0 (fun x => { x with leaf := .opened }), 0, r0, by decide +kernel⟩,
    ⟨doorReady.modDoor 0 (fun x => { x with leaf := .closing }), 0, r0, by decide +kernel⟩,
    ⟨(doorReady.modSlot 7 fun x => { x with inService := true }).modDoor 0 (fun x => { x with leaf := .fault }), 0,
      r0, by decide +kernel⟩,
    ⟨(doorReady.modSlot 7 fun x => { x with inService := true }).modDoor 0 (fun x => { x with leaf := .fault }), 0,
      r0, by decide +kernel⟩,
    ⟨{ doorReady with params := (0x0A5, 1) :: doorReady.params } |> fun s =>
      { s with params := [(0x083, 2), (0x085, 4), (0x0A0, 1), (0x0A5, 2), (0x0A9, 6), (0x0AB, 7)] }, 0, r0,
      by decide +kernel⟩,
    ⟨w, 0, r0, by decide +kernel⟩⟩

theorem witness_ClaimsAndSourcesComplete :
    (∃ (s : State) (r : Req) (code : BitVec 32) (res : Resource), mayClaim r.party (code.toNat % 256) = true ∧
      s.resourceOf r.party code = some res ∧ s.claimState res = none ∧ s.ownerOf res = none) ∧
    (∃ (s : State), (∀ p : HostPort, s.frame.slots[hostSlot p].removal = none)) ∧
    (∃ (s : State), s.p2Up = true) ∧
    (∃ (s : State) (d : Doorway) (src : _), s.enabled d = true ∧ s.closingOrLocking d = true ∧ s.sourceCounts d src =
      true) ∧
    (∃ (s : State) (d : Doorway), s.enabled d = true) ∧
    (∃ (s : State) (d : Doorway), s.enabled d = true) ∧
    (∃ (s : State) (d : Doorway) (a : Axis), s.enabled d = true ∧ s.stepAxisOf d = some a ∧ s.doors.door[d].step =
      .stowing) ∧
    (∃ (s : State) (core : CoreId), s.doors.relays[core] = false) :=
  ⟨⟨wd id, r0, 1, (.doorway 0), by decide +kernel⟩,
    ⟨w, by decide +kernel⟩,
    ⟨w.modPort 2 (fun p => { p with up := true }), by decide +kernel⟩,
    ⟨wd (fun x => { x with leaf := .closing }), 0, .command, by decide +kernel⟩,
    ⟨wd id, 0, by decide +kernel⟩,
    ⟨wd id, 0, by decide +kernel⟩,
    ⟨(wp [(0x0A0, 1), (0x0A5, 1), (0x0A6, 1)]).modDoor 0 (fun x => { x with step := .stowing }), 0, 1,
      by decide +kernel⟩,
    ⟨w, 0, by decide +kernel⟩⟩

theorem witness_AxisCommandsComplete :
    (∃ (s : State) (a : Axis) (r : Req) (pos : _), s.axisArg a.val = some a ∧ s.notOwner r (.axis a.val) = false ∧
      s.blocked = false ∧ s.axisIn a = true ∧ s.driveFault a = false ∧ s.axisFree a = true ∧ s.lockedLeaf a = false ∧
      s.axes[a].ref = none ∧ s.limitAgainst a (pos * ustep - s.axes[a].x) = none ∧ s.supply.onStore = false ∧
      s.noMoves false = false ∧ s.axes[a].freezeDue = none ∧ s.axes[a].stopDue = false) ∧
    (∃ (s : State) (a : Axis) (r : Req), s.axisArg a.val = some a ∧ s.notOwner r (.axis a.val) = false ∧ s.blocked =
      false) ∧
    (∃ (s : State) (a : Axis) (r : Req), s.axisArg a.val = some a ∧ s.notOwner r (.axis a.val) = false ∧ s.blocked =
      false ∧ s.axisIn a = true ∧ s.axes[a].plan = none ∧ s.axes[a].ref = none ∧ s.ap a 0x1C ≠ 3 ∧ s.axisFree a = true
      ∧ s.lockedLeaf a = false) ∧
    (∃ (s : State) (a : Axis) (r : Req), s.axisArg a.val = some a ∧ s.notOwner r (.axis a.val) = false ∧ s.blocked =
      false ∧ s.axisIn a = true ∧ s.driveFault a = false ∧ s.ap a 0x1C = 3 ∧ s.axisFree a = true ∧ s.axes[a].plan =
      none) ∧
    (∃ (s : State) (a : Axis) (r : Req) (number : _) (count : _) (x0 : _) (bs : List Byte), number ≤ 15 ∧ 1 ≤ count ∧
      count ≤ 64 ∧ r.bufLen = 16 * count ∧ r.buf = some bs ∧ s.notOwner r .paramSet = false ∧ s.tableRunning a number
      = false ∧ segsCheck (-(256 * (s.ap a 0x0C : Int))) (256 * (s.ap a 3 : Int)) (max (s.ap a 4) (s.ap a 5)) (s.ap a
      6) (s.ap a 7) 0 x0 0 (segsOf bs count) = none ∧ inTravel (-(256 * (s.ap a 0x0C : Int))) (256 * (s.ap a 3 : Int))
      x0 = true) ∧
    (∃ (s : State) (a : Axis) (r : Req) (bs : List Byte), r.bufLen = 2052 ∧ r.buf = some bs ∧ s.notOwner r .paramSet =
      false ∧ mstepFail bs = none ∧ s.axes[a].plan = none) :=
  ⟨⟨axisReady [], 1, r0, 1, by decide +kernel⟩,
    ⟨(axisReady []).modAxis 1 (fun x => { x with v := 7, plan := some jogPlan }), 1, r0, by decide +kernel⟩,
    ⟨axisReady [], 1, r0, by decide +kernel⟩,
    ⟨axisReady [(0x25C, 3)], 1, r0, by decide +kernel⟩,
    ⟨axisReady [], 1, { r0 with bufLen := 16, buf := some oneSegment }, 3, 1, 0, oneSegment, by decide +kernel⟩,
    ⟨axisReady [], 1, { r0 with bufLen := 2052, buf := some squareTable }, squareTable, ⟨by decide +kernel, rfl,
      by decide +kernel, squareTable_good, by decide +kernel⟩⟩⟩

theorem witness_AxisEventsComplete :
    (∃ (s : State) (a : Axis) (p : _), s.axes[a].plan = some p ∧ s.axes[a].ref = none) ∧
    (∃ (s : State) (a : Axis) (from_ : _), s.axes[a].settleFrom = some from_) ∧
    (∃ (s : State) (a : Axis) (from_ : _), s.axes[a].wakeFrom = some from_) ∧
    (∃ (s : State) (a : Axis) (b : Bool), s.axes[a].ref = none ∧ (if b then 0 < s.axes[a].v else s.axes[a].v < 0) ∧
      s.ap a 0x1A = 0) ∧
    (∃ (s : State) (a : Axis), s.refStageIs a .search = true) ∧
    (∃ (s : State) (a : Axis), s.refStageIs a .back = true) ∧
    (∃ (s : State) (a : Axis), s.refStageIs a .search = true) ∧
    (∃ (s : State) (a : Axis), s.refStageIs a .back = true) ∧
    (∃ (s : State) (a : Axis), s.hasEncoder a = true ∧ (s.refStageIs a .search = true ∨ s.refStageIs a .back = true)) ∧
    (∃ (s : State) (a : Axis) (d : Doorway), s.refStageIs a .waitProof = true ∧ s.doorOfAxis a = some d) :=
  ⟨⟨w.modAxis 1 (fun x => { x with v := 7, plan := some jogPlan }), 1, jogPlan, by decide +kernel⟩,
    ⟨w.modAxis 1 (fun x => { x with driving := true, settleFrom := some 4 }), 1, 4, by decide +kernel⟩,
    ⟨w.modAxis 1 (fun x => { x with wakeFrom := some 4 }), 1, 4, by decide +kernel⟩,
    ⟨(wp [(0x25A, 0)]).modAxis 1 (fun x => { x with v := 7, plan := some jogPlan }), 1, true, by decide +kernel⟩,
    ⟨referencing [] .search, 1, by decide +kernel⟩,
    ⟨referencing [] .back, 1, by decide +kernel⟩,
    ⟨referencing [] .search, 1, by decide +kernel⟩,
    ⟨referencing [] .back, 1, by decide +kernel⟩,
    ⟨referencing [(0x2D8, 2)] .search, 1, by decide +kernel⟩,
    ⟨(wp [(0x0A0, 1)]).modAxis 0 (fun x => { x with ref := some { stage := .waitProof } }), 0, 0, by decide +kernel⟩⟩

theorem witness_AxisModulesComplete :
    (∃ (mV : _), (mV < 36000 ∨ 70000 < mV)) ∧
    (∃ (s : State) (m : Axis), (s.axMods[m].fault = 5 ∨ s.axMods[m].fault = 6)) ∧
    (∃ (s : State) (m : Axis) (ohm : _), s.param (pAxMod m.val 7) = 1 ∧ 3000 < ohm ∧ ohm ≤ 20000) ∧
    (∃ (celsius : _), 105 ≤ celsius) ∧
    (∃ (s : State) (m : Axis), s.axMods[m].lossState = false) :=
  ⟨⟨35999, by decide +kernel⟩,
    ⟨w.modAxMod 1 (fun m => { m with fault := 5 }), 1, by decide +kernel⟩,
    ⟨wp [(0x2DF, 1)], 1, 3001, by decide +kernel⟩,
    ⟨105, by decide +kernel⟩,
    ⟨w, 1, by decide +kernel⟩⟩

theorem witness_LanesComplete :
    (∃ (s : State) (a : Axis) (d : Doorway), s.axes[a].plan.isSome = true ∧ s.axes[a].ref = none ∧ s.doorOfAxis a =
      some d ∧ (s.leafAxesOf d).contains a = true ∧ s.doors.door[d].leaf = .closing ∧ bit (s.op d 0x12) 2 = true) ∧
    (∃ (s : State) (a : Axis), s.axes[a].plan.isSome = true ∧ s.axes[a].ref = none ∧ s.doorOfAxis a = none) ∧
    (∃ (s : State) (m : Axis), s.twin (s.axisOfLane m) = false) ∧
    (∃ (s : State) (m : Axis), s.twin (s.axisOfLane m) = true ∧ s.axes[s.axisOfLane m].lanes[laneIndex m] = true) ∧
    (∃ (s : State) (m : Axis), s.twin (s.axisOfLane m) = true ∧ s.axes[s.axisOfLane m].leaving = some (laneIndex m)) ∧
    (∃ (s : State) (m : Axis), s.mayRejoin m = true) ∧
    (∃ (s : State) (m : Axis) (from_ : _), s.axes[s.axisOfLane m].rejoining = some (laneIndex m, some from_)) ∧
    (∃ (s : State) (a : Axis), s.twin a = true ∧ s.axes[a].disagree = none) :=
  ⟨⟨(wd fun x => { x with leaf := .closing }).modAxis 0 (fun x => { x with plan := some jogPlan }), 0, 0,
      by decide +kernel⟩,
    ⟨w.modAxis 1 (fun x => { x with plan := some jogPlan }), 1, by decide +kernel⟩,
    ⟨w.modAxis 1 (fun x => { x with plan := some jogPlan, v := 3 }), 1, by decide +kernel⟩,
    ⟨twinAxis id, 1, by decide +kernel⟩,
    ⟨twinAxis (fun x => { x with leaving := some 1 }), 1, by decide +kernel⟩,
    ⟨twinAxis (fun x => { x with lanes := #v[true, false] }), 1, by decide +kernel⟩,
    ⟨twinAxis (fun x => { x with lanes := #v[true, false], rejoining := some (1, some 9) }), 1, 9, by decide +kernel⟩,
    ⟨twinAxis id, 0, by decide +kernel⟩⟩

theorem witness_FieldInputsComplete :
    (∃ (s : State) (c : Chan), s.fieldUp c = true ∧ s.chanIsIn c = true ∧ s.field.chan[c].code < 3) ∧
    (∃ (s : State) (c : Chan), s.fieldUp c = true ∧ s.field.group[chanGroup c].state.out = false ∧ chanMode (s.fioCfg
      c) c.val = 1 ∧ chanSuper (s.fioCfg c) c.val ≠ 0) ∧
    (∃ (s : State) (c : Chan), s.fieldUp c = true ∧ s.field.group[chanGroup c].state.out = false ∧ chanMode (s.fioCfg
      c) c.val = 1) ∧
    (∃ (s : State) (c : Chan), s.fieldUp c = true ∧ s.field.group[chanGroup c].state.out = false ∧ chanMode (s.fioCfg
      c) c.val = 2) ∧
    (∃ (s : State) (c : Chan), (s.field.chan[c].code = 3 ∨ s.field.chan[c].code = 4 ∨ s.field.chan[c].code = 7) ∧
      s.chanIsIn c = true ∧ s.field.group[chanGroup c].state.out = false) ∧
    (∃ (s : State) (c : Chan), s.chanIsIn c = true ∧ s.field.chan[c].code = 1) ∧
    (∃ (s : State) (c : Chan), s.chanIsIn c = true ∧ s.field.chan[c].code = 0 ∧ s.field.mods[chanMod c.val].cfg 0x66 ≠
      0) ∧
    (∃ (s : State) (g : Group) (deciVolt : Int), deciVolt.natAbs ≤ 360 ∧ s.field.group[g].state ≠ .notWired) ∧
    (∃ (deciVolt : Int), 360 < deciVolt.natAbs) :=
  ⟨⟨fieldCfg 1 id, 0, by decide +kernel⟩,
    ⟨fieldCfg 0x201 id, 0, by decide +kernel⟩,
    ⟨fieldCfg 1 id, 0, by decide +kernel⟩,
    ⟨fieldCfg 2 id, 0, by decide +kernel⟩,
    ⟨(fieldCfg 1 (fun x => { x with code := 3 })).modGroup 0 (fun g => { g with state := .ok }), 0, by decide +kernel⟩,
    ⟨fieldCfg 1 (fun x => { x with code := 1 }), 0, by decide +kernel⟩,
    ⟨(fieldCfg 1 (fun x => { x with code := 0 })).modFieldMod 0 (fun m =>
      { m with applied := m.applied.set 0x66 500 }), 0, by decide +kernel⟩,
    ⟨w, 0, -360, by decide +kernel⟩,
    ⟨361, by decide +kernel⟩⟩

theorem witness_FieldOutputsComplete :
    (∃ (s : State) (c : Chan), s.fieldUp c = true ∧ s.chanIsOut c = true ∧ s.field.chan[c].latched = 0) ∧
    (∃ (s : State) (c : Chan), s.fieldUp c = true ∧ s.chanIsOut c = true ∧ s.field.chan[c].latched = 0) ∧
    (∃ (s : State) (c : Chan), s.fieldUp c = true ∧ s.chanIsOut c = true ∧ s.field.chan[c].latched = 0 ∧
      s.field.chan[s.leadOf c].on = true ∧ s.field.chan[s.leadOf c].diag ≠ 9) ∧
    (∃ (s : State) (c : Chan), s.fieldUp c = true ∧ s.chanIsOut c = true ∧ s.field.chan[c].latched = 0 ∧
      s.field.chan[s.leadOf c].on = false ∧ s.field.chan[s.leadOf c].diag ≠ 10 ∧ bit (s.fioCfg c (pFieldChan c.val 1))
      5 = true) ∧
    (∃ (s : State) (c : Chan), s.fieldUp c = true ∧ s.chanIsOut c = true ∧ s.field.chan[c].latched = 0 ∧
      s.field.chan[s.leadOf c].on = false ∧ s.field.chan[s.leadOf c].diag ≠ 12) ∧
    (∃ (s : State) (c : Chan), s.leadOf c = c ∧ s.setLatched c ≠ 0 ∧ s.field.chan[c].demand = true ∧
      s.field.chan[c].cycledOff = true) ∧
    (∃ (s : State) (r : Req) (mask : BitVec 64), (∀ x : Chan, mask.getLsbD x.val = true → s.ownerOf (.field x.val) =
      some r.party ∧ chanMode s.param x.val = 3 ∧ outParallel s.param x.val ≠ 7)) :=
  ⟨⟨fieldCfg 3 (fun x => { x with on := true }), 0, by decide +kernel⟩,
    ⟨fieldCfg 3 (fun x => { x with on := true }), 0, by decide +kernel⟩,
    ⟨fieldCfg 3 (fun x => { x with on := true }), 0, by decide +kernel⟩,
    ⟨(fieldCfg 3 id).modFieldMod 0 (fun m => { m with applied := m.applied.set 32 0x20 }), 0, by decide +kernel⟩,
    ⟨fieldCfg 3 id, 0, by decide +kernel⟩,
    ⟨fieldCfg 3 (fun x => { x with latched := 8, demand := true, cycledOff := true }), 0, by decide +kernel⟩,
    ⟨owned (wp [(0x323, 3)]) [.field 1], r0, 2, by decide +kernel⟩⟩

theorem witness_FieldModulesComplete :
    (∃ (s : State) (m : Fin 2), s.field.mods[m].fieldUp = true ∧ s.field.mods[m].hold = false ∧
      s.field.mods[m].fieldHold = false ∧ s.field.mods[m].rearmCmd = 0 ∧ s.field.mods[m].cmdValid = true ∧
      (s.field.mods[m].safe = false ∨ s.field.mods[m].ackSafe = true) ∧ (∀ x ∈ modChans m, s.leadOf x = x ∧ s.members
      x = [x])) ∧
    (∃ (s : State) (m : Fin 2), s.field.mods[m].fieldUp = true ∧ s.field.mods[m].safe = false ∧
      s.field.mods[m].fieldHold = false ∧ (∀ x ∈ modChans m, s.leadOf x = x ∧ s.members x = [x])) ∧
    (∃ (s : State) (m : Fin 2), s.fieldMatches m = true) :=
  ⟨⟨w.modFieldMod 0 (fun m => { m with fieldUp := true, cmdValid := true }), 0, by decide +kernel⟩,
    ⟨w.modFieldMod 0 (fun m => { m with fieldUp := true }), 0, by decide +kernel⟩,
    ⟨fieldStaged, 0, fieldStaged_matches⟩⟩

theorem witness_LoadSwitchesComplete :
    (∃ (s : State) (v : Int), v.natAbs ≤ (if s.ls110 then 1750 else 1540)) ∧
    (∃ (s : State) (v : Int), (if s.ls110 then 1750 else 1540) < v.natAbs) ∧
    (∃ (s : State) (v : Int), s.ls110 = false ∧ 370 < v ∧ v ≤ 1540) ∧
    (∃ (s : State) (v : Int), s.ls110 = false ∧ v < 360 ∧ s.load.inputOpen = true) ∧
    (∃ (s : State) (c : LoadCh), s.loadMode c = true ∧ s.load.chan[c].latched = 0) ∧
    (∃ (s : State) (c : LoadCh), s.loadMode c = true ∧ s.load.chan[c].latched = 0 ∧ s.load.chan[c].on = true) ∧
    (∃ (s : State) (c : LoadCh), s.loadMode c = true ∧ s.load.chan[c].latched = 0) ∧
    (∃ (s : State) (c : LoadCh) (mJ : _), s.loadMode c = true ∧ s.load.chan[c].latched = 0 ∧ s.clampRating c < mJ) ∧
    (∃ (avg : _), avg < 500) ∧
    (∃ (s : State) (c : LoadCh), s.load.powerUp = true ∧ s.loadMode c = true) ∧
    (∃ (s : State) (c : LoadCh), bit (s.loadWord c) 11 = true ∧ s.loadMode c = true ∧ s.load.chan[c].on = true ∧
      s.load.chan[c].diag ≠ 3) ∧
    (∃ (s : State) (c : LoadCh), bit (s.loadWord c) 9 = true ∧ s.loadMode c = true ∧ s.load.chan[c].on = false ∧
      s.load.chan[c].diag ≠ 4) ∧
    (∃ (s : State) (c : LoadCh), s.loadMode c = true ∧ s.load.chan[c].on = false ∧ s.load.chan[c].diag ≠ 6) ∧
    (∃ (s : State) (c : LoadCh), [3, 4, 6].contains s.load.chan[c].diag = true) :=
  ⟨⟨w, -1540, by decide +kernel⟩,
    ⟨w, 1541, by decide +kernel⟩,
    ⟨w, 1540, by decide +kernel⟩,
    ⟨w.modLoads (fun l => { l with inputOpen := true }), 359, by decide +kernel⟩,
    ⟨loadCfg 1 id, 0, by decide +kernel⟩,
    ⟨loadCfg 1 (fun x => { x with on := true }), 0, by decide +kernel⟩,
    ⟨loadCfg 1 id, 0, by decide +kernel⟩,
    ⟨loadCfg 1 id, 0, 401, by decide +kernel⟩,
    ⟨499, by decide +kernel⟩,
    ⟨loadCfg 1 (fun x => { x with on := true }), 0, by decide +kernel⟩,
    ⟨loadCfg 0x801 (fun x => { x with on := true }), 0, by decide +kernel⟩,
    ⟨loadCfg 0x201 id, 0, by decide +kernel⟩,
    ⟨loadCfg 1 id, 0, by decide +kernel⟩,
    ⟨loadCfg 1 (fun x => { x with diag := 3 }), 0, by decide +kernel⟩⟩

theorem witness_LoadCommandsComplete :
    (∃ (s : State) (r : Req) (mask : BitVec 16), loadMaskBad mask = false ∧ (∀ c : LoadCh, mask.getLsbD c.val = true →
      s.loadNotOwned r c = false ∧ s.loadBlocked c = false)) ∧
    (∃ (s : State) (r : Req) (mask : BitVec 16), loadMaskBad mask = false ∧ (∀ c : LoadCh, mask.getLsbD c.val = true →
      s.loadNotOwned r c = false) ∧ (∃ c : LoadCh, mask.getLsbD c.val = true ∧ s.load.chan[c].latched ≠ 0) ∧ (∀ c :
      LoadCh, mask.getLsbD c.val = true → s.load.chan[c].latched ≠ 0 → s.loadCooled c = true)) ∧
    (∃ (s : State) (c : LoadCh), s.load.chan[c].latched ≠ 0 ∧ s.load.chan[c].demand = true ∧ s.load.chan[c].cycledOff
      = true ∧ (s.load.chan[c].latched ≠ 2 ∨ 10 * s.load.chan[c].heat < 4 * heatUnit)) ∧
    (∃ (s : State), s.load.safe = false ∧ s.load.hold = false ∧ s.load.appliedAny = true) ∧
    (∃ (s : State), s.loadMatches = true) :=
  ⟨⟨owned (loadCfg 1 id) [.load 1] |> fun s => s.modLoads (fun l => { l with supply := .ok }), r0, 1,
      by decide +kernel⟩,
    ⟨{ owned (loadCfg 1 (fun x => { x with latched := 1 })) [.load 1] with now := 200 * msec }, r0, 1,
      by decide +kernel⟩,
    ⟨loadCfg 1 (fun x => { x with latched := 1, demand := true, cycledOff := true }), 0, by decide +kernel⟩,
    ⟨loadCfg 1 (fun x => { x with on := true }), by decide +kernel⟩,
    ⟨loadStaged, loadStaged_matches⟩⟩

theorem witness_FeedsComplete :
    (∃ (s : State) (p : Fin 2) (v : _), s.feedOverstress p v = false ∧ s.aboveStopLevel p v = false) ∧
    (∃ (s : State) (p : Fin 2) (v : _), s.feedOverstress p v = false ∧ s.coreReads = true) ∧
    (∃ (s : State) (p : Fin 2) (v : _), s.feedOverstress p v = true) ∧
    (∃ (s : State) (p : Fin 2), s.supply.pm[p].feed = .qualifying ∧ s.coreReads = true) ∧
    (∃ (s : State) (p : Fin 2), s.supply.pm[p].feed = .interrupted ∧ s.coreReads = true) :=
  ⟨⟨w, 0, 700, by decide +kernel⟩,
    ⟨w, 0, 240, by decide +kernel⟩,
    ⟨w, 0, 801, by decide +kernel⟩,
    ⟨w.modPm 0 (fun p => { p with feed := .qualifying }), 0, by decide +kernel⟩,
    ⟨w.modPm 0 (fun p => { p with feed := .interrupted }), 0, by decide +kernel⟩⟩

theorem witness_ShutdownCompletes :
    (∃ (s : State), s.supply.onStore = true ∧ s.supply.step = none ∧ s.anyPm = false) ∧
    (∃ (s : State), s.supply.step = some .s1) ∧
    (∃ (s : State), s.supply.step = some .s2 ∧ s.supply.compressed = false) ∧
    (∃ (s : State), s.supply.step = some .s3 ∧ s.anyPm = false) ∧
    (∃ (s : State), s.supply.step = some .s3 ∧ s.anyPm = true) ∧
    (∃ (s : State), s.supply.step = some .s4) ∧
    (∃ (s : State), s.supply.step = some .s5) ∧
    (∃ (s : State), s.supply.step = some .s6 ∧ s.svcPower < 7000) ∧
    (∃ (s : State), s.inS1toS3 = true ∧ s.anyPm = false) ∧
    (∃ (s : State), s.inS1toS3 = true ∧ s.anyPm = false) ∧
    (∃ (s : State), s.supply.step.isSome = true ∧ s.supply.hostRailsOff = false) ∧
    (∃ (s : State), s.mayStart = true ∧ s.feedGood = true ∧ s.fastDue = true) ∧
    (∃ (s : State), s.mayStart = true ∧ s.feedGood = true ∧ s.fastDue = false) :=
  ⟨⟨shutting none, by decide +kernel⟩,
    ⟨shutting (some .s1), by decide +kernel⟩,
    ⟨shutting (some .s2), by decide +kernel⟩,
    ⟨shutting (some .s3), by decide +kernel⟩,
    ⟨fed (shutting (some .s3)), by decide +kernel⟩,
    ⟨shutting (some .s4), by decide +kernel⟩,
    ⟨shutting (some .s5), by decide +kernel⟩,
    ⟨shutting (some .s6), by decide +kernel⟩,
    ⟨shutting (some .s1), by decide +kernel⟩,
    ⟨shutting (some .s2), by decide +kernel⟩,
    ⟨shutting (some .s1), by decide +kernel⟩,
    ⟨((fed w).modPower (fun x => { x with state := .off })).modSupply (fun x =>
      { x with cleanOff := true, record := some shutRec }) |> fun s => s.modSlot 3 (fun x => { x with pres := true }),
      by decide +kernel⟩,
    ⟨((fed w).modPower (fun x => { x with state := .off })).modSlot 3 (fun x => { x with pres := true }),
      by decide +kernel⟩⟩

theorem witness_ServicePowerCompletes :
    (∃ (s : State) (core : CoreId), s.supply.sinks[core].attached = true) ∧
    (∃ (s : State) (core : CoreId), s.supply.sinks[core].transition = true) ∧
    (∃ (s : State) (core : CoreId) (at_ : _), s.supply.sinks[core].readyAt = some at_) ∧
    (∃ (s : State) (core : CoreId), s.supply.sinks[core].attached = true ∧ s.anyPm = true) ∧
    (∃ (s : State) (core : CoreId), s.supply.sinks[core].attached = true ∧ s.anyPm = true) ∧
    (∃ (s : State) (core : CoreId), s.supply.sinks[core].attached = true ∧ s.anyPm = true) ∧
    (∃ (s : State) (core : CoreId), s.supply.sinks[core].attached = true ∧ s.anyPm = false ∧ s.pair.core[core].present
      = true ∧ s.supply.sinks[otherCore core].attached = false) :=
  ⟨⟨w.modSink 0 (fun x => { x with attached := true }), 0, by decide +kernel⟩,
    ⟨w.modSink 0 (fun x => { x with attached := true, transition := true }), 0, by decide +kernel⟩,
    ⟨w.modSink 0 (fun x => { x with attached := true, readyAt := some 7 }), 0, 7, by decide +kernel⟩,
    ⟨fed (w.modSink 0 (fun x => { x with attached := true })), 0, by decide +kernel⟩,
    ⟨fed (w.modSink 0 (fun x => { x with attached := true })), 0, by decide +kernel⟩,
    ⟨fed (w.modSink 0 (fun x => { x with attached := true })), 0, by decide +kernel⟩,
    ⟨w.modSink 0 (fun x => { x with attached := true }), 0, by decide +kernel⟩⟩

theorem witness_EnergyCompletes :
    (∃ (s : State) (kind : _), s.energy.fault = 0 ∧ 1 ≤ kind ∧ kind ≤ 3) ∧
    (∃ (s : State), s.supply.onStore = true ∧ s.energy.floorReached = false) ∧
    (∃ (s : State), s.mayRest = true) ∧
    (∃ (s : State) (from_ : _), s.energy.window = some from_) ∧
    (∃ (s : State), s.energy.window.isSome = true) ∧
    (∃ (s : State) (last : _), s.energy.est = .rest ∧ s.energy.lastWindow = some last ∧ max s.now (last + s.param
      0x4A3 * hourNs) < last + s.param 0x4A4 * hourNs) ∧
    (∃ (s : State) (last : _), s.energy.lastWindow = some last ∧ (s.energy.est = .fit ∨ (s.energy.est = .rest ∧
      s.param 0x4A3 ≤ s.param 0x4A4))) ∧
    (∃ (s : State) (last : _) (wanted : _), s.energy.lastWindow = some last ∧ s.energy.est = .stale ∧
      s.energy.wantedAt = some wanted) ∧
    (∃ (s : State), s.restRefusal = none) ∧
    (∃ (s : State) (detail : _), s.restRefusal = some detail) :=
  ⟨⟨w, 3, by decide +kernel⟩,
    ⟨shutting none, by decide +kernel⟩,
    ⟨resting, by decide +kernel⟩,
    ⟨w.modEnergy (fun e => { e with window := some 4 }), 4, by decide +kernel⟩,
    ⟨w.modEnergy (fun e => { e with window := some 4 }), by decide +kernel⟩,
    ⟨w.modEnergy (fun e => { e with est := .rest, lastWindow := some 0 }), 0, by decide +kernel⟩,
    ⟨w.modEnergy (fun e => { e with est := .fit, lastWindow := some 0 }), 0, by decide +kernel⟩,
    ⟨w.modEnergy (fun e => { e with est := .stale, lastWindow := some 0, wantedAt := some 9 }), 0, 9,
      by decide +kernel⟩,
    ⟨resting, by decide +kernel⟩,
    ⟨w, 0, by decide +kernel⟩⟩

theorem witness_PowerEntryCompletes :
    (∃ (s : State) (r : Req) (target : _), (r.party = .p0 ∨ r.party = .p1 ∨ target = 2 ∨ target = 3 ∨ target = 4) ∧ (∃
      q ∈ consentParties, q ≠ r.party ∧ s.holdsClaim q = true ∧ s.consentOf q = none)) ∧
    (∃ (s : State) (r : Req) (target : _), ((r.party = .p0 ∧ s.power.mode[(0 : Fin 2)].getLsbD 0 = true) ∨ (r.party =
      .p1 ∧ s.power.mode[(1 : Fin 2)].getLsbD 0 = true) ∨ ((r.party = .p2 ∨ r.party = .p4) ∧ (target = 2 ∨ target = 3
      ∨ target = 4))) ∧ s.power.state = .run ∧ s.power.entry = none ∧ s.power.wake = none ∧ s.supply.serviceOnly =
      false ∧ (∀ q ∈ consentParties, q ≠ r.party → s.holdsClaim q = true → (s.consentOf q).isSome = true) ∧ (∀ n,
      s.entryRefusal n = none)) ∧
    (∃ (s : State) (p : HostPort) (v : _), ((v : BitVec 32).getLsbD 0 = false ∨ (∃ q ∈ consentParties, q ≠ hostParty p
      ∧ s.holdsClaim q = true ∧ s.consentOf q = none))) ∧
    (∃ (s : State), s.tlIdle = true ∧ (∃ q ∈ consentParties, q ≠ .tl ∧ s.holdsClaim q = true ∧ s.consentOf q = none)) ∧
    (∃ (s : State), s.power.entry = some .n2) ∧
    (∃ (s : State), s.power.entry = some .n3) ∧
    (∃ (s : State), s.power.entry = some .n4) ∧
    (∃ (s : State), s.power.entry = some .n5) ∧
    (∃ (s : State) (k : _) (cause : _), s.power.entry = some k ∧ k ≠ .n6 ∧ cause ≠ 5) ∧
    (∃ (s : State) (wk : _), s.power.entry = some .n6 ∧ s.update.pairUpdate = false ∧ s.wkLevel s.power.target &&&
      s.wkActiveMask wk = 0) ∧
    (∃ (s : State) (r : Req), s.power.hold = true ∧ (r.party = .p4 ∨ s.holdsClaim r.party = true)) ∧
    (∃ (s : State) (from_ : _), s.power.holdFrom = some from_ ∧ s.param 0x4D5 ≠ 0 ∧ s.power.hold = true) :=
  ⟨⟨owned w [.axis 1] |> fun s => s.modDoors (fun x => { x with claims := [(.axis 1, .p1)] }), r0, 2,
      by decide +kernel⟩,
    ⟨consenting, r0, 2, ⟨by decide +kernel, by decide +kernel, by decide +kernel, by decide +kernel,
      by decide +kernel,
        by decide +kernel, consenting_may_enter⟩⟩,
    ⟨w, 0, 4, by decide +kernel⟩,
    ⟨(wp [(0x0A0, 1), (0x4D2, 1)]).modDoors (fun x => { x with claims := [(.doorway 0, .tl), (.axis 1, .p0)] }),
      by decide +kernel⟩,
    ⟨entering .n2, by decide +kernel⟩,
    ⟨entering .n3, by decide +kernel⟩,
    ⟨entering .n4, by decide +kernel⟩,
    ⟨entering .n5, by decide +kernel⟩,
    ⟨entering .n4, .n4, 2, by decide +kernel⟩,
    ⟨entering .n6, 0, by decide +kernel⟩,
    ⟨(owned w [.axis 1]).modPower (fun x => { x with hold := true }), r0, by decide +kernel⟩,
    ⟨w.modPower (fun x => { x with hold := true, holdFrom := some 3 }), 3, by decide +kernel⟩⟩

theorem witness_WakeCompletes :
    (∃ (s : State) (causes : _), s.power.entry = none ∧ s.asleep = true ∧ causes &&& BitVec.ofNat 32 (s.sources
      (powerCode s.power.state)) ≠ 0) ∧
    (∃ (s : State) (f : _), s.isWakeFrame f = true ∧ s.power.entry = none ∧ s.asleep = true ∧ 0x200 &&& BitVec.ofNat
      32 (s.sources (powerCode s.power.state)) = 0x200) ∧
    (∃ (s : State) (k : _), s.power.wake = some k ∧ k.start = 0 ∧ k.row = .regEnable) ∧
    (∃ (s : State) (k : _), s.power.wake = some k ∧ k.start = 0 ∧ k.row = .tcxoCheck) ∧
    (∃ (s : State) (k : _), s.power.wake = some k ∧ k.start = 0 ∧ k.row = .axesReady ∧ k.abort = false) ∧
    (∃ (s : State) (k : _), s.power.wake = some k ∧ k.start ≠ 0 ∧ s.anyActive = true) ∧
    (∃ (s : State) (core : CoreId) (from_ : _), s.pair.core[core].listenFrom = some from_ ∧ s.anyActive = false ∧
      s.power.state ≠ .off) ∧
    (∃ (s : State) (from_ : _), s.power.failAt = some from_ ∧ s.asleep = true) :=
  ⟨⟨sleeping, 0x1000, by decide +kernel⟩,
    ⟨(wp [(0x4C5, 2)]).modPower (fun x => { x with state := .sleep }), { fmt := 0, id := 0 }, by decide +kernel⟩,
    ⟨waking { src := .deep, at_ := 0, row := .regEnable }, { src := .deep, at_ := 0, row := .regEnable },
      by decide +kernel⟩,
    ⟨waking { src := .deep, at_ := 0, row := .tcxoCheck }, { src := .deep, at_ := 0, row := .tcxoCheck },
      by decide +kernel⟩,
    ⟨waking { src := .sleep, at_ := 0, row := .axesReady }, { src := .sleep, at_ := 0, row := .axesReady },
      by decide +kernel⟩,
    ⟨waking { src := .off, at_ := 0, row := .resume, start := 1 },
      { src := .off, at_ := 0, row := .resume, start := 1 }, by decide +kernel⟩,
    ⟨w.modPair (fun p => { p with core := #v[{ present := true, listenFrom := some 6 }, {}] }), 0, 6,
      by decide +kernel⟩,
    ⟨sleeping.modPower (fun x => { x with failAt := some 8 }), 8, by decide +kernel⟩⟩

theorem witness_CorePairCompletes :
    (∃ (s : State), s.pair.core[(0 : CoreId)].present = true ∧ s.pair.core[(1 : CoreId)].present = true ∧ s.anyActive
      = true) ∧
    (∃ (s : State) (frame : List Byte), s.standbyPresent = true ∧ s.anyActive = true ∧ frameGood frame 1024 0x11 =
      true) ∧
    (∃ (s : State) (frame : List Byte), s.standbyPresent = true ∧ s.anyActive = true ∧ frameGood frame 1024 0x11 =
      false ∧ s.pair.standby = .inStep) ∧
    (∃ (s : State) (frame : List Byte), s.standbyPresent = true ∧ s.anyActive = true ∧ frameGood frame 64 0x12 = true) ∧
    (∃ (s : State), s.pair.standby = .inStep) ∧
    (∃ (s : State), s.pair.standby = .outOfStep ∧ s.mayStep = true) ∧
    (∃ (s : State) (core : CoreId), s.pair.core[core].present = true) ∧
    (∃ (s : State) (core : CoreId), s.doors.relays[core] = true) ∧
    (∃ (s : State) (core : CoreId), s.anyActive = false ∧ ([(0 : CoreId), 1].find? fun c => s.pair.core[c].present &&
      s.pair.core[c].listenFrom.isNone) = some core) ∧
    (∃ (s : State), s.standbyPresent = true ∧ s.anyActive = true) ∧
    (∃ (s : State), s.standbyPresent = true ∧ s.anyActive = true ∧ s.pair.standby ≠ .unpaired) ∧
    (∃ (s : State), s.standbyPresent = true ∧ s.pair.standby = .catchingUp) ∧
    (∃ (s : State) (core : CoreId), s.pair.core[core].faulted = true ∧ s.restartsOf core < 3 ∧
      s.pair.core[core].selfTest = true) :=
  ⟨⟨w2 .inStep, by decide +kernel⟩,
    ⟨w2 .inStep, pairFrame 0x11 1019, ⟨by decide +kernel, by decide +kernel, pairFrame_good 0x11 1019⟩⟩,
    ⟨w2 .inStep, [], by decide +kernel⟩,
    ⟨w2 .inStep, pairFrame 0x12 59, ⟨by decide +kernel, by decide +kernel, pairFrame_good 0x12 59⟩⟩,
    ⟨w2 .inStep, by decide +kernel⟩,
    ⟨w2 .outOfStep, by decide +kernel⟩,
    ⟨w2 .inStep, 0, by decide +kernel⟩,
    ⟨w.modDoors (fun x => { x with relays := .replicate 2 true }), 0, by decide +kernel⟩,
    ⟨w.modPair (fun p => { p with core := #v[{ present := true }, {}] }), 0, by decide +kernel⟩,
    ⟨w2 .inStep, by decide +kernel⟩,
    ⟨w2 .inStep, by decide +kernel⟩,
    ⟨w2 .catchingUp, by decide +kernel⟩,
    ⟨(w2 .faulted).modCore 1 (fun c => { c with faulted := true }), 1, by decide +kernel⟩⟩

theorem witness_HandoverCompletes :
    (∃ (s : State) (why : _), s.pair.handover = some why ∧ s.pair.standby = .inStep ∧ s.handoverWaits = false) ∧
    (∃ (s : State) (why : _) (r : Req), s.pair.handover = some why ∧ s.pair.standby = .inStep ∧ s.handoverWaits =
      false ∧ s.pair.handoverReq = some r) ∧
    (∃ (s : State), s.param 0x041 ≠ 0 ∧ s.standbyPresent = true ∧ s.pastHoldoff = true ∧ s.pair.handover = none ∧
      s.coverage s.activeCore < s.coverage s.standbyCore) ∧
    (∃ (s : State), s.param 0x041 ≠ 0 ∧ s.standbyPresent = true ∧ s.pastHoldoff = true ∧ s.pair.handover = none ∧
      s.linkOnlyStandby = true ∧ s.coverage 0 = s.coverage 1) ∧
    (∃ (s : State) (r : Req), s.lacksSetClaim r = false ∧ s.handoverRefusal = none) ∧
    (∃ (s : State) (r : Req) (n : _), s.lacksSetClaim r = false ∧ s.handoverRefusal = some n) :=
  ⟨⟨(w2 .inStep).modPair (fun p => { p with handover := some .coverage }), .coverage, by decide +kernel⟩,
    ⟨(w2 .inStep).modPair (fun p => { p with handover := some .request, handoverReq := some r0 }), .request, r0,
      by decide +kernel⟩,
    ⟨(w2 .inStep).modSlot 13 (fun x => { x with pres := true, inService := true, linkUp := #v[false, true] }),
      by decide +kernel⟩,
    ⟨(w2 .inStep).modPort 0 (fun p => { p with links := #v[false, true] }), by decide +kernel⟩,
    ⟨owned (w2 .inStep) [.paramSet], r0, by decide +kernel⟩,
    ⟨owned (w2 .outOfStep) [.paramSet], r0, 1, by decide +kernel⟩⟩

theorem witness_HostPortsComplete :
    (∃ (s : State) (p : HostPort) (v : BitVec 32) (q : Fin 16), s.ports[hostPort p].sq[q].enabled = true ∧
      s.ports[hostPort p].sq[q].error = false ∧ indexVerdict s.ports[hostPort p].sq[q].size s.ports[hostPort
      p].sq[q].dev s.ports[hostPort p].sq[q].host (s.ports[hostPort p].sq[q].size - 1) v.toNat = 1) ∧
    (∃ (s : State) (p : HostPort) (v : BitVec 32) (q : Fin 16), s.ports[hostPort p].sq[q].enabled = true ∧
      s.ports[hostPort p].sq[q].error = false ∧ s.ports[hostPort p].sq[q].size ≤ v.toNat) ∧
    (∃ (s : State) (p : HostPort) (v : BitVec 32) (q : Fin 16), s.ports[hostPort p].cq[q].enabled = true ∧
      s.ports[hostPort p].cq[q].error = false ∧ indexVerdict s.ports[hostPort p].cq[q].size s.ports[hostPort
      p].cq[q].host s.ports[hostPort p].cq[q].host ((s.ports[hostPort p].cq[q].dev + s.ports[hostPort p].cq[q].size -
      s.ports[hostPort p].cq[q].host) % s.ports[hostPort p].cq[q].size) v.toNat = 1) ∧
    (∃ (s : State) (p : HostPort) (v : BitVec 32), s.ports[hostPort p].evq.enabled = true ∧ s.ports[hostPort
      p].evq.error = false ∧ indexVerdict s.ports[hostPort p].evq.size s.ports[hostPort p].evq.host s.ports[hostPort
      p].evq.host ((s.ports[hostPort p].evq.dev + s.ports[hostPort p].evq.size - s.ports[hostPort p].evq.host) %
      s.ports[hostPort p].evq.size) v.toNat = 1) ∧
    (∃ (s : State) (p : HostPort) (area : _), s.ports[hostPort p].running = true ∧ (∀ q : Fin 16, indexVerdict
      s.ports[hostPort p].sq[q].size s.ports[hostPort p].sq[q].dev s.ports[hostPort p].sq[q].host (s.ports[hostPort
      p].sq[q].size - 1) (bits (u32At area (4 * q.val)) 0 12) = 1) ∧ (∀ q : Fin 16, s.ports[hostPort p].cq[q].enabled
      = false) ∧ s.ports[hostPort p].evq.enabled = false) ∧
    (∃ (s : State) (p : HostPort) (v : BitVec 32), s.ports[hostPort p].evq.enabled = false ∧ v.getLsbD 4 = true ∧
      cfgGood false s.ports[hostPort p].evq.base v.toNat = true) ∧
    (∃ (s : State) (p : HostPort) (v : BitVec 32), s.ports[hostPort p].evq.enabled = false ∧ v.getLsbD 4 = true ∧
      cfgGood false s.ports[hostPort p].evq.base v.toNat = false) ∧
    (∃ (s : State) (p : HostPort), s.ports[hostPort p].running = false ∧ s.ports[hostPort p].mayRun = true) ∧
    (∃ (offset : BitVec 12), offset.toNat < 0x800 ∧ offset.toNat ∉ [0x008, 0x030, 0x054, 0x0C0, 0x0C8]) ∧
    (∃ (s : State) (p : HostPort) (q : Fin 16), s.ports[hostPort p].cq[q].unsignalled ≠ 0 ∧ s.ports[hostPort
      p].ctrl.getLsbD 1 = true) :=
  ⟨⟨fetching, 0, 2, 0, by decide +kernel⟩,
    ⟨fetching, 0, 16, 0, by decide +kernel⟩,
    ⟨fetching.modPort 0 (fun p => { p with cq := p.cq.set 0 { cfg := 0x14, dev := 3 } }), 0, 2, 0, by decide +kernel⟩,
    ⟨w.modPort 0 (fun p => { p with evq := { cfg := 0x14, dev := 3 } }), 0, 2, by decide +kernel⟩,
    ⟨w.modPort 0 (fun p => { p with running := true, sq := .replicate 16 { cfg := 0x14 } }), 0, (List.replicate 32 [1,
      0, 0, 0]).flatten, by decide +kernel⟩,
    ⟨w, 0, 0x14, by decide +kernel⟩,
    ⟨w, 0, 0x13, by decide +kernel⟩,
    ⟨w.modPort 0 (fun p =>
      { p with statusBase := 8, shadowBase := 8, evq := { cfg := 0x14, base := 4096 }, cq := p.cq.set 0 { cfg := 0x14 } }),
      0, by decide +kernel⟩,
    ⟨0x048, by decide +kernel⟩,
    ⟨w.modPort 0 (fun p => { p with ctrl := 6, cq := p.cq.set 0 { cfg := 0x14, unsignalled := 2 } }), 0, 0,
      by decide +kernel⟩⟩

theorem witness_HostFetchCompletes :
    (∃ (s : State) (p : HostPort) (q : Fin 16) (b : _) (st : Byte) (detail : _), s.coreReads = true ∧ s.ports[hostPort
      p].running = true ∧ s.ports[hostPort p].nextRing = some q ∧ s.slotFree (hostPort p) = true ∧ s.ports[hostPort
      p].canReserve false (s.ports[hostPort p].ringFor false b) = true ∧ s.fetchRefusal (hostPort p) s.activeCore b =
      some (st, detail)) ∧
    (∃ (s : State) (p : HostPort) (q : Fin 16) (b : _), s.coreReads = true ∧ s.ports[hostPort p].running = true ∧
      s.ports[hostPort p].nextRing = some q ∧ s.slotFree (hostPort p) = true ∧ s.ports[hostPort p].canReserve false
      (s.ports[hostPort p].ringFor false b) = true ∧ s.fetchRefusal (hostPort p) s.activeCore b = none ∧ opOf b = some
      .nop ∧ bit (byteAt b 2) 2 = false ∧ bit (byteAt b 2) 3 = false) ∧
    (∃ (s : State) (p : PortId) (c : _) (q : Fin 16), s.ports[p].running = true ∧ s.ports[p].laybyCq = [c] ∧
      c.cq.toNat = q.val ∧ 0 < s.ports[p].cqRoom (ownRings p) q) ∧
    (∃ (s : State) (p : PortId), s.ports[p].running = true ∧ 0 < s.ports[p].dropRun ∧ 0 < s.ports[p].evRoom (ownRings
      p) ∧ s.ports[p].laybyEv = []) ∧
    (∃ (s : State) (p : HostPort), s.ports[hostPort p].h12Tripped = false) :=
  ⟨⟨fetching, 0, 0, descOf 0x7F0, ST_BAD_OPCODE, 0x7F0, by decide +kernel⟩,
    ⟨fetching, 0, 0, descOf 1, by decide +kernel⟩,
    ⟨fetching.modPort 0 (fun p => { p with laybyCq := [keptNo 7] }), 0, keptNo 7, 0, by decide +kernel⟩,
    ⟨w.modPort 0 (fun p => { p with running := true, dropRun := 3, evq := { cfg := 0x14 } }), 0, by decide +kernel⟩,
    ⟨w, 0, by decide +kernel⟩⟩

theorem witness_HostCommandsComplete :
    (∃ (r : Req) (p : PortId), portOf r.party = some p) ∧
    (∃ (r : Req) (p : PortId), portOf r.party = some p) ∧
    (∃ (r : Req) (p : PortId) (count : _), portOf r.party = some p ∧ 1 ≤ count ∧ count ≤ 256) ∧
    (∃ (r : Req) (p : PortId) (first : _) (count : _), portOf r.party = some p ∧ 1 ≤ count ∧ first + count ≤
      paramCount ∧ r.bufLen = 4 * count) ∧
    (∃ (s : State) (r : Req) (p : PortId) (entries : _), portOf r.party = some p ∧ entries ≠ [] ∧ entries.length ≤ 5 ∧
      s.notOwner r .paramSet = false ∧ badEntries entries = [] ∧ s.checkSet (entries.foldl (fun l e => paramPut l e.1
      e.2) s.params) = none) ∧
    (∃ (s : State) (r : Req) (p : PortId) (bs : List Byte), portOf r.party = some p ∧ r.bufLen = 6148 ∧ r.buf = some
      bs ∧ s.notOwner r .paramSet = false ∧ (crc32 (slice bs 0 6144)).toNat = u32At bs 6144 ∧ s.checkSet (paramsFrom 0
      ((List.range paramCount).map fun i => u32At bs (4 * i))) = none) ∧
    (∃ (r : Req) (p : PortId), portOf r.party = some p ∧ r.bufLen = 6148) ∧
    (∃ (r : Req) (p : PortId), portOf r.party = some p) :=
  ⟨⟨r0, 0, by decide +kernel⟩,
    ⟨r0, 0, by decide +kernel⟩,
    ⟨r0, 0, 1, by decide +kernel⟩,
    ⟨{ r0 with bufLen := 8 }, 0, 3, 2, by decide +kernel⟩,
    ⟨owned w [.paramSet], r0, 0, [(0x030, 0)], by decide +kernel⟩,
    ⟨owned w [.paramSet], { r0 with bufLen := 6148, buf := some defaultImage }, 0, defaultImage, ⟨by decide +kernel,
      by decide +kernel, rfl, by decide +kernel, defaultImage_crc, defaultImage_good⟩⟩,
    ⟨{ r0 with bufLen := 6148 }, 0, by decide +kernel⟩,
    ⟨r0, 0, by decide +kernel⟩⟩

theorem witness_CanBusesComplete :
    (∃ (new : _) (st : _), busStateOf new = some st) ∧
    (∃ (s : State) (bus : Bus), (s.canCtl s.activeCore bus).state = .busOff ∧ s.bp bus 5 = 0 ∧ (s.canCtl s.activeCore
      bus).recovering = false) ∧
    (∃ (s : State) (bus : Bus), s.seeking bus = true) ∧
    (∃ (s : State) (bus : Bus), (s.canCtl s.activeCore bus).state = .detecting) ∧
    (∃ (s : State) (bus : Bus) (f : CanFrame) (p : RxPortId) (i : _), s.busHears bus = true ∧ s.formatOn bus f.fmt =
      true ∧ s.can.rx[p].read = none ∧ ((List.range 32).find? fun i => (s.can.rx[p].filters.toList.getD i {}).accepts
      bus f) = some i ∧ s.can.rx[p].queue.length < 256 ∧ s.can.rx[p].poolUsed + poolBlocks f ≤ 1024) ∧
    (∃ (s : State) (bus : Bus) (f : CanFrame), s.busHears bus = true ∧ s.formatOn bus f.fmt = false) :=
  ⟨⟨2, .errorActive, by decide +kernel⟩,
    ⟨onBus w .busOff, .d, by decide +kernel⟩,
    ⟨onBus (wp [(0x501, 1)]) .detecting, .d, by decide +kernel⟩,
    ⟨onBus (wp [(0x501, 1)]) .detecting, .d, by decide +kernel⟩,
    ⟨(onBus w .errorActive).modCan (fun c =>
      { c with rx := c.rx.set 0 { filters := .replicate 32 { bits := 0x1F } } }), .d, { fmt := 0, id := 5 }, 0, 0,
      by decide +kernel⟩,
    ⟨onBus w .errorActive, .d, { fmt := 1, id := 5 }, by decide +kernel⟩⟩

theorem witness_CanCommandsComplete :
    (∃ (s : State) (r : Req) (bus : Bus) (fmt : Byte) (len : _) (id : BitVec 32), s.txRefusal bus (fmt : Byte).toNat
      len (id : BitVec 32).toNat = none ∧ fmt.getLsbD 6 = false ∧ (s.canCtl s.activeCore bus).state.sends = true ∧
      (s.can.tx.filter fun e => e.ofParty r.party && e.bus == bus).length < 16) ∧
    (∃ (s : State) (r : Req) (bus : Bus) (index : _) (e : _), s.txAt bus index = some e ∧ e.inBuffer = true ∧ e.owner
      = .port r ∧ (s.canCtl s.activeCore bus).state.sends = true) ∧
    (∃ (s : State) (r : Req) (p : RxPortId) (max_ : _) (min_ : _) (wait : _), rxPortOf r.party = some p ∧
      s.can.rx[p].read = none ∧ 1 ≤ min_ ∧ min_ ≤ max_ ∧ max_ ≤ 64 ∧ 1 ≤ wait ∧ wait ≤ 10000 ∧
      s.can.rx[p].queue.length - s.can.rx[p].copied < min_) ∧
    (∃ (s : State) (p : RxPortId) (q : _), s.can.rx[p].read = some q) ∧
    (∃ (r : Req) (p : RxPortId), rxPortOf r.party = some p) ∧
    (∃ (s : State) (p : RxPortId), 0 < s.can.rx[p].dropped ∧ s.can.rx[p].queue.length < 256) ∧
    (∃ (r : Req) (p : RxPortId), rxPortOf r.party = some p) ∧
    (∃ (s : State) (bus : Bus), (s.canCtl s.activeCore bus).state = .busOff) :=
  ⟨⟨onBus w .errorActive, r0, .d, 0, 2, 5, by decide +kernel⟩,
    ⟨(onBus w .errorActive).modCan (fun c => { c with tx := [txOf true] }), { r0 with hseq := 9 }, .d, 0, txOf true,
      by decide +kernel⟩,
    ⟨w, r0, 0, 4, 1, 10, by decide +kernel⟩,
    ⟨w.modCan (fun c =>
      { c with rx := c.rx.set 0 { read := some { req := r0, max := 4, min := 1, bufLen := 0, dueAt := 9 } } }), 0,
      { req := r0, max := 4, min := 1, bufLen := 0, dueAt := 9 }, by decide +kernel⟩,
    ⟨r0, 0, by decide +kernel⟩,
    ⟨w.modCan (fun c => { c with rx := c.rx.set 0 { dropped := 3 } }), 0, by decide +kernel⟩,
    ⟨r0, 0, by decide +kernel⟩,
    ⟨onBus w .busOff, .d, by decide +kernel⟩⟩

theorem witness_FallbackCompletes :
    (∃ (s : State) (id : _) (xl : _) (data : List Byte), s.busHears .t = true ∧ s.p2Addressed id = true ∧ xl =
      (s.param 0x52A == 1) ∧ data.length = 64 ∧ s.can.p2Queue.length < 16) ∧
    (∃ (s : State), s.p2Up = true) ∧
    (∃ (s : State), s.hbPeriod ≠ 0 ∧ s.param 0x520 = 1) ∧
    (∃ (s : State) (id : _) (data : List Byte), s.busHears .d = true ∧ s.fallbackFor id 2 4 data = true ∧ (∀ c ∈
      s.can.doorCmds, c.1.take 3 ≠ data.take 3) ∧ (s.acceptFrame .d
      { fmt := 0, ide := true, id := id, data := data }).doorCmdResult data = 0) ∧
    (∃ (s : State) (id : _) (data : List Byte), s.busHears .d = true ∧ s.power.state ≠ .sleep ∧ s.fallbackFor id 6 1
      data = true ∧ byteAt data 0 ≤ 3) :=
  ⟨⟨onBus (wp [(0x528, 1), (0x510, 2)]) .errorActive, 0x18000000, false, List.replicate 64 0, by decide +kernel⟩,
    ⟨w.modPort 2 (fun p => { p with up := true }), by decide +kernel⟩,
    ⟨w, by decide +kernel⟩,
    ⟨(onBus (wp [(0x0A0, 1), (0x523, 1)]) .errorActive), 0x1E400000, [0, 3, 1, 0xFD], by decide +kernel⟩,
    ⟨onBus w .errorActive, 0x1EC00000, [2], by decide +kernel⟩⟩

theorem witness_PanelCompletes :
    (∃ (s : State) (d : Doorway), s.panelOn = true ∧ s.panel.waiting = none ∧ s.panel.last = none ∧ s.power.state =
      .run ∧ s.power.wake = none ∧ s.supply.serviceOnly = false ∧ s.enabled d = true ∧ s.param (pPanelDoor d.val 0) ≠
      0 ∧ s.doors.door[d].leaf = .closedLocked) ∧
    (∃ (s : State) (d : Doorway), s.panelOn = true ∧ s.panel.waiting = none ∧ s.panel.last = none ∧ s.power.state =
      .run ∧ s.power.wake = none ∧ s.supply.serviceOnly = false ∧ s.enabled d = true ∧ s.op d 0x11 ≠ 0 ∧
      s.closingOrLocking d = true) ∧
    (∃ (s : State) (d : Doorway) (st : _), s.panelOn = true ∧ s.panel.waiting = none ∧ s.panel.last = none ∧
      s.power.state = .run ∧ s.power.wake = none ∧ s.supply.serviceOnly = false ∧ s.enabled d = true ∧ st ≤ 2) ∧
    (∃ (s : State) (d : Doorway), s.panel.intercom[d] = 1) ∧
    (∃ (s : State) (data : List Byte), s.panelOn = true ∧ s.panel.waiting = none ∧ s.power.wake = none ∧ data.length =
      5 ∧ s.panel.refused = 0) ∧
    (∃ (s : State), s.panelOn = true) ∧
    (∃ (s : State), s.panelOn = true) ∧
    (∃ (s : State) (k : _) (at_ : _), s.panelOn = true ∧ s.panel.waiting.isSome = true ∧ s.panel.stretched = some (k,
      at_)) ∧
    (∃ (s : State), s.panelOn = true) ∧
    (∃ (s : State), s.panelOn = true ∧ s.panel.stuckFrom = none) ∧
    (∃ (s : State) (t0 : _), s.panel.stuckFrom = some t0) ∧
    (∃ (s : State), s.mayRequest = true) ∧
    (∃ (s : State), s.panelOn = true ∧ s.panel.requestOn = true) :=
  ⟨⟨panelReady id, 0, by decide +kernel⟩,
    ⟨(panelReady id).modDoor 0 (fun x => { x with leaf := .closing }), 0, by decide +kernel⟩,
    ⟨panelReady id, 0, 1, by decide +kernel⟩,
    ⟨w.modPanel (fun p => { p with intercom := .replicate 2 1 }), 0, by decide +kernel⟩,
    ⟨panelReady id, List.replicate 5 0, by decide +kernel⟩,
    ⟨panelReady id, by decide +kernel⟩,
    ⟨panelReady id, by decide +kernel⟩,
    ⟨panelReady (fun p => { p with waiting := some {}, stretched := some ({}, 5) }), {}, 5, by decide +kernel⟩,
    ⟨panelReady id, by decide +kernel⟩,
    ⟨panelReady id, by decide +kernel⟩,
    ⟨panelReady (fun p => { p with stuckFrom := some 4 }), 4, by decide +kernel⟩,
    ⟨panelReady (fun p => { p with reqFlags := 1, requestDue := true }) |> fun s =>
      { s with params := [(0x0A0, 1), (0x544, 1)] }, by decide +kernel⟩,
    ⟨panelReady (fun p => { p with requestOn := true }), by decide +kernel⟩⟩

theorem witness_TimeSourcesComplete :
    (∃ (s : State) (data : List Byte), s.busHears .t = true ∧ timeFrameGood data = false) ∧
    (∃ (s : State) (data : List Byte), s.busHears .t = true ∧ timeFrameGood data = true ∧ byteAt data 6 % 4 < 2) ∧
    (∃ (s : State) (data : List Byte), s.busHears .t = true ∧ timeFrameGood data = true ∧ byteAt data 6 % 4 = 2) ∧
    (∃ (s : State) (width : _), 10 * usec ≤ width ∧ width ≤ 900 * msec ∧ s.time.tpiStamp = none) ∧
    (∃ (width : _), (width < 10 * usec ∨ 900 * msec < width)) ∧
    (∃ (s : State), s.time.valid[(0 : Fin 3)] = true) ∧
    (∃ (s : State), s.time.valid[(2 : Fin 3)] = true) ∧
    (∃ (s : State), s.time.valid[(1 : Fin 3)] = true) ∧
    (∃ (s : State) (o : _), s.time.reference = some o) ∧
    (∃ (s : State) (o : _), s.time.stepPending = some o ∧ s.quietPoint o = true) ∧
    (∃ (s : State), s.param 0x4E9 = 1 ∧ s.time.unset = false ∧ s.time.tpoStepped = false) :=
  ⟨⟨onBus w .errorActive, [], by decide +kernel⟩,
    ⟨onBus w .errorActive, [0, 0, 0, 0, 0, 0, 0, 0xFF], by decide +kernel⟩,
    ⟨onBus w .errorActive, [0, 0, 0, 0, 0, 0, 2, 0xFD], by decide +kernel⟩,
    ⟨w, 10000, by decide +kernel⟩,
    ⟨9999, by decide +kernel⟩,
    ⟨w.modTime (fun x => { x with valid := .replicate 3 true }), by decide +kernel⟩,
    ⟨w.modTime (fun x => { x with valid := .replicate 3 true }), by decide +kernel⟩,
    ⟨w.modTime (fun x => { x with valid := .replicate 3 true }), by decide +kernel⟩,
    ⟨w.modTime (fun x => { x with reference := some 40 }), 40, by decide +kernel⟩,
    ⟨{ w with now := 500 * msec }.modTime (fun x => { x with te := 500 * msec * 10 ^ 9, stepPending := some 40 }), 40,
      by decide +kernel⟩,
    ⟨w.modTime (fun x => { x with unset := false }), by decide +kernel⟩⟩

theorem witness_TimeCommandsComplete :
    (∃ (s : State) (tick : _), (s.tick - tick).toNat ≤ 20000) ∧
    (∃ (r : Req), (r.bufLen = 0 ∨ r.bufLen = 48)) ∧
    (∃ (s : State) (r : Req) (hseq : _) (q : _), (s.time.sched.find? fun q => q.req.party == r.party && q.req.hseq ==
      hseq) = some q) :=
  ⟨⟨w, 0, by decide +kernel⟩,
    ⟨r0, by decide +kernel⟩,
    ⟨w.modTime (fun x =>
      { x with sched := [{ req := { r0 with hseq := 3 }, op := .doorStop 0, execTime := 9, needLocked := false }] }),
      r0, 3, { req := { r0 with hseq := 3 }, op := .doorStop 0, execTime := 9, needLocked := false },
      by decide +kernel⟩⟩

theorem witness_JournalCompletes :
    (∃ (s : State) (core : CoreId) (t0 : _), s.journal.nand[core].oldest true = some t0 ∧ s.journal.nand[core].program
      = none ∧ s.journal.nand[core].faulted = false) ∧
    (∃ (s : State) (core : CoreId) (t0 : _), s.journal.nand[core].oldest false = some t0 ∧
      s.journal.nand[core].program = none ∧ s.journal.nand[core].faulted = false) ∧
    (∃ (s : State) (core : CoreId) (n : _), s.journal.nand[core].program = some (.tail, n)) ∧
    (∃ (s : State) (core : CoreId) (n : _), s.journal.nand[core].program = some (.journal, n)) ∧
    (∃ (s : State) (r : Req) (reader : Fin 4) (mode : _) (area : _) (count : _), mode ≤ 2 ∧ area ≤ 1 ∧ 1 ≤ count ∧
      count ≤ 8192 ∧ (r.party = .p2 ∨ r.bufLen = 128 * count) ∧ s.notOwner r (.reader reader.val) = false) ∧
    (∃ (s : State) (r : Req) (reader : Fin 4) (area : _) (typeMask : _) (doorId : _) (count : _) (wait : _), area ≤ 1
      ∧ 1 ≤ count ∧ count ≤ 8192 ∧ (r.party = .p2 ∨ r.bufLen = 128 * count) ∧ s.notOwner r (.reader reader.val) =
      false ∧ 1 ≤ wait ∧ wait ≤ 10000 ∧ s.readReady r reader area typeMask doorId = false) ∧
    (∃ (s : State) (reader : Fin 4) (w : _), (s.journal.waiting.find? fun w => w.reader == reader) = some w) ∧
    (∃ (r : Req), (r.bufLen = 0 ∨ r.bufLen = 64)) ∧
    (∃ (s : State) (r : Req) (first : _) (count : _), 1 ≤ count ∧ s.lacksSetClaim r = false ∧
      s.journal.nand[s.activeCore].held ≠ [] ∧ oldestOf s.journal.nand[s.activeCore] ≤ first ∧ first + count ≤
      newestOf s.journal.nand[s.activeCore] + 1 ∧ s.journal.nand[s.activeCore].retention.length +
      (s.journal.retain.foldl (fun k q => k + q.2.2) 0) + count ≤ retentionSize) ∧
    (∃ (s : State) (q : _) (first : _) (count : _) (rest : _), s.journal.retain = (q, first, count) :: rest) ∧
    (∃ (s : State) (r : Req), s.lacksSetClaim r = false) ∧
    (∃ (s : State) (r : Req) (p : PortId), portOf r.party = some p ∧ s.journal.notes[p] < s.param 0x566) :=
  ⟨⟨w.modNand 0 (fun n => { n with image := [(recNo 1 true, 5)] }), 0, 5, by decide +kernel⟩,
    ⟨w.modNand 0 (fun n => { n with image := [(recNo 1 false, 5)] }), 0, 5, by decide +kernel⟩,
    ⟨w.modNand 0 (fun n => { n with image := [(recNo 1 true, 5)], program := some (.tail, 1) }), 0, 1,
      by decide +kernel⟩,
    ⟨w.modNand 0 (fun n => { n with image := [(recNo 1 true, 5)], program := some (.journal, 1) }), 0, 1,
      by decide +kernel⟩,
    ⟨owned w [.reader 2], { r0 with bufLen := 128 }, 2, 0, 0, 1, by decide +kernel⟩,
    ⟨owned w [.reader 2], { r0 with bufLen := 128 }, 2, 0, 0xFF, 0, 1, 10, by decide +kernel⟩,
    ⟨w.modJournal (fun j =>
      { j with waiting := [{ req := r0, reader := 1, area := 0, typeMask := 0, doorId := 0, count := 1, bufLen := 128, dueAt := 9 }] }),
      1, { req := r0, reader := 1, area := 0, typeMask := 0, doorId := 0, count := 1, bufLen := 128, dueAt := 9 },
      by decide +kernel⟩,
    ⟨r0, by decide +kernel⟩,
    ⟨(owned w [.paramSet]).modNand 0 (fun n => { n with held := [recNo 4 true, recNo 3 true] }), r0, 3, 2,
      by decide +kernel⟩,
    ⟨w.modJournal (fun j => { j with retain := [(r0, 3, 2)] }), r0, 3, 2, [], by decide +kernel⟩,
    ⟨owned w [.paramSet], r0, by decide +kernel⟩,
    ⟨w, r0, 0, by decide +kernel⟩⟩

theorem witness_UpdateCommandsComplete :
    (∃ (s : State) (r : Req) (buf : List Byte) (h : _), s.updDenied r = false ∧ r.bufLen = 256 ∧ r.buf = some buf ∧ h
      = slice buf 0 256 ∧ headerFail h = none ∧ s.secCounter (hdrType h) ≤ hdrSec h ∧ s.staged (hdrType h) = none ∧
      s.downloadOpen = false ∧ s.typeBusy (hdrType h) = none) ∧
    (∃ (s : State) (r : Req) (index : _) (kind : _) (g : _) (data : List Byte), s.updDenied r = false ∧
      s.update.download = some kind ∧ s.staged kind = some g ∧ index < hdrChunks g.header ∧ r.bufLen = chunkLen
      g.header index ∧ r.buf = some data) ∧
    (∃ (s : State) (r : Req) (kind : _) (g : _), s.updDenied r = false ∧ maxBody kind ≠ 0 ∧ s.staged kind = some g) ∧
    (∃ (s : State) (r : Req) (kind : _) (mask : BitVec 16) (g : _) (j : _), s.updDenied r = false ∧ maxBody kind ≠ 0 ∧
      mask ≠ 0 ∧ mask.toNat < 2 ^ 14 ∧ s.supply.onStore = false ∧ s.update.activation = none ∧ (∀ k ∈ maskSlots
      mask.toNat, s.update.firm[k].state = .idle) ∧ s.staged kind = some g ∧ g.verified = true ∧ (∀ k ∈ maskSlots
      mask.toNat, s.slotUnfit k g.header = none) ∧ s.needsPairUpdate kind g.header = false ∧ s.updRuns j = true) ∧
    (∃ (s : State) (r : Req) (mask : BitVec 16), s.updDenied r = false ∧ mask ≠ 0 ∧ mask.toNat < 2 ^ 14 ∧ (∀ k ∈
      maskSlots mask.toNat, s.mayConfirm k = true)) ∧
    (∃ (s : State) (r : Req) (kind : _), s.updDenied r = false ∧ maxBody kind ≠ 0 ∧ s.typeBusy kind = none) ∧
    (∃ (r : Req), (r.bufLen = 0 ∨ r.bufLen = 224)) ∧
    (∃ (s : State) (r : Req) (b : _), r.bufLen = 132 ∧ r.buf = some b ∧ s.update.key = none) :=
  ⟨⟨owned w [.paramSet], { r0 with bufLen := 256, buf := some (header 4) }, header 4, header 4, by decide +kernel⟩,
    ⟨(stagedOf 4 4 false (owned w [.paramSet])).modUpdate (fun u =>
      { u with download := some 4, staged := u.staged.set 4 (some { header := chunky }) }),
      { r0 with bufLen := 8, buf := some (List.replicate 8 0) }, 0, 4, { header := chunky }, List.replicate 8 0,
      by decide +kernel⟩,
    ⟨stagedOf 4 4 false (owned w [.paramSet]), r0, 4, { header := header 4 }, by decide +kernel⟩,
    ⟨((stagedOf 4 4 true (owned w [.paramSet])).modSlot 13 (fun x =>
      { x with pres := true, ident := some (List.replicate 256 0x41) })).modFirm 2 (fun f =>
      { f with state := .trial }), r0, 4, 0x2000, { header := header 4, verified := true }, 2, by decide +kernel⟩,
    ⟨onTrial, r0, 0x2000, by decide +kernel⟩,
    ⟨owned w [.paramSet], r0, 4, by decide +kernel⟩,
    ⟨r0, by decide +kernel⟩,
    ⟨owned w [.paramSet], { r0 with bufLen := 132, buf := some (List.replicate 132 0) }, List.replicate 132 0,
      by decide +kernel⟩⟩

theorem witness_UpdateEventsComplete :
    (∃ (s : State) (k : Slot) (g : _), s.updTurn k = true ∧ s.supply.onStore = false ∧ s.staged (imgType k) = some g ∧
      s.update.asOne = false ∧ s.updGate k = true ∧ s.needsDrop k = false ∧ k ≠ coreSlot s.activeCore) ∧
    (∃ (s : State) (k : Slot) (frame : List Byte) (q : _), s.frame.slots[k].pres = true ∧ linkFrameGood k 3 frame =
      true ∧ imgType k ≠ 0 ∧ imgType k ≠ 1 ∧ q = (frame.drop 8).take (byteAt frame 5) ∧ byteAt q 1 ≤ 1 ∧ u16At q 2 = 0
      ∧ u16At q 8 ≤ 224 ∧ byteAt q 0 = 5) ∧
    (∃ (s : State) (k : Slot) (frame : List Byte) (q : _), s.frame.slots[k].pres = true ∧ linkFrameGood k 3 frame =
      true ∧ imgType k ≠ 0 ∧ imgType k ≠ 1 ∧ q = (frame.drop 8).take (byteAt frame 5) ∧ byteAt q 1 ≤ 1 ∧ u16At q 2 = 0
      ∧ u16At q 8 ≤ 224 ∧ byteAt q 0 = 2 ∧ s.inService k = true) ∧
    (∃ (s : State) (k : Slot) (g : _), s.update.firm[k].state = .writing ∧ s.update.asOne = false ∧ s.staged (imgType
      k) = some g) ∧
    (∃ (s : State) (k : Slot), s.update.firm[k].state = .writing ∧ s.update.asOne = false) ∧
    (∃ (s : State) (k : Slot), s.frame.slots[k].pres = true ∧ imgType k ≠ 0) ∧
    (∃ (s : State) (k : Slot), s.param 0x570 = 1 ∧ s.mayConfirm k = true) ∧
    (∃ (s : State) (k : Slot), s.update.firm[k].state = .trial ∧ s.inService k = false ∧ k ≠ coreSlot s.activeCore) ∧
    (∃ (s : State) (k : Slot), s.update.firm[k].state = .trial ∧ s.inService k = true ∧ s.dropsLoop k = true ∧
      s.zeroSpeed s.activeCore = false) :=
  ⟨⟨(stagedOf 4 4 true w).modFirm 13 (fun f => { f with state := .waiting }), 13,
      { header := header 4, verified := true }, by decide +kernel⟩,
    ⟨ws 13 (fun x => { x with pres := true }), 13, frameTo 3 13 ([5] ++ List.replicate 15 0), [5] ++ List.replicate 15
      0, ⟨by decide +kernel, frameTo_good _ _ _ (by decide), by decide +kernel, by decide +kernel, by decide +kernel,
      by decide +kernel, by decide +kernel, by decide +kernel, by decide +kernel⟩⟩,
    ⟨ws 13 (fun x => { x with pres := true, inService := true }), 13, frameTo 3 13 ([2] ++ List.replicate 15 0), [2]
      ++ List.replicate 15 0, ⟨by decide +kernel, frameTo_good _ _ _ (by decide), by decide +kernel,
      by decide +kernel, by decide +kernel, by decide +kernel, by decide +kernel, by decide +kernel,
      by decide +kernel, by decide +kernel⟩⟩,
    ⟨(stagedOf 4 4 true w).modFirm 13 (fun f => { f with state := .writing }), 13,
      { header := header 4, verified := true }, by decide +kernel⟩,
    ⟨w.modFirm 13 (fun f => { f with state := .writing }), 13, by decide +kernel⟩,
    ⟨ws 13 (fun x => { x with pres := true }), 13, by decide +kernel⟩,
    ⟨onTrial, 13, by decide +kernel⟩,
    ⟨w.modFirm 13 (fun f => { f with state := .trial }), 13, by decide +kernel⟩,
    ⟨looping, 11, by decide +kernel⟩⟩

theorem witness_SessionsComplete :
    (∃ (s : State) (core : CoreId) (bytes : List Byte), bytes.length = 80 ∧ slice bytes 1 3 = [0, 0, 0] ∧ u32At bytes
      4 = 64 ∧ s.pair.core[core].present = true ∧ byteAt bytes 0 = 1 ∧ s.update.p4Queue.length < 16) ∧
    (∃ (s : State) (core : CoreId) (bytes : List Byte), bytes.length = 80 ∧ slice bytes 1 3 = [0, 0, 0] ∧ u32At bytes
      4 = 64 ∧ s.pair.core[core].present = true ∧ byteAt bytes 0 = 2 ∧ s.update.session[core].level ≠ 0 ∧
      s.update.session[core].held + 64 ≤ 2 ^ 20) ∧
    (∃ (s : State) (r : Req) (level : _), 1 ≤ level ∧ level ≤ 3 ∧ s.lockLeft r.core = none) ∧
    (∃ (s : State) (r : Req) (level : _) (n : _), 1 ≤ level ∧ level ≤ 3 ∧ s.lockLeft r.core = some n) ∧
    (∃ (s : State) (r : Req) (level : _) (ch : BitVec 40) (t0 : _) (response : _), 1 ≤ level ∧ level ≤ 3 ∧
      s.update.session[r.core].challenge = some (ch, level, t0) ∧ s.since t0 ≤ 600 * sec ∧ response =
      s.sessionResponse r.core ch level) ∧
    (∃ (s : State) (r : Req) (level : _) (ch : BitVec 40) (t0 : _) (response : _), 1 ≤ level ∧ level ≤ 3 ∧
      s.update.session[r.core].challenge = some (ch, level, t0) ∧ s.since t0 ≤ 600 * sec ∧ response ≠
      s.sessionResponse r.core ch level) ∧
    (∃ (s : State) (r : Req), s.update.session[r.core].level ≠ 0) ∧
    (∃ (s : State) (core : CoreId), s.update.session[core].level ≠ 0) ∧
    (∃ (s : State) (core : CoreId) (t0 : _), s.update.session[core].lockedUntil = some t0) :=
  ⟨⟨w, 0, container 1, by decide +kernel⟩,
    ⟨session id, 0, container 2, by decide +kernel⟩,
    ⟨w, { r0 with party := .p4 }, 1, by decide +kernel⟩,
    ⟨session (fun x => { x with lockedUntil := some (3 * sec) }), { r0 with party := .p4 }, 1, 3, by decide +kernel⟩,
    ⟨session (fun x => { x with challenge := some (7, 1, 0) }), { r0 with party := .p4 }, 1, 7, 0, (session fun x =>
      { x with challenge := some (7, 1, 0) }).sessionResponse 0 7 1, ⟨by decide +kernel, by decide +kernel, rfl,
      by decide +kernel, rfl⟩⟩,
    ⟨session (fun x => { x with challenge := some (7, 1, 0) }), { r0 with party := .p4 }, 1, 7, 0, (session fun x =>
      { x with challenge := some (7, 1, 0) }).sessionResponse 0 7 1 + 1, ⟨by decide +kernel, by decide +kernel, rfl,
      by decide +kernel, succ_ne _⟩⟩,
    ⟨session id, { r0 with party := .p4 }, by decide +kernel⟩,
    ⟨session id, 0, by decide +kernel⟩,
    ⟨session (fun x => { x with lockedUntil := some (3 * sec) }), 0, 3 * sec, by decide +kernel⟩⟩

theorem witness_DoorObstacleCommand :
    (∃ (s : State) (d : Doorway) (r : Req), s.enabled d = true ∧ s.notOwner r (.doorway d.val) = true) ∧
    (∃ (s : State) (d : Doorway) (r : Req), s.enabled d = true ∧ s.notOwner r (.doorway d.val) = false ∧ bit (s.op d
      0x12) 3 = true ∧ (s.doors.door[d].leaf = .closing ∨ s.doors.door[d].leaf = .locking)) ∧
    (∃ (s : State) (d : Doorway) (r : Req), s.enabled d = true ∧ s.notOwner r (.doorway d.val) = false ∧
      s.doors.door[d].leaf ≠ .closing ∧ s.doors.door[d].leaf ≠ .locking) ∧
    (∃ (s : State) (d : Doorway) (r : Req), s.enabled d = true ∧ s.notOwner r (.doorway d.val) = false ∧ bit (s.op d
      0x12) 3 = false) :=
  ⟨⟨wd id, 0, r0, by decide +kernel⟩,
    ⟨owned (wd (fun x => { x with leaf := .closing })) [.doorway 0], 0, r0, by decide +kernel⟩,
    ⟨owned (wd id) [.doorway 0], 0, r0, by decide +kernel⟩,
    ⟨{ owned (wd (fun x => { x with leaf := .closing })) [.doorway 0] with params := [(0x0A0, 1), (0x182, 7)] }, 0,
      r0, by decide +kernel⟩⟩

theorem witness_AbortOfATransmit :
    (∃ (s : State) (r : Req) (hseq : BitVec 32) (found : Option TxEntry) (e : _) (q : _), found = (s.can.tx.find? fun
      e => match e.owner with | .port q => q.party == r.party && q.hseq == hseq | .own _ => false) ∧ found = some e ∧
      e.owner = .port q ∧ e.started = false) ∧
    (∃ (s : State) (r : Req) (hseq : BitVec 32) (found : Option TxEntry) (e : _), found = (s.can.tx.find? fun e =>
      match e.owner with | .port q => q.party == r.party && q.hseq == hseq | .own _ => false) ∧ found = some e ∧
      e.started = true) ∧
    (∃ (s : State) (r : Req) (hseq : BitVec 32) (found : Option TxEntry), found = (s.can.tx.find? fun e => match
      e.owner with | .port q => q.party == r.party && q.hseq == hseq | .own _ => false) ∧ found = none) :=
  ⟨⟨w.modCan (fun c => { c with tx := [txOf false] }), r0, 9, some (txOf false), txOf false, { r0 with hseq := 9 },
      by decide +kernel⟩,
    ⟨w.modCan (fun c => { c with tx := [txOf true] }), r0, 9, some (txOf true), txOf true, by decide +kernel⟩,
    ⟨w.modCan (fun c => { c with tx := [txOf true] }), r0, 8, none, by decide +kernel⟩⟩

theorem witness_ActionAtItsEdge :
    (∃ (s : State) (p : PortId) (hseq : BitVec 32) (q : SchedAction), (s.time.sched.find? fun q => portOf q.req.party
      == some p && q.req.hseq == hseq) = some q ∧ q.needLocked = true ∧ s.time.quality ≠ .locked) ∧
    (∃ (s : State) (p : PortId) (hseq : BitVec 32) (q : SchedAction), (s.time.sched.find? fun q => portOf q.req.party
      == some p && q.req.hseq == hseq) = some q ∧ (q.needLocked = false ∨ s.time.quality = .locked)) :=
  ⟨⟨w.modTime (fun x =>
      { x with sched := [{ req := { r0 with hseq := 3 }, op := .doorStop 0, execTime := 9, needLocked := true }] }),
      0, 3, { req := { r0 with hseq := 3 }, op := .doorStop 0, execTime := 9, needLocked := true }, by decide +kernel⟩,
    ⟨w.modTime (fun x =>
      { x with sched := [{ req := { r0 with hseq := 3 }, op := .doorStop 0, execTime := 9, needLocked := false }] }),
      0, 3, { req := { r0 with hseq := 3 }, op := .doorStop 0, execTime := 9, needLocked := false },
      by decide +kernel⟩⟩

theorem witness_DisabledDoorwayOnThePanel :
    ∃ (s : State) (d : Doorway), s.enabled d = false :=
  ⟨w, 0, by decide +kernel⟩

theorem witness_RingsKeepTheirSetUp :
    (∃ (s : State) (p : HostPort) (q : Fin 16) (o : BitVec 12), q.val = s.ports[hostPort p].ringSel.toNat % 16 ∧ (o =
      0x04C ∨ o = 0x050) ∧ s.ports[hostPort p].ringSel.getLsbD 4 = false ∧ s.ports[hostPort p].sq[q].enabled = true) ∧
    (∃ (s : State) (p : HostPort) (q : Fin 16) (o : BitVec 12), q.val = s.ports[hostPort p].ringSel.toNat % 16 ∧ (o =
      0x04C ∨ o = 0x050) ∧ s.ports[hostPort p].ringSel.getLsbD 4 = true ∧ s.ports[hostPort p].cq[q].enabled = true) ∧
    (∃ (s : State) (p : HostPort) (q : Fin 16) (o : BitVec 12), q.val = s.ports[hostPort p].ringSel.toNat % 16 ∧ (o =
      0x028 ∨ o = 0x02C) ∧ s.ports[hostPort p].evq.enabled = true) ∧
    (∃ (s : State) (p : HostPort) (q : Fin 16), q.val = s.ports[hostPort p].ringSel.toNat % 16 ∧ s.ports[hostPort
      p].ringSel.getLsbD 4 = false ∧ s.ports[hostPort p].sq[q].enabled = true) ∧
    (∃ (s : State) (p : HostPort) (q : Fin 16), q.val = s.ports[hostPort p].ringSel.toNat % 16 ∧ s.ports[hostPort
      p].ringSel.getLsbD 4 = true ∧ s.ports[hostPort p].cq[q].enabled = true) ∧
    (∃ (s : State) (p : HostPort) (q : Fin 16), q.val = s.ports[hostPort p].ringSel.toNat % 16 ∧ s.ports[hostPort
      p].evq.enabled = true) ∧
    (∃ (s : State) (p : HostPort) (v : BitVec 32) (q : Fin 16), q.val = s.ports[hostPort p].ringSel.toNat % 16 ∧
      v.getLsbD 4 = true ∧ s.ports[hostPort p].ringSel.getLsbD 4 = false ∧ s.ports[hostPort p].sq[q].enabled = false ∧
      s.ports[hostPort p].cq[(0 : Fin 16)].enabled = true ∧ cfgGood true s.ports[hostPort p].sq[q].base v.toNat =
      true) ∧
    (∃ (s : State) (p : HostPort) (v : BitVec 32) (q : Fin 16), q.val = s.ports[hostPort p].ringSel.toNat % 16 ∧
      v.getLsbD 4 = true ∧ s.ports[hostPort p].ringSel.getLsbD 4 = true ∧ s.ports[hostPort p].cq[q].enabled = false ∧
      cfgGood false s.ports[hostPort p].cq[q].base v.toNat = true) ∧
    (∃ (s : State) (p : HostPort) (v : BitVec 32) (q : Fin 16), q.val = s.ports[hostPort p].ringSel.toNat % 16 ∧
      v.getLsbD 4 = true ∧ s.ports[hostPort p].evq.enabled = false ∧ cfgGood false s.ports[hostPort p].evq.base
      v.toNat = true) :=
  ⟨⟨fetching, 0, 0, 0x04C, by decide +kernel⟩,
    ⟨fetching.modPort 0 (fun p => { p with ringSel := 0x10 }), 0, 0, 0x050, by decide +kernel⟩,
    ⟨w.modPort 0 (fun p => { p with evq := { cfg := 0x14 } }), 0, 0, 0x028, by decide +kernel⟩,
    ⟨fetching, 0, 0, by decide +kernel⟩,
    ⟨fetching.modPort 0 (fun p => { p with ringSel := 0x10 }), 0, 0, by decide +kernel⟩,
    ⟨w.modPort 0 (fun p => { p with evq := { cfg := 0x14 } }), 0, 0, by decide +kernel⟩,
    ⟨fetching.modPort 0 (fun p => { p with ringSel := 1 }), 0, 0x15, 1, by decide +kernel⟩,
    ⟨fetching.modPort 0 (fun p => { p with ringSel := 0x11 }), 0, 0x15, 1, by decide +kernel⟩,
    ⟨w, 0, 0x15, 0, by decide +kernel⟩⟩

/-! ### Figures of the spec's worked cases -/

/-- Table MO-5: the tram leaf's open lasts 2.14 s and ends its first phase at 80 full steps/s. -/
def tramOpen : List Phase := restToRest (limitsFs 2000 4000 100000) (3200 * fullStep)
theorem test_tram_open_time : phasesDur tramOpen = 2140000000 := by decide +kernel
theorem test_tram_open_phases : tramOpen.map (·.dur)
    = [40000000, 460000000, 40000000, 1060000000, 40000000, 460000000, 40000000] := by decide +kernel
theorem test_tram_open_speed : (phasesEnd (tramOpen.take 2) 0 0 0).2.1 = 1920 * fullStep := by decide +kernel
theorem test_tram_open_end : phasesEnd tramOpen 0 0 0 = (((3200 * fullStep : Nat) : Int), 0, 0) := by decide +kernel

/-- R65's worked case: 800 mm at 250 um per full step is 819,200 usteps. -/
theorem test_tram_target : (wp [(0x0A0, 1)]).openTarget 0 0 false = 819200 * ustep := by decide +kernel

/-- Table MO-8: the bytes of segment 1. -/
theorem test_plug_segment : segsOf [0x00, 0x35, 0x0C, 0x00, 0x00, 0x1C, 0x02, 0x00, 0x00, 0xE8, 0x03, 0, 0, 0, 0, 0] 1
    = [{ duration := 800000, endPos := 138240, endVel := 256000, flags := 0 }] := by decide +kernel

/-- Table MO-13: R 0.35 Ohm, L 2.8 mH, k 1,910 uV s/rad, 5 A, 2,000 full steps/s, V_bus 60 V. -/
def tramDrive : State :=
  (wp [(0x21F, 350), (0x220, 2800), (0x221, 1910), (0x222, 5000)]).modAxis 0 fun x =>
    { x with v := 2000 * fullStep, vBus := 60000, plan := some { kind := .jog, target := 0, body := .phases 0 0 0 [] } }
theorem test_tram_lead : (tramDrive.driveOf 0).lead = 228 := by decide +kernel
theorem test_tram_amplitude : (tramDrive.driveOf 0).demanded = 3048 := by decide +kernel

/-- Table LS-5: 1.0 mm2 in ambient class 1 trips at 4.25 A; after a trip H is below 0.4 in 32.07 s. -/
theorem test_heater_trip_current : (loadCfg 0x29 id).tripCurrent 0 = 3000 ∧
    ((w.modLoads fun l => { l with applied := (Vector.replicate 13 0).set 8 0x29 }).tripCurrent 8) = 4250 := by decide +kernel
theorem test_heater_rearm : rearmSeconds 35 = 32 := by decide +kernel
/-- Table LS-6: at 3.5 A the heater's H stays where it has settled. -/
theorem test_heater_settled : wireUpdate 678200692042 35 4250 3500 = 678200692042 := by decide +kernel

/-- Table EN-4: the open of one leaf to 800 mm takes 80.62 J, and 85.37 J predict 113.83 J at the bank. -/
def tramMotor : MotorData := { r := 350, ke := 1910, iAcc := 6000, iRun := 5000, iHold := 1000, settle := 200, bridge := 3 }
theorem test_tram_open_energy : (bodyEnergy tramMotor (.phases 0 0 0 tramOpen) true + 5 * 10 ^ 15) / 10 ^ 16 = 8062 := by decide +kernel
theorem test_tram_predicted : predict 20 90 (85370 * 10 ^ 15) = 113827 := by decide +kernel

/-- Table EN-5: the bank at 17.00 V holds 3,059.1 J above the floor. -/
theorem test_tram_bank : ({ est := .rest, cW := 4350, vBank := 17000 } : EnergySt).aboveFloor / 100 = 30591 := by decide +kernel

/-- Table DW-9: the requests of one resolver pass on the tram, frame 5, its doorway OPEN at the open target. -/
def tramTick : State :=
  let s := { doorReady with params := (0x080, 5) :: doorReady.params }
  ((s.modDoor 0 fun x => { x with leaf := .opened }).modAxis 0 fun x =>
    { x with x := 819200 * ustep, referenced := true }).modSlot 7 (fun x => { x with pres := true, inService := true })
  |>.modDoors fun x => { x with requests := [
    { req := { party := .p0, hseq := 1 }, op := .doorClose 0 }, { req := { party := .p1, hseq := 2 }, op := .doorClose 0 },
    { req := { party := .p2, hseq := 3 }, op := .doorEvacOpen 10 },
    { req := { party := .p4, hseq := 4 }, op := .doorEvacOpen 0 }, { req := { party := .p0, hseq := 5 }, op := .claim 5 },
    { req := { party := .p1, hseq := 6 }, op := .claim 5 }] }
def statuses (s : State) (p : PortId) : List (BitVec 32 × Byte) := s.ports[p].kept.map fun c => (c.hseq, c.status)
theorem test_tram_tick_p0 : statuses tramTick.resolve 0 = [(5, ST_OK), (1, ST_CONFLICT)] := by decide +kernel
theorem test_tram_tick_p1 : statuses tramTick.resolve 1 = [(6, ST_CONFLICT), (2, ST_NOT_OWNER)] := by decide +kernel
theorem test_tram_tick_p2 : statuses tramTick.resolve 2 = [(3, ST_OK)] := by decide +kernel
theorem test_tram_tick_p4 : statuses tramTick.resolve 3 = [(4, ST_OK)] := by decide +kernel
theorem test_tram_tick_owner : tramTick.resolve.ownerOf (.doorway 0) = some .p0 := by decide +kernel

/-- The worked case of PB-7: the check byte of 0x01, 0x00, 0x00, 0x17 is 0xE9. -/
theorem test_panel_check : (panelCmdOf [0x01, 0x00, 0x00, 0x17, 0xE9]).checks = true ∧
    (panelCmdOf [0x01, 0x00, 0x00, 0x17, 0xE8]).checks = false := by decide

/-- Table RF-2: the indices of five parameters. -/
theorem test_param_indices : pAxis 0 0x04 = 0x214 ∧ pTwin 0 3 = 0x2F3 ∧ pDoor 1 0x17 = 0x117 ∧ pObst 1 0x08 = 0x198 ∧
    pFieldChan 37 0 = 0x38F := by decide

/-- Table RF-2: the word 0xA35 is IN-T3, class EDGE, filter 3, supervision 1. -/
theorem test_edge_word : chanMode (fun _ => 0xA35) 5 = 1 ∧ chanClass (fun _ => 0xA35) 5 = 1 ∧
    chanSuper (fun _ => 0xA35) 5 = 1 := by decide

/-- Table HR-13: what a completion's numbers are for the first command of a port. -/
theorem test_first_completion : ((w.ok r0 Opc.OP_NOP []).ports[(0 : PortId)].kept.head?.map (·.dseq)) = some 1 := by
  decide +kernel

/-- Table FR-7: the code of R34's first slot and of the load switch slot is none by default, of C0's SK7-CO. -/
theorem test_slot_defaults : paramDefault 0x010 = 0 ∧ paramDefault 0x013 = 4 ∧ paramDefault 0x01D = 0 := by decide +kernel

/-- Overstress (log 17's fault): a group at 36.1 V is outside what the module survives, at 36.0 V it is not. -/
theorem test_group_overstress : exec (.groupSupplyChange 0 361) w = .fault .overstress := by rfl

/-- Reset: an unpowered frame idles on its empty queue. -/
theorem test_reset_idles : step State.reset = .next State.reset := rfl

/-- A step takes the front of the queue. -/
theorem test_front_first : (match step { w with pending := [.missedTick 13 false, .tickPass] } with
    | .next t => t.pending | _ => []) = [.tickPass] := by rfl

/-! ### Ill-formed commands, one for each check -/

def longFrame : List Byte := List.replicate 253 0
def tooLong : Req := { r0 with buf := some [0], bufLen := 0 }

theorem test_ill_formed_frames : ([.downlinkFrame 3 0 [], .downlinkFrame 7 0 longFrame, .uplinkFrame 5 0 [], .uplinkFrame 7 0 longFrame,
    .missedTick 4 false, .linkLost 6 0, .memoryFrame 7 0 longFrame, .identityData 7 [] none, .hostGraceExpired 7,
    .mirrorFrame [], .returnFrame [], .wakeFrame { fmt := 1, id := 0 } 0, .wakeFrame { fmt := 0, id := 0x800 } 0,
    .canFrameReceived .d { fmt := 0, id := 0, data := List.replicate 9 0 },
    .canFrameReceived .d { fmt := 1, id := 0, data := List.replicate 9 0 }, .canFrameReceived .d { fmt := 2, id := 0 },
    .canFrameReceived .d { fmt := 3, id := 0 }, .p2DescriptorFrame 0 true 0 [], .p2DescriptorFrame 0 false 0 longFrame,
    .doorCmd 0 longFrame, .statusReq 0 longFrame, .timeFrame 0 longFrame, .stretchLimit [],
    .descriptorFetch 0 0 (some []) none, .usbContainer 0 []] : List Instr).all (fun i => !i.wellFormed) = true := by
  decide +kernel

theorem test_ill_formed_readings : ([.busStateChange 0 .d 8 0 0, .busStateChange 0 .d 0 65536 0, .busStateChange 0 .d 0 0 65536,
    .canBusError .d none 256 0 0, .canBusError .d none 0 65536 0, .canBusError .d none 0 0 65536, .pbBusStuck 4,
    .busRangeFault 0 131072, .motorTemp 0 65536, .heatsink 0 128, .suOverload 0 65536 0, .cellTemp 8 0, .cellTemp 0 (-129),
    .cellFault 8 0 0, .cellFault 0 256 0, .cellFault 0 0 65536, .svcAttach 0 true [(65536, 0)] 0, .svcAttach 0 true [(0, 65536)] 0,
    .svcAttach 0 true [] 65536, .rearmDue true 0, .rearmDue true 13, .rearmDue false 64, .intercomInd 0 256] : List Instr).all
    (fun i => !i.wellFormed) = true := by decide +kernel

theorem test_ill_formed_buffers : ([.opServiceDrop tooLong 0, .opDoorOpen tooLong 0, .opDoorClose tooLong 0, .opDoorStop tooLong 0,
    .opDoorEvacOpen tooLong 0, .opDoorReset tooLong 0, .opStepRequest tooLong 0, .opDoorObstacle tooLong 0,
    .opDoorStatus tooLong 0, .opClaim tooLong 0, .opLoadSet tooLong 0 0, .opLoadRearm tooLong 0, .opRestWindow tooLong,
    .opReleaseHold tooLong, .opCoreHandover tooLong, .opNop tooLong, .opHeartbeat tooLong, .opParamSetLoad tooLong,
    .opParamSetRead tooLong, .opIoRead tooLong, .opFioSet tooLong 0 0, .opCanTxAbort tooLong 0, .opCanRxAck tooLong 0,
    .opSchedCancel tooLong 0, .opTimeRead tooLong, .opJournalStatus tooLong, .opJournalRelease tooLong, .opUpdateBegin tooLong,
    .opUpdateConfirm tooLong 0, .opUpdateStatus tooLong, .opKeyProvision tooLong, .opSessionClose tooLong] : List Instr).all
    (fun i => !i.wellFormed) = true := by decide +kernel

theorem test_ill_formed_arguments : ([.opReleaseClaims r0 (List.replicate 9 0), .opAxisMove r0 256 0, .opAxisMove r0 0 (2 ^ 31),
    .opAxisHalt r0 256, .opAxisReference r0 256, .opAxisSetPosition r0 256 0, .opAxisSetPosition r0 0 (-(2 ^ 31) - 1),
    .opSegTableLoad r0 256 0 1 0, .opSegTableLoad r0 0 256 1 0, .opSegTableLoad r0 0 0 65536 0, .opSegTableLoad r0 0 0 1 (2 ^ 31),
    .opMstepTableLoad r0 256, .opWait r0 256 0, .opWait r0 0 (2 ^ 64), .opCompletionReplay r0 0 65536 0,
    .opCompletionReplay r0 0 0 256, .opParamRead r0 65536 0, .opParamRead r0 0 65536, .opParamWrite r0 [(65536, 0)],
    .opParamWrite r0 [(0, 2 ^ 32)], .opCanTx r0 256 0 0 0 0 0 0 [], .opCanTx r0 0 0 65536 0 0 0 0 [],
    .opCanTx r0 0 0 0 0 0 0 0 (List.replicate 2049 0), .opCanRxRead r0 256 0 0 false, .opCanRxRead r0 0 256 0 false,
    .opCanRxRead r0 0 0 65536 false, .opCanFilterSet r0 256 0 0 0 0 0 0 0, .opCanStatus r0 256, .opCanRecover r0 256,
    .opTimeSet r0 (2 ^ 64) 0 0 0, .opTimeSet r0 0 0 (2 ^ 32) 0, .opTimeSet r0 0 0 0 65536] : List Instr).all
    (fun i => !i.wellFormed) = true := by decide +kernel

theorem test_ill_formed_more_arguments : ([.opJournalRead r0 256 0 0 0 0 0 0 0 [], .opJournalRead r0 0 256 0 0 0 0 0 0 [],
    .opJournalRead r0 0 0 256 0 0 0 0 0 [], .opJournalRead r0 0 0 0 256 0 0 0 0 [], .opJournalRead r0 0 0 0 0 65536 0 0 0 [],
    .opJournalRead r0 0 0 0 0 0 65536 0 0 [], .opJournalRead r0 0 0 0 0 0 0 (2 ^ 64) 0 [],
    .opJournalRead r0 0 0 0 0 0 0 0 65536 [], .opJournalRetain r0 (2 ^ 64) 0, .opJournalRetain r0 0 (2 ^ 32),
    .opJournalNote r0 0 (List.replicate 45 0), .opUpdateChunk r0 65536 (List.replicate 32 0), .opUpdateChunk r0 0 [],
    .opUpdateVerify r0 256, .opUpdateActivate r0 256 0, .opUpdateAbort r0 256 0, .opSessionChallenge r0 256,
    .opSessionOpen r0 256 0] : List Instr).all (fun i => !i.wellFormed) = true := by decide +kernel

theorem test_well_formed : ([.downlinkFrame 7 0 [], .missedTick 13 false, .identityData 7 (List.replicate 256 0) none,
    .wakeFrame { fmt := 0, id := 0x7FF } 0, .canFrameReceived .d { fmt := 1, ide := true, id := 0x800, data := List.replicate 64 0 },
    .heatsink 0 127, .opAxisMove r0 255 (2 ^ 31 - 1), .opDoorOpen r0 0] : List Instr).all Instr.wellFormed = true := by
  decide +kernel

/-- The table gives no row any bits: no word spells a command. -/
theorem test_no_word (nbits word : Nat) : decodeTableWord nbits word = none := rfl

end Sys2Proof.Tests
end

section
/-!
Operations of other chapters that leave every slot of the frame alone, and operations run over a list.
-/

namespace Sys2Proof.Machine

/-- What one run of an operation leaves of a state, a run over a list leaves. -/
theorem State.each_same {α β : Type} (g : State → β) (f : State → α → State) (l : List α)
    (h : ∀ (s : State), ∀ a ∈ l, g (f s a) = g s) (s : State) : g (s.each l f) = g s := by
  unfold State.each
  induction l generalizing s with
  | nil => rfl
  | cons a l ih =>
    rw [List.foldl_cons, ih (fun s b hb => h s b (List.mem_cons_of_mem a hb)), h s a List.mem_cons_self]

theorem State.each_slots {α : Type} (f : State → α → State) (l : List α)
    (h : ∀ (s : State) (a : α), (f s a).frame.slots = s.frame.slots) (s : State) :
    (s.each l f).frame.slots = s.frame.slots := State.each_same (fun s => s.frame.slots) f l (fun s a _ => h s a) s

/-! ### Operations that leave every slot alone -/

section
variable (s : State) (k : Slot)

@[simp] theorem State.raise_slots (code : BitVec 10) (items : List Item) :
    (s.raise code items).frame.slots = s.frame.slots := by rw [State.raise_frame]
@[simp] theorem State.judgeTiers_slots (cause : Nat) : (s.judgeTiers cause).frame.slots = s.frame.slots :=
  (s.judgeTiers_keeps cause).slots_eq
@[simp] theorem State.coreStarts_slots (c : CoreId) : (s.coreStarts c).frame.slots = s.frame.slots :=
  (s.coreStarts_keeps c).slots_eq
@[simp] theorem State.unitInService_slots : (s.unitInService k).frame.slots = s.frame.slots :=
  (s.unitInService_keeps k).slots_eq
@[simp] theorem State.updInService_slots : (s.updInService k).frame.slots = s.frame.slots :=
  (s.updInService_keeps k).slots_eq
@[simp] theorem State.suspendUpdate_slots : (s.suspendUpdate k).frame.slots = s.frame.slots :=
  (s.suspendUpdate_keeps k).slots_eq
@[simp] theorem State.updBecomes_slots (new : UpdState) : (s.updBecomes k new).frame.slots = s.frame.slots :=
  (s.updBecomes_keeps k new).slots_eq
@[simp] theorem State.takeWork_slots : (s.takeWork k).frame.slots = s.frame.slots := (s.takeWork_keeps k).slots_eq
@[simp] theorem State.judgeSupply_slots (p : Fin 2) (was : Nat) :
    (s.judgeSupply p was).frame.slots = s.frame.slots := (s.judgeSupply_keeps p was).slots_eq
@[simp] theorem State.emBecomes_slots (new : EmState) : (s.emBecomes new).frame.slots = s.frame.slots :=
  (s.emBecomes_keeps new).slots_eq
@[simp] theorem State.judgeReady_slots : s.judgeReady.frame.slots = s.frame.slots := s.judgeReady_keeps.slots_eq
@[simp] theorem State.hostOut_slots (p : HostPort) : (s.hostOut p).frame.slots = s.frame.slots :=
  (s.hostOut_keeps p).slots_eq
@[simp] theorem State.standbyBecomes_slots (new : StandbyState) (reason : Nat) :
    (s.standbyBecomes new reason).frame.slots = s.frame.slots := (s.standbyBecomes_keeps new reason).slots_eq

end

end Sys2Proof.Machine
end

section
/-!
One slot and all the others: what a change of one slot or of its firmware leaves alone, and from it that the pins, the
identity, the memory frames and the boots of a slot stay within it.
-/

namespace Sys2Proof.Machine

/-- Every slot but `k` is the same in `t` as in `s`, and so is its firmware. -/
structure OtherSlotsSame (k : Slot) (s t : State) : Prop where
  slot : ∀ j : Slot, j ≠ k → t.frame.slots[j] = s.frame.slots[j]
  firm : ∀ j : Slot, j ≠ k → t.update.firm[j] = s.update.firm[j]

namespace OtherSlotsSame

variable {k : Slot} {s t u : State}

theorem refl : OtherSlotsSame k s s := ⟨fun _ _ => rfl, fun _ _ => rfl⟩

theorem trans (h : OtherSlotsSame k s t) (g : OtherSlotsSame k t u) : OtherSlotsSame k s u :=
  ⟨fun j hj => (g.slot j hj).trans (h.slot j hj), fun j hj => (g.firm j hj).trans (h.firm j hj)⟩

/-- An operation that leaves all slots and all firmware alone. -/
theorem of_eq (hs : t.frame.slots = s.frame.slots) (hf : t.update.firm = s.update.firm) : OtherSlotsSame k s t :=
  ⟨fun j _ => by rw [hs], fun j _ => by rw [hf]⟩

theorem modSlot (h : OtherSlotsSame k s t) (f : SlotSt → SlotSt) : OtherSlotsSame k s (t.modSlot k f) :=
  h.trans ⟨fun _ hj => updV_other _ _ _ _ hj.symm, fun _ _ => rfl⟩

theorem modFirm (h : OtherSlotsSame k s t) (f : FirmSt → FirmSt) : OtherSlotsSame k s (t.modFirm k f) :=
  h.trans ⟨fun _ _ => rfl, fun _ hj => updV_other _ _ _ _ hj.symm⟩

theorem modPort (h : OtherSlotsSame k s t) (p : PortId) (f : PortSt → PortSt) : OtherSlotsSame k s (t.modPort p f) :=
  h.trans (.of_eq rfl rfl)

theorem raise (h : OtherSlotsSame k s t) (code : BitVec 10) (items : List Item) :
    OtherSlotsSame k s (t.raise code items) :=
  h.trans (.of_eq (by rw [State.raise_frame]) (by rw [State.raise_update]))

theorem updBecomes (h : OtherSlotsSame k s t) (new : UpdState) : OtherSlotsSame k s (t.updBecomes k new) := by
  unfold State.updBecomes
  extract_lets old
  split
  · exact h
  · exact (h.modFirm _).raise _ _

theorem bootModule (h : OtherSlotsSame k s t) : OtherSlotsSame k s (t.bootModule k) := by
  unfold State.bootModule
  split
  · exact h
  · extract_lets b s1 s2
    have h1 : OtherSlotsSame k s s1 := h.modFirm _
    have h2 : OtherSlotsSame k s s2 := by
      unfold s2
      split
      · exact (h1.raise _ _).updBecomes _
      · exact h1
    split
    · exact h2
    · exact (h2.modSlot _).raise _ _

theorem booted (h : OtherSlotsSame k s t) : OtherSlotsSame k s (t.booted k) := by
  unfold State.booted
  split
  · exact h.bootModule
  · exact h

theorem takeFirmware (h : OtherSlotsSame k s t) (serial : BitVec 32) :
    OtherSlotsSame k s (t.takeFirmware k serial) := by
  unfold State.takeFirmware
  extract_lets known img
  split
  · exact h
  · split
    · exact h.modFirm _
    · exact h.modFirm _

theorem alignModule (h : OtherSlotsSame k s t) : OtherSlotsSame k s (t.alignModule k) := by
  unfold State.alignModule
  split
  · exact h
  · extract_lets s0 f issue s1
    have h0 : OtherSlotsSame k s s0 := h.booted
    have h1 : OtherSlotsSame k s s1 := by
      unfold s1
      split
      · exact h0
      · split
        · split
          · exact ((h0.modFirm _).bootModule.modSlot _).raise _ _
          · exact h0
        · exact h0
    split
    · split
      · exact h1
      · exact (h1.modSlot _).raise _ _
    · exact h1

theorem coreStarts (h : OtherSlotsSame k s t) (c : CoreId) : OtherSlotsSame k s (t.coreStarts c) :=
  h.trans (.of_eq (t.coreStarts_keeps c).slots_eq (t.coreStarts_keeps c).firm_eq)

theorem enabledNow (h : OtherSlotsSame k s t) (b : List Byte) : OtherSlotsSame k s (t.enabledNow k b) := by
  unfold State.enabledNow
  split
  · exact h.trans (.of_eq rfl rfl)
  · exact (((h.modPort _ _).modSlot _).raise _ _).raise _ _
  · split
    · exact h
    · exact h.coreStarts _
  · exact h

theorem identityBad (h : OtherSlotsSame k s t) (reason : Nat) : OtherSlotsSame k s (t.identityBad k reason) :=
  (h.modSlot _).raise _ _

theorem identityRead (h : OtherSlotsSame k s t) (b : List Byte) (lowRail : Option (Nat × Nat)) :
    OtherSlotsSame k s (t.identityRead k b lowRail) := by
  unfold State.identityRead
  split
  · exact h
  · split
    · exact h.identityBad _
    · extract_lets s1 s2
      have h1 : OtherSlotsSame k s s1 := h.modSlot _
      have h2 : OtherSlotsSame k s s2 := (h1.takeFirmware _).alignModule
      split
      · exact (h1.modSlot _).raise _ _
      · split
        · exact h2
        · split
          · exact (h2.modSlot _).raise _ _
          · exact ((h2.modSlot _).raise _ _).enabledNow _

theorem until_ (h : OtherSlotsSame k s t) (at_ : Nat) : OtherSlotsSame k s (t.until at_) := h.trans (.of_eq rfl rfl)

theorem debounced (h : OtherSlotsSame k s t) : OtherSlotsSame k s (t.debounced k) := by
  unfold State.debounced
  extract_lets x s1
  have h1 : OtherSlotsSame k s s1 := h.modSlot _
  split
  · exact h1.modSlot _
  · exact (h1.modSlot _).raise _ _

theorem presMade (h : OtherSlotsSame k s t) (sid : BitVec 4) (par : Bool) :
    OtherSlotsSame k s (t.presMade k sid par) := by
  unfold State.presMade
  split
  · exact h
  · exact (h.modSlot _).modFirm _

theorem commanded (h : OtherSlotsSame k s t) : OtherSlotsSame k s (t.commanded k) := by
  unfold State.commanded
  split
  all_goals exact h.trans (.of_eq rfl rfl)

theorem memoryRequest (h : OtherSlotsSame k s t) (q : List Byte) : OtherSlotsSame k s (t.memoryRequest k q) := by
  unfold State.memoryRequest
  extract_lets op bank off len f reply room b
  have hr : ∀ (status : Nat) (data : List Byte) (u : State), OtherSlotsSame k s u →
      OtherSlotsSame k s (reply status data u) := fun _ _ _ hu => hu.modFirm _
  clear_value reply op
  split
  · exact hr _ _ _ h
  split
  · exact hr _ _ _ h
  split
  · split
    · exact hr _ _ _ h
    · exact hr _ _ _ h
  · split
    · exact hr _ _ _ h
    · exact hr _ _ _ (h.modFirm _)
  · exact hr _ _ _ h
  · split
    · exact hr _ _ _ h
    · exact hr _ _ _ (h.modFirm _)
  · exact hr _ _ _ h
  · exact (hr _ _ _ h).modFirm _

end OtherSlotsSame

/-! ### The commands of one slot -/

theorem execPresenceDebounceDone_others {k : Slot} {s t : State} (h : execPresenceDebounceDone k s = .next t) :
    OtherSlotsSame k s t := by
  unfold execPresenceDebounceDone at h
  cases h
  dsimp only
  split
  · exact (OtherSlotsSame.refl.until_ _).debounced
  · exact .refl

theorem execIdentityTimeout_others {k : Slot} {s t : State} (h : execIdentityTimeout k s = .next t) :
    OtherSlotsSame k s t := by
  unfold execIdentityTimeout at h
  cases h
  split
  · exact (OtherSlotsSame.refl.until_ _).identityBad _
  · exact .refl

theorem execModuleBoot_others {k : Slot} {s t : State} (h : execModuleBoot k s = .next t) : OtherSlotsSame k s t := by
  unfold execModuleBoot at h
  cases h
  split
  · exact OtherSlotsSame.refl.bootModule
  · exact .refl

theorem execMemoryFrame_others {k : Slot} {core : CoreId} {frame : List Byte} {s t : State}
    (h : execMemoryFrame k core frame s = .next t) : OtherSlotsSame k s t := by
  unfold execMemoryFrame at h
  cases h
  split
  · exact OtherSlotsSame.refl.commanded.memoryRequest _
  · exact .refl

/-- Settles O53: each command changes slots and firmware at its own slot only. -/
theorem otherSlotsStand : Obligations.OtherSlotsStand := by
  intro s t k j sid par block frame low core c hj hc h
  suffices hs : OtherSlotsSame k s t from ⟨hs.slot j hj, hs.firm j hj⟩
  simp only [List.mem_cons, List.not_mem_nil, or_false] at hc
  obtain rfl | rfl | rfl | rfl | rfl | rfl := hc
  · rw [exec_presAsserted] at h
    cases h
    exact OtherSlotsSame.refl.presMade _ _
  · exact execPresenceDebounceDone_others (exec_presenceDebounceDone s k ▸ h)
  · exact execIdentityTimeout_others (exec_identityTimeout s k ▸ h)
  · rw [exec_identityData] at h
    cases h
    exact OtherSlotsSame.refl.identityRead _ _
  · exact execModuleBoot_others (exec_moduleBoot s k ▸ h)
  · exact execMemoryFrame_others (exec_memoryFrame s k core frame ▸ h)

end Sys2Proof.Machine
end

section
/-!
Insertion of a module (R20, R21): one lemma for each command that brings a module from its presence contact to service.
-/

namespace Sys2Proof.Machine

/-! ### What the commands of an insertion bring about -/

section
variable (s : State) (k : Slot)

theorem State.presMade_slot (sid : BitVec 4) (sidp : Bool) (h : s.frame.slots[k].pres = false) :
    (s.presMade k sid sidp).frame.slots[k].pres = true ∧ (s.presMade k sid sidp).frame.slots[k].presSince = s.now ∧
      (s.presMade k sid sidp).frame.slots[k].debounced = false ∧ (s.presMade k sid sidp).frame.slots[k].sid = sid ∧
      (s.presMade k sid sidp).frame.slots[k].sidp = sidp := by
  unfold State.presMade
  rw [if_neg (by simpa using h)]
  simp

theorem State.debounced_now : (s.debounced k).now = s.now := by
  unfold State.debounced
  extract_lets x s1
  split <;> simp [s1]

theorem State.debounced_debounced : (s.debounced k).frame.slots[k].debounced = true := by
  unfold State.debounced
  extract_lets x s1
  split <;> simp [s1]

/-- The identity read of a closed module begins where the pins read the slot's own code. -/
theorem State.debounced_of_good (h : slotPinsGood k s.frame.slots[k].sid s.frame.slots[k].sidp = true) :
    (s.debounced k).frame.slots[k].identAsked = s.frame.slots[k].latchClosed := by
  unfold State.debounced
  extract_lets x s1
  rw [if_pos h]
  simp [s1]

/-- Other pins hold the module out (R21). -/
theorem State.debounced_of_bad (h : slotPinsGood k s.frame.slots[k].sid s.frame.slots[k].sidp = false) :
    (s.debounced k).frame.slots[k].heldOut = some .slotId := by
  unfold State.debounced
  extract_lets x s1
  rw [if_neg (by simpa [x] using h)]
  simp [s1]

theorem State.identityBad_slot (reason : Nat) :
    (s.identityBad k reason).frame.slots[k] =
      { s.frame.slots[k] with identAsked := false, heldOut := some .invalid } := by
  simp [State.identityBad]

theorem State.identityBad_now (reason : Nat) : (s.identityBad k reason).now = s.now := by
  simp [State.identityBad]

/-- Enable brings a host module into service and changes nothing else of a slot. -/
theorem State.enabledNow_slot (b : List Byte) :
    (s.enabledNow k b).frame.slots[k].enable = s.frame.slots[k].enable ∧
      (s.enabledNow k b).frame.slots[k].railsOn = s.frame.slots[k].railsOn ∧
      (s.enabledNow k b).frame.slots[k].heldOut = s.frame.slots[k].heldOut := by
  unfold State.enabledNow
  split
  · simp
  · simp
  · split <;> simp
  · simp

/-- The state in which the firmware of a module with a matching block has been checked or aligned. -/
theorem State.identityRead_of_match (block : List Byte) (ha : s.frame.slots[k].identAsked = true)
    (hv : identityInvalid block = none) (hm : s.identityMatches k block = true)
    (hi : (((s.modSlot k fun x => { x with identAsked := false, ident := some block }).takeFirmware k
      (BitVec.ofNat 32 (u32At block 0x10))).alignModule k).frame.slots[k].heldOut ≠ some .image) :
    (s.identityRead k block none).frame.slots[k].enable = true ∧
      (s.identityRead k block none).frame.slots[k].railsOn = true ∧
      (s.identityRead k block none).frame.slots[k].heldOut = none := by
  unfold State.identityRead
  rw [if_neg (by simpa using ha)]
  split
  · next n hn => simp [hv] at hn
  extract_lets s1 s2 s3
  change s2.frame.slots[k].heldOut ≠ some .image at hi
  rw [if_neg (by simp [hm]), if_neg hi]
  have h3 : s3.frame.slots[k].enable = true ∧ s3.frame.slots[k].railsOn = true ∧
      s3.frame.slots[k].heldOut = none := by
    simp [s3]
  obtain ⟨he3, hr3, hh3⟩ := h3
  obtain ⟨he, hr, hh⟩ := s3.enabledNow_slot k block
  exact ⟨he.trans he3, hr.trans hr3, hh.trans hh3⟩

/-- A block that is invalid or does not match the parameter set holds the module out (R2, R20). -/
theorem State.identityRead_of_reject (block : List Byte) (lowRail : Option (Nat × Nat))
    (ha : s.frame.slots[k].identAsked = true)
    (hb : identityInvalid block ≠ none ∨ s.identityMatches k block = false) :
    (s.identityRead k block lowRail).frame.slots[k].heldOut =
        some (if identityInvalid block = none then .mismatch else .invalid) ∧
      (s.identityRead k block lowRail).frame.slots[k].enable = s.frame.slots[k].enable := by
  unfold State.identityRead
  rw [if_neg (by simpa using ha)]
  split
  · next n hn =>
    rw [State.identityBad_slot, hn]
    simp
  · next hn =>
    extract_lets s1
    rw [if_pos (by simpa [hn] using hb), hn]
    simp [s1]

theorem State.moduleIn_slot :
    (s.moduleIn k).frame.slots[k].inService = true ∧ (s.moduleIn k).frame.slots[k].lost = false := by
  unfold State.moduleIn
  simp

end

/-- Settles O10: each command of an insertion by what its own operation makes of the slot. -/
theorem insertionCompletes : Obligations.InsertionCompletes := by
  intro s k
  refine ⟨fun sid sidp hp => ?_, fun hp hd hc => ?_, fun block ha hv hm hi => ?_, fun block lowRail ha hb => ?_,
    fun ha => ?_, fun he hi hh hr => ?_, fun hp hl => ?_⟩
  · exact .intro (exec_presAsserted s k sid sidp) (s.presMade_slot k sid sidp hp)
  · refine .intro (by rw [exec_presenceDebounceDone, execPresenceDebounceDone,
      if_pos (by simp [-Fin.getElem_fin, hp, hd, hc])]) ?_
    refine ⟨State.debounced_debounced _ k, (State.debounced_now _ k).trans (s.until_now _), fun hg => ?_,
      fun hb => ?_⟩
    · rw [State.debounced_of_good _ k (by rwa [State.until_frame]), State.until_frame]
    · rw [State.debounced_of_bad _ k (by rwa [State.until_frame])]
  · exact .intro (exec_identityData s k block none) (s.identityRead_of_match k block ha hv hm hi)
  · exact .intro (exec_identityData s k block lowRail) (s.identityRead_of_reject k block lowRail ha hb)
  · refine .intro (by rw [exec_identityTimeout, execIdentityTimeout, if_pos ha]) ?_
    rw [State.identityBad_slot, State.identityBad_now]
    exact ⟨rfl, rfl, s.until_now _⟩
  · refine .intro ?_ (s.moduleIn_slot k)
    rw [exec_moduleInService, execModuleInService, if_pos (by simp [-Fin.getElem_fin, he, hi, hh, hr])]
  · refine .intro (by rw [exec_latchFault, execLatchFault, if_neg (by simp [-Fin.getElem_fin, hp, hl])]) ?_
    simpa using hp

end Sys2Proof.Machine
end

section
/-!
Removal of a module in service (R22 to R27): the latch that opens, the request that waits, the sequence that runs to its
end, and the slot that is emptied.
-/

namespace Sys2Proof.Machine

/-! ### The latch opens (R22, R24, R25) -/

/-- From `s` to `t` only slots, firmware and outputs change, and every module that was in service still is. -/
structure SameService (s t : State) : Prop where
  keeps : KM 20182990880 s t
  inService : ∀ j, t.inService j = s.inService j

namespace SameService

variable {s t u : State}

theorem refl : SameService s s := ⟨.refl, fun _ => rfl⟩

theorem trans (h : SameService s t) (g : SameService t u) : SameService s u :=
  ⟨h.keeps.app g.keeps rfl, fun j => (g.inService j).trans (h.inService j)⟩

/-- An operation that leaves all slots alone. -/
theorem of_slots {m : Nat} (h : KM m s t) (hm : m ||| 20182990880 = 20182990880)
    (hs : t.frame.slots = s.frame.slots) : SameService s t :=
  ⟨(KM.refl (s := s)).app h hm, fun _ => by rw [State.inService, hs, State.inService]⟩

theorem modSlot (h : SameService s t) (k : Slot) (f : SlotSt → SlotSt) (hf : ∀ x, (f x).inService = x.inService) :
    SameService s (t.modSlot k f) := by
  refine h.trans ⟨(KM.refl (s := t)).app (t.modSlot_keeps k f) (by decide), fun j => ?_⟩
  unfold State.inService
  rw [State.modSlot_frame_slots, Fin.getElem_fin, updV_get]
  split
  · rw [hf]; rfl
  · rfl

theorem raise (h : SameService s t) (code : BitVec 10) (items : List Item) : SameService s (t.raise code items) :=
  h.trans (.of_slots (t.raise_keeps code items) (by decide) (by simp))

theorem suspendUpdate (h : SameService s t) (k : Slot) : SameService s (t.suspendUpdate k) :=
  h.trans (.of_slots (t.suspendUpdate_keeps k) (by decide) (by simp))

theorem waitFor (h : SameService s t) (k : Slot) (why : WaitReason) : SameService s (t.waitFor k why) := by
  unfold State.waitFor
  split
  · exact h
  · refine (h.modSlot k _ ?_).raise _ _
    exact fun _ => rfl

theorem each {α : Type} (f : State → α → State) (hf : ∀ t a, SameService t (f t a)) (l : List α)
    (h : SameService s t) : SameService s (t.each l f) := by
  unfold State.each
  induction l generalizing t with
  | nil => exact h
  | cons a l ih => exact ih (h.trans (hf t a))

theorem removalRefused (h : SameService s t) (k : Slot) : t.removalRefused k = s.removalRefused k := by
  simp only [State.removalRefused, h.inService]

/-- Zero speed is read from the field modules in service, and from the pairs (R47). -/
theorem zeroSpeed (h : SameService s t) : t.zeroSpeed t.activeCore = s.zeroSpeed s.activeCore := by
  have ha : t.activeCore = s.activeCore := by rw [State.activeCore, h.keeps.core_eq, State.activeCore]
  simp only [State.zeroSpeed, State.pairActive, State.pairReadable, State.reading, State.pairVal, h.inService, ha,
    h.keeps.param_eq, h.keeps.field_eq, h.keeps.pairs_eq]

end SameService

section
variable (s : State) (k : Slot)

/-- The slot's request waits. -/
def SlotSt.waitsFor (why : WaitReason) (x : SlotSt) : SlotSt := { x with removal := some (.waiting why) }

theorem SlotSt.waitsFor_of_removal (why : WaitReason) (x : SlotSt) (h : x.removal = some (.waiting why)) :
    x.waitsFor why = x := by
  unfold SlotSt.waitsFor
  rw [← h]

theorem State.waitFor_slot (why : WaitReason) :
    (s.waitFor k why).frame.slots[k] = s.frame.slots[k].waitsFor why := by
  unfold State.waitFor
  split
  · next h => rw [SlotSt.waitsFor_of_removal _ _ h]
  · simp [SlotSt.waitsFor]

theorem State.waitFor_other (j : Slot) (hj : j ≠ k) (why : WaitReason) :
    (s.waitFor k why).frame.slots[j] = s.frame.slots[j] := by
  unfold State.waitFor
  split
  · rfl
  · simp [Fin.val_ne_of_ne hj.symm]

/-- With zero speed ACTIVE a request that waits is confirmed (R24). -/
theorem State.confirmRemoval_of_zeroSpeed (why : WaitReason) (h : s.frame.slots[k].removal = some (.waiting why))
    (hz : s.zeroSpeed s.activeCore = true) :
    s.confirmRemoval k = s.modSlot k fun x => { x with confirmed := true } := by
  unfold State.confirmRemoval
  rw [h]
  exact if_pos hz

/-- A confirmation leaves a request waiting. -/
theorem State.confirmRemoval_slot (why : WaitReason) (h : s.frame.slots[k].removal = some (.waiting why)) :
    (∃ why', (s.confirmRemoval k).frame.slots[k].removal = some (.waiting why')) ∧
      (s.confirmRemoval k).frame.slots[k].latchClosed = s.frame.slots[k].latchClosed ∧
      (s.confirmRemoval k).frame.slots[k].inService = s.frame.slots[k].inService := by
  by_cases hz : s.zeroSpeed s.activeCore = true
  · rw [s.confirmRemoval_of_zeroSpeed k why h hz]
    simpa using ⟨why, h⟩
  · unfold State.confirmRemoval
    rw [h]
    dsimp only
    rw [if_neg hz]
    split
    · rw [State.waitFor_slot]
      exact ⟨⟨_, rfl⟩, rfl, rfl⟩
    · exact ⟨⟨why, h⟩, rfl, rfl⟩

/-- The latch reads open again, and the request is of this moment. -/
def SlotSt.latchOpens (now : Nat) (x : SlotSt) : SlotSt :=
  { x with latchClosed := false, latchReclosed := false, requestedAt := now, confirmed := false }

/-- The request is refused at this moment. -/
def SlotSt.refused (now : Nat) (x : SlotSt) : SlotSt := { x with refusedAt := some now }

variable (hp : s.frame.slots[k].pres = true) (hl : s.frame.slots[k].latchFault = false)
  (hr : s.frame.slots[k].removal = none)
include hp hl hr

/-- The removal of the last power module or the last core is refused (R25). -/
theorem State.openLatch_of_refused (h : s.removalRefused k ≠ none) :
    (s.openLatch k).frame.slots[k] = (s.frame.slots[k].latchOpens s.now).refused s.now := by
  obtain ⟨reason, hn⟩ := Option.ne_none_iff_exists'.mp h
  unfold State.openLatch
  extract_lets x again s0
  have h0 : SameService s s0 := SameService.refl.modSlot k (SlotSt.latchOpens s.now) fun _ => rfl
  rw [if_neg (by simp [-Fin.getElem_fin, x, hp, hl, hr]), (h0.removalRefused k).trans hn]
  simp [s0, SlotSt.latchOpens, SlotSt.refused]

/-- Any other opened latch is a request that waits; a second opening within the window confirms it (R22, R24). -/
theorem State.openLatch_of_accepted (h : s.removalRefused k = none) :
    ∃ u why, SameService s u ∧ u.frame.slots[k] = (s.frame.slots[k].latchOpens s.now).waitsFor why ∧
      s.openLatch k = if (s.frame.slots[k].latchReclosed &&
        decide (s.since s.frame.slots[k].latchClosedAt ≤ s.param 0x031 * sec)) then u.confirmRemoval k else u := by
  unfold State.openLatch
  extract_lets x again s0 behind s1 why s2 s3
  have h0 : SameService s s0 := SameService.refl.modSlot k (SlotSt.latchOpens s.now) fun _ => rfl
  have h1 : SameService s s1 := h0.each _ (fun t j => SameService.refl.waitFor j _) _
  have hs1 : s1.frame.slots[k] = s.frame.slots[k].latchOpens s.now := by
    refine (State.each_same (fun t => t.frame.slots[k]) _ behind (fun t j hj => ?_) s0).trans (updV_self ..)
    have hkj : k < j := by simp only [behind, List.mem_filter, Bool.and_eq_true, decide_eq_true_eq] at hj; tauto
    exact t.waitFor_other j k hkj.ne _
  have h2 : SameService s s2 := (h1.raise _ _).suspendUpdate k
  have hs2 : s2.frame.slots[k] = s.frame.slots[k].latchOpens s.now := by
    rw [← hs1]; simp [s2]
  have h3 : SameService s s3 ∧ ∃ w, s3.frame.slots[k] = (s.frame.slots[k].latchOpens s.now).waitsFor w := by
    unfold s3
    cases why with
    | some w => exact ⟨h2.waitFor k w, w, by rw [State.waitFor_slot, hs2]⟩
    | none =>
      exact ⟨h2.modSlot k (SlotSt.waitsFor .gate) fun _ => rfl, .gate,
        (updV_self ..).trans (by rw [hs2, SlotSt.waitsFor])⟩
  obtain ⟨hk3, w, hs3⟩ := h3
  refine ⟨s3, w, hk3, hs3, ?_⟩
  rw [if_neg (by simp [-Fin.getElem_fin, x, hp, hl, hr]), (h0.removalRefused k).trans h]

end

/-! ### The sequence and its end (R23, Table FR-9) -/

section
variable (s : State) (k : Slot)

theorem State.startRemoval_slot : (s.startRemoval k).frame.slots[k].removal = some (.running 1) := by
  unfold State.startRemoval
  extract_lets s1
  split <;> simp [s1]

/-- A module whose enable is cleared is out of service. -/
def SlotSt.cleared (x : SlotSt) : SlotSt :=
  { x with enable := false, railsOn := false, inService := false, standbyRole := false }

theorem State.clearEnable_slots : (s.clearEnable k).frame.slots = updV s.frame.slots k SlotSt.cleared := by
  unfold State.clearEnable
  extract_lets s1
  have h1 : s1.frame.slots = updV s.frame.slots k SlotSt.cleared := by
    rw [State.judgeTiers_slots, State.modSlot_frame_slots]; rfl
  clear_value s1
  split
  · simp [h1]
  · simp [h1]
  · simp [h1]
  · split <;> simp [h1]
  · exact h1

/-- The module may be pulled. -/
def SlotSt.freed (x : SlotSt) : SlotSt := { x with removal := some .free }

theorem State.finishRemoval_slot : (s.finishRemoval k).frame.slots[k] = s.frame.slots[k].cleared.freed := by
  unfold State.finishRemoval
  extract_lets s1
  have h1 : s1.frame.slots = s.frame.slots := by
    unfold s1
    split
    · split <;> simp
    · rfl
  simp [State.clearEnable_slots, h1, SlotSt.freed]

theorem State.finishRemoval_free :
    (s.finishRemoval k).frame.slots[k].removal = some .free ∧ (s.finishRemoval k).frame.slots[k].enable = false ∧
      (s.finishRemoval k).frame.slots[k].inService = false := by
  rw [State.finishRemoval_slot]
  exact ⟨rfl, rfl, rfl⟩

theorem State.removalComplete_of_done (n : Nat) (h : s.frame.slots[k].removal = some (.running n))
    (hd : s.removalDone k = true) (hk : ∀ p, slotKind k ≠ .power p) : s.removalComplete k = s.finishRemoval k := by
  unfold State.removalComplete
  rw [h]
  dsimp only
  split
  · next p hp => exact absurd hp (hk p)
  · rw [if_pos hd]

/-- The ramp of a power module's output is over 20 ms after the sequence began. -/
theorem State.removalComplete_of_power (n : Nat) (p : Fin 2) (h : s.frame.slots[k].removal = some (.running n))
    (hk : slotKind k = .power p) :
    s.removalComplete k = (s.until (s.frame.slots[k].stepFrom + 20 * msec)).finishRemoval k := by
  unfold State.removalComplete
  rw [h]
  dsimp only
  rw [hk]
  dsimp only
  rw [if_pos]
  have hd : 20 * msec ≤ (s.until (s.frame.slots[k].stepFrom + 20 * msec)).since s.frame.slots[k].stepFrom := by
    rw [State.since, State.until_now]
    omega
  unfold State.removalDone
  rw [hk, State.until_frame]
  dsimp only
  rw [decide_eq_true hd, Bool.or_true]

theorem State.reIdentify_slot : (s.reIdentify k).frame.slots[k].removal = s.frame.slots[k].removal ∧
    (s.reIdentify k).frame.slots[k].latchClosed = s.frame.slots[k].latchClosed := by
  simp [State.reIdentify]

/-- A latch that is closed again ends the request (R26). -/
theorem State.cancelRemoval_slot (stage : RemStage) (h : s.frame.slots[k].removal = some stage) :
    (s.cancelRemoval k).frame.slots[k].removal = none ∧ (s.cancelRemoval k).frame.slots[k].latchClosed = true := by
  unfold State.cancelRemoval
  extract_lets x s0 s1 s2 s3 s4
  have h0 : s0.frame.slots[k].latchClosed = true := by simp [s0]
  have h1 : s1.frame.slots = s0.frame.slots := by unfold s1; split <;> simp
  have h2 : s2.frame.slots[k].removal = none ∧ s2.frame.slots[k].latchClosed = true := by
    simpa [s2, h1] using h0
  have h3 : s3.frame.slots[k].removal = none ∧ s3.frame.slots[k].latchClosed = true := by
    unfold s3
    split
    · simpa [State.clearEnable_slots, SlotSt.cleared] using h2
    · exact h2
  have h4 : s4.frame.slots = s3.frame.slots := by unfold s4; split <;> simp
  obtain ⟨hr3, hl3⟩ := h3
  unfold x
  rw [h]
  cases stage with
  | waiting _ =>
    dsimp only
    split
    · simpa using h2
    · exact h2
  | running _ =>
    obtain ⟨hr, hl⟩ := s4.reIdentify_slot k
    exact ⟨by rw [hr, h4, hr3], by rw [hl, h4, hl3]⟩
  | free =>
    obtain ⟨hr, hl⟩ := s4.reIdentify_slot k
    exact ⟨by rw [hr, h4, hr3], by rw [hl, h4, hl3]⟩

/-- What a slot keeps of a module that is pulled: its own latch and the counts of its links. -/
def SlotSt.emptied (x : SlotSt) : SlotSt :=
  { latchClosed := x.latchClosed, latchFault := x.latchFault, crcErrs := x.crcErrs, crcRaised := x.crcRaised }

theorem State.emptySlot_slots : (s.emptySlot k).frame.slots = updV s.frame.slots k SlotSt.emptied := by
  unfold State.emptySlot
  extract_lets empty s1
  have h1 : s1.frame.slots = updV s.frame.slots k SlotSt.emptied := rfl
  clear_value s1
  split
  · exact h1
  · exact h1
  · exact h1
  · exact h1
  · exact h1
  · simp [State.each_slots, h1]
  · simp [State.each_slots, h1]

theorem State.emptySlot_slot : (s.emptySlot k).frame.slots[k] = s.frame.slots[k].emptied := by
  rw [State.emptySlot_slots]
  exact updV_self ..

end

/-- Settles O11: the slot's request after each command of a removal. -/
theorem removalCompletes : Obligations.RemovalCompletes := by
  intro s k
  refine ⟨fun hp hl hr => ?_, fun hp hl hr hn ha hw hz => ?_, fun why h hw => ?_, fun r why h hz => ?_,
    fun p hk h => ?_, fun n h hd hk => ?_, fun n p h hk => ?_, fun stage h => ?_, fun h => ?_, fun hp hf => ?_⟩
  · refine .intro (exec_removeRequest s k) ?_
    by_cases hn : s.removalRefused k = none
    · obtain ⟨u, why, -, hs, ho⟩ := s.openLatch_of_accepted k hp hl hr hn
      rw [ho]
      split
      · obtain ⟨hw, hc, hi⟩ := u.confirmRemoval_slot k why (by rw [hs]; rfl)
        exact ⟨by rw [hc, hs]; rfl, by rw [hi, hs]; rfl, fun _ => hw, fun h => absurd hn h⟩
      · rw [hs]
        exact ⟨rfl, rfl, fun _ => ⟨why, rfl⟩, fun h => absurd hn h⟩
    · rw [s.openLatch_of_refused k hp hl hr hn]
      exact ⟨rfl, rfl, fun h => absurd h hn, fun _ => ⟨hr, rfl⟩⟩
  · refine .intro (exec_latchReopenConfirm s k) ?_
    obtain ⟨u, why, hu, hs, ho⟩ := s.openLatch_of_accepted k hp hl hr hn
    rw [ho, if_pos (by simpa [-Fin.getElem_fin, ha] using hw),
      u.confirmRemoval_of_zeroSpeed k why (by rw [hs]; rfl) (hu.zeroSpeed.trans hz), State.modSlot_frame_slots,
      updV_self, hs]
    exact ⟨rfl, rfl⟩
  · refine .intro (exec_removeGateMet s k) ?_
    unfold State.evalRemoval
    rw [h, hw]
    exact s.startRemoval_slot k
  · refine .intro (exec_opServiceDrop s r k) ?_
    have hk : asFin 14 k.val = some k := dif_pos k.isLt
    unfold State.doServiceDrop
    rw [hk]
    dsimp only
    rw [if_pos hz, s.confirmRemoval_of_zeroSpeed k why h hz]
    exact ⟨by simp, by simp, State.ok_answers _ _ _ _⟩
  · refine .intro (by rw [exec_hostGraceExpired, execHostGraceExpired, hk, h]; rfl) (State.finishRemoval_free _ k)
  · refine .intro (exec_removalComplete s k) ?_
    rw [s.removalComplete_of_done k n h hd hk]
    exact s.finishRemoval_free k
  · refine .intro (exec_removalComplete s k) ?_
    rw [s.removalComplete_of_power k n p h hk]
    exact State.finishRemoval_free _ k
  · exact .intro (exec_removeCancelled s k) (s.cancelRemoval_slot k stage h)
  · refine .intro (by rw [exec_moduleRemoved, execModuleRemoved, if_pos h]) ?_
    rw [State.emptySlot_slot]
    exact ⟨rfl, rfl, rfl⟩
  · refine .intro (by rw [exec_unannouncedPull, execUnannouncedPull, if_neg hf]) ?_
    unfold State.unannounced
    extract_lets x s1 s2
    rw [if_neg (by simpa [x] using hp), State.emptySlot_slot]
    exact ⟨rfl, rfl, rfl⟩

end Sys2Proof.Machine
end

section
/-!
The module link (R16 to R18, R101 to R103, R208, R235) and the end of a pass (R17, R66): one lemma for each command of
the link, by the kind of module that the slot holds.
-/

namespace Sys2Proof.Machine

/-! ### Downlink frames (R16, R17) -/

section
variable (s : State) (k : Slot)

/-- The command of a good frame waits for the coming edge, and the loss timeout starts anew. -/
theorem State.takeDownlink_takes (p : List Byte) (hl : onLink k = true) :
    (s.takeDownlink k p).commandWaits k = true ∧
      (∀ m, slotKind k = .axis m → (s.takeDownlink k p).axMods[m].next = some (axBlockOf p) ∧
        (s.takeDownlink k p).axMods[m].missRun = 0) ∧
      (∀ m, slotKind k = .field m → (s.takeDownlink k p).field.mods[m].missRun = 0 ∧
        (s.takeDownlink k p).field.mods[m].cfgCrc = BitVec.ofNat 16 (u16At p 16)) ∧
      (slotKind k = .load → (s.takeDownlink k p).load.missRun = 0) ∧
      (slotKind k = .energy → (s.takeDownlink k p).energy.missMs = 0) := by
  unfold State.takeDownlink State.commandWaits
  cases hk : slotKind k with
  | power q => simp
  | energy => simp
  | core c => simp [onLink, hk] at hl
  | host q => simp [onLink, hk] at hl
  | axis m => simp
  | field m => simp
  | load => simp

/-- The waiting commands of the modules are those of their own parts of the state. -/
theorem State.commandWaits_congr {s t : State} (ha : t.axMods = s.axMods) (hf : t.field = s.field)
    (hl : t.load = s.load) (he : t.energy = s.energy) (hs : t.supply = s.supply) :
    t.commandWaits k = s.commandWaits k := by
  unfold State.commandWaits
  rw [ha, hf, hl, he, hs]

/-- A bad CRC is counted and nothing else comes of the frame (R16). -/
theorem State.linkCrcError_counts (core : CoreId) :
    (s.linkCrcError k core).frame.slots[k].crcErrs[core] = s.frame.slots[k].crcErrs[core] + 1 ∧
      (s.linkCrcError k core).commandWaits k = s.commandWaits k := by
  unfold State.linkCrcError
  extract_lets s1 n
  split
  · exact ⟨by simp [s1], State.commandWaits_congr k (by simp [s1]) (by simp [s1]) (by simp [s1]) (by simp [s1])
      (by simp [s1])⟩
  · exact ⟨by simp [s1], State.commandWaits_congr k rfl rfl rfl rfl rfl⟩

end

/-! ### A missed tick of an axis module (R17, R102) -/

/-- What an axis module holds of its downlink: the command that waits, and the run of missed ticks. -/
def State.axDownlink (s : State) (m : Axis) : Option AxBlock × Nat := (s.axMods[m].next, s.axMods[m].missRun)

theorem KM.axDownlink {n : Nat} {s t : State} (h : KM n s t) (b : n.testBit 16 = false := by decide) :
    t.axDownlink = s.axDownlink := by
  funext m
  rw [State.axDownlink, State.axDownlink, h.axMods_eq b]

section
variable (s : State) (a m : Axis)

@[simp] theorem State.modAxis_axDownlink (f : AxisSt → AxisSt) : (s.modAxis a f).axDownlink = s.axDownlink := id rfl
@[simp] theorem State.modDoor_axDownlink (d : Doorway) (f : DoorSt → DoorSt) :
    (s.modDoor d f).axDownlink = s.axDownlink := id rfl
@[simp] theorem State.raise_axDownlink (code : BitVec 10) (items : List Item) :
    (s.raise code items).axDownlink = s.axDownlink := (s.raise_keeps code items).axDownlink
@[simp] theorem State.completeAll_axDownlink (rs : List Req) (oc : BitVec 15) (st : Byte) (d : Nat) (res : List Byte) :
    (s.completeAll rs oc st d res).axDownlink = s.axDownlink := by
  funext m
  rw [State.axDownlink, State.axDownlink, (s.completeAll_outputs rs oc st d res).axMods]
@[simp] theorem State.makeUncertain_axDownlink (cause : Nat) : (s.makeUncertain a cause).axDownlink = s.axDownlink :=
  (s.makeUncertain_keeps a cause).axDownlink
@[simp] theorem State.endAxisCmd_axDownlink (st : Byte) (d : Nat) (res : List Byte) :
    (s.endAxisCmd a st d res).axDownlink = s.axDownlink := (s.endAxisCmd_keeps a st d res).axDownlink
@[simp] theorem State.encSupplyGone_axDownlink : (s.encSupplyGone m).axDownlink = s.axDownlink :=
  (s.encSupplyGone_keeps m).axDownlink
@[simp] theorem State.takeOut_axDownlink (k : Slot) : (s.takeOut k).axDownlink = s.axDownlink :=
  (s.takeOut_keeps k).axDownlink
@[simp] theorem State.setDerated_axDownlink (d : Bool) : (s.setDerated a d).axDownlink = s.axDownlink :=
  (s.setDerated_keeps a d).axDownlink
@[simp] theorem State.rampStop_axDownlink : (s.rampStop a).axDownlink = s.axDownlink := (s.rampStop_keeps a).axDownlink

theorem State.modAxMod_axDownlink (f : AxModSt → AxModSt) (hn : ∀ x, (f x).next = x.next)
    (hr : ∀ x, (f x).missRun = x.missRun) : (s.modAxMod a f).axDownlink = s.axDownlink := by
  funext m
  unfold State.axDownlink
  rw [State.modAxMod_axMods]
  by_cases h : a = m
  · subst h; rw [updV_self, hn, hr]
  · rw [updV_other _ _ _ _ h]

@[simp] theorem State.refFail_axDownlink (reason : Nat) : (s.refFail a reason).axDownlink = s.axDownlink := by
  unfold State.refFail
  split
  · rfl
  · next r _ =>
    extract_lets s1 s2 s3
    have h1 : s1.axDownlink = s.axDownlink := by simp [s1, State.modAxMod_axDownlink]
    have h2 : s2.axDownlink = s.axDownlink := by unfold s2; split <;> simp [h1]
    have h3 : s3.axDownlink = s.axDownlink := by simp [s3, h2]
    split
    · split
      · extract_lets s4
        have h4 : s4.axDownlink = s.axDownlink := by unfold s4; split <;> simp [h3]
        simp [h4]
      · exact h3
    · exact h3

@[simp] theorem State.freeze_axDownlink (cause : FreezeCause) (st : Byte) (d : Nat) :
    (s.freeze a cause st d).axDownlink = s.axDownlink := by
  unfold State.freeze
  extract_lets x k loss held pos fast s1 s2 s3
  have h1 : s1.axDownlink = s.axDownlink := by simp [s1]
  have h2 : s2.axDownlink = s.axDownlink := by
    unfold s2
    split
    · simp [h1]
    · split <;> simp [h1]
  have h3 : s3.axDownlink = s.axDownlink := by unfold s3; split <;> simp [h2]
  simp [h3]

@[simp] theorem State.laneGone_axDownlink : (s.laneGone m).axDownlink = s.axDownlink := by
  unfold State.laneGone State.axisLost
  extract_lets a o s0 continues s1 s2 s3
  split
  · simp
  · split
    · rfl
    · split
      · simp [s0]
      · split <;> simp [s3, s2, s1, s0]

@[simp] theorem State.lossReported_axDownlink : (s.lossReported m).axDownlink = s.axDownlink := by
  unfold State.lossReported
  extract_lets a s0 single s1
  have h0 : s0.axDownlink = s.axDownlink := by simp [s0, State.modAxMod_axDownlink]
  have h1 : s1.axDownlink = s.axDownlink := by simp [s1, h0]
  split
  · simp [State.modAxMod_axDownlink, h1]
  · exact h1

/-- The loss state begins with the third missed tick in a row, so its floor of three leaves the run as it is. -/
theorem State.lossEnter_axDownlink (h : 3 ≤ s.axMods[m].missRun) :
    (s.lossEnter m).axDownlink m = s.axDownlink m := by
  unfold State.lossEnter
  extract_lets a open_ s1
  have h1 : s1.axDownlink m = s.axDownlink m := by
    simp only [State.axDownlink, s1, State.modAxMod_axMods, updV_self, max_eq_right h]
  split
  · rw [State.lossReported_axDownlink, h1]
  · exact h1

@[simp] theorem State.missedCount_axDownlink (count : Nat) : (s.missedCount m count).axDownlink = s.axDownlink := by
  unfold State.missedCount
  extract_lets k over_ s1 x
  have h1 : s1.axDownlink = s.axDownlink := by
    unfold s1
    split <;> simp [State.modAxMod_axDownlink]
  split
  · simp [State.modAxMod_axDownlink, h1]
  · exact h1

end

/-! ### A missed tick of a field module (R17, R157) -/

section
variable (s : State)

@[simp] theorem State.endDiag_mods (c : Chan) (codes : List Nat) : (s.endDiag c codes).field.mods = s.field.mods := by
  unfold State.endDiag
  extract_lets d
  split <;> simp

@[simp] theorem State.driveOutput_mods (lead c : Chan) (want : Bool) :
    (s.driveOutput lead c want).field.mods = s.field.mods := by
  unfold State.driveOutput
  extract_lets x may on
  split
  · rfl
  · split <;> simp

@[simp] theorem State.driveSet_mods (lead : Chan) (want : Bool) : (s.driveSet lead want).field.mods = s.field.mods :=
  State.each_same (fun s => s.field.mods) _ _ (fun s c _ => s.driveOutput_mods lead c want) s

@[simp] theorem State.safeState_mods (c : Chan) : (s.safeState c).field.mods = s.field.mods := by
  unfold State.safeState
  split <;> simp

/-- The safe states leave the command that waits alone. -/
theorem State.applySafe_cmdNext (m : Fin 2) (cause : Nat) :
    (s.applySafe m cause).field.mods[m].cmdNext = s.field.mods[m].cmdNext := by
  unfold State.applySafe
  split
  · rfl
  · have h : ∀ (t : State) (l : List Chan), (t.each l fun s c => s.safeState c).field.mods = t.field.mods :=
      fun t l => State.each_same (fun s => s.field.mods) _ _ (fun s c _ => s.safeState_mods c) t
    simp [h]

/-! ### A missed tick of the load module (R17, R178) -/

@[simp] theorem State.endLoadDiag_cmdNext (c : LoadCh) (codes : List Nat) :
    (s.endLoadDiag c codes).load.cmdNext = s.load.cmdNext := by
  unfold State.endLoadDiag
  extract_lets d
  split <;> simp

@[simp] theorem State.loadFollow_cmdNext (c : LoadCh) : (s.loadFollow c).load.cmdNext = s.load.cmdNext := by
  unfold State.loadFollow
  extract_lets want
  split
  · rfl
  · split <;> simp

@[simp] theorem State.loadsFollow_cmdNext : s.loadsFollow.load.cmdNext = s.load.cmdNext := by
  unfold State.loadsFollow
  generalize List.finRange 12 = l
  exact State.each_same (fun s => s.load.cmdNext) _ l (fun s c _ => s.loadFollow_cmdNext c) s

@[simp] theorem State.loadSafe_cmdNext : s.loadSafe.load.cmdNext = s.load.cmdNext := by
  unfold State.loadSafe
  split
  · rfl
  · simp

/-! ### A missed tick, by the kind of module -/

theorem State.tickMissed_axis {k : Slot} {m : Axis} (hk : slotKind k = .axis m) :
    (s.tickMissed k).axDownlink m = (none, s.axMods[m].missRun + 1) := by
  unfold State.tickMissed
  rw [hk]
  dsimp -zeta only
  extract_lets s1 s2
  have h1 : s1.axDownlink m = (none, s.axMods[m].missRun + 1) := by
    simp only [State.axDownlink, s1, State.modAxMod_axMods, updV_self]
  have h2 : s2.axDownlink m = (none, s.axMods[m].missRun + 1) := by rw [State.missedCount_axDownlink, h1]
  split
  · next h =>
    simp only [Bool.and_eq_true, decide_eq_true_eq] at h
    obtain ⟨h3, -⟩ := h
    rw [State.lossEnter_axDownlink _ _ h3, h2]
  · exact h2

theorem State.tickMissed_field {k : Slot} {m : Fin 2} (hk : slotKind k = .field m) :
    (s.tickMissed k).field.mods[m].cmdNext = none := by
  unfold State.tickMissed
  rw [hk]
  dsimp -zeta only
  extract_lets s1 s2
  have h1 : s1.field.mods[m].cmdNext = none := by
    simp only [s1, State.modFieldMod_field_mods, updV_self]
  have h2 : s2.field.mods[m].cmdNext = none := by
    simp only [s2, State.modFieldMod_field_mods, updV_self, h1]
  split
  · split
    · rw [State.applySafe_cmdNext, h2]
    · exact h2
  · exact h1

theorem State.tickMissed_load {k : Slot} (hk : slotKind k = .load) : (s.tickMissed k).load.cmdNext = none := by
  unfold State.tickMissed
  rw [hk]
  dsimp only
  split <;> simp

theorem State.tickMissed_energy {k : Slot} (hk : slotKind k = .energy) :
    (s.tickMissed k).energy.cmdNext = none ∧ (s.tickMissed k).energy.missMs = s.energy.missMs + 50 := by
  unfold State.tickMissed
  rw [hk]
  dsimp only
  split <;> simp

theorem State.tickMissed_power {k : Slot} {p : Fin 2} (hk : slotKind k = .power p) :
    (s.tickMissed k).supply.pm[p].cmdNext = none := by
  unfold State.tickMissed
  rw [hk]
  simp

/-- After a missed tick no command waits: the module repeats its last one (R17). -/
theorem State.tickMissed_commandWaits (k : Slot) : (s.tickMissed k).commandWaits k = false := by
  unfold State.commandWaits
  cases hk : slotKind k with
  | power p => simpa using congrArg Option.isSome (s.tickMissed_power hk)
  | energy => simp [(s.tickMissed_energy hk).1]
  | core c => rfl
  | host p => rfl
  | axis m =>
    have h : (s.tickMissed k).axMods[m].next = none := congrArg Prod.fst (s.tickMissed_axis hk)
    simpa using congrArg Option.isSome h
  | field m => simpa using congrArg Option.isSome (s.tickMissed_field hk)
  | load => simp [s.tickMissed_load hk]

end

/-! ### Uplink frames (R16, R18, R101) -/

section
variable (s : State) (k : Slot) (core : CoreId)

/-- A valid uplink frame ends the run of ticks without one, and its link is covered. -/
def SlotSt.heardBy (x : SlotSt) : SlotSt :=
  { x with
    uplinkMissed := updV x.uplinkMissed core fun _ => 0, linkUp := updV x.linkUp core fun _ => true }

/-- What a good frame of the slot's own kind brings. -/
theorem execUplinkFrame_of_good (frame : List Byte) (hp : s.frame.slots[k].pres = true) (hl : onLink k = true)
    (hc : s.pair.core[core].present = true) (hcrc : linkCrcHolds frame = true) (h0 : byteAt frame 0 = 2)
    (h4 : byteAt frame 4 % 16 = k.val + 1) (h5 : byteAt frame 5 = (payloadLengths k).2) :
    execUplinkFrame k core frame s = .next (
      let s2 := (s.modSlot k (SlotSt.heardBy core)).takeUplink k core (framePayload frame) (u16At frame 2)
        (bit (byteAt frame 1) 1)
      if core = s.activeCore then (s2.failsInRemoval k (bit (byteAt frame 1) 1)).uplinkFlags k (byteAt frame 1)
      else s2) := by
  unfold execUplinkFrame
  rw [if_neg (by simp [-Fin.getElem_fin, hp, hl, hc]), if_neg (by simp [hcrc]), if_neg (by simp [h0, h4, h5])]
  rfl

/-- The standby reads a field module's image for itself and takes nothing else (R101). -/
theorem State.takeUplink_of_standby (p : List Byte) (tick : Nat) (flag : Bool) (h : core ≠ s.activeCore) :
    (s.takeUplink k core p tick flag).frame.slots = s.frame.slots ∧
      ∀ m, slotKind k = .field m → (s.takeUplink k core p tick flag).field.mods[m].views[core] = fiUplinkOf p := by
  unfold State.takeUplink
  cases hk : slotKind k with
  | field m => simp [h, State.fieldUplink]
  | power q => simp [h]
  | energy => simp [h]
  | core c => simp
  | host q => simp
  | axis m => simp [h]
  | load => simp [h]

/-- The fault flag changes the fault code of the slot and nothing else of the slots and the loads. -/
theorem State.flagFault_slot (on : Bool) :
    (s.flagFault k on).load = s.load ∧
      (s.flagFault k on).frame.slots[k].inService = s.frame.slots[k].inService ∧
      (s.flagFault k on).frame.slots[k].removal = s.frame.slots[k].removal := by
  unfold State.flagFault
  split
  · split
    · simp [State.fresh]
    · simp
  · split <;> simp

theorem State.failsInRemoval_of_none (flag : Bool) (h : s.frame.slots[k].removal = none) :
    s.failsInRemoval k flag = s := by
  unfold State.failsInRemoval
  rw [h]

/-- The flags of a module in service change the mark of its rails alone. -/
theorem State.uplinkFlags_of_inService (flags : Nat) (h : s.frame.slots[k].inService = true) :
    s.uplinkFlags k flags = s.modSlot k fun x => { x with railsOn := bit flags 3 } := by
  unfold State.uplinkFlags
  extract_lets s1 x
  have hx : x.inService = true := by simpa [x, s1] using h
  rw [if_neg (by simp [hx])]

theorem State.takeUplink_of_load (p : List Byte) (tick : Nat) (flag : Bool) (hk : slotKind k = .load) :
    s.takeUplink k s.activeCore p tick flag = (s.loadUplink p).flagFault k flag := by
  unfold State.takeUplink
  rw [hk]
  exact if_pos rfl

/-- A link that only the standby had leaves the module in service (R103). -/
theorem State.linkLost_of_standby (hu : s.frame.slots[k].linkUp[core] = true) (h : core ≠ s.activeCore) :
    (s.linkLost k core).frame.slots[k].linkUp[core] = false ∧
      (s.linkLost k core).frame.slots[k].inService = s.frame.slots[k].inService := by
  unfold State.linkLost
  rw [if_neg (by simpa using hu)]
  extract_lets s1
  rw [if_pos h]
  simp [s1]

end

/-! ### The gap record and the end of a pass -/

/-- The gap record is staged and the counts of unstaged events begin anew (R137). -/
theorem State.gapRecord_staged (s : State) (hu : s.journal.unstaged ≠ 0) (hs : s.journal.staged < 256) :
    s.gapRecord.journal.unstaged = 0 ∧ ∃ r ∈ s.gapRecord.journal.stagedPrio,
      r.body = .gapUnstaged s.journal.unstaged s.journal.unstagedFirst s.journal.unstagedLast := by
  unfold State.gapRecord
  extract_lets j
  rw [if_pos (by simp [j, hu, hs])]
  refine ⟨rfl, s.mkRecord true s.tai (.gapUnstaged j.unstaged j.unstagedFirst j.unstagedLast) none, ?_, rfl⟩
  exact List.mem_append_right _ List.mem_cons_self

/-- A pass ends 50 us later with the marks of its tick cleared (R66). -/
theorem State.endTick_clears (s : State) :
    s.endTick.now = s.now + tickNs ∧ (∀ d : Doorway, s.endTick.doors.door[d].moved = false) ∧
      (∀ m : Axis, s.endTick.axMods[m].uplink.valid = false) ∧ ∀ p : PortId, s.endTick.doors.fetched[p] = 0 := by
  simp [State.endTick, State.pass, State.countUplinks, State.clearTick]

/-- Settles O12: each command of the link by what it does to the slot's kind of module, and a pass by its end. -/
theorem linkCompletes : Obligations.LinkCompletes := by
  intro s k
  refine ⟨fun core frame hp hl hcrc hg hlen hw => ?_, fun core frame hp hl hcrc => ?_, fun hp hl => ?_,
    fun core frame hp hl hc hcrc h0 h4 h5 ha => ?_, fun frame hp hk hc hi hr hcrc h0 h4 h5 => ?_,
    fun core hl hu ha => ?_, fun hu hs => ?_, fun ha hv hw hst he => ?_⟩
  · refine .intro ?_ (s.takeDownlink_takes k (framePayload frame) hl)
    rw [exec_downlinkFrame, execDownlinkFrame, if_neg (by simp [-Fin.getElem_fin, hp, hl]), if_neg (by simp [hcrc]),
      if_neg (by simp [hg, hlen]), if_neg (by simp [hw])]
  · refine .intro ?_ (s.linkCrcError_counts k core)
    rw [exec_downlinkFrame, execDownlinkFrame, if_neg (by simp [-Fin.getElem_fin, hp, hl]), if_pos (by simp [hcrc])]
  · refine .intro (t := s.tickMissed k) ?_ ⟨s.tickMissed_commandWaits k, fun m hk => ?_, fun hk => ?_⟩
    · rw [exec_missedTick, execMissedTick, if_pos (by simp [-Fin.getElem_fin, hp, hl])]
      rfl
    · exact congrArg Prod.snd (s.tickMissed_axis hk)
    · exact (s.tickMissed_energy hk).2
  · refine .intro ((exec_uplinkFrame ..).trans (execUplinkFrame_of_good s k core frame hp hl hc hcrc h0 h4 h5)) ?_
    dsimp only
    rw [if_neg ha]
    obtain ⟨hs, hf⟩ := (s.modSlot k (SlotSt.heardBy core)).takeUplink_of_standby k core (framePayload frame)
      (u16At frame 2) (bit (byteAt frame 1) 1) ha
    rw [hs]
    exact ⟨by simp [SlotSt.heardBy], by simp [SlotSt.heardBy], hf⟩
  · have hl : onLink k = true := by rw [onLink, hk]
    refine .intro ((exec_uplinkFrame ..).trans
      (execUplinkFrame_of_good s k s.activeCore frame hp hl hc hcrc h0 h4 h5)) ?_
    extract_lets s2
    have h2 : s2 = ((s.modSlot k (SlotSt.heardBy s.activeCore)).loadUplink (framePayload frame)).flagFault k
      (bit (byteAt frame 1) 1) := State.takeUplink_of_load _ k _ _ _ hk
    obtain ⟨hload, hin, hrem⟩ := State.flagFault_slot
      ((s.modSlot k (SlotSt.heardBy s.activeCore)).loadUplink (framePayload frame)) k (bit (byteAt frame 1) 1)
    rw [← h2] at hload hin hrem
    rw [if_pos rfl,
      State.failsInRemoval_of_none _ _ _ (by rw [hrem]; simpa [State.loadUplink, SlotSt.heardBy] using hr),
      State.uplinkFlags_of_inService _ _ _ (by rw [hin]; simpa [State.loadUplink, SlotSt.heardBy] using hi),
      State.modSlot_load, hload]
    exact ⟨rfl, rfl⟩
  · refine .intro ?_ (s.linkLost_of_standby k core hu ha)
    rw [exec_linkLost, execLinkLost, if_pos hl]
  · exact .intro (exec_journalGapRecord s) (s.gapRecord_staged hu hs)
  · refine .intro (t := s.runPass.endTick) ?_ ⟨rfl, s.runPass.endTick_clears⟩
    rw [exec_tickPass, execTickPass, if_neg (by simp [ha]), if_neg (by simp [hv]), hw]
    exact congrArg _ (if_pos (by simp [hst, he]))

end Sys2Proof.Machine
end

section
/-!
What time, switches and the encoder bring to an axis (R70, R83, R85, R87 to R89): what each operation of a motion
generator makes of its own axis, and from it the commands that report the ends of plans and of re-references.
-/

namespace Sys2Proof.Machine

/-! ### What an operation makes of its own axis -/

section
variable (s : State) (a : Axis)

theorem State.modAxis_axis (f : AxisSt → AxisSt) : (s.modAxis a f).axes[a] = f s.axes[a] := updV_self _ _ _

theorem State.raise_axis (code : BitVec 10) (items : List Item) : (s.raise code items).axes[a] = s.axes[a] := by
  rw [State.raise_axes]

theorem State.until_axis (t : Nat) : (s.until t).axes[a] = s.axes[a] := by rw [State.until_axes]

theorem State.completeAll_axis (rs : List Req) (oc : BitVec 15) (st : Byte) (d : Nat) (res : List Byte) :
    (s.completeAll rs oc st d res).axes[a] = s.axes[a] := by rw [State.completeAll_axes]

theorem State.refStageIs_iff (st : RefStage) :
    s.refStageIs a st = true ↔ ∃ r, s.axes[a].ref = some r ∧ r.stage = st := by
  unfold State.refStageIs
  split
  · next r h => simp [-Fin.getElem_fin, h]
  · next h => simp [-Fin.getElem_fin, h]

theorem State.ref_isSome_of_stage {st : RefStage} (h : s.refStageIs a st = true) : s.axes[a].ref.isSome = true := by
  obtain ⟨r, hr, -⟩ := (s.refStageIs_iff a st).mp h
  rw [hr, Option.isSome_some]

theorem State.makeUncertain_axis (cause : Nat) :
    (s.makeUncertain a cause).axes[a] = { s.axes[a] with uncertain := true } := by
  unfold State.makeUncertain
  by_cases h : s.axes[a].uncertain = true
  · rw [if_pos h, ← h]
  · rw [if_neg h, State.raise_axis, State.modAxis_axis]

theorem State.endAxisCmd_axis (st : Byte) (d : Nat) (res : List Byte) :
    (s.endAxisCmd a st d res).axes[a] = { s.axes[a] with cmd := none } := by
  unfold State.endAxisCmd
  cases h : s.axes[a].cmd with
  | none => dsimp only; rw [← h]
  | some c => rw [State.completeAll_axis, State.modAxis_axis]

/-- A re-reference that fails ends with its command; with reason 5 alone the axis keeps its certainty (Table MO-12). -/
theorem State.refFail_axis (reason : Nat) {r : RefSt} (h : s.axes[a].ref = some r) :
    (s.refFail a reason).axes[a] =
      { s.axes[a] with
        ref := none, cmd := none, uncertain := if reason = 5 then s.axes[a].uncertain else true } := by
  unfold State.refFail
  rw [h]
  dsimp -zeta only
  extract_lets s1 s2 s3
  have h1 : s1.axes[a] = { s.axes[a] with ref := none } := by
    simp only [s1, State.raise_axis, State.modAxMod_axes, State.modAxis_axis]
  have h2 : s2.axes[a] =
      { s1.axes[a] with uncertain := if reason = 5 then s1.axes[a].uncertain else true } := by
    unfold s2
    split
    · rfl
    · exact State.makeUncertain_axis ..
  refine Eq.trans (b := s3.axes[a]) ?_ (by rw [State.endAxisCmd_axis, h2, h1])
  split
  · split
    · extract_lets s4
      unfold s4
      split
      · exact State.completeAll_axis ..
      · rfl
    · rfl
  · rfl

theorem State.assignX_axis_ref (new : Int) : (s.assignX a new).axes[a].ref = s.axes[a].ref := by
  unfold State.assignX
  rw [State.modAxis_axis]

/-! ### Plans that begin and stop leave the limit inputs and the reference alone -/

theorem State.beginPlan_limits (kind : PlanKind) (target : Int) (body : PlanBody) (a0 : Int) (reversal : Bool) :
    (s.beginPlan a kind target body a0 reversal).axes[a].limits = s.axes[a].limits := by
  unfold State.beginPlan
  extract_lets x moving s1
  have h1 : s1.axes[a].limits = s.axes[a].limits := by rw [State.modAxis_axis]
  split
  · rfl
  · split <;> rw [State.raise_axis, h1]

theorem State.setStage_limits (st : RefStage) : (s.setStage a st).axes[a].limits = s.axes[a].limits := by
  unfold State.setStage
  rw [State.modAxis_axis]

theorem State.rampStop_reference :
    (s.rampStop a).axes[a].limits = s.axes[a].limits ∧ (s.rampStop a).axes[a].ref = s.axes[a].ref ∧
      (s.rampStop a).axes[a].referenced = s.axes[a].referenced ∧
      (s.rampStop a).axes[a].uncertain = s.axes[a].uncertain := by
  unfold State.rampStop
  extract_lets x r stop
  split
  · exact ⟨rfl, rfl, rfl, rfl⟩
  · split <;> rw [State.modAxis_axis] <;> exact ⟨rfl, rfl, rfl, rfl⟩

theorem State.refBack_limits : (s.refBack a).axes[a].limits = s.axes[a].limits := by
  unfold State.refBack State.moveTo
  extract_lets method s1 b
  rw [State.beginPlan_limits, State.modAxMod_axes, State.setStage_limits]

theorem State.refMet_limits : (s.refMet a).axes[a].limits = s.axes[a].limits := by
  unfold State.refMet
  extract_lets s1
  obtain ⟨h1, -⟩ := s.rampStop_reference a
  split
  · rw [State.refBack_limits, h1]
  · exact h1

/-! ### A freeze and the end of a plan (R70, R79) -/

/-- A frozen axis stands without a plan, and its limit inputs stay as they were taken. -/
theorem State.freeze_rests (cause : FreezeCause) (st : Byte) (d : Nat) :
    (s.freeze a cause st d).axes[a].v = 0 ∧ (s.freeze a cause st d).axes[a].plan = none ∧
      (s.freeze a cause st d).axes[a].limits = s.axes[a].limits := by
  unfold State.freeze
  extract_lets x m loss held pos fast s1 s2 s3
  have h1 : s1.axes[a].v = 0 ∧ s1.axes[a].plan = none ∧ s1.axes[a].limits = s.axes[a].limits := by
    rw [State.raise_axis, State.modAxis_axis]
    exact ⟨rfl, rfl, rfl⟩
  have h2 : s2.axes[a].v = 0 ∧ s2.axes[a].plan = none ∧ s2.axes[a].limits = s.axes[a].limits := by
    unfold s2
    split
    · rwa [State.makeUncertain_axis]
    · split
      · rwa [State.makeUncertain_axis]
      · exact h1
  have h3 : s3.axes[a].v = 0 ∧ s3.axes[a].plan = none ∧ s3.axes[a].limits = s.axes[a].limits := by
    unfold s3
    split
    · next h =>
      obtain ⟨r, hr⟩ := Option.isSome_iff_exists.mp h
      rwa [State.refFail_axis _ _ _ hr]
    · exact h2
  rwa [State.endAxisCmd_axis]

/-- Without a re-reference, or with one that waits, nothing follows the end of a plan. -/
theorem State.refPlanEnd_of_waiting (met : Bool) (h : ∀ r, s.axes[a].ref = some r → r.stage = .waitProof) :
    s.refPlanEnd a met = s := by
  unfold State.refPlanEnd
  split
  · rfl
  · next r hr => rw [h r hr]

/-- A plan that ends leaves the axis at rest exactly at its target (R70). -/
theorem State.planEnd_axis {p : Plan} (hp : s.axes[a].plan = some p)
    (h : ∀ r, s.axes[a].ref = some r → r.stage = .waitProof) :
    (s.planEnd a).axes[a] =
      { s.axes[a] with
        x := p.target, v := 0, a := 0, plan := none, target := p.target, settleFrom := some s.now, band := 0,
        evacEnded := p.kind == .evacUncertain, cmd := if p.kind == .jog then none else s.axes[a].cmd } := by
  unfold State.planEnd
  rw [hp]
  dsimp -zeta only
  extract_lets stopped s1 s2
  have h1 : s1.axes[a] = { s.axes[a] with
      x := p.target, v := 0, a := 0, plan := none, target := p.target, settleFrom := some s.now, band := 0,
      evacEnded := p.kind == .evacUncertain } := by
    simp only [s1, State.raise_axis, State.modAxis_axis]
  have h2 : s2.axes[a] = { s1.axes[a] with cmd := if p.kind == .jog then none else s1.axes[a].cmd } := by
    unfold s2
    split
    · exact State.endAxisCmd_axis ..
    · rfl
  rw [State.refPlanEnd_of_waiting s2 a stopped (by rwa [h2, h1]), h2, h1]

theorem State.planEnd_ref (h : ∀ r, s.axes[a].ref = some r → r.stage = .waitProof) :
    (s.planEnd a).axes[a].ref = s.axes[a].ref := by
  cases hp : s.axes[a].plan with
  | none => rw [State.planEnd, hp]
  | some p => rw [s.planEnd_axis a hp h]

/-! ### Standstill (R81, R85) -/

theorem State.resync_axis :
    (s.resync a).now = s.now ∧ (s.resync a).axes[a].settleFrom = s.axes[a].settleFrom ∧
      (s.resync a).axes[a].driving = s.axes[a].driving := by
  unfold State.resync
  split
  · extract_lets diff
    split
    · rw [State.raise_now, State.raise_axis, State.modAxis_axis]
      unfold State.assignX
      rw [State.modAxis_axis]
      exact ⟨rfl, rfl, rfl⟩
    · exact ⟨rfl, rfl, rfl⟩
  · exact ⟨rfl, rfl, rfl⟩

theorem State.standstill_axis :
    (s.standstill a).axes[a].settleFrom = none ∧ (s.standstill a).axes[a].driving = false ∧
      (s.standstill a).now = s.now := by
  unfold State.standstill
  extract_lets stranded mode
  obtain ⟨hnow, hsettle, hdriving⟩ := State.resync_axis ((s.modAxis a fun x => { x with
    settleFrom := none, driving := false, amplitude := 0, lead := 0 }).raise
      Ev.MO_STANDSTILL [.u8 a.val, .u8 mode]) a
  rw [State.raise_axis, State.modAxis_axis] at hsettle hdriving
  exact ⟨hsettle, hdriving, hnow.trans (State.raise_now ..)⟩

/-! ### Limit switches (R83) -/

/-- A limit in hard mode freezes an axis that moves towards it. -/
theorem State.limitMet_of_hard (b : Bool) (hr : s.axes[a].ref = none)
    (hv : if b then 0 < s.axes[a].v else s.axes[a].v < 0) (hm : s.ap a 0x1A = 0) :
    (s.limitMet a b).axes[a].limits[(if b then (1 : Fin 2) else 0)] = true ∧ (s.limitMet a b).axes[a].v = 0 ∧
      (s.limitMet a b).axes[a].plan = none := by
  unfold State.limitMet
  extract_lets x s0 towards hard evac s1 detail
  have ht : towards = true := by
    unfold towards
    cases b <;> simpa [x] using hv
  have h1 : s1.axes[a].limits = updV s.axes[a].limits (if b then (1 : Fin 2) else 0) fun _ => true := by
    simp only [s1, s0, State.raise_axis, State.modAxis_axis]
  obtain ⟨hv0, hplan, hlim⟩ := s1.freeze_rests a 2 ST_LIMIT detail
  rw [if_neg (by simp [x, -Fin.getElem_fin, hr, ht]), if_pos hm, hlim, h1, updV_self]
  exact ⟨rfl, hv0, hplan⟩

/-! ### Re-references (R87 to R89) -/

/-- The latch point gives the axis its position, and the re-reference ramps to rest (R87, step 4). -/
theorem State.refLatched_axis (count : BitVec 32) (h : s.axes[a].ref.isSome = true) :
    (s.refLatched a count).axes[a].referenced = true ∧ (s.refLatched a count).axes[a].uncertain = false ∧
      (s.refLatched a count).refStageIs a .rest = true := by
  unfold State.refLatched
  extract_lets offset raw s1
  have hdisarm : ∀ l, (s1.each l fun s m => s.modAxMod m fun k => { k with armed := false }).axes[a] = s1.axes[a] :=
    fun l => State.each_same (fun s => s.axes[a]) _ l (by intros; rfl) s1
  obtain ⟨-, href, hreferenced, huncertain⟩ := State.rampStop_reference
    (s1.each (s.modulesOf a) fun s m => s.modAxMod m fun k => { k with armed := false }) a
  rw [State.refStageIs_iff, href, hreferenced, huncertain, hdisarm, State.modAxis_axis]
  obtain ⟨r, hr⟩ := Option.isSome_iff_exists.mp h
  refine ⟨rfl, rfl, { r with stage := .rest }, ?_, rfl⟩
  dsimp only
  rw [State.assignX_axis_ref, hr]
  rfl

/-- A search or a latch that does not come ends the plan and the re-reference, and the axis is uncertain. -/
theorem State.refGivesUp_axis (reason : Nat) (h : s.axes[a].ref.isSome = true) (hn : reason ≠ 5) :
    let t := ((s.modAxis a fun x => { x with
      ref := x.ref.map fun r => { r with stage := .waitProof } }).planEnd a).refFail a reason
    t.axes[a].ref = none ∧ t.axes[a].uncertain = true := by
  obtain ⟨r, hr⟩ := Option.isSome_iff_exists.mp h
  have h1 : (s.modAxis a fun x => { x with ref := x.ref.map fun r => { r with stage := .waitProof } }).axes[a].ref =
      some { r with stage := .waitProof } := by
    rw [State.modAxis_axis, hr, Option.map_some]
  extract_lets t
  rw [State.refFail_axis _ a reason ((State.planEnd_ref _ a (by rw [h1]; rintro _ ⟨⟩; rfl)).trans h1), if_neg hn]
  exact ⟨rfl, rfl⟩

/-- Too few counts freeze the axis and fail its re-reference with reason 3 (R88). -/
theorem State.encWrong_axis (h : s.axes[a].ref.isSome = true) :
    (s.encWrong a).axes[a].ref = none ∧ (s.encWrong a).axes[a].uncertain = true ∧ (s.encWrong a).axes[a].v = 0 ∧
      (s.encWrong a).axes[a].plan = none := by
  obtain ⟨r, hr⟩ := Option.isSome_iff_exists.mp h
  unfold State.encWrong
  rw [hr]
  dsimp -zeta only
  extract_lets seen s1 s2 c s3
  obtain ⟨hv, hplan, -⟩ := (s2.modAxis a fun x => { x with cmd := none }).freeze_rests a 8 ST_REF_FAIL 3
  rw [State.refFail_axis (r := r) _ a 3 (by rw [State.modAxis_axis]), State.modAxis_axis]
  exact ⟨rfl, rfl, hv, hplan⟩

end

/-- Settles O18: each command by what its own operation makes of the axis. -/
theorem axisEventsComplete : Obligations.AxisEventsComplete := by
  intro s a
  refine ⟨fun p hp hr => ?_, fun from_ hs => ?_, fun from_ hw => ?_, fun b hr hv hm => ?_, fun h => ?_,
    fun count h => ?_, fun h => ?_, fun h => ?_, fun he h => ?_, fun d h hd => ?_⟩
  · refine .intro (t := (s.until (s.now + p.left)).planEnd a) (by rw [exec_moveEnd, execMoveEnd, hp]) ?_
    rw [State.planEnd_axis (p := p) _ a (by rw [State.until_axis, hp]) (by rw [State.until_axis, hr]; nofun)]
    exact ⟨rfl, rfl, rfl, rfl⟩
  · refine .intro (t := (s.until (from_ + s.ap a 0x16 * msec)).standstill a)
      (by rw [exec_standstillSettle, execStandstillSettle, hs]) ?_
    obtain ⟨hsettle, hdriving, hnow⟩ := (s.until (from_ + s.ap a 0x16 * msec)).standstill_axis a
    exact ⟨hsettle, hdriving, hnow.trans (s.until_now _)⟩
  · refine .intro (t := (s.until (from_ + s.ap a 0x18 * msec)).modAxis a fun x => { x with wakeFrom := none })
      (by rw [exec_wakeRampEnd, execWakeRampEnd, hw]) ?_
    rw [State.modAxis_axis]
  · exact .intro (exec_limitReached s a b) (s.limitMet_of_hard a b hr hv hm)
  · refine .intro (by rw [exec_refSwitchMet, execRefSwitchMet, if_pos h]) ?_
    rw [State.refMet_limits, State.modAxis_axis]
    exact updV_self _ _ _
  · refine .intro (by rw [exec_refLatch, execRefLatch, if_pos h]) (State.refLatched_axis _ a count ?_)
    rw [State.modAxis_axis]
    exact s.ref_isSome_of_stage a h
  · exact .intro (by rw [exec_refSearchFail, execRefSearchFail, if_pos h])
      (s.refGivesUp_axis a 1 (s.ref_isSome_of_stage a h) (by decide))
  · exact .intro (by rw [exec_refLatchFail, execRefLatchFail, if_pos h])
      (s.refGivesUp_axis a 2 (s.ref_isSome_of_stage a h) (by decide))
  · exact .intro (by rw [exec_encDirection, execEncDirection, if_pos (by simpa [he] using h)])
      (s.encWrong_axis a (h.elim (s.ref_isSome_of_stage a) (s.ref_isSome_of_stage a)))
  · obtain ⟨r, hr, hst⟩ := (s.refStageIs_iff a .waitProof).mp h
    refine .intro (t := (s.until (r.proofFrom + s.dp d 0x1C * msec)).refFail a 5)
      (by simp [exec_refLockTimeout, execRefLockTimeout, -Fin.getElem_fin, hr, hd, hst]) ?_
    rw [State.refFail_axis (r := r) _ a 5 (by rw [State.until_axis, hr]), if_pos rfl, State.until_axis]
    exact ⟨rfl, rfl, rfl⟩

end Sys2Proof.Machine
end

section
/-!
SUPPORT. What the operations of an axis leave of its modules and of its driving lanes: a freeze, a failed re-reference
and a plan that begins or stops change the encoder latch of a module at most, and no lane.
-/

namespace Sys2Proof.Machine

/-- A module but for its encoder latch, which a re-reference arms and disarms (R87). -/
def AxModSt.unlatched (k : AxModSt) : AxModSt := { k with armed := false, latchSrc := 0 }

/-- From `s` to `t` every module keeps all but its encoder latch, and every axis its driving lanes. -/
structure SameLanes (s t : State) : Prop where
  unlatched : ∀ m : Axis, t.axMods[m].unlatched = s.axMods[m].unlatched
  lanes : ∀ a : Axis, t.axes[a].lanes = s.axes[a].lanes

namespace SameLanes

variable {s t u : State}

theorem refl : SameLanes s s := ⟨fun _ => rfl, fun _ => rfl⟩

theorem trans (h : SameLanes s t) (g : SameLanes t u) : SameLanes s u :=
  ⟨fun m => (g.unlatched m).trans (h.unlatched m), fun a => (g.lanes a).trans (h.lanes a)⟩

/-- An operation that leaves all axes and all modules alone. -/
theorem of_eq (ha : t.axes = s.axes) (hm : t.axMods = s.axMods) : SameLanes s t :=
  ⟨fun m => by rw [hm], fun a => by rw [ha]⟩

theorem modAxis (h : SameLanes s t) (a : Axis) (f : AxisSt → AxisSt)
    (hf : ∀ x, (f x).lanes = x.lanes := by intro; rfl) : SameLanes s (t.modAxis a f) := by
  refine h.trans ⟨fun _ => rfl, fun b => ?_⟩
  rw [State.modAxis_axes]
  by_cases e : a = b
  · subst e; rw [updV_self, hf]
  · rw [updV_other _ _ _ _ e]

theorem modAxMod (h : SameLanes s t) (m : Axis) (f : AxModSt → AxModSt)
    (hf : ∀ k, (f k).unlatched = k.unlatched := by intro; rfl) : SameLanes s (t.modAxMod m f) := by
  refine h.trans ⟨fun b => ?_, fun _ => rfl⟩
  rw [State.modAxMod_axMods]
  by_cases e : m = b
  · subst e; rw [updV_self, hf]
  · rw [updV_other _ _ _ _ e]

theorem modDoor (h : SameLanes s t) (d : Doorway) (f : DoorSt → DoorSt) : SameLanes s (t.modDoor d f) :=
  h.trans (.of_eq rfl rfl)

theorem raise (h : SameLanes s t) (code : BitVec 10) (items : List Item) : SameLanes s (t.raise code items) :=
  h.trans (.of_eq (t.raise_axes code items) (t.raise_axMods code items))

theorem completeAll (h : SameLanes s t) (rs : List Req) (oc : BitVec 15) (st : Byte) (d : Nat) (res : List Byte) :
    SameLanes s (t.completeAll rs oc st d res) :=
  h.trans (.of_eq (t.completeAll_axes rs oc st d res) (t.completeAll_axMods rs oc st d res))

theorem takeOut (h : SameLanes s t) (k : Slot) : SameLanes s (t.takeOut k) :=
  h.trans (.of_eq (t.takeOut_keeps k).axes_eq (t.takeOut_keeps k).axMods_eq)

theorem makeUncertain (h : SameLanes s t) (a : Axis) (cause : Nat) : SameLanes s (t.makeUncertain a cause) := by
  unfold State.makeUncertain
  split
  · exact h
  · exact (h.modAxis a _).raise _ _

theorem endAxisCmd (h : SameLanes s t) (a : Axis) (st : Byte) (d : Nat) (res : List Byte) :
    SameLanes s (t.endAxisCmd a st d res) := by
  unfold State.endAxisCmd
  split
  · exact h
  · exact (h.modAxis a _).completeAll _ _ _ _ _

theorem rampStop (h : SameLanes s t) (a : Axis) : SameLanes s (t.rampStop a) := by
  unfold State.rampStop
  extract_lets x r stop
  split
  · exact h
  · split
    · exact h.modAxis a _
    · exact h.modAxis a _

theorem moveTo (h : SameLanes s t) (a : Axis) (k : PlanKind) (table : Option Bool) (x : Int) (l : Limits) :
    SameLanes s (t.moveTo a k table x l) := by
  unfold State.moveTo State.beginPlan
  extract_lets b x moving s1
  have h1 : SameLanes s s1 := h.modAxis a _
  split
  · exact h
  · split
    · exact h1.raise _ _
    · exact h1.raise _ _

theorem replanNow (h : SameLanes s t) (a : Axis) : SameLanes s (t.replanNow a) := by
  unfold State.replanNow
  split
  · split
    · exact h
    · exact h.moveTo _ _ _ _ _
  · exact h

theorem setDerated (h : SameLanes s t) (a : Axis) (d : Bool) : SameLanes s (t.setDerated a d) := by
  unfold State.setDerated
  extract_lets s1
  have h1 : SameLanes s s1 := (h.modAxis a _).raise _ _
  split
  · exact h
  · split
    · exact h1.replanNow a
    · exact h1

theorem encSupplyGone (h : SameLanes s t) (m : Axis) : SameLanes s (t.encSupplyGone m) := by
  unfold State.encSupplyGone
  extract_lets form
  split
  · exact h.modAxis _ _
  · exact h

theorem refFail (h : SameLanes s t) (a : Axis) (reason : Nat) : SameLanes s (t.refFail a reason) := by
  unfold State.refFail
  split
  · exact h
  · extract_lets s1 s2 s3
    have h1 : SameLanes s s1 :=
      ((h.modAxis a _).modAxMod a _).raise _ _
    have h2 : SameLanes s s2 := by
      unfold s2
      split
      · exact h1
      · exact h1.makeUncertain a 5
    have h3 : SameLanes s s3 := h2.endAxisCmd _ _ _ _
    split
    · split
      · extract_lets s4
        have h4 : SameLanes s s4 := by
          unfold s4
          split
          · exact h3.completeAll _ _ _ _ _
          · exact h3
        exact h4.modDoor _ _
      · exact h3
    · exact h3

theorem freeze (h : SameLanes s t) (a : Axis) (cause : FreezeCause) (st : Byte) (d : Nat) :
    SameLanes s (t.freeze a cause st d) := by
  unfold State.freeze
  extract_lets x k loss held pos fast s1 s2 s3
  have h1 : SameLanes s s1 := (h.modAxis a _).raise _ _
  have h2 : SameLanes s s2 := by
    unfold s2
    split
    · exact h1.makeUncertain a 2
    · split
      · exact h1.makeUncertain a 1
      · exact h1
  have h3 : SameLanes s s3 := by
    unfold s3
    split
    · exact h2.refFail a 4
    · exact h2
  exact h3.endAxisCmd a st d []

theorem refChecked (h : SameLanes s t) (a : Axis) : SameLanes s (t.refChecked a) := by
  have hs (st : RefStage) : SameLanes s (t.setStage a st) := h.modAxis a _
  unfold State.refChecked State.refBack
  split
  · exact ((hs .back).modAxMod a _).moveTo _ _ _ _ _
  · exact (hs .search).moveTo _ _ _ _ _

end SameLanes

/-! ### A lost lane (R111) -/

/-- A lane drives its axis no longer. -/
def AxisSt.withoutLane (i : Fin 2) (x : AxisSt) : AxisSt :=
  { x with lanes := updV x.lanes i fun _ => false, leaving := none }

section
variable (s : State) (m : Axis)

theorem State.laneGone_of_single (h : s.twin (s.axisOfLane m) = false) :
    s.laneGone m = s.axisLost (s.axisOfLane m) := by
  unfold State.laneGone
  exact if_pos (by simp [h])

theorem State.laneGone_of_lost (ht : s.twin (s.axisOfLane m) = true)
    (hl : s.axes[s.axisOfLane m].lanes[laneIndex m] = false) : s.laneGone m = s := by
  unfold State.laneGone
  extract_lets a o s0 continues s1 s2 s3
  rw [if_neg (by simp [a, ht]), if_pos (by simp [a, -Fin.getElem_fin, hl])]

/-- Whatever else becomes of the axis, it goes on without the lost lane of its pair. -/
theorem State.laneGone_of_twin (ht : s.twin (s.axisOfLane m) = true)
    (hl : s.axes[s.axisOfLane m].lanes[laneIndex m] = true) :
    SameLanes (s.modAxis (s.axisOfLane m) (AxisSt.withoutLane (laneIndex m))) (s.laneGone m) := by
  unfold State.laneGone State.axisLost
  extract_lets a o s0 continues s1 s2 s3
  have h0 : SameLanes (s.modAxis (s.axisOfLane m) (AxisSt.withoutLane (laneIndex m))) s0 := .refl
  have h2 : SameLanes (s.modAxis (s.axisOfLane m) (AxisSt.withoutLane (laneIndex m))) s2 :=
    ((h0.raise _ _).encSupplyGone m).takeOut _
  clear_value s0 s2
  rw [if_neg (by simp [a, ht]), if_neg (by simp [a, -Fin.getElem_fin, hl])]
  split
  · exact (h0.freeze a _ _ _).makeUncertain a 2
  · split
    · exact h2.setDerated a true
    · exact (((h2.modAxis a _).raise _ _).rampStop a).endAxisCmd a _ _ _

/-- A lost lane leaves the modules alone but for their latches. -/
theorem State.laneGone_unlatched (k : Axis) : (s.laneGone m).axMods[k].unlatched = s.axMods[k].unlatched := by
  cases ht : s.twin (s.axisOfLane m) with
  | false =>
    rw [s.laneGone_of_single m ht]
    exact (SameLanes.refl.freeze _ _ _ _).unlatched k
  | true =>
    cases hl : s.axes[s.axisOfLane m].lanes[laneIndex m] with
    | false => rw [s.laneGone_of_lost m ht hl]
    | true => exact (s.laneGone_of_twin m ht hl).unlatched k

end

end Sys2Proof.Machine
end

section
/-!
Axis modules (R93 to R98, R100, R102): what a drive fault, a resistance check and a loss state make of a module, and
from it the commands that report faults and readings.
-/

namespace Sys2Proof.Machine

section
variable (s : State) (m : Axis)

/-! ### Drive faults (R93 to R96, Table AX-7) -/

/-- A module with a drive fault, as its uplink reports it. -/
def AxModSt.faulted (code : Nat) (k : AxModSt) : AxModSt :=
  { k with fault := code, uplink := { k.uplink with fault := BitVec.ofNat 8 code } }

/-- A fault other than the one that stands is taken over, whatever becomes of the axis. -/
theorem State.driveFaultOn_unlatched (code : Nat) (ev : BitVec 10) (items : List Item)
    (h : s.axMods[m].fault ≠ code) :
    (s.driveFaultOn m code ev items).axMods[m].unlatched = (s.axMods[m].faulted code).unlatched := by
  unfold State.driveFaultOn
  rw [if_neg h]
  extract_lets s1 s2 s3
  have h3 : s3.axMods[m] = s.axMods[m].faulted code := by
    simp only [s3, s2, s1, State.raise_axMods, State.modSlot_axMods, State.modAxMod_axMods, updV_self]
    rfl
  split
  · rw [State.laneGone_unlatched, h3]
  · rw [h3]

theorem State.driveFaultOn_fault (code : Nat) (ev : BitVec 10) (items : List Item) :
    (s.driveFaultOn m code ev items).axMods[m].fault = code := by
  by_cases h : s.axMods[m].fault = code
  · unfold State.driveFaultOn
    rw [if_pos h, h]
  · exact congrArg AxModSt.fault (s.driveFaultOn_unlatched m code ev items h)

theorem State.driveFaultOff_axMod : (s.driveFaultOff m).axMods[m] = s.axMods[m].faulted 0 := by
  unfold State.driveFaultOff
  rw [State.modSlot_axMods, State.modAxMod_axMods, updV_self]
  rfl

/-- A faulty encoder gives its axis no position. -/
theorem State.encFaultOn_unusable (reason : Nat) :
    (s.encFaultOn m reason).axMods[m].encFault = true ∧
      (s.encFaultOn m reason).axes[s.axisOfLane m].encUsable = false := by
  unfold State.encFaultOn
  rw [State.raise_axMods, State.raise_axis, State.modAxis_axis, State.modAxis_axMods, State.modAxMod_axMods,
    updV_self]
  exact ⟨rfl, rfl⟩

/-! ### The resistance check (R97, R98) -/

/-- Whether the check of a module runs, and whether its last one passed. -/
def AxModSt.check (k : AxModSt) : Bool × Bool := (k.checkRunning, k.checkPassed)

theorem AxModSt.unlatched_check (k : AxModSt) : k.unlatched.check = k.check := rfl

theorem SameLanes.check {s t : State} (h : SameLanes s t) (m : Axis) : t.axMods[m].check = s.axMods[m].check := by
  rw [← AxModSt.unlatched_check, h.unlatched, AxModSt.unlatched_check]

theorem State.driveFaultOn_check (code : Nat) (ev : BitVec 10) (items : List Item) :
    (s.driveFaultOn m code ev items).axMods[m].check = s.axMods[m].check := by
  by_cases h : s.axMods[m].fault = code
  · unfold State.driveFaultOn
    rw [if_pos h]
  · rw [← AxModSt.unlatched_check, s.driveFaultOn_unlatched m code ev items h]
    rfl

/-- Every verdict but a pass is a drive fault. -/
theorem State.verdictFault_check (v : Verdict) (n : Nat) (ps : Vector CheckPhase 2) :
    (s.verdictFault m v n ps).axMods[m].check = s.axMods[m].check := by
  unfold State.verdictFault
  match v with
  | .pass => rfl
  | .ground => exact s.driveFaultOn_check ..
  | .short => exact s.driveFaultOn_check ..
  | .open => exact s.driveFaultOn_check ..
  | .high => exact s.driveFaultOn_check ..

/-- A check that ends does not run, and it has passed where its verdict is pass. -/
theorem State.checkEnds_check (ps : Vector CheckPhase 2) :
    (s.checkEnds m ps).axMods[m].check = (false, (checkVerdict
      (s.axMods[m].cfg[(0 : Fin 8)].elim (s.ap (s.axisOfLane m) 0x0F) BitVec.toNat) ps).1 == .pass) := by
  unfold State.checkEnds
  extract_lets a r v s1 checking rejoins f s2 s3 s2' s3'
  have h1 : s1.axMods[m].check = (false, v.1 == .pass) := by
    simp only [s1, State.modAxMod_axMods, updV_self]
    rfl
  clear_value s1
  split
  · have h2 : s2.axMods[m].check = (false, v.1 == .pass) := by
      unfold s2
      split
      · exact h1
      · rw [State.driveFaultOff_axMod]
        exact h1
    have h3 : SameLanes s2 s3 := SameLanes.refl.raise _ _
    have hend {t : State} (h : SameLanes s3 t) : t.axMods[m].check = (false, v.1 == .pass) :=
      ((h3.trans h).check m).trans h2
    split
    · split
      · exact hend (SameLanes.refl.refChecked a)
      · exact hend .refl
    · split
      · exact hend (SameLanes.refl.modAxis a _)
      · exact hend .refl
  · have h2 : SameLanes s1 s2' := by
      unfold s2'
      split
      · exact SameLanes.refl.refFail a 6
      · exact .refl
    have h3 : SameLanes s1 s3' := by
      unfold s3'
      split
      · exact h2.modAxis a _
      · exact h2
    rw [State.verdictFault_check, h3.check, h1]

/-! ### The loss state (R102) -/

/-- The report of a loss state changes the uplink and the acknowledgement that is due, not the loss state itself. -/
theorem State.lossReported_lossState : (s.lossReported m).axMods[m].lossState = s.axMods[m].lossState := by
  unfold State.lossReported
  extract_lets a s0 single s1
  have h0 : s0.axMods[m].lossState = s.axMods[m].lossState := by
    simp only [s0, State.raise_axMods, State.modAxMod_axMods, updV_self]
  have h1 : s1.axMods[m].lossState = s.axMods[m].lossState :=
    (congrArg AxModSt.lossState (s0.laneGone_unlatched m m)).trans h0
  split
  · simp only [State.modAxMod_axMods, updV_self, (s1.makeUncertain_keeps a 2).axMods_eq]
    exact h1
  · exact h1

theorem State.lossEnter_lossState : (s.lossEnter m).axMods[m].lossState = true := by
  unfold State.lossEnter
  extract_lets a open_ s1
  have h1 : s1.axMods[m].lossState = true := by simp only [s1, State.modAxMod_axMods, updV_self]
  split
  · rw [State.lossReported_lossState, h1]
  · exact h1

/-! ### Temperatures and the configuration (R96, R100) -/

theorem tempReading_ptc_trip {ohm : Nat} (hlo : 3000 < ohm) (hhi : ohm ≤ 20000) : tempReading 1 ohm = .trip :=
  (if_neg (by omega)).trans (if_pos hlo)

/-- A PTC that trips puts its axis under the cap (Table AX-2). -/
theorem State.motorTempRead_of_trip (ohm : Nat) (hp : s.param (pAxMod m.val 7) = 1) (hlo : 3000 < ohm)
    (hhi : ohm ≤ 20000) :
    (s.motorTempRead m ohm).axMods[m].tempLevel = 2 ∧
      (s.motorTempRead m ohm).axes[s.axisOfLane m].tempCap = true := by
  have hr : tempReading (s.param (pAxMod m.val 7)) ohm = .trip := by rw [hp, tempReading_ptc_trip hlo hhi]
  unfold State.motorTempRead
  rw [hr]
  extract_lets a k r reading other sNormal sWarn s1 sFault
  have h1 : s1.axMods[m].tempLevel = 2 ∧ s1.axes[a].tempCap = true := by
    simp only [s1, State.modAxis_axis, State.modAxis_axMods, State.modAxMod_axMods, updV_self, and_self]
  clear_value s1
  dsimp only [r]
  split
  · exact h1
  · simp only [State.raise_axMods, State.raise_axes]
    exact h1

theorem State.axMismatch_holdsOut :
    (s.axMismatch m).axMods[m].fault = 8 ∧ (s.axMismatch m).frame.slots[axisSlot m].inService = false ∧
      (s.axMismatch m).frame.slots[axisSlot m].heldOut = some .config := by
  unfold State.axMismatch
  extract_lets s1
  refine ⟨?_, ?_⟩
  · rw [(State.judgeTiers_keeps _ _).axMods_eq, State.modSlot_axMods]
    exact s.driveFaultOn_fault ..
  · rw [State.judgeTiers_slots, State.modSlot_frame_slots, updV_self]
    exact ⟨rfl, rfl⟩

end

/-- Settles O19: each command by what its own operation makes of the module. -/
theorem axisModulesComplete : Obligations.AxisModulesComplete := by
  intro s m
  refine ⟨fun phaseB => ?_, ?_, fun mV h => ?_, fun h => ?_, fun reason => ?_, fun ohm hp hlo hhi => ?_,
    fun celsius h => ?_, fun phase => ?_, ?_, fun h => ?_⟩
  · exact .intro (exec_overcurrentTrip s m phaseB) (s.driveFaultOn_fault ..)
  · refine .intro (exec_peakLimit s m) ?_
    rw [State.raise_axMods, State.modAxMod_axMods, updV_self]
    exact ⟨rfl, rfl⟩
  · refine .intro (exec_busRangeFault s m mV) ?_
    by_cases hlo : mV < 36000
    · rw [if_pos hlo, if_pos hlo]
      exact State.driveFaultOn_fault ..
    · rw [if_neg hlo, if_neg hlo, if_pos (h.resolve_left hlo)]
      exact State.driveFaultOn_fault ..
  · refine .intro (by rw [exec_busRangeClear, execBusRangeClear, if_pos h]) ?_
    rw [State.driveFaultOff_axMod]
    rfl
  · exact .intro (exec_encFault s m reason) (s.encFaultOn_unusable m reason)
  · exact .intro (exec_motorTemp s m ohm) (s.motorTempRead_of_trip m ohm hp hlo hhi)
  · refine .intro (exec_heatsink s m celsius) ?_
    unfold State.heatsinkRead
    rw [if_pos h]
    exact State.driveFaultOn_fault ..
  · exact .intro (exec_resistanceCheck s m phase) (Prod.ext_iff.mp (s.checkEnds_check m phase))
  · exact .intro (exec_axConfigMismatch s m) (s.axMismatch_holdsOut m)
  · exact .intro (by rw [exec_lossState, execLossState, if_neg (by simp [-Fin.getElem_fin, h])])
      (s.lossEnter_lossState m)

end Sys2Proof.Machine
end

section
/-!
The following watch and the lanes of a pair (R106, R111 to R114): what the watch does to a leaf and to a move of its
own, and what a lane that leaves, is lost or rejoins makes of its axis.
-/

namespace Sys2Proof.Machine

section
variable (s : State) (a m : Axis)

/-! ### The watch fires (R106) -/

/-- A leaf that closes meets an obstacle of source 3. -/
theorem State.followFires_of_closing {d : Doorway} (hp : s.axes[a].plan.isSome = true) (hr : s.axes[a].ref = none)
    (hd : s.doorOfAxis a = some d) (hl : (s.leafAxesOf d).contains a = true)
    (hc : s.doors.door[d].leaf = .closing) (hb : bit (s.op d 0x12) 2 = true) :
    (s.followFires a).doors.door[d].leaf = .reopening := by
  unfold State.followFires
  extract_lets e say stop
  have hs : (say s 0).doors.door[d].leaf = .closing := by simp only [say, State.raise_doors, hc]
  rw [if_neg (by simp [-Fin.getElem_fin, Option.isSome_iff_ne_none.mp hp]), hd]
  dsimp only
  rw [if_neg (by simp [-Fin.getElem_fin, hr]), if_pos hl, if_pos (by simp [-Fin.getElem_fin, hc]), if_pos hb]
  exact State.obstacle_leaf _ d 3 (.inl hs)

/-- The move of an axis outside the doorways ends with its command. -/
theorem State.followFires_of_jog (hp : s.axes[a].plan.isSome = true) (hr : s.axes[a].ref = none)
    (hd : s.doorOfAxis a = none) : (s.followFires a).axes[a].cmd = none := by
  unfold State.followFires
  extract_lets e say stop
  rw [if_neg (by simp [-Fin.getElem_fin, Option.isSome_iff_ne_none.mp hp]), hd]
  dsimp only
  rw [if_neg (by simp [-Fin.getElem_fin, hr]), State.endAxisCmd_axis]

/-! ### A lane is lost or leaves (R111, R112) -/

/-- A single axis that is lost stands. -/
theorem State.laneGone_rests (h : s.twin (s.axisOfLane m) = false) :
    (s.laneGone m).axes[s.axisOfLane m].plan = none ∧ (s.laneGone m).axes[s.axisOfLane m].v = 0 := by
  rw [s.laneGone_of_single m h]
  obtain ⟨hv, hplan, -⟩ := s.freeze_rests (s.axisOfLane m) 5 ST_STATE (s.axisStateDetail (s.axisOfLane m))
  exact ⟨hplan, hv⟩

theorem State.laneGone_lane (ht : s.twin (s.axisOfLane m) = true)
    (hl : s.axes[s.axisOfLane m].lanes[laneIndex m] = true) :
    (s.laneGone m).axes[s.axisOfLane m].lanes[laneIndex m] = false := by
  rw [(s.laneGone_of_twin m ht hl).lanes, State.modAxis_axis]
  exact updV_self _ _ _

theorem State.encSupplyGone_leaving :
    (s.encSupplyGone m).axes[s.axisOfLane m].leaving = s.axes[s.axisOfLane m].leaving := by
  unfold State.encSupplyGone
  extract_lets form
  split
  · rw [State.modAxis_axis]
  · rfl

theorem State.laneLeaves_axis :
    (s.laneLeaves m).axes[s.axisOfLane m].lanes[laneIndex m] = false ∧
      (s.laneLeaves m).axes[s.axisOfLane m].leaving = none := by
  unfold State.laneLeaves
  extract_lets a
  have h0 : (s.modAxis a (AxisSt.withoutLane (laneIndex m))).axes[a] =
      s.axes[a].withoutLane (laneIndex m) := State.modAxis_axis ..
  refine ⟨?_, ?_⟩
  · rw [((SameLanes.refl.encSupplyGone m).raise _ _).lanes]
    exact (congrArg (·.lanes[laneIndex m]) h0).trans (updV_self _ _ _)
  · rw [State.raise_axis]
    exact (State.encSupplyGone_leaving _ m).trans (congrArg AxisSt.leaving h0)

/-! ### A lane rejoins (R113) -/

theorem State.laneRejoins_axis :
    (s.laneRejoins m).axes[s.axisOfLane m].rejoining = some (laneIndex m, none) ∧
      (s.laneRejoins m).axMods[m].checkRunning = true := by
  unfold State.laneRejoins
  rw [State.modAxMod_axes, State.modAxis_axis, State.modAxMod_axMods, updV_self]
  exact ⟨rfl, rfl⟩

/-- Back at full limits an axis keeps all but its derating. -/
theorem State.setDerated_false_axis :
    (s.setDerated a false).axes[a] = { s.axes[a] with derated := false } := by
  unfold State.setDerated
  extract_lets s1
  by_cases h : s.axes[a].derated = false
  · rw [if_pos (by simpa using h), ← h]
  · rw [if_neg (by simpa using h), if_neg (by decide), State.raise_axis, State.modAxis_axis]

theorem State.until_axisOfLane (t : Nat) : (s.until t).axisOfLane m = s.axisOfLane m := id rfl

/-- The lane drives again, and its axis has its full limits. -/
theorem State.laneJoined_axis (h : s.axisOfLane m = a) :
    (s.laneJoined m).axes[a].lanes[laneIndex m] = true ∧ (s.laneJoined m).axes[a].rejoining = none ∧
      (s.laneJoined m).axes[a].derated = false := by
  subst h
  unfold State.laneJoined
  extract_lets a s1
  rw [State.setDerated_false_axis, State.raise_axis, State.modAxis_axis]
  exact ⟨updV_self _ _ _, rfl, rfl⟩

end

/-- Settles O20: each command by what its own operation makes of the axis and of its lanes. -/
theorem lanesComplete : Obligations.LanesComplete := by
  intro s m a
  refine ⟨fun d hp hr hd hl hc hb => ?_, fun hp hr hd => ?_, fun ht => ?_, fun ht hl => ?_, fun ht hl => ?_,
    fun h => ?_, fun from_ h => ?_, fun encoders difference ht hd => ?_⟩
  · exact .intro (exec_following s a) (s.followFires_of_closing a hp hr hd hl hc hb)
  · exact .intro (exec_following s a) (s.followFires_of_jog a hp hr hd)
  · exact .intro (exec_laneLost s m) (s.laneGone_rests m ht)
  · exact .intro (exec_laneLost s m) (s.laneGone_lane m ht hl)
  · exact .intro (by rw [exec_laneLeft, execLaneLeft, if_pos (by simp [-Fin.getElem_fin, ht, hl])])
      (s.laneLeaves_axis m)
  · exact .intro (by rw [exec_laneRejoin, execLaneRejoin, if_pos h]) (s.laneRejoins_axis m)
  · refine .intro (t := (s.until (from_ + s.ap (s.axisOfLane m) 0x18 * msec)).laneJoined m) ?_ ?_
    · rw [exec_twinJoined, execTwinJoined, h]
      exact congrArg _ (if_pos rfl)
    · exact State.laneJoined_axis _ _ m (s.until_axisOfLane m _)
  · refine .intro (by rw [exec_laneDisagree, execLaneDisagree, if_pos (by simp [-Fin.getElem_fin, ht, hd])]) ?_
    unfold State.lanesDisagree
    rw [State.raise_axis, State.modAxis_axis]

end Sys2Proof.Machine
end

section
/-!
OP_DOOR_OBSTACLE (R119): the command is refused without any effect, or it is an obstacle of source 5.
-/

namespace Sys2Proof.Machine

section
variable (s : State) (d : Doorway) (r : Req)

/-- An obstacle in CLOSING or LOCKING is kept as the doorway's last source (R120). -/
theorem State.obstacle_lastSource (n : Nat)
    (h : s.doors.door[d].leaf = .closing ∨ s.doors.door[d].leaf = .locking) :
    (s.obstacle d n).obst[d].lastSource = n := by
  unfold State.obstacle
  extract_lets x both s1 s2 s3 s4 s5
  have h4 : s4.obst[d].lastSource = n := by rw [State.modObst_obst, updV_self]
  have h5 : s5.obst = s4.obst := (State.noteCycle_keeps ..).obst_eq
  rw [if_pos (by simpa [x, -Fin.getElem_fin] using h), State.raise_obst, h5, h4]

/-- A refused request leaves doorways, obstacles and axes alone. -/
theorem State.fail_stands (oc : BitVec 15) (st : Byte) (n : Nat) :
    (s.fail r oc st n).doors = s.doors ∧ (s.fail r oc st n).obst = s.obst ∧ (s.fail r oc st n).axes = s.axes ∧
      Answers (s.fail r oc st n) r oc st n :=
  ⟨s.fail_doors .., s.fail_obst .., s.fail_axes .., s.fail_answers r oc st n⟩

section
variable (he : s.enabled d = true)
include he

theorem State.doDoorObstacle_of_notOwner (ho : s.notOwner r (.doorway d.val) = true) :
    s.doDoorObstacle r d = s.fail r Opc.OP_DOOR_OBSTACLE ST_NOT_OWNER (partyCode (s.ownerOf (.doorway d.val))) := by
  unfold State.doDoorObstacle
  rw [if_neg (by simp [he]), if_pos ho, State.failOwner]

theorem State.doDoorObstacle_of_acts (ho : s.notOwner r (.doorway d.val) = false)
    (hb : bit (s.op d 0x12) 3 = true) (hl : s.doors.door[d].leaf = .closing ∨ s.doors.door[d].leaf = .locking) :
    s.doDoorObstacle r d = (s.obstacle d 5).ok r Opc.OP_DOOR_OBSTACLE [] := by
  unfold State.doDoorObstacle
  rw [if_neg (by simp [he]), if_neg (by simp [ho]), if_pos (by simpa [hb, -Fin.getElem_fin] using hl)]

theorem State.doDoorObstacle_of_noEffect (ho : s.notOwner r (.doorway d.val) = false)
    (h : bit (s.op d 0x12) 3 = false ∨ s.doors.door[d].leaf ≠ .closing ∧ s.doors.door[d].leaf ≠ .locking) :
    s.doDoorObstacle r d = s.fail r Opc.OP_DOOR_OBSTACLE ST_STATE (leafCode s.doors.door[d].leaf) := by
  unfold State.doDoorObstacle
  rw [if_neg (by simp [he]), if_neg (by simp [ho]), if_neg]
  rcases h with hb | ⟨hc, hl⟩
  · simp [hb]
  · simp [hc, hl, -Fin.getElem_fin]

end

/-- The obstacle of the command reverses the doorway and is its last source. -/
theorem State.obstacle_ok_acts (hl : s.doors.door[d].leaf = .closing ∨ s.doors.door[d].leaf = .locking) (n : Nat)
    (oc : BitVec 15) :
    ((s.obstacle d n).ok r oc []).doors.door[d].leaf = .reopening ∧
      ((s.obstacle d n).ok r oc []).obst[d].lastSource = n ∧ Answers ((s.obstacle d n).ok r oc []) r oc ST_OK 0 := by
  rw [State.ok_doors, State.ok_obst]
  exact ⟨s.obstacle_leaf d n hl, s.obstacle_lastSource d n hl, State.ok_answers _ r oc []⟩

end

/-- Settles O47: the command by its own checks, in their order. -/
theorem doorObstacleCommand : Obligations.DoorObstacleCommand := by
  intro s d r he
  have hexec {t : State} (h : s.doDoorObstacle r d = t) : exec (.opDoorObstacle r d) s = .next t := by
    rw [exec_opDoorObstacle, execOpDoorObstacle, h]
  refine ⟨fun ho => ?_, fun ho => ⟨fun hb hl => ?_, fun hc hl => ?_, fun hb => ?_⟩⟩
  · exact .intro (hexec (s.doDoorObstacle_of_notOwner d r he ho)) (s.fail_stands r _ _ _)
  · exact .intro (hexec (s.doDoorObstacle_of_acts d r he ho hb hl)) (s.obstacle_ok_acts d r hl 5 _)
  · exact .intro (hexec (s.doDoorObstacle_of_noEffect d r he ho (.inr ⟨hc, hl⟩))) (s.fail_stands r _ _ _)
  · exact .intro (hexec (s.doDoorObstacle_of_noEffect d r he ho (.inl hb))) (s.fail_stands r _ _ _)

end Sys2Proof.Machine
end

section
/-!
Outputs of a field module that are in no parallel set: what a drive, a safe state or a run of either over the module
makes of one channel, by way of what it leaves of the others.
-/

namespace Sys2Proof.Machine

/-! ### The applied configuration -/

section
variable {s t : State}

theorem State.modFieldMod_mod (s : State) (m : Fin 2) (f : FieldModSt → FieldModSt) :
    (s.modFieldMod m f).field.mods[m] = f s.field.mods[m] := updV_self _ _ _

/-- What a change of one module keeps of it, it keeps of both. -/
theorem State.modFieldMod_keeps_view {α : Type} (s : State) (m : Fin 2) (f : FieldModSt → FieldModSt)
    (g : FieldModSt → α) (h : ∀ k, g (f k) = g k) (j : Fin 2) :
    g (s.modFieldMod m f).field.mods[j] = g s.field.mods[j] := by
  rw [State.modFieldMod_field_mods]
  by_cases e : m = j
  · subst e; rw [updV_self, h]
  · rw [updV_other _ _ _ _ e]

theorem State.modChan_keeps_view {α : Type} (s : State) (c : Chan) (f : ChanSt → ChanSt) (g : ChanSt → α)
    (h : ∀ y, g (f y) = g y) (x : Chan) : g (s.modChan c f).field.chan[x] = g s.field.chan[x] := by
  rw [State.modChan_field_chan]
  by_cases e : c = x
  · subst e; rw [updV_self, h]
  · rw [updV_other _ _ _ _ e]

theorem State.fioCfg_of_mods (h : t.field.mods = s.field.mods) : t.fioCfg = s.fioCfg := by
  funext c
  rw [State.fioCfg, h, State.fioCfg]

theorem State.modFieldMod_fioCfg (s : State) (m : Fin 2) (f : FieldModSt → FieldModSt)
    (h : ∀ k, (f k).applied = k.applied) : (s.modFieldMod m f).fioCfg = s.fioCfg := by
  have hc : ∀ k, (f k).cfg = k.cfg := fun k => by
    funext i
    rw [FieldModSt.cfg, h, FieldModSt.cfg]
  funext c
  rw [State.fioCfg, s.modFieldMod_keeps_view m f FieldModSt.cfg hc, State.fioCfg]

variable (h : t.fioCfg = s.fioCfg)
include h

theorem State.chanIsIn_of_fioCfg (c : Chan) : t.chanIsIn c = s.chanIsIn c := by
  rw [State.chanIsIn, h, State.chanIsIn]

theorem State.chanIsOut_of_fioCfg (c : Chan) : t.chanIsOut c = s.chanIsOut c := by
  rw [State.chanIsOut, h, State.chanIsOut]

theorem State.leadOf_of_fioCfg (c : Chan) : t.leadOf c = s.leadOf c := by
  rw [State.leadOf, h, State.leadOf]

theorem State.members_of_fioCfg (c : Chan) : t.members c = s.members c := by
  rw [State.members, h, State.members]

theorem State.outputs_of_fioCfg (m : Fin 2) : t.outputs m = s.outputs m := by
  simp only [State.outputs, State.chanIsOut_of_fioCfg h, State.leadOf_of_fioCfg h]

end

/-! ### One channel, and all the others -/

/-- From `s` to `t` channel `x` is the same, and so are its supply and its module. -/
structure SameChan (x : Chan) (s t : State) : Prop where
  mods : t.field.mods = s.field.mods
  group : t.field.group = s.field.group
  chan : t.field.chan[x] = s.field.chan[x]

namespace SameChan

variable {x : Chan} {s t u : State}

theorem refl : SameChan x s s := ⟨rfl, rfl, rfl⟩

theorem trans (h : SameChan x s t) (g : SameChan x t u) : SameChan x s u :=
  ⟨g.mods.trans h.mods, g.group.trans h.group, g.chan.trans h.chan⟩

theorem raise (h : SameChan x s t) (code : BitVec 10) (items : List Item) : SameChan x s (t.raise code items) := by
  refine h.trans ⟨?_, ?_, ?_⟩ <;> rw [State.raise_field]

theorem modChan (h : SameChan x s t) {c : Chan} (hc : c ≠ x) (f : ChanSt → ChanSt) : SameChan x s (t.modChan c f) :=
  h.trans ⟨rfl, rfl, updV_other _ _ _ _ hc⟩

theorem endDiag (h : SameChan x s t) {c : Chan} (hc : c ≠ x) (codes : List Nat) :
    SameChan x s (t.endDiag c codes) := by
  unfold State.endDiag
  extract_lets d
  split
  · exact (h.modChan hc _).raise _ _
  · exact h

theorem driveOutput (h : SameChan x s t) {c : Chan} (hc : c ≠ x) (want : Bool) :
    SameChan x s (t.driveOutput c c want) := by
  unfold State.driveOutput
  extract_lets y may on
  split
  · exact h
  · split
    · exact (h.modChan hc _).endDiag hc _
    · exact (h.modChan hc _).endDiag hc _

/-- A run over channels none of which is `x`. -/
theorem each {f : State → Chan → State} {l : List Chan}
    (hf : ∀ u, u.field.mods = s.field.mods → ∀ c ∈ l, c ≠ x → SameChan x u (f u c)) (hx : x ∉ l) :
    SameChan x s (s.each l f) := by
  unfold State.each
  induction l generalizing s with
  | nil => exact refl
  | cons c l ih =>
    obtain ⟨hxc, hxl⟩ : x ≠ c ∧ x ∉ l := by simpa using hx
    have h1 : SameChan x s (f s c) := hf s rfl c List.mem_cons_self hxc.symm
    exact h1.trans (ih (fun u hu b hb => hf u (hu.trans h1.mods) b (List.mem_cons_of_mem c hb)) hxl)

/-- A run over distinct channels does to one of them what its own turn does. -/
theorem each_of_mem {f : State → Chan → State} {l : List Chan} (hn : l.Nodup)
    (hm : ∀ u c, (f u c).field.mods = u.field.mods)
    (hf : ∀ u, u.field.mods = s.field.mods → ∀ c ∈ l, c ≠ x → SameChan x u (f u c)) (hx : x ∈ l) :
    ∃ u, SameChan x s u ∧ (s.each l f).field.chan[x] = (f u x).field.chan[x] := by
  obtain ⟨before, after, rfl⟩ := List.append_of_mem hx
  obtain ⟨-, hafter, hdisj⟩ := List.nodup_append.mp hn
  have hbefore : x ∉ before := fun hb => hdisj x hb x List.mem_cons_self rfl
  have hu : SameChan x s (s.each before f) :=
    each (fun u hu c hc => hf u hu c (List.mem_append_left _ hc)) hbefore
  have hrest : SameChan x (f (s.each before f) x) ((f (s.each before f) x).each after f) :=
    each (fun u hu' c hc =>
      hf u ((hu'.trans (hm _ _)).trans hu.mods) c (List.mem_append_right _ (List.mem_cons_of_mem x hc)))
      (List.nodup_cons.mp hafter).1
  refine ⟨s.each before f, hu, ?_⟩
  have hsplit : s.each (before ++ x :: after) f = (f (s.each before f) x).each after f := List.foldl_append
  rw [hsplit, hrest.chan]

end SameChan

/-! ### Channels of a module -/

theorem chanMod_of_mem {m : Fin 2} {x : Chan} (h : x ∈ modChans m) : chanMod x.val = m := by
  obtain ⟨i, hi, hx⟩ := List.mem_filterMap.mp h
  have hi := List.mem_range.mp hi
  unfold asFin at hx
  split at hx
  · next hlt =>
    cases hx
    have hm := m.isLt
    unfold chanMod
    split
    · next hlow => exact Fin.ext (by dsimp only at hlow ⊢; omega)
    · next hhigh => exact Fin.ext (by dsimp only at hhigh ⊢; omega)
  · cases hx

theorem modChans_nodup (m : Fin 2) : (modChans m).Nodup := by
  refine List.Nodup.filterMap (fun i j c hi hj => ?_) List.nodup_range
  unfold asFin at hi hj
  split at hi
  · split at hj
    · have hij := congrArg Fin.val (Option.some.inj (hi.trans hj.symm))
      dsimp only at hij
      omega
    · cases hj
  · cases hi

theorem State.fieldUp_of_mem (s : State) {m : Fin 2} {x : Chan} (h : x ∈ modChans m) :
    s.fieldUp x = s.field.mods[m].fieldUp := by
  simp only [State.fieldUp, chanMod_of_mem h]

theorem State.outputs_nodup (s : State) (m : Fin 2) : (s.outputs m).Nodup := (modChans_nodup m).filter _

/-! ### Driving a single output (R154, R157) -/

/-- No channel of the module is in a parallel set (R155). -/
def State.AllSingle (s : State) (m : Fin 2) : Prop := ∀ x ∈ modChans m, s.leadOf x = x ∧ s.members x = [x]

theorem State.AllSingle.of_fioCfg {s t : State} {m : Fin 2} (hs : s.AllSingle m) (h : t.fioCfg = s.fioCfg) :
    t.AllSingle m := fun x hx => by
  rw [State.leadOf_of_fioCfg h, State.members_of_fioCfg h]
  exact hs x hx

theorem State.AllSingle.mem_outputs {s : State} {m : Fin 2} (hs : s.AllSingle m) {x : Chan} (hx : x ∈ modChans m)
    (ho : s.chanIsOut x = true) : x ∈ s.outputs m := by
  obtain ⟨hl, -⟩ := hs x hx
  exact List.mem_filter.mpr ⟨hx, by simp [ho, hl]⟩

theorem State.AllSingle.members_of_output {s u : State} {m : Fin 2} (hs : s.AllSingle m)
    (hu : u.field.mods = s.field.mods) {c : Chan} (hc : c ∈ s.outputs m) : u.members c = [c] := by
  rw [State.members_of_fioCfg (State.fioCfg_of_mods hu)]
  exact (hs c (List.mem_filter.mp hc).1).2

section
variable (s : State) (c : Chan)

theorem State.endDiag_on (codes : List Nat) (x : Chan) :
    (s.endDiag c codes).field.chan[x].on = s.field.chan[x].on := by
  unfold State.endDiag
  extract_lets d
  split
  · exact (congrArg (fun f : FieldSt => f.chan[x].on) (State.raise_field ..)).trans
      (s.modChan_keeps_view c (fun y => { y with diag := 0 }) ChanSt.on (fun _ => rfl) x)
  · rfl

/-- An output is on where it is wanted and nothing keeps it off. -/
theorem State.driveOutput_on (lead : Chan) (want : Bool) :
    (s.driveOutput lead c want).field.chan[c].on =
      (want && (s.chanIsOut c && s.field.group[chanGroup c].state.drives && s.setLatched lead == 0 &&
        s.fieldUp c)) := by
  unfold State.driveOutput
  extract_lets x may on
  show _ = on
  by_cases he : on = x.on
  · rw [if_pos (by simp [he]), he]
  · rw [if_neg (by simpa using he)]
    by_cases ho : on = true
    · rw [if_pos ho, State.endDiag_on, State.modChan_field_chan, updV_self, ho]
    · rw [if_neg ho, State.endDiag_on, State.modChan_field_chan, updV_self, Bool.eq_false_of_not_eq_true ho]

variable {s c}

theorem State.setLatched_of_single (h : s.members c = [c]) : s.setLatched c = s.field.chan[c].latched := by
  unfold State.setLatched
  rw [h]
  rfl

theorem State.driveSet_of_single (h : s.members c = [c]) (want : Bool) :
    s.driveSet c want = s.driveOutput c c want := by
  unfold State.driveSet
  rw [h]
  rfl

theorem SameChan.driveSet {x : Chan} (hc : c ≠ x) (h : s.members c = [c]) (want : Bool) :
    SameChan x s (s.driveSet c want) := by
  rw [State.driveSet_of_single h]
  exact SameChan.refl.driveOutput hc want

theorem SameChan.safeState {x : Chan} (hc : c ≠ x) (h : s.members c = [c]) : SameChan x s (s.safeState c) := by
  unfold State.safeState
  split
  · exact .driveSet hc h _
  · exact .driveSet hc h _
  · exact .refl

end

/-! ### Every output follows its command, or takes its safe state (R156, R157) -/

section
variable {s : State} {m : Fin 2} {x : Chan}

/-- An output that nothing keeps off follows its command bit. -/
theorem State.followCommands_on (hs : s.AllSingle m) (hx : x ∈ modChans m) (hup : s.field.mods[m].fieldUp = true)
    (ho : s.chanIsOut x = true) (hg : s.field.group[chanGroup x].state.drives = true)
    (hl : s.field.chan[x].latched = 0) :
    (s.followCommands m).field.chan[x].on = s.field.mods[m].outCmd.getLsbD (x.val % 32) := by
  unfold State.followCommands
  obtain ⟨u, hu, hon⟩ := SameChan.each_of_mem (s := s) (x := x) (s.outputs_nodup m)
    (f := fun s c => s.driveSet c (s.field.mods[m].outCmd.getLsbD (c.val % 32)))
    (fun u c => u.driveSet_mods c _) (fun u hu c hc hcx => .driveSet hcx (hs.members_of_output hu hc) _)
    (hs.mem_outputs hx ho)
  have hux : u.members x = [x] := hs.members_of_output hu.mods (hs.mem_outputs hx ho)
  rw [hon]
  rw [State.driveSet_of_single hux, State.driveOutput_on, State.setLatched_of_single hux, hu.chan, hl, hu.group, hg,
    State.chanIsOut_of_fioCfg (State.fioCfg_of_mods hu.mods), ho, State.fieldUp_of_mem _ hx, hu.mods, hup]
  simp

theorem State.safeStates_chan (hs : s.AllSingle m) (hx : x ∈ modChans m) (ho : s.chanIsOut x = true) :
    ∃ u, SameChan x s u ∧
      (s.each (s.outputs m) fun s c => s.safeState c).field.chan[x] = (u.safeState x).field.chan[x] :=
  SameChan.each_of_mem (s.outputs_nodup m) (fun u c => u.safeState_mods c)
    (fun _ hu _ hc hcx => .safeState hcx (hs.members_of_output hu hc)) (hs.mem_outputs hx ho)

/-- The safe states switch an output off, or hold it as it is. -/
theorem State.safeStates_on (hs : s.AllSingle m) (hx : x ∈ modChans m) (ho : s.chanIsOut x = true) :
    (bits (s.fioCfg x (pFieldChan x.val 1)) 0 2 = 0 →
        (s.each (s.outputs m) fun s c => s.safeState c).field.chan[x].on = false) ∧
      (2 ≤ bits (s.fioCfg x (pFieldChan x.val 1)) 0 2 →
        (s.each (s.outputs m) fun s c => s.safeState c).field.chan[x].on = s.field.chan[x].on) := by
  obtain ⟨u, hu, hon⟩ := State.safeStates_chan hs hx ho
  have hux : u.members x = [x] := hs.members_of_output hu.mods (hs.mem_outputs hx ho)
  rw [hon, ← State.fioCfg_of_mods hu.mods]
  unfold State.safeState
  refine ⟨fun h0 => ?_, fun h2 => ?_⟩
  · simp only [h0]
    rw [State.driveSet_of_single hux, State.driveOutput_on, Bool.false_and]
  · split
    · omega
    · omega
    · rw [hu.chan]

end

end Sys2Proof.Machine
end

section
/-!
The barrier, the commands, the safe states and the configuration of a field module (R131, R156 to R160).
-/

namespace Sys2Proof.Machine

section
variable (s : State) (m : Fin 2)

/-! ### Frames, good and bad -/

theorem exec_barrierFrame_good : exec (.barrierFrame m true) s =
    .next ((s.modFieldMod m fun x => { x with badRun := 0, staleEdges := false }).latchImage m) := rfl

theorem exec_barrierFrame_bad : exec (.barrierFrame m false) s = .next (s.badBarrier m) := rfl

theorem exec_barrierCmdFrame_good : exec (.barrierCmdFrame m true) s = .next (s.commandFrame m) := rfl

theorem exec_barrierCmdFrame_bad : exec (.barrierCmdFrame m false) s =
    .next (s.modFieldMod m fun x => { x with fieldMiss := x.fieldMiss + 1 }) := rfl

/-! ### The barrier (R131, R156) -/

/-- The image a module has latched does not enter the next one: it would latch the same. -/
theorem State.fieldImage_latchImage : (s.latchImage m).fieldImage m = s.fieldImage m := by
  have hcfg : (s.latchImage m).fioCfg = s.fioCfg := s.modFieldMod_fioCfg m _ fun _ => rfl
  have hview {α : Type} (g : FieldModSt → α) (h : ∀ k i, g { k with image := i } = g k) (j : Fin 2) :
      g (s.latchImage m).field.mods[j] = g s.field.mods[j] := s.modFieldMod_keeps_view m _ g (fun k => h k _) j
  have hcode (c : Chan) : (s.latchImage m).chanCode c = s.chanCode c := by
    simp only [State.chanCode, State.outCode, State.setLatched, State.chanIsIn_of_fioCfg hcfg,
      State.chanIsOut_of_fioCfg hcfg, State.leadOf_of_fioCfg hcfg, State.members_of_fioCfg hcfg, hcfg,
      hview FieldModSt.staleEdges fun _ _ => rfl, hview FieldModSt.safe fun _ _ => rfl]
    rfl
  have himage : (s.latchImage m).field.mods[m].image = s.fieldImage m :=
    congrArg FieldModSt.image (s.modFieldMod_mod m _)
  unfold State.fieldImage at himage ⊢
  simp only [hcode, State.chanIsIn_of_fioCfg hcfg, State.chanIsOut_of_fioCfg hcfg, State.restrictive, hcfg,
    hview FieldModSt.fieldUp fun _ _ => rfl, hview FieldModSt.appliedAny fun _ _ => rfl,
    hview FieldModSt.safe fun _ _ => rfl, hview FieldModSt.fieldHold fun _ _ => rfl, himage]
  rfl

theorem State.latchImage_mod :
    (s.latchImage m).field.mods[m] = { s.field.mods[m] with image := (s.latchImage m).fieldImage m } := by
  rw [State.fieldImage_latchImage, State.latchImage, State.modFieldMod_mod]

/-- What a module keeps of the frames of its barrier: bad ones in a row, all bad ones, stale EDGE inputs. -/
def FieldModSt.barrier (k : FieldModSt) : Nat × BitVec 16 × Bool := (k.badRun, k.crcErrors, k.staleEdges)

theorem State.barrierCrcTick_barrier : (s.barrierCrcTick m).field.mods[m].barrier = s.field.mods[m].barrier := by
  unfold State.barrierCrcTick
  extract_lets x n
  split
  · rw [State.modFieldMod_mod]
    rfl
  · split
    · simp only [State.raise_field, State.modFieldMod_mod]
      rfl
    · rfl

theorem State.each_raise_field {α : Type} (l : List α) (code : BitVec 10) (items : α → List Item) :
    (s.each l fun s a => s.raise code (items a)).field = s.field :=
  State.each_same State.field _ l (fun s a _ => s.raise_field code (items a)) s

/-- A bad frame is counted, and with the second in a row the EDGE inputs are stale (R131). -/
theorem State.badBarrier_barrier :
    (s.badBarrier m).field.mods[m].barrier =
      (s.field.mods[m].badRun + 1, BitVec.ofNat 16 (satAdd 16 s.field.mods[m].crcErrors.toNat 1),
        decide (1 ≤ s.field.mods[m].badRun) || s.field.mods[m].staleEdges) := by
  unfold State.badBarrier
  extract_lets s1 edges s3 img s4 s2
  have h1 : s1.field.mods[m].barrier = (s.field.mods[m].badRun + 1,
      BitVec.ofNat 16 (satAdd 16 s.field.mods[m].crcErrors.toNat 1), s.field.mods[m].staleEdges) :=
    congrArg FieldModSt.barrier (s.modFieldMod_mod m _)
  have hrun : s1.field.mods[m].badRun = s.field.mods[m].badRun + 1 := congrArg Prod.fst h1
  have hstale : s1.field.mods[m].staleEdges = s.field.mods[m].staleEdges := congrArg (·.2.2) h1
  have h4 : s4.field.mods[m].barrier = (s1.field.mods[m].badRun, s1.field.mods[m].crcErrors, true) := by
    simp only [s4, s3, State.modFieldMod_mod]
    rfl
  clear_value s1 s4
  have h2 : s2.field.mods[m].barrier = (s1.field.mods[m].badRun, s1.field.mods[m].crcErrors,
      decide (2 ≤ s1.field.mods[m].badRun) || s1.field.mods[m].staleEdges) := by
    unfold s2
    split
    · next h =>
      obtain ⟨hbad, -⟩ := Bool.and_eq_true_iff.mp h
      simp only [State.each_raise_field, h4, hbad, Bool.true_or]
    · next h =>
      have hkept : ∀ a b : Bool, ¬(a && !b) = true → (a || b) = b := by decide
      rw [hkept _ _ h]
      rfl
  have hcrc : s1.field.mods[m].crcErrors = BitVec.ofNat 16 (satAdd 16 s.field.mods[m].crcErrors.toNat 1) :=
    congrArg (·.2.1) h1
  rw [State.barrierCrcTick_barrier, h2, hrun, hcrc, hstale]
  simp

/-! ### Commands (R156, R158, R159) -/

/-- What the field side keeps of its command frames: those it missed, and its hold. -/
def FieldModSt.heard (k : FieldModSt) : Nat × Bool := (k.fieldMiss, k.fieldHold)

theorem State.takeHold_of_same (h : s.field.mods[m].hold = s.field.mods[m].fieldHold) : s.takeHold m = s := by
  unfold State.takeHold
  rw [if_pos (by simp [-Fin.getElem_fin, h])]

/-- The field side takes the hold flag of the frame. -/
theorem State.takeHold_heard :
    (s.takeHold m).field.mods[m].heard = (s.field.mods[m].fieldMiss, s.field.mods[m].hold) := by
  by_cases h : s.field.mods[m].hold = s.field.mods[m].fieldHold
  · rw [s.takeHold_of_same m h, h]
    rfl
  · have hchans (t : State) (f : ChanSt → ChanSt) :
        (t.each (modChans m) fun s c => s.modChan c f).field.mods = t.field.mods :=
      State.each_same (fun s => s.field.mods) _ _ (fun s c _ => s.modChan_field_mods c f) t
    unfold State.takeHold
    extract_lets x n
    rw [if_neg (by simpa [x, -Fin.getElem_fin] using h)]
    split
    · next hold =>
      simp only [State.raise_field, hchans, State.modFieldMod_mod]
      exact congrArg (Prod.mk _) hold.symm
    · next hold =>
      simp only [State.raise_field, hchans, State.modFieldMod_mod]
      exact congrArg (Prod.mk _) (Bool.eq_false_of_not_eq_true hold).symm

@[simp] theorem State.clearLatched_mods (c : Chan) : (s.clearLatched c).field.mods = s.field.mods := by
  unfold State.clearLatched
  split
  · rfl
  · refine State.each_same (fun s => s.field.mods) _ _ (fun s c _ => ?_) _
    extract_lets k
    split
    · rfl
    · simp only [State.raise_field, State.modChan_field_mods]

@[simp] theorem State.followCommands_mods : (s.followCommands m).field.mods = s.field.mods :=
  State.each_same (fun s => s.field.mods) _ _ (fun s c _ => s.driveSet_mods c _) s

theorem State.safeStates_mods (l : List Chan) : (s.each l fun s c => s.safeState c).field.mods = s.field.mods :=
  State.each_same (fun s => s.field.mods) _ _ (fun s c _ => s.safeState_mods c) s

/-- The module that begins to apply its safe states. -/
def State.inSafe (s : State) (m : Fin 2) : State := s.modFieldMod m fun x => { x with safe := true }

theorem State.inSafe_fioCfg : (s.inSafe m).fioCfg = s.fioCfg := s.modFieldMod_fioCfg m _ fun _ => rfl

/-- Where they are neither applied nor held off, each output takes its safe state. -/
theorem State.applySafe_field (cause : Nat) (hs : s.field.mods[m].safe = false)
    (hh : s.field.mods[m].fieldHold = false) :
    (s.applySafe m cause).field =
      ((s.inSafe m).each ((s.inSafe m).outputs m) fun s c => s.safeState c).field := by
  unfold State.applySafe
  rw [if_neg (by simp [-Fin.getElem_fin, hs, hh]), State.outputs_of_fioCfg (s.inSafe_fioCfg m)]
  exact State.raise_field ..

theorem State.applySafe_mod (cause : Nat) (hs : s.field.mods[m].safe = false)
    (hh : s.field.mods[m].fieldHold = false) :
    (s.applySafe m cause).field.mods[m] = { s.field.mods[m] with safe := true } := by
  simp only [s.applySafe_field m cause hs hh, State.safeStates_mods, State.inSafe, State.modFieldMod_mod]

theorem State.applySafe_heard (cause : Nat) :
    (s.applySafe m cause).field.mods[m].heard = s.field.mods[m].heard := by
  unfold State.applySafe
  split
  · rfl
  · simp only [State.raise_field, State.safeStates_mods, State.modFieldMod_mod]
    rfl

variable {s m} in
/-- An output takes its safe state: off, or as it was. -/
theorem State.applySafe_on (cause : Nat) (hs : s.field.mods[m].safe = false)
    (hh : s.field.mods[m].fieldHold = false) (hsingle : s.AllSingle m) {x : Chan} (hx : x ∈ modChans m)
    (ho : s.chanIsOut x = true) :
    (bits (s.fioCfg x (pFieldChan x.val 1)) 0 2 = 0 → (s.applySafe m cause).field.chan[x].on = false) ∧
      (2 ≤ bits (s.fioCfg x (pFieldChan x.val 1)) 0 2 →
        (s.applySafe m cause).field.chan[x].on = s.field.chan[x].on) := by
  have hcfg := s.inSafe_fioCfg m
  simp only [s.applySafe_field m cause hs hh]
  rw [← hcfg]
  exact State.safeStates_on (hsingle.of_fioCfg hcfg) hx (by rw [State.chanIsOut_of_fioCfg hcfg, ho])

/-- A good frame ends the frames missed, and its hold flag is taken, whatever becomes of the outputs. -/
theorem State.commandFrame_heard : (s.commandFrame m).field.mods[m].heard = (0, s.field.mods[m].hold) := by
  unfold State.commandFrame
  extract_lets s1 s2 s3
  have h1 : s1.field.mods[m].heard = (0, s.field.mods[m].hold) := by
    simp only [s1, State.takeHold_heard, State.modFieldMod_mod]
  have h2 : s2.field.mods[m].heard = (0, s.field.mods[m].hold) := by
    rw [← h1, ← State.each_same (fun s => s.field.mods) _ _ (fun s c _ => s.clearLatched_mods c) s1]
  have h3 : s3.field.mods[m].heard = (0, s.field.mods[m].hold) := by
    unfold s3
    split
    · simp only [State.raise_field, State.modFieldMod_mod]
      exact h2
    · exact h2
  clear_value s1 s2 s3
  split
  · exact h1
  · split
    · exact h2
    · split
      · rw [State.applySafe_heard, h2]
      · split
        · exact h3
        · simp only [State.followCommands_mods, h3]

/-- In `u` the outputs of module `m` are about to follow the command it holds in `s`. -/
structure OutputsDue (m : Fin 2) (s u : State) : Prop where
  cfg : u.fioCfg = s.fioCfg
  group : u.field.group = s.field.group
  chan : u.field.chan = s.field.chan
  mod : u.field.mods[m] = { s.field.mods[m] with fieldMiss := 0, safe := false }

/-- Safe states that are acknowledged, or not applied, are left (R158). -/
theorem OutputsDue.leaveSafe {s u : State} {m : Fin 2} (hc : u.fioCfg = s.fioCfg)
    (hg : u.field.group = s.field.group) (hch : u.field.chan = s.field.chan)
    (hm : u.field.mods[m] = { s.field.mods[m] with fieldMiss := 0 })
    (hsafe : s.field.mods[m].safe = false ∨ s.field.mods[m].ackSafe = true) :
    OutputsDue m s (if u.field.mods[m].safe && u.field.mods[m].ackSafe then
      (u.modFieldMod m fun x => { x with safe := false }).raise Ev.FI_SAFE_LEFT [.u8 (fieldSlotNo m)] else u) := by
  by_cases h : s.field.mods[m].safe = true
  · have hack : s.field.mods[m].ackSafe = true := hsafe.resolve_left (by simp [h, -Fin.getElem_fin])
    rw [if_pos (by simp [hm, h, hack, -Fin.getElem_fin])]
    have hfield := (u.modFieldMod m fun x => { x with safe := false }).raise_field Ev.FI_SAFE_LEFT
      [.u8 (fieldSlotNo m)]
    refine ⟨?_, ?_, ?_, ?_⟩
    · rw [State.fioCfg_of_mods (congrArg FieldSt.mods hfield), ← hc]
      exact u.modFieldMod_fioCfg m _ fun _ => rfl
    · rw [hfield, State.modFieldMod_field_group, hg]
    · rw [hfield, State.modFieldMod_field_chan, hch]
    · simp only [hfield, State.modFieldMod_mod, hm]
  · have h := Bool.eq_false_of_not_eq_true h
    rw [if_neg (by simp [hm, h, -Fin.getElem_fin])]
    exact ⟨hc, hg, hch, hm.trans (by rw [← h])⟩

/-- Without hold and with nothing to re-arm, the outputs follow a valid command (R156). -/
theorem State.commandFrame_of_ready (hup : s.field.mods[m].fieldUp = true) (hold : s.field.mods[m].hold = false)
    (hheld : s.field.mods[m].fieldHold = false) (hrearm : s.field.mods[m].rearmCmd = 0)
    (hvalid : s.field.mods[m].cmdValid = true)
    (hsafe : s.field.mods[m].safe = false ∨ s.field.mods[m].ackSafe = true) :
    ∃ u : State, OutputsDue m s u ∧ s.commandFrame m = u.followCommands m := by
  unfold State.commandFrame
  extract_lets s1 s2 s3
  have h1 : s1 = s.modFieldMod m fun x => { x with fieldMiss := 0 } :=
    State.takeHold_of_same _ m (by simp only [State.modFieldMod_mod, hold, hheld])
  have hm : s1.field.mods[m] = { s.field.mods[m] with fieldMiss := 0 } := by simp only [h1, State.modFieldMod_mod]
  have h2 : s2 = s1 := by
    have hnone : ((s1.outputs m).filter fun c => s1.field.mods[m].rearmCmd.getLsbD (c.val % 32)) = [] := by
      rw [hm]
      simp [-Fin.getElem_fin, hrearm]
    simp only [s2, hnone]
    rfl
  have h3 : OutputsDue m s s3 := by
    unfold s3
    rw [h2]
    exact .leaveSafe (h1 ▸ s.modFieldMod_fioCfg m _ fun _ => rfl) (h1 ▸ rfl) (h1 ▸ rfl) hm hsafe
  refine ⟨s3, h3, ?_⟩
  rw [h2, if_neg (by simp [-Fin.getElem_fin, hm, hup]), if_neg (by simp [-Fin.getElem_fin, hm, hheld]),
    if_neg (by simp [-Fin.getElem_fin, hm, hvalid]), if_neg (by simp [-Fin.getElem_fin, h3.mod])]

variable {s m} in
/-- An output that nothing keeps off follows its command bit. -/
theorem OutputsDue.followCommands_on {u : State} (h : OutputsDue m s u) (hup : s.field.mods[m].fieldUp = true)
    (hs : s.AllSingle m) {x : Chan} (hx : x ∈ modChans m) (ho : s.chanIsOut x = true)
    (hg : s.field.group[chanGroup x].state.drives = true) (hl : s.field.chan[x].latched = 0) :
    (u.followCommands m).field.chan[x].on = s.field.mods[m].outCmd.getLsbD (x.val % 32) := by
  rw [State.followCommands_on (hs.of_fioCfg h.cfg) hx (by rw [h.mod, hup])
    (by rw [State.chanIsOut_of_fioCfg h.cfg, ho]) (by rw [h.group, hg]) (by rw [h.chan, hl]), h.mod]

/-- Over the module link the commands are lost before the safe states apply (R157). -/
theorem State.fiSafeState_of_up (barrier : Bool) (hup : s.field.mods[m].fieldUp = true) :
    ∃ (u : State) (cause : Nat), exec (.fiSafeState m barrier) s = .next (u.applySafe m cause) ∧
      u.fioCfg = s.fioCfg ∧ u.field.chan = s.field.chan ∧
      u.field.mods[m] = { s.field.mods[m] with cmdValid := barrier && s.field.mods[m].cmdValid } := by
  cases barrier with
  | true => exact ⟨s, 2, congrArg _ (if_pos hup), rfl, rfl, rfl⟩
  | false =>
    have hu := s.modFieldMod_mod m fun x => { x with cmdValid := false }
    have hup' := (congrArg FieldModSt.fieldUp hu).trans hup
    exact ⟨_, 1, congrArg _ (if_pos hup'), s.modFieldMod_fioCfg m _ fun _ => rfl, rfl, hu⟩

/-! ### Configuration (R160) -/

@[simp] theorem State.loseValue_mods (c : Chan) : (s.loseValue c).field.mods = s.field.mods := by
  unfold State.loseValue
  split <;> rw [State.modChan_field_mods]

theorem State.applyField_mod :
    (s.applyField m).field.mods[m] = { s.field.mods[m] with
      applied := s.field.mods[m].staged.map fun v => v.getD 0, appliedAny := true, fieldUp := true,
      image := { s.field.mods[m].image with cfgCrc := s.field.mods[m].cfgCrc } } := by
  unfold State.applyField
  extract_lets x old first s1 s2
  have h2 : s2.field.mods = s1.field.mods :=
    State.each_same (fun s => s.field.mods) _ _ (fun s g _ => s.modGroup_field_mods g _) s1
  have h : ∀ f : State → Chan → State, (∀ u c, (f u c).field.mods = u.field.mods) →
      (s2.each (modChans m) f).field.mods[m] = s1.field.mods[m] := fun f hf => by
    rw [State.each_same (fun s => s.field.mods) f _ (fun u c _ => hf u c) s2, h2]
  refine (h _ fun u c => ?_).trans (s.modFieldMod_mod m _)
  extract_lets new was changed u1
  have h1 : u1.field.mods = u.field.mods := by
    unfold u1
    split
    · split
      · rfl
      · rfl
    · rfl
  split
  · rw [State.loseValue_mods, h1]
  · exact h1

theorem State.fieldMismatch_slot :
    (s.fieldMismatch m).frame.slots[fieldSlot m].inService = false ∧
      (s.fieldMismatch m).frame.slots[fieldSlot m].heldOut = some .config := by
  simp [State.fieldMismatch]

end

/-- Settles O23: each command of a field module by what its own operation makes of the module. -/
theorem fieldModulesComplete : Obligations.FieldModulesComplete := by
  intro s m
  refine ⟨?_, ?_, ?_, ?_, fun hup hold hheld hrearm hvalid hsafe hs => ?_, fun barrier hup hsafe hheld hs => ?_,
    fun h => ?_, ?_⟩
  · refine .intro (exec_barrierFrame_good s m) ?_
    simp only [State.latchImage_mod, State.modFieldMod_mod, and_self]
  · have hb := s.badBarrier_barrier m
    refine .intro (exec_barrierFrame_bad s m) ⟨congrArg Prod.fst hb, congrArg (·.2.1) hb, fun h1 => ?_⟩
    exact (congrArg (·.2.2) hb).trans (by rw [decide_eq_true h1, Bool.true_or])
  · have hc := s.commandFrame_heard m
    exact .intro (exec_barrierCmdFrame_good s m) ⟨congrArg Prod.fst hc, congrArg Prod.snd hc⟩
  · refine .intro (exec_barrierCmdFrame_bad s m) ?_
    rw [State.modFieldMod_mod]
  · obtain ⟨u, hu, hframe⟩ := s.commandFrame_of_ready m hup hold hheld hrearm hvalid hsafe
    refine .intro (exec_barrierCmdFrame_good s m) ?_
    rw [hframe]
    refine ⟨?_, fun x hx ho hg hl => hu.followCommands_on hup hs hx ho hg hl⟩
    rw [State.followCommands_mods, hu.mod]
  · obtain ⟨u, cause, hexec, hc, hchan, hm⟩ := s.fiSafeState_of_up m barrier hup
    have hus : u.field.mods[m].safe = false := by rw [hm, hsafe]
    have huh : u.field.mods[m].fieldHold = false := by rw [hm, hheld]
    have ht := u.applySafe_mod m cause hus huh
    refine .intro hexec ⟨by rw [ht], fun hb => by rw [ht, hm, hb, Bool.false_and], fun x hx ho => ?_⟩
    rw [← hc, ← hchan]
    exact State.applySafe_on cause hus huh (State.AllSingle.of_fioCfg hs hc) hx
      (by rw [State.chanIsOut_of_fioCfg hc, ho])
  · refine .intro (by rw [exec_fiConfigApply, execFiConfigApply, if_pos h]) ?_
    simp only [State.applyField_mod, and_self]
  · exact .intro (exec_fiConfigMismatch s m) (s.fieldMismatch_slot m)

end Sys2Proof.Machine
end

section
/-!
What the operations of field inputs and outputs make of a channel's report, switch and faults, and of a group.
-/

namespace Sys2Proof.Machine

/-! ### Events -/

/-- An event raised after steps that leave the parameters and the journal is raised by the command. -/
theorem Raised.of_raise {s u : State} {code : BitVec 10} {items : List Item} (hp : u.params = s.params)
    (hj : u.journal = s.journal) (hlen : items.length ≤ 20) : Raised s (u.raise code items) code items := by
  intro h
  have hu : u.takesEvent code = true := by
    rw [← h]
    unfold State.takesEvent State.param
    rw [hp, hj]
  simpa only [List.take_of_length_le hlen] using u.raise_staged code items hu

/-! ### A run over a list -/

/-- What the turn of one element brings about, and every other turn keeps, holds after a run. -/
theorem State.each_brings {α : Type} {P : State → Prop} {f : State → α → State} {l : List α} {a : α} (ha : a ∈ l)
    (hset : ∀ s, P (f s a)) (hkeep : ∀ s, P s → ∀ b ∈ l, P (f s b)) (s : State) : P (s.each l f) := by
  obtain ⟨before, after, rfl⟩ := List.append_of_mem ha
  unfold State.each
  rw [List.foldl_append, List.foldl_cons]
  exact List.foldlRecOn after f (hset _) fun s hs b hb =>
    hkeep s hs b (List.mem_append_right _ (List.mem_cons_of_mem a hb))

/-! ### One channel -/

section
variable (s : State) (c : Chan)

theorem State.modChan_chan (f : ChanSt → ChanSt) : (s.modChan c f).field.chan[c] = f s.field.chan[c] :=
  updV_self _ _ _

theorem State.raise_chan (code : BitVec 10) (items : List Item) :
    (s.raise code items).field.chan[c] = s.field.chan[c] :=
  congrArg (fun f : FieldSt => f.chan[c]) (State.raise_field ..)

theorem State.raiseAt_chan (code : BitVec 10) (stamp : Nat) (items : List Item) :
    (s.raiseAt code stamp items).field.chan[c] = s.field.chan[c] :=
  congrArg (fun f : FieldSt => f.chan[c]) (s.raiseAt_outputs code stamp items).field

theorem State.until_restrictive (t : Nat) : (s.until t).restrictive c = s.restrictive c := by
  simp only [State.restrictive, State.fioCfg, State.until_field]

/-- A command that restricts an input and raises an event leaves the restrictive value and the code. -/
theorem State.restrictTo_raise_chan (code : Nat) (ev : BitVec 10) (items : List Item) :
    ((s.restrictTo c code).raise ev items).field.chan[c].code = code ∧
      ((s.restrictTo c code).raise ev items).field.chan[c].value = s.restrictive c := by
  rw [State.raise_field, State.restrictTo, State.modChan_chan]
  exact ⟨rfl, rfl⟩

theorem State.loseValue_chan (hin : s.chanIsIn c = true) (hg : s.field.group[chanGroup c].state.out = false) :
    (s.loseValue c).field.chan[c] = { s.field.chan[c] with
      valid := false, value := s.restrictive c, sinceNoValue := s.now, code := 1 } := by
  unfold State.loseValue
  rw [if_pos hin, hg]
  exact s.modChan_chan c _

/-- What an input reports: its value and its state code. -/
def ChanSt.report (x : ChanSt) : Bool × Nat := (x.value, x.code)

/-- Counting a change leaves what the channel reports. -/
theorem State.confirmedChange_report (v : Bool) :
    (s.confirmedChange c v).field.chan[c].report = s.field.chan[c].report := by
  unfold State.confirmedChange
  extract_lets x fresh n s1 s2 stamp
  have h1 : s1.field.chan[c].report = s.field.chan[c].report := by
    unfold s1
    rw [State.modChan_chan]
    rfl
  have h2 : s2.field.chan[c].report = s.field.chan[c].report := by
    unfold s2
    split
    · exact (congrArg ChanSt.report (State.raise_chan ..)).trans ((s1.modChan_keeps_view c
        (fun x => { x with chatter := true, quiet := 0 }) ChanSt.report (fun _ => rfl) c).trans h1)
    · exact h1
  split
  · exact (congrArg ChanSt.report (State.raiseAt_chan ..)).trans h2
  · exact h2

/-- Samples of one class confirm an input that has no diagnosis at that class (R146, R149). -/
theorem State.confirmInput_report (v : Bool) (hup : s.fieldUp c = true) (hin : s.chanIsIn c = true)
    (hcode : s.field.chan[c].code < 3) : (s.confirmInput c v).field.chan[c].report = (v, 0) := by
  have htake : (s.takeValue c v).field.chan[c].report = (v, 0) := congrArg ChanSt.report (s.modChan_chan c _)
  unfold State.confirmInput
  extract_lets x
  rw [if_neg (by simp [hup, hin])]
  have hx : x.code < 3 := hcode
  obtain h0 | h1 | h2 : x.code = 0 ∨ x.code = 1 ∨ x.code = 2 := by omega
  · simp only [h0]
    split
    · next hv => exact Prod.ext (eq_of_beq hv) h0
    · rw [State.confirmedChange_report, htake]
  · simp only [h1]
    exact htake
  · simp only [h2]
    exact (congrArg ChanSt.report (State.raise_chan ..)).trans htake

end

/-! ### Group supplies (R141) -/

section
variable (s : State)

@[simp] theorem State.restrictTo_group (c : Chan) (code : Nat) :
    (s.restrictTo c code).field.group = s.field.group := s.modChan_field_group c _

@[simp] theorem State.loseValue_group (c : Chan) : (s.loseValue c).field.group = s.field.group := by
  unfold State.loseValue
  split <;> rw [State.modChan_field_group]

@[simp] theorem State.endDiag_group (c : Chan) (codes : List Nat) :
    (s.endDiag c codes).field.group = s.field.group := by
  unfold State.endDiag
  extract_lets d
  split <;> simp

@[simp] theorem State.driveOutput_group (lead c : Chan) (want : Bool) :
    (s.driveOutput lead c want).field.group = s.field.group := by
  unfold State.driveOutput
  extract_lets x may on
  split
  · rfl
  · split <;> simp

@[simp] theorem State.driveSet_group (lead : Chan) (want : Bool) :
    (s.driveSet lead want).field.group = s.field.group :=
  State.each_same (fun s => s.field.group) _ _ (fun s c _ => s.driveOutput_group lead c want) s

@[simp] theorem State.safeState_group (c : Chan) : (s.safeState c).field.group = s.field.group := by
  unfold State.safeState
  split <;> simp

/-- A group takes its new state, whatever its channels then do. -/
theorem State.groupBecomes_group (g : Group) (new : GroupState) (v : Int) :
    (s.groupBecomes g new v).field.group[g] = { state := new, voltage := v.toNat } := by
  unfold State.groupBecomes
  extract_lets old m s1 s2 fld
  have h1 : s1.field.group[g] = { state := new, voltage := v.toNat } := updV_self _ _ _
  have h2 : s2.field.group = s1.field.group := by rw [State.raise_field]
  clear_value s1 s2
  split
  · exact h1
  · rw [← h1, ← h2]
    refine congrArg (fun k : Vector GroupSt 8 => k[g]) (State.each_same (fun s => s.field.group) _ _ ?_ s2)
    intro s c _
    split
    · split
      · exact s.restrictTo_group c 5
      · split
        · exact s.loseValue_group c
        · rfl
    · split
      · split
        · exact (State.modChan_field_group ..).trans (State.driveOutput_group ..)
        · split
          · exact State.driveOutput_group ..
          · split
            · exact s.safeState_group c
            · rfl
      · rfl

end

/-! ### Trips of outputs (R152, R155) -/

section
variable (s : State) (lead c : Chan)

theorem State.endDiag_keeps_view {α : Type} (codes : List Nat) (g : ChanSt → α)
    (hd : ∀ y d, g { y with diag := d } = g y) (x : Chan) :
    g (s.endDiag c codes).field.chan[x] = g s.field.chan[x] := by
  unfold State.endDiag
  extract_lets d
  split
  · exact (congrArg g (State.raise_chan ..)).trans
      (s.modChan_keeps_view c (fun y => { y with diag := 0 }) g (fun y => hd y 0) x)
  · rfl

theorem State.driveOutput_latched (want : Bool) (x : Chan) :
    (s.driveOutput lead c want).field.chan[x].latched = s.field.chan[x].latched := by
  unfold State.driveOutput
  extract_lets y may on
  split
  · rfl
  · split
    · rw [State.endDiag_keeps_view _ _ _ ChanSt.latched fun _ _ => rfl,
        s.modChan_keeps_view c (fun y => { y with on := true, onAt := s.now }) ChanSt.latched fun _ => rfl]
    · rw [State.endDiag_keeps_view _ _ _ ChanSt.latched fun _ _ => rfl,
        s.modChan_keeps_view c (fun y => { y with on := false, offAt := s.now }) ChanSt.latched fun _ => rfl]

theorem State.driveSet_latched (want : Bool) (x : Chan) :
    (s.driveSet lead want).field.chan[x].latched = s.field.chan[x].latched :=
  State.each_same (fun s => s.field.chan[x].latched) _ _ (fun s c _ => s.driveOutput_latched lead c want x) s

theorem State.driveOutput_false_on : (s.driveOutput lead c false).field.chan[c].on = false := by
  rw [State.driveOutput_on, Bool.false_and]

variable {s} in
/-- Switching one output off switches no other on. -/
theorem State.driveOutput_false_keeps_off {x : Chan} (h : s.field.chan[x].on = false) :
    (s.driveOutput lead c false).field.chan[x].on = false := by
  by_cases hc : c = x
  · rw [← hc, State.driveOutput_false_on]
  · unfold State.driveOutput
    extract_lets y may on
    split
    · exact h
    · rw [if_neg (by simp [on]), State.endDiag_on, State.modChan_field_chan, updV_other _ _ _ _ hc, h]

theorem State.driveSet_false_on {x : Chan} (hx : x ∈ s.members lead) :
    (s.driveSet lead false).field.chan[x].on = false :=
  State.each_brings (P := fun s => s.field.chan[x].on = false) hx (fun s => s.driveOutput_false_on lead x)
    (fun _ hs b _ => State.driveOutput_false_keeps_off lead b hs) s

/-- A fault of an output latches on it and switches its whole set off. -/
theorem State.latchOutput_trips (code : Nat) (ev : BitVec 10) (items : List Item) (hup : s.fieldUp c = true)
    (hout : s.chanIsOut c = true) (hl : s.field.chan[c].latched = 0) :
    (s.latchOutput c code ev items).field.chan[c].latched = code ∧
      ∀ x ∈ s.members (s.leadOf c), (s.latchOutput c code ev items).field.chan[x].on = false := by
  unfold State.latchOutput
  extract_lets lead s1 s2
  rw [if_neg (by simp [-Fin.getElem_fin, hup, hout, hl]), State.raise_field]
  refine ⟨?_, fun x hx => State.driveSet_false_on _ lead hx⟩
  unfold s2
  rw [State.driveSet_latched, s1.modChan_keeps_view lead
    (fun y => { y with cycledOff := !y.demand, trippedAt := s.now }) ChanSt.latched fun _ => rfl, State.modChan_chan]

/-! ### Diagnoses of outputs (R153) -/

theorem State.diagnose_chan (on : Bool) (code : Nat) (ev : BitVec 10) (items : List Item) (hup : s.fieldUp c = true)
    (hout : s.chanIsOut c = true) (hon : s.field.chan[s.leadOf c].on = on)
    (hd : s.field.chan[s.leadOf c].diag ≠ code) :
    (s.diagnose c on code ev items).field.chan[s.leadOf c] = { s.field.chan[s.leadOf c] with diag := code } := by
  unfold State.diagnose
  extract_lets lead x
  rw [if_pos (by simp [x, lead, -Fin.getElem_fin, hup, hout, hon, hd]), State.raise_field, State.modChan_chan]

/-! ### Re-arming (R154) -/

/-- The junctions of a set have cooled. -/
def State.coolSet (s : State) (c : Chan) : State :=
  s.each (s.members c) fun s m => s.modChan m fun x => { x with hot := false }

theorem State.coolSet_keeps_view {α : Type} (g : ChanSt → α) (h : ∀ y, g { y with hot := false } = g y) (x : Chan) :
    g (s.coolSet c).field.chan[x] = g s.field.chan[x] :=
  State.each_same (fun s => g s.field.chan[x]) _ _ (fun s m _ => s.modChan_keeps_view m _ g h x) s

theorem State.coolSet_hot {x : Chan} (hx : x ∈ s.members c) : (s.coolSet c).field.chan[x].hot = false := by
  refine State.each_brings (P := fun s => s.field.chan[x].hot = false) hx
    (fun s => congrArg ChanSt.hot (s.modChan_chan x _)) (fun s hs b _ => ?_) s
  by_cases hb : b = x
  · rw [hb, State.modChan_chan]
  · rw [State.modChan_field_chan, updV_other _ _ _ _ hb, hs]

theorem State.coolSet_now : (s.coolSet c).now = s.now :=
  State.each_same State.now _ _ (fun s m _ => s.modChan_now m _) s

theorem State.coolSet_mods : (s.coolSet c).field.mods = s.field.mods :=
  State.each_same (fun s => s.field.mods) _ _ (fun s m _ => s.modChan_field_mods m _) s

theorem State.coolSet_members : (s.coolSet c).members = s.members :=
  funext (State.members_of_fioCfg (State.fioCfg_of_mods (s.coolSet_mods c)))

/-- A set that was latched, demanded off and on again is due once 100 ms have passed and its junctions are cool. -/
theorem State.coolSet_fieldRearmDue (hl : s.setLatched c ≠ 0) (hd : s.field.chan[c].demand = true)
    (hc : s.field.chan[c].cycledOff = true) (ht : 100 * msec ≤ s.since s.field.chan[c].trippedAt) :
    (s.coolSet c).fieldRearmDue c = true := by
  have hlatched : (s.coolSet c).setLatched c ≠ 0 := by
    simpa only [State.setLatched, State.coolSet_members, s.coolSet_keeps_view c ChanSt.latched fun _ => rfl] using hl
  have hasked : (s.coolSet c).rearmAsked c = true := by
    simp only [State.rearmAsked, State.since, State.coolSet_now, s.coolSet_keeps_view c ChanSt.demand fun _ => rfl,
      s.coolSet_keeps_view c ChanSt.cycledOff fun _ => rfl, s.coolSet_keeps_view c ChanSt.trippedAt fun _ => rfl, hd,
      hc, bne_iff_ne.mpr hlatched, Bool.true_and]
    exact decide_eq_true ht
  rw [State.fieldRearmDue, hasked, Bool.true_and, State.coolSet_members]
  exact List.all_eq_true.mpr fun m hm => by rw [s.coolSet_hot c hm, Bool.not_false]

theorem State.setLatched_of_field {t : State} (h : t.field = s.field) : t.setLatched lead = s.setLatched lead := by
  have hm := State.members_of_fioCfg (State.fioCfg_of_mods (congrArg FieldSt.mods h)) lead
  simp only [State.setLatched, hm, h]

/-- A latched output that was demanded off and on again is re-armed, not before 100 ms have passed since the trip. -/
theorem State.fieldRearmEvent_of_cycled (hl : s.setLatched c ≠ 0) (hd : s.field.chan[c].demand = true)
    (hc : s.field.chan[c].cycledOff = true) :
    s.fieldRearmEvent c = ((s.until (s.field.chan[c].trippedAt + 100 * msec)).coolSet c).fieldRearm c := by
  have hnow := s.until_now (s.field.chan[c].trippedAt + 100 * msec)
  have hfield := s.until_field (s.field.chan[c].trippedAt + 100 * msec)
  unfold State.fieldRearmEvent
  generalize s.until (s.field.chan[c].trippedAt + 100 * msec) = u at hnow hfield ⊢
  refine if_pos (u.coolSet_fieldRearmDue c ?_ ?_ ?_ ?_)
  · rwa [State.setLatched_of_field s c hfield]
  · rwa [hfield]
  · rwa [hfield]
  · rw [hfield, State.since, hnow]
    omega

/-! ### Demands (Table HR-16) -/

theorem State.setDemand_demand (v : Bool) (x : Chan) :
    (s.setDemand c v).field.chan[x].demand = if c = x then v else s.field.chan[x].demand := by
  unfold State.setDemand
  split
  · next h => rw [← h, State.modChan_chan]
  · next h => rw [State.modChan_field_chan, updV_other _ _ _ _ h]

theorem State.each_setDemand_demand (v : Chan → Bool) (l : List Chan) (x : Chan) :
    (s.each l fun s c => s.setDemand c (v c)).field.chan[x].demand =
      if x ∈ l then v x else s.field.chan[x].demand := by
  unfold State.each
  induction l generalizing s with
  | nil => rw [if_neg List.not_mem_nil, List.foldl_nil]
  | cons c l ih =>
    rw [List.foldl_cons, ih, State.setDemand_demand]
    by_cases hc : c = x
    · simp [hc]
    · simp [hc, Ne.symm hc]

/-- The channels a mask names, of OP_FIO_SET. -/
def fieldMaskChans (mask : BitVec 64) : List Chan := (List.finRange 64).filter fun c => mask.getLsbD c.val

theorem mem_fieldMaskChans {mask : BitVec 64} {x : Chan} : x ∈ fieldMaskChans mask ↔ mask.getLsbD x.val = true := by
  simp [fieldMaskChans]

end

end Sys2Proof.Machine
end

section
/-!
The commands of field inputs, group supplies and field outputs.
-/

namespace Sys2Proof.Machine

section
variable (s : State) (c : Chan)

/-! ### Faults of inputs (R143, R144, R146) -/

section
variable (data : Nat) (hup : s.fieldUp c = true) (hg : s.field.group[chanGroup c].state.out = false)
include hup hg

/-- An input whose module is up and whose group is supplied reports its faults (R143). -/
theorem State.inputFault_heard (hmode : chanMode (s.fioCfg c) c.val = 1 ∨ chanMode (s.fioCfg c) c.val = 2) :
    ¬(!(s.fieldUp c && s.chanIsIn c) || s.field.group[chanGroup c].state.out) = true := by
  have hin : s.chanIsIn c = true := by simpa [State.chanIsIn] using hmode
  simp [-Fin.getElem_fin, hup, hg, hin]

theorem exec_inputFault_openWire (hmode : chanMode (s.fioCfg c) c.val = 1)
    (hsuper : chanSuper (s.fioCfg c) c.val ≠ 0) :
    exec (.inputFault c .openWire data) s =
      .next ((s.restrictTo c 3).raise Ev.FI_OPEN_WIRE [.u8 c.val, .u16 data]) := by
  rw [exec_inputFault, execInputFault, if_neg (s.inputFault_heard c hup hg (.inl hmode)), if_pos ⟨hmode, hsuper⟩]

theorem exec_inputFault_shortSupply (hmode : chanMode (s.fioCfg c) c.val = 1) :
    exec (.inputFault c .shortSupply data) s = .next ((s.restrictTo c 4).raise Ev.FI_SHORT_SUPPLY
      [.u8 c.val, .u16 data, .u16 s.field.group[chanGroup c].voltage]) := by
  rw [exec_inputFault, execInputFault, if_neg (s.inputFault_heard c hup hg (.inl hmode)), if_pos hmode]

theorem exec_inputFault_overvoltage (hmode : chanMode (s.fioCfg c) c.val = 2) :
    exec (.inputFault c .overvoltage data) s =
      .next ((s.restrictTo c 7).raise Ev.FI_WR_OVERVOLT [.u8 c.val, .u16 data]) := by
  rw [exec_inputFault, execInputFault, if_neg (s.inputFault_heard c hup hg (.inr hmode)), if_pos hmode]

end

theorem exec_inputFaultClear_of_fault
    (h : s.field.chan[c].code = 3 ∨ s.field.chan[c].code = 4 ∨ s.field.chan[c].code = 7) :
    exec (.inputFaultClear c) s =
      .next ((s.loseValue c).raise Ev.FI_DIAG_CLEARED [.u8 c.val, .u8 s.field.chan[c].code]) := by
  rw [exec_inputFaultClear, execInputFaultClear, if_pos h]

/-! ### Bands (R149, R150) -/

theorem exec_bandResolve_of_waiting (data : Nat) (hin : s.chanIsIn c = true) (hcode : s.field.chan[c].code = 1) :
    exec (.bandResolve c data) s =
      .next (((s.until (s.field.chan[c].sinceNoValue + s.field.mods[chanMod c.val].cfg 0x65 * msec)).restrictTo c
        2).raise Ev.FI_BAND [.u8 c.val, .u16 data]) := by
  rw [exec_bandResolve, execBandResolve, if_pos (by simp [-Fin.getElem_fin, hin, hcode])]

theorem exec_bandHold_of_valid (data : Nat) (hin : s.chanIsIn c = true) (hcode : s.field.chan[c].code = 0)
    (hhold : s.field.mods[chanMod c.val].cfg 0x66 ≠ 0) :
    exec (.bandHold c data) s = .next ((s.restrictTo c 2).raise Ev.FI_BAND [.u8 c.val, .u16 data]) := by
  rw [exec_bandHold, execBandHold, if_pos (by simp [-Fin.getElem_fin, hin, hcode, hhold])]

/-! ### Group supplies (R141) -/

theorem exec_groupSupplyChange_of_wired (g : Group) (deciVolt : Int) (hv : deciVolt.natAbs ≤ 360)
    (hw : s.field.group[g].state ≠ .notWired) :
    exec (.groupSupplyChange g deciVolt) s =
      .next (s.groupBecomes g (groupAt s.field.group[g].state deciVolt) deciVolt) := by
  rw [exec_groupSupplyChange, execGroupSupplyChange, if_neg (by omega),
    if_neg (by simpa [-Fin.getElem_fin] using hw)]

/-! ### Re-arming and demands of outputs (R154, Table HR-16) -/

theorem exec_rearmDue_field (h : s.leadOf c = c) :
    exec (.rearmDue false c.val) s = .next (s.fieldRearmEvent c) := by
  have hk : asFin 64 c.val = some c := dif_pos c.isLt
  rw [exec_rearmDue, execRearmDue, if_neg Bool.false_ne_true, hk]
  simp only [h]

/-- A request whose party owns every channel of its mask, each an output that follows no lead, is taken as a
whole. -/
theorem exec_opFioSet_of_owned (r : Req) (mask state : BitVec 64)
    (h : ∀ x : Chan, mask.getLsbD x.val = true → s.ownerOf (.field x.val) = some r.party ∧
      chanMode s.param x.val = 3 ∧ outParallel s.param x.val ≠ 7) :
    exec (.opFioSet r mask state) s =
      .next ((s.each (fieldMaskChans mask) fun s c => s.setDemand c (state.getLsbD c.val)).ok r Opc.OP_FIO_SET []) := by
  have howned : (fieldMaskChans mask).find? (fun c => s.ownerOf (.field c.val) != some r.party) = none := by
    refine List.find?_eq_none.mpr fun x hx => ?_
    obtain ⟨howner, -, -⟩ := h x (mem_fieldMaskChans.mp hx)
    simp [howner]
  have hall : ((fieldMaskChans mask).all fun c =>
      chanMode s.param c.val == 3 && outParallel s.param c.val != 7) = true := by
    refine List.all_eq_true.mpr fun x hx => ?_
    obtain ⟨-, hmode, hpar⟩ := h x (mem_fieldMaskChans.mp hx)
    simp [hmode, hpar]
  rw [exec_opFioSet, execOpFioSet, State.doFioSet, ← fieldMaskChans, howned]
  exact congrArg _ (if_pos hall)

end

/-- Settles O21: each command of an input by what its own operation makes of the channel, and a supply by its group. -/
theorem fieldInputsComplete : Obligations.FieldInputsComplete := by
  intro s c
  refine ⟨fun active hup hin hcode => ?_, fun data hup hg hmode hsuper => ?_, fun data hup hg hmode => ?_,
    fun data hup hg hmode => ?_, fun hcode hin hg => ?_, fun data hin hwaits => ?_, fun data hin hcode hhold => ?_,
    fun g deciVolt hv hw => ?_, fun g deciVolt hv => if_pos hv⟩
  · have h := s.confirmInput_report c active hup hin hcode
    exact .intro (exec_filterConfirm ..) ⟨congrArg Prod.fst h, congrArg Prod.snd h⟩
  · obtain ⟨hcode, hvalue⟩ := s.restrictTo_raise_chan c 3 Ev.FI_OPEN_WIRE [.u8 c.val, .u16 data]
    exact .intro (exec_inputFault_openWire s c data hup hg hmode hsuper)
      ⟨hcode, hvalue, .of_raise rfl rfl (by simp)⟩
  · exact .intro (exec_inputFault_shortSupply s c data hup hg hmode) (s.restrictTo_raise_chan c 4 _ _)
  · exact .intro (exec_inputFault_overvoltage s c data hup hg hmode) (s.restrictTo_raise_chan c 7 _ _)
  · refine .intro (exec_inputFaultClear_of_fault s c hcode) ?_
    simp only [State.raise_field, s.loseValue_chan c hin hg, and_self]
  · obtain ⟨hcode, hvalue⟩ := State.restrictTo_raise_chan
      (s.until (s.field.chan[c].sinceNoValue + s.field.mods[chanMod c.val].cfg 0x65 * msec))
      c 2 Ev.FI_BAND [.u8 c.val, .u16 data]
    rw [State.until_restrictive] at hvalue
    refine .intro (exec_bandResolve_of_waiting s c data hin hwaits) ⟨hcode, hvalue, ?_⟩
    rw [State.raise_now, State.restrictTo, State.modChan_now, State.until_now]
  · exact .intro (exec_bandHold_of_valid s c data hin hcode hhold) (s.restrictTo_raise_chan c 2 _ _)
  · refine .intro (exec_groupSupplyChange_of_wired s g deciVolt hv hw) ?_
    simp only [State.groupBecomes_group, and_self]

/-- Settles O22: each command of an output by what its own operation makes of the channel, its lead and its set. -/
theorem fieldOutputsComplete : Obligations.FieldOutputsComplete := by
  intro s c
  refine ⟨fun hup hout hl => ⟨?_, ?_, fun mA hon hd => ?_, fun v hon hd hoff => ?_, fun v hon hd => ?_⟩,
    fun hlead hl hd hc => ?_, fun member mA => ?_, fun r mask state h => ?_⟩
  · exact .intro (exec_outOverload ..) (s.latchOutput_trips c 8 _ _ hup hout hl)
  · exact .intro (exec_outOvertemp ..) (s.latchOutput_trips c 11 _ _ hup hout hl)
  · have h := s.diagnose_chan c true 9 Ev.FI_OUT_OPEN_ON [.u16 mA] hup hout hon hd
    exact .intro (exec_outOpenOn ..) ⟨congrArg ChanSt.diag h, (congrArg ChanSt.on h).trans hon⟩
  · have h := s.diagnose_chan c false 10 Ev.FI_OUT_OPEN_OFF [.u16 v] hup hout hon hd
    exact .intro (by rw [exec_outOpenOff, execOutOpenOff, if_pos hoff]) (congrArg ChanSt.diag h)
  · have h := s.diagnose_chan c false 12 Ev.FI_OUT_SHORT_SUPPLY [.u16 v] hup hout hon hd
    exact .intro (exec_outShortSupply ..) (congrArg ChanSt.diag h)
  · refine .intro (exec_rearmDue_field s c hlead) ?_
    rw [State.fieldRearmEvent_of_cycled s c hl hd hc, State.fieldRearm, State.modChan_chan, State.modChan_now,
      State.coolSet_now, State.until_now]
    exact ⟨rfl, rfl, rfl⟩
  · exact .intro (exec_parallelFault ..) ⟨State.raise_field .., .of_raise rfl rfl (by simp)⟩
  · refine .intro (exec_opFioSet_of_owned s r mask state h) ⟨State.ok_answers _ r _ [], fun x => ?_⟩
    simp only [State.ok_field, State.each_setDemand_demand s (fun c => state.getLsbD c.val), mem_fieldMaskChans]

end Sys2Proof.Machine
end

section
/-!
The channels of the load module: what an operation on one channel makes of it, and what it leaves of the other
channels and of the rest of the module.
-/

namespace Sys2Proof.Machine

/-! ### One channel, the other channels, and the rest of the module -/

/-- The load module but for its channels. -/
def LoadSt.rest (k : LoadSt) : LoadSt := { k with chan := .replicate 12 {} }

/-- What does not speak of the channels rests on the rest. -/
theorem LoadSt.view_of_rest {α : Type} (g : LoadSt → α) {k l : LoadSt} (h : k.rest = l.rest)
    (hg : ∀ k : LoadSt, g k.rest = g k := by intro; rfl) : g k = g l := by
  rw [← hg, h, hg]

/-- From `s` to `t` channel `x` is the same, and so is all of the load module but its other channels. -/
structure SameLoad (x : LoadCh) (s t : State) : Prop where
  rest : t.load.rest = s.load.rest
  chan : t.load.chan[x] = s.load.chan[x]

namespace SameLoad

variable {x : LoadCh} {s t u : State}

theorem refl : SameLoad x s s := ⟨rfl, rfl⟩

theorem trans (h : SameLoad x s t) (g : SameLoad x t u) : SameLoad x s u :=
  ⟨g.rest.trans h.rest, g.chan.trans h.chan⟩

theorem of_load (h : t.load = s.load) : SameLoad x s t := ⟨congrArg LoadSt.rest h, by rw [h]⟩

theorem raise (h : SameLoad x s t) (code : BitVec 10) (items : List Item) : SameLoad x s (t.raise code items) :=
  h.trans (of_load (State.raise_load ..))

theorem modLoad (h : SameLoad x s t) {c : LoadCh} (hc : c ≠ x) (f : LoadChSt → LoadChSt) :
    SameLoad x s (t.modLoad c f) :=
  h.trans ⟨rfl, updV_other _ _ _ _ hc⟩

/-- A run over channels none of which is `x`. -/
theorem each {f : State → LoadCh → State} (hf : ∀ u c, c ≠ x → SameLoad x u (f u c)) {l : List LoadCh} (hx : x ∉ l)
    (s : State) : SameLoad x s (s.each l f) := by
  unfold State.each
  induction l generalizing s with
  | nil => exact refl
  | cons c l ih =>
    obtain ⟨hxc, hxl⟩ : x ≠ c ∧ x ∉ l := by simpa using hx
    exact (hf s c hxc.symm).trans (ih hxl (f s c))

/-- A run over distinct channels does to one of them what its own turn does. -/
theorem each_of_mem {f : State → LoadCh → State} (hf : ∀ u c, c ≠ x → SameLoad x u (f u c)) {l : List LoadCh}
    (hn : l.Nodup) (hx : x ∈ l) (s : State) : ∃ u, SameLoad x s u ∧ SameLoad x (f u x) (s.each l f) := by
  obtain ⟨before, after, rfl⟩ := List.append_of_mem hx
  obtain ⟨-, hafter, hdisj⟩ := List.nodup_append.mp hn
  have hsplit : s.each (before ++ x :: after) f = (f (s.each before f) x).each after f := List.foldl_append
  rw [hsplit]
  exact ⟨s.each before f, each hf (fun hb => hdisj x hb x List.mem_cons_self rfl) s,
    each hf (List.nodup_cons.mp hafter).1 _⟩

end SameLoad

/-! ### The state of one channel -/

section
variable (s : State) (c : LoadCh)

theorem State.modLoad_chan (f : LoadChSt → LoadChSt) : (s.modLoad c f).load.chan[c] = f s.load.chan[c] :=
  updV_self _ _ _

theorem State.raise_loadChan (code : BitVec 10) (items : List Item) :
    (s.raise code items).load.chan[c] = s.load.chan[c] :=
  congrArg (fun k : LoadSt => k.chan[c]) (State.raise_load ..)

@[simp] theorem State.modLoad_rest (f : LoadChSt → LoadChSt) : (s.modLoad c f).load.rest = s.load.rest := id rfl

/-- What switching a channel leaves of it: neither its switch with the times of its turns, nor its diagnosis. -/
def LoadChSt.unswitched (y : LoadChSt) : LoadChSt := { y with on := false, onAt := 0, offAt := 0, diag := 0 }

/-- What switching a channel does not touch rests on the channel unswitched. -/
theorem LoadChSt.view_of_unswitched {α : Type} (g : LoadChSt → α) {y z : LoadChSt} (h : y.unswitched = z.unswitched)
    (hg : ∀ y : LoadChSt, g y.unswitched = g y := by intro; rfl) : g y = g z := by
  rw [← hg, h, hg]

/-- What the module measures on a channel: its wire model, and its clamp power and energy. -/
def LoadChSt.measured (y : LoadChSt) : Nat × Nat × Nat := (y.heat, y.clampAvg, y.clampLast)

/-! ### What the configuration says of a channel -/

variable {s} {t : State} (h : t.load.rest = s.load.rest)
include h

theorem State.loadWord_of_rest : t.loadWord c = s.loadWord c :=
  LoadSt.view_of_rest (fun k => (k.applied.toList.getD c.val 0).toNat) h

theorem State.loadMode_of_rest : t.loadMode c = s.loadMode c := by
  rw [State.loadMode, State.loadWord_of_rest c h, State.loadMode]

end

/-- What a channel is to do rests on its own state and on the module (Table LS-8). -/
theorem SameLoad.loadWants {c : LoadCh} {s t : State} (h : SameLoad c s t) : t.loadWants c = s.loadWants c := by
  have hsupply : t.load.supply = s.load.supply := LoadSt.view_of_rest LoadSt.supply h.rest
  have hhold : t.load.hold = s.load.hold := LoadSt.view_of_rest LoadSt.hold h.rest
  have hsafe : t.load.safe = s.load.safe := LoadSt.view_of_rest LoadSt.safe h.rest
  have hshed : t.load.shed = s.load.shed := LoadSt.view_of_rest LoadSt.shed h.rest
  have happlied : t.load.appliedAny = s.load.appliedAny := LoadSt.view_of_rest LoadSt.appliedAny h.rest
  simp only [State.loadWants, h.chan, State.loadMode_of_rest c h.rest, State.loadWord_of_rest c h.rest, hsupply, hhold,
    hsafe, hshed, happlied]

/-! ### A diagnosis ends (R172) -/

section
variable (s : State) (c : LoadCh)

theorem State.endLoadDiag_chan (codes : List Nat) :
    (s.endLoadDiag c codes).load.chan[c] = { s.load.chan[c] with
      diag := if codes.contains s.load.chan[c].diag then 0 else s.load.chan[c].diag } := by
  unfold State.endLoadDiag
  extract_lets d
  by_cases h : codes.contains d
  · rw [if_pos h, if_pos h, State.raise_load, State.modLoad_chan]
  · rw [if_neg h, if_neg h]

@[simp] theorem State.endLoadDiag_rest (codes : List Nat) : (s.endLoadDiag c codes).load.rest = s.load.rest := by
  unfold State.endLoadDiag
  extract_lets d
  split
  · rw [State.raise_load, State.modLoad_rest]
  · rfl

theorem SameLoad.endLoadDiag {x : LoadCh} {s t : State} (h : SameLoad x s t) {c : LoadCh} (hc : c ≠ x)
    (codes : List Nat) : SameLoad x s (t.endLoadDiag c codes) := by
  unfold State.endLoadDiag
  extract_lets d
  split
  · exact (h.modLoad hc _).raise _ _
  · exact h

/-- A diagnosis that is reported stands in the channel. -/
theorem State.loadDiagnose_diag (on : Bool) (code : Nat) (ev : BitVec 10) (items : List Item)
    (hm : s.loadMode c = true) (hon : s.load.chan[c].on = on) (hd : s.load.chan[c].diag ≠ code) :
    (s.loadDiagnose c on code ev items).load.chan[c].diag = code := by
  unfold State.loadDiagnose
  extract_lets x
  rw [if_pos (by simp [x, -Fin.getElem_fin, hm, hon, hd]), State.raise_load, State.modLoad_chan]

/-! ### Following Table LS-8 -/

/-- A channel is on where the first row of Table LS-8 that holds has it on. -/
theorem State.loadFollow_on : (s.loadFollow c).load.chan[c].on = s.loadWants c := by
  unfold State.loadFollow
  extract_lets want
  by_cases hsame : want = s.load.chan[c].on
  · rw [if_pos (by simpa using hsame)]
    exact hsame.symm
  · rw [if_neg (by simpa using hsame)]
    split
    · next hw => rw [State.endLoadDiag_chan, State.modLoad_chan]; exact hw.symm
    · next hw => rw [State.endLoadDiag_chan, State.modLoad_chan]; exact (Bool.eq_false_of_not_eq_true hw).symm

theorem State.loadFollow_unswitched :
    (s.loadFollow c).load.chan[c].unswitched = s.load.chan[c].unswitched := by
  unfold State.loadFollow
  extract_lets want
  split
  · rfl
  · split <;> rw [State.endLoadDiag_chan, State.modLoad_chan] <;> rfl

@[simp] theorem State.loadFollow_rest : (s.loadFollow c).load.rest = s.load.rest := by
  unfold State.loadFollow
  extract_lets want
  split
  · rfl
  · split <;> simp

theorem SameLoad.loadFollow {x : LoadCh} {s t : State} (h : SameLoad x s t) {c : LoadCh} (hc : c ≠ x) :
    SameLoad x s (t.loadFollow c) := by
  unfold State.loadFollow
  extract_lets want
  split
  · exact h
  · split
    · exact (h.modLoad hc _).endLoadDiag hc _
    · exact (h.modLoad hc _).endLoadDiag hc _

@[simp] theorem State.loadsFollow_rest : s.loadsFollow.load.rest = s.load.rest :=
  State.each_same (fun s => s.load.rest) _ _ (fun s c _ => s.loadFollow_rest c) s

/-- Where all channels follow, each does what its own turn has it do. -/
theorem State.loadsFollow_at : ∃ u, SameLoad c s u ∧ SameLoad c (u.loadFollow c) s.loadsFollow :=
  SameLoad.each_of_mem (fun _ _ hc => SameLoad.refl.loadFollow hc) (List.nodup_finRange 12) (List.mem_finRange c) s

theorem State.loadsFollow_on : s.loadsFollow.load.chan[c].on = s.loadWants c := by
  obtain ⟨u, hu, hafter⟩ := s.loadsFollow_at c
  rw [hafter.chan, State.loadFollow_on, hu.loadWants]

theorem State.loadsFollow_unswitched : s.loadsFollow.load.chan[c].unswitched = s.load.chan[c].unswitched := by
  obtain ⟨u, hu, hafter⟩ := s.loadsFollow_at c
  rw [hafter.chan, State.loadFollow_unswitched, hu.chan]

theorem State.loadWants_of_latched (h : s.load.chan[c].latched ≠ 0) : s.loadWants c = false := by
  unfold State.loadWants
  extract_lets x
  exact if_pos (by simp [x, -Fin.getElem_fin, h])

/-- The safe state 0 of ls.c.cfg.safe is off. -/
theorem State.loadWants_of_safeOff (hh : s.load.hold = false) (hs : s.load.safe = true)
    (h0 : bits (s.loadWord c) 7 2 = 0) : s.loadWants c = false := by
  unfold State.loadWants
  extract_lets x
  split
  · rfl
  · split
    · rfl
    · rw [if_neg (by simp [hh])]
      simp only [h0]

/-! ### A fault latches (R166 to R170) -/

/-- The channel as the fault latches, before it is switched off. -/
def State.tripLoad (s : State) (c : LoadCh) (code : Nat) : State :=
  s.modLoad c fun x => { x with
    latched := code, trippedAt := s.now, hot := code == 5, cycledOff := !x.demand, rearm := false }

theorem State.latchLoad_load (code : Nat) (ev : BitVec 10) (items : List Item) (hm : s.loadMode c = true)
    (hl : s.load.chan[c].latched = 0) :
    (s.latchLoad c code ev items).load = ((s.tripLoad c code).loadFollow c).load := by
  unfold State.latchLoad
  rw [if_neg (by simp [-Fin.getElem_fin, hm, hl])]
  exact State.raise_load ..

/-- A fault of a channel latches and switches it off; its junction is hot where the fault is an over-temperature. -/
theorem State.latchLoad_trips (code : Nat) (hcode : code ≠ 0) (ev : BitVec 10) (items : List Item)
    (hm : s.loadMode c = true) (hl : s.load.chan[c].latched = 0) :
    (s.latchLoad c code ev items).load.chan[c].latched = code ∧
      (s.latchLoad c code ev items).load.chan[c].hot = (code == 5) ∧
      (s.latchLoad c code ev items).load.chan[c].on = false := by
  have htrip : (s.tripLoad c code).load.chan[c] = { s.load.chan[c] with
      latched := code, trippedAt := s.now, hot := code == 5, cycledOff := !s.load.chan[c].demand, rearm := false } :=
    s.modLoad_chan c _
  have hkept := (s.tripLoad c code).loadFollow_unswitched c
  rw [s.latchLoad_load c code ev items hm hl]
  refine ⟨?_, ?_, ?_⟩
  · exact (LoadChSt.view_of_unswitched LoadChSt.latched hkept).trans (congrArg LoadChSt.latched htrip)
  · exact (LoadChSt.view_of_unswitched LoadChSt.hot hkept).trans (congrArg LoadChSt.hot htrip)
  · rw [State.loadFollow_on]
    exact State.loadWants_of_latched _ c (by rwa [htrip])

theorem State.latchLoad_measured (code : Nat) (ev : BitVec 10) (items : List Item) :
    (s.latchLoad c code ev items).load.chan[c].measured = s.load.chan[c].measured := by
  unfold State.latchLoad
  split
  · rfl
  · rw [State.raise_loadChan]
    rw [LoadChSt.view_of_unswitched LoadChSt.measured (State.loadFollow_unswitched _ c), State.modLoad_chan]
    rfl

theorem SameLoad.latchLoad {x : LoadCh} {s t : State} (h : SameLoad x s t) {c : LoadCh} (hc : c ≠ x) (code : Nat)
    (ev : BitVec 10) (items : List Item) : SameLoad x s (t.latchLoad c code ev items) := by
  unfold State.latchLoad
  split
  · exact h
  · exact ((h.modLoad hc _).loadFollow hc).raise _ _

/-! ### The wire model (R167, R168) -/

theorem SameLoad.wireStep {x : LoadCh} {s t : State} (h : SameLoad x s t) {c : LoadCh} (hc : c ≠ x) (mA : Nat) :
    SameLoad x s (t.wireStep c mA) := by
  unfold State.wireStep
  split
  · exact h
  · extract_lets tau heat y warn s1 s2
    have h1 : SameLoad x s s1 := h.modLoad hc _
    have h2 : SameLoad x s s2 := by
      unfold s2
      split
      · exact h1.raise _ _
      · exact h1
    clear_value s1 s2
    split
    · exact h2.latchLoad hc _ _ _
    · exact h2

/-- An update of a channel's wire model, and its trip once H reaches 1. -/
theorem State.wireStep_chan (mA : Nat) (hm : s.loadMode c = true) (hup : s.load.powerUp = true) :
    (s.wireStep c mA).load.chan[c].heat = wireUpdate s.load.chan[c].heat (s.wireTau c) (s.tripCurrent c) mA ∧
      (heatUnit ≤ (s.wireStep c mA).load.chan[c].heat → s.load.chan[c].latched = 0 →
        (s.wireStep c mA).load.chan[c].latched = 2) := by
  unfold State.wireStep
  rw [if_neg (by simp [hm, hup])]
  extract_lets tau heat y warn s1 s2
  have h2 : SameLoad c s1 s2 := by
    unfold s2
    split
    · exact SameLoad.refl.raise _ _
    · exact .refl
  obtain ⟨hheat, hlatched⟩ : s2.load.chan[c].heat = heat ∧ s2.load.chan[c].latched = s.load.chan[c].latched := by
    rw [h2.chan]
    unfold s1
    rw [State.modLoad_chan]
    exact ⟨rfl, rfl⟩
  have hmode : s2.loadMode c = true :=
    (State.loadMode_of_rest c (h2.rest.trans (State.modLoad_rest ..))).trans hm
  clear_value s1 s2
  by_cases hhot : heatUnit ≤ heat
  · rw [if_pos (by simpa using hhot)]
    refine ⟨(congrArg Prod.fst (s2.latchLoad_measured c 2 _ _)).trans hheat, fun _ hl => ?_⟩
    obtain ⟨htrip, -⟩ := s2.latchLoad_trips c 2 (by decide) Ev.LS_WIRE_TRIP [.u32 mA, .u8 (rearmSeconds tau)] hmode
      (hlatched.trans hl)
    exact htrip
  · rw [if_neg (by simpa using hhot)]
    exact ⟨hheat, fun hge => absurd (hheat ▸ hge) hhot⟩

theorem SameLoad.wireTau {c : LoadCh} {s t : State} (h : SameLoad c s t) : t.wireTau c = s.wireTau c := by
  rw [State.wireTau, State.loadWord_of_rest c h.rest, State.wireTau]

theorem SameLoad.tripCurrent {c : LoadCh} {s t : State} (h : SameLoad c s t) :
    t.tripCurrent c = s.tripCurrent c := by
  simp only [State.tripCurrent, State.loadWord_of_rest c h.rest]

/-- An update of the whole module. -/
def State.wireSteps (s : State) (mA : Vector Nat 12) : State :=
  s.each (List.finRange 12) fun s c => s.wireStep c mA[c]

/-- An update of the whole module does to each channel what the channel's own update does. -/
theorem State.wireSteps_chan (mA : Vector Nat 12) (hm : s.loadMode c = true) (hup : s.load.powerUp = true) :
    (s.wireSteps mA).load.chan[c].heat =
        wireUpdate s.load.chan[c].heat (s.wireTau c) (s.tripCurrent c) mA[c] ∧
      (heatUnit ≤ (s.wireSteps mA).load.chan[c].heat → s.load.chan[c].latched = 0 →
        (s.wireSteps mA).load.chan[c].latched = 2) := by
  obtain ⟨u, hu, hafter⟩ := SameLoad.each_of_mem (f := fun s c => s.wireStep c mA[c])
    (fun _ a hc => SameLoad.refl.wireStep hc mA[a]) (List.nodup_finRange 12) (List.mem_finRange c) s
  have hmode : u.loadMode c = true := (State.loadMode_of_rest c hu.rest).trans hm
  have hpower : u.load.powerUp = true := (LoadSt.view_of_rest LoadSt.powerUp hu.rest).trans hup
  have hstep := u.wireStep_chan c mA[c] hmode hpower
  rw [hu.chan, hu.wireTau, hu.tripCurrent] at hstep
  unfold State.wireSteps
  rw [hafter.chan]
  exact hstep

/-! ### Clamp pulses (R170) -/

/-- The channel with what a clamp pulse measures; past 1.0 W its turn-ons are held back, a lock's excepted. -/
def State.clampMeasured (s : State) (c : LoadCh) (mJ avg : Nat) : State :=
  s.modLoad c fun x => { x with
    clampAvg := avg, clampLast := mJ,
    holdingBack := x.holdingBack ||
      (decide (1000 < avg) && decide (s.load.chan[c].clampAvg ≤ 1000) && !(s.lockDoor c).isSome) }

/-- A pulse above the rating trips the channel once it is measured. -/
theorem exec_clampPulse_load (mJ avg : Nat) :
    ∃ t, exec (.clampPulse c mJ avg) s = .next t ∧ t.load =
      (if s.clampRating c < mJ then (s.clampMeasured c mJ avg).latchLoad c 8 Ev.LS_CLAMP_OVER [.u16 mJ]
        else s.clampMeasured c mJ avg).load := by
  refine ⟨_, exec_clampPulse s c mJ avg, ?_⟩
  split
  · exact State.raise_load ..
  · rfl

theorem State.clampMeasured_chan (mJ avg : Nat) :
    (s.clampMeasured c mJ avg).load.chan[c].latched = s.load.chan[c].latched ∧
      (s.clampMeasured c mJ avg).load.chan[c].measured = (s.load.chan[c].heat, avg, mJ) := by
  unfold State.clampMeasured
  rw [State.modLoad_chan]
  exact ⟨rfl, rfl⟩

/-! ### The load supply (R165) -/

theorem State.loadSupplyBecomes_rest (new : LoadSupply) (v : Int) :
    (s.loadSupplyBecomes new v).load.rest = { s.load with supply := new, voltage := v }.rest := by
  unfold State.loadSupplyBecomes
  extract_lets old s1 s2
  have h1 : s1.load.rest = { s.load with supply := new, voltage := v }.rest := rfl
  have h2 : s2.load.rest = s1.load.rest :=
    State.each_same (fun s => s.load.rest) _ _ (fun s c _ => s.modLoad_rest c _) s1
  clear_value s1 s2
  split
  · exact h1
  · rw [State.raise_load, State.loadsFollow_rest, h2, h1]

end

end Sys2Proof.Machine
end

section
/-!
The commands of the load switches: the load supply, protection, diagnosis and the wire model (R165 to R172, R434).
-/

namespace Sys2Proof.Machine

section
variable (s : State) (c : LoadCh)

/-! ### The load supply and the input switch (R165, R434) -/

theorem exec_loadSupplyChange_of_rated {v : Int} (h : v.natAbs ≤ if s.ls110 then 1750 else 1540) :
    exec (.loadSupplyChange v) s = .next (s.loadSupplyBecomes (s.loadSupplyAt v) v) := by
  rw [exec_loadSupplyChange, execLoadSupplyChange, if_neg (Nat.not_lt.mpr h)]

section
variable {v : Nat} (hls : s.ls110 = false)
include hls

theorem exec_ls24OvervoltSwitch_opens (hlo : 370 < v) (hhi : v ≤ 1540) :
    exec (.ls24OvervoltSwitch v) s =
      .next (s.modLoads fun x => { x with inputOpen := true, inputOpenBelow := none }) := by
  rw [exec_ls24OvervoltSwitch, execLs24OvervoltSwitch, if_neg (by simpa [hls] using hhi), if_neg (by simp [hls]),
    if_pos hlo]

theorem exec_ls24OvervoltSwitch_closes (hv : v < 360) (hopen : s.load.inputOpen = true) :
    exec (.ls24OvervoltSwitch v) s =
      .next ((s.until (s.load.inputOpenBelow.getD s.now + 10 * msec)).modLoads fun x =>
        { x with inputOpen := false, inputOpenBelow := none }) := by
  have hrated : v ≤ 1540 := by omega
  rw [exec_ls24OvervoltSwitch, execLs24OvervoltSwitch, if_neg (by simpa [hls] using hrated), if_neg (by simp [hls]),
    if_neg (by omega), if_pos (by simp [hopen, hv])]

end

/-! ### Latched faults (R166, R170) -/

/-- A channel still in current limit as its inrush window ends latches an overload. -/
theorem exec_inrushWindowEnd_inLimit (hm : s.loadMode c = true) (hl : s.load.chan[c].latched = 0)
    (hon : s.load.chan[c].on = true) :
    ∃ t, exec (.inrushWindowEnd c true) s = .next t ∧ t.load.chan[c].latched = 1 ∧ t.load.chan[c].on = false ∧
      t.now = max s.now (s.load.chan[c].onAt + s.loadInrush c) := by
  have hnow := s.until_now (s.load.chan[c].onAt + s.loadInrush c)
  have hload := s.until_load (s.load.chan[c].onAt + s.loadInrush c)
  refine ⟨_, by rw [exec_inrushWindowEnd, execInrushWindowEnd, if_pos hon, if_pos rfl], ?_⟩
  generalize s.until (s.load.chan[c].onAt + s.loadInrush c) = u at hnow hload ⊢
  have hmode : u.loadMode c = true := (State.loadMode_of_rest c (congrArg LoadSt.rest hload)).trans hm
  have hlatched : u.load.chan[c].latched = 0 := by rw [hload, hl]
  obtain ⟨hcode, -, hoff⟩ := u.latchLoad_trips c 1 (by decide) Ev.LS_OVERLOAD [.u8 3] hmode hlatched
  exact ⟨hcode, hoff, (State.latchLoad_keeps ..).now_eq.trans hnow⟩

/-- A clamp pulse above the rating trips a channel that is not latched. -/
theorem State.clampMeasured_latchLoad (mJ avg : Nat) (hm : s.loadMode c = true)
    (hl : s.load.chan[c].latched = 0) (ev : BitVec 10) (items : List Item) :
    ((s.clampMeasured c mJ avg).latchLoad c 8 ev items).load.chan[c].latched = 8 ∧
      ((s.clampMeasured c mJ avg).latchLoad c 8 ev items).load.chan[c].on = false := by
  have hmode : (s.clampMeasured c mJ avg).loadMode c = true := hm
  obtain ⟨hlatched, -⟩ := s.clampMeasured_chan c mJ avg
  obtain ⟨hcode, -, hoff⟩ := State.latchLoad_trips _ c 8 (by decide) ev items hmode (hlatched.trans hl)
  exact ⟨hcode, hoff⟩

/-- Every clamp pulse leaves its energy and the average in the channel. -/
theorem exec_clampPulse_measured (mJ avg : Nat) :
    ∃ t, exec (.clampPulse c mJ avg) s = .next t ∧
      t.load.chan[c].measured = (s.load.chan[c].heat, avg, mJ) := by
  obtain ⟨t, ht, hload⟩ := exec_clampPulse_load s c mJ avg
  obtain ⟨-, hmeasured⟩ := s.clampMeasured_chan c mJ avg
  refine ⟨t, ht, ?_⟩
  rw [hload]
  split
  · rw [State.latchLoad_measured, hmeasured]
  · exact hmeasured

theorem exec_clampHoldEnd_of_cooled {avg : Nat} (h : avg < 500) :
    ∃ u : State, exec (.clampHoldEnd c avg) s = .next (u.loadFollow c) ∧ u.load.chan[c].holdingBack = false := by
  refine ⟨_, by rw [exec_clampHoldEnd, execClampHoldEnd, if_pos h], ?_⟩
  rw [State.modLoad_chan]

/-! ### Diagnoses (R172) -/

theorem exec_lsDiagCleared_of_diag (h : [3, 4, 6].contains s.load.chan[c].diag = true) :
    exec (.lsDiagCleared c) s =
      .next ((s.modLoad c fun x => { x with diag := 0 }).raise Ev.LS_DIAG_CLEARED
        [.u8 (loadNo c), .u8 s.load.chan[c].diag]) := by
  rw [exec_lsDiagCleared, execLsDiagCleared, State.endLoadDiag, if_pos h]

end

/-- Settles O24: each command by what its own operation makes of the channel, and a supply by the module's rest. -/
theorem loadSwitchesComplete : Obligations.LoadSwitchesComplete := by
  intro s c
  refine ⟨fun v hv => ?_, fun v hv => if_pos hv, fun v hls hlo hhi => ?_, fun v hls hv hopen => ?_,
    fun hm hl => ⟨fun why => ?_, fun hon => ?_, fun celsius => ?_, fun mJ avg hover => ?_⟩, fun mJ avg => ?_,
    fun avg hcool => ?_, fun mA hup hm => ?_, fun mA hopenOn hm hon hd => ?_, fun v hoffdiag hm hoff hd => ?_,
    fun v hm hoff hd => ?_, fun hd => ?_⟩
  · have h := s.loadSupplyBecomes_rest (s.loadSupplyAt v) v
    exact .intro (exec_loadSupplyChange_of_rated s hv)
      ⟨LoadSt.view_of_rest LoadSt.supply h, LoadSt.view_of_rest LoadSt.voltage h⟩
  · exact .intro (exec_ls24OvervoltSwitch_opens s hls hlo hhi) rfl
  · exact .intro (exec_ls24OvervoltSwitch_closes s hls hv hopen) ⟨rfl, State.until_now ..⟩
  · obtain ⟨hcode, -, hoff⟩ := s.latchLoad_trips c 1 (by decide) Ev.LS_OVERLOAD [.u8 why] hm hl
    exact .intro (exec_lsOverload ..) ⟨hcode, hoff⟩
  · exact exec_inrushWindowEnd_inLimit s c hm hl hon
  · exact .intro (exec_lsOvertemp ..) (s.latchLoad_trips c 5 (by decide) Ev.LS_OVERTEMP [.u8 celsius] hm hl)
  · obtain ⟨t, ht, hload⟩ := exec_clampPulse_load s c mJ avg
    rw [if_pos hover] at hload
    refine .intro ht ?_
    rw [hload]
    exact s.clampMeasured_latchLoad c mJ avg hm hl _ _
  · obtain ⟨t, ht, hmeasured⟩ := exec_clampPulse_measured s c mJ avg
    exact .intro ht ⟨congrArg (·.2.1) hmeasured, congrArg (·.2.2) hmeasured⟩
  · obtain ⟨u, hu, hback⟩ := exec_clampHoldEnd_of_cooled s c hcool
    exact .intro hu ((LoadChSt.view_of_unswitched LoadChSt.holdingBack (u.loadFollow_unswitched c)).trans hback)
  · exact .intro (exec_wireModelUpdate ..) (s.wireSteps_chan c mA hm hup)
  · exact .intro (by rw [exec_lsOpenOn, execLsOpenOn, if_pos hopenOn])
      (s.loadDiagnose_diag c true 3 _ _ hm hon hd)
  · exact .intro (by rw [exec_lsOpenOff, execLsOpenOff, if_pos hoffdiag])
      (s.loadDiagnose_diag c false 4 _ _ hm hoff hd)
  · exact .intro (exec_lsShortSupply ..) (s.loadDiagnose_diag c false 6 _ _ hm hoff hd)
  · refine .intro (exec_lsDiagCleared_of_diag s c hd) ⟨?_, .of_raise rfl rfl (by simp)⟩
    rw [State.raise_loadChan, State.modLoad_chan]

end Sys2Proof.Machine
end

section
/-!
The commands on the demands of load channels, their re-arming, the safe states and the configuration (R173, R176 to
R178, R180).
-/

namespace Sys2Proof.Machine

/-! ### Masks of channels -/

theorem mem_maskChans {m : BitVec 12} {c : LoadCh} : c ∈ maskChans m ↔ m.getLsbD c.val = true := by
  simp [maskChans]

theorem maskChans_nodup (m : BitVec 12) : (maskChans m).Nodup := (List.nodup_finRange 12).filter _

/-- The mask of a command names channel c by its bit c − 1, below the bits 15 to 12 that it leaves clear. -/
theorem mem_maskChans_setWidth {mask : BitVec 16} {c : LoadCh} :
    c ∈ maskChans (mask.setWidth 12) ↔ mask.getLsbD c.val = true := by
  rw [mem_maskChans, BitVec.getLsbD_setWidth, decide_eq_true c.isLt, Bool.true_and]

theorem chansMask_of_none {f : LoadCh → Bool} (h : ∀ c, f c = false) : chansMask f = 0 := by
  obtain rfl : f = fun _ => false := funext h
  decide

section
variable (s : State)

/-- No channel of the mask fails the owner check. -/
theorem State.find_loadNotOwned (r : Req) (mask : BitVec 16)
    (h : ∀ c : LoadCh, mask.getLsbD c.val = true → s.loadNotOwned r c = false) :
    (maskChans (mask.setWidth 12)).find? (s.loadNotOwned r) = none :=
  List.find?_eq_none.mpr fun c hc => by simp [h c (mem_maskChans_setWidth.mp hc)]

/-! ### Demands (R176) -/

/-- The channels of a mask take the demands of OP_LOAD_SET. -/
def State.setLoads (s : State) (mask state : BitVec 12) : State :=
  s.each (maskChans mask) fun s c =>
    (s.setLoadDemand c (state.getLsbD c.val)).modLoad c fun x => { x with owned := true }

theorem State.setLoads_demand (mask state : BitVec 12) {c : LoadCh} (hc : c ∈ maskChans mask) :
    (s.setLoads mask state).load.chan[c].demand = state.getLsbD c.val := by
  obtain ⟨u, -, hafter⟩ := SameLoad.each_of_mem
    (f := fun s c => (s.setLoadDemand c (state.getLsbD c.val)).modLoad c fun x => { x with owned := true })
    (fun _ _ hc => (SameLoad.refl.modLoad hc _).modLoad hc _) (maskChans_nodup mask) hc s
  unfold State.setLoads
  rw [hafter.chan, State.modLoad_chan, State.setLoadDemand, State.modLoad_chan]

/-- A set of channels that the party owns and nothing blocks waits for the module's report, with its demands made. -/
theorem State.doLoadSet_of_free (r : Req) (mask state : BitVec 16) (hmask : loadMaskBad mask = false)
    (h : ∀ c : LoadCh, mask.getLsbD c.val = true → s.loadNotOwned r c = false ∧ s.loadBlocked c = false) :
    ∃ (u : State) (p : PendingLoadSet), p.req = r ∧ p.mask = mask.setWidth 12 ∧
      p.state = state.setWidth 12 &&& mask.setWidth 12 ∧
      s.doLoadSet r mask state = (u.setLoads (mask.setWidth 12) (state.setWidth 12)).modLoads fun x =>
        { x with setPending := x.setPending ++ [p] } := by
  have hfree : ∀ c : LoadCh, ((mask.setWidth 12).getLsbD c.val && s.loadBlocked c) = false := by
    intro c
    by_cases hc : c ∈ maskChans (mask.setWidth 12)
    · rw [(h c (mem_maskChans_setWidth.mp hc)).2, Bool.and_false]
    · rw [Bool.eq_false_of_not_eq_true (mem_maskChans.not.mp hc), Bool.false_and]
  unfold State.doLoadSet
  extract_lets opc mask12 state12 bad olds rest s1 before s2
  rw [if_neg (by simp [hmask]), s.find_loadNotOwned r mask fun c hc => (h c hc).1]
  dsimp only
  rw [if_neg (not_not_intro (chansMask_of_none hfree))]
  exact ⟨s1, _, rfl, rfl, rfl, rfl⟩

/-! ### Re-arming (R173) -/

/-- The latched channels of a mask. -/
def State.latchedOf (s : State) (mask : BitVec 12) : List LoadCh :=
  (maskChans mask).filter fun c => s.load.chan[c].latched != 0

theorem State.mem_latchedOf {mask : BitVec 16} {c : LoadCh} :
    c ∈ s.latchedOf (mask.setWidth 12) ↔ mask.getLsbD c.val = true ∧ s.load.chan[c].latched ≠ 0 := by
  rw [State.latchedOf, List.mem_filter, mem_maskChans_setWidth, bne_iff_ne]

theorem State.loadRearm_chan (c : LoadCh) (p : Nat) :
    (s.loadRearm c p).load.chan[c] = { s.load.chan[c] with rearm := true, cycledOff := false } := by
  rw [State.loadRearm, State.raise_loadChan, State.modLoad_chan]

/-- Each channel of a list is re-armed. -/
theorem State.each_loadRearm_chan {l : List LoadCh} (hn : l.Nodup) (p : Nat) {c : LoadCh} (hc : c ∈ l) :
    (s.each l fun s c => s.loadRearm c p).load.chan[c].rearm = true ∧
      (s.each l fun s c => s.loadRearm c p).load.chan[c].cycledOff = false := by
  obtain ⟨u, -, hafter⟩ := SameLoad.each_of_mem (f := fun s c => s.loadRearm c p)
    (fun _ _ hc => (SameLoad.refl.modLoad hc _).raise _ _) hn hc s
  rw [hafter.chan, State.loadRearm_chan]
  exact ⟨rfl, rfl⟩

/-- Where every latched channel of the mask meets its conditions, all of them are re-armed, and the command waits. -/
theorem State.doLoadRearm_of_cooled (r : Req) (mask : BitVec 16) (hmask : loadMaskBad mask = false)
    (hown : ∀ c : LoadCh, mask.getLsbD c.val = true → s.loadNotOwned r c = false)
    (hsome : ∃ c : LoadCh, mask.getLsbD c.val = true ∧ s.load.chan[c].latched ≠ 0)
    (hcool : ∀ c : LoadCh, mask.getLsbD c.val = true → s.load.chan[c].latched ≠ 0 → s.loadCooled c = true) :
    s.doLoadRearm r mask =
      (s.each (s.latchedOf (mask.setWidth 12)) fun s c => s.loadRearm c (Party.code r.party)).modLoads fun x =>
        { x with rearmPending := x.rearmPending ++ [(r, mask.setWidth 12)] } := by
  have hmet : ∀ c : LoadCh, ((s.latchedOf (mask.setWidth 12)).contains c && !s.loadCooled c) = false := by
    intro c
    by_cases hc : c ∈ s.latchedOf (mask.setWidth 12)
    · obtain ⟨hbit, hl⟩ := s.mem_latchedOf.mp hc
      rw [hcool c hbit hl, Bool.not_true, Bool.and_false]
    · rw [List.contains_eq_mem, decide_eq_false hc, Bool.false_and]
  have hne : (s.latchedOf (mask.setWidth 12)).isEmpty = false := by
    obtain ⟨c, hc⟩ := hsome
    exact List.isEmpty_eq_false_iff_exists_mem.mpr ⟨c, s.mem_latchedOf.mpr hc⟩
  unfold State.doLoadRearm
  extract_lets opc mask12 latched bad
  rw [if_neg (by simp [hmask]), s.find_loadNotOwned r mask hown]
  dsimp only
  have hbad : bad = 0 := chansMask_of_none hmet
  have hlatched : latched.isEmpty = false := hne
  rw [if_neg (not_not_intro hbad), if_neg (by simp [hlatched])]
  rfl

theorem exec_rearmDue_load (c : LoadCh) : exec (.rearmDue true (loadNo c)) s = .next (s.loadRearmEvent c) := by
  have hk : asFin 12 (loadNo c - 1) = some c := dif_pos c.isLt
  rw [exec_rearmDue, execRearmDue, if_pos rfl, hk]
  exact congrArg _ (if_neg (Nat.succ_ne_zero _))

/-- A latched channel that was demanded off and on again is re-armed, not before 100 ms have passed since the trip,
and after a wire trip not before H is below 0.4. -/
theorem State.loadRearmEvent_of_cycled (c : LoadCh) (hl : s.load.chan[c].latched ≠ 0)
    (hd : s.load.chan[c].demand = true) (hc : s.load.chan[c].cycledOff = true)
    (hwire : s.load.chan[c].latched ≠ 2 ∨ 10 * s.load.chan[c].heat < 4 * heatUnit) :
    ∃ (u : State) (p : Nat), s.loadRearmEvent c = u.loadRearm c p ∧
      u.now = max s.now (s.load.chan[c].trippedAt + 100 * msec) := by
  have hnow := s.until_now (s.load.chan[c].trippedAt + 100 * msec)
  have hload := s.until_load (s.load.chan[c].trippedAt + 100 * msec)
  unfold State.loadRearmEvent
  generalize s.until (s.load.chan[c].trippedAt + 100 * msec) = u at hnow hload ⊢
  extract_lets s1
  have hchan : s1.load.chan[c] = { s.load.chan[c] with hot := false } := by
    unfold s1
    rw [State.modLoad_chan, hload]
  have hnow1 : s1.now = max s.now (s.load.chan[c].trippedAt + 100 * msec) := (State.modLoad_now ..).trans hnow
  clear_value s1
  have hwaited : 100 * msec ≤ s1.since s.load.chan[c].trippedAt := by
    rw [State.since, hnow1]
    omega
  have hcooled : s1.loadCooled c = true := by
    simpa [State.loadCooled, hchan, hwaited, -Fin.getElem_fin] using hwire
  have hdue : s1.loadRearmDue c = true := by
    simp [State.loadRearmDue, hchan, hl, hd, hc, hcooled, -Fin.getElem_fin]
  exact ⟨s1, _, if_pos hdue, hnow1⟩

/-! ### Safe states (R177, R178) -/

/-- Where they are neither applied nor held off, the module applies its safe states and the channels follow. -/
theorem State.loadSafe_load (hs : s.load.safe = false) (hh : s.load.hold = false)
    (happ : s.load.appliedAny = true) :
    s.loadSafe.load = (s.modLoads fun x => { x with safe := true }).loadsFollow.load := by
  unfold State.loadSafe
  rw [if_neg (by simp [hs, hh, happ])]
  exact State.raise_load ..

/-! ### Configuration (R180) -/

/-- The module with its staged set applied and its power side up. -/
def LoadSt.stagedApplied (k : LoadSt) : LoadSt :=
  { k with applied := k.staged.map fun v => v.getD 0, appliedAny := true, powerUp := true }

/-- The staged set is applied, whatever the channels then do. -/
theorem State.applyLoad_rest : s.applyLoad.load.rest = s.load.stagedApplied.rest := by
  unfold State.applyLoad
  extract_lets first s1 s2
  have h2 : s2.load.rest = s1.load.rest := by
    unfold s2
    split
    · exact State.each_same (fun s => s.load.rest) _ _ (fun s c _ => s.modLoad_rest c _) s1
    · rfl
  rw [State.loadsFollow_rest, h2]
  rfl

/-- The power side comes up with every wire model at 0.4 (R168). -/
theorem State.applyLoad_heat (happ : s.load.appliedAny = false) (c : LoadCh) :
    s.applyLoad.load.chan[c].heat = 4 * 10 ^ 11 := by
  unfold State.applyLoad
  extract_lets first s1 s2
  rw [LoadChSt.view_of_unswitched LoadChSt.heat (s2.loadsFollow_unswitched c)]
  obtain ⟨u, -, hafter⟩ := SameLoad.each_of_mem
    (f := fun s c => s.modLoad c fun x => { x with heat := 4 * 10 ^ 11, warned := false, on := false })
    (fun _ _ hc => SameLoad.refl.modLoad hc _) (List.nodup_finRange 12) (List.mem_finRange c) s1
  unfold s2
  rw [if_pos (by simp [first, happ]), hafter.chan, State.modLoad_chan]

theorem State.loadMismatch_slot :
    s.loadMismatch.frame.slots[l0Slot].inService = false ∧
      s.loadMismatch.frame.slots[l0Slot].heldOut = some .config := by
  simp [State.loadMismatch]

end

/-- Settles O25: a command on demands by its list of channels, the safe states and the configuration by the module. -/
theorem loadCommandsComplete : Obligations.LoadCommandsComplete := by
  intro s r mask state
  refine ⟨fun hmask h => ?_, fun hmask hown hsome hcool => ?_, fun c hl hd hc hwire => ?_, fun hs hh happ => ?_,
    fun h => ?_, .intro (exec_lsConfigMismatch s) s.loadMismatch_slot⟩
  · obtain ⟨u, p, hr, hm, hst, hset⟩ := s.doLoadSet_of_free r mask state hmask h
    refine .intro (by rw [exec_opLoadSet, execOpLoadSet, hset]) ⟨⟨p, ?_, hr, hm, hst⟩, fun c hc => ?_⟩
    · rw [State.modLoads_load]
      exact List.mem_append_right _ (List.mem_singleton_self p)
    · rw [State.modLoads_load, u.setLoads_demand _ _ (mem_maskChans_setWidth.mpr hc), BitVec.getLsbD_setWidth,
        decide_eq_true c.isLt, Bool.true_and]
  · refine .intro (by rw [exec_opLoadRearm, execOpLoadRearm, s.doLoadRearm_of_cooled r mask hmask hown hsome hcool])
      ⟨?_, fun c hc hl => ?_⟩
    · rw [State.modLoads_load]
      exact List.mem_append_right _ (List.mem_singleton_self _)
    · exact s.each_loadRearm_chan ((maskChans_nodup _).filter _) _ (s.mem_latchedOf.mpr ⟨hc, hl⟩)
  · obtain ⟨u, p, hrearm, hnow⟩ := s.loadRearmEvent_of_cycled c hl hd hc hwire
    refine .intro (exec_rearmDue_load s c) ?_
    rw [hrearm, u.loadRearm_chan c p]
    exact ⟨rfl, rfl, (State.raise_now ..).trans hnow⟩
  · refine .intro (exec_lsSafeState s) ?_
    rw [s.loadSafe_load hs hh happ]
    refine ⟨LoadSt.view_of_rest LoadSt.safe (State.loadsFollow_rest _), fun c h0 => ?_⟩
    rw [State.loadsFollow_on]
    exact State.loadWants_of_safeOff _ c hh rfl h0
  · have hrest := s.applyLoad_rest
    exact .intro (by rw [exec_lsConfigApply, execLsConfigApply, if_pos h])
      ⟨LoadSt.view_of_rest LoadSt.powerUp hrest, LoadSt.view_of_rest LoadSt.appliedAny hrest,
        LoadSt.view_of_rest LoadSt.applied hrest, fun happ c => s.applyLoad_heat happ c⟩

end Sys2Proof.Machine
end

section
/-!
What each operation of chapter 08 makes of the supply, as an equation of the whole sub-structure, from the first step of
a shut-down to the state OFF. The proofs run one after another, within the check's memory.
-/

set_option Elab.async false

namespace Sys2Proof.Machine

/-! ### What is read of the supply -/

section
variable {s t : State}

theorem State.anyPm_congr (hf : t.frame.slots = s.frame.slots) (hp : t.supply.pm = s.supply.pm) :
    t.anyPm = s.anyPm := by
  simp only [State.anyPm, State.pmGood, State.inService, hf, hp]

theorem State.svcPower_congr (h : t.supply.sinks = s.supply.sinks) : t.svcPower = s.svcPower := by
  simp only [State.svcPower, h]

end

section
variable (s : State)

/-! ### Operations that leave the supply alone -/

@[simp] theorem State.rampStop_supply (a : Axis) : (s.rampStop a).supply = s.supply := (s.rampStop_keeps a).supply_eq
@[simp] theorem State.lossAction_supply (d : Doorway) : (s.lossAction d).supply = s.supply :=
  (s.lossAction_keeps d).supply_eq
@[simp] theorem State.loopDrop_supply (c : CoreId) (cause : Nat) : (s.loopDrop c cause).supply = s.supply :=
  (s.loopDrop_keeps c cause).supply_eq
@[simp] theorem State.dropLinks_supply (p : HostPort) : (s.dropLinks p).supply = s.supply :=
  (s.dropLinks_keeps p).supply_eq
@[simp] theorem State.loseClaims_supply (p : Party) (reason : Nat) : (s.loseClaims p reason).supply = s.supply :=
  (s.loseClaims_keeps p reason).supply_eq
@[simp] theorem State.cancelSched_supply : s.cancelSched.supply = s.supply := s.cancelSched_keeps.supply_eq
@[simp] theorem State.beginBudget_supply (n : Nat) : (s.beginBudget n).supply = s.supply :=
  (s.beginBudget_keeps n).supply_eq
@[simp] theorem State.abortWindow_supply (cause : Nat) : (s.abortWindow cause).supply = s.supply :=
  (s.abortWindow_keeps cause).supply_eq
@[simp] theorem State.judgeTiers_supply (cause : Nat) : (s.judgeTiers cause).supply = s.supply :=
  (s.judgeTiers_keeps cause).supply_eq
@[simp] theorem State.endCycle_supply (d : Doorway) (kind : Nat) : (s.endCycle d kind).supply = s.supply :=
  (s.endCycle_keeps d kind).supply_eq
@[simp] theorem State.flushJournal_supply : s.flushJournal.supply = s.supply := s.flushJournal_keeps.supply_eq
@[simp] theorem State.lastGasp_supply (cause : Nat) : (s.lastGasp cause).supply = s.supply :=
  (s.lastGasp_keeps cause).supply_eq
@[simp] theorem State.park_supply : s.park.supply = s.supply := s.park_keeps.supply_eq
@[simp] theorem State.sendHold_supply : s.sendHold.supply = s.supply := s.sendHold_keeps.supply_eq
@[simp] theorem State.releaseHeld_supply : s.releaseHeld.supply = s.supply := s.releaseHeld_keeps.supply_eq
@[simp] theorem State.coreOff_supply (c : CoreId) : (s.coreOff c).supply = s.supply := (s.coreOff_keeps c).supply_eq
@[simp] theorem State.endSession_supply (c : CoreId) (reason : Nat) : (s.endSession c reason).supply = s.supply :=
  (s.endSession_keeps c reason).supply_eq
@[simp] theorem State.svcCores_supply : s.svcCores.supply = s.supply := s.svcCores_keeps.supply_eq

theorem State.each_supply {α : Type} (f : State → α → State) (l : List α)
    (h : ∀ (s : State) (a : α), (f s a).supply = s.supply) : (s.each l f).supply = s.supply :=
  State.each_same State.supply f l (fun s a _ => h s a) s

/-! ### Steps of a shut-down (R194 to R198) -/

/-- Step `k` runs from the time given. -/
def SupplySt.stepped (u : SupplySt) (k : ShutStep) (now : Nat) : SupplySt := { u with step := some k, stepFrom := now }

@[simp] theorem State.beginStep_supply (k : ShutStep) : (s.beginStep k).supply = s.supply.stepped k s.now := by
  unfold State.beginStep
  rw [State.raise_supply, State.modSupply_supply, SupplySt.stepped]

@[simp] theorem State.beginStep_now (k : ShutStep) : (s.beginStep k).now = s.now := (s.beginStep_keeps k).now_eq

theorem State.beginS2_supply : s.beginS2.supply = s.supply.stepped .s2 s.now := by
  unfold State.beginS2
  extract_lets s1
  have h1 : s1.supply = s.supply.stepped .s2 s.now := s.beginStep_supply .s2
  split
  · rw [State.each_supply _ _ _ State.rampStop_supply, h1]
  · exact h1

/-- The sequence begins: its form is chosen, and nothing has ended S1 to S3 yet. -/
def SupplySt.begun (u : SupplySt) (compressed : Bool) (now cancelled : Nat) : SupplySt :=
  { u with compressed := compressed, capped := false, byReserve := false, s1At := now, cancelled := cancelled }

/-- S1 ends at once, so the sequence begins with S2. -/
theorem State.beginShutdown_supply : s.beginShutdown.supply =
    ((s.supply.begun (!s.energy.ready) s.now s.time.sched.length).stepped .s1 s.now).stepped .s2 s.now := by
  unfold State.beginShutdown
  extract_lets compressed s1 s2 s3
  have h2 : s2.supply = (s.supply.begun compressed s.now s.time.sched.length).stepped .s1 s.now := by
    simp only [s2, s1, State.cancelSched_supply, State.beginStep_supply, State.modSupply_supply, State.modSupply_now,
      SupplySt.begun]
  have hn2 : s2.now = s.now := (State.cancelSched_keeps _).now_eq.trans (State.beginStep_now ..)
  have h3 : s3.supply = s2.supply ∧ s3.now = s2.now := by
    unfold s3
    split
    · exact ⟨rfl, rfl⟩
    · exact ⟨State.each_supply _ _ _ State.lossAction_supply,
        State.each_same State.now _ _ (fun s d _ => (s.lossAction_keeps d).now_eq) _⟩
  obtain ⟨hs3, hn3⟩ := h3
  rw [State.beginS2_supply, hs3, hn3, h2, hn2]

/-- The record of the doorways and axes is committed (R199). -/
theorem State.commitShutdown_supply (kind target from_ cycleEnd : Nat) :
    ∃ r, (s.commitShutdown kind target from_ cycleEnd).supply = { s.supply with record := some r } := by
  unfold State.commitShutdown
  extract_lets s1 r s2
  have h2 : s2.supply = s.supply := by
    unfold s2
    rw [(State.stage_keeps ..).supply_eq, (State.saveRestart_keeps _).supply_eq]
    exact State.each_supply _ _ _ fun s d => s.endCycle_supply d cycleEnd
  exact ⟨r, congrArg (fun u : SupplySt => { u with record := some r }) h2⟩

theorem State.beginS4_supply :
    ∃ r, s.beginS4.supply = { s.supply.stepped .s4 s.now with record := some r } := by
  unfold State.beginS4
  obtain ⟨r, hr⟩ := State.commitShutdown_supply ((s.beginStep .s4).beginBudget 3)
    (if s.supply.compressed then 2 else 1) 0 s.supply.lossAt 1
  exact ⟨r, by rw [hr, State.beginBudget_supply, State.beginStep_supply]⟩

/-- The test of R197 with no feed back. -/
theorem State.toS4_of_noPm (h : s.anyPm = false) : s.toS4 = s.beginS4 := by
  unfold State.toS4
  rw [if_neg (by simp [h])]

/-- The supply loss is over. -/
def SupplySt.restored (u : SupplySt) : SupplySt := { u with onStore := false, step := none, compressed := false }

@[simp] theorem State.lossEnds_supply : s.lossEnds.supply = s.supply.restored := rfl

/-- The test of R197 with a feed back: the sequence is abandoned. -/
theorem State.toS4_of_anyPm (h : s.anyPm = true) : s.toS4.supply = s.supply.restored := by
  unfold State.toS4
  rw [if_pos h]
  extract_lets k
  rw [State.raise_supply, State.lossEnds_supply]

/-- The host rails of both power modules are off (R196). -/
def SupplySt.railsOff (u : SupplySt) : SupplySt :=
  { u with hostRailsOff := true, pm := mapV u.pm fun _ p => { p with rails := .replicate 2 false } }

@[simp] theorem State.hostRailsOff_supply : s.hostRailsOff.supply = s.supply.railsOff := by
  unfold State.hostRailsOff
  extract_lets u s1 s2
  have h2 : s2.supply = s1.supply := State.each_supply _ _ _ fun s p => s.modPort_supply p _
  exact (State.each_supply _ _ _ fun s k => s.modSlot_supply k _).trans h2

/-- Neither host slot has its rails on. -/
theorem State.hostRailsOff_slot {k : Slot} (h : k = 5 ∨ k = 6) :
    s.hostRailsOff.frame.slots[k].railsOn = false ∧ s.hostRailsOff.frame.slots[k].inService = false := by
  unfold State.hostRailsOff
  extract_lets u s1 s2
  refine State.each_brings (P := fun t => t.frame.slots[k].railsOn = false ∧ t.frame.slots[k].inService = false)
    (a := k) (by simpa using h) (fun t => ?_) (fun t ht j _ => ?_) s2
  · rw [State.modSlot_frame_slots, updV_self]
    exact ⟨rfl, rfl⟩
  · rw [State.modSlot_frame_slots]
    by_cases hj : j = k
    · rw [hj, updV_self]
      exact ⟨rfl, rfl⟩
    · rw [updV_other _ _ _ _ hj]
      exact ht

/-- Coils shorted on every axis (S5). -/
theorem State.park_parked : s.park.power.parked = true ∧ ∀ a : Axis, s.park.axes[a].driving = false := by
  unfold State.park
  refine ⟨State.each_same (fun t => t.power.parked) _ _
    (fun s a _ => congrArg PowerSt.parked (s.modAxis_power a _)) _, fun a => ?_⟩
  refine State.each_brings (P := fun t => t.axes[a].driving = false) (List.mem_finRange a) (fun t => ?_)
    (fun t ht b _ => ?_) _
  · rw [State.modAxis_axis]
  · rw [State.modAxis_axes]
    by_cases hb : b = a
    · rw [hb, updV_self]
    · rw [updV_other _ _ _ _ hb, ht]

/-- The hold flag is in the commands of both field modules and of the load module (S6). -/
theorem State.sendHold_holds :
    s.sendHold.load.holdCmd = true ∧ ∀ m : Fin 2, s.sendHold.field.mods[m].holdDown = true := by
  unfold State.sendHold
  refine ⟨rfl, fun m => ?_⟩
  refine State.each_brings (P := fun t => t.field.mods[m].holdDown = true)
    (List.mem_finRange (n := 2) m) (fun t => ?_) (fun t ht j _ => ?_) s
  · rw [State.modFieldMod_mod]
  · rw [State.modFieldMod_field_mods]
    by_cases hj : j = m
    · rw [hj, updV_self]
    · rw [updV_other _ _ _ _ hj, ht]

/-! ### OFF (S7, R205) -/

/-- The sequence is over and the frame is off. -/
def SupplySt.ended (u : SupplySt) : SupplySt := { u with step := none, onStore := false }

@[simp] theorem State.frameOff_supply : s.frameOff.supply = s.supply.ended := by
  unfold State.frameOff
  extract_lets s1 s2
  have h2 : s2.supply = s.supply := by
    simp only [s2, s1, State.modPower_supply, State.modPair_supply, State.coreOff_supply, State.releaseHeld_supply]
  exact congrArg SupplySt.ended h2

theorem State.frameOff_state : s.frameOff.power.state = .off := rfl

theorem State.coreOff_core (c : CoreId) : (s.coreOff c).pair.core[c].present = false := by
  unfold State.coreOff
  extract_lets s1 s2
  rw [State.modSlot_pair, State.modSession_pair, State.modCore_pair_core, updV_self]

theorem State.coreOff_present_of_absent (c j : CoreId) (h : s.pair.core[j].present = false) :
    (s.coreOff c).pair.core[j].present = false := by
  by_cases hj : c = j
  · rw [← hj, State.coreOff_core]
  · unfold State.coreOff
    extract_lets s1 s2
    have h1 : s1.pair.core = s.pair.core := by
      unfold s1
      split
      · exact (s.loopDrop_keeps c 1).core_eq
      · rfl
    rw [State.modSlot_pair, State.modSession_pair, State.modCore_pair_core, updV_other _ _ _ _ hj, h1, h]

/-- No core is powered in a frame that is off. -/
theorem State.frameOff_present (c : CoreId) : s.frameOff.pair.core[c].present = false := by
  have hc : ((s.releaseHeld.coreOff 0).coreOff 1).pair.core[c].present = false := by
    by_cases h : c = 0
    · exact State.coreOff_present_of_absent _ 1 c (h ▸ State.coreOff_core ..)
    · rw [Fin.eq_one_of_ne_zero c h, State.coreOff_core]
  exact hc

/-- With no contract of 7 W, S7 ends in OFF with the host rails off. -/
theorem State.beginS7_of_unpowered (h : s.svcPower < 7000) :
    ∃ u : State, s.beginS7 = u.frameOff ∧ u.supply.hostRailsOff = true := by
  unfold State.beginS7
  extract_lets s1 s2 s3 s4
  have h2 : s2.supply = s.supply.stepped .s7 s.now := by
    refine (State.each_supply _ _ _ fun s c => ?_).trans (s.beginStep_supply .s7)
    split
    · exact s.loopDrop_supply c 1
    · rfl
  have h3 : s3.supply = (s.supply.stepped .s7 s.now).railsOff := by
    simp only [s3, State.dropLinks_supply, State.hostRailsOff_supply, h2]
  have h4 : s4.supply = { s3.supply with cleanOff := s3.supply.record.isSome } := by
    simp only [s4, State.modSupply_supply, State.loseClaims_supply]
  have hsinks : s4.supply.sinks = s.supply.sinks := by rw [h4, h3]; rfl
  have hpower : ¬7000 ≤ s4.svcPower := by
    rw [State.svcPower_congr hsinks]
    exact Nat.not_le.mpr h
  exact ⟨s4, if_neg hpower, by rw [h4, h3]; rfl⟩

end

end Sys2Proof.Machine
end

section
/-!
Feeds, sharing and overload (Table SU-3, R185 to R191): a feed's next state at a voltage, and what a change of state
leaves of the power module when a running core reads it. The proofs run one after another, within the check's memory.
-/

set_option Elab.async false

namespace Sys2Proof.Machine

/-! ### A supply loss leaves the power modules alone (R193) -/

section
variable (s : State)

theorem State.supplyLoss_pm (feeds : Nat) : (s.supplyLoss feeds).supply.pm = s.supply.pm := by
  unfold State.supplyLoss
  extract_lets ride s1 s2
  have h2 : s2.supply = { s.supply with onStore := true, lossAt := s.now } := by
    simp only [s2, s1, State.abortWindow_supply, State.raise_supply, State.modEnergy_supply, State.modSupply_supply]
  clear_value s2
  split
  · rw [State.beginShutdown_supply, h2]
    rfl
  · rw [h2]

@[simp] theorem State.svcApply_pm : s.svcApply.supply.pm = s.supply.pm := id rfl

theorem State.judgeSupply_pm (p : Fin 2) (was : Nat) : (s.judgeSupply p was).supply.pm = s.supply.pm := by
  unfold State.judgeSupply
  extract_lets supplied runs s1
  rw [State.svcApply_pm, State.judgeTiers_supply]
  unfold s1
  split
  · exact s.supplyLoss_pm was
  · split
    · rfl
    · rfl

/-! ### A change of state and its report (R187 to R189) -/

theorem State.modPm_pm (p : Fin 2) (f : PmSt → PmSt) : (s.modPm p f).supply.pm[p] = f s.supply.pm[p] :=
  updV_self _ _ _

/-- A core has read this state and voltage in a report. -/
def PmSt.reported (x : PmSt) (new : Feed) (v : Int) : PmSt := { x with repFeed := new, repVIn := v }

/-- The core takes the state and the voltage from the report, whatever it then makes of them. -/
theorem State.feedReported_pm (p : Fin 2) (new : Feed) (v : Int) :
    (s.feedReported p new v).supply.pm[p] = s.supply.pm[p].reported new v := by
  unfold State.feedReported
  extract_lets old was s1 s2 s3 s4
  have h1 : s1.supply.pm[p] = s.supply.pm[p].reported new v := s.modPm_pm p _
  have h3 : s3.supply = s1.supply := by
    unfold s3
    split
    · simp only [s2, State.raise_supply]
    · simp only [s2, State.raise_supply]
    · exact State.raise_supply ..
  have h4 : s4.supply = s1.supply := by
    unfold s4
    split
    · rw [State.raise_supply, h3]
    · exact h3
  clear_value s1 s4
  split
  · exact h1
  · simp only [State.judgeSupply_pm, h4, h1]

/-- What a power module judges of its feed. -/
def PmSt.judged (x : PmSt) : Feed × Int × Bool := (x.feed, x.vIn, x.energised)

variable (p : Fin 2) (new : Feed) (v : Int)

/-- The module's own judgement stands, whether or not a core reads it. -/
theorem State.feedBecomes_judged :
    (s.feedBecomes p new v).supply.pm[p].judged = (new, v, s.supply.pm[p].energised) := by
  unfold State.feedBecomes
  extract_lets restart s1 gone
  have h1 : s1.supply.pm[p].judged = (new, v, s.supply.pm[p].energised) := congrArg PmSt.judged (s.modPm_pm p _)
  split
  · rw [State.feedReported_pm]
    exact h1
  · split
    · exact h1
    · exact h1

/-- A running core has the new state in its report. -/
theorem State.feedBecomes_repFeed (h : s.coreReads = true) : (s.feedBecomes p new v).supply.pm[p].repFeed = new := by
  unfold State.feedBecomes
  extract_lets restart s1 gone
  rw [if_pos h, State.feedReported_pm, PmSt.reported]

theorem State.feedBecomes_now : (s.feedBecomes p new v).now = s.now := (s.feedBecomes_keeps p new v).now_eq

/-! ### Power-up (R185 to R187) -/

/-- The module as its input is energised: STOPPED, with no voltage judged. -/
def PmSt.poweredUp (x : PmSt) : PmSt := { x with energised := true, feed := .stopped, vIn := 0, band := false }

theorem State.unOf_modPm (f : PmSt → PmSt) (h : ∀ x, (f x).unCode = x.unCode) : (s.modPm p f).unOf p = s.unOf p := by
  unfold State.unOf
  rw [State.modPm_pm, h]
  rfl

theorem State.aboveStart_modPm (f : PmSt → PmSt) (h : ∀ x, (f x).unCode = x.unCode) :
    (s.modPm p f).aboveStart p v = s.aboveStart p v := by
  rw [State.aboveStart, s.unOf_modPm p f h, State.aboveStart]

variable {s p v}

/-- 0.72 Un is positive. -/
theorem State.nonneg_of_aboveStart (h : s.aboveStart p v = true) : 0 ≤ v := by
  have h := of_decide_eq_true h
  omega

/-- A feed that was STOPPED without a band, at a voltage below the stop level of the input stage (Table SU-3). -/
theorem State.nextFeed_of_stopped (hf : s.supply.pm[p].feed = .stopped) (hb : s.supply.pm[p].band = false)
    (ha : s.aboveStopLevel p v = false) :
    s.nextFeed p v = if v < -50 then .reversed else if s.aboveStart p v then .qualifying else .stopped := by
  unfold State.nextFeed
  extract_lets x started
  rw [ha, show x.feed = .stopped from hf, show x.band = false from hb, if_neg Bool.false_ne_true]
  by_cases h : s.aboveStart p v = true
  · simp [h]
  · simp [h]

/-- A module that is energised judges its feed at once. -/
theorem exec_powerModuleEnergised_judged (ho : s.feedOverstress p v = false) (ha : s.aboveStopLevel p v = false) :
    ∃ t, exec (.powerModuleEnergised p v) s = .next t ∧ t.supply.pm[p].judged =
      (if v < -50 then .reversed else if s.aboveStart p v then .qualifying else .stopped, v, true) := by
  rw [exec_powerModuleEnergised, execPowerModuleEnergised, if_neg (by rw [ho]; exact Bool.false_ne_true)]
  extract_lets s0 band s1 s2
  have h0 : s0.supply.pm[p] = s.supply.pm[p].poweredUp := s.modPm_pm p _
  have hnext : s0.nextFeed p v =
      if v < -50 then .reversed else if s.aboveStart p v then .qualifying else .stopped := by
    rw [State.nextFeed_of_stopped (s := s0) (by rw [h0, PmSt.poweredUp]) (by rw [h0, PmSt.poweredUp]) ha,
      show s0.aboveStart p v = s.aboveStart p v from s.aboveStart_modPm p v PmSt.poweredUp fun _ => rfl]
  have h1 : s1.supply.pm[p].judged = (s0.nextFeed p v, v, true) :=
    (s0.feedBecomes_judged p _ v).trans (by rw [h0, PmSt.poweredUp])
  have h2 := congrArg PmSt.judged (s1.modPm_pm p fun x => { x with band := band })
  refine ⟨_, rfl, ?_⟩
  rw [← hnext, ← h1]
  clear_value s1
  split
  · simp only [State.raise_supply]
    exact h2
  · exact h2

/-- A module in current limit is noted as such, and a report that is due is made (R191). -/
theorem exec_suOverload_limits (s : State) (p : Fin 2) (pOut rail : Nat) :
    ∃ t, exec (.suOverload p pOut rail) s = .next t ∧ t.supply.pm[p].currentLimit = true ∧
      (s.overloadDue p = true → t.supply.pm[p].overloadAt = some s.now ∧
        Raised s t Ev.SU_OVERLOAD [.u8 p.val, .u16 pOut, .u8 rail]) := by
  rw [exec_suOverload, execSuOverload]
  refine ⟨_, rfl, ?_⟩
  by_cases hdue : s.overloadDue p = true
  · rw [if_pos hdue, State.raise_supply, State.modPm_pm]
    exact ⟨rfl, fun _ => ⟨if_pos hdue, .of_raise rfl rfl (by simp)⟩⟩
  · rw [if_neg hdue, State.modPm_pm]
    exact ⟨rfl, fun h => absurd h hdue⟩

end

/-- Settles O26: each command of a feed by the judgement it leaves with the power module. -/
theorem feedsComplete : Obligations.FeedsComplete := by
  intro s p
  refine ⟨fun v ho ha => ?_, fun v ho hr => ?_, fun v ho => ⟨if_pos ho, if_pos ho⟩, fun hf _ => ?_, fun hf _ => ?_,
    fun share0 share1 => ?_, fun pOut rail => ?_⟩
  · obtain ⟨t, ht, hj⟩ := exec_powerModuleEnergised_judged ho ha
    have hfeed := congrArg Prod.fst hj
    refine .intro ht ⟨congrArg (·.2.2) hj, fun hs => ?_, fun hv hs => ?_, fun hv => ?_⟩
    · have hv := State.nonneg_of_aboveStart hs
      exact hfeed.trans (by rw [if_neg (by omega), if_pos hs])
    · exact hfeed.trans (by rw [if_neg (by omega), if_neg (by simp [hs])])
    · exact hfeed.trans (if_pos hv)
  · have hj := s.feedBecomes_judged p (s.nextFeed p v) v
    exact .intro (if_neg (by simp [ho]))
      ⟨congrArg Prod.fst hj, congrArg (·.2.1) hj, s.feedBecomes_repFeed p (s.nextFeed p v) v hr⟩
  · refine .intro (by rw [exec_feedQualified, execFeedQualified, hf]; rfl)
      ⟨congrArg Prod.fst (State.feedBecomes_judged ..), ?_⟩
    rw [State.feedBecomes_now, State.until_now]
  · refine .intro (by rw [exec_feedInterruptEnd, execFeedInterruptEnd, hf]; rfl)
      ⟨congrArg Prod.fst (State.feedBecomes_judged ..), ?_⟩
    rw [State.feedBecomes_now, State.until_now]
  · exact .intro (exec_shareFault ..) ⟨State.raise_supply .., .of_raise rfl rfl (by simp)⟩
  · exact exec_suOverload_limits s p pOut rail

end Sys2Proof.Machine
end

section
/-!
The shut-down sequence and the two starts (R193 to R200, R218): one lemma for what each step's end makes of the
state, and what a start keeps of the supply until RUN. The proofs run one after another, within the check's memory.
-/

set_option Elab.async false

namespace Sys2Proof.Machine

section
variable (s : State)

/-! ### The ends of steps (R194 to R198) -/

theorem exec_lossRideExpired_of_due (ho : s.supply.onStore = true) (hs : s.supply.step = none)
    (hp : s.anyPm = false) :
    ∃ u : State, exec .lossRideExpired s = .next u.beginShutdown ∧ u.energy = s.energy ∧
      u.now = max s.now (s.supply.lossAt + s.param 0x482 * msec) :=
  ⟨s.until (s.supply.lossAt + s.param 0x482 * msec),
    by rw [exec_lossRideExpired, execLossRideExpired, if_pos (by rw [ho, hs, hp]; rfl)],
    State.until_energy .., State.until_now ..⟩

theorem State.endStep_s1 (h : s.supply.step = some .s1) : s.endStep = s.beginS2 := by
  unfold State.endStep
  rw [h]

theorem State.endStep_s2 (h : s.supply.step = some .s2) (hc : s.supply.compressed = false) :
    s.endStep = s.beginStep .s3 := by
  unfold State.endStep
  rw [h]
  exact if_neg (by simp [hc])

theorem State.endStep_s3 (h : s.supply.step = some .s3) : s.endStep = s.toS4 := by
  unfold State.endStep
  rw [h]

/-- The axes are parked as S5 begins. -/
theorem State.endStep_s4 (h : s.supply.step = some .s4) :
    s.endStep.supply = s.supply.stepped .s5 s.flushJournal.now ∧ s.endStep.power.parked = true ∧
      ∀ a : Axis, s.endStep.axes[a].driving = false := by
  have hend : s.endStep = (((s.flushJournal.beginStep .s5).park).beginBudget 4).lastGasp 1 := by
    unfold State.endStep
    rw [h]
  obtain ⟨hp, ha⟩ := (s.flushJournal.beginStep .s5).park_parked
  have hk := ((s.flushJournal.beginStep .s5).park.beginBudget_keeps 4).comp (State.lastGasp_keeps _ 1)
  rw [hend, hk.supply_eq, hk.power_eq, hk.axes_eq, State.park_supply, State.beginStep_supply, State.flushJournal_supply]
  exact ⟨rfl, hp, ha⟩

/-- The hold is commanded as S6 begins. -/
theorem State.endStep_s5 (h : s.supply.step = some .s5) :
    s.endStep.supply = { s.supply.stepped .s6 s.now with padHold := true } ∧ s.endStep.load.holdCmd = true ∧
      ∀ m : Fin 2, s.endStep.field.mods[m].holdDown = true := by
  have hend : s.endStep = ((s.beginStep .s6).modSupply fun u => { u with padHold := true }).sendHold := by
    unfold State.endStep
    rw [h]
  rw [hend]
  exact ⟨by rw [State.sendHold_supply, State.modSupply_supply, State.beginStep_supply], State.sendHold_holds _⟩

theorem State.endStep_s6 (h : s.supply.step = some .s6) : s.endStep = s.beginS7 := by
  unfold State.endStep
  rw [h]

/-! ### The ends of S1 to S3 by the clock and by the reserve (R194, R218) -/

/-- With no feed back the longest time ends S1 to S3, and S4 begins. -/
theorem State.shutdownCap_of_noPm (h : s.inS1toS3 = true) (hp : s.anyPm = false) :
    ∃ u : State, s.shutdownCap = u.beginS4 ∧ u.supply.capped = true ∧
      u.now = max s.now (s.supply.s1At + s.param 0x483 * sec) := by
  unfold State.shutdownCap
  rw [if_pos h]
  extract_lets s1
  refine ⟨_, State.toS4_of_noPm _ ?_, ?_, ?_⟩
  · rw [← hp]
    exact State.anyPm_congr (by rw [State.raise_frame, State.modSupply_frame, State.until_frame])
      (by rw [State.raise_supply, State.modSupply_supply, State.until_supply])
  · rw [State.raise_supply, State.modSupply_supply]
  · rw [State.raise_now, State.modSupply_now, State.until_now]

theorem State.reserveEnds_of_noPm (h : s.inS1toS3 = true) (hp : s.anyPm = false) :
    s.reserveEnds = (s.modSupply fun u => { u with byReserve := true }).beginS4 := by
  unfold State.reserveEnds
  rw [if_pos h]
  exact State.toS4_of_noPm _ hp

theorem exec_hostHoldExpired_of_due (hs : s.supply.step.isSome = true) (hr : s.supply.hostRailsOff = false) :
    ∃ u : State, exec .hostHoldExpired s = .next u.hostRailsOff ∧
      u.now = max s.now (s.supply.s1At + s.param 0x484 * sec) :=
  ⟨s.until (s.supply.s1At + s.param 0x484 * sec),
    by rw [exec_hostHoldExpired, execHostHoldExpired, if_pos (by rw [hs, hr]; rfl)], State.until_now ..⟩

/-! ### A start begins (R198 to R200) -/

theorem State.judgeTime_sched : s.judgeTime.time.sched = s.time.sched := by
  unfold State.judgeTime
  extract_lets q old s1
  have h1 : s1.time.sched = s.time.sched := rfl
  split
  · exact h1
  · rw [State.raise_time, h1]

/-- The clock that starts keeps the scheduled actions there are. -/
theorem State.timeStart_sched (off : Nat) : (s.timeStart off).time.sched = s.time.sched := by
  unfold State.timeStart
  extract_lets free alive base steps now e sAlive last sUnset
  have hb : base.time.sched = s.time.sched := rfl
  have ha : sAlive.time.sched = base.time.sched := rfl
  have hu : sUnset.time.sched = base.time.sched := rfl
  clear_value sAlive sUnset
  split
  · rw [State.raise_time, State.judgeTime_sched, ha, hb]
  · rw [State.raise_time, State.judgeTime_sched, hu, hb]

/-- What the cores, the journal and the panel do after the units have started leaves the supply, the power state and
the scheduled actions. -/
theorem State.startFrame_rests (full : Bool) (k : WakeSt) (cause : BitVec 32) :
    (s.startFrame full k cause).supply = (s.unitsRestarted full).supply ∧
      (∃ w : PowerSt, (s.startFrame full k cause).power = w.starting full k (s.now - s.power.slept) cause) ∧
      (s.startFrame full k cause).time.sched = [] := by
  unfold State.startFrame
  extract_lets off s1 s2 s3 s4 s5
  have h2 : KM 17179869216 s1 s2 := .each .refl fun t j ht => ht.app (t.slotRestarts_keeps j) (by decide)
  have h12 := (State.restoreImage_keeps (s.unitsRestarted full) _).comp h2
  have hrecover : KM 7298088960 s4 (s4.each ([(0 : CoreId), 1].filter fun c => s4.pair.core[c].present)
      State.journalRecover) := .each .refl fun t c ht => ht.app (t.journalRecover_keeps c) (by decide)
  have h35 : KM _ s3 s5 := (s3.coresStart_keeps.comp hrecover).comp (State.timeStart_keeps _ off)
  have hend : KM 3003121664 s5 (if full then s5.panelPower.noteBothSilent else s5.panelPower) := by
    have hpanel : KM 3003121664 s5 s5.panelPower := KM.refl.app s5.panelPower_keeps (by decide)
    split
    · exact hpanel.app (State.noteBothSilent_keeps _) (by decide)
    · exact hpanel
  have hsched : s5.time.sched = [] := by
    rw [State.timeStart_sched, hrecover.time_eq, s3.coresStart_keeps.time_eq, State.modPower_time, h12.time_eq]
    rfl
  refine ⟨?_, ⟨s2.power, ?_⟩, ?_⟩
  · rw [hend.supply_eq, h35.supply_eq, State.modPower_supply, h12.supply_eq]
  · rw [hend.power_eq, h35.power_eq, State.modPower_power]
  · rw [hend.time_eq, hsched]

/-- The wake of a start that begins now and reaches RUN after the time given. -/
def State.startWake (s : State) (ms : Nat) : WakeSt :=
  { src := .off, at_ := s.now, row := .axesReady, runAt := s.now + ms * msec }

theorem exec_fastRestart_of_due (hm : s.mayStart = true) (hg : s.feedGood = true) (hf : s.fastDue = true) :
    exec .fastRestart s = .next (s.leaveService.startFrame false (s.startWake 1500) 0) := by
  rw [exec_fastRestart, execFastRestart, if_pos (by rw [hm, hg, hf]; rfl), State.startWake]

theorem exec_fullStart_of_due (hm : s.mayStart = true) (hg : s.feedGood = true) (hf : s.fastDue = false) :
    exec .fullStart s = .next (s.leaveService.startFrame true (s.startWake 4000) 0) := by
  rw [exec_fullStart, execFullStart, if_pos (by rw [hm, hg, hf]; rfl), State.startWake]

/-- Neither start is in service-only operation or on the store. -/
theorem State.startFrame_fed (full : Bool) (k : WakeSt) (cause : BitVec 32) :
    (s.leaveService.startFrame full k cause).supply.serviceOnly = false ∧
      (s.leaveService.startFrame full k cause).supply.onStore = false := by
  obtain ⟨hs, -, -⟩ := s.leaveService.startFrame_rests full k cause
  rw [hs]
  refine ⟨?_, rfl⟩
  show s.leaveService.supply.serviceOnly = false
  unfold State.leaveService
  split
  · rw [State.raise_supply, State.modSupply_supply]
  · next h => exact Bool.eq_false_of_not_eq_true h

end

/-- Settles O27: the ends of the steps by what the next step makes of the supply, and the starts by what they keep. -/
theorem shutdownCompletes : Obligations.ShutdownCompletes := by
  intro s
  refine ⟨fun ho hs hp => ?_, fun h => ?_, fun h hc => ?_, fun h hp => ?_, fun h hp => ?_, fun h => ?_, fun h => ?_,
    fun h hw => ?_, fun h hp => ⟨?_, ?_⟩, fun hs hr => ?_, fun hm hg => ⟨fun hf => ?_, fun hf => ?_⟩⟩
  · obtain ⟨u, hu, henergy, hnow⟩ := exec_lossRideExpired_of_due s ho hs hp
    refine .intro hu ?_
    rw [State.beginShutdown_supply, henergy]
    exact ⟨rfl, rfl, hnow⟩
  · refine .intro (exec_shutdownStepEnd s) ?_
    rw [s.endStep_s1 h, State.beginS2_supply]
    rfl
  · refine .intro (exec_shutdownStepEnd s) ?_
    rw [s.endStep_s2 h hc, State.beginStep_supply]
    rfl
  · obtain ⟨r, hr⟩ := s.beginS4_supply
    refine .intro (exec_shutdownStepEnd s) ?_
    rw [s.endStep_s3 h, s.toS4_of_noPm hp, hr]
    exact ⟨rfl, rfl⟩
  · refine .intro (exec_shutdownStepEnd s) ?_
    rw [s.endStep_s3 h, s.toS4_of_anyPm hp]
    exact ⟨rfl, rfl⟩
  · obtain ⟨hs, hp, ha⟩ := s.endStep_s4 h
    exact .intro (exec_shutdownStepEnd s) ⟨congrArg SupplySt.step hs, hp, ha⟩
  · obtain ⟨hs, hl, hm⟩ := s.endStep_s5 h
    exact .intro (exec_shutdownStepEnd s) ⟨congrArg SupplySt.step hs, congrArg SupplySt.padHold hs, hl, hm⟩
  · obtain ⟨u, hu, hoff⟩ := s.beginS7_of_unpowered hw
    refine .intro (exec_shutdownStepEnd s) ?_
    rw [s.endStep_s6 h, hu, State.frameOff_supply]
    exact ⟨u.frameOff_state, rfl, hoff⟩
  · obtain ⟨u, hu, hcap, hnow⟩ := s.shutdownCap_of_noPm h hp
    obtain ⟨r, hr⟩ := u.beginS4_supply
    refine .intro (exec_shutdownCap s) ?_
    rw [hu, hr, u.beginS4_keeps.now_eq]
    exact ⟨hcap, rfl, hnow⟩
  · obtain ⟨r, hr⟩ := (s.modSupply fun u => { u with byReserve := true }).beginS4_supply
    refine .intro (exec_lastAction s) ?_
    rw [s.reserveEnds_of_noPm h hp, hr]
    exact ⟨rfl, rfl⟩
  · obtain ⟨u, hu, hnow⟩ := exec_hostHoldExpired_of_due s hs hr
    refine .intro hu ?_
    rw [State.hostRailsOff_supply, u.hostRailsOff_keeps.now_eq]
    exact ⟨rfl, fun k hk => u.hostRailsOff_slot hk, hnow⟩
  · obtain ⟨-, ⟨w, hw⟩, -⟩ := s.leaveService.startFrame_rests false (s.startWake 1500) 0
    obtain ⟨hservice, hstore⟩ := s.startFrame_fed false (s.startWake 1500) 0
    exact .intro (exec_fastRestart_of_due s hm hg hf) ⟨hservice, hstore, _, congrArg PowerSt.wake hw, rfl, rfl⟩
  · obtain ⟨-, ⟨w, hw⟩, hsched⟩ := s.leaveService.startFrame_rests true (s.startWake 4000) 0
    obtain ⟨hservice, hstore⟩ := s.startFrame_fed true (s.startWake 4000) 0
    exact .intro (exec_fullStart_of_due s hm hg hf) ⟨hservice, hstore, hsched, _, congrArg PowerSt.wake hw, rfl, rfl⟩

end Sys2Proof.Machine
end

section
/-!
The service ports (R201 to R206): what the contracts of the two cores make of the service rail, and how a contract and
its session end. The proofs run one after another, within the check's memory.
-/

set_option Elab.async false

namespace Sys2Proof.Machine

section
variable (s : State) (c : CoreId)

/-! ### One port (R202, R204) -/

theorem State.modSink_sink (f : SinkSt → SinkSt) : (s.modSink c f).supply.sinks[c] = f s.supply.sinks[c] :=
  updV_self _ _ _

@[simp] theorem State.svcApply_sinks : s.svcApply.supply.sinks = s.supply.sinks := id rfl
@[simp] theorem State.svcApply_record : s.svcApply.supply.record = s.supply.record := id rfl

/-- The contract of a port as it is attached. -/
def SinkSt.contracted (x : SinkSt) (k : Nat × Nat) : SinkSt :=
  { x with attached := true, volts := k.1, mA := k.2, transition := false, shed := false, readyAt := none }

theorem exec_svcAttach_sink (pd : Bool) (offers : List (Nat × Nat)) (typeC : Nat) :
    ∃ t, exec (.svcAttach c pd offers typeC) s = .next t ∧
      t.supply.sinks[c] = s.supply.sinks[c].contracted (s.contract pd offers typeC) := by
  rw [exec_svcAttach]
  unfold execSvcAttach
  extract_lets k s1 load s2
  have h1 : s1.supply.sinks[c] = s.supply.sinks[c].contracted k := s.modSink_sink c _
  have h2 : s2.supply.sinks = s1.supply.sinks := by
    unfold s2
    split
    · rw [State.svcCores_supply, State.modSupply_supply]
    · rw [State.svcCores_supply]
  have ht : s2.supply.sinks[c] = s.supply.sinks[c].contracted (s.contract pd offers typeC) := by
    simp only [h2]
    exact h1
  clear_value s2
  refine ⟨_, rfl, ?_⟩
  split
  · split
    · simpa only [State.raise_supply] using ht
    · exact ht
  · simpa only [State.raise_supply] using ht

/-- A port whose transition runs sheds every load but its core (R204). -/
theorem State.svcApply_of_shed (h : s.supply.sinks[c].shed = true) :
    s.svcApply.supply.svcField = false ∧ s.svcApply.supply.svcPanel = false := by
  have hany : (s.supply.sinks[(0 : CoreId)].shed || s.supply.sinks[(1 : CoreId)].shed) = true := by
    by_cases hc : c = 0
    · simp only [← hc, h, Bool.true_or]
    · simp only [← Fin.eq_one_of_ne_zero c hc, h, Bool.or_true]
  unfold State.svcApply
  extract_lets load shed fed
  have hs : shed = true := hany
  rw [State.modSupply_supply, hs]
  exact ⟨Bool.and_false _, Bool.and_false _⟩

/-- With no port attached the service rail powers no core. -/
theorem State.svcApply_unpowered (h : ∀ j : CoreId, s.supply.sinks[j].attached = false) :
    s.svcApply.supply.svcPowered[c] = false := by
  have hmW (j : CoreId) : s.supply.sinks[j].mW = 0 := if_neg (by simp [h j, -Fin.getElem_fin])
  have hpower : s.svcPower = 0 := by rw [State.svcPower, hmW, hmW, Nat.max_self]
  have hload : svcLoads s.svcPower = 0 := by rw [hpower]; rfl
  unfold State.svcApply
  extract_lets load shed fed
  have hfed : fed c = false := by
    simp [fed, hmW, show load = 0 from hload, -Fin.getElem_fin]
  rw [State.modSupply_supply]
  exact (Vector.getElem_ofFn ..).trans hfed

/-! ### The end of a contract (R205, R206) -/

theorem State.endSession_level (reason : Nat) : (s.endSession c reason).update.session[c].level = 0 := by
  unfold State.endSession
  split
  · next h => exact h
  · extract_lets s1 s2
    have h1 : s1.update.session[c].level = 0 := by
      simp only [s1, State.modSession_update_session, updV_self]
    have h2 : s2.update.session[c].level = 0 := by
      simp only [s2, (State.raise_keeps ..).session_eq, (State.loseClaims_keeps ..).session_eq, h1]
    clear_value s2
    split
    · exact h2
    · exact h2

theorem State.svcGone_supply_sinks : (s.svcGone c).supply.sinks = updV s.supply.sinks c fun _ => {} := by
  unfold State.svcGone
  rw [State.svcApply_sinks, State.endSession_supply, State.modSink_supply_sinks]

theorem State.svcGone_detached : (s.svcGone c).supply.sinks[c].attached = false ∧
    (s.svcGone c).update.session[c].level = 0 := by
  refine ⟨by rw [State.svcGone_supply_sinks, updV_self], ?_⟩
  unfold State.svcGone
  rw [(State.svcApply_keeps _).session_eq, State.endSession_level]

/-- The loads return at the new voltage (R204). -/
def SinkSt.returned (x : SinkSt) : SinkSt := { x with volts := x.newVolts, shed := false, readyAt := none }

theorem State.loadsReturn_sink {at_ : Nat} (h : s.supply.sinks[c].readyAt = some at_) :
    (s.loadsReturn c).supply.sinks[c] = s.supply.sinks[c].returned ∧
      (s.loadsReturn c).now = max s.now (at_ + 10 * msec) := by
  unfold State.loadsReturn
  rw [h]
  dsimp only
  have hnow : (s.until (at_ + 10 * msec)).now = max s.now (at_ + 10 * msec) := s.until_now _
  have hsupply : (s.until (at_ + 10 * msec)).supply = s.supply := s.until_supply _
  generalize s.until (at_ + 10 * msec) = u at hnow hsupply ⊢
  rw [State.raise_now, (State.svcCores_keeps _).now_eq, (State.svcApply_keeps _).now_eq, State.modSink_now]
  refine ⟨?_, hnow⟩
  rw [State.raise_supply, State.svcCores_supply, State.svcApply_sinks, State.modSink_sink, hsupply, SinkSt.returned]

/-! ### The brown-out path (R205) -/

theorem eq_otherCore_of_ne : ∀ {c j : CoreId}, j ≠ c → j = otherCore c := by decide

/-- With the contract gone and the other port not attached, the service rail powers no core. -/
theorem State.svcGone_unpowered (h : s.supply.sinks[otherCore c].attached = false) (j : CoreId) :
    (s.svcGone c).supply.svcPowered[j] = false := by
  refine State.svcApply_unpowered _ j fun i => ?_
  rw [State.endSession_supply, State.modSink_supply_sinks]
  by_cases hi : i = c
  · rw [hi, updV_self]
  · rw [updV_other _ _ _ _ (Ne.symm hi), eq_otherCore_of_ne hi, h]

theorem State.svcGone_record : (s.svcGone c).supply.record = s.supply.record := by
  unfold State.svcGone
  rw [State.svcApply_record, State.endSession_supply, State.modSink_supply_record]

/-- With no other port attached the record is committed and the frame is off. -/
theorem State.brownout_off (h : s.supply.sinks[otherCore c].attached = false) :
    ∃ u : State, s.brownout c = u.frameOff.modSupply (fun x => { x with serviceOnly := false }) ∧
      u.supply.record.isSome = true := by
  unfold State.brownout
  extract_lets s1 s2 other s3
  have h1 : s1.supply = s.supply := State.raise_supply ..
  obtain ⟨r, hr⟩ := s1.commitShutdown_supply 3 0 s.now 1
  obtain ⟨u, hu, hsupply⟩ : ∃ u : State, s2 = u.svcGone c ∧ u.supply = { s.supply with record := some r } := by
    refine ⟨_, rfl, ?_⟩
    rw [State.lastGasp_supply, State.flushJournal_supply, hr]
    exact congrArg (fun x : SupplySt => { x with record := some r }) h1
  have hpowered : s2.supply.svcPowered[other] = false := by
    simp only [hu]
    exact u.svcGone_unpowered c (by simp only [hsupply, h]) other
  have hrecord : s2.supply.record = some r := by rw [hu, State.svcGone_record, hsupply]
  clear_value s2
  exact ⟨s3, if_neg (by simp [s3, hpowered, -Fin.getElem_fin]), by simp [s3, hrecord]⟩

/-- A core that nothing else feeds takes the brown-out path. -/
theorem State.vbusLost_of_alone (ha : s.supply.sinks[c].attached = true) (hp : s.anyPm = false)
    (hc : s.pair.core[c].present = true) (ho : s.supply.sinks[otherCore c].attached = false) :
    s.vbusLost c = s.brownout c := by
  unfold State.vbusLost
  extract_lets other fed
  have hfed : fed = false := by
    have hmW : other.mW = 0 := if_neg (by simp [other, ho, -Fin.getElem_fin])
    simp [fed, hmW, svcLoads]
  rw [if_neg (by simp [ha, -Fin.getElem_fin]), if_neg (by simp [hp]), if_neg (by simp [hc, hfed, -Fin.getElem_fin])]

theorem State.vbusLost_of_anyPm (ha : s.supply.sinks[c].attached = true) (hp : s.anyPm = true) :
    s.vbusLost c = s.svcGone c := by
  unfold State.vbusLost
  rw [if_neg (by simp [ha, -Fin.getElem_fin]), if_pos hp]

end

/-- Settles O28: each command of a service port by what it makes of the port, its session and the rail. -/
theorem servicePowerCompletes : Obligations.ServicePowerCompletes := by
  intro s c
  refine ⟨fun pd offers typeC => ?_, fun volts ha => ?_, fun ht => ?_, fun at_ hr => ?_, fun ha hp => ⟨?_, ?_, ?_⟩,
    fun ha hp hc ho => ?_⟩
  · obtain ⟨t, ht, hsink⟩ := exec_svcAttach_sink s c pd offers typeC
    refine .intro ht ?_
    rw [hsink]
    exact ⟨rfl, rfl, rfl⟩
  · refine .intro (by rw [exec_svcTransitionAccept, execSvcTransitionAccept, if_pos ha]) ?_
    have hsink := s.modSink_sink c fun x =>
      { x with transition := true, newVolts := volts, shed := true, readyAt := none }
    obtain ⟨hfield, hpanel⟩ := State.svcApply_of_shed _ c (congrArg SinkSt.shed hsink)
    rw [State.svcApply_sinks, hsink]
    exact ⟨rfl, rfl, rfl, hfield, hpanel⟩
  · refine .intro (by rw [exec_svcPsRdy, execSvcPsRdy, if_pos ht]) ?_
    rw [State.modSink_sink]
    exact ⟨rfl, rfl⟩
  · obtain ⟨hsink, hnow⟩ := s.loadsReturn_sink c hr
    refine .intro (exec_svcLoadsReturn s c) ?_
    rw [hsink]
    exact ⟨rfl, rfl, hnow⟩
  · obtain ⟨ha', hl⟩ := s.svcGone_detached c
    refine .intro (by rw [exec_svcDetach, execSvcDetach, if_pos ha, if_pos hp]) ?_
    rw [State.raise_supply, State.raise_update]
    exact ⟨ha', hl⟩
  · obtain ⟨ha', -⟩ := s.svcGone_detached c
    exact .intro (by rw [exec_svcBrownout, execSvcBrownout, s.vbusLost_of_anyPm c ha hp]) ha'
  · refine .intro (by rw [exec_pdHardReset, execPdHardReset, if_neg (by simp [ha, -Fin.getElem_fin]), if_pos hp]) ?_
    rw [State.modSink_sink, State.modSink_update]
    exact ⟨rfl, rfl, s.endSession_level c 2⟩
  · obtain ⟨u, hu, hrecord⟩ := s.brownout_off c ho
    refine .intro (by rw [exec_svcBrownout, execSvcBrownout, s.vbusLost_of_alone c ha hp hc ho, hu]) ?_
    rw [State.modSupply_supply, State.frameOff_supply, State.modSupply_power, State.modSupply_pair]
    exact ⟨u.frameOff_state, rfl, hrecord, u.frameOff_present c⟩

end Sys2Proof.Machine
end

section
/-!
What each operation of chapter 09 makes of the energy store (R210 to R213, R217, R219 to R224): the module's state, its
faults and the motion floor, then the estimator and its rest windows. An equation of the whole sub-structure says what
the operation leaves of it too.
-/

namespace Sys2Proof.Machine

section
variable (s : State)

/-! ### The module: its state, its readiness and its faults (R210, R213, R235) -/

@[simp] theorem State.emBecomes_energy (new : EmState) :
    (s.emBecomes new).energy = { s.energy with state := new } := by
  unfold State.emBecomes
  extract_lets old
  by_cases h : new = old
  · rw [if_pos (by simpa using h), h]
  · rw [if_neg (by simpa using h), State.raise_energy, State.modEnergy_energy]

/-- A module with a latched fault is not ready (R213). -/
theorem State.readyNow_of_fault (h : s.energy.fault ≠ 0) : s.readyNow = false := by
  have hf : (s.energy.fault == 0) = false := by simpa using h
  rw [State.readyNow, hf, Bool.and_false, Bool.false_and]

theorem State.judgeReady_energy : s.judgeReady.energy = { s.energy with ready := s.readyNow } := by
  unfold State.judgeReady
  extract_lets ready
  by_cases h : ready = s.energy.ready
  · rw [if_pos (by simpa using h), show s.readyNow = s.energy.ready from h]
  · rw [if_neg (by simpa using h), (State.judgeTiers_keeps _ 2).energy_eq, State.raise_energy, State.modEnergy_energy]

theorem State.takeOut_slot (k : Slot) : (s.takeOut k).frame.slots[k].inService = false := by
  unfold State.takeOut
  rw [State.judgeTiers_slots, State.modSlot_frame_slots, updV_self]

/-- The module reports a fault: its charger is off and it is not ready. -/
def EnergySt.faulted (e : EnergySt) (code : Nat) : EnergySt :=
  { e with fault := BitVec.ofNat 8 code, chargerOff := true, charging := false, state := .fault, ready := false }

theorem State.emFaultOn_energy {code : Nat} (h : BitVec.ofNat 8 code ≠ 0) :
    (s.emFaultOn code).energy = s.energy.faulted code := by
  unfold State.emFaultOn
  extract_lets s1 s2
  have hout : (s2.takeOut e0Slot).energy =
      { s.energy with fault := BitVec.ofNat 8 code, chargerOff := true, charging := false, state := .fault } := by
    rw [(State.takeOut_keeps _ _).energy_eq, State.raise_energy, State.modSlot_energy, State.emBecomes_energy,
      State.modEnergy_energy]
  have hready : (s2.takeOut e0Slot).readyNow = false := State.readyNow_of_fault _ (by rw [hout]; exact h)
  rw [State.judgeReady_energy, hready, hout, EnergySt.faulted]

theorem State.emFaultOn_slot (code : Nat) : (s.emFaultOn code).frame.slots[e0Slot].inService = false := by
  unfold State.emFaultOn
  extract_lets s1 s2
  rw [State.judgeReady_slots, State.takeOut_slot]

/-- The hottest cell's reading with the derating and the charger's cut it brings (R210). -/
def EnergySt.tempRead (e : EnergySt) (celsius : Int) : EnergySt :=
  { e with
    tCellMax := celsius, derate := decide (55 < celsius), chargerOff := decide (70 < celsius) || e.fault != 0,
    charging := e.charging && !decide (70 < celsius) }

theorem exec_cellTemp_energy (cell : Nat) (celsius : Int) :
    ∃ t, exec (.cellTemp cell celsius) s = .next t ∧ t.energy = s.energy.tempRead celsius := by
  refine ⟨_, exec_cellTemp s cell celsius, ?_⟩
  split
  · rw [State.raise_energy]
    rfl
  · rfl

/-! ### The motion floor (R217) -/

/-- The drives are on and off as before. -/
structure SameDrives (s t : State) : Prop where
  get : ∀ b : Axis, t.axes[b].driving = s.axes[b].driving

theorem SameDrives.of_axes {s t : State} (h : t.axes = s.axes) : SameDrives s t := ⟨fun b => by rw [h]⟩

theorem SameDrives.trans {s t u : State} (h : SameDrives s t) (g : SameDrives t u) : SameDrives s u :=
  ⟨fun b => (g.get b).trans (h.get b)⟩

theorem State.modAxis_drives (a : Axis) (f : AxisSt → AxisSt) (h : (f s.axes[a]).driving = s.axes[a].driving) :
    SameDrives s (s.modAxis a f) := by
  refine ⟨fun b => ?_⟩
  by_cases hb : a = b
  · subst hb
    rw [State.modAxis_axis, h]
  · rw [State.modAxis_axes, updV_other _ _ _ _ hb]

theorem State.makeUncertain_drives (a : Axis) (cause : Nat) : SameDrives s (s.makeUncertain a cause) := by
  unfold State.makeUncertain
  split
  · exact .of_axes rfl
  · exact (s.modAxis_drives a _ rfl).trans (.of_axes (State.raise_axes ..))

theorem State.endAxisCmd_drives (a : Axis) (st : Byte) (d : Nat) (res : List Byte) :
    SameDrives s (s.endAxisCmd a st d res) := by
  unfold State.endAxisCmd
  split
  · exact .of_axes rfl
  · exact (s.modAxis_drives a _ rfl).trans (.of_axes (State.completeAll_axes ..))

theorem State.refFail_drives (a : Axis) (reason : Nat) : SameDrives s (s.refFail a reason) := by
  unfold State.refFail
  split
  · exact .of_axes rfl
  next r _ =>
  extract_lets s1 s2 s3
  have h1 : SameDrives s s1 := by
    refine (s.modAxis_drives a (fun x => { x with ref := none }) rfl).trans (.of_axes ?_)
    rw [State.raise_axes, State.modAxMod_axes]
  have h2 : SameDrives s1 s2 := by
    unfold s2
    split
    · exact .of_axes rfl
    · exact s1.makeUncertain_drives ..
  have h3 : SameDrives s s3 := (h1.trans h2).trans (s2.endAxisCmd_drives ..)
  split
  · split
    · extract_lets s4
      have h4 : s4.axes = s3.axes := by
        unfold s4
        split
        · exact State.completeAll_axes ..
        · rfl
      exact h3.trans (.of_axes h4)
    · exact h3
  · exact h3

/-- A freeze switches no drive: what it stops is the motion. -/
theorem State.freeze_drives (a : Axis) (cause : FreezeCause) (st : Byte) (d : Nat) :
    SameDrives s (s.freeze a cause st d) := by
  unfold State.freeze
  extract_lets x m loss held pos fast s1 s2 s3
  have h1 : SameDrives s s1 := (s.modAxis_drives a _ rfl).trans (.of_axes (State.raise_axes ..))
  have h2 : SameDrives s1 s2 := by
    unfold s2
    split
    · exact s1.makeUncertain_drives ..
    · split
      · exact s1.makeUncertain_drives ..
      · exact .of_axes rfl
  have h3 : SameDrives s2 s3 := by
    unfold s3
    split
    · exact s2.refFail_drives ..
    · exact .of_axes rfl
  exact ((h1.trans h2).trans h3).trans (s3.endAxisCmd_drives ..)

/-- One axis is frozen and its drive switched off, as the motion floor asks. -/
def State.cutDrive (s : State) (detail : Nat) (a : Axis) : State :=
  (s.freeze a 6 ST_ENERGY detail).modAxis a fun x => { x with driving := false }

theorem State.cutDrive_self (n : Nat) (a : Axis) : (s.cutDrive n a).axes[a].driving = false := by
  rw [State.cutDrive, State.modAxis_axis]

theorem State.cutDrive_of_off {b : Axis} (h : s.axes[b].driving = false) (n : Nat) (a : Axis) :
    (s.cutDrive n a).axes[b].driving = false := by
  by_cases hb : a = b
  · subst hb
    exact s.cutDrive_self n a
  · rw [State.cutDrive, State.modAxis_axes, updV_other _ _ _ _ hb, (s.freeze_drives a _ _ _).get b, h]

@[simp] theorem State.cutDrive_energy (n : Nat) (a : Axis) : (s.cutDrive n a).energy = s.energy := by
  rw [State.cutDrive, State.modAxis_energy, (s.freeze_keeps a _ _ _).energy_eq]

/-- At the motion floor every axis that does not perform a stow of S3 is without drive. -/
theorem State.floorReached_cuts (ho : s.supply.onStore = true) (hf : s.energy.floorReached = false) :
    s.floorReached.energy.floorReached = true ∧
      ∀ a : Axis, s.s3Stow a = false → s.floorReached.axes[a].driving = false := by
  unfold State.floorReached
  rw [if_neg (by simp [ho, hf])]
  extract_lets hit s1 s2
  refine ⟨?_, fun a hs => ?_⟩
  · have h2 : s2.energy = s1.energy := State.each_same State.energy _ _ (fun t b _ => t.cutDrive_energy _ b) s1
    rw [State.raise_energy, h2, State.modEnergy_energy]
  · rw [State.raise_axes]
    by_cases ha : a ∈ hit
    · exact State.each_brings (P := fun t => t.axes[a].driving = false) ha (fun t => t.cutDrive_self _ a)
        (fun t ht b _ => t.cutDrive_of_off ht _ b) s1
    · have hoff : s.axes[a].driving = false := by
        simpa [hit, hs, -Fin.getElem_fin] using ha
      exact List.foldlRecOn (motive := fun t : State => t.axes[a].driving = false) hit _ hoff
        fun t ht b _ => t.cutDrive_of_off ht _ b

/-! ### The states of the estimator (R221, R223, Table EN-3) -/

@[simp] theorem State.estBecomes_energy (new : EstState) :
    (s.estBecomes new).energy = { s.energy with est := new } := by
  unfold State.estBecomes
  extract_lets old
  by_cases h : new = old
  · rw [if_pos (by simpa using h), h]
  · rw [if_neg (by simpa using h), State.raise_energy, State.modEnergy_energy]

/-- REST becomes FIT after the hours of FIT and before those of STALE. -/
theorem State.estTick_of_rest {last : Nat} (he : s.energy.est = .rest) (hl : s.energy.lastWindow = some last)
    (hfit : s.param 0x4A3 * hourNs ≤ s.since last) (hstale : s.since last < s.param 0x4A4 * hourNs) :
    s.estTick = s.estBecomes .fit := by
  unfold State.estTick
  rw [hl]
  simp [he, hfit, Nat.not_le.mpr hstale]

/-- After the hours of STALE, FIT becomes STALE, and so does REST where its own hours are over. -/
theorem State.estTick_of_old {last : Nat} (hl : s.energy.lastWindow = some last)
    (he : s.energy.est = .fit ∨ (s.energy.est = .rest ∧ s.param 0x4A3 * hourNs ≤ s.since last))
    (hstale : s.param 0x4A4 * hourNs ≤ s.since last) : s.estTick.energy.est = .stale := by
  unfold State.estTick
  rw [hl]
  dsimp -zeta only
  extract_lets age s1 s2 due
  have h1 : s1.energy.est = .fit := by
    obtain he | ⟨he, hfit⟩ := he
    · rw [show s1 = s from if_neg (by simp [he]), he]
    · rw [show s1 = s.estBecomes .fit from if_pos (by simp [he, age, hfit]), State.estBecomes_energy]
  have h2 : s2.energy.est = .stale := by
    rw [show s2 = s1.estBecomes .stale from if_pos (by simp [h1, age, hstale]), State.estBecomes_energy]
  clear_value s2
  split
  · rw [State.raise_energy, State.modEnergy_energy, h2]
  · exact h2

/-- A day after EN_REST_WANTED it is raised once more while the estimates are STALE. -/
theorem State.estTick_of_stale {last wanted : Nat} (hl : s.energy.lastWindow = some last) (he : s.energy.est = .stale)
    (hw : s.energy.wantedAt = some wanted) (hdue : 24 * hourNs ≤ s.since wanted) :
    s.estTick.energy.wantedAt = some s.now := by
  unfold State.estTick
  rw [hl]
  simp [he, hw, hdue]

@[simp] theorem State.estTick_now : s.estTick.now = s.now := s.estTick_keeps.now_eq

/-- The clock at the end of a time lies past it. -/
theorem State.le_since_until (from_ d : Nat) : d ≤ (s.until (from_ + d)).since from_ := by
  unfold State.since
  rw [State.until_now]
  omega

/-! ### Rest windows (R219, R220, R224) -/

@[simp] theorem State.startWindow_energy :
    s.startWindow.energy = { s.energy with window := some s.now, windowCmd := true, charging := false } :=
  State.modEnergy_energy ..

/-- The estimates of a window that completes now. -/
def EnergySt.measured (e : EnergySt) (c esr now : Nat) : EnergySt :=
  { e with
    window := none, windowReq := none, windowCmd := false, windowSeq := e.windowSeq + 1, cW := c, esrW := esr,
    cF := none, esrF := none, fitSteps := [], lastWindow := some now, wantedAt := none, est := .rest }

/-- A window completes two seconds after its start, and with it the request it runs for. -/
theorem State.windowDone_measures {from_ : Nat} (c esr : Nat) (h : s.energy.window = some from_) :
    (s.windowDone c esr).energy = s.energy.measured c esr (max s.now (from_ + 2 * sec)) ∧
      (s.windowDone c esr).now = max s.now (from_ + 2 * sec) ∧
      ∀ r, s.energy.windowReq = some r → Answers (s.windowDone c esr) r Opc.OP_REST_WINDOW ST_OK 0 := by
  unfold State.windowDone
  rw [h]
  dsimp -zeta only
  extract_lets s1 req s2 s3 s4
  have hreq : req = s.energy.windowReq := congrArg EnergySt.windowReq (State.until_energy ..)
  have hn1 : s1.now = max s.now (from_ + 2 * sec) := State.until_now ..
  have h3 : s3.energy = s.energy.measured c esr s1.now := by
    rw [State.estBecomes_energy, State.raise_energy, State.modEnergy_energy, State.until_energy, EnergySt.measured]
  have hn3 : s3.now = s1.now := by
    rw [(State.estBecomes_keeps s2 .rest).now_eq, State.raise_now, State.modEnergy_now]
  have h4 : s4.energy = s3.energy ∧ s4.now = s3.now := by
    unfold s4
    split
    · exact ⟨State.raise_energy .., State.raise_now ..⟩
    · exact ⟨rfl, rfl⟩
  obtain ⟨he4, hn4⟩ := h4
  rw [← hn1, ← h3, ← hn3, ← he4, ← hn4, ← hreq]
  clear_value s4 req
  cases req with
  | some q =>
    refine ⟨State.ok_energy .., State.ok_now .., fun r hr => ?_⟩
    cases hr
    exact s4.ok_answers q _ _
  | none => exact ⟨rfl, rfl, nofun⟩

/-- An aborted window ends, with its block, and the request it runs for is preempted. -/
theorem State.abortWindow_ends (cause : Nat) (h : s.energy.window.isSome = true) :
    (s.abortWindow cause).energy =
        { s.energy with window := none, windowReq := none, windowCmd := false, blockUntil := none } ∧
      ∀ r, s.energy.windowReq = some r → Answers (s.abortWindow cause) r Opc.OP_REST_WINDOW ST_PREEMPTED 0 := by
  unfold State.abortWindow
  rw [if_neg (by simp [Option.isSome_iff_ne_none.mp h])]
  extract_lets req s1
  have h1 : s1.energy =
      { s.energy with window := none, windowReq := none, windowCmd := false, blockUntil := none } := by
    rw [State.raise_energy, State.modEnergy_energy]
  rw [← h1, show s.energy.windowReq = req from rfl]
  clear_value s1 req
  cases req with
  | some q =>
    refine ⟨State.complete_energy .., fun r hr => ?_⟩
    cases hr
    exact s1.complete_answers q _ _ _ _
  | none => exact ⟨rfl, nofun⟩

/-- A request that nothing refuses starts a window of its own, and doors and axes are blocked for three seconds. -/
theorem State.doRestWindow_starts (r : Req) (h : s.restRefusal = none) :
    (s.doRestWindow r).energy = { s.energy with
      window := some s.now, windowCmd := true, charging := false, windowReq := some r,
      blockUntil := some (s.now + 3 * sec) } := by
  unfold State.doRestWindow
  rw [h]
  dsimp -zeta only
  extract_lets s1
  have h1 : s1.energy = s.energy ∧ s1.now = s.now := by
    unfold s1
    split
    · exact ⟨State.complete_energy .., State.complete_now ..⟩
    · exact ⟨rfl, rfl⟩
  obtain ⟨he1, hn1⟩ := h1
  rw [State.modEnergy_energy, State.startWindow_energy, he1, hn1]

theorem State.doRestWindow_of_refusal (r : Req) {detail : Nat} (h : s.restRefusal = some detail) :
    s.doRestWindow r = s.fail r Opc.OP_REST_WINDOW ST_STATE detail := by
  unfold State.doRestWindow
  rw [h]

end

end Sys2Proof.Machine
end

section
/-!
The energy store's commands (R210 to R224, R235): where the estimator stands at the ends of its times, and what each
command completes with.
-/

namespace Sys2Proof.Machine

section
variable (s : State)

/-! ### The ends of the estimator's times -/

theorem State.estTick_fit_at_end {last : Nat} (he : s.energy.est = .rest) (hl : s.energy.lastWindow = some last)
    (hlt : max s.now (last + s.param 0x4A3 * hourNs) < last + s.param 0x4A4 * hourNs) :
    (s.until (last + s.param 0x4A3 * hourNs)).estTick.energy.est = .fit := by
  have hfit := s.le_since_until last (s.param 0x4A3 * hourNs)
  have hyoung : (s.until (last + s.param 0x4A3 * hourNs)).since last < s.param 0x4A4 * hourNs := by
    rw [State.since, State.until_now]
    omega
  rw [State.estTick_of_rest _ (by rwa [State.until_energy]) (by rwa [State.until_energy]) (by rwa [State.until_param])
    (by rwa [State.until_param]), State.estBecomes_energy]

theorem State.estTick_stale_at_end {last : Nat} (hl : s.energy.lastWindow = some last)
    (he : s.energy.est = .fit ∨ (s.energy.est = .rest ∧ s.param 0x4A3 ≤ s.param 0x4A4)) :
    (s.until (last + s.param 0x4A4 * hourNs)).estTick.energy.est = .stale := by
  have hold := s.le_since_until last (s.param 0x4A4 * hourNs)
  refine State.estTick_of_old _ (by rwa [State.until_energy]) ?_ (by rwa [State.until_param])
  rw [State.until_energy, State.until_param]
  exact he.imp_right fun ⟨hrest, hle⟩ => ⟨hrest, (Nat.mul_le_mul_right hourNs hle).trans hold⟩

theorem State.estTick_wanted_at_end {last wanted : Nat} (hl : s.energy.lastWindow = some last)
    (he : s.energy.est = .stale) (hw : s.energy.wantedAt = some wanted) :
    (s.until (wanted + 24 * hourNs)).estTick.energy.wantedAt = some (s.until (wanted + 24 * hourNs)).now :=
  State.estTick_of_stale _ (by rwa [State.until_energy]) (by rwa [State.until_energy]) (by rwa [State.until_energy])
    (s.le_since_until ..)

theorem exec_estFitAfter_of_rest {last : Nat} (he : s.energy.est = .rest) (hl : s.energy.lastWindow = some last) :
    exec .estFitAfter s = .next (s.until (last + s.param 0x4A3 * hourNs)).estTick := by
  rw [exec_estFitAfter, execEstFitAfter, he, hl]

theorem exec_estStaleAfter_of_known {last : Nat} (he : s.energy.est = .fit ∨ s.energy.est = .rest)
    (hl : s.energy.lastWindow = some last) :
    exec .estStaleAfter s = .next (s.until (last + s.param 0x4A4 * hourNs)).estTick := by
  rw [exec_estStaleAfter, execEstStaleAfter, hl]
  obtain he | he := he <;> rw [he]

theorem exec_restWanted_of_stale {wanted : Nat} (he : s.energy.est = .stale) (hw : s.energy.wantedAt = some wanted) :
    exec .restWanted s = .next (s.until (wanted + 24 * hourNs)).estTick := by
  rw [exec_restWanted, execRestWanted, if_pos (by simp [he]), hw, Option.getD_some]

end

/-- Settles O29: each command by what its own operation makes of the energy store, of the axes and of a request. -/
theorem energyCompletes : Obligations.EnergyCompletes := by
  intro s
  refine ⟨fun cell kind value hf hlo hhi => ?_, fun cell celsius => ?_, fun budget => ?_, ?_, ?_, fun ho hf => ?_,
    fun hm => ?_, fun from_ c esr hw => ?_, fun cause hw => ?_, fun last he hl hlt => ?_, fun last hl he => ?_,
    fun last wanted hl he hw => ?_, fun r h => ?_, fun r detail h => ?_⟩
  · have hcode : BitVec.ofNat 8 kind ≠ 0 := by
      interval_cases kind <;> decide
    refine .intro (by rw [exec_cellFault, execCellFault, if_neg (by simp [hf])]) ?_
    rw [State.emFaultOn_energy _ hcode]
    exact ⟨rfl, rfl, rfl, rfl, State.emFaultOn_slot ..⟩
  · obtain ⟨t, ht, henergy⟩ := exec_cellTemp_energy s cell celsius
    refine .intro ht ?_
    rw [henergy]
    exact ⟨rfl, rfl, rfl⟩
  · refine .intro (exec_boostLimit s budget) ⟨?_, .of_raise rfl rfl (by simp)⟩
    rw [State.raise_energy, State.modEnergy_energy]
  · refine .intro (exec_boostCutoff s) ?_
    rw [State.emBecomes_energy, State.modEnergy_energy]
    exact ⟨rfl, rfl, rfl⟩
  · refine .intro (exec_emLossTimeout s) ?_
    rw [State.modEnergy_energy]
    exact ⟨rfl, rfl, rfl, rfl⟩
  · exact .intro (exec_reserveFloor s) (s.floorReached_cuts ho hf)
  · refine .intro (by rw [exec_restWindowStart, execRestWindowStart, if_pos hm]) ?_
    rw [State.startWindow_energy]
    exact ⟨rfl, rfl, rfl⟩
  · obtain ⟨henergy, hnow, hanswer⟩ := s.windowDone_measures c esr hw
    refine .intro (exec_restWindowDone s c esr) ?_
    rw [henergy, hnow]
    exact ⟨rfl, rfl, rfl, rfl, rfl, rfl, hanswer⟩
  · obtain ⟨henergy, hanswer⟩ := s.abortWindow_ends cause hw
    refine .intro (exec_windowAborted s cause) ?_
    rw [henergy]
    exact ⟨rfl, rfl, hanswer⟩
  · refine .intro (exec_estFitAfter_of_rest s he hl) ⟨s.estTick_fit_at_end he hl hlt, ?_⟩
    rw [State.estTick_now, State.until_now]
  · refine .intro (exec_estStaleAfter_of_known s (he.imp_right And.left) hl) ⟨s.estTick_stale_at_end hl he, ?_⟩
    rw [State.estTick_now, State.until_now]
  · refine .intro (exec_restWanted_of_stale s he hw) ⟨?_, ?_⟩
    · rw [State.estTick_now]
      exact s.estTick_wanted_at_end hl he hw
    · rw [State.estTick_now, State.until_now]
  · refine .intro (exec_opRestWindow s r) ?_
    rw [State.doRestWindow_starts s r h]
    exact ⟨rfl, rfl, rfl⟩
  · refine .intro (by rw [exec_opRestWindow, execOpRestWindow, s.doRestWindow_of_refusal r h]) ⟨?_, ?_⟩
    · exact s.fail_answers r _ _ _
    · exact State.fail_energy ..

end Sys2Proof.Machine
end

section
/-!
Consent to a low-power state (R239 to R241): what consent is read from, and when a claim without consent keeps
the frame from entering.
-/

namespace Sys2Proof.Machine

/-! ### What events and completions leave of consent -/

section
variable {s t : State} (h : s.OutputsOnly t)
include h

/-- Outputs apart, it is the same state. -/
theorem State.OutputsOnly.eq_with : t = { s with
    ports := t.ports, can := t.can, panel := t.panel, journal := t.journal,
    pair := { t.pair with core := s.pair.core } } := by
  obtain ⟨⟩ := s
  obtain ⟨⟩ := t
  obtain ⟨rfl, rfl, rfl, rfl, rfl, rfl, rfl, rfl, rfl, rfl, rfl, rfl, rfl, rfl, rfl, rfl, rfl, rfl, rfl, hcore⟩ := h
  dsimp only at hcore ⊢
  rw [← hcore]

theorem State.OutputsOnly.consentOf_eq (q : Party) : t.consentOf q = s.consentOf q :=
  (congrArg (State.consentOf · q) h.eq_with).trans rfl

theorem State.OutputsOnly.holdsClaim_eq (q : Party) : t.holdsClaim q = s.holdsClaim q :=
  (congrArg (State.holdsClaim · q) h.eq_with).trans rfl

theorem State.OutputsOnly.entryRefusal_eq (target : Nat) : t.entryRefusal target = s.entryRefusal target :=
  (congrArg (State.entryRefusal · target) h.eq_with).trans rfl

end

/-! ### A party that holds a claim and has not consented (R239) -/

/-- The party holds a claim and has not consented. -/
structure State.Withholds (s : State) (q : Party) : Prop where
  party : q ∈ consentParties
  claim : s.holdsClaim q = true
  unconsented : s.consentOf q = none

section
variable {s : State} {q : Party}

/-- No entry begins while a party withholds its consent. -/
theorem State.Withholds.tryEntry_eq (h : s.Withholds q) : s.tryEntry = s := by
  have hall : (consentParties.all fun p => !s.holdsClaim p || (s.consentOf p).isSome) = false :=
    List.all_eq_false.mpr ⟨q, h.party, by simp [h.claim, h.unconsented]⟩
  have hdue : s.entryDue = false := by
    rw [State.entryDue, hall, Bool.and_false]
  rw [State.tryEntry, if_pos (by simp [hdue])]

theorem State.Withholds.outputs {t : State} (h : s.Withholds q) (o : s.OutputsOnly t) : t.Withholds q :=
  ⟨h.party, by rw [o.holdsClaim_eq, h.claim], by rw [o.consentOf_eq, h.unconsented]⟩

/-- Consent is read from the party's waits, from PWR_MODE for a host port, and from the idle time for TL. -/
theorem State.consentOf_modPower (f : PowerSt → PowerSt)
    (hmode : ∀ i : HostPort, hostParty i = q → (f s.power).mode[i] = s.power.mode[i])
    (hwait : (s.modPower f).waitOf q = s.waitOf q) (htl : q = .tl → (f s.power).tlIdleFrom = s.power.tlIdleFrom) :
    (s.modPower f).consentOf q = s.consentOf q := by
  cases q with
  | p0 =>
    unfold State.consentOf
    rw [hwait, State.modPower_power, hmode 0 rfl]
    rfl
  | p1 =>
    unfold State.consentOf
    rw [hwait, State.modPower_power, hmode 1 rfl]
    rfl
  | tl =>
    have hc : (s.modPower f).tlConsents = s.tlConsents := by
      unfold State.tlConsents
      rw [State.modPower_power, htl rfl]
      rfl
    unfold State.consentOf
    rw [hc]
    rfl
  | p2 | p3 | p4 | sv => exact congrArg (Option.map fun w => s.takenTarget w.target) hwait

theorem State.Withholds.modPower (h : s.Withholds q) (f : PowerSt → PowerSt)
    (hmode : ∀ i : HostPort, hostParty i = q → (f s.power).mode[i] = s.power.mode[i])
    (hwait : (s.modPower f).waitOf q = s.waitOf q) (htl : q = .tl → (f s.power).tlIdleFrom = s.power.tlIdleFrom) :
    (s.modPower f).Withholds q :=
  ⟨h.party, h.claim, (State.consentOf_modPower f hmode hwait htl).trans h.unconsented⟩

/-- The clock alone makes no party consent but TL. -/
theorem State.Withholds.until (h : s.Withholds q) (hq : q ≠ .tl) (at_ : Nat) : (s.until at_).Withholds q := by
  refine ⟨h.party, h.claim, .trans ?_ h.unconsented⟩
  cases q with
  | tl => exact absurd rfl hq
  | p0 | p1 | p2 | p3 | p4 | sv => rfl

end

section
variable (s : State)

/-! ### Consent is noted -/

/-- A consent that is noted changes the list of consents and nothing else that is read. -/
theorem State.noteConsent_outputs (p : Party) :
    ∃ v, (s.modPower fun w => { w with consents := v }).OutputsOnly (s.noteConsent p) := by
  unfold State.noteConsent
  extract_lets i had
  split
  · refine ⟨Vector.ofFn fun k => if k.val = i then true else s.power.consents[k], ?_⟩
    split
    · exact .refl _
    · exact State.raise_outputs ..
  · exact ⟨Vector.ofFn fun k => if k.val = i then false else s.power.consents[k], .refl _⟩

theorem State.consentOf_consents (v : Vector Bool 5) (q : Party) :
    (s.modPower fun w => { w with consents := v }).consentOf q = s.consentOf q :=
  State.consentOf_modPower _ (fun _ _ => rfl) rfl fun _ => rfl

theorem State.noteConsent_consentOf (p q : Party) : (s.noteConsent p).consentOf q = s.consentOf q := by
  obtain ⟨v, hv⟩ := s.noteConsent_outputs p
  rw [hv.consentOf_eq, State.consentOf_consents]

theorem State.noteConsent_power (p : Party) :
    ∃ v, (s.noteConsent p).power = { s.power with consents := v } := by
  obtain ⟨v, hv⟩ := s.noteConsent_outputs p
  exact ⟨v, hv.power⟩

theorem State.noteConsent_entryRefusal (p : Party) (target : Nat) :
    (s.noteConsent p).entryRefusal target = s.entryRefusal target := by
  obtain ⟨v, hv⟩ := s.noteConsent_outputs p
  exact (hv.entryRefusal_eq target).trans rfl

variable {s} in
theorem State.Withholds.noteConsent {q : Party} (h : s.Withholds q) (p : Party) : (s.noteConsent p).Withholds q := by
  obtain ⟨v, hv⟩ := s.noteConsent_outputs p
  exact (h.modPower _ (fun _ _ => rfl) rfl fun _ => rfl).outputs hv

/-- A party that has consented stands in the list of consents. -/
theorem State.noteConsent_consents {p : Party} (h : (s.consentOf p).isSome = true) (k : Fin 5)
    (hk : k.val = consentParties.findIdx fun q => q == p) : (s.noteConsent p).power.consents[k] = true := by
  obtain ⟨t, ht⟩ := Option.isSome_iff_exists.mp h
  unfold State.noteConsent
  rw [ht]
  dsimp -zeta only
  extract_lets i had s1
  have h1 : s1.power.consents[k] = true := by
    simp only [s1, State.modPower_power, Fin.getElem_fin, Vector.getElem_ofFn]
    exact if_pos hk
  clear_value s1
  split
  · exact h1
  · simp only [State.raise_power]
    exact h1

end

end Sys2Proof.Machine
end

section
/-!
Consent and the begin of an entry (R239 to R242, Tables PW-3 and PW-10): a pending wait, a write of PWR_MODE and TL's
idle time, each with and without a claim whose party withholds its consent.
-/

namespace Sys2Proof.Machine

section
variable (s : State)

/-! ### Entry begins (R242) -/

theorem State.beginN2_begins (target alarm : Nat) :
    (s.beginN2 target alarm).power.entry = some .n2 ∧ (s.beginN2 target alarm).supply.record.isSome = true := by
  unfold State.beginN2
  obtain ⟨r, hr⟩ := State.commitShutdown_supply
    ((s.modPower fun w => { w with target := target, alarm := alarm, entryAt := s.now }).enterStepN .n2)
    4 target s.now 2
  rw [hr, (State.commitShutdown_keeps ..).power_eq]
  exact ⟨rfl, rfl⟩

/-- An entry that is due and that nothing refuses begins. -/
theorem State.tryEntry_begins (hdue : s.entryDue = true) (hfree : ∀ target, s.entryRefusal target = none) :
    s.tryEntry.power.entry = some .n2 ∧ s.tryEntry.supply.record.isSome = true := by
  unfold State.tryEntry
  rw [if_neg (by simp [hdue])]
  extract_lets target s0
  have h0 : s0.entryRefusal target = none := by
    unfold s0
    split
    · rw [(State.raise_outputs ..).entryRefusal_eq, hfree]
    · exact hfree target
  rw [h0]
  exact s0.beginN2_begins ..

/-! ### A pending wait (R239) -/

/-- The wait of a request is pending. -/
def State.addWait (s : State) (r : Req) (target alarm : Nat) : State :=
  s.modPower fun w => { w with waits := w.waits ++ [{ req := r, target := target, alarm := alarm }] }

variable (r : Req) (target alarm : Nat)

/-- A wait is taken from a host port, and from another port with a target that there is. -/
theorem State.doWait_of_taken (h : r.party = .p0 ∨ r.party = .p1 ∨ target = 2 ∨ target = 3 ∨ target = 4) :
    s.doWait r target alarm = ((s.addWait r target alarm).noteConsent r.party).tryEntry := by
  unfold State.doWait
  extract_lets carries s1
  refine if_neg ?_
  obtain h | h | h | h | h := h <;> simp [carries, h]

theorem State.addWait_waitOf_self : ((s.addWait r target alarm).waitOf r.party).isSome = true := by
  simp [State.waitOf, State.addWait]

variable {r} in
theorem State.addWait_waitOf_other {q : Party} (h : q ≠ r.party) :
    (s.addWait r target alarm).waitOf q = s.waitOf q := by
  simp [State.waitOf, State.addWait, h.symm]

variable {r} in
theorem State.addWait_consentOf_other {q : Party} (h : q ≠ r.party) :
    (s.addWait r target alarm).consentOf q = s.consentOf q :=
  State.consentOf_modPower _ (fun _ _ => rfl) (s.addWait_waitOf_other target alarm h) fun _ => rfl

/-- A pending wait is a host port's consent where PWR_MODE says so, and that of P2 and P4 at once. -/
theorem State.consentOf_of_wait {q : Party} (hw : (s.waitOf q).isSome = true)
    (h : (q = .p0 ∧ s.power.mode[(0 : Fin 2)].getLsbD 0 = true) ∨
      (q = .p1 ∧ s.power.mode[(1 : Fin 2)].getLsbD 0 = true) ∨ q = .p2 ∨ q = .p4) : (s.consentOf q).isSome = true := by
  obtain ⟨rfl, hm⟩ | ⟨rfl, hm⟩ | rfl | rfl := h
  · simp only [State.consentOf, hm, hw, Bool.and_self, if_true, Option.isSome_some]
  · simp only [State.consentOf, hm, hw, Bool.and_self, if_true, Option.isSome_some]
  · exact Option.isSome_map.trans hw
  · exact Option.isSome_map.trans hw

/-- While another party withholds its consent, the wait stays pending. -/
theorem State.doWait_of_withheld (h : r.party = .p0 ∨ r.party = .p1 ∨ target = 2 ∨ target = 3 ∨ target = 4)
    {q : Party} (hq : q ≠ r.party) (hw : s.Withholds q) :
    s.doWait r target alarm = (s.addWait r target alarm).noteConsent r.party := by
  have hadd : (s.addWait r target alarm).Withholds q :=
    hw.modPower _ (fun _ _ => rfl) (s.addWait_waitOf_other target alarm hq) fun _ => rfl
  rw [s.doWait_of_taken r target alarm h, (hadd.noteConsent r.party).tryEntry_eq]

/-- With its own wait pending, an entry is due once every other party with a claim has consented. -/
theorem State.addWait_entryDue (hstate : s.power.state = .run) (hentry : s.power.entry = none)
    (hwake : s.power.wake = none) (hsvc : s.supply.serviceOnly = false)
    (hself : ((s.addWait r target alarm).consentOf r.party).isSome = true)
    (hall : ∀ q ∈ consentParties, q ≠ r.party → s.holdsClaim q = true → (s.consentOf q).isSome = true) :
    ((s.addWait r target alarm).noteConsent r.party).entryDue = true := by
  obtain ⟨v, hv⟩ := (s.addWait r target alarm).noteConsent_outputs r.party
  have hparties : (consentParties.all fun q =>
      !((s.addWait r target alarm).noteConsent r.party).holdsClaim q ||
        (((s.addWait r target alarm).noteConsent r.party).consentOf q).isSome) = true := by
    refine List.all_eq_true.mpr fun q hq => ?_
    rw [State.noteConsent_consentOf, hv.holdsClaim_eq]
    by_cases hqr : q = r.party
    · rw [hqr, hself, Bool.or_true]
    · rw [s.addWait_consentOf_other target alarm hqr]
      cases hc : s.holdsClaim q with
      | false => rw [show ((s.addWait r target alarm).modPower _).holdsClaim q = false from hc]; rfl
      | true => rw [hall q hq hqr hc, Bool.or_true]
  unfold State.entryDue
  rw [hparties, hv.power, hv.supply]
  simp [State.addWait, hstate, hentry, hwake, hsvc]

/-! ### PWR_MODE and TL's idle time (R239, R240, Table PW-10) -/

/-- No wait is pending and no consent is given; of PWR_MODE all but its consent stands. -/
def PowerSt.waitsEnded (w : PowerSt) : PowerSt :=
  { w with waits := [], mode := w.mode.map fun m => m &&& ~~~1, consents := .replicate 5 false }

theorem State.endWaits_power (status : Byte) (detail : Nat) (result : List Byte) :
    (s.endWaits status detail result).power = s.power.waitsEnded := by
  unfold State.endWaits
  rw [State.completeAll_power, State.modPower_power, PowerSt.waitsEnded]

/-- The release of a hold ends the hold and its time. -/
theorem State.releaseHold_power (who : Nat) :
    ∃ hold from_, (s.releaseHold who).power = { s.power with hold := hold, holdFrom := from_ } := by
  unfold State.releaseHold
  split
  · exact ⟨_, _, rfl⟩
  · refine ⟨false, none, ?_⟩
    extract_lets mods s1 s2
    have h2 : s2.power = s1.power := by
      simp only [s2, State.modLoads_power]
      exact State.each_same State.power _ _ (fun t m _ => t.modFieldMod_power m _) s1
    rw [State.raise_power, h2]
    rfl

/-- An entry that is not yet in N6 is aborted: the waits end, and from N3 on the modules return (R244). -/
theorem State.abortEntry_power {k : EntryStep} {cause : Nat} (he : s.power.entry = some k) (hk : k ≠ .n6)
    (hc : ¬(cause = 5 ∧ 4 ≤ entryNo k)) :
    ∃ hold from_ wake, (s.abortEntry cause).power = { s.power.waitsEnded with
        entry := none, tlIdleFrom := some s.now, hold := hold, holdFrom := from_, wake := wake } ∧
      (3 ≤ entryNo k → wake = some { src := .deep, at_ := s.now, row := .linksUp, abort := true }) := by
  unfold State.abortEntry
  rw [he]
  split
  · next h => cases h
  · next h => exact absurd (Option.some.inj h) hk
  · next h =>
    cases h
    rw [if_neg (by simpa using hc)]
    extract_lets s1 s2
    have h2 : s2.power = { s.power.waitsEnded with entry := none, tlIdleFrom := some s.now } := by
      rw [State.raise_power, State.modPower_power, State.endWaits_power]
    split
    · exact ⟨_, _, _, h2, fun h => absurd h (by omega)⟩
    · obtain ⟨hold, from_, hr⟩ := s2.releaseHold_power 0xFF
      exact ⟨hold, from_, _, by rw [State.modPower_power, hr, h2], fun _ => rfl⟩

theorem and_not_one_of_clear {m : BitVec 32} (h : m.getLsbD 0 = false) : m &&& ~~~1 = m := by
  refine BitVec.eq_of_getLsbD_eq fun i hi => ?_
  obtain rfl | h0 := Nat.eq_zero_or_pos i
  · rw [BitVec.getLsbD_and, h, Bool.false_and]
  · simp only [BitVec.getLsbD_and, BitVec.getLsbD_not, BitVec.ofNat_eq_ofNat, BitVec.getLsbD_one]
    simp [hi, h0.ne']

/-- An abort clears the consent bit of PWR_MODE and no other. -/
theorem State.abortEntry_mode {i : HostPort} (h : s.power.mode[i].getLsbD 0 = false) (cause : Nat) :
    (s.abortEntry cause).power.mode[i] = s.power.mode[i] := by
  by_cases hrun : ∃ k, s.power.entry = some k ∧ k ≠ .n6 ∧ ¬(cause = 5 ∧ 4 ≤ entryNo k)
  · obtain ⟨k, he, hk, hc⟩ := hrun
    obtain ⟨hold, from_, wake, hp, -⟩ := s.abortEntry_power he hk hc
    simp only [hp, PowerSt.waitsEnded, Fin.getElem_fin, Vector.getElem_map]
    exact and_not_one_of_clear h
  · have hstay : s.abortEntry cause = s := by
      unfold State.abortEntry
      split
      · rfl
      · rfl
      · next k hk he => exact if_pos (by simpa using not_not.mp fun hc => hrun ⟨k, he, hk, hc⟩)
    rw [hstay]

/-- A port whose consent is gone keeps a PWR_MODE without the consent bit. -/
theorem State.consentGone_mode (p : Party) {i : HostPort} (h : s.power.mode[i].getLsbD 0 = false) :
    (s.consentGone p).power.mode[i] = s.power.mode[i] := by
  unfold State.consentGone
  extract_lets rs s1 s2
  have h2 : s2.power.mode[i] = s.power.mode[i] := by
    obtain ⟨v, hv⟩ := State.noteConsent_power
      (s.modPower fun w => { w with waits := w.waits.filter fun x => x.req.party != p }) p
    simp only [s2, State.completeAll_power, s1, hv, State.modPower_power]
  clear_value s2
  split
  · exact h2
  · rw [s2.abortEntry_mode (by rw [h2, h]), h2]

/-- PWR_MODE takes what is written, where no entry can begin at once. -/
theorem State.writePwrMode_mode (p : HostPort) (v : BitVec 32)
    (h : v.getLsbD 0 = false ∨ ∃ q, q ≠ hostParty p ∧ s.Withholds q) :
    (s.writePwrMode p s.activeCore v).power.mode[p] = v &&& 0x1F := by
  unfold State.writePwrMode
  rw [if_neg (not_not.mpr rfl)]
  extract_lets had s1
  have h1 : s1.power.mode[p] = v &&& 0x1F := updV_self _ _ _
  split
  · next hv =>
    obtain ⟨q, hq, hw⟩ := h.resolve_left (by simp [hv])
    have hw1 : s1.Withholds q := by
      refine hw.modPower _ (fun i hi => updV_other _ _ _ _ ?_) rfl fun _ => rfl
      rintro rfl
      exact hq hi.symm
    obtain ⟨c, hc⟩ := s1.noteConsent_power (hostParty p)
    rw [(hw1.noteConsent (hostParty p)).tryEntry_eq]
    simp only [hc]
    exact h1
  · next hv =>
    have hclear : s1.power.mode[p].getLsbD 0 = false := by
      rw [h1, BitVec.getLsbD_and, Bool.eq_false_of_not_eq_true hv, Bool.false_and]
    split
    · rw [s1.consentGone_mode _ hclear, h1]
    · exact h1

/-- TL's doorways are idle, from now on where they were not before (R240). -/
theorem State.tlIdleTick_of_idle (h : s.tlIdle = true) :
    s.tlIdleTick = s.modPower fun w => { w with tlIdleFrom := some (w.tlIdleFrom.getD s.now) } := by
  unfold State.tlIdleTick
  rw [h]
  rfl

@[simp] theorem State.until_tlIdle (at_ : Nat) : (s.until at_).tlIdle = s.tlIdle := id rfl

/-- TL has consented at the end of the idle time. -/
theorem State.tlConsents_until {from_ : Nat} (h : s.tlIdle = true) (hf : s.power.tlIdleFrom = some from_) :
    (s.until (from_ + s.param 0x4D4 * sec)).tlConsents = true := by
  unfold State.tlConsents
  rw [State.until_tlIdle, h, State.until_power, hf, State.until_param, Bool.true_and]
  exact decide_eq_true (s.le_since_until ..)

/-- TL's consent is noted at the end of the idle time, and no entry begins while another party withholds its own. -/
theorem exec_tlConsent_notes (h : s.tlIdle = true) {q : Party} (hq : q ≠ .tl) (hw : s.Withholds q) :
    ∃ t, exec .tlConsent s = .next t ∧ t.power.consents[(4 : Fin 5)] = true ∧
      t.now = max s.now (s.power.tlIdleFrom.getD s.now + s.param 0x4D4 * sec) := by
  rw [exec_tlConsent, execTlConsent, s.tlIdleTick_of_idle h]
  extract_lets s1
  have hfrom : s1.power.tlIdleFrom = some (s.power.tlIdleFrom.getD s.now) := rfl
  have hw1 : s1.Withholds q := hw.modPower _ (fun _ _ => rfl) rfl fun htl => absurd htl hq
  have hidle : s1.tlIdle = true := h
  have hnow : s1.now = s.now := rfl
  have hparam : s1.param 0x4D4 = s.param 0x4D4 := rfl
  clear_value s1
  rw [hfrom, ← hparam]
  dsimp only
  have htl := s1.tlConsents_until hidle hfrom
  have hw2 := hw1.until hq (s.power.tlIdleFrom.getD s.now + s1.param 0x4D4 * sec)
  refine ⟨_, rfl, ?_, ?_⟩
  · rw [(hw2.noteConsent .tl).tryEntry_eq]
    refine State.noteConsent_consents _ ?_ 4 rfl
    unfold State.consentOf
    dsimp only
    rw [if_pos htl, Option.isSome_some]
  · rw [(hw2.noteConsent .tl).tryEntry_eq, (State.noteConsent_keeps _ .tl).now_eq, State.until_now, hnow]

end

end Sys2Proof.Machine
end

section
/-!
The steps of an entry, its end and the hold of the pads (R242 to R245, R254, Table PW-3): what each leaves in the power
state, in the relays of the loop and in the commands of the modules.
-/

namespace Sys2Proof.Machine

section
variable (s : State)

/-! ### N3: park, relays off and hold -/

theorem State.park_power : s.park.power = { s.power with parked := true } := by
  unfold State.park
  rw [State.each_same State.power _ _ fun t a _ => t.modAxis_power a _]
  rfl

theorem State.loopDrop_relays (c : CoreId) (cause : Nat) :
    (s.loopDrop c cause).doors.relays = updV s.doors.relays c fun _ => false := by
  unfold State.loopDrop
  rw [State.raise_doors]
  rfl

/-- No core's relays are closed once each that has them closed has dropped them. -/
theorem State.dropAll_relays (c : CoreId) (cause : Nat) :
    (s.each [(0 : CoreId), 1] fun t b =>
      if t.doors.relays[b] then t.loopDrop b cause else t).doors.relays[c] = false := by
  refine State.each_brings (P := fun t => t.doors.relays[c] = false) (a := c)
    (by fin_cases c <;> simp) (fun t => ?_) (fun t ht b _ => ?_) s
  · split
    · simp only [State.loopDrop_relays]
      exact updV_self _ _ _
    · next h => exact Bool.eq_false_of_not_eq_true h
  · split
    · simp only [State.loopDrop_relays]
      by_cases hb : b = c
      · subst hb
        exact updV_self _ _ _
      · rw [updV_other _ _ _ _ hb, ht]
    · exact ht

theorem State.beginN3_power : s.beginN3.power =
    { s.power with entry := some .n3, entryFrom := s.now, parked := true, hold := true } := by
  unfold State.beginN3
  extract_lets s1 s2 s3
  have h1 : s1.power = { s.power with entry := some .n3, entryFrom := s.now, parked := true } := by
    simp only [s1, State.park_power, State.enterStepN, State.modPower_power, s.flushJournal_keeps.power_eq,
      s.flushJournal_keeps.now_eq]
  have h2 : s2.power = s1.power := by
    refine State.each_same State.power _ _ (fun t c _ => ?_) s1
    split
    · exact (t.loopDrop_keeps c 1).power_eq
    · rfl
  rw [(State.sendHold_keeps _).power_eq, State.modPower_power, State.modEnergy_power, h2, h1]

theorem State.beginN3_holds : s.beginN3.load.holdCmd = true ∧ ∀ c : CoreId, s.beginN3.doors.relays[c] = false := by
  unfold State.beginN3
  extract_lets s1 s2 s3
  refine ⟨(State.sendHold_holds _).1, fun c => ?_⟩
  simp only [(State.sendHold_keeps _).relays_eq]
  exact s1.dropAll_relays c 1

/-! ### N4 to N6 -/

theorem State.beginN4_power : s.beginN4.power = { s.power.waitsEnded with
    entry := some .n4, entryFrom := s.now } := by
  unfold State.beginN4
  extract_lets target s1
  rw [State.raise_power, State.endWaits_power]
  rfl

@[simp] theorem State.dropLinks_entry (p : HostPort) : (s.dropLinks p).power.entry = s.power.entry := by
  unfold State.dropLinks State.bothLinksDown
  extract_lets t s1 s2
  have h1 : s1.power = s.power := by
    refine State.each_same State.power _ _ (fun t c _ => ?_) s
    split
    · exact State.raise_power ..
    · rfl
  have h2 : s2.power = s1.power := by
    simp only [s2, (State.portDown_keeps _ _ _).power_eq, State.modPort_power]
  simp only [State.modPower_power, State.modPort_power, h2, h1]

theorem State.beginN5_entry : s.beginN5.power.entry = some .n5 := by
  unfold State.beginN5
  extract_lets s1 s2 s3 s4
  have h1 : s1.power.entry = some .n5 := by
    simp only [s1, State.dropLinks_entry]
    rfl
  have h2 : s2.power = s1.power := by
    refine State.each_same State.power _ _ (fun t p _ => ?_) s1
    split
    · rfl
    · rw [State.modSlot_power, State.modPort_power]
  have h3 : s3.power = s2.power := by
    have hsession : ((s2.portDown 2 2).each [(0 : CoreId), 1] fun t c => t.endSession c 3).power = s2.power :=
      (State.each_same State.power _ _ (fun t c _ => (t.endSession_keeps c 3).power_eq) _).trans
        (s2.portDown_keeps 2 2).power_eq
    simp only [s3, (State.panelOff_keeps _).power_eq, (State.canSleep_keeps _).power_eq, hsession]
  have h4 : s4.power = s3.power := s3.releaseHeld_keeps.power_eq
  have hall : s4.power.entry = some .n5 := by rw [h4, h3, h2, h1]
  clear_value s4
  split
  · rw [(s4.standbyBecomes_keeps .absent 6).power_eq, hall]
  · exact hall

theorem State.beginN6_power : s.beginN6.power =
    { s.power with entry := some .n6, entryFrom := s.now, wkStart := s.power.wk } := rfl

/-! ### An entry step ends -/

theorem exec_entryStepEnd_n2 (h : s.power.entry = some .n2) : exec .entryStepEnd s = .next s.beginN3 := by
  rw [exec_entryStepEnd, execEntryStepEnd, h]
  dsimp only
  rw [State.endEntryStep, h]

theorem exec_entryStepEnd_n3 (h : s.power.entry = some .n3) : exec .entryStepEnd s = .next s.beginN4 := by
  rw [exec_entryStepEnd, execEntryStepEnd, h]
  dsimp only
  rw [State.endEntryStep, h]

theorem exec_entryStepEnd_n4 (h : s.power.entry = some .n4) :
    exec .entryStepEnd s = .next (s.until (s.power.entryFrom + s.param 0x4D6 * msec)).beginN5 := by
  rw [exec_entryStepEnd, execEntryStepEnd, h]
  dsimp only
  rw [State.endEntryStep, State.until_power, h]

theorem exec_entryStepEnd_n5 (h : s.power.entry = some .n5) :
    exec .entryStepEnd s = .next (s.until (s.power.entryFrom + 2 * msec)).beginN6 := by
  rw [exec_entryStepEnd, execEntryStepEnd, h]
  dsimp only
  rw [State.endEntryStep, State.until_power, h]

/-! ### The low-power state is entered (N6, R245) -/

theorem State.frameOff_power : s.frameOff.power =
    { s.power with state := .off, entry := none, idle := false, slept := s.now } := by
  have hcores : ((s.releaseHeld.coreOff 0).coreOff 1).power = s.power := by
    rw [(State.coreOff_keeps _ 1).power_eq, (State.coreOff_keeps _ 0).power_eq, s.releaseHeld_keeps.power_eq]
  unfold State.frameOff
  extract_lets s1 s2
  show s2.power = _
  rw [State.modPower_power, State.modPair_power, hcores]

/-- The power state in the low-power state: the wake inputs stand as they were read. -/
theorem State.lowPower_enters : s.lowPower.power.entry = none ∧ s.lowPower.power.state = powerOf s.power.target ∧
    s.lowPower.power.wk = s.power.wk := by
  unfold State.lowPower
  extract_lets st s1
  have h1 : s1.power.wk = s.power.wk := by
    unfold s1
    split
    · rw [State.frameOff_power]
    · rfl
  exact ⟨rfl, rfl, (congrArg PowerSt.wk s1.fieldDark_keeps.power_eq).trans h1⟩

theorem State.wkLevel_congr {t : State} (h : t.params = s.params) (target : Nat) :
    t.wkLevel target = s.wkLevel target := by
  have hp : t.param = s.param := funext fun i => congrArg (paramGet · i) h
  unfold State.wkLevel State.wkEnabled State.evacMask
  rw [hp]

theorem State.wkActiveMask_congr {t : State} (h : t.params = s.params) (wk : Byte) :
    t.wkActiveMask wk = s.wkActiveMask wk := by
  simp only [State.wkActiveMask, State.param, h]

/-- Without an active level source the entry window ends in the low-power state. -/
theorem exec_entryWindowEnd_enters (wk : Byte) (he : s.power.entry = some .n6) (hp : s.update.pairUpdate = false)
    (hl : s.wkLevel s.power.target &&& s.wkActiveMask wk = 0) :
    ∃ u : State, exec (.entryWindowEnd wk) s = .next u.lowPower ∧ u.power.target = s.power.target ∧
      u.power.wk = wk ∧ u.now = max s.now (s.power.entryFrom + 122100) := by
  rw [exec_entryWindowEnd, execEntryWindowEnd, he]
  extract_lets target s0 edges changed s1 level
  refine ⟨s0.modPower fun w => { w with wk := wk, windowChange := changed }, ?_, rfl, rfl, State.until_now ..⟩
  have hkeep : KM _ s s1 := (s.until_keeps _).comp ((State.modPower_keeps _ _).comp (State.lowPower_keeps _))
  have hpair : s1.update.pairUpdate = false := by
    have h := congrArg UpdateSt.pairUpdate hkeep.firmware_eq
    exact h.trans hp
  have hlevel : level = 0 := by
    rw [← hl, ← s.wkLevel_congr hkeep.params_eq, ← s.wkActiveMask_congr hkeep.params_eq]
  rw [if_neg (by simp [hpair]), if_neg (by simp [hlevel])]

/-! ### The hold ends (R254) -/

/-- The hold of the pads is over and its flag is out of every command. -/
theorem State.releaseHold_releases (who : Nat) (h : s.power.hold = true) :
    (s.releaseHold who).power.hold = false ∧ (s.releaseHold who).power.holdFrom = none ∧
      (s.releaseHold who).load.holdCmd = false ∧ ∀ m : Fin 2, (s.releaseHold who).field.mods[m].holdDown = false := by
  unfold State.releaseHold
  rw [if_neg (by simp [h])]
  extract_lets mods s1 s2
  have hpower : s2.power = s1.power := by
    simp only [s2, State.modLoads_power]
    exact State.each_same State.power _ _ (fun t m _ => t.modFieldMod_power m _) s1
  rw [State.raise_power, State.raise_load, State.raise_field, hpower]
  refine ⟨rfl, rfl, rfl, fun m => ?_⟩
  refine State.each_brings (P := fun t => t.field.mods[m].holdDown = false)
    (List.mem_finRange (n := 2) m) (fun t => ?_) (fun t ht j _ => ?_) s1
  · rw [State.modFieldMod_mod]
  · rw [State.modFieldMod_field_mods]
    by_cases hj : j = m
    · rw [hj, updV_self]
    · rw [updV_other _ _ _ _ hj, ht]

end

end Sys2Proof.Machine
end

section
/-!
The commands of consent, entry and hold (R239 to R246, R254), each by what its own operation makes of the power state.
-/

namespace Sys2Proof.Machine

section
variable (s : State)

theorem exec_opReleaseHold_releases (r : Req) (h : s.power.hold = true)
    (hp : r.party = .p4 ∨ s.holdsClaim r.party = true) :
    exec (.opReleaseHold r) s = .next ((s.releaseHold (Party.code r.party)).ok r Opc.OP_RELEASE_HOLD []) := by
  rw [exec_opReleaseHold, execOpReleaseHold, State.doReleaseHold, if_neg (by simp [h]), if_neg]
  obtain hp | hp := hp <;> simp [hp]

theorem exec_holdAutoRelease_releases {from_ : Nat} (hf : s.power.holdFrom = some from_) (hp : s.param 0x4D5 ≠ 0)
    (h : s.power.hold = true) :
    exec .holdAutoRelease s = .next ((s.until (from_ + s.param 0x4D5 * msec)).releaseHold 0xFF) := by
  rw [exec_holdAutoRelease, execHoldAutoRelease, hf]
  dsimp only
  rw [if_pos (by simp [hp, h])]

end

/-- Settles O30: each command by the consent that is missing or given, the step that ends, or the hold it ends. -/
theorem powerEntryCompletes : Obligations.PowerEntryCompletes := by
  intro s
  refine ⟨fun r target alarm ht ⟨q, hq, hqr, hclaim, hnone⟩ => ?_,
    fun r target alarm hr hstate hentry hwake hsvc hall hfree => ?_, fun p v hv => ?_, fun p v => ?_,
    fun hidle ⟨q, hq, hqt, hclaim, hnone⟩ => ?_, fun h => ?_, fun h => ?_, fun h => ?_, fun h => ?_,
    fun k cause he hk hc => ?_, fun wk he hp hl => ?_, fun r h hp => ?_, fun from_ hf hp h => ?_⟩
  · obtain ⟨v, hv⟩ := (s.addWait r target alarm).noteConsent_power r.party
    refine .intro (exec_opWait s r target alarm) ?_
    rw [s.doWait_of_withheld r target alarm ht hqr ⟨hq, hclaim, hnone⟩, hv]
    exact ⟨rfl, rfl⟩
  · have ht : r.party = .p0 ∨ r.party = .p1 ∨ target = 2 ∨ target = 3 ∨ target = 4 := by tauto
    have hself := State.consentOf_of_wait _ (s.addWait_waitOf_self r target alarm) (by tauto)
    refine .intro (by rw [exec_opWait, execOpWait, s.doWait_of_taken r target alarm ht]) ?_
    refine State.tryEntry_begins _ (s.addWait_entryDue r target alarm hstate hentry hwake hsvc hself hall) fun n => ?_
    rw [State.noteConsent_entryRefusal]
    exact hfree n
  · refine .intro (exec_pwrModeConsent s p s.activeCore v) (s.writePwrMode_mode p v (hv.imp_right ?_))
    exact fun ⟨q, hq, hqp, hclaim, hnone⟩ => ⟨q, hqp, hq, hclaim, hnone⟩
  · refine .intro (exec_pwrWakeCauseClear s p s.activeCore v) ?_
    rw [State.writeWakeCause, State.setUpWrite, if_pos rfl, State.modPower_power]
  · exact exec_tlConsent_notes s hidle hqt ⟨hq, hclaim, hnone⟩
  · obtain ⟨hhold, hrelays⟩ := s.beginN3_holds
    refine .intro (exec_entryStepEnd_n2 s h) ?_
    rw [State.beginN3_power]
    exact ⟨rfl, rfl, rfl, hhold, hrelays⟩
  · refine .intro (exec_entryStepEnd_n3 s h) ?_
    rw [State.beginN4_power]
    exact ⟨rfl, rfl⟩
  · refine .intro (exec_entryStepEnd_n4 s h) ⟨State.beginN5_entry _, ?_⟩
    rw [(State.beginN5_keeps _).now_eq, State.until_now]
  · refine .intro (exec_entryStepEnd_n5 s h) ?_
    rw [State.beginN6_power, State.until_power, (State.beginN6_keeps _).now_eq, State.until_now]
    exact ⟨rfl, rfl, rfl⟩
  · obtain ⟨hold, from_, wake, hp, hwake⟩ := s.abortEntry_power he hk fun h => hc h.1
    refine .intro (exec_entryAborted s cause) ?_
    rw [hp]
    exact ⟨rfl, rfl, fun h3 => ⟨_, hwake h3, rfl, rfl⟩⟩
  · obtain ⟨u, hu, htarget, hwk, hnow⟩ := exec_entryWindowEnd_enters s wk he hp hl
    obtain ⟨hentry, hstate, hread⟩ := u.lowPower_enters
    refine .intro hu ⟨hentry, ?_, ?_, ?_⟩
    · rw [hstate, htarget]
    · rw [hread, hwk]
    · rw [u.lowPower_keeps.now_eq, hnow]
  · obtain ⟨hhold, -, hcmd, hdown⟩ := s.releaseHold_releases (Party.code r.party) h
    refine .intro (exec_opReleaseHold_releases s r h hp) ?_
    rw [State.ok_power, State.ok_load, State.ok_field]
    exact ⟨hhold, hcmd, hdown, State.ok_answers _ r _ _⟩
  · obtain ⟨hhold, hfrom, -, -⟩ := (s.until (from_ + s.param 0x4D5 * msec)).releaseHold_releases 0xFF
      (by rw [State.until_power, h])
    refine .intro (exec_holdAutoRelease_releases s hf hp h) ⟨hhold, hfrom, ?_⟩
    rw [(State.releaseHold_keeps _ _).now_eq, State.until_now]

end Sys2Proof.Machine
end

section
/-!
Waking from a low-power state (R246 to R253, R256, R261, Tables PW-5 and PW-6): the wake that an enabled source begins,
the rows of its timetable up to RUN, a core that takes the role, and the repeats of a failed wake's message.
-/

namespace Sys2Proof.Machine

section
variable (s : State)

/-! ### A wake begins (R246, R247) -/

/-- The enabled ones of its causes begin a wake from the low-power state. -/
theorem State.wakeBy_begins (causes : BitVec 32) (ha : s.asleep = true)
    (hon : causes &&& BitVec.ofNat 32 (s.sources (powerCode s.power.state)) ≠ 0) :
    s.wakeBy causes false =
      s.beginWake s.power.state (causes &&& BitVec.ofNat 32 (s.sources (powerCode s.power.state))) := by
  unfold State.wakeBy
  extract_lets st on
  have hon' : on ≠ 0 := hon
  rw [if_neg (by simpa [ha] using hon'), if_neg (by simp)]

/-- The time asleep changes neither the sources nor whether the frame sleeps. -/
theorem State.until_wakeBy_begins (at_ : Nat) (causes : BitVec 32) (ha : s.asleep = true)
    (hon : causes &&& BitVec.ofNat 32 (s.sources (powerCode s.power.state)) ≠ 0) :
    (s.until at_).wakeBy causes false = (s.until at_).beginWake s.power.state
      (causes &&& BitVec.ofNat 32 (s.sources (powerCode s.power.state))) :=
  (s.until at_).wakeBy_begins causes ha hon

theorem exec_wakeEvent_begins (causes : BitVec 32) (slept : Nat) (he : s.power.entry = none) (ha : s.asleep = true)
    (hon : causes &&& BitVec.ofNat 32 (s.sources (powerCode s.power.state)) ≠ 0) :
    exec (.wakeEvent causes false slept) s = .next ((s.until (s.power.slept + slept)).beginWake s.power.state
      (causes &&& BitVec.ofNat 32 (s.sources (powerCode s.power.state)))) := by
  rw [exec_wakeEvent, execWakeEvent, he]
  dsimp only
  rw [if_pos ha, s.until_wakeBy_begins _ _ ha hon]

theorem exec_wakeFrame_begins (f : CanFrame) (slept : Nat) (hf : s.isWakeFrame f = true) (he : s.power.entry = none)
    (ha : s.asleep = true) (hon : 0x200 &&& BitVec.ofNat 32 (s.sources (powerCode s.power.state)) = 0x200) :
    exec (.wakeFrame f slept) s = .next ((s.until (s.power.slept + slept)).beginWake s.power.state 0x200) := by
  rw [exec_wakeFrame, execWakeFrame, if_pos hf, he]
  dsimp only
  rw [if_pos ha, s.until_wakeBy_begins _ _ ha (by rw [hon]; decide), hon]

/-! ### RUN is reached (R251, R252) -/

/-- The frame runs: no wake is left, and the axis modules are not parked. -/
structure PowerSt.Runs (w : PowerSt) : Prop where
  state : w.state = .run
  wake : w.wake = none
  parked : w.parked = false

theorem State.holdAtRun_runs (h : s.power.Runs) : s.holdAtRun.power.Runs := by
  unfold State.holdAtRun
  split
  · exact h
  · split
    · obtain ⟨hold, from_, hr⟩ := s.releaseHold_power 0xFF
      rw [hr]
      exact ⟨h.state, h.wake, h.parked⟩
    · exact ⟨h.state, h.wake, h.parked⟩

/-- A report made where it is due, and noted as made, leaves the frame running. -/
theorem State.report_runs {c : Prop} [Decidable c] (code : BitVec 10) (items : List Item) (f : PowerSt → PowerSt)
    (hf : ∀ w : PowerSt, w.Runs → (f w).Runs) (h : s.power.Runs) :
    (if c then s else (s.raise code items).modPower f).power.Runs := by
  split
  · exact h
  · rw [State.modPower_power, State.raise_power]
    exact hf _ h

/-- Positions, doorways, claims and reports that follow RUN leave the power state running. -/
theorem State.wakeRun_runs (k : WakeSt) : (s.wakeRun k).power.Runs := by
  unfold State.wakeRun
  extract_lets s1 keeps s2 s3 s4 s5 s6 s7 s8 s9
  have h3 : s3.power.Runs := ⟨rfl, rfl, rfl⟩
  have h4 : s4.power = s3.power := by
    refine State.each_same State.power _ _ (fun t d _ => ?_) s3
    dsimp only
    split
    · rw [State.modDoor_power]
    · rw [(State.enterFault_keeps _ _ _).power_eq, State.modDoor_power]
  have h7 : s7.power = s4.power := by
    simp only [s7, s6, s5, State.raise_power, (State.startRecord_keeps _ _ _ _ _).power_eq, State.modPanel_power,
      (State.canStart_keeps _).power_eq, (State.tlStart_keeps _).power_eq]
  have hr7 : s7.power.Runs := by rw [h7, h4]; exact h3
  have hr8 : s8.power.Runs := s7.report_runs _ _ _ (fun w hw => ⟨hw.state, hw.wake, hw.parked⟩) hr7
  have hr9 : s9.power.Runs := s8.report_runs _ _ _ (fun w hw => ⟨hw.state, hw.wake, hw.parked⟩) hr8
  rw [(State.judgeSupply_keeps _ _ _).power_eq, (State.judgeTiers_keeps _ _).power_eq]
  exact s9.holdAtRun_runs hr9

/-- The reports and the updates taken up after a start leave the power state running. -/
theorem State.finishStart_runs (k : WakeSt) : (s.finishStart k).power.Runs := by
  unfold State.finishStart
  extract_lets full fromOff ms s1 s2 s3 s4 s5 restored s6 s7 s8
  have h3 : s3.power.Runs := ⟨rfl, rfl, rfl⟩
  have h6 : s6.power = s3.power := by
    simp only [s6, s5, s4, (State.startRecord_keeps _ _ _ _ _).power_eq, (State.canStart_keeps _).power_eq,
      (State.tlStart_keeps _).power_eq, State.modSupply_power]
  have h7 : s7.power = s6.power := by
    unfold s7
    split
    · rfl
    · split
      · exact State.raise_power ..
      · exact State.raise_power ..
  have hr7 : s7.power.Runs := by rw [h7, h6]; exact h3
  have hr8 : s8.power.Runs := s7.report_runs _ _ _ (fun w hw => ⟨hw.state, hw.wake, hw.parked⟩) hr7
  rw [(State.judgeSupply_keeps _ _ _).power_eq, (State.judgeTiers_keeps _ _).power_eq,
    (State.updResume_keeps _).power_eq]
  exact hr8

/-! ### The timetable (Table PW-6) -/

theorem exec_wakeTimetableRow_of_row {k : WakeSt} (ready : Bool) (hw : s.power.wake = some k) (hs : k.start = 0) :
    exec (.wakeTimetableRow ready) s = .next ((s.until k.due).wakeRow k ready) := by
  rw [exec_wakeTimetableRow, execWakeTimetableRow, hw]
  dsimp only
  rw [if_neg (not_not.mpr hs)]

theorem exec_wakeTimetableRow_of_start {k : WakeSt} (ready : Bool) (hw : s.power.wake = some k) (hs : k.start ≠ 0)
    (ha : s.anyActive = true) : exec (.wakeTimetableRow ready) s = .next ((s.until k.due).finishStart k) := by
  rw [exec_wakeTimetableRow, execWakeTimetableRow, hw]
  dsimp only
  rw [if_pos hs, if_pos (show (s.until k.due).anyActive = true from ha)]

theorem State.wakeRow_regEnable {k : WakeSt} (ready : Bool) (h : k.row = .regEnable) :
    s.wakeRow k ready = s.toRow k .regCheck := by
  unfold State.wakeRow
  rw [h]

/-- A core whose TCXO is not ready runs on its RC clock (R257). -/
theorem State.wakeRow_tcxoCheck {k : WakeSt} (h : k.row = .tcxoCheck) :
    (s.wakeRow k false).power = { s.power with
      wake := some { k with row := .pllCheck }, osc := updV s.power.osc s.activeCore fun _ => true } := by
  unfold State.wakeRow
  rw [h]
  dsimp only
  rw [if_neg Bool.false_ne_true, State.toRow, State.modPower_power, State.raise_power]
  rfl

theorem State.wakeRow_axesReady {k : WakeSt} (ready : Bool) (h : k.row = .axesReady) (ha : k.abort = false) :
    s.wakeRow k ready = s.wakeRun k := by
  unfold State.wakeRow
  rw [h]
  dsimp only
  rw [if_neg (by simp [ha])]

/-! ### A core takes the role, and a failed wake is reported again (R256, R261) -/

theorem State.takeRole_active (c : CoreId) : (s.takeRole c).pair.core[c].active = true := by
  unfold State.takeRole
  extract_lets other s1 s2
  have h2 : s2.pair.core[c].active = true := by
    simp only [s2, s1, State.raise_pairCore, State.modSlot_pair, State.modCore_pair_core]
    rw [updV_self]
  have hother : other ≠ c := by
    fin_cases c <;> decide
  clear_value s2
  split
  · have hcore : ((s2.modCore other fun x => { x with listenFrom := none }).standbyBecomes
        .catchingUp 6).pair.core[c] = s2.pair.core[c] := by
      simp only [(State.standbyBecomes_keeps _ .catchingUp 6).core_eq, State.modCore_pair_core]
      exact updV_other _ _ _ _ hother
    exact (congrArg CoreSt.active hcore).trans h2
  · exact h2

theorem exec_listenTimeout_takes (c : CoreId) {from_ : Nat} (hl : s.pair.core[c].listenFrom = some from_)
    (ha : s.anyActive = false) (hs : s.power.state ≠ .off) :
    exec (.listenTimeout c) s =
      .next ((s.until (from_ + (if c = 0 then 200 else 1200) * usec)).takeRole c) := by
  rw [exec_listenTimeout, execListenTimeout, hl]
  dsimp only
  rw [if_neg (by simp [ha]), if_neg (by simp [hs])]

theorem exec_wakeFailRepeat_repeats {from_ : Nat} (hf : s.power.failAt = some from_) (ha : s.asleep = true) :
    ∃ t, exec .wakeFailRepeat s = .next t ∧ t.power.failSent = s.power.failSent + 1 ∧ t.power.failAt = some t.now ∧
      t.now = max s.now (from_ + if s.power.failSent < 3 then 100 * msec else 10 * sec) := by
  rw [exec_wakeFailRepeat, execWakeFailRepeat, hf]
  dsimp -zeta only
  rw [if_pos ha]
  extract_lets s1
  have hnow : s1.now = max s.now (from_ + if s.power.failSent < 3 then 100 * msec else 10 * sec) := State.until_now ..
  have hpower : s1.power = s.power := State.until_power ..
  clear_value s1
  refine ⟨_, rfl, ?_⟩
  rw [(State.wakeFailMessage_keeps _).power_eq, (State.wakeFailMessage_keeps _).now_eq, State.modPower_power,
    State.modPower_now, hpower]
  exact ⟨rfl, rfl, hnow⟩

end

/-- Settles O31: each command by the wake it begins, the row it reaches, the role taken or the repeat sent. -/
theorem wakeCompletes : Obligations.WakeCompletes := by
  intro s
  refine ⟨fun causes slept he ha hon => ?_, fun f slept hf he ha hon => ?_, fun k hw hs =>
    ⟨fun ready h => ?_, fun h => ?_, fun ready h hk => ?_⟩, fun k ready hw hs ha => ?_, fun c from_ hl ha hs => ?_, fun from_ hf ha => ?_⟩
  · exact .intro (exec_wakeEvent_begins s causes slept he ha hon) ⟨State.until_now .., rfl, _, rfl, rfl, rfl, rfl⟩
  · exact .intro (exec_wakeFrame_begins s f slept hf he ha hon) ⟨rfl, _, rfl, rfl⟩
  · refine .intro (exec_wakeTimetableRow_of_row s ready hw hs) ?_
    rw [State.wakeRow_regEnable _ ready h]
    exact ⟨rfl, State.until_now ..⟩
  · refine .intro (exec_wakeTimetableRow_of_row s false hw hs) ?_
    rw [State.wakeRow_tcxoCheck _ h]
    exact ⟨rfl, updV_self _ _ _⟩
  · obtain ⟨hstate, hwake, hparked⟩ := (s.until k.due).wakeRun_runs k
    refine .intro (exec_wakeTimetableRow_of_row s ready hw hs) ?_
    rw [State.wakeRow_axesReady _ ready h hk]
    exact ⟨hstate, hwake, hparked⟩
  · obtain ⟨hstate, hwake, -⟩ := (s.until k.due).finishStart_runs k
    refine .intro (exec_wakeTimetableRow_of_start s ready hw hs ha) ⟨hstate, hwake, ?_⟩
    rw [(State.finishStart_keeps _ k).now_eq, State.until_now]
  · refine .intro (exec_listenTimeout_takes s c hl ha hs) ⟨State.takeRole_active _ c, ?_⟩
    rw [(State.takeRole_keeps _ c).now_eq, State.until_now]
  · exact exec_wakeFailRepeat_repeats s hf ha

end Sys2Proof.Machine
end

section
/-!
The roles of the pair (R261, R262, R278): which core is active after a change of roles, and what an operation leaves of
the pair's mirror.
-/

namespace Sys2Proof.Machine

section
variable {m : Nat} {s t : State}

/-- What an operation that leaves the mirror alone leaves of the pair, but for its cores and the outputs held. -/
theorem KM.pair_view {α : Type} (h : KM m s t) (g : PairSt → α)
    (hg : ∀ q : PairSt, g { q with core := .replicate 2 {}, heldCompletions := [], heldEvents := [] } = g q :=
      by intro; rfl)
    (b : m.testBit 23 = false := by decide) : g t.pair = g s.pair := by
  rw [← hg t.pair, h.mirror_eq b, hg]

theorem KM.handover_eq (h : KM m s t) (b : m.testBit 23 = false := by decide) :
    t.pair.handover = s.pair.handover := h.pair_view (·.handover) (b := b)

theorem State.activeCore_of_core (h : t.pair.core = s.pair.core) : t.activeCore = s.activeCore := by
  unfold State.activeCore
  rw [h]

end

section
variable (s : State)

theorem otherCore_ne (c : CoreId) : otherCore c ≠ c := by
  fin_cases c <;> decide

theorem State.activeCore_of_active {c : CoreId} (h : s.pair.core[c].active = true)
    (ho : s.pair.core[otherCore c].active = false) : s.activeCore = c := by
  unfold State.activeCore
  fin_cases c
  · exact if_neg (by rw [show s.pair.core[(1 : Fin 2)].active = false from ho]; exact Bool.false_ne_true)
  · exact if_pos h

/-! ### Role changes (R278, Table CP-6) -/

/-- A core that gives up the role, and one that takes it. -/
def CoreSt.rests (x : CoreSt) : CoreSt := { x with active := false }
def CoreSt.drives (x : CoreSt) : CoreSt := { x with active := true, listenFrom := none }

theorem State.roleChange_core (new : CoreId) : (s.roleChange new).pair.core =
    updV (updV s.pair.core (otherCore new) CoreSt.rests) new CoreSt.drives := by
  unfold State.roleChange
  extract_lets old s1 s2 s3
  have h1 : s1.pair = s.pair := by
    unfold s1
    split <;> rfl
  have h3 : s3.pair.core = updV (updV s.pair.core (otherCore new) CoreSt.rests) new CoreSt.drives := by
    rw [← h1]
    rfl
  rw [(State.txAgain_keeps _).core_eq, ← h3]
  split
  · rfl
  · exact s3.unmirroredChunks_keeps.core_eq

theorem State.roleChange_active (new : CoreId) : (s.roleChange new).pair.core[new].active = true := by
  simp only [State.roleChange_core]
  rw [updV_self]
  rfl

theorem State.roleChange_other_rests (new : CoreId) :
    (s.roleChange new).pair.core[otherCore new].active = false := by
  simp only [State.roleChange_core]
  rw [updV_other _ _ _ _ (otherCore_ne new).symm, updV_self]
  rfl

theorem State.roleChange_activeCore (new : CoreId) : (s.roleChange new).activeCore = new :=
  State.activeCore_of_active _ (s.roleChange_active new) (s.roleChange_other_rests new)

end

end Sys2Proof.Machine
end

section
/-!
Planned handovers (R274 to R277, Table CP-5): the edge that is acknowledged and the one that is not, the triggers of
coverage and of the host links, and OP_CORE_HANDOVER.
-/

namespace Sys2Proof.Machine

section
variable (s : State)

/-! ### The handover edge (R274) -/

/-- At an acknowledged edge the roles have changed and the handover is over; what is left is its completion. -/
theorem State.plannedHandover_acknowledged {why : HandoverCause} (hh : s.pair.handover = some why)
    (hs : s.pair.standby = .inStep) (hw : s.handoverWaits = false) :
    ∃ u : State, u.activeCore = s.standbyCore ∧ u.pair.handover = none ∧ u.pair.lastHandover = some s.now ∧
      s.plannedHandover true = match s.pair.handoverReq with
        | some r => u.ok r Opc.OP_CORE_HANDOVER []
        | none => u := by
  unfold State.plannedHandover
  rw [hh]
  dsimp -zeta only
  rw [if_neg (by simp [hs, hw]), if_pos rfl]
  extract_lets old new s0 top s1 s2 s3 s4
  have hkeep : KM _ s3 s4 := State.raise_keeps ..
  have h3 : s3.activeCore = new := by
    rw [← s1.releaseHeld.roleChange_activeCore new]
    refine State.activeCore_of_core ?_
    simp only [s3, s2, State.modPair_pair, State.modSlot_pair]
  refine ⟨s4, ?_, ?_, ?_, rfl⟩
  · rw [State.activeCore_of_core hkeep.core_eq, h3]
  · exact hkeep.handover_eq
  · exact hkeep.pair_view (·.lastHandover)

/-- Without the acknowledgement the handover of a request is cancelled and the request fails. -/
theorem State.plannedHandover_cancelled {why : HandoverCause} {r : Req} (hh : s.pair.handover = some why)
    (hs : s.pair.standby = .inStep) (hw : s.handoverWaits = false) (hr : s.pair.handoverReq = some r) :
    s.plannedHandover false = ((s.raise Ev.CP_HANDOVER_REFUSED [.u8 (handoverCode why), .u8 5]).modPair fun q =>
      { q with handover := none, handoverReq := none }).fail r Opc.OP_CORE_HANDOVER ST_STATE 5 := by
  unfold State.plannedHandover
  rw [hh]
  dsimp only
  rw [if_neg (by simp [hs, hw]), if_neg Bool.false_ne_true, hr]

/-! ### Coverage and host links (R275) -/

theorem State.coverageTrigger_handover (hp : s.param 0x041 ≠ 0) (hs : s.standbyPresent = true)
    (hold : s.pastHoldoff = true) (hh : s.pair.handover = none) :
    s.coverageTrigger.pair.handover = some .coverage := by
  unfold State.coverageTrigger
  rw [if_pos (by simp [hp, hs, hold, hh]), State.raise_handover, State.wantHandover, if_neg (by simp [hh])]
  rfl

@[simp] theorem State.until_standbyPresent (at_ : Nat) : (s.until at_).standbyPresent = s.standbyPresent := id rfl

/-- Time that passes does not bring the hold-off back. -/
theorem State.until_pastHoldoff (at_ : Nat) (h : s.pastHoldoff = true) : (s.until at_).pastHoldoff = true := by
  have hnow := s.until_now at_
  unfold State.pastHoldoff State.since at h ⊢
  rw [State.until_pair]
  split at h
  · rw [hnow, State.until_param]
    exact decide_eq_true ((of_decide_eq_true h).trans (Nat.sub_le_sub_right (le_max_left _ _) _))
  · rfl

theorem exec_coverageHandover_triggers (h : s.coverage s.activeCore < s.coverage s.standbyCore) :
    exec .coverageHandover s = .next s.coverageTrigger := by
  rw [exec_coverageHandover, execCoverageHandover, if_pos h]

theorem exec_hostLinkGrace_triggers (hl : s.linkOnlyStandby = true) (hc : s.coverage 0 = s.coverage 1) :
    exec .hostLinkGrace s =
      .next (s.until (s.pair.graceFrom.getD s.now + s.param 0x042 * msec)).coverageTrigger := by
  rw [exec_hostLinkGrace, execHostLinkGrace, if_pos (by simp [hl, hc])]

/-! ### OP_CORE_HANDOVER (R276) -/

theorem State.doCoreHandover_of_free (r : Req) (hc : s.lacksSetClaim r = false) (hf : s.handoverRefusal = none) :
    s.doCoreHandover r = s.modPair fun q => { q with handover := some .request, handoverReq := some r } := by
  unfold State.doCoreHandover
  rw [if_neg (by simp [hc]), hf]

theorem State.doCoreHandover_of_refusal (r : Req) {n : Nat} (hc : s.lacksSetClaim r = false)
    (hf : s.handoverRefusal = some n) :
    s.doCoreHandover r = (s.raise Ev.CP_HANDOVER_REFUSED [.u8 (handoverCode .request), .u8 n]).fail r
      Opc.OP_CORE_HANDOVER ST_STATE n := by
  unfold State.doCoreHandover
  rw [if_neg (by simp [hc]), hf]

end

/-- Settles O33: the edge by the roles and the completion it leaves, the triggers and the request by the handover they
ask for. -/
theorem handoverCompletes : Obligations.HandoverCompletes := by
  intro s
  refine ⟨fun why hh hs hw => ⟨?_, fun r hr => ?_⟩, fun hp hs hold hh => ⟨fun hc => ?_, fun hl hc => ?_⟩,
    fun r hc hf => ?_, fun r n hc hf => ?_⟩
  · obtain ⟨u, hactive, hdone, hlast, hu⟩ := s.plannedHandover_acknowledged hh hs hw
    refine .intro (exec_plannedHandover s true) ?_
    rw [hu]
    cases hreq : s.pair.handoverReq with
    | none => exact ⟨hactive, hdone, hlast, fun r hr => nomatch hr⟩
    | some r =>
      refine ⟨?_, ?_, ?_, fun q hq => ?_⟩
      · rw [State.activeCore_of_core (State.ok_pairCore ..), hactive]
      · rw [State.ok_handover, hdone]
      · exact ((State.ok_keeps u r _ _).pair_view (·.lastHandover)).trans hlast
      · cases hq
        exact u.ok_answers r _ _
  · refine .intro (exec_plannedHandover s false) ?_
    rw [s.plannedHandover_cancelled hh hs hw hr]
    refine ⟨State.activeCore_of_core ?_, ?_, State.fail_answers _ r _ _ _⟩
    · rw [State.fail_pairCore]
      exact State.raise_pairCore ..
    · rw [State.fail_handover]
      rfl
  · exact .intro (exec_coverageHandover_triggers s hc) (s.coverageTrigger_handover hp hs hold hh)
  · refine .intro (exec_hostLinkGrace_triggers s hl hc) ⟨?_, ?_⟩
    · exact State.coverageTrigger_handover _ (by rwa [State.until_param]) (by rwa [State.until_standbyPresent])
        (s.until_pastHoldoff _ hold) (by rwa [State.until_pair])
    · rw [(State.coverageTrigger_keeps _).now_eq, State.until_now]
  · refine .intro (exec_opCoreHandover s r) ?_
    rw [s.doCoreHandover_of_free r hc hf]
    exact ⟨rfl, rfl⟩
  · refine .intro (exec_opCoreHandover s r) ?_
    rw [s.doCoreHandover_of_refusal r hc hf, State.fail_handover, State.raise_handover]
    exact ⟨State.fail_answers _ r _ _ _, rfl⟩

end Sys2Proof.Machine
end

section
/-!
A host port under events and its set-up (R268, R290 to R294, R302, R304 to R306): what an event leaves of a port, a new
index of a ring, the event ring's configuration, and the port that starts and stops.
-/

namespace Sys2Proof.Machine

/-! ### One element of a vector -/

theorem updV_congr {α : Type} {n : Nat} {v : Vector α n} {i : Fin n} {f g : α → α} (h : f v[i] = g v[i]) :
    updV v i f = updV v i g := by
  unfold updV
  rw [h]

theorem updV_of_same {α : Type} {n : Nat} {v : Vector α n} {i : Fin n} {f : α → α} (h : f v[i] = v[i]) :
    updV v i f = v := by
  unfold updV
  rw [h]
  exact Vector.set_getElem_self ..

/-! ### What an event leaves of a port (R302) -/

/-- A port but for its event ring, the events that wait and their numbering. -/
def PortSt.apart (t : PortSt) : PortSt :=
  { t with evq := {}, evqEntries := [], statusWrites := 0, laybyEv := [], evDropped := 0, dropRun := 0, dropFirst := 0,
           dseqNext := 0 }

theorem PortSt.deliverEvent_apart (t : PortSt) (own : Bool) (now : Nat) (e : Event) :
    (t.deliverEvent own now e).apart = t.apart := by
  unfold PortSt.deliverEvent
  split
  · rfl
  · split <;> rfl

/-- From `s` to `t` every port stands, but for its events. -/
structure SameApart (s t : State) : Prop where
  get : ∀ p : PortId, t.ports[p].apart = s.ports[p].apart

namespace SameApart

variable {s t u : State}

theorem refl : SameApart s s := ⟨fun _ => rfl⟩

theorem trans (h : SameApart s t) (g : SameApart t u) : SameApart s u := ⟨fun p => (g.get p).trans (h.get p)⟩

theorem of_ports (h : t.ports = s.ports) : SameApart s t := ⟨fun p => by rw [h]⟩

theorem modPort (s : State) (p : PortId) (f : PortSt → PortSt) (hf : ∀ t, (f t).apart = t.apart) :
    SameApart s (s.modPort p f) := by
  refine ⟨fun k => ?_⟩
  rw [State.modPort_ports]
  by_cases hk : p = k
  · rw [hk, updV_self, hf]
  · rw [updV_other _ _ _ _ hk]

theorem portEvent (s : State) (p : PortId) (code : BitVec 10) (stamp : Nat) (data : List Byte) :
    SameApart s (s.portEvent p code stamp data) := by
  unfold State.portEvent
  split
  · extract_lets t e s'
    have h : SameApart s s' := modPort _ _ _ fun _ => rfl
    split
    · exact h.trans (of_ports (State.modPair_ports ..))
    · exact h.trans (modPort _ _ _ fun _ => PortSt.deliverEvent_apart ..)
  · exact refl

theorem raiseOnce (s : State) (code : BitVec 10) (stamp : Nat) (items : List Item) :
    SameApart s (s.raiseOnce code stamp items) := by
  unfold State.raiseOnce
  extract_lets data s1 s2 door
  have h1 : SameApart s s1 :=
    (((portEvent s 0 code stamp data).trans (portEvent ..)).trans (portEvent ..)).trans (portEvent ..)
  have h2 : SameApart s s2 := h1.trans (of_ports (State.stageEvent_ports ..))
  clear_value s2
  split
  · exact h2.trans (of_ports ((State.modPanel_ports ..).trans (State.sendFault_ports ..)))
  · exact h2

theorem raise (s : State) (code : BitVec 10) (items : List Item) : SameApart s (s.raise code items) := by
  unfold State.raise State.raiseAt
  extract_lets s1
  have h1 : SameApart s s1 := raiseOnce ..
  clear_value s1
  split
  · exact (h1.trans (of_ports (State.modJournal_ports ..))).trans (raiseOnce ..)
  · exact h1

end SameApart

section
variable (s : State)

theorem State.modPort_port (p : PortId) (f : PortSt → PortSt) : (s.modPort p f).ports[p] = f s.ports[p] :=
  updV_self _ _ _

variable (code : BitVec 10) (items : List Item) (p : PortId)

theorem State.raise_sq : (s.raise code items).ports[p].sq = s.ports[p].sq :=
  (congrArg PortSt.sq ((SameApart.raise s code items).get p) :)

theorem State.raise_portError : (s.raise code items).ports[p].error = s.ports[p].error :=
  (congrArg PortSt.error ((SameApart.raise s code items).get p) :)

end

/-! ### Writes that reach the active core (R268) -/

section
variable (s : State) (p : HostPort)

theorem State.doorbell_active (f : State → State) : s.doorbell p s.activeCore f = f s := if_pos rfl

theorem State.setUpWrite_active (f : State → State) : s.setUpWrite s.activeCore f = f s := if_pos rfl

/-! ### New indexes (R293) -/

theorem indexVerdict_of_beyond {size t : Nat} (h : size ≤ t) (from_ held room : Nat) :
    indexVerdict size from_ held room t = 2 := if_pos h

/-- What a submission tail that may be taken makes of its ring. -/
def Ring.tailed (r : Ring) (t : Nat) : Ring := if r.enabled && !r.error then { r with host := t } else r

theorem Ring.tailed_of_open {r : Ring} (he : r.enabled = true) (hr : r.error = false) (t : Nat) :
    r.tailed t = { r with host := t } := if_pos (by simp [he, hr])

/-- The verdict on a tail of one ring of a port. -/
def PortSt.tailVerdict (x : PortSt) (q : Fin 16) (t : Nat) : Nat :=
  indexVerdict x.sq[q].size x.sq[q].dev x.sq[q].host (x.sq[q].size - 1) t

/-- The port with a new tail of one ring. -/
def PortSt.tailed (x : PortSt) (q : Fin 16) (t : Nat) : PortSt := { x with sq := updV x.sq q fun r => r.tailed t }

theorem PortSt.tailed_of_same {x : PortSt} {q : Fin 16} {t : Nat} (h : x.sq[q].tailed t = x.sq[q]) :
    x.tailed q t = x := congrArg (fun v => { x with sq := v }) (updV_of_same h)

theorem PortSt.tailed_sq (x : PortSt) (q : Fin 16) (t : Nat) : (x.tailed q t).sq[q] = x.sq[q].tailed t :=
  updV_self _ _ _

theorem PortSt.tailed_sq_other (x : PortSt) {q j : Fin 16} (h : q ≠ j) (t : Nat) : (x.tailed q t).sq[j] = x.sq[j] :=
  updV_other _ _ _ _ h

/-- A tail that lies ahead moves its own ring and nothing else of the port. -/
theorem State.takeTail_port {q : Fin 16} {t : Nat} (h : s.ports[hostPort p].tailVerdict q t = 1) :
    (s.takeTail p q t).ports[hostPort p] = s.ports[hostPort p].tailed q t := by
  unfold State.takeTail
  extract_lets r
  cases hopen : (!r.enabled || r.error) with
  | true =>
    have hsame : r.tailed t = r := if_neg (by revert hopen; cases r.enabled <;> cases r.error <;> simp)
    rw [if_pos rfl, PortSt.tailed_of_same hsame]
  | false =>
    obtain ⟨he, hr⟩ : r.enabled = true ∧ r.error = false := by simpa using hopen
    rw [if_neg Bool.false_ne_true]
    split
    · next h0 => exact absurd (h0.symm.trans h) (by decide)
    · have hring : updV s.ports[hostPort p].sq q (fun r => { r with host := t }) =
          updV s.ports[hostPort p].sq q fun r => r.tailed t := updV_congr (Ring.tailed_of_open he hr t).symm
      rw [State.modPort_port, PortSt.tailed, hring]
    · next h1 => exact absurd h h1

/-- A tail beyond its ring stops the ring, and the port notes it. -/
theorem State.takeTail_of_beyond {q : Fin 16} {t : Nat} (he : s.ports[hostPort p].sq[q].enabled = true)
    (hr : s.ports[hostPort p].sq[q].error = false) (h : s.ports[hostPort p].sq[q].size ≤ t) :
    s.takeTail p q t =
      s.refuseIndex p (fun x => { x with sq := updV x.sq q fun r => r.stop 1 }) (ringErrorNo 0 q.val) 1 := by
  unfold State.takeTail
  extract_lets r
  have hv := indexVerdict_of_beyond h r.dev r.host (r.size - 1)
  rw [if_neg (by simp [r, -Fin.getElem_fin, he, hr])]
  split
  · next h0 => exact absurd (h0.symm.trans hv) (by decide)
  · next h1 => exact absurd (h1.symm.trans hv) (by decide)
  · rw [show indexVerdict r.size r.dev r.host (r.size - 1) t = 2 from hv]

theorem State.refuseIndex_stops (q : Fin 16) (ring reason : Nat) :
    (s.refuseIndex p (fun x => { x with sq := updV x.sq q fun r => r.stop reason }) ring reason).ports[
        hostPort p].sq[q].error = true ∧
      (s.refuseIndex p (fun x => { x with sq := updV x.sq q fun r => r.stop reason }) ring reason).ports[
        hostPort p].error.getLsbD 5 = true := by
  unfold State.refuseIndex
  rw [State.raise_portError, State.raise_sq, State.modPort_port]
  refine ⟨?_, ?_⟩
  · dsimp only
    rw [updV_self]
    rfl
  · rw [BitVec.getLsbD_or]
    exact Bool.or_true _

theorem State.takeCqHead_host {q : Fin 16} {h : Nat} (he : s.ports[hostPort p].cq[q].enabled = true)
    (hr : s.ports[hostPort p].cq[q].error = false)
    (hv : indexVerdict s.ports[hostPort p].cq[q].size s.ports[hostPort p].cq[q].host s.ports[hostPort p].cq[q].host
      ((s.ports[hostPort p].cq[q].dev + s.ports[hostPort p].cq[q].size - s.ports[hostPort p].cq[q].host)
        % s.ports[hostPort p].cq[q].size) h = 1) :
    (s.takeCqHead p q h).ports[hostPort p].cq[q].host = h := by
  unfold State.takeCqHead
  extract_lets r unread
  rw [if_neg (by simp [r, -Fin.getElem_fin, he, hr])]
  split
  · next h0 => exact absurd (h0.symm.trans hv) (by decide)
  · simp only [State.modPort_port]
    rw [updV_self]
  · next h1 => exact absurd hv h1

theorem State.takeCqHead_of_disabled {q : Fin 16} (he : s.ports[hostPort p].cq[q].enabled = false) (h : Nat) :
    s.takeCqHead p q h = s := by
  unfold State.takeCqHead
  exact if_pos (by simp [-Fin.getElem_fin, he])

theorem State.takeEvqHead_host {h : Nat} (he : s.ports[hostPort p].evq.enabled = true)
    (hr : s.ports[hostPort p].evq.error = false)
    (hv : indexVerdict s.ports[hostPort p].evq.size s.ports[hostPort p].evq.host s.ports[hostPort p].evq.host
      ((s.ports[hostPort p].evq.dev + s.ports[hostPort p].evq.size - s.ports[hostPort p].evq.host)
        % s.ports[hostPort p].evq.size) h = 1) :
    (s.takeEvqHead p h).ports[hostPort p].evq.host = h := by
  unfold State.takeEvqHead
  extract_lets r unread
  rw [if_neg (by simp [r, -Fin.getElem_fin, he, hr])]
  split
  · next h0 => exact absurd (h0.symm.trans hv) (by decide)
  · rw [State.modPort_port]
  · next h1 => exact absurd hv h1

theorem State.takeEvqHead_of_disabled (he : s.ports[hostPort p].evq.enabled = false) (h : Nat) :
    s.takeEvqHead p h = s := by
  unfold State.takeEvqHead
  exact if_pos (by simp [-Fin.getElem_fin, he])

/-! ### The shadow area (R294, Table HR-9) -/

/-- A run of tails that all lie ahead moves each ring to its own tail; completion and event rings stand. -/
theorem State.takeTails_port (tail : Fin 16 → Nat) {l : List (Fin 16)} (hn : l.Nodup)
    (h : ∀ q ∈ l, s.ports[hostPort p].tailVerdict q (tail q) = 1) :
    (∀ q ∈ l, (s.each l fun s q => s.takeTail p q (tail q)).ports[hostPort p].sq[q] =
        s.ports[hostPort p].sq[q].tailed (tail q)) ∧
      (∀ q ∉ l, (s.each l fun s q => s.takeTail p q (tail q)).ports[hostPort p].sq[q] = s.ports[hostPort p].sq[q]) ∧
      (s.each l fun s q => s.takeTail p q (tail q)).ports[hostPort p].cq = s.ports[hostPort p].cq ∧
      (s.each l fun s q => s.takeTail p q (tail q)).ports[hostPort p].evq = s.ports[hostPort p].evq := by
  induction l generalizing s with
  | nil => exact ⟨fun _ hq => absurd hq List.not_mem_nil, fun _ _ => rfl, rfl, rfl⟩
  | cons a l ih =>
    obtain ⟨ha, hl⟩ := List.nodup_cons.mp hn
    have hport := s.takeTail_port p (h a List.mem_cons_self)
    have hother : ∀ q, q ≠ a → (s.takeTail p a (tail a)).ports[hostPort p].sq[q] = s.ports[hostPort p].sq[q] :=
      fun q hq => by rw [hport, PortSt.tailed_sq_other _ hq.symm]
    have hself : (s.takeTail p a (tail a)).ports[hostPort p].sq[a] = s.ports[hostPort p].sq[a].tailed (tail a) := by
      rw [hport, PortSt.tailed_sq]
    obtain ⟨hin, hout, hcq, hevq⟩ := ih (s.takeTail p a (tail a)) hl fun q hq => by
      have hne : q ≠ a := fun e => ha (e ▸ hq)
      have hv := h q (List.mem_cons_of_mem a hq)
      unfold PortSt.tailVerdict at hv ⊢
      rwa [hother q hne]
    refine ⟨fun q hq => ?_, fun q hq => ?_, hcq.trans (by rw [hport]; rfl), hevq.trans (by rw [hport]; rfl)⟩
    · by_cases e : q = a
      · subst e
        exact (hout q ha).trans hself
      · rw [← hother q e]
        exact hin q ((List.mem_cons.mp hq).resolve_left e)
    · obtain ⟨hne, hnl⟩ := not_or.mp (List.mem_cons.not.mp hq)
      exact (hout q hnl).trans (hother q hne)

/-- Where neither completion nor event ring is enabled, the shadow area brings the submission tails. -/
theorem State.readShadow_sq (area : List Byte)
    (h : ∀ q : Fin 16, s.ports[hostPort p].tailVerdict q (bits (u32At area (4 * q.val)) 0 12) = 1)
    (hcq : ∀ q : Fin 16, s.ports[hostPort p].cq[q].enabled = false) (hevq : s.ports[hostPort p].evq.enabled = false)
    (q : Fin 16) : (s.readShadow p area).ports[hostPort p].sq[q] =
      s.ports[hostPort p].sq[q].tailed (bits (u32At area (4 * q.val)) 0 12) := by
  unfold State.readShadow
  extract_lets at_ s1 s2
  obtain ⟨htail, -, hc, he⟩ := s.takeTails_port p (fun q => at_ (4 * q.val)) (List.nodup_finRange 16) fun q _ => h q
  have h2 : s2 = s1 := List.foldl_fixed' (fun q => s1.takeCqHead_of_disabled p (by rw [hc]; exact hcq q) _) _
  rw [h2, s1.takeEvqHead_of_disabled p (by rw [he]; exact hevq)]
  exact htail q (List.mem_finRange q)

/-! ### The event ring's configuration (R290, R292) -/

theorem Ring.write_starts {r : Ring} {v : BitVec 32} (he : r.enabled = false) (hv : v.getLsbD 4 = true) :
    r.write true v = { r with
      cfg := v, dev := 0, host := 0, error := false, reason := 0, phase := true, unsignalled := 0,
      firstUnsignalled := 0 } := by
  unfold Ring.write
  rw [if_neg (by simp [he]), if_pos (by simp only [hv, Bool.and_self])]

theorem Ring.write_refused {r : Ring} (he : r.enabled = false) (v : BitVec 32) :
    (r.write false v).enabled = false := by
  unfold Ring.write
  rw [if_neg (by simp [he]), Bool.and_false, if_neg Bool.false_ne_true, Ring.enabled, BitVec.getLsbD_and]
  exact Bool.and_false _

theorem State.portError_bit {b : Nat} (h : b < 6) : (s.portError p b).ports[hostPort p].error.getLsbD b = true := by
  unfold State.portError
  rw [State.modPort_port, BitVec.getLsbD_or, BitVec.getLsbD_ofNat, Nat.testBit_two_pow_self, decide_eq_true h]
  exact Bool.or_true _

section
variable {v : BitVec 32} (he : s.ports[hostPort p].evq.enabled = false) (hv : v.getLsbD 4 = true)
include he hv

/-- Setting enable on a good configuration resets the event ring. -/
theorem State.writeRingCfg_evq_starts (hg : cfgGood false s.ports[hostPort p].evq.base v.toNat = true) :
    (s.writeRingCfg p true v).ports[hostPort p].evq = s.ports[hostPort p].evq.write true v ∧
      (s.writeRingCfg p true v).ports[hostPort p].evqEntries = [] := by
  unfold State.writeRingCfg
  extract_lets t sel q submission old good new starts s1
  have hgood : good = true := by
    show (cfgGood false s.ports[hostPort p].evq.base v.toNat && true) = true
    rw [hg, Bool.and_self]
  have hnew : new = s.ports[hostPort p].evq.write true v := by rw [← hgood]; rfl
  have hstarts : starts = true := by
    show (!s.ports[hostPort p].evq.enabled && new.enabled) = true
    rw [hnew, Ring.write_starts he hv, he]
    exact hv
  rw [if_neg (by simp [hgood])]
  simp only [s1, State.modPort_port, if_true, hstarts]
  exact ⟨hnew, trivial⟩

/-- A bad configuration leaves the event ring disabled, and the port notes it. -/
theorem State.writeRingCfg_evq_refused (hg : cfgGood false s.ports[hostPort p].evq.base v.toNat = false) :
    (s.writeRingCfg p true v).ports[hostPort p].evq.enabled = false ∧
      (s.writeRingCfg p true v).ports[hostPort p].error.getLsbD 4 = true := by
  unfold State.writeRingCfg
  extract_lets t sel q submission old good new starts s1
  have hgood : good = false := by
    show (cfgGood false s.ports[hostPort p].evq.base v.toNat && true) = false
    rw [hg, Bool.false_and]
  have hnew : new = s.ports[hostPort p].evq.write false v := by rw [← hgood]; rfl
  have hold : old.enabled = false := he
  rw [if_pos (by rw [hold, hv, hgood]; rfl)]
  refine ⟨?_, s1.portError_bit p (by decide)⟩
  unfold State.portError
  simp only [s1, State.modPort_port, if_true]
  rw [hnew]
  exact Ring.write_refused he v

end

/-! ### The port starts and stops (R291, R304) -/

theorem PortSt.drainCq_up (own : Bool) (now : Nat) : ∀ (cs kept : List Completion) (t : PortSt),
    (PortSt.drainCq own now cs kept t).up = t.up ∧ (PortSt.drainCq own now cs kept t).running = t.running
  | [], _, _ => ⟨rfl, rfl⟩
  | c :: cs, kept, t => by
    unfold PortSt.drainCq
    extract_lets q
    split
    · exact PortSt.drainCq_up own now cs kept _
    · exact PortSt.drainCq_up own now cs _ t

theorem PortSt.drainEv_up (own : Bool) (now : Nat) : ∀ (es : List Event) (t : PortSt),
    (PortSt.drainEv own now es t).up = t.up ∧ (PortSt.drainEv own now es t).running = t.running
  | [], _ => ⟨rfl, rfl⟩
  | e :: es, t => by
    unfold PortSt.drainEv
    split
    · exact PortSt.drainEv_up own now es _
    · exact ⟨rfl, rfl⟩

theorem State.drainLayby_outputs (k : PortId) : s.OutputsOnly (s.drainLayby k) := by
  unfold State.drainLayby
  extract_lets own t s1
  split
  · exact .refl s
  · refine (State.modPort_outputs _ _ _ (fun t => ?_) fun t => ?_).trans (State.noteLayby_outputs s1 k)
    · exact (PortSt.drainEv_up ..).1.trans (PortSt.drainCq_up ..).1
    · exact (PortSt.drainEv_up ..).2.trans (PortSt.drainCq_up ..).2

theorem State.enablePort_starts (v : BitVec 32) (hr : s.ports[hostPort p].running = false)
    (hm : s.ports[hostPort p].mayRun = true) :
    (s.enablePort p v).ports[hostPort p].running = true ∧ (s.enablePort p v).ports[hostPort p].up = true := by
  unfold State.enablePort
  extract_lets k t s1
  rw [if_neg (by simp only [t, k, hr]; exact Bool.false_ne_true), if_pos hm]
  have h1 := (State.drainLayby_outputs (s.modPort k fun t =>
    { t with ctrl := v &&& 7, running := true, up := true, statusWrites := 1 }) k).trans
      (s1.raise_outputs Ev.HR_PORT_UP [.u8 p.val, .u8 s.activeCore.val])
  rw [h1.running k, h1.up k, State.modPort_port]
  exact ⟨rfl, rfl⟩

/-- A port that stops raises at most an event; what it was set up with stands. -/
theorem State.stopPort_stops (k : PortId) (reason : Nat) :
    (s.stopPort k reason).ports[k].running = false ∧ (s.stopPort k reason).ports[k].up = false ∧
      (s.stopPort k reason).ports[k].error = s.ports[k].error := by
  unfold State.stopPort
  split
  · have hout := (s.modPort k fun t => { t with running := false, up := false }).raise_outputs Ev.HR_PORT_DOWN
      [.u8 (portNum k), .u8 reason]
    rw [hout.running k, hout.up k, State.raise_portError, State.modPort_port]
    exact ⟨rfl, rfl, rfl⟩
  · next h =>
    rw [State.modPort_port]
    exact ⟨Bool.eq_false_of_not_eq_true h, rfl, rfl⟩

theorem State.disablePort_stops (v : BitVec 32) :
    (s.disablePort p v).ports[hostPort p].running = false ∧ (s.disablePort p v).ports[hostPort p].up = false ∧
      (s.disablePort p v).ports[hostPort p].error = s.ports[hostPort p].error := by
  obtain ⟨hrun, hup, herr⟩ := (s.modPort (hostPort p) fun t => { t with ctrl := v &&& 6 }).stopPort_stops (hostPort p) 1
  rw [State.modPort_port] at herr
  exact ⟨hrun, hup, herr⟩

/-! ### Interrupts and host memory errors (R305, R306) -/

theorem State.msix_of_permitted {q : Fin 16} (hn : s.ports[hostPort p].cq[q].unsignalled ≠ 0)
    (hc : s.ports[hostPort p].ctrl.getLsbD 1 = true) :
    s.msix p (some q) = s.modPort (hostPort p) fun t =>
      { t with msix := t.msix + 1, cq := updV t.cq q fun r => { r with unsignalled := 0 } } := by
  unfold State.msix
  extract_lets t n
  exact if_neg (by simp [t, n, -Fin.getElem_fin, hn, hc])

theorem State.writeFailed_stops {b : Nat} (h : b < 6) :
    (s.writeFailed p b).ports[hostPort p].running = false ∧
      (s.writeFailed p b).ports[hostPort p].error.getLsbD b = true := by
  unfold State.writeFailed
  extract_lets s1
  obtain ⟨hrun, -, herr⟩ := (s1.raise Ev.HR_DMA_ERROR
    [.u8 p.val, .u8 s1.ports[hostPort p].error.toNat]).disablePort_stops p s1.ports[hostPort p].ctrl
  refine ⟨hrun, ?_⟩
  rw [herr, State.raise_portError]
  exact s.portError_bit p h

theorem State.raise_stopped_sq (q : Fin 16) (reason : Nat) (code : BitVec 10) (items : List Item) :
    ((s.modPort (hostPort p) fun t => { t with sq := updV t.sq q fun r => r.stop reason }).raise code items).ports[
      hostPort p].sq[q] = s.ports[hostPort p].sq[q].stop reason := by
  simp only [State.raise_sq, State.modPort_port]
  rw [updV_self]

/-! ### The commands of a host port -/

theorem exec_registerWrite_plain {o : BitVec 12} (v : BitVec 32) (h : o.toNat < 0x800)
    (hn : o.toNat ∉ [0x008, 0x030, 0x054, 0x0C0, 0x0C8]) :
    exec (.registerWrite p s.activeCore o v) s = .next (s.modPort (hostPort p) fun t => t.writeReg o.toNat v) := by
  simp only [List.mem_cons, List.not_mem_nil, or_false, not_or] at hn
  obtain ⟨hctrl, hevq, hring, hmode, hwake⟩ := hn
  rw [exec_registerWrite, execRegisterWrite, if_neg hctrl, if_neg (not_or.mpr ⟨hevq, hring⟩), if_neg hmode,
    if_neg hwake, if_neg (by omega), State.setUpWrite_active]

theorem exec_shadowPoll_running (area : List Byte) (h : s.ports[hostPort p].running = true) :
    exec (.shadowPoll p (some area)) s = .next (s.readShadow p area) := by
  rw [exec_shadowPoll, execShadowPoll, if_pos h]

end

/-- Settles O34: each command of a host port by what it makes of the ring or of the port it is about. -/
theorem hostPortsComplete : Obligations.HostPortsComplete := by
  intro s p v
  refine ⟨fun q he hr => ⟨fun hv => ?_, fun hv => ?_⟩, fun q he hr hv => ?_, fun he hr hv => ?_,
    fun area hrun hv hcq hevq => ?_, ?_, fun he hv hg => ?_, fun he hv hg => ?_, fun hr hm => ?_, ?_,
    fun o ho hn => ?_, fun q hn hc => ?_, fun q => ?_, ?_⟩
  · refine .intro (exec_sqTailDoorbell s p s.activeCore q v) ?_
    rw [State.doorbell_active, s.takeTail_port p hv, PortSt.tailed_sq, Ring.tailed_of_open he hr]
  · refine .intro (exec_sqTailDoorbell s p s.activeCore q v) ?_
    rw [State.doorbell_active, s.takeTail_of_beyond p he hr hv]
    exact s.refuseIndex_stops p q _ 1
  · refine .intro (exec_cqHeadDoorbell s p s.activeCore q v) ?_
    rw [State.doorbell_active]
    exact s.takeCqHead_host p he hr hv
  · refine .intro (exec_evqHeadDoorbell s p s.activeCore v) ?_
    rw [State.doorbell_active]
    exact s.takeEvqHead_host p he hr hv
  · refine .intro (exec_shadowPoll_running s p area hrun) fun q he hr => ?_
    rw [s.readShadow_sq p area hv hcq hevq q, Ring.tailed_of_open he hr]
  · refine .intro (exec_shadowPoll s p none) ?_
    rw [State.modPort_port]
  · obtain ⟨hring, hentries⟩ := s.writeRingCfg_evq_starts p he hv hg
    refine .intro (exec_ringCfgWrite s p s.activeCore true v) ?_
    rw [State.setUpWrite_active, hring, hentries, Ring.write_starts he hv]
    exact ⟨rfl, rfl, rfl, rfl⟩
  · refine .intro (exec_ringCfgWrite s p s.activeCore true v) ?_
    rw [State.setUpWrite_active]
    exact s.writeRingCfg_evq_refused p he hv hg
  · refine .intro (exec_portEnable s p s.activeCore v) ?_
    rw [State.setUpWrite_active]
    exact s.enablePort_starts p _ hr hm
  · obtain ⟨hrun, hup, -⟩ := s.disablePort_stops p v
    refine .intro (exec_portDisable s p s.activeCore v) ?_
    rw [State.setUpWrite_active]
    exact ⟨hrun, hup⟩
  · exact .intro (exec_registerWrite_plain s p v ho hn) (State.modPort_port ..)
  · refine .intro (exec_msixMessage s p (some q)) ?_
    rw [s.msix_of_permitted p hn hc, State.modPort_port]
    dsimp only
    rw [updV_self]
    exact ⟨rfl, rfl⟩
  · refine .intro (exec_dmaError s p (.descriptor q)) ?_
    rw [State.raise_stopped_sq]
    exact ⟨rfl, rfl⟩
  · exact .intro (exec_dmaError s p .status) (s.writeFailed_stops p (by decide))

end Sys2Proof.Machine
end

section
/-!
Priority records in staging (R137, R380): no operation of a takeover takes one out again.
-/

namespace Sys2Proof.Machine

/-- From `s` to `t` priority records are staged behind those that were there. -/
structure PrioGrows (s t : State) : Prop where
  before : s.journal.stagedPrio <+: t.journal.stagedPrio

namespace PrioGrows

variable {s t u : State}

theorem refl : PrioGrows s s := ⟨List.prefix_rfl⟩

theorem trans (h : PrioGrows s t) (g : PrioGrows t u) : PrioGrows s u := ⟨h.before.trans g.before⟩

theorem of_journal (h : t.journal = s.journal) : PrioGrows s t := ⟨by rw [h]⟩

/-- An operation that leaves staging alone. -/
theorem of_keeps {m : Nat} (h : KM m s t) (b : m.testBit 31 = false := by decide) : PrioGrows s t := by
  have hstaged : t.journal.stagedPrio = s.journal.stagedPrio :=
    congrArg Prod.fst (h.get .staging b : (_, _) = (_, _))
  exact ⟨by rw [hstaged]⟩

/-- Each turn of a run keeps what is staged, and so does the run. -/
theorem each {α : Type} (f : State → α → State) (hf : ∀ t a, PrioGrows t (f t a)) (l : List α) :
    ∀ s : State, PrioGrows s (s.each l f) := by
  induction l with
  | nil => exact fun _ => refl
  | cons a l ih => exact fun s => (hf s a).trans (ih (f s a))

section
variable (h : PrioGrows s t)
include h

theorem withFrame (f : FrameSt) : PrioGrows s { t with frame := f } := ⟨h.before⟩

theorem withDoors (x : DoorsSt) : PrioGrows s { t with doors := x } := ⟨h.before⟩

theorem modPort (p : PortId) (f : PortSt → PortSt) : PrioGrows s (t.modPort p f) :=
  h.trans (of_journal (State.modPort_journal ..))

theorem modPair (f : PairSt → PairSt) : PrioGrows s (t.modPair f) := h.trans (of_journal (State.modPair_journal ..))

theorem modPanel (f : PanelSt → PanelSt) : PrioGrows s (t.modPanel f) :=
  h.trans (of_journal (State.modPanel_journal ..))

theorem modAxis (a : Axis) (f : AxisSt → AxisSt) : PrioGrows s (t.modAxis a f) :=
  h.trans (of_journal (State.modAxis_journal ..))

theorem modDoor (d : Doorway) (f : DoorSt → DoorSt) : PrioGrows s (t.modDoor d f) :=
  h.trans (of_journal (State.modDoor_journal ..))

theorem noteCycle (d : Doorway) (f : CycleRec → CycleRec) : PrioGrows s (t.noteCycle d f) :=
  h.trans (of_keeps (State.noteCycle_keeps ..))

end

/-! ### Events and completions -/

theorem stage (s : State) (r : Record) : PrioGrows s (s.stage r) := by
  refine ⟨?_⟩
  unfold State.stage
  rw [State.modJournal_journal]
  split
  · exact List.prefix_append _ _
  · exact List.prefix_rfl

theorem stageEvent (s : State) (code : BitVec 10) (stamp : Nat) (items : List Item) :
    PrioGrows s (s.stageEvent code stamp items) := by
  unfold State.stageEvent
  extract_lets always wanted
  split
  · exact refl
  · split
    · exact ⟨List.prefix_rfl⟩
    · exact stage ..

theorem raiseOnce (s : State) (code : BitVec 10) (stamp : Nat) (items : List Item) :
    PrioGrows s (s.raiseOnce code stamp items) := by
  unfold State.raiseOnce
  extract_lets data s1 s2 door
  have h1 : PrioGrows s s1 := of_journal (by simp only [s1, State.portEvent_journal])
  have h2 : PrioGrows s s2 := h1.trans (stageEvent ..)
  clear_value s2
  split
  · exact h2.trans (of_journal (State.sendFault_journal ..))
  · exact h2

theorem raise (h : PrioGrows s t) (code : BitVec 10) (items : List Item) : PrioGrows s (t.raise code items) := by
  refine h.trans ?_
  unfold State.raise State.raiseAt
  extract_lets s1
  have h1 : PrioGrows t s1 := raiseOnce ..
  clear_value s1
  split
  · have hnoted : PrioGrows s1 (s1.modJournal fun j => { j with highRaised := true }) := ⟨List.prefix_rfl⟩
    exact (h1.trans hnoted).trans (raiseOnce ..)
  · exact h1

theorem noteLayby (h : PrioGrows s t) (p : PortId) : PrioGrows s (t.noteLayby p) := by
  unfold State.noteLayby
  extract_lets x v
  split
  · exact h
  · exact (h.modPort p _).raise _ _

theorem emit (h : PrioGrows s t) (p : PortId) (c : Completion) : PrioGrows s (t.emit p c) := by
  unfold State.emit
  extract_lets x c' s1
  have h1 : PrioGrows s s1 := h.modPort p _
  clear_value s1
  split
  · exact h1.modPair _
  · exact (h1.modPort p _).noteLayby p

theorem complete (h : PrioGrows s t) (r : Req) (oc : BitVec 15) (st : Byte) (d : Nat) (res : List Byte) :
    PrioGrows s (t.complete r oc st d res) := by
  unfold State.complete
  split
  · exact h
  · exact h.emit _ _

theorem completeAll (h : PrioGrows s t) (rs : List Req) (oc : BitVec 15) (st : Byte) (d : Nat) (res : List Byte) :
    PrioGrows s (t.completeAll rs oc st d res) :=
  h.trans (each _ (fun _ r => refl.complete r oc st d res) rs t)

theorem releaseHeld (h : PrioGrows s t) : PrioGrows s t.releaseHeld := by
  unfold State.releaseHeld State.releaseIf
  extract_lets cs es s1 s2
  have h1 : PrioGrows s s1 := h.modPair _
  have h2 : PrioGrows s s2 := h1.trans (each _ (fun _ c => (refl.modPort c.2.1 _).noteLayby c.2.1) cs s1)
  exact h2.trans (each _ (fun _ e => refl.modPort e.2.1 _) es s2)

theorem judgeTiers (h : PrioGrows s t) (cause : Nat) : PrioGrows s (t.judgeTiers cause) := by
  unfold State.judgeTiers
  extract_lets one s1 new old
  have hone : ∀ (t : State) (d : Doorway), PrioGrows t (one t d) := by
    intro t d
    unfold one
    extract_lets tier was src
    clear_value tier was src
    split
    · exact refl
    · exact (refl.withFrame _).raise _ _
  have h1 : PrioGrows s s1 := (h.trans (hone t 0)).trans (hone _ 1)
  clear_value s1
  split
  · exact h1
  · exact (h1.withFrame _).raise _ _

/-! ### Axes -/

theorem makeUncertain (h : PrioGrows s t) (a : Axis) (cause : Nat) : PrioGrows s (t.makeUncertain a cause) := by
  unfold State.makeUncertain
  split
  · exact h
  · exact (h.modAxis a _).raise _ _

theorem endAxisCmd (h : PrioGrows s t) (a : Axis) (st : Byte) (d : Nat) (res : List Byte) :
    PrioGrows s (t.endAxisCmd a st d res) := by
  unfold State.endAxisCmd
  split
  · exact h
  · exact (h.modAxis a _).completeAll _ _ _ _ _

theorem refFail (h : PrioGrows s t) (a : Axis) (reason : Nat) : PrioGrows s (t.refFail a reason) := by
  unfold State.refFail
  split
  · exact h
  · extract_lets s1 s2 s3
    have h1 : PrioGrows s s1 :=
      ((h.modAxis a _).trans (of_journal (State.modAxMod_journal _ a _))).raise _ _
    have h2 : PrioGrows s s2 := by
      unfold s2
      split
      · exact h1
      · exact h1.makeUncertain a 5
    have h3 : PrioGrows s s3 := h2.endAxisCmd _ _ _ _
    clear_value s3
    split
    · split
      · next d _ =>
        extract_lets s4
        have h4 : PrioGrows s s4 := by
          unfold s4
          split
          · exact h3.completeAll _ _ _ _ _
          · exact h3
        exact h4.modDoor d _
      · exact h3
    · exact h3

theorem freeze (h : PrioGrows s t) (a : Axis) (cause : FreezeCause) (st : Byte) (d : Nat) :
    PrioGrows s (t.freeze a cause st d) := by
  unfold State.freeze
  extract_lets x m loss held pos fast s1 s2 s3
  have h1 : PrioGrows s s1 := (h.modAxis a _).raise _ _
  have h2 : PrioGrows s s2 := by
    unfold s2
    split
    · exact h1.makeUncertain a 2
    · split
      · exact h1.makeUncertain a 1
      · exact h1
  have h3 : PrioGrows s s3 := by
    unfold s3
    split
    · exact h2.refFail a 4
    · exact h2
  exact h3.endAxisCmd _ _ _ _

theorem beginPlan (h : PrioGrows s t) (a : Axis) (kind : PlanKind) (target : Int) (body : PlanBody) (a0 : Int)
    (reversal : Bool) : PrioGrows s (t.beginPlan a kind target body a0 reversal) := by
  unfold State.beginPlan
  extract_lets x moving s1
  have h1 : PrioGrows s s1 := h.modAxis a _
  clear_value s1
  split
  · exact h
  · split
    · exact h1.raise _ _
    · exact h1.raise _ _

theorem reverseTo (h : PrioGrows s t) (a : Axis) (kind : PlanKind) (target : Option Int) (lim : Limits) :
    PrioGrows s (t.reverseTo a kind target lim) :=
  (h.modAxis a _).beginPlan _ _ _ _ _ _

/-! ### Doorways -/

theorem milestone (h : PrioGrows s t) (d : Doorway) (k : Fin 6) (n : Nat) : PrioGrows s (t.milestone d k n) := by
  unfold State.milestone
  extract_lets x s1 s2
  have h1 : PrioGrows s s1 := h.noteCycle d _
  have h2 : PrioGrows s s2 := ((h1.modDoor d _).modPanel _).raise _ _
  clear_value s2
  split
  · exact h2.trans (of_keeps (State.sendFallback_keeps ..))
  · exact h2

theorem endCycle (h : PrioGrows s t) (d : Doorway) (n : Nat) : PrioGrows s (t.endCycle d n) := by
  unfold State.endCycle
  split
  · exact h
  · extract_lets c
    exact (h.trans (stage ..)).trans ⟨List.prefix_rfl⟩

theorem enterLeaf (h : PrioGrows s t) (d : Doorway) (new : Leaf) (cause : Cause) :
    PrioGrows s (t.enterLeaf d new cause) := by
  unfold State.enterLeaf
  extract_lets old s0 s1 s2 s3 xs posOf
  have h0 : PrioGrows s s0 := by
    unfold s0
    split
    · exact h.trans (of_keeps (State.beginCycle_keeps ..))
    · exact h
  have h1 : PrioGrows s s1 := ((h0.modDoor d _).raise _ _).trans (of_keeps (State.sendStatus_keeps ..))
  have h3 : PrioGrows s s3 := by
    unfold s3
    split
    · exact (h1.modDoor d _).milestone _ _ _
    · exact h1.modDoor d _
  clear_value s1 s3
  split
  · exact h1.milestone _ _ _
  · split
    · exact h1.milestone _ _ _
    · exact h1
  · split
    · exact h1
    · exact h1.milestone _ _ _
  · exact h1.noteCycle d _
  · exact (h3.noteCycle d _).endCycle d 0
  · exact h1.noteCycle d _
  · exact h1.noteCycle d _
  · exact h1.modDoor d _
  · exact h1

theorem endCmd (h : PrioGrows s t) (d : Doorway) (st : Byte) (n : Nat) (res : List Byte) :
    PrioGrows s (t.endCmd d st n res) := by
  unfold State.endCmd
  split
  · exact h
  · exact (h.modDoor d _).completeAll _ _ _ _ _

theorem enterFault (h : PrioGrows s t) (d : Doorway) (cause : Cause) : PrioGrows s (t.enterFault d cause) := by
  unfold State.enterFault
  extract_lets s1
  have h1 : PrioGrows s s1 := by
    refine h.trans (each _ (fun t a => ?_) _ t)
    split
    · exact refl.freeze _ _ _ _
    · exact refl
  exact ((h1.enterLeaf d _ _).endCmd d _ _ _).modDoor d _

theorem obstacle (h : PrioGrows s t) (d : Doorway) (n : Nat) : PrioGrows s (t.obstacle d n) := by
  unfold State.obstacle
  extract_lets x both s1 s2 s3 s4 s5
  have h1 : PrioGrows s s1 := h.trans (each _ (fun _ _ => refl.reverseTo _ _ _ _) _ t)
  have h2 : PrioGrows s s2 := by
    unfold s2
    split
    · exact h1
    · exact h1.modDoor d _
  have h3 : PrioGrows s s3 := (h2.enterLeaf d _ _).modDoor d _
  have h4 : PrioGrows s s4 := h3.trans (of_journal (State.modObst_journal ..))
  have h5 : PrioGrows s s5 := h4.noteCycle d _
  clear_value s5
  split
  · exact h5.raise _ _
  · exact h

/-! ### Claims and sessions -/

theorem setOwner (h : PrioGrows s t) (r : Resource) (p : Option Party) (reason : Nat) :
    PrioGrows s (t.setOwner r p reason) := by
  unfold State.setOwner
  extract_lets old rest doors s1 s2
  have h1 : PrioGrows s s1 := h.withDoors _
  have h2 : PrioGrows s s2 := by
    unfold s2
    split
    · split
      · exact h1.modDoor _ _
      · exact h1
    · exact h1
  clear_value s2
  split
  · exact h
  · exact h2.raise _ _

theorem releaseAll (h : PrioGrows s t) (p : Party) (reason : Nat) : PrioGrows s (t.releaseAll p reason) :=
  h.trans (each _ (fun _ r => (refl.setOwner r none reason).trans (of_keeps (State.dropCursor_keeps ..))) _ t)

theorem refsWithoutClaim (h : PrioGrows s t) : PrioGrows s t.refsWithoutClaim := by
  refine h.trans (each _ (fun t a => ?_) _ t)
  split
  · split
    · exact (of_keeps (t.rampStop_keeps a)).refFail a 4
    · exact refl
  · exact refl

theorem endSession (h : PrioGrows s t) (c : CoreId) (reason : Nat) : PrioGrows s (t.endSession c reason) := by
  unfold State.endSession
  extract_lets s1 s2
  have h1 : PrioGrows s s1 := h.trans (of_journal (State.modSession_journal ..))
  have h2 : PrioGrows s s2 := ((h1.releaseAll .p4 4).refsWithoutClaim).raise _ _
  clear_value s2
  split
  · exact h
  · split
    · exact h2.modPort 3 _
    · exact h2

/-! ### A cold takeover's freeze (R273) -/

theorem coldFreeze (h : PrioGrows s t) : PrioGrows s t.coldFreeze := by
  unfold State.coldFreeze
  extract_lets moving s1
  have h1 : PrioGrows s s1 := by
    refine h.trans (each _ (fun t a => ?_) _ t)
    split
    · exact (refl.freeze _ _ _ _).makeUncertain a 6
    · exact refl
  refine h1.trans (each _ (fun t d => ?_) _ s1)
  split
  · exact refl.enterFault d .power
  · exact refl

end PrioGrows

end Sys2Proof.Machine
end

section
/-!
The pair's mirror and its states (R262, R264 to R267, R269 to R272, R280 to R284): a change of the standby's state, the
mirror and return frames, a core that falls silent, and a takeover.
-/

namespace Sys2Proof.Machine

section
variable (s : State)

/-! ### A change of the standby's state (R266, R267) -/

/-- The pair as a change of the standby's state notes it. -/
def PairSt.becomes (q : PairSt) (new : StandbyState) (now : Nat) : PairSt :=
  { q with standby := new, outSince := now, goodRun := 0, missing := 0 }

/-- A change of the standby's state is noted, and what follows it leaves the mirror alone. -/
theorem State.standbyBecomes_of_ne (new : StandbyState) (reason : Nat) (hne : s.pair.standby ≠ new) :
    KM 3003125760 (s.modPair fun q => q.becomes new s.now) (s.standbyBecomes new reason) := by
  unfold State.standbyBecomes
  extract_lets +onlyGivenNames old
  rw [if_neg (Ne.symm hne)]
  extract_lets +onlyGivenNames s1
  have h1 : KM 3003125760 (s.modPair fun q => q.becomes new s.now) s1 := by
    unfold s1
    with_reducible apply KM.app (g := State.raise_keeps _ _ _)
    · exact KM.refl
    · decide
  by_cases hin : new = .inStep
  · rw [if_pos hin]
    exact h1
  · rw [if_neg hin]
    extract_lets +onlyGivenNames s2
    have h2 : KM 3003125760 (s.modPair fun q => q.becomes new s.now) s2 :=
      h1.app (State.releaseHeld_keeps _) (by decide)
    split
    · exact h2.app (State.loopDrop_keeps _ _ _) (by decide)
    · exact h2

/-- A standby already in the state stays as it is. -/
theorem State.standbyBecomes_self {new : StandbyState} (reason : Nat) (h : s.pair.standby = new) :
    s.standbyBecomes new reason = s := if_pos h.symm

theorem State.standbyBecomes_standby (new : StandbyState) (reason : Nat) :
    (s.standbyBecomes new reason).pair.standby = new := by
  by_cases h : s.pair.standby = new
  · rw [s.standbyBecomes_self reason h, h]
  · exact (s.standbyBecomes_of_ne new reason h).standby_eq

/-- What a change of the standby's state leaves of the mirror. -/
theorem State.standbyBecomes_view {α : Type} (new : StandbyState) (reason : Nat) (g : PairSt → α)
    (hnew : ∀ (q : PairSt) (now : Nat), g (q.becomes new now) = g q := by intros; rfl)
    (hg : ∀ q : PairSt, g { q with core := .replicate 2 {}, heldCompletions := [], heldEvents := [] } = g q := by
      intro; rfl) :
    g (s.standbyBecomes new reason).pair = g s.pair := by
  by_cases h : s.pair.standby = new
  · rw [s.standbyBecomes_self reason h]
  · rw [(s.standbyBecomes_of_ne new reason h).pair_view g hg]
    exact hnew _ _

theorem State.standbyBecomes_core (new : StandbyState) (reason : Nat) :
    (s.standbyBecomes new reason).pair.core = s.pair.core := (s.standbyBecomes_keeps new reason).core_eq

/-! ### Two active cores (R262) -/

/-- C0 has the role and C1 gives it up. -/
theorem State.dualActive_cores (ha : s.anyActive = true) :
    (if s.activeCore = 0 then s else s.roleChange 0).pair.core[(0 : CoreId)].active = true ∧
      (if s.activeCore = 0 then s else s.roleChange 0).pair.core[(1 : CoreId)].active = false := by
  split
  · next h =>
    have h1 : s.pair.core[(1 : CoreId)].active = false := by
      unfold State.activeCore at h
      split at h
      · exact absurd h (by decide)
      · next h1 => exact Bool.eq_false_of_not_eq_true h1
    refine ⟨?_, h1⟩
    unfold State.anyActive at ha
    exact (Bool.or_eq_true_iff.mp ha).resolve_right (by rw [h1]; exact Bool.false_ne_true)
  · exact ⟨s.roleChange_active 0, s.roleChange_other_rests 0⟩

theorem exec_dualActive_yields (how : Nat) (h0 : s.pair.core[(0 : CoreId)].present = true)
    (h1 : s.pair.core[(1 : CoreId)].present = true) (ha : s.anyActive = true) :
    Does (.dualActive how) s fun t => t.pair.core[(0 : CoreId)].active = true ∧
      t.pair.core[(1 : CoreId)].active = false ∧ t.pair.standby = .catchingUp := by
  obtain ⟨hc0, hc1⟩ := s.dualActive_cores ha
  refine .intro (by rw [exec_dualActive, execDualActive, if_pos (by rw [h0, h1]; rfl)]) ?_
  extract_lets s1
  have hcore : (((s1.standbyBecomes .catchingUp 4).modPair fun q => { q with enabledAt := s.now }).raise
      Ev.CP_DUAL_ACTIVE [.u8 how]).pair.core = s1.pair.core :=
    (State.raise_pairCore ..).trans (s1.standbyBecomes_core .catchingUp 4)
  simp only [hcore, State.raise_standby]
  exact ⟨hc0, hc1, s1.standbyBecomes_standby .catchingUp 4⟩

/-! ### The mirror frame (R264, Table CP-1) -/

/-- What a good mirror frame brings at once: its sequence and the bus counters. -/
def State.mirrorTaken (s : State) : BitVec 32 × Vector (BitVec 48) 2 := (s.pair.mseqApplied, s.time.ce)

/-- An operation that leaves the mirror and the time alone. -/
theorem KM.mirrorTaken {m : Nat} {s t : State} (h : KM m s t) (b : m.testBit 23 = false := by decide)
    (b' : m.testBit 30 = false := by decide) : t.mirrorTaken = s.mirrorTaken :=
  Prod.ext (h.pair_view (·.mseqApplied) (b := b)) (by show t.time.ce = s.time.ce; rw [h.time_eq b'])

theorem State.standbyBecomes_mirrorTaken (new : StandbyState) (reason : Nat) :
    (s.standbyBecomes new reason).mirrorTaken = s.mirrorTaken :=
  Prod.ext (s.standbyBecomes_view new reason (·.mseqApplied))
    (congrArg TimeSt.ce (s.standbyBecomes_keeps new reason).time_eq)

theorem State.mirrorRecord_mirrorTaken (number : Nat) : (s.mirrorRecord number).mirrorTaken = s.mirrorTaken := by
  unfold State.mirrorRecord
  extract_lets c n
  split
  · rfl
  · split <;> rfl

theorem State.modFirstMissing_mirrorTaken (next : Option Nat) :
    (s.modPair fun q => { q with firstMissing := next }).mirrorTaken = s.mirrorTaken := rfl

theorem State.resendRecord_mirrorTaken : s.resendRecord.mirrorTaken = s.mirrorTaken := by
  unfold State.resendRecord
  extract_lets c
  split
  · rfl
  · extract_lets s1 have_ next
    have h1 : s1.mirrorTaken = s.mirrorTaken := by
      unfold s1
      split <;> rfl
    exact (s1.modFirstMissing_mirrorTaken next).trans h1

theorem State.backfillRecord_mirrorTaken : s.backfillRecord.mirrorTaken = s.mirrorTaken :=
  KM.mirrorTaken s.backfillRecord_keeps

theorem State.takeBulk_mirrorTaken (kind offset : Nat) : (s.takeBulk kind offset).mirrorTaken = s.mirrorTaken := by
  unfold State.takeBulk
  extract_lets whole
  split
  · exact State.each_same _ _ _ (fun t _ _ => t.resendRecord_mirrorTaken) s
  · split
    · exact State.each_same _ _ _ (fun t _ _ => t.backfillRecord_mirrorTaken) s
    · split
      · rfl
      · split <;> rfl

/-- A good mirror frame is applied: its sequence is noted and the standby's bus counter follows. -/
theorem State.mirrorFrame_of_good {frame : List Byte} (hs : s.standbyPresent = true) (ha : s.anyActive = true)
    (hg : frameGood frame 1024 0x11 = true) : (s.mirrorFrame frame).mirrorTaken =
      (BitVec.ofNat 32 (u32At frame 4), updV s.time.ce s.standbyCore fun _ => s.time.ce[s.activeCore]) := by
  unfold State.mirrorFrame
  rw [if_neg (by simp [hs, ha]), if_neg (by rw [hg]; decide)]
  extract_lets c s1 s2 s3 s4 s5
  have h3 : s3.mirrorTaken = s2.mirrorTaken :=
    State.each_same _ _ _ (fun t n _ => t.mirrorRecord_mirrorTaken n) s2
  have h4 : s4.mirrorTaken = s2.mirrorTaken := (s3.takeBulk_mirrorTaken _ _).trans h3
  have h5 : s5.mirrorTaken = s2.mirrorTaken := by
    unfold s5
    split
    · exact (s4.standbyBecomes_mirrorTaken _ _).trans h4
    · exact h4
  clear_value s5
  split
  · exact (s5.standbyBecomes_mirrorTaken _ _).trans h5
  · exact h5

/-- A bad mirror frame puts a standby in step out of step, and nothing of it is applied. -/
theorem State.badMirror_leaves (h : s.pair.standby = .inStep) :
    s.badMirror.pair.standby = .outOfStep ∧ s.badMirror.pair.mseqApplied = s.pair.mseqApplied := by
  unfold State.badMirror
  extract_lets fresh n raised s1 s2
  have h2 : s2.pair.standby = s1.pair.standby ∧ s2.pair.mseqApplied = s1.pair.mseqApplied := by
    unfold s2
    split
    · exact ⟨State.raise_standby .., (State.raise_keeps s1 _ _).pair_view (·.mseqApplied)⟩
    · exact ⟨rfl, rfl⟩
  obtain ⟨hstandby, happlied⟩ := h2
  have hin : s2.pair.standby = .inStep := hstandby.trans h
  rw [if_pos hin]
  exact ⟨s2.standbyBecomes_standby .outOfStep 1,
    (s2.standbyBecomes_view .outOfStep 1 (·.mseqApplied)).trans happlied⟩

theorem State.mirrorFrame_of_bad {frame : List Byte} (hs : s.standbyPresent = true) (ha : s.anyActive = true)
    (hb : frameGood frame 1024 0x11 = false) : s.mirrorFrame frame = s.badMirror := by
  unfold State.mirrorFrame
  rw [if_neg (by simp [hs, ha]), if_pos (by rw [hb]; rfl)]

/-! ### The return frame (R265, Table CP-2) -/

/-- What a good return frame brings at once: its acknowledgement, the standby's health and the slots it covers. -/
structure SameReturned (s t : State) : Prop where
  ack : t.pair.mseqAck = s.pair.mseqAck
  core : t.pair.core = s.pair.core
  slots : t.frame.slots = s.frame.slots

namespace SameReturned

variable {s t u : State}

theorem refl : SameReturned s s := ⟨rfl, rfl, rfl⟩

theorem trans (h : SameReturned s t) (g : SameReturned t u) : SameReturned s u :=
  ⟨g.ack.trans h.ack, g.core.trans h.core, g.slots.trans h.slots⟩

theorem raise (h : SameReturned s t) (code : BitVec 10) (items : List Item) : SameReturned s (t.raise code items) :=
  h.trans ⟨State.raise_mseqAck .., State.raise_pairCore .., State.raise_slots ..⟩

theorem standbyBecomes (h : SameReturned s t) (new : StandbyState) (reason : Nat) :
    SameReturned s (t.standbyBecomes new reason) :=
  h.trans ⟨t.standbyBecomes_view new reason (·.mseqAck), t.standbyBecomes_core new reason,
    t.standbyBecomes_slots new reason⟩

end SameReturned

/-- A good return frame: its acknowledgement, the health of the standby's journal and the slots it covers. -/
theorem State.returnFrame_of_good {frame : List Byte} (hs : s.standbyPresent = true) (ha : s.anyActive = true)
    (hg : frameGood frame 64 0x12 = true) :
    (s.returnFrame frame).pair.mseqAck = BitVec.ofNat 32 (u32At frame 4) ∧
      (s.returnFrame frame).pair.core[s.standbyCore].nandHealthy = bit (byteAt frame 1) 4 ∧
      ∀ k : Slot, (s.returnFrame frame).frame.slots[k].linkUp[s.standbyCore] = bit (u16At frame 12) k.val := by
  unfold State.returnFrame
  rw [if_neg (by rw [hs, ha, hg]; decide)]
  extract_lets c flags ack s1 s2 src s3 s4 missing marked s5 hashSame s6 told
  have h2 : s2.pair.mseqAck = ack := by
    unfold s2
    split
    · exact (s1.releaseIf_keeps _).pair_view (·.mseqAck)
    · rfl
  have hack : s4.pair.mseqAck = ack := h2
  have hhealth : s4.pair.core[c].nandHealthy = bit flags 4 := by
    show (updV s2.pair.core c _)[c].nandHealthy = _
    rw [updV_self]
  have hslots : ∀ k : Slot, s4.frame.slots[k].linkUp[c] = bit (u16At frame 12) k.val := by
    intro k
    simp only [s4, State.takeCovered, mapV, Fin.getElem_fin, Vector.getElem_ofFn]
    exact updV_self _ _ _
  have h5 : SameReturned s4 s5 := by
    unfold s5
    split
    · exact ⟨rfl, rfl, rfl⟩
    · have hmarked : SameReturned s4 marked := ⟨rfl, rfl, rfl⟩
      split
      · exact hmarked
      · exact SameReturned.raise (s := s4) (t := marked.modJournal fun j => { j with missingRaised := true })
          ⟨rfl, rfl, rfl⟩ _ _
  have h6 : SameReturned s4 s6 := by
    unfold s6
    split
    · exact (h5.raise _ _).standbyBecomes _ _
    · exact h5
  have hlast : SameReturned s4 (if told = .absent || told = .inStep || s6.pair.standby = .catchingUp then s6
      else s6.standbyBecomes told 7) := by
    split
    · exact h6
    · exact h6.standbyBecomes _ _
  simp only [hlast.ack, hlast.core, hlast.slots]
  exact ⟨hack, hhealth, hslots⟩

/-! ### A core falls silent (R269, Table CP-4) -/

/-- A core that has fallen silent. -/
def CoreSt.silent (x : CoreSt) (cause now : Nat) : CoreSt :=
  { x with active := false, present := false, faulted := true, cause := cause, silentAt := now, listenFrom := none }

theorem State.coreSilent_core (c : CoreId) (cause : Nat) :
    (s.coreSilent c cause).pair.core[c] = s.pair.core[c].silent cause s.now := updV_self _ _ _

theorem State.coreSilent_slot (c : CoreId) (cause : Nat) :
    (s.coreSilent c cause).frame.slots[coreSlot c].inService = false := by
  unfold State.coreSilent
  rw [State.modSlot_frame_slots, updV_self]

/-- The core is silent, whoever had the role. -/
theorem exec_coreFault_silent (c : CoreId) (cause : Nat) (h : s.pair.core[c].present = true) :
    ∃ u t : State, exec (.coreFault c cause) s = .next t ∧ t.pair.core = (u.coreSilent c cause).pair.core ∧
      t.frame.slots = (u.coreSilent c cause).frame.slots := by
  rw [exec_coreFault, execCoreFault, if_neg (by rw [h]; exact Bool.false_ne_true)]
  split
  · exact ⟨s, _, rfl, (State.bothSilent_keeps _).core_eq, (State.bothSilent_keeps _).slots_eq⟩
  · exact ⟨s.standbyBecomes .faulted 5, _, rfl, (State.coreFaultEvent_keeps _ c).core_eq,
      (State.coreFaultEvent_keeps _ c).slots_eq⟩

/-! ### Takeover (R271, R273, R280) -/

/-- From `s` to `t` the roles and the standby's state stand, and what is staged with priority stays staged. -/
structure TakeoverGoesOn (s t : State) : Prop where
  core : t.pair.core = s.pair.core
  standby : t.pair.standby = s.pair.standby
  prio : PrioGrows s t

namespace TakeoverGoesOn

variable {s t u : State}

theorem trans (h : TakeoverGoesOn s t) (g : TakeoverGoesOn t u) : TakeoverGoesOn s u :=
  ⟨g.core.trans h.core, g.standby.trans h.standby, h.prio.trans g.prio⟩

theorem of_keeps {m : Nat} (h : KM m s t) (g : PrioGrows s t) (b : m.testBit 22 = false := by decide)
    (b' : m.testBit 23 = false := by decide) : TakeoverGoesOn s t := ⟨h.core_eq b, h.standby_eq b', g⟩

theorem refl : TakeoverGoesOn s s := ⟨rfl, rfl, .refl⟩

theorem raise (h : TakeoverGoesOn s t) (code : BitVec 10) (items : List Item) :
    TakeoverGoesOn s (t.raise code items) :=
  h.trans (.of_keeps (t.raise_keeps code items) (PrioGrows.refl.raise code items))

theorem each {α : Type} (f : State → α → State) (hf : ∀ t a, TakeoverGoesOn t (f t a)) (l : List α) :
    ∀ s : State, TakeoverGoesOn s (s.each l f) := by
  induction l with
  | nil => exact fun _ => refl
  | cons a l ih => exact fun s => (hf s a).trans (ih (f s a))

end TakeoverGoesOn

/-- The surviving core has the role, and the journal is as it was. -/
def State.roleTaken (s : State) (new : CoreId) : State :=
  (s.roleChange new).modPair fun q =>
    { q with standby := .absent, outSince := s.now, handover := none, handoverReq := none }

/-- The state in which the new core has the role and numbers on behind the gap record. -/
def State.tookRole (s : State) (new : CoreId) : State :=
  (s.roleTaken new).skipNumbers

theorem State.takeover_goesOn (new : CoreId) : TakeoverGoesOn (s.tookRole new) (s.takeover new) := by
  unfold State.takeover
  extract_lets old was moved s1 s2 s3 s4 s5 s6 s7 s8
  have h2 : TakeoverGoesOn (s.tookRole new) s2 := .refl
  have h3 : TakeoverGoesOn (s.tookRole new) s3 := by
    unfold s3
    split
    · exact h2.raise _ _
    · exact (h2.trans (.of_keeps s2.coldFreeze_keeps PrioGrows.refl.coldFreeze)).raise _ _
  have h4 : TakeoverGoesOn (s.tookRole new) s4 := by
    unfold s4
    split
    · exact h3.raise _ _
    · exact h3
  have h5 : TakeoverGoesOn (s.tookRole new) s5 := h4.raise _ _
  have h6 : TakeoverGoesOn (s.tookRole new) s6 :=
    (h5.trans (.of_keeps s5.releaseHeld_keeps PrioGrows.refl.releaseHeld)).trans
      (.of_keeps (State.endSession_keeps _ old 4) (PrioGrows.refl.endSession old 4))
  have h7 : TakeoverGoesOn (s.tookRole new) s7 := by
    unfold s7
    split
    · next r _ => exact h6.trans (.of_keeps (s6.ok_keeps r _ _) (PrioGrows.refl.complete r _ _ _ _))
    · exact h6
  have h8 : TakeoverGoesOn (s.tookRole new) s8 := by
    refine h7.trans (.each _ (fun t d => ?_) _ s7)
    split
    · next src _ =>
      split
      · exact .of_keeps (t.obstacle_keeps d src) (PrioGrows.refl.obstacle d src)
      · exact .refl
    · exact .refl
  have h9 : TakeoverGoesOn (s.tookRole new) (s8.modPanel fun p => { p with snapshot := none, stretched := none }) :=
    h8.trans (.of_keeps (State.modPanel_keeps ..) (PrioGrows.refl.modPanel _))
  exact h9.trans (.of_keeps (State.judgeTiers_keeps ..) (PrioGrows.refl.judgeTiers _))

theorem State.tookRole_core (new : CoreId) : (s.tookRole new).pair.core = (s.roleChange new).pair.core :=
  (State.skipNumbers_keeps _).core_eq

/-- The gap record stands among the priority records. -/
theorem State.skipNumbers_gap {c : CoreId} (hc : s.activeCore = c) : ∃ r ∈ s.skipNumbers.journal.stagedPrio,
    r.body = .gapSkipped (s.journal.nand[c].top + 1) 512 := by
  subst hc
  refine ⟨s.mkRecord true s.tai (.gapSkipped (s.journal.nand[s.activeCore].top + 1) 512) none, ?_, rfl⟩
  simp only [State.skipNumbers, State.modJournal_journal, List.mem_cons, true_or]

theorem State.roleTaken_activeCore (new : CoreId) : (s.roleTaken new).activeCore = new :=
  (State.activeCore_of_core (by simp only [State.roleTaken, State.modPair_pair])).trans (s.roleChange_activeCore new)

theorem State.roleTaken_nand (new : CoreId) : (s.roleTaken new).journal.nand = s.journal.nand := by
  simp only [State.roleTaken, State.modPair_journal]
  exact (s.roleChange_keeps new).nand_eq

theorem State.tookRole_gap (new : CoreId) : ∃ r ∈ (s.tookRole new).journal.stagedPrio,
    r.body = .gapSkipped (s.journal.nand[new].top + 1) 512 := by
  rw [← s.roleTaken_nand new]
  exact (s.roleTaken new).skipNumbers_gap (s.roleTaken_activeCore new)

theorem State.takeover_gap (new : CoreId) : ∃ r ∈ (s.takeover new).journal.stagedPrio,
    r.body = .gapSkipped (s.journal.nand[new].top + 1) 512 := by
  obtain ⟨r, hr, hbody⟩ := s.tookRole_gap new
  exact ⟨r, (s.takeover_goesOn new).prio.before.subset hr, hbody⟩

theorem exec_takeover_by {c : CoreId} (ha : s.anyActive = false)
    (hc : ([(0 : CoreId), 1].find? fun c => s.pair.core[c].present && s.pair.core[c].listenFrom.isNone) = some c) :
    exec .takeover s = .next (s.takeover c) := by
  rw [exec_takeover, execTakeover, if_neg (by rw [ha]; exact Bool.false_ne_true), hc]

/-! ### Faults of TICK and of the mirror (R272) -/

theorem exec_tickFault_raises (hs : s.standbyPresent = true) (ha : s.anyActive = true) :
    exec .tickFault s = .next (s.raise Ev.CP_TICK_FAULT [.u8 s.standbyCore.val]) := by
  rw [exec_tickFault, execTickFault, if_pos (by rw [hs, ha]; rfl)]

theorem exec_mirrorLost_unpairs (hs : s.standbyPresent = true) (ha : s.anyActive = true)
    (hu : s.pair.standby ≠ .unpaired) : exec .mirrorLost s =
      .next ((s.standbyBecomes .unpaired 1).raise Ev.CP_MIRROR_LOST [.u8 s.standbyCore.val]) := by
  rw [exec_mirrorLost, execMirrorLost, if_pos (by simp [hs, ha, hu])]

/-! ### Replacing a core (R281, R282, R284) -/

theorem State.catchupEnds_inStep :
    s.catchupEnds.paramsValid[s.standbyCore] = true ∧ s.catchupEnds.pair.standby = .inStep := by
  unfold State.catchupEnds
  extract_lets c a s1 s2 s3 oldest s4
  simp only [State.raise_paramsValid, State.raise_standby]
  exact ⟨updV_self s.paramsValid c _, s.standbyBecomes_standby .inStep 0⟩

theorem exec_catchupDone_inStep (hs : s.standbyPresent = true) (hc : s.pair.standby = .catchingUp) :
    exec .catchupDone s = .next ((s.catchupEnds.modSlot (coreSlot s.standbyCore) fun x =>
      { x with enable := true, heldOut := none }).moduleIn (coreSlot s.standbyCore)) := by
  rw [exec_catchupDone, execCatchupDone, if_pos (by simp [hs, hc])]

/-- A core that starts is present where its self-test has passed, and faulted where it has not. -/
theorem State.coreStarts_core (c : CoreId) :
    (s.coreStarts c).pair.core[c].present = s.pair.core[c].selfTest ∧
      (s.coreStarts c).pair.core[c].faulted = !s.pair.core[c].selfTest := by
  unfold State.coreStarts
  extract_lets s1
  have h1 : s1.pair.core[c].present = s.pair.core[c].selfTest ∧ s1.pair.core[c].faulted = !s.pair.core[c].selfTest := by
    simp only [s1, State.modCore_pair_core]
    rw [updV_self]
    exact ⟨rfl, rfl⟩
  split
  · split
    · simp only [State.raise_pairCore]
      exact h1
    · simp only [State.modPair_pair, State.standbyBecomes_core]
      exact h1
  · exact h1

end

end Sys2Proof.Machine
end

section
/-!
What the pair's commands answer (R264 to R267, R269 to R272, R280 to R284), and the statement they make up.
-/

namespace Sys2Proof.Machine

section
variable (s : State)

/-- A good mirror frame in the terms of its two parts. -/
theorem mirrorFrame_applies (frame : List Byte) (hs : s.standbyPresent = true) (ha : s.anyActive = true)
    (hg : frameGood frame 1024 0x11 = true) :
    Does (.mirrorFrame frame) s fun t => t.pair.mseqApplied = BitVec.ofNat 32 (u32At frame 4) ∧
      t.time.ce[s.standbyCore] = s.time.ce[s.activeCore] := by
  obtain ⟨hseq, hce⟩ := Prod.mk.inj (s.mirrorFrame_of_good hs ha hg)
  refine .intro (exec_mirrorFrame s frame) ⟨hseq, ?_⟩
  simp only [hce]
  exact updV_self _ _ _

theorem mirrorFrame_rejects (frame : List Byte) (hs : s.standbyPresent = true) (ha : s.anyActive = true)
    (hb : frameGood frame 1024 0x11 = false) (hin : s.pair.standby = .inStep) :
    Does (.mirrorFrame frame) s fun t => t.pair.standby = .outOfStep ∧ t.pair.mseqApplied = s.pair.mseqApplied := by
  refine .intro (exec_mirrorFrame s frame) ?_
  rw [s.mirrorFrame_of_bad hs ha hb]
  exact s.badMirror_leaves hin

theorem standbyAckLost_leaves (h : s.pair.standby = .inStep) :
    Does .standbyAckLost s fun t => t.pair.standby = .outOfStep :=
  .intro (by rw [exec_standbyAckLost, execStandbyAckLost, if_pos h]) (s.standbyBecomes_standby .outOfStep 2)

theorem standbyInStep_enters (h : s.pair.standby = .outOfStep) (hm : s.mayStep = true) :
    Does .standbyInStep s fun t => t.pair.standby = .inStep :=
  .intro (by rw [exec_standbyInStep, execStandbyInStep, if_pos (by simp [h, hm])])
    (s.standbyBecomes_standby .inStep 0)

theorem coreFault_silences (c : CoreId) (cause : Nat) (h : s.pair.core[c].present = true) :
    Does (.coreFault c cause) s fun t => t.pair.core[c].faulted = true ∧ t.pair.core[c].present = false ∧
      t.pair.core[c].active = false ∧ t.pair.core[c].cause = cause ∧ t.frame.slots[coreSlot c].inService = false := by
  obtain ⟨u, t, ht, hcore, hslots⟩ := exec_coreFault_silent s c cause h
  refine .intro ht ?_
  simp only [hcore, hslots, State.coreSilent_core, State.coreSilent_slot]
  simp only [CoreSt.silent, and_self]

theorem chargePumpExpired_releases (c : CoreId) (h : s.doors.relays[c] = true) :
    Does (.chargePumpExpired c) s fun t => t.doors.relays[c] = false ∧
      t.now = max s.now (s.pair.core[c].pumpAt + 100 * usec) := by
  refine .intro (by rw [exec_chargePumpExpired, execChargePumpExpired, if_pos h]) ⟨?_, ?_⟩
  · simp only [State.loopDrop_relays]
    exact updV_self _ _ _
  · exact (State.loopDrop_keeps _ c 1).now_eq.trans (s.until_now _)

theorem State.roleTaken_standby (new : CoreId) : (s.roleTaken new).pair.standby = .absent := by
  simp only [State.roleTaken, State.modPair_pair]

theorem takeover_roles (c : CoreId) (ha : s.anyActive = false)
    (hc : ([(0 : CoreId), 1].find? fun c => s.pair.core[c].present && s.pair.core[c].listenFrom.isNone) = some c) :
    Does .takeover s fun t => t.pair.core[c].active = true ∧ t.pair.core[otherCore c].active = false ∧
      t.pair.standby = .absent ∧
      ∃ r ∈ t.journal.stagedPrio, r.body = .gapSkipped (s.journal.nand[c].top + 1) 512 := by
  have hcore : (s.takeover c).pair.core = (s.roleChange c).pair.core :=
    (s.takeover_goesOn c).core.trans (s.tookRole_core c)
  have hstandby : (s.takeover c).pair.standby = .absent := calc
    (s.takeover c).pair.standby = (s.tookRole c).pair.standby := (s.takeover_goesOn c).standby
    _ = (s.roleTaken c).pair.standby := (State.skipNumbers_keeps _).standby_eq
    _ = .absent := s.roleTaken_standby c
  refine .intro (exec_takeover_by s ha hc) ⟨?_, ?_, hstandby, s.takeover_gap c⟩
  · simp only [hcore]
    exact s.roleChange_active c
  · simp only [hcore]
    exact s.roleChange_other_rests c

theorem tickFault_only_raises (hs : s.standbyPresent = true) (ha : s.anyActive = true) :
    Does .tickFault s fun t => t.pair.core = s.pair.core ∧ Raised s t Ev.CP_TICK_FAULT [.u8 s.standbyCore.val] :=
  .intro (exec_tickFault_raises s hs ha) ⟨State.raise_pairCore .., Raised.of_raise rfl rfl (by simp)⟩

theorem mirrorLost_unpairs (hs : s.standbyPresent = true) (ha : s.anyActive = true) (hu : s.pair.standby ≠ .unpaired) :
    Does .mirrorLost s fun t => t.pair.standby = .unpaired :=
  .intro (exec_mirrorLost_unpairs s hs ha hu) ((State.raise_standby ..).trans (s.standbyBecomes_standby .unpaired 1))

theorem catchupDone_steps (hs : s.standbyPresent = true) (hc : s.pair.standby = .catchingUp) :
    Does .catchupDone s fun t => t.paramsValid[s.standbyCore] = true ∧ t.pair.standby = .inStep ∧
      t.frame.slots[coreSlot s.standbyCore].inService = true := by
  obtain ⟨hvalid, hstandby⟩ := s.catchupEnds_inStep
  have hkeep := State.moduleIn_keeps (s.catchupEnds.modSlot (coreSlot s.standbyCore) fun x =>
    { x with enable := true, heldOut := none }) (coreSlot s.standbyCore)
  have hparams := hkeep.get .paramsValid (by decide)
  refine .intro (exec_catchupDone_inStep s hs hc) ⟨?_, hkeep.standby_eq.trans ?_, (State.moduleIn_slot _ _).1⟩
  · refine (congrArg (·[s.standbyCore]) hparams).trans ?_
    exact hvalid
  · rw [State.modSlot_pair]
    exact hstandby

/-- A core tried again: no longer faulted, with this restart noted (R284). -/
def CoreSt.retried (x : CoreSt) (now : Nat) : CoreSt :=
  { x with faulted := false, restarts := now :: (x.restarts.filter fun t => decide (now < t + 3600 * sec)) }

theorem coreRestart_starts (c : CoreId) (hf : s.pair.core[c].faulted = true) (hr : s.restartsOf c < 3)
    (ht : s.pair.core[c].selfTest = true) :
    Does (.coreRestart c) s fun t => t.pair.core[c].faulted = false ∧ t.pair.core[c].present = true ∧
      t.now = max s.now (s.pair.core[c].silentAt + 500 * msec) := by
  refine .intro (by rw [exec_coreRestart, execCoreRestart, if_neg (by rw [hf]; simpa using hr)]) ?_
  extract_lets s1
  have hself : (s1.modCore c (·.retried s1.now)).pair.core[c].selfTest = true := by
    simp only [State.modCore_pair_core, s1, State.until_pair]
    rw [updV_self]
    exact ht
  obtain ⟨hpresent, hfaulted⟩ := State.coreStarts_core (s1.modCore c (·.retried s1.now)) c
  rw [hself] at hpresent hfaulted
  exact ⟨hfaulted, hpresent, (State.coreStarts_keeps _ c).now_eq.trans (s.until_now _)⟩

end

/-- Settles O32: each clause by its command's lemma. What follows a change of the standby's state or a takeover (events,
released completions, aborted axes and doorways) leaves the mirror and the roles alone, and what is staged with
priority stays staged behind the gap record. -/
theorem corePairCompletes : Obligations.CorePairCompletes := by
  intro s
  exact ⟨exec_dualActive_yields s, mirrorFrame_applies s, mirrorFrame_rejects s,
    fun frame hs ha hg => .intro (exec_returnFrame s frame) (s.returnFrame_of_good hs ha hg),
    standbyAckLost_leaves s, standbyInStep_enters s, coreFault_silences s, chargePumpExpired_releases s,
    takeover_roles s, fun hs ha => ⟨tickFault_only_raises s hs ha, mirrorLost_unpairs s hs ha⟩, catchupDone_steps s,
    coreRestart_starts s⟩

end Sys2Proof.Machine
end

section
/-!
The stored parameters, command by command (R309, R423): every command but four leaves the set alone, and those four keep
its canonical form and its ranges. The same pass over the commands says which may move the security version counters.
-/

set_option Elab.async false

namespace Sys2Proof.Machine

/-! ### Which commands write the stored set, and which the security version counters -/

/-- The commands that may write the stored set. -/
inductive WritesParams : Instr → Prop
  | tickPass : WritesParams .tickPass
  | descriptorFetch {p q desc buf} : WritesParams (.descriptorFetch p q desc buf)
  | opParamWrite {r entries} : WritesParams (.opParamWrite r entries)
  | opParamSetLoad {r} : WritesParams (.opParamSetLoad r)

/-- The commands by which images are confirmed. -/
inductive Confirms : Instr → Prop
  | tickPass : Confirms .tickPass
  | descriptorFetch {p q desc buf} : Confirms (.descriptorFetch p q desc buf)
  | opUpdateConfirm {r mask} : Confirms (.opUpdateConfirm r mask)
  | autoConfirm {k} : Confirms (.autoConfirm k)

/-- What a command leaves alone: the stored set unless it may write it, the counters unless it may confirm an image. -/
structure Quiet (c : Instr) (s : State) (o : Host.Outcome State Fault Refusal) : Prop where
  params : WritesParams c ∨ ∀ t, o = .next t → Same .params s t
  counters : Confirms c ∨ ∀ t, o = .next t → Same .counters s t

theorem KO.quiet {m : Nat} {c : Instr} {s : State} {o : Host.Outcome State Fault Refusal} (h : KO m s o)
    (hm : (m.testBit 3 || m.testBit 38) = false) : Quiet c s o := by
  obtain ⟨h3, h38⟩ := Bool.or_eq_false_iff.mp hm
  exact ⟨.inr fun t ht => (h.get t ht).get .params h3, .inr fun t ht => (h.get t ht).get .counters h38⟩

/-- Every command by its own frame. -/
theorem exec_quiet (c : Instr) (s : State) : Quiet c s (exec c s) :=
  match c with
  | .tickPass .. => ⟨.inl .tickPass, .inl .tickPass⟩
  | .downlinkFrame .. => (execDownlinkFrame_keeps ..).quiet rfl
  | .missedTick .. => (execMissedTick_keeps ..).quiet rfl
  | .uplinkFrame .. => (execUplinkFrame_keeps ..).quiet rfl
  | .linkLost .. => (execLinkLost_keeps ..).quiet rfl
  | .presAsserted .. => (execPresAsserted_keeps ..).quiet rfl
  | .presenceDebounceDone .. => (execPresenceDebounceDone_keeps ..).quiet rfl
  | .identityData .. => (execIdentityData_keeps ..).quiet rfl
  | .identityTimeout .. => (execIdentityTimeout_keeps ..).quiet rfl
  | .moduleInService .. => (execModuleInService_keeps ..).quiet rfl
  | .removeRequest .. => (execRemoveRequest_keeps ..).quiet rfl
  | .removeGateMet .. => (execRemoveGateMet_keeps ..).quiet rfl
  | .latchReopenConfirm .. => (execLatchReopenConfirm_keeps ..).quiet rfl
  | .opServiceDrop .. => (execOpServiceDrop_keeps ..).quiet rfl
  | .hostGraceExpired .. => (execHostGraceExpired_keeps ..).quiet rfl
  | .removalComplete .. => (execRemovalComplete_keeps ..).quiet rfl
  | .removeCancelled .. => (execRemoveCancelled_keeps ..).quiet rfl
  | .moduleRemoved .. => (execModuleRemoved_keeps ..).quiet rfl
  | .unannouncedPull .. => (execUnannouncedPull_keeps ..).quiet rfl
  | .latchFault .. => (execLatchFault_keeps ..).quiet rfl
  | .safe2Discrepancy .. => (execSafe2Discrepancy_keeps ..).quiet rfl
  | .safe2Cleared .. => (execSafe2Cleared_keeps ..).quiet rfl
  | .unlockTimeout .. => (execUnlockTimeout_keeps ..).quiet rfl
  | .openTimeout .. => (execOpenTimeout_keeps ..).quiet rfl
  | .closeTimeout .. => (execCloseTimeout_keeps ..).quiet rfl
  | .lockTimeout .. => (execLockTimeout_keeps ..).quiet rfl
  | .stepTimeout .. => (execStepTimeout_keeps ..).quiet rfl
  | .warnTimeExpired .. => (execWarnTimeExpired_keeps ..).quiet rfl
  | .dwellClose .. => (execDwellClose_keeps ..).quiet rfl
  | .reopenPauseExpired .. => (execReopenPauseExpired_keeps ..).quiet rfl
  | .emergencyHandle .. => (execEmergencyHandle_keeps ..).quiet rfl
  | .handleResetAllowed .. => (execHandleResetAllowed_keeps ..).quiet rfl
  | .isolationKeyOn .. => (execIsolationKeyOn_keeps ..).quiet rfl
  | .isolationKeyOff .. => (execIsolationKeyOff_keeps ..).quiet rfl
  | .proofLost .. => (execProofLost_keeps ..).quiet rfl
  | .releaseLost .. => (execReleaseLost_keeps ..).quiet rfl
  | .zsLostOpen .. => (execZsLostOpen_keeps ..).quiet rfl
  | .releaseEdge .. => (execReleaseEdge_keeps ..).quiet rfl
  | .pushbuttonPress .. => (execPushbuttonPress_keeps ..).quiet rfl
  | .closeTrainlineEdge .. => (execCloseTrainlineEdge_keeps ..).quiet rfl
  | .evacuationInput .. => (execEvacuationInput_keeps ..).quiet rfl
  | .loopCloseDelay .. => (execLoopCloseDelay_keeps ..).quiet rfl
  | .loopDisagreement .. => (execLoopDisagreement_keeps ..).quiet rfl
  | .tlTakeover .. => (execTlTakeover_keeps ..).quiet rfl
  | .p2Timeout .. => (execP2Timeout_keeps ..).quiet rfl
  | .pcieLinkChange .. => (execPcieLinkChange_keeps ..).quiet rfl
  | .opDoorOpen .. => (execOpDoorOpen_keeps ..).quiet rfl
  | .opDoorClose .. => (execOpDoorClose_keeps ..).quiet rfl
  | .opDoorStop .. => (execOpDoorStop_keeps ..).quiet rfl
  | .opDoorEvacOpen .. => (execOpDoorEvacOpen_keeps ..).quiet rfl
  | .opDoorReset .. => (execOpDoorReset_keeps ..).quiet rfl
  | .opStepRequest .. => (execOpStepRequest_keeps ..).quiet rfl
  | .opDoorObstacle .. => (execOpDoorObstacle_keeps ..).quiet rfl
  | .opDoorStatus .. => (execOpDoorStatus_keeps ..).quiet rfl
  | .opClaim .. => (execOpClaim_keeps ..).quiet rfl
  | .opReleaseClaims .. => (execOpReleaseClaims_keeps ..).quiet rfl
  | .moveEnd .. => (execMoveEnd_keeps ..).quiet rfl
  | .standstillSettle .. => (execStandstillSettle_keeps ..).quiet rfl
  | .wakeRampEnd .. => (execWakeRampEnd_keeps ..).quiet rfl
  | .limitReached .. => (execLimitReached_keeps ..).quiet rfl
  | .opAxisMove .. => (execOpAxisMove_keeps ..).quiet rfl
  | .opAxisHalt .. => (execOpAxisHalt_keeps ..).quiet rfl
  | .opAxisReference .. => (execOpAxisReference_keeps ..).quiet rfl
  | .opAxisSetPosition .. => (execOpAxisSetPosition_keeps ..).quiet rfl
  | .opSegTableLoad .. => (execOpSegTableLoad_keeps ..).quiet rfl
  | .opMstepTableLoad .. => (execOpMstepTableLoad_keeps ..).quiet rfl
  | .refSwitchMet .. => (execRefSwitchMet_keeps ..).quiet rfl
  | .refLatch .. => (execRefLatch_keeps ..).quiet rfl
  | .refSearchFail .. => (execRefSearchFail_keeps ..).quiet rfl
  | .refLatchFail .. => (execRefLatchFail_keeps ..).quiet rfl
  | .encDirection .. => (execEncDirection_keeps ..).quiet rfl
  | .refLockTimeout .. => (execRefLockTimeout_keeps ..).quiet rfl
  | .overcurrentTrip .. => (execOvercurrentTrip_keeps ..).quiet rfl
  | .peakLimit .. => (execPeakLimit_keeps ..).quiet rfl
  | .busRangeFault .. => (execBusRangeFault_keeps ..).quiet rfl
  | .busRangeClear .. => (execBusRangeClear_keeps ..).quiet rfl
  | .encFault .. => (execEncFault_keeps ..).quiet rfl
  | .motorTemp .. => (execMotorTemp_keeps ..).quiet rfl
  | .heatsink .. => (execHeatsink_keeps ..).quiet rfl
  | .resistanceCheck .. => (execResistanceCheck_keeps ..).quiet rfl
  | .axConfigMismatch .. => (execAxConfigMismatch_keeps ..).quiet rfl
  | .lossState .. => (execLossState_keeps ..).quiet rfl
  | .following .. => (execFollowing_keeps ..).quiet rfl
  | .laneLost .. => (execLaneLost_keeps ..).quiet rfl
  | .laneLeft .. => (execLaneLeft_keeps ..).quiet rfl
  | .laneRejoin .. => (execLaneRejoin_keeps ..).quiet rfl
  | .twinJoined .. => (execTwinJoined_keeps ..).quiet rfl
  | .laneDisagree .. => (execLaneDisagree_keeps ..).quiet rfl
  | .obObstacle .. => (execObObstacle_keeps ..).quiet rfl
  | .edgeFault .. => (execEdgeFault_keeps ..).quiet rfl
  | .edgeCleared .. => (execEdgeCleared_keeps ..).quiet rfl
  | .gridFault .. => (execGridFault_keeps ..).quiet rfl
  | .stepObstacle .. => (execStepObstacle_keeps ..).quiet rfl
  | .relayWeld .. => (execRelayWeld_keeps ..).quiet rfl
  | .journalGapRecord .. => (execJournalGapRecord_keeps ..).quiet rfl
  | .groupSupplyChange .. => (execGroupSupplyChange_keeps ..).quiet rfl
  | .filterConfirm .. => (execFilterConfirm_keeps ..).quiet rfl
  | .inputFault .. => (execInputFault_keeps ..).quiet rfl
  | .inputFaultClear .. => (execInputFaultClear_keeps ..).quiet rfl
  | .bandResolve .. => (execBandResolve_keeps ..).quiet rfl
  | .bandHold .. => (execBandHold_keeps ..).quiet rfl
  | .outOverload .. => (execOutOverload_keeps ..).quiet rfl
  | .outOvertemp .. => (execOutOvertemp_keeps ..).quiet rfl
  | .outOpenOn .. => (execOutOpenOn_keeps ..).quiet rfl
  | .outOpenOff .. => (execOutOpenOff_keeps ..).quiet rfl
  | .outShortSupply .. => (execOutShortSupply_keeps ..).quiet rfl
  | .rearmDue .. => (execRearmDue_keeps ..).quiet rfl
  | .parallelFault .. => (execParallelFault_keeps ..).quiet rfl
  | .barrierFrame .. => (execBarrierFrame_keeps ..).quiet rfl
  | .barrierCmdFrame .. => (execBarrierCmdFrame_keeps ..).quiet rfl
  | .fiSafeState .. => (execFiSafeState_keeps ..).quiet rfl
  | .fiConfigApply .. => (execFiConfigApply_keeps ..).quiet rfl
  | .fiConfigMismatch .. => (execFiConfigMismatch_keeps ..).quiet rfl
  | .loadSupplyChange .. => (execLoadSupplyChange_keeps ..).quiet rfl
  | .lsOverload .. => (execLsOverload_keeps ..).quiet rfl
  | .inrushWindowEnd .. => (execInrushWindowEnd_keeps ..).quiet rfl
  | .wireModelUpdate .. => (execWireModelUpdate_keeps ..).quiet rfl
  | .lsOvertemp .. => (execLsOvertemp_keeps ..).quiet rfl
  | .clampPulse .. => (execClampPulse_keeps ..).quiet rfl
  | .clampHoldEnd .. => (execClampHoldEnd_keeps ..).quiet rfl
  | .lsOpenOn .. => (execLsOpenOn_keeps ..).quiet rfl
  | .lsOpenOff .. => (execLsOpenOff_keeps ..).quiet rfl
  | .lsShortSupply .. => (execLsShortSupply_keeps ..).quiet rfl
  | .opLoadSet .. => (execOpLoadSet_keeps ..).quiet rfl
  | .opLoadRearm .. => (execOpLoadRearm_keeps ..).quiet rfl
  | .lsSafeState .. => (execLsSafeState_keeps ..).quiet rfl
  | .lsConfigApply .. => (execLsConfigApply_keeps ..).quiet rfl
  | .lsConfigMismatch .. => (execLsConfigMismatch_keeps ..).quiet rfl
  | .ls24OvervoltSwitch .. => (execLs24OvervoltSwitch_keeps ..).quiet rfl
  | .lsDiagCleared .. => (execLsDiagCleared_keeps ..).quiet rfl
  | .powerModuleEnergised .. => (execPowerModuleEnergised_keeps ..).quiet rfl
  | .feedCrossing .. => (execFeedCrossing_keeps ..).quiet rfl
  | .feedQualified .. => (execFeedQualified_keeps ..).quiet rfl
  | .feedInterruptEnd .. => (execFeedInterruptEnd_keeps ..).quiet rfl
  | .shareFault .. => (execShareFault_keeps ..).quiet rfl
  | .suOverload .. => (execSuOverload_keeps ..).quiet rfl
  | .lossRideExpired .. => (execLossRideExpired_keeps ..).quiet rfl
  | .shutdownStepEnd .. => (execShutdownStepEnd_keeps ..).quiet rfl
  | .shutdownCap .. => (execShutdownCap_keeps ..).quiet rfl
  | .hostHoldExpired .. => (execHostHoldExpired_keeps ..).quiet rfl
  | .fastRestart .. => (execFastRestart_keeps ..).quiet rfl
  | .fullStart .. => (execFullStart_keeps ..).quiet rfl
  | .svcAttach .. => (execSvcAttach_keeps ..).quiet rfl
  | .svcTransitionAccept .. => (execSvcTransitionAccept_keeps ..).quiet rfl
  | .svcPsRdy .. => (execSvcPsRdy_keeps ..).quiet rfl
  | .svcLoadsReturn .. => (execSvcLoadsReturn_keeps ..).quiet rfl
  | .svcBrownout .. => (execSvcBrownout_keeps ..).quiet rfl
  | .svcDetach .. => (execSvcDetach_keeps ..).quiet rfl
  | .pdHardReset .. => (execPdHardReset_keeps ..).quiet rfl
  | .cellFault .. => (execCellFault_keeps ..).quiet rfl
  | .cellTemp .. => (execCellTemp_keeps ..).quiet rfl
  | .boostLimit .. => (execBoostLimit_keeps ..).quiet rfl
  | .emLossTimeout .. => (execEmLossTimeout_keeps ..).quiet rfl
  | .reserveFloor .. => (execReserveFloor_keeps ..).quiet rfl
  | .lastAction .. => (execLastAction_keeps ..).quiet rfl
  | .restWindowStart .. => (execRestWindowStart_keeps ..).quiet rfl
  | .restWindowDone .. => (execRestWindowDone_keeps ..).quiet rfl
  | .windowAborted .. => (execWindowAborted_keeps ..).quiet rfl
  | .estFitAfter .. => (execEstFitAfter_keeps ..).quiet rfl
  | .estStaleAfter .. => (execEstStaleAfter_keeps ..).quiet rfl
  | .restWanted .. => (execRestWanted_keeps ..).quiet rfl
  | .opRestWindow .. => (execOpRestWindow_keeps ..).quiet rfl
  | .boostCutoff .. => (execBoostCutoff_keeps ..).quiet rfl
  | .opWait .. => (execOpWait_keeps ..).quiet rfl
  | .pwrModeConsent .. => (execPwrModeConsent_keeps ..).quiet rfl
  | .pwrWakeCauseClear p .. => (execPwrWakeCauseClear_keeps (_p := p) ..).quiet rfl
  | .tlConsent .. => (execTlConsent_keeps ..).quiet rfl
  | .entryStepEnd .. => (execEntryStepEnd_keeps ..).quiet rfl
  | .entryAborted .. => (execEntryAborted_keeps ..).quiet rfl
  | .entryWindowEnd .. => (execEntryWindowEnd_keeps ..).quiet rfl
  | .wakeEvent .. => (execWakeEvent_keeps ..).quiet rfl
  | .wakeFrame .. => (execWakeFrame_keeps ..).quiet rfl
  | .wakeTimetableRow .. => (execWakeTimetableRow_keeps ..).quiet rfl
  | .wakeFailRepeat .. => (execWakeFailRepeat_keeps ..).quiet rfl
  | .opReleaseHold .. => (execOpReleaseHold_keeps ..).quiet rfl
  | .holdAutoRelease .. => (execHoldAutoRelease_keeps ..).quiet rfl
  | .listenTimeout .. => (execListenTimeout_keeps ..).quiet rfl
  | .dualActive .. => (execDualActive_keeps ..).quiet rfl
  | .mirrorFrame .. => (execMirrorFrame_keeps ..).quiet rfl
  | .returnFrame .. => (execReturnFrame_keeps ..).quiet rfl
  | .standbyAckLost .. => (execStandbyAckLost_keeps ..).quiet rfl
  | .standbyInStep .. => (execStandbyInStep_keeps ..).quiet rfl
  | .coreFault .. => (execCoreFault_keeps ..).quiet rfl
  | .chargePumpExpired .. => (execChargePumpExpired_keeps ..).quiet rfl
  | .takeover .. => (execTakeover_keeps ..).quiet rfl
  | .tickFault .. => (execTickFault_keeps ..).quiet rfl
  | .mirrorLost .. => (execMirrorLost_keeps ..).quiet rfl
  | .plannedHandover .. => (execPlannedHandover_keeps ..).quiet rfl
  | .coverageHandover .. => (execCoverageHandover_keeps ..).quiet rfl
  | .opCoreHandover .. => (execOpCoreHandover_keeps ..).quiet rfl
  | .catchupDone .. => (execCatchupDone_keeps ..).quiet rfl
  | .coreRestart .. => (execCoreRestart_keeps ..).quiet rfl
  | .hostLinkGrace .. => (execHostLinkGrace_keeps ..).quiet rfl
  | .hostPowerTrip .. => (execHostPowerTrip_keeps ..).quiet rfl
  | .sqTailDoorbell .. => (execSqTailDoorbell_keeps ..).quiet rfl
  | .cqHeadDoorbell .. => (execCqHeadDoorbell_keeps ..).quiet rfl
  | .evqHeadDoorbell .. => (execEvqHeadDoorbell_keeps ..).quiet rfl
  | .shadowPoll .. => (execShadowPoll_keeps ..).quiet rfl
  | .ringCfgWrite .. => (execRingCfgWrite_keeps ..).quiet rfl
  | .portEnable .. => (execPortEnable_keeps ..).quiet rfl
  | .portDisable .. => (execPortDisable_keeps ..).quiet rfl
  | .registerWrite .. => (execRegisterWrite_keeps ..).quiet rfl
  | .descriptorFetch .. => ⟨.inl .descriptorFetch, .inl .descriptorFetch⟩
  | .laybyDrain .. => (execLaybyDrain_keeps ..).quiet rfl
  | .eventsDroppedReport .. => (execEventsDroppedReport_keeps ..).quiet rfl
  | .opCompletionReplay .. => (execOpCompletionReplay_keeps ..).quiet rfl
  | .msixMessage .. => (execMsixMessage_keeps ..).quiet rfl
  | .dmaError .. => (execDmaError_keeps ..).quiet rfl
  | .opNop .. => (execOpNop_keeps ..).quiet rfl
  | .opHeartbeat .. => (execOpHeartbeat_keeps ..).quiet rfl
  | .opParamRead .. => (execOpParamRead_keeps ..).quiet rfl
  | .opParamWrite .. => ⟨.inl .opParamWrite, .inr fun t ht => ((execOpParamWrite_keeps ..).get t ht).get .counters rfl⟩
  | .opParamSetLoad .. => ⟨.inl .opParamSetLoad, .inr fun t ht => ((execOpParamSetLoad_keeps ..).get t ht).get .counters rfl⟩
  | .opParamSetRead .. => (execOpParamSetRead_keeps ..).quiet rfl
  | .opIoRead .. => (execOpIoRead_keeps ..).quiet rfl
  | .opFioSet .. => (execOpFioSet_keeps ..).quiet rfl
  | .canFrameReceived .. => (execCanFrameReceived_keeps ..).quiet rfl
  | .protocolException .. => (execProtocolException_keeps ..).quiet rfl
  | .busStateChange .. => (execBusStateChange_keeps ..).quiet rfl
  | .mbErrorRate .. => (execMbErrorRate_keeps ..).quiet rfl
  | .busoffDelayExpired .. => (execBusoffDelayExpired_keeps ..).quiet rfl
  | .rateCandidateTimeout .. => (execRateCandidateTimeout_keeps ..).quiet rfl
  | .rateFail .. => (execRateFail_keeps ..).quiet rfl
  | .opCanTx .. => (execOpCanTx_keeps ..).quiet rfl
  | .canTxDone .. => (execCanTxDone_keeps ..).quiet rfl
  | .opCanTxAbort .. => (execOpCanTxAbort_keeps ..).quiet rfl
  | .opCanRxRead .. => (execOpCanRxRead_keeps ..).quiet rfl
  | .rxReadWaitExpired .. => (execRxReadWaitExpired_keeps ..).quiet rfl
  | .opCanRxAck .. => (execOpCanRxAck_keeps ..).quiet rfl
  | .rxDroppedReport .. => (execRxDroppedReport_keeps ..).quiet rfl
  | .opCanFilterSet .. => (execOpCanFilterSet_keeps ..).quiet rfl
  | .opCanStatus .. => (execOpCanStatus_keeps ..).quiet rfl
  | .opCanRecover .. => (execOpCanRecover_keeps ..).quiet rfl
  | .p2DescriptorFrame .. => (execP2DescriptorFrame_keeps ..).quiet rfl
  | .p2StatusPeriod .. => (execP2StatusPeriod_keeps ..).quiet rfl
  | .fallbackHeartbeat .. => (execFallbackHeartbeat_keeps ..).quiet rfl
  | .doorCmd .. => (execDoorCmd_keeps ..).quiet rfl
  | .statusReq .. => (execStatusReq_keeps ..).quiet rfl
  | .canBusError .. => (execCanBusError_keeps ..).quiet rfl
  | .panelAddrPoll .. => (execPanelAddrPoll_keeps ..).quiet rfl
  | .panelWriteTransfer .. => (execPanelWriteTransfer_keeps ..).quiet rfl
  | .panelReadTransfer .. => (execPanelReadTransfer_keeps ..).quiet rfl
  | .accessReq .. => (execAccessReq_keeps ..).quiet rfl
  | .panelObstacle .. => (execPanelObstacle_keeps ..).quiet rfl
  | .intercomInd .. => (execIntercomInd_keeps ..).quiet rfl
  | .intercomBlink .. => (execIntercomBlink_keeps ..).quiet rfl
  | .stretchLimit .. => (execStretchLimit_keeps ..).quiet rfl
  | .pbBusTimeout .. => (execPbBusTimeout_keeps ..).quiet rfl
  | .pbBusStuck .. => (execPbBusStuck_keeps ..).quiet rfl
  | .pbBusFree .. => (execPbBusFree_keeps ..).quiet rfl
  | .panelRequest .. => (execPanelRequest_keeps ..).quiet rfl
  | .requestCollision .. => (execRequestCollision_keeps ..).quiet rfl
  | .timeFrame .. => (execTimeFrame_keeps ..).quiet rfl
  | .tpiEdge .. => (execTpiEdge_keeps ..).quiet rfl
  | .sourceLoss .. => (execSourceLoss_keeps ..).quiet rfl
  | .hostRefreshExpired .. => (execHostRefreshExpired_keeps ..).quiet rfl
  | .opTimeSet .. => (execOpTimeSet_keeps ..).quiet rfl
  | .offsetMeasure .. => (execOffsetMeasure_keeps ..).quiet rfl
  | .timeStep .. => (execTimeStep_keeps ..).quiet rfl
  | .tpoPulse .. => (execTpoPulse_keeps ..).quiet rfl
  | .schedExec .. => (execSchedExec_keeps ..).quiet rfl
  | .opSchedCancel .. => (execOpSchedCancel_keeps ..).quiet rfl
  | .opTimeRead .. => (execOpTimeRead_keeps ..).quiet rfl
  | .priorityTailProgram .. => (execPriorityTailProgram_keeps ..).quiet rfl
  | .ordinaryWaitExpired .. => (execOrdinaryWaitExpired_keeps ..).quiet rfl
  | .journalProgramDone .. => (execJournalProgramDone_keeps ..).quiet rfl
  | .opJournalRead .. => (execOpJournalRead_keeps ..).quiet rfl
  | .journalReadWaitExpired .. => (execJournalReadWaitExpired_keeps ..).quiet rfl
  | .opJournalStatus .. => (execOpJournalStatus_keeps ..).quiet rfl
  | .opJournalRetain .. => (execOpJournalRetain_keeps ..).quiet rfl
  | .retainCopyDone .. => (execRetainCopyDone_keeps ..).quiet rfl
  | .opJournalRelease .. => (execOpJournalRelease_keeps ..).quiet rfl
  | .opJournalNote .. => (execOpJournalNote_keeps ..).quiet rfl
  | .opUpdateBegin .. => (execOpUpdateBegin_keeps ..).quiet rfl
  | .opUpdateChunk .. => (execOpUpdateChunk_keeps ..).quiet rfl
  | .opUpdateVerify .. => (execOpUpdateVerify_keeps ..).quiet rfl
  | .opUpdateActivate .. => (execOpUpdateActivate_keeps ..).quiet rfl
  | .slotActivationStart .. => (execSlotActivationStart_keeps ..).quiet rfl
  | .memoryFrame _ core _ => (execMemoryFrame_keeps _ (_core := core) ..).quiet rfl
  | .bankWriteDone .. => (execBankWriteDone_keeps ..).quiet rfl
  | .moduleBoot .. => (execModuleBoot_keeps ..).quiet rfl
  | .opUpdateConfirm .. => ⟨.inr fun t ht => ((execOpUpdateConfirm_keeps ..).get t ht).get .params rfl, .inl .opUpdateConfirm⟩
  | .autoConfirm .. => ⟨.inr fun t ht => ((execAutoConfirm_keeps ..).get t ht).get .params rfl, .inl .autoConfirm⟩
  | .trialTimeout .. => (execTrialTimeout_keeps ..).quiet rfl
  | .opUpdateAbort .. => (execOpUpdateAbort_keeps ..).quiet rfl
  | .opUpdateStatus .. => (execOpUpdateStatus_keeps ..).quiet rfl
  | .opKeyProvision .. => (execOpKeyProvision_keeps ..).quiet rfl
  | .usbContainer .. => (execUsbContainer_keeps ..).quiet rfl
  | .opSessionChallenge .. => (execOpSessionChallenge_keeps ..).quiet rfl
  | .opSessionOpen .. => (execOpSessionOpen_keeps ..).quiet rfl
  | .opSessionClose .. => (execOpSessionClose_keeps ..).quiet rfl
  | .sessionIdle .. => (execSessionIdle_keeps ..).quiet rfl
  | .lockoutEnd .. => (execLockoutEnd_keeps ..).quiet rfl

/-! ### The invariant of the stored set -/

/-- A command keeps the invariant: four by what they write, every other because it leaves the set alone. -/
theorem exec_paramsInv {c : Instr} {s t : State} (h : ParamsInv s) (ht : exec c s = .next t) : ParamsInv t := by
  obtain hw | hs := (exec_quiet c s).params
  · cases hw with
    | tickPass => exact execTickPass_inv h ht
    | descriptorFetch => exact execDescriptorFetch_inv h ht
    | opParamWrite => exact execOpParamWrite_inv h ht
    | opParamSetLoad => exact execOpParamSetLoad_inv h ht
  · exact h.of_params (hs t ht)

/-- What a step answers: the same state on an empty queue, or what the front command makes of the rest. -/
theorem step_cases {s t : State} (h : step s = .next t) :
    (s.pending = [] ∧ t = s) ∨ ∃ c rest, s.pending = c :: rest ∧ exec c { s with pending := rest } = .next t := by
  unfold step at h
  split at h
  · next hp =>
    cases h
    exact .inl ⟨hp, rfl⟩
  · next c rest hp => exact .inr ⟨c, rest, hp, h⟩

/-- Settles O5: the queue holds no parameters, and the front command keeps the invariant. -/
theorem paramsStayInRange : Obligations.ParamsStayInRange := by
  intro s t h ht
  obtain ⟨-, rfl⟩ | ⟨c, rest, -, hc⟩ := step_cases ht
  · exact h
  · exact exec_paramsInv (s := { s with pending := rest }) h hc

/-- Settles O6: at reset nothing differs from its default. -/
theorem resetParamsInRange : Obligations.ResetParamsInRange := ⟨rfl, fun _ he => nomatch he⟩

end Sys2Proof.Machine
end

section
/-!
The parameters' defaults, table by table (R423), and the state at reset (Tables RF-7 and RF-8).
-/

set_option Elab.async false

namespace Sys2Proof.Machine

/-! ### Defaults lie in their own ranges -/

/-- The default lies in the parameter's own range and fits its 32 bits. -/
def PSpec.sound (p : PSpec) : Bool := p.ok p.dflt && decide (p.dflt < 2 ^ 32)

/-! Each table is a few dozen rows at its offsets, read row by row. -/

theorem specFrame_sound : ∀ i < 128, (specFrame i).sound = true := by decide +kernel
theorem specDoors_sound : ∀ k < 32, (specDoors (0x080 + k)).sound = true := by decide +kernel
theorem specObst_sound : ∀ o < 32, (specObst o).sound = true := by decide +kernel
theorem specAxis_sound : ∀ o < 48, (specAxis o).sound = true := by decide +kernel
theorem specAxMod_sound : ∀ o < 8, (specAxMod o).sound = true := by decide +kernel
theorem specTwin_sound : ∀ o < 8, (specTwin o).sound = true := by decide +kernel
theorem specFieldMod_sound : ∀ o < 8, (specFieldMod o).sound = true := by decide +kernel
theorem specFieldChan_sound : ∀ o < 3, (specFieldChan o).sound = true := by decide +kernel
theorem specLoadChan_sound : ∀ o < 4, (specLoadChan o).sound = true := by decide +kernel
theorem specPower_sound : ∀ k < 160, (specPower (0x440 + k)).sound = true := by decide +kernel
theorem specTime_sound : ∀ k < 32, (specTime (0x4E0 + k)).sound = true := by decide +kernel
theorem specCan_sound : ∀ k < 32, (specCan (0x520 + k)).sound = true := by decide +kernel
theorem specRest_sound : ∀ k < 128, (specRest (0x540 + k)).sound = true := by decide +kernel
theorem specDoor_sound : ∀ d < 2, ∀ o < 96, (specDoor d o).sound = true := by decide +kernel
theorem specBus_sound : ∀ b < 2, ∀ o < 16, (specBus b o).sound = true := by decide +kernel

/-- A row of a table that starts at `base`. -/
theorem PSpec.sound_from {f : Nat → PSpec} {base n i : Nat} (h : ∀ k < n, (f (base + k)).sound = true)
    (hb : base ≤ i) (hi : i < base + n) : (f i).sound = true := by
  have hk := h (i - base) (by omega)
  rwa [Nat.add_sub_cancel' hb] at hk

theorem PSpec.sound_ite {c : Prop} [Decidable c] {p q : PSpec} (hp : c → p.sound = true) (hq : ¬c → q.sound = true) :
    (if c then p else q).sound = true := by
  by_cases h : c
  · rw [if_pos h]; exact hp h
  · rw [if_neg h]; exact hq h

theorem paramSpec_sound (i : Nat) : (paramSpec i).sound = true := by
  unfold paramSpec
  exact
    PSpec.sound_ite (fun _ => specFrame_sound _ (by omega)) fun _ =>
    PSpec.sound_ite (fun _ => PSpec.sound_from specDoors_sound (by omega) (by omega)) fun _ =>
    PSpec.sound_ite (fun _ => specDoor_sound _ (by omega) _ (by omega)) fun _ =>
    PSpec.sound_ite (fun _ => PSpec.sound_ite (fun _ => rfl) fun _ => rfl) fun _ =>
    PSpec.sound_ite (fun _ => specObst_sound _ (by omega)) fun _ =>
    PSpec.sound_ite (fun _ => rfl) fun _ =>
    PSpec.sound_ite (fun _ => specAxis_sound _ (by omega)) fun _ =>
    PSpec.sound_ite (fun _ => specAxMod_sound _ (by omega)) fun _ =>
    PSpec.sound_ite (fun _ => specTwin_sound _ (by omega)) fun _ =>
    PSpec.sound_ite (fun _ => specFieldMod_sound _ (by omega)) fun _ =>
    PSpec.sound_ite (fun _ => rfl) fun _ =>
    PSpec.sound_ite (fun _ => rfl) fun _ =>
    PSpec.sound_ite (fun _ => specFieldChan_sound _ (by omega)) fun _ =>
    PSpec.sound_ite (fun _ => rfl) fun _ =>
    PSpec.sound_ite (fun _ => rfl) fun _ =>
    PSpec.sound_ite (fun _ => rfl) fun _ =>
    PSpec.sound_ite (fun _ => specLoadChan_sound _ (by omega)) fun _ =>
    PSpec.sound_ite (fun _ => PSpec.sound_from specPower_sound (by omega) (by omega)) fun _ =>
    PSpec.sound_ite (fun _ => PSpec.sound_from specTime_sound (by omega) (by omega)) fun _ =>
    PSpec.sound_ite (fun _ => specBus_sound _ (by omega) _ (by omega)) fun _ =>
    PSpec.sound_ite (fun _ => PSpec.sound_from specCan_sound (by omega) (by omega)) fun _ =>
    PSpec.sound_ite (fun _ => PSpec.sound_from specRest_sound (by omega) (by omega)) fun _ => rfl

/-- The one signed parameter is 0 by default. -/
theorem paramDefault_of_signed {i : Nat} (h : isSignedParam i = true) : paramDefault i = 0 := by
  have hi : i = 0x22F ∨ i = 0x25F ∨ i = 0x28F ∨ i = 0x2BF := by
    simp only [isSignedParam, inRange, Bool.and_eq_true, decide_eq_true_eq, beq_iff_eq] at h
    omega
  rcases hi with rfl | rfl | rfl | rfl <;> rfl

/-- Settles O7: each table's defaults lie in its own ranges, and the signed parameter's default is 0. -/
theorem defaultsInRange : Obligations.DefaultsInRange := by
  intro i _
  have h := paramSpec_sound i
  simp only [PSpec.sound, Bool.and_eq_true] at h
  obtain ⟨hok, hlt⟩ := h
  unfold paramOk
  rw [Bool.and_eq_true]
  refine ⟨hlt, ?_⟩
  split
  · next hs => rw [paramDefault_of_signed hs]; rfl
  · exact hok

/-! ### The state at reset -/

/-- Settles O4: each item is a field of the unpowered frame. -/
theorem resetValues : Obligations.ResetValues := by
  refine ⟨rfl, rfl, rfl, rfl, rfl, rfl, rfl, rfl, ?_, ?_, ?_⟩
  · decide
  · decide
  · decide

end Sys2Proof.Machine
end

section
/-!
The security version counters (R397): confirming a slot raises the counter of its type to its image's security version,
and nothing else touches a counter.
-/

set_option Elab.async false

namespace Sys2Proof.Machine

/-- From `s` to `t` no security version counter falls. -/
structure CountersRise (s t : State) : Prop where
  get : ∀ kind, s.secCounter kind ≤ t.secCounter kind

theorem State.secCounter_congr {s t : State} (h : t.update.counter = s.update.counter) (kind : Nat) :
    t.secCounter kind = s.secCounter kind := by
  unfold State.secCounter
  rw [h]

namespace CountersRise

variable {s t u : State}

theorem refl : CountersRise s s := ⟨fun _ => Nat.le_refl _⟩

theorem trans (h : CountersRise s t) (g : CountersRise t u) : CountersRise s u :=
  ⟨fun kind => Nat.le_trans (h.get kind) (g.get kind)⟩

theorem of_counter (h : t.update.counter = s.update.counter) : CountersRise s t :=
  ⟨fun kind => Nat.le_of_eq (State.secCounter_congr h kind).symm⟩

theorem of_keeps {m : Nat} (h : KM m s t) (b : m.testBit 38 = false := by decide) : CountersRise s t :=
  of_counter (h.counter_eq b)

theorem modUpdate (h : CountersRise s t) (f : UpdateSt → UpdateSt) (hf : ∀ u, (f u).counter = u.counter) :
    CountersRise s (t.modUpdate f) := h.trans (of_counter (hf _))

theorem modCan (h : CountersRise s t) (f : CanSt → CanSt) : CountersRise s (t.modCan f) :=
  h.trans (of_counter (congrArg UpdateSt.counter (State.modCan_update ..)))

/-- An operation that leaves the counters alone may follow. -/
theorem app {m : Nat} (h : CountersRise s t) (g : KM m t u) (b : m.testBit 38 = false := by decide) :
    CountersRise s u := h.trans (of_keeps g b)

theorem each {α : Type} {f : State → α → State} {l : List α} (h : CountersRise s t)
    (hf : ∀ t a, CountersRise t (f t a)) : CountersRise s (t.each l f) := by
  unfold State.each
  induction l generalizing t with
  | nil => exact h
  | cons a l ih => exact ih (h.trans (hf t a))

end CountersRise

variable (s : State)

/-! ### Confirmation (R404) -/

/-- A counter is raised to the larger of its value and the image's security version. -/
theorem State.raiseCounter_rises (i : Fin 7) (sv : Nat) (b : Vector (Option Image) 7) :
    CountersRise s (s.modUpdate fun u => { u with counter := updV u.counter i fun c => max c sv, baseline := b }) := by
  refine ⟨fun kind => ?_⟩
  unfold State.secCounter
  split
  · next j _ =>
    rw [State.modUpdate_update]
    by_cases h : i = j
    · subst h
      rw [updV_self]
      exact Nat.le_max_left ..
    · rw [updV_other _ _ _ _ h]
  · exact Nat.le_refl 0

theorem State.confirmOne_rises (k : Slot) (how : Nat) : CountersRise s (s.confirmOne k how) := by
  unfold State.confirmOne
  extract_lets kind f img sv old s1 s2 s3
  have h1 : CountersRise s s1 := (CountersRise.of_keeps (State.modFirm_keeps ..)).app (State.updBecomes_keeps ..)
  have h2 : CountersRise s s2 := by
    unfold s2
    split
    · exact h1.trans (s1.raiseCounter_rises ..)
    · exact h1
  have h3 : CountersRise s s3 := by
    unfold s3
    split
    · exact h2.app (State.raise_keeps ..)
    · exact h2
  exact (h3.app (State.releaseStaged_keeps ..)).app (State.raise_keeps ..)

theorem State.confirmSlot_rises (k : Slot) (how : Nat) : CountersRise s (s.confirmSlot k how) := by
  unfold State.confirmSlot
  exact (CountersRise.refl.each fun t j => t.confirmOne_rises j how).modUpdate _ fun _ => rfl

theorem State.doUpdateConfirm_rises (r : Req) (mask : BitVec 16) : CountersRise s (s.doUpdateConfirm r mask) := by
  unfold State.doUpdateConfirm
  extract_lets oc slots
  split
  · exact .of_keeps (State.fail_keeps ..)
  · split
    · exact .of_keeps (State.failOwner_keeps ..)
    · split
      · exact .of_keeps (State.fail_keeps ..)
      · refine (CountersRise.refl.each fun t k => ?_).app (State.ok_keeps ..)
        split
        · exact t.confirmSlot_rises k 1
        · exact .refl

theorem State.updSlotTick_rises (k : Slot) : CountersRise s (s.updSlotTick k) := by
  unfold State.updSlotTick
  extract_lets f s1
  split
  · exact .of_keeps (State.startSlot_keeps ..)
  · split
    · exact .of_keeps (State.leaveForUpdate_keeps ..)
    · exact .refl
  · have h1 : CountersRise s s1 := .of_keeps (State.modFirm_keeps ..)
    split
    · exact h1.trans (s1.confirmSlot_rises k 2)
    · split
      · exact h1.app (State.startRollback_keeps ..)
      · exact h1
  · exact .of_keeps (State.tryRollback_keeps ..)
  · exact .refl

theorem State.updateTick_rises : CountersRise s s.updateTick := by
  unfold State.updateTick
  extract_lets s0 s1
  have h0 : CountersRise s s0 := by
    unfold s0
    split
    · exact .of_keeps (State.updOnStore_keeps ..)
    · exact .refl
  have h1 : CountersRise s s1 := h0.each fun t k => t.updSlotTick_rises k
  clear_value s1
  split
  · refine (h1.modUpdate (fun u => { u with pairUpdate := false }) fun _ => rfl).each fun t k => ?_
    split
    · exact .of_keeps (State.updBecomes_keeps ..)
    · exact .refl
  · exact h1

/-! ### Requests -/

/-- Of all operations, OP_UPDATE_CONFIRM alone touches the counters. -/
theorem State.runOp_rises (r : Req) (op : Op) : CountersRise s (s.runOp r op) := by
  have hf : ∀ oc st d, CountersRise s (s.fail r oc st d) := fun _ _ _ => .of_keeps (State.fail_keeps ..)
  cases op
  case paramWrite es => exact .of_keeps (State.doParamWrite_keeps ..)
  case paramSetLoad => exact .of_keeps (State.doParamSetLoad_keeps ..)
  case stepRequest d =>
    unfold State.runOp
    dsimp only
    split
    · exact .of_keeps (State.doStepRequest_keeps ..)
    · exact hf _ _ _
  case doorObstacle d =>
    unfold State.runOp
    dsimp only
    split
    · exact .of_keeps (State.doDoorObstacle_keeps ..)
    · exact hf _ _ _
  case doorStatus d =>
    unfold State.runOp
    dsimp only
    split
    · exact .of_keeps (State.doDoorStatus_keeps ..)
    · exact hf _ _ _
  · exact .of_keeps (State.doNop_keeps ..)
  · exact .of_keeps (State.doClaim_keeps ..)
  · exact .of_keeps (State.releaseClaims_keeps ..)
  · exact .of_keeps (State.doReplay_keeps ..)
  · exact .of_keeps (State.doHeartbeat_keeps ..)
  · exact .of_keeps (State.doWait_keeps ..)
  · exact .of_keeps (State.doReleaseHold_keeps ..)
  · exact .of_keeps (State.doServiceDrop_keeps ..)
  · exact .of_keeps (State.doCoreHandover_keeps ..)
  · exact .of_keeps (State.doRestWindow_keeps ..)
  · exact .of_keeps (State.doDoorArg_keeps ..)
  · exact .of_keeps (State.doDoorArg_keeps ..)
  · exact .of_keeps (State.doDoorArg_keeps ..)
  · exact .of_keeps (State.doDoorArg_keeps ..)
  · exact .of_keeps (State.doDoorArg_keeps ..)
  · exact .of_keeps (State.doAxisMove_keeps ..)
  · exact .of_keeps (State.doAxisHalt_keeps ..)
  · exact .of_keeps (State.doAxisReference_keeps ..)
  · exact .of_keeps (State.doAxisSetPosition_keeps ..)
  · exact .of_keeps (State.doSegTableLoad_keeps ..)
  · exact .of_keeps (State.doMstepTableLoad_keeps ..)
  · exact .of_keeps (State.doFioSet_keeps ..)
  · exact .of_keeps (State.doLoadSet_keeps ..)
  · exact .of_keeps (State.doLoadRearm_keeps ..)
  · exact .of_keeps (State.doIoRead_keeps ..)
  · exact .of_keeps (State.doParamRead_keeps ..)
  · exact .of_keeps (State.doParamSetRead_keeps ..)
  · exact .of_keeps (State.doTimeSet_keeps ..)
  · exact .of_keeps (State.doTimeRead_keeps ..)
  · exact .of_keeps (State.doSchedCancel_keeps ..)
  · exact .of_keeps (State.doCanTx_keeps ..)
  · exact .of_keeps (State.doCanTxAbort_keeps ..)
  · exact .of_keeps (State.doCanRxRead_keeps ..)
  · exact .of_keeps (State.doCanRxAck_keeps ..)
  · exact .of_keeps (State.doCanFilterSet_keeps ..)
  · exact .of_keeps (State.doCanStatus_keeps ..)
  · exact .of_keeps (State.doCanRecover_keeps ..)
  · exact .of_keeps (State.doJournalRead_keeps ..)
  · exact .of_keeps (State.doJournalStatus_keeps ..)
  · exact .of_keeps (State.doJournalRetain_keeps ..)
  · exact .of_keeps (State.doJournalRelease_keeps ..)
  · exact .of_keeps (State.doJournalNote_keeps ..)
  · exact .of_keeps (State.doUpdateBegin_keeps ..)
  · exact .of_keeps (State.doUpdateChunk_keeps ..)
  · exact .of_keeps (State.doUpdateVerify_keeps ..)
  · exact .of_keeps (State.doUpdateActivate_keeps ..)
  · exact s.doUpdateConfirm_rises r _
  · exact .of_keeps (State.doUpdateAbort_keeps ..)
  · exact .of_keeps (State.doUpdateStatus_keeps ..)
  · exact .of_keeps (State.doSessionChallenge_keeps ..)
  · exact .of_keeps (State.doSessionOpen_keeps ..)
  · exact .of_keeps (State.doSessionClose_keeps ..)
  · exact .of_keeps (State.doKeyProvision_keeps ..)

theorem State.refusedNowBy_rises {s t : State} {w : Waiting} (ht : s.refusedNowBy w = some t) : CountersRise s t := by
  unfold State.refusedNowBy at ht
  split at ht
  · split at ht
    · cases ht
      exact .of_keeps (State.fail_keeps ..)
    · obtain ⟨x, -, rfl⟩ := Option.map_eq_some_iff.mp ht
      exact .of_keeps (State.fail_keeps ..)
  · have hr := s.runOp_rises w.req w.op
    extract_lets u at ht
    split at ht
    · split at ht
      · cases ht
      · exact Option.some.inj ht ▸ hr
    · cases ht

theorem State.refuseFirst_rises (ws : List Waiting) : CountersRise s (s.refuseFirst ws).1 := by
  induction ws generalizing s with
  | nil => exact .refl
  | cons w ws ih =>
    unfold State.refuseFirst
    split
    · next t ht => exact (State.refusedNowBy_rises ht).trans (ih t)
    · exact ih s

theorem State.runWinner_rises (admits : List (OpenAsk × Admit)) (w : Winner) : CountersRise s (s.runWinner admits w) := by
  unfold State.runWinner
  extract_lets r
  split
  · split
    · exact .of_keeps (State.runDoorOp_keeps ..)
    · exact .refl
  · exact (s.runOp_rises _ _).app (State.mergeInto_keeps ..)

theorem State.resolve_rises : CountersRise s s.resolve := by
  unfold State.resolve
  extract_lets all s0 waits now s1
  have h0 : CountersRise s s0 := CountersRise.refl.each fun _ _ => .of_keeps (State.safetyFirst_keeps ..)
  have h1 : CountersRise s s1 := h0.trans (.of_counter rfl)
  have h2 : CountersRise s (s1.refuseFirst now).1 := h1.trans (s1.refuseFirst_rises now)
  exact (h2.app (State.arbitrate_keeps ..)).each fun t w => t.runWinner_rises _ w

/-! ### Fetches -/

theorem State.passOn_rises (p : PortId) (r : Req) (op : Op) (b : List Byte) : CountersRise s (s.passOn p r op b) := by
  unfold State.passOn
  extract_lets atTime needLocked
  split
  · split
    · extract_lets s1
      have h1 : CountersRise s s1 := .of_keeps (State.fail_keeps ..)
      split
      · exact h1
      · exact h1.app (State.raise_keeps ..)
    · exact .of_counter rfl
  · split
    · exact .of_keeps (State.queueReq_keeps ..)
    · exact s.runOp_rises r op

theorem State.takeDescriptor_rises (p : PortId) (q : Fin 16) (core : CoreId) (b : List Byte)
    (buf : Option (List Byte)) (stamp : Option (BitVec 48)) :
    CountersRise s (s.takeDescriptor p q core b buf stamp) := by
  unfold State.takeDescriptor
  extract_lets own hseq refusal dup r s1
  have h1 : CountersRise s s1 := .of_counter rfl
  clear_value s1 refusal
  split
  · extract_lets s2
    have h2 : CountersRise s s2 := h1.app (State.fail_keeps ..)
    split
    · exact h2.app (State.raise_keeps ..)
    · exact h2
  · split
    · exact h1.trans (s1.passOn_rises ..)
    · exact h1

/-- A fetch that is not refused stops no ring and counts towards the quota before its descriptor is taken. -/
theorem State.countedFetch_rises (p : PortId) : CountersRise s ((s.stopFetching p false).countFetch p) :=
  (CountersRise.of_keeps (State.stopFetching_keeps ..)).app (State.countFetch_keeps ..)

theorem State.p2Fetch_rises : CountersRise s s.p2Fetch := by
  unfold State.p2Fetch
  split
  · exact .refl
  · split
    · exact .refl
    · split
      · exact .of_keeps (State.stopFetching_keeps ..)
      · exact ((s.countedFetch_rises 2).modCan _).trans (State.takeDescriptor_rises ..)

theorem State.p4Fetch_rises : CountersRise s s.p4Fetch := by
  unfold State.p4Fetch
  split
  · exact .refl
  · split
    · exact .refl
    · split
      · exact .of_keeps (State.stopFetching_keeps ..)
      · next rest _ _ _ =>
        have h1 : CountersRise s (((s.stopFetching 3 false).countFetch 3).modUpdate fun u => { u with p4Queue := rest }) :=
          (s.countedFetch_rises 3).modUpdate _ fun _ => rfl
        exact (h1.app (State.modSession_keeps ..)).trans (State.takeDescriptor_rises ..)

theorem State.hostFetch_rises (p : PortId) (q : Fin 16) (desc buf : Option (List Byte)) :
    CountersRise s (s.hostFetch p q desc buf) := by
  unfold State.hostFetch
  extract_lets t
  split
  · exact .refl
  · split
    · exact (CountersRise.of_keeps (State.modPort_keeps ..)).app (State.raise_keeps ..)
    · split
      · exact .of_keeps (State.stopFetching_keeps ..)
      · exact ((s.countedFetch_rises p).app (State.modPort_keeps ..)).trans (State.takeDescriptor_rises ..)

theorem State.ownFetches_rises : CountersRise s s.ownFetches :=
  (CountersRise.refl.each fun t _ => t.p2Fetch_rises).each fun t _ => t.p4Fetch_rises

/-! ### The passes -/

theorem State.passMachines_rises : CountersRise s s.passMachines := by
  unfold State.passMachines
  extract_lets s1 s2 s3
  have h1 : CountersRise s s1 := CountersRise.refl.each fun _ _ => .of_keeps (State.obstacleTick_keeps ..)
  have h2 : CountersRise s s2 := h1.each fun _ _ => .of_keeps (State.axisReadings_keeps ..)
  have h3 : CountersRise s s3 := (h2.trans s2.ownFetches_rises).trans (State.resolve_rises _)
  exact h3.each fun _ _ => .of_keeps (State.runDoor_keeps ..)

theorem State.passFrame_rises : CountersRise s s.passFrame := by
  have h1 : CountersRise s s.insertTick.removalTick.configTick :=
    ((CountersRise.of_keeps (State.insertTick_keeps ..)).app (State.removalTick_keeps ..)).app
      (State.configTick_keeps ..)
  exact ((h1.trans (State.updateTick_rises _)).app (State.sessionTick_keeps ..)).app (State.judgeTiers_keeps ..)

theorem State.runPass_rises : CountersRise s s.runPass := by
  have h1 : CountersRise s s.passInputs.passMachines :=
    (CountersRise.of_keeps (State.passInputs_keeps ..)).trans (State.passMachines_rises _)
  have h2 : CountersRise s s.passInputs.passMachines.passMotion.passUnits :=
    (h1.app (State.passMotion_keeps ..)).app (State.passUnits_keeps ..)
  exact (h2.trans (State.passFrame_rises _)).app (State.passOutputs_keeps ..)

theorem State.servicePass_rises : CountersRise s s.servicePass := by
  unfold State.servicePass
  extract_lets s1 s2
  have h1 : CountersRise s s1 :=
    ((((CountersRise.of_keeps (State.edge_keeps ..)).app (State.linksTick_keeps ..)).app
      (State.linkSecond_keeps ..)).app (State.timeTick_keeps ..)).app (State.panelTick_keeps ..)
  have h2 : CountersRise s s2 :=
    ((h1.trans s1.ownFetches_rises).trans (State.resolve_rises _)).app (State.sessionTick_keeps ..)
  exact ((((h2.app (State.swapWindow_keeps ..)).app (State.waitingTick_keeps ..)).app (State.usbTick_keeps ..)).app
    (State.journalTick_keeps ..)).app (State.portsTick_keeps ..)

/-! ### The commands -/

theorem execTickPass_rises {t : State} (h : execTickPass s = .next t) : CountersRise s t := by
  cases h
  have hend : ∀ {u : State}, CountersRise s u → CountersRise s u.endTick := fun g => g.app (State.endTick_keeps ..)
  split
  · exact .refl
  · split
    · exact hend s.servicePass_rises
    · split
      · split
        · exact hend (.of_keeps (State.startPass_keeps ..))
        · split
          · exact hend s.runPass_rises
          · exact .refl
      · split
        · exact hend s.runPass_rises
        · exact .refl

theorem execDescriptorFetch_rises {t : State} {p : PortId} {q : Fin 16} {desc buf : Option (List Byte)}
    (h : execDescriptorFetch p q desc buf s = .next t) : CountersRise s t := by
  cases h
  split
  · exact .refl
  · split
    · exact s.p2Fetch_rises
    · split
      · exact s.p4Fetch_rises
      · exact s.hostFetch_rises ..

theorem execAutoConfirm_rises {t : State} {k : Slot} (h : execAutoConfirm k s = .next t) : CountersRise s t := by
  cases h
  split
  · exact (CountersRise.of_counter (congrArg UpdateSt.counter (State.until_update ..))).trans (State.confirmSlot_rises ..)
  · exact .refl

theorem execOpUpdateConfirm_rises {t : State} {r : Req} {mask : BitVec 16}
    (h : execOpUpdateConfirm r mask s = .next t) : CountersRise s t := by
  cases h
  exact s.doUpdateConfirm_rises r mask

variable {s}

theorem exec_secCounter {c : Instr} {t : State} (ht : exec c s = .next t)
    (h : ¬ Confirms c) (kind : Nat) : t.secCounter kind = s.secCounter kind :=
  State.secCounter_congr (congrArg Prod.fst ((exec_quiet c s).counters.resolve_left h t ht : (_, _) = (_, _))) kind

theorem exec_rises {c : Instr} {t : State} (ht : exec c s = .next t) : CountersRise s t := by
  by_cases h : Confirms c
  · cases h with
    | tickPass => exact execTickPass_rises s ht
    | descriptorFetch => exact execDescriptorFetch_rises s ht
    | opUpdateConfirm => exact execOpUpdateConfirm_rises s ht
    | autoConfirm => exact execAutoConfirm_rises s ht
  · exact ⟨fun kind => Nat.le_of_eq (exec_secCounter ht h kind).symm⟩

/-! ### The staged image of a type -/

theorem asFin_of_maxBody {kind : Nat} (h : maxBody kind ≠ 0) : ∃ i : Fin 7, asFin 7 kind = some i := by
  have hk : kind < 7 := by
    by_contra hge
    refine h ?_
    unfold maxBody
    split <;> omega
  exact ⟨⟨kind, hk⟩, dif_pos hk⟩

theorem State.staged_congr {s t : State} (h : t.update.staged = s.update.staged) (kind : Nat) :
    t.staged kind = s.staged kind := by
  unfold State.staged
  rw [h]

theorem State.setStaged_staged {kind : Nat} (hk : maxBody kind ≠ 0) (g : Option Staged) :
    (s.setStaged kind g).staged kind = g := by
  obtain ⟨i, hi⟩ := asFin_of_maxBody hk
  simp only [State.setStaged, State.staged, hi, State.modUpdate_update]
  exact updV_self ..

theorem State.stagedBecomes_staged {kind : Nat} (hk : maxBody kind ≠ 0) (g : Option Staged) :
    (s.stagedBecomes kind g).staged kind = g := by
  have h := State.setStaged_staged (s := s) hk g
  unfold State.stagedBecomes
  extract_lets old s1
  split
  · exact h
  · exact (State.staged_congr (congrArg UpdateSt.staged (State.raise_update ..)) kind).trans h

/-- OP_UPDATE_VERIFY of an image whose checks fail: the image is not verified, and the command names the check. -/
theorem State.doUpdateVerify_fails {r : Req} {kind : Nat} {g : Staged} {st : Byte} {detail why : Nat}
    (hk : maxBody kind ≠ 0) (hd : s.updDenied r = false) (hg : s.staged kind = some g)
    (hf : s.verifyFail g = some (st, detail, why)) :
    Answers (s.doUpdateVerify r kind) r Opc.OP_UPDATE_VERIFY st detail ∧
      (s.doUpdateVerify r kind).staged kind = some { g with verified := false } := by
  simp only [State.doUpdateVerify, if_neg hk, hd, Bool.false_eq_true, if_false, hg, hf]
  refine ⟨State.fail_answers _ _ _ _ _, ?_⟩
  rw [State.staged_congr (congrArg UpdateSt.staged (State.fail_update ..)),
    State.staged_congr (congrArg UpdateSt.staged (State.raise_update ..)), State.stagedBecomes_staged hk]

theorem State.verifyFail_of_lower {g : Staged} (hm : g.missing = none)
    (hl : hdrSec g.header < s.secCounter (hdrType g.header)) :
    s.verifyFail g = some (ST_SECURITY_VERSION, s.secCounter (hdrType g.header), 2) := by
  simp only [State.verifyFail, hm, if_pos hl]

/-- Settles O9: every command's counters rise, the frame of the commands names those that confirm, and an image below
its counter fails its check. -/
theorem securityCountersOnlyRise : Obligations.SecurityCountersOnlyRise := by
  refine ⟨fun s t h kind => ?_, fun c s t kind h hne => ?_, fun s r kind g hk hd hg hm hl => ?_⟩
  · obtain ⟨-, rfl⟩ | ⟨c, rest, -, hc⟩ := step_cases h
    · exact Nat.le_refl _
    · exact (exec_rises hc).get kind
  · cases not_not.mp (mt (exec_secCounter h · kind) hne) with
    | tickPass => exact .inr (.inr (.inl rfl))
    | descriptorFetch => exact .inr (.inr (.inr ⟨_, _, _, _, rfl⟩))
    | opUpdateConfirm => exact .inl ⟨_, _, rfl⟩
    | autoConfirm => exact .inr (.inl ⟨_, rfl⟩)
  · exact Does.intro (exec_opUpdateVerify s r kind)
      (State.doUpdateVerify_fails hk hd hg (State.verifyFail_of_lower hm hl))

end Sys2Proof.Machine
end

section
/-!
What the completions, and the events that are no faults, leave of the buses and of the panel: only a fault sends a
FAULT message and enters the panel's summary (R337, Table PB-1).
-/

set_option Elab.async false

namespace Sys2Proof.Machine

/-- From `s` to `t` the buses and the panel stand. -/
structure SameBuses (s t : State) : Prop where
  can : t.can = s.can
  panel : t.panel = s.panel

namespace SameBuses

variable {s t u : State}

theorem refl : SameBuses s s := ⟨rfl, rfl⟩

theorem trans (h : SameBuses s t) (g : SameBuses t u) : SameBuses s u := ⟨g.can.trans h.can, g.panel.trans h.panel⟩

variable (s)

theorem modPort (p : PortId) (f : PortSt → PortSt) : SameBuses s (s.modPort p f) :=
  ⟨State.modPort_can .., State.modPort_panel ..⟩

theorem modPair (f : PairSt → PairSt) : SameBuses s (s.modPair f) := ⟨State.modPair_can .., State.modPair_panel ..⟩

theorem modJournal (f : JournalSt → JournalSt) : SameBuses s (s.modJournal f) :=
  ⟨State.modJournal_can .., State.modJournal_panel ..⟩

theorem portEvent (p : PortId) (code : BitVec 10) (stamp : Nat) (data : List Byte) :
    SameBuses s (s.portEvent p code stamp data) := by
  unfold State.portEvent
  split
  · extract_lets t e s'
    have h : SameBuses s s' := modPort ..
    split
    · exact h.trans (modPair ..)
    · exact h.trans (modPort ..)
  · exact refl

theorem stageEvent (code : BitVec 10) (stamp : Nat) (items : List Item) :
    SameBuses s (s.stageEvent code stamp items) := by
  unfold State.stageEvent State.stage
  extract_lets always wanted
  split
  · exact refl
  · split
    · exact modJournal ..
    · exact modJournal ..

theorem raiseOnce {code : BitVec 10} (h : isFaultEvent code = false) (stamp : Nat) (items : List Item) :
    SameBuses s (s.raiseOnce code stamp items) := by
  unfold State.raiseOnce
  extract_lets data s1 s2
  rw [if_neg (by rw [h]; exact Bool.false_ne_true)]
  exact ((((portEvent s ..).trans (portEvent ..)).trans (portEvent ..)).trans (portEvent ..)).trans (stageEvent ..)

theorem raise {code : BitVec 10} (h : isFaultEvent code = false) (items : List Item) :
    SameBuses s (s.raise code items) := by
  unfold State.raise State.raiseAt
  extract_lets s1
  have h1 : SameBuses s s1 := raiseOnce s h ..
  split
  · exact (h1.trans (modJournal ..)).trans (raiseOnce _ (by decide) ..)
  · exact h1

theorem noteLayby (p : PortId) : SameBuses s (s.noteLayby p) := by
  unfold State.noteLayby
  extract_lets t v
  split
  · exact refl
  · exact (modPort s ..).trans (raise _ (by decide) _)

theorem emit (p : PortId) (c : Completion) : SameBuses s (s.emit p c) := by
  unfold State.emit
  extract_lets t c' s1
  have h1 : SameBuses s s1 := modPort ..
  split
  · exact h1.trans (modPair ..)
  · exact (h1.trans (modPort ..)).trans (noteLayby ..)

theorem complete (r : Req) (oc : BitVec 15) (st : Byte) (d : Nat) (res : List Byte) :
    SameBuses s (s.complete r oc st d res) := by
  unfold State.complete
  split
  · exact refl
  · exact emit ..

end SameBuses

section
variable (s : State)

theorem State.raise_can {code : BitVec 10} (h : isFaultEvent code = false) (items : List Item) :
    (s.raise code items).can = s.can := (SameBuses.raise s h items).can

theorem State.raise_panel {code : BitVec 10} (h : isFaultEvent code = false) (items : List Item) :
    (s.raise code items).panel = s.panel := (SameBuses.raise s h items).panel

variable (r : Req) (oc : BitVec 15)

@[simp] theorem State.complete_can (st : Byte) (d : Nat) (res : List Byte) :
    (s.complete r oc st d res).can = s.can := (SameBuses.complete ..).can

@[simp] theorem State.complete_panel (st : Byte) (d : Nat) (res : List Byte) :
    (s.complete r oc st d res).panel = s.panel := (SameBuses.complete ..).panel

@[simp] theorem State.ok_can (res : List Byte) : (s.ok r oc res).can = s.can := State.complete_can ..

@[simp] theorem State.ok_panel (res : List Byte) : (s.ok r oc res).panel = s.panel := State.complete_panel ..

@[simp] theorem State.fail_can (st : Byte) (d : Nat) : (s.fail r oc st d).can = s.can := State.complete_can ..

@[simp] theorem State.fail_panel (st : Byte) (d : Nat) : (s.fail r oc st d).panel = s.panel := State.complete_panel ..

/-- A completion is kept before those its port kept already. -/
theorem State.complete_kept (st : Byte) (d : Nat) (res : List Byte) {p : PortId} (hp : portOf r.party = some p) :
    ∃ c, (s.complete r oc st d res).ports[p].kept = (c :: s.ports[p].kept).take 256 ∧ c.opcode = oc ∧ c.status = st ∧
      c.hseq = r.hseq ∧ c.detail = BitVec.ofNat 32 d := by
  unfold State.complete
  rw [hp]
  simp only [State.emit_kept]
  exact ⟨_, rfl, rfl, rfl, rfl, rfl⟩

end

/-! ### A run over a list, of which one turn touches what is looked at -/

/-- What the turn of one element makes of a view, and every other turn keeps, the run makes of it. -/
theorem State.each_turn {α β : Type} {g : State → β} {x y : β} {f : State → α → State} {l : List α} {a : α}
    (hn : l.Nodup) (ha : a ∈ l) (hset : ∀ t, g t = x → g (f t a) = y) (hkeep : ∀ t b, b ≠ a → g (f t b) = g t)
    {s : State} (h : g s = x) : g (s.each l f) = y := by
  unfold State.each
  induction l generalizing s with
  | nil => exact absurd ha (List.not_mem_nil)
  | cons b l ih =>
    obtain ⟨hb, hn⟩ := List.nodup_cons.mp hn
    rw [List.foldl_cons]
    obtain rfl | ha := List.mem_cons.mp ha
    · exact (State.each_same g f l (fun t c hc => hkeep t c fun e => hb (e ▸ hc)) _).trans (hset s h)
    · exact ih hn ha ((hkeep s b fun e => hb (e ▸ ha)).trans h)

end Sys2Proof.Machine
end

section
/-!
The CAN buses (R313, R318 to R329): what the bus states, errors and rate detection make of a controller, and what a
received frame makes of the receive queue of a port.
-/

set_option Elab.async false

namespace Sys2Proof.Machine

section
variable (s : State) (core : CoreId) (b : Bus)

/-! ### One controller -/

theorem State.modCtl_canCtl (f : CanCtl → CanCtl) : (s.modCtl core b f).canCtl core b = f (s.canCtl core b) := by
  unfold State.modCtl State.canCtl
  rw [State.modCan_can, updV_self, updV_self]

theorem State.canCtl_congr {s t : State} (h : t.can.ctl = s.can.ctl) : t.canCtl core b = s.canCtl core b := by
  unfold State.canCtl
  rw [h]

theorem State.raise_ctl (code : BitVec 10) (items : List Item) : (s.raise code items).canCtl core b = s.canCtl core b :=
  State.canCtl_congr _ _ (State.raise_canCtl ..)

theorem State.until_ctl (t : Nat) : (s.until t).canCtl core b = s.canCtl core b :=
  State.canCtl_congr _ _ (congrArg CanSt.ctl (State.until_can ..))

/-- The state and the error counters of a controller. -/
def CanCtl.line (x : CanCtl) : BusState × Nat × Nat := (x.state, x.txErr, x.rxErr)

theorem State.busBecomes_line (new : BusState) (tec rec_ : Nat) :
    ((s.busBecomes core b new tec rec_).canCtl core b).line = (new, tec, rec_) := by
  unfold State.busBecomes
  extract_lets old s1 s2
  have h1 : (s1.canCtl core b).line = (new, tec, rec_) := by
    unfold s1
    rw [State.modCtl_canCtl]
    rfl
  have h2 : (s2.canCtl core b).line = (new, tec, rec_) := by
    unfold s2
    rw [State.raise_ctl, h1]
  clear_value s1 s2
  split
  · exact h1
  · split
    · rw [State.canCtl_congr core b (s2.dropPortFrames_keeps b).ctl_eq, h2]
    · split
      · rw [State.canCtl_congr core b (State.completeAll_canCtl ..), State.modCtl_canCtl]
        exact h2
      · exact h2

theorem exec_busStateChange_line {new : Nat} {st : BusState} (tec rec_ : Nat) (h : busStateOf new = some st) :
    exec (.busStateChange core b new tec rec_) s = .next (s.busBecomes core b st tec rec_) := by
  rw [exec_busStateChange, execBusStateChange, h]

/-! ### Errors (R313, R318) -/

theorem State.protocolException_counts : ((s.protocolException b).canCtl s.activeCore b).exceptions =
    (s.canCtl s.activeCore b).exceptions + 1 := by
  unfold State.protocolException
  extract_lets core x n due s1
  have h1 : (s1.canCtl core b).exceptions = x.exceptions + 1 := by
    unfold s1
    rw [State.modCtl_canCtl]
  clear_value s1
  split
  · rw [State.raise_ctl, State.modCtl_canCtl]
    exact h1
  · exact h1

theorem State.protocolException_rx : (s.protocolException b).can.rx = s.can.rx := (s.protocolException_keeps b).rx_eq

theorem State.errorSecond_counts :
    ((s.errorSecond b).canCtl s.activeCore b).errors = 0 ∧
      ((s.errorSecond b).canCtl s.activeCore b).errorsLast = (s.canCtl s.activeCore b).errors := by
  unfold State.errorSecond
  extract_lets core n s1
  have h1 : s1.canCtl core b = { s.canCtl core b with errorsLast := n, errors := 0 } := State.modCtl_canCtl ..
  clear_value s1
  split
  · rw [State.raise_ctl, h1]
    exact ⟨rfl, rfl⟩
  · rw [h1]
    exact ⟨rfl, rfl⟩

theorem State.errorSecond_raises (h : s.bp b 7 < (s.canCtl s.activeCore b).errors) :
    Raised s (s.errorSecond b) Ev.MB_ERROR_RATE [.u8 (busNo b).val, .u16 (s.canCtl s.activeCore b).errors] := by
  unfold State.errorSecond
  extract_lets core n s1
  rw [if_pos h]
  exact Raised.of_raise (State.modCan_params ..) (State.modCan_journal ..) (by simp)

/-- What an error sets and a change of candidate leaves. -/
def CanCtl.tally (x : CanCtl) : Nat × Nat × Nat := (x.errors, x.txErr, x.rxErr)

theorem CanCtl.nextCandidate_tally (x : CanCtl) (now : Nat) : (x.nextCandidate now).tally = x.tally := by
  unfold CanCtl.nextCandidate
  split
  · rfl
  · split <;> rfl

theorem State.canError_tally (kind tec rec_ : Nat) :
    ((s.canError b none kind tec rec_).canCtl s.activeCore b).tally = ((s.canCtl s.activeCore b).errors + 1, tec, rec_) := by
  unfold State.canError
  extract_lets core s1 s2
  have h1 : (s1.canCtl core b).tally = ((s.canCtl core b).errors + 1, tec, rec_) := by
    unfold s1
    rw [State.modCtl_canCtl]
    rfl
  have h2 : (s2.canCtl core b).tally = (s1.canCtl core b).tally := by
    unfold s2
    split
    · rw [State.modCtl_canCtl, CanCtl.nextCandidate_tally]
    · rfl
  exact h2.trans h1

/-! ### Recovery and rate detection (R319, R320) -/

theorem exec_busoffDelayExpired_recovers (hs : (s.canCtl s.activeCore b).state = .busOff) (hm : s.bp b 5 = 0)
    (hr : (s.canCtl s.activeCore b).recovering = false) :
    exec (.busoffDelayExpired b) s =
      .next ((s.until ((s.canCtl s.activeCore b).busOffAt + s.bp b 6 * msec)).modCtl s.activeCore b fun x =>
        { x with recovering := true }) := by
  rw [exec_busoffDelayExpired, execBusoffDelayExpired, if_pos (by rw [hs, hm, hr]; rfl)]

theorem exec_rateCandidateTimeout_seeking (h : s.seeking b = true) :
    exec (.rateCandidateTimeout b) s =
      .next ((s.until ((s.canCtl s.activeCore b).candFrom + 50 * msec)).modCtl s.activeCore b fun x =>
        x.nextCandidate (s.until ((s.canCtl s.activeCore b).candFrom + 50 * msec)).now) := by
  rw [exec_rateCandidateTimeout, execRateCandidateTimeout, if_pos h]

theorem exec_rateFail_detecting (h : (s.canCtl s.activeCore b).state = .detecting) :
    exec (.rateFail b) s =
      .next (s.raise Ev.MB_RATE_FAIL [.u8 (busNo b).val, .u32 (s.canCtl s.activeCore b).framesSeen]) := by
  rw [exec_rateFail, execRateFail, if_pos (by rw [h]; rfl)]

/-! ### Received frames (R321, R322) -/

theorem State.modRx_rx (p : RxPortId) (f : RxPort → RxPort) :
    (s.modCan fun c => { c with rx := updV c.rx p f }).can.rx[p] = f s.can.rx[p] := updV_self _ _ _

theorem State.modRx_other {p q : RxPortId} (h : q ≠ p) (f : RxPort → RxPort) :
    (s.modCan fun c => { c with rx := updV c.rx q f }).can.rx[p] = s.can.rx[p] := updV_other _ _ _ _ h

theorem State.rx_congr {s t : State} (h : t.can.rx = s.can.rx) (p : RxPortId) : t.can.rx[p] = s.can.rx[p] := by
  rw [h]

theorem State.copyOut_can (r : Req) (bs : List Byte) : (s.copyOut r bs).can = s.can := by
  unfold State.copyOut
  split
  · exact State.modPort_can ..
  · rfl

/-- A read that ends leaves the queues of the other ports alone. -/
theorem State.endRead_other {p q : RxPortId} (h : q ≠ p) : (s.endRead q).can.rx[p] = s.can.rx[p] := by
  unfold State.endRead
  split
  · rfl
  · extract_lets x unread out s1 s2
    have h1 : s1.can.rx[p] = s.can.rx[p] := s.modRx_other h _
    have h2 : s2.can.rx[p] = s1.can.rx[p] := s1.modRx_other h _
    clear_value s1 s2
    split
    · exact (State.rx_congr (State.fail_canRx ..) p).trans h1
    · exact (State.rx_congr ((State.ok_canRx ..).trans (congrArg CanSt.rx (State.copyOut_can ..))) p).trans (h2.trans h1)

theorem State.readTick_other {p q : RxPortId} (h : q ≠ p) : (s.readTick q).can.rx[p] = s.can.rx[p] := by
  unfold State.readTick
  extract_lets x
  split
  · rfl
  · split
    · exact s.endRead_other h
    · rfl

theorem State.readTick_of_none {p : RxPortId} (h : s.can.rx[p].read = none) : s.readTick p = s := by
  simp only [State.readTick, h]

/-- The receive queue of a port, and the stamps an entry of the tick takes. -/
def State.rxView (s : State) (p : RxPortId) : RxPort × Vector (BitVec 48) 2 := (s.can.rx[p], s.time.ce)

/-- The turn of one port when a frame is accepted. -/
def State.acceptAt (s : State) (b : Bus) (f : CanFrame) (p : RxPortId) : State :=
  match (List.range 32).find? fun i => (s.can.rx[p].filters.toList.getD i {}).accepts b f with
  | none => s
  | some i => (s.modCan fun c => { c with rx := updV c.rx p fun x => x.take b f i s.time.ce }).readTick p

theorem State.acceptFrame_eq (f : CanFrame) :
    s.acceptFrame b f = s.each (List.finRange 3) fun s p => s.acceptAt b f p := rfl

theorem State.acceptAt_other (f : CanFrame) {p q : RxPortId} (h : q ≠ p) :
    (s.acceptAt b f q).rxView p = s.rxView p := by
  unfold State.acceptAt
  split
  · rfl
  · refine Prod.ext ?_ (congrArg TimeSt.ce ((State.readTick_keeps ..).time_eq.trans (State.modCan_time ..)))
    exact (State.readTick_other _ h).trans (s.modRx_other h _)

theorem State.acceptAt_same {f : CanFrame} {p : RxPortId} {i : Nat}
    (hf : ((List.range 32).find? fun i => (s.can.rx[p].filters.toList.getD i {}).accepts b f) = some i)
    (hr : (s.can.rx[p].take b f i s.time.ce).read = none) :
    (s.acceptAt b f p).rxView p = (s.can.rx[p].take b f i s.time.ce, s.time.ce) := by
  unfold State.acceptAt
  rw [hf]
  show ((s.modCan _).readTick p).rxView p = _
  rw [State.readTick_of_none _ ((congrArg RxPort.read (s.modRx_rx p _)).trans hr)]
  exact Prod.ext (s.modRx_rx p _) (congrArg TimeSt.ce (State.modCan_time ..))

/-- A frame with room for it joins the queue of a port that passes it. -/
theorem RxPort.take_of_room {x : RxPort} {f : CanFrame} (hl : x.queue.length < 256)
    (hp : x.poolUsed + poolBlocks f ≤ 1024) (i : Nat) (stamps : Vector (BitVec 48) 2) :
    x.take b f i stamps = { x with
      rseqNext := x.rseqNext + 1,
      queue := x.queue ++ [{ bus := b, frame := f, filter := i, stamps := stamps, rseq := x.rseqNext }] } := by
  unfold RxPort.take
  extract_lets y
  rw [if_neg (by omega), if_neg (by omega)]

theorem State.acceptFrame_rxView {f : CanFrame} {p : RxPortId} {i : Nat} (hr : s.can.rx[p].read = none)
    (hf : ((List.range 32).find? fun i => (s.can.rx[p].filters.toList.getD i {}).accepts b f) = some i)
    (hl : s.can.rx[p].queue.length < 256) (hp : s.can.rx[p].poolUsed + poolBlocks f ≤ 1024) :
    (s.acceptFrame b f).rxView p = (s.can.rx[p].take b f i s.time.ce, s.time.ce) := by
  rw [State.acceptFrame_eq]
  refine State.each_turn (g := fun t => t.rxView p) (List.nodup_finRange 3) (List.mem_finRange p) (fun t ht => ?_)
    (fun t q hq => t.acceptAt_other b f hq) rfl
  have hx : t.can.rx[p] = s.can.rx[p] := congrArg Prod.fst ht
  have hc : t.time.ce = s.time.ce := congrArg Prod.snd ht
  rw [← hx] at hf hr hl hp
  rw [← hx, ← hc]
  refine t.acceptAt_same b hf ?_
  rw [RxPort.take_of_room b hl hp]
  exact hr

theorem State.rateGood_rxView (f : CanFrame) (p : RxPortId) : (s.rateGood b f).rxView p = s.rxView p :=
  Prod.ext (State.rx_congr (s.rateGood_keeps b f).rx_eq p)
    (congrArg TimeSt.ce (s.rateGood_keeps b f).time_eq)

theorem State.frameReceived_rx {f : CanFrame} {p : RxPortId} {i : Nat} (hb : s.busHears b = true)
    (hfmt : s.formatOn b f.fmt = true) (hr : s.can.rx[p].read = none)
    (hf : ((List.range 32).find? fun i => (s.can.rx[p].filters.toList.getD i {}).accepts b f) = some i)
    (hl : s.can.rx[p].queue.length < 256) (hp : s.can.rx[p].poolUsed + poolBlocks f ≤ 1024) :
    (s.frameReceived b f).can.rx[p] = s.can.rx[p].take b f i s.time.ce := by
  unfold State.frameReceived
  extract_lets core s1 s2
  rw [if_neg (by simp [hb]), if_neg (by simp [hfmt])]
  have h1 : s1.rxView p = s.rxView p := (State.rateGood_rxView ..).trans rfl
  have hx : s1.can.rx[p] = s.can.rx[p] := congrArg Prod.fst h1
  have hc : s1.time.ce = s.time.ce := congrArg Prod.snd h1
  have h2 : s2.can.rx[p] = s.can.rx[p].take b f i s.time.ce := by
    rw [← hx] at hr hf hl hp
    rw [← hx, ← hc]
    exact congrArg Prod.fst (s1.acceptFrame_rxView b hr hf hl hp)
  clear_value s2
  split
  · exact (State.rx_congr (State.raise_canRx ..) p).trans h2
  · exact h2

theorem State.frameReceived_of_otherFormat {f : CanFrame} (hb : s.busHears b = true)
    (hfmt : s.formatOn b f.fmt = false) : s.frameReceived b f = s.protocolException b := by
  simp only [State.frameReceived, hb, hfmt, Bool.not_true, Bool.not_false, Bool.false_eq_true, if_false, if_true]

end

/-- Settles O37: each command by the controller it changes, and a received frame by the queue it joins. -/
theorem canBusesComplete : Obligations.CanBusesComplete := by
  intro s b
  refine ⟨fun core new st tec rec_ h => ?_, ?_, ?_, fun hs hm hr => ?_, fun h => ?_, fun h => ?_, fun kind tec rec_ => ?_,
    fun f p i hb hfmt hr hf hl hp => ?_, fun f hb hfmt => ?_⟩
  · have hline := s.busBecomes_line core b st tec rec_
    exact .intro (exec_busStateChange_line s core b tec rec_ h) ⟨congrArg (·.1) hline, congrArg (·.2.1) hline,
      congrArg (·.2.2) hline⟩
  · exact .intro (exec_protocolException s b) (s.protocolException_counts b)
  · obtain ⟨h0, hlast⟩ := s.errorSecond_counts b
    exact .intro (exec_mbErrorRate s b) ⟨h0, hlast, s.errorSecond_raises b⟩
  · refine .intro (exec_busoffDelayExpired_recovers s b hs hm hr) ⟨?_, State.until_now ..⟩
    rw [State.modCtl_canCtl]
  · refine .intro (exec_rateCandidateTimeout_seeking s b h) ⟨State.until_now .., ?_⟩
    rw [State.modCtl_canCtl, State.until_ctl]
    rfl
  · exact .intro (exec_rateFail_detecting s b h) (Raised.of_raise rfl rfl (by simp))
  · have ht := s.canError_tally b kind tec rec_
    exact .intro (exec_canBusError s b none kind tec rec_) ⟨congrArg (·.1) ht, congrArg (·.2.1) ht, congrArg (·.2.2) ht⟩
  · refine .intro (exec_canFrameReceived s b f) ?_
    show (s.frameReceived b f).can.rx[p].queue = _ ∧ (s.frameReceived b f).can.rx[p].rseqNext = _
    rw [s.frameReceived_rx b hb hfmt hr hf hl hp, RxPort.take_of_room b hl hp]
    exact ⟨rfl, rfl⟩
  · refine .intro (exec_canFrameReceived s b f) ?_
    show (s.frameReceived b f).can.rx = _ ∧ ((s.frameReceived b f).canCtl s.activeCore b).exceptions = _
    rw [s.frameReceived_of_otherFormat b hb hfmt]
    exact ⟨s.protocolException_rx b, s.protocolException_counts b⟩

end Sys2Proof.Machine
end

section
/-!
The commands of a host on the buses (R321 to R329): transmit frames and their abort, and the receive queue of the
port of a party.
-/

set_option Elab.async false

namespace Sys2Proof.Machine

/-! ### Transmit buffers (R327) -/

/-- What is sent of an entry, and for whom. -/
def TxEntry.sends (e : TxEntry) : TxOwner × Bus × CanFrame := (e.owner, e.bus, e.frame)

/-- An entry as it stands after the buffers are filled. -/
def TxEntry.filled (e : TxEntry) (room : Bool) : TxEntry := if e.inBuffer then e else { e with inBuffer := room }

theorem TxEntry.filled_sends (e : TxEntry) (room : Bool) : (e.filled room).sends = e.sends := by
  unfold TxEntry.filled
  split <;> rfl

theorem fillBuffers_length (l done : List TxEntry) : (fillBuffers l done).length = done.length + l.length := by
  induction l generalizing done with
  | nil => rfl
  | cons e l ih =>
    unfold fillBuffers
    rw [ih, List.length_append, List.length_singleton, List.length_cons]
    omega

theorem fillBuffers_done {l done : List TxEntry} {e : TxEntry} (h : e ∈ done) : e ∈ fillBuffers l done := by
  induction l generalizing done with
  | nil => exact h
  | cons x l ih => exact ih (List.mem_append_left _ h)

theorem fillBuffers_sends {l done : List TxEntry} {e : TxEntry} (h : e ∈ l) :
    ∃ x ∈ fillBuffers l done, x.sends = e.sends := by
  induction l generalizing done with
  | nil => exact absurd h List.not_mem_nil
  | cons x l ih =>
    obtain rfl | h := List.mem_cons.mp h
    · unfold fillBuffers
      exact ⟨_, fillBuffers_done (List.mem_append_right done List.mem_cons_self), TxEntry.filled_sends ..⟩
    · exact ih h

theorem busOf_busNo (b : Bus) : busOf (busNo b).val = some b := by cases b <;> rfl

section
variable (s : State) (r : Req) (b : Bus)

/-- OP_CAN_TX of an unbuffered frame that nothing refuses. -/
theorem State.doCanTx_accepted {fmt sdt vcid : Byte} {len : Nat} {id af : BitVec 32} {data : List Byte}
    (hr : s.txRefusal b fmt.toNat len id.toNat = none) (hf : fmt.getLsbD 6 = false)
    (hs : (s.canCtl s.activeCore b).state.sends = true)
    (hn : (s.can.tx.filter fun e => e.ofParty r.party && e.bus == b).length < 16) :
    (s.doCanTx r (busNo b).val fmt len id sdt vcid af data).can.tx =
      fillBuffers (s.can.tx ++ [{ owner := .port r, bus := b, frame := txFrame fmt id sdt vcid af (slice data 0 len), mark := s.pair.mseq + 1 }]) [] := by
  have hfull : ¬(16 ≤ (s.can.tx.filter fun e => e.ofParty r.party && e.bus == b).length) := by omega
  simp only [State.doCanTx, busOf_busNo, hr, hf, hs, hfull, decide_false, Bool.false_and, Bool.not_true, Bool.or_self,
    Bool.false_eq_true, if_false]
  rfl

theorem State.txDone_completes {n : Nat} {stamp : BitVec 48} {delay : Option Nat} {e : TxEntry}
    (he : s.txAt b n = some e) (hb : e.inBuffer = true) (ho : e.owner = .port r)
    (hs : (s.canCtl s.activeCore b).state.sends = true) :
    ∃ u : State, s.txDone b n stamp delay =
      u.ok r Opc.OP_CAN_TX (leBytes 6 stamp.toNat ++ leBytes 1 (min 255 (e.attempts + 1))) := by
  simp only [State.txDone, he, hb, hs, ho, Bool.true_or, Bool.not_true, Bool.or_self, Bool.false_eq_true, if_false]
  exact ⟨_, rfl⟩

/-! ### Aborting a transmit (R328) -/

/-- Is it the pending transmit of a party with an hseq? -/
def TxEntry.isOf (party : Party) (hseq : BitVec 32) (e : TxEntry) : Bool :=
  match e.owner with
  | .port q => q.party == party && q.hseq == hseq
  | .own _ => false

theorem TxEntry.isOf_port {party : Party} {hseq : BitVec 32} {e : TxEntry} {q : Req} (h : e.isOf party hseq = true)
    (ho : e.owner = .port q) : q.party = party ∧ q.hseq = hseq := by
  unfold TxEntry.isOf at h
  rw [ho] at h
  simpa using h

variable (hseq : BitVec 32)

/-- The pending transmit an abort is about. -/
def State.txOf (s : State) (r : Req) (hseq : BitVec 32) : Option TxEntry := s.can.tx.find? (TxEntry.isOf r.party hseq)

theorem State.doCanTxAbort_eq : s.doCanTxAbort r hseq = match s.txOf r hseq with
    | none => s.fail r Opc.OP_CAN_TX_ABORT ST_RANGE (argOff 16)
    | some e =>
      if e.started then s.fail r Opc.OP_CAN_TX_ABORT ST_STATE 0
      else (match e.owner with
        | .port q => (s.dropTx e).fail q Opc.OP_CAN_TX ST_PREEMPTED r.hseq.toNat
        | .own _ => s.dropTx e).ok r Opc.OP_CAN_TX_ABORT [] := rfl

theorem State.doCanTxAbort_pending {e : TxEntry} {q : Req} (hf : s.txOf r hseq = some e) (ho : e.owner = .port q)
    (hs : e.started = false) :
    s.doCanTxAbort r hseq = ((s.dropTx e).fail q Opc.OP_CAN_TX ST_PREEMPTED r.hseq.toNat).ok r Opc.OP_CAN_TX_ABORT [] := by
  simp only [State.doCanTxAbort_eq, hf, ho, hs, Bool.false_eq_true, if_false]

theorem State.doCanTxAbort_started {e : TxEntry} (hf : s.txOf r hseq = some e) (hs : e.started = true) :
    s.doCanTxAbort r hseq = s.fail r Opc.OP_CAN_TX_ABORT ST_STATE 0 := by
  simp only [State.doCanTxAbort_eq, hf, hs, if_true]

theorem State.doCanTxAbort_unknown (hf : s.txOf r hseq = none) :
    s.doCanTxAbort r hseq = s.fail r Opc.OP_CAN_TX_ABORT ST_RANGE (argOff 16) := by
  simp only [State.doCanTxAbort_eq, hf]

/-- The abort is kept on the port before the transmit it ends. -/
theorem State.doCanTxAbort_kept {e : TxEntry} {q : Req} (hf : s.txOf r hseq = some e) (ho : e.owner = .port q)
    (hs : e.started = false) {p : PortId} (hp : portOf r.party = some p) :
    ∃ c2 c1 rest, (s.doCanTxAbort r hseq).ports[p].kept = c2 :: c1 :: rest ∧ c1.opcode = Opc.OP_CAN_TX ∧
      c1.status = ST_PREEMPTED ∧ c1.hseq = hseq ∧ c1.detail = BitVec.ofNat 32 r.hseq.toNat := by
  obtain ⟨hparty, hq⟩ := TxEntry.isOf_port (List.find?_some hf) ho
  obtain ⟨c1, hk1, hop, hst, hh, hd⟩ :=
    (s.dropTx e).complete_kept q Opc.OP_CAN_TX ST_PREEMPTED r.hseq.toNat [] (hparty ▸ hp)
  obtain ⟨c2, hk2, -⟩ := ((s.dropTx e).fail q Opc.OP_CAN_TX ST_PREEMPTED r.hseq.toNat).complete_kept r
    Opc.OP_CAN_TX_ABORT ST_OK 0 [] hp
  rw [s.doCanTxAbort_pending r hseq hf ho hs]
  refine ⟨c2, c1, (s.dropTx e).ports[p].kept.take 254, hk2.trans ?_, hop, hst, hh.trans hq, hd⟩
  rw [State.fail, hk1, List.take_succ_cons, List.take_succ_cons, List.take_succ_cons, List.take_take,
    Nat.min_eq_left (by decide)]

end

/-- Settles O48, by the three answers of OP_CAN_TX_ABORT. -/
theorem abortOfATransmit : Obligations.AbortOfATransmit := by
  intro s r hseq found hfound
  have hof : s.txOf r hseq = found := hfound.symm
  refine ⟨fun e q he ho hs => ?_, fun e he hs => ?_, fun he => ?_⟩
  · refine .intro (exec_opCanTxAbort s r hseq) ⟨?_, ?_, fun p hp => s.doCanTxAbort_kept r hseq (hof.trans he) ho hs hp⟩
    · rw [s.doCanTxAbort_pending r hseq (hof.trans he) ho hs, State.ok_can, State.fail_can]
      rfl
    · rw [s.doCanTxAbort_pending r hseq (hof.trans he) ho hs]
      exact State.ok_answers _ _ _ _
  · refine .intro (exec_opCanTxAbort s r hseq) ?_
    rw [s.doCanTxAbort_started r hseq (hof.trans he) hs]
    exact ⟨congrArg CanSt.tx (State.fail_can ..), State.fail_answers _ _ _ _ _⟩
  · refine .intro (exec_opCanTxAbort s r hseq) ?_
    rw [s.doCanTxAbort_unknown r hseq (hof.trans he)]
    exact ⟨congrArg CanSt.tx (State.fail_can ..), State.fail_answers _ _ _ _ _⟩

/-! ### The receive queue of a party's port (R321 to R323) -/

section
variable (s : State) (r : Req) (p : RxPortId)

/-- A read that has to wait stands on its port. -/
theorem State.doCanRxRead_waits {max_ min_ wait : Nat} (hp : rxPortOf r.party = some p)
    (hread : s.can.rx[p].read = none) (hmin : 1 ≤ min_) (hle : min_ ≤ max_) (hmax : max_ ≤ 64) (hw : 1 ≤ wait)
    (hw2 : wait ≤ 10000) (hfew : s.can.rx[p].queue.length - s.can.rx[p].copied < min_) :
    (s.doCanRxRead r max_ min_ wait false).can.rx[p].read =
      some { req := r, max := max_, min := min_, bufLen := r.bufLen, dueAt := s.now + wait * msec } := by
  unfold State.doCanRxRead
  rw [if_neg (by omega), if_neg (by omega), if_neg (by omega), hp]
  simp only [hread, Option.isSome_none, Bool.false_eq_true, if_false]
  have hnow : ¬(s.now + wait * msec ≤ s.now) := by
    have : 0 < wait * msec := Nat.mul_pos hw (by decide)
    omega
  unfold State.readTick
  simp only [State.modRx_rx, State.modCan_now, Nat.not_le.mpr hfew, hnow, decide_false, Bool.or_self,
    Bool.false_eq_true, if_false]

theorem State.endRead_ends : (s.endRead p).can.rx[p].read = none := by
  unfold State.endRead
  split
  · next hn => exact hn
  extract_lets x unread out s1 s2
  have h1 : s1.can.rx[p].read = none := congrArg RxPort.read (s.modRx_rx p _)
  have h2 : s2.can.rx[p].read = none := (congrArg RxPort.read (s1.modRx_rx p _)).trans h1
  clear_value s1 s2
  split
  · exact (congrArg RxPort.read (State.rx_congr (State.fail_canRx ..) p)).trans h1
  · exact (congrArg RxPort.read (State.rx_congr
      ((State.ok_canRx ..).trans (congrArg CanSt.rx (State.copyOut_can ..))) p)).trans h2

theorem State.endRead_of_read_all {q : PendingRead} (h : s.can.rx[p].read = some q)
    (hq : s.can.rx[p].queue.drop s.can.rx[p].copied = []) : Answers (s.endRead p) q.req Opc.OP_CAN_RX_READ ST_OK 0 := by
  unfold State.endRead
  split
  · next hn => exact absurd (h.symm.trans hn) (Option.some_ne_none q)
  next q' hq' =>
  obtain rfl : q = q' := Option.some.inj (h.symm.trans hq')
  extract_lets x unread out s1 s2
  have hu : unread = [] := hq
  rw [if_neg (by simp [hu])]
  exact State.ok_answers _ _ _ _

theorem State.doCanRxAck_frees (rseq : BitVec 32) (hp : rxPortOf r.party = some p) :
    Answers (s.doCanRxAck r rseq) r Opc.OP_CAN_RX_ACK ST_OK 0 ∧
      (s.doCanRxAck r rseq).can.rx[p].queue =
        s.can.rx[p].queue.filter fun e => !decide ((rseq - e.rseq).toNat < 2 ^ 31) := by
  simp only [State.doCanRxAck, hp]
  exact ⟨State.ok_answers _ _ _ _, congrArg RxPort.queue ((State.rx_congr (State.ok_canRx ..) p).trans (s.modRx_rx p _))⟩

theorem State.rxDropped_reports (hd : 0 < s.can.rx[p].dropped) (hl : s.can.rx[p].queue.length < 256) :
    (s.rxDropped p).can.rx[p].dropped = 0 ∧ Raised s (s.rxDropped p) Ev.MB_RX_DROPPED
      [.u8 (if p = 2 then 4 else p.val), .u8 s.can.rx[p].dropBus, .u32 s.can.rx[p].dropFirst.toNat,
       .u8 (min 255 s.can.rx[p].dropped), .u8 s.can.rx[p].dropReason] := by
  unfold State.rxDropped
  extract_lets x
  rw [if_pos (by simp only [x, decide_eq_true hd, decide_eq_true hl, Bool.and_self])]
  exact ⟨congrArg RxPort.dropped ((State.rx_congr (State.raise_canRx ..) p).trans (s.modRx_rx p _)),
    Raised.of_raise (State.modCan_params ..) (State.modCan_journal ..) (by simp)⟩

/-- A port with one of its filters set. -/
def RxPort.filtered (y : RxPort) (i : Fin 32) (x : CanFilter) : RxPort := { y with filters := y.filters.set i x }

theorem State.doCanFilterSet_sets (i : Fin 32) (x : CanFilter) (hp : rxPortOf r.party = some p) :
    Answers (s.doCanFilterSet r i.val x) r Opc.OP_CAN_FILTER_SET ST_OK 0 ∧
      (s.doCanFilterSet r i.val x).can.rx[p].filters[i] = x := by
  have hi : asFin 32 i.val = some i := dif_pos i.isLt
  have he : s.doCanFilterSet r i.val x = 
      (s.modCan fun c => { c with rx := updV c.rx p fun y => y.filtered i x }).ok r Opc.OP_CAN_FILTER_SET [] := by
    simp only [State.doCanFilterSet, hp, hi]
    rfl
  have hrx : (s.doCanFilterSet r i.val x).can.rx[p] = s.can.rx[p].filtered i x := by
    rw [he]
    exact (State.rx_congr (State.ok_canRx ..) p).trans (s.modRx_rx p _)
  rw [hrx]
  refine ⟨?_, Vector.getElem_set_self ..⟩
  rw [he]
  exact State.ok_answers _ _ _ _

/-! ### Status and recovery of a bus (R319) -/

variable (b : Bus)

theorem State.doCanStatus_answers : Answers (s.doCanStatus r (busNo b).val) r Opc.OP_CAN_STATUS ST_OK 0 := by
  simp only [State.doCanStatus, busOf_busNo]
  exact State.ok_answers _ _ _ _

theorem State.doCanRecover_recovers (h : (s.canCtl s.activeCore b).state = .busOff) :
    s.doCanRecover r (busNo b).val = s.modCtl s.activeCore b fun x =>
      { x with recovering := true, recover := x.recover ++ [r] } := by
  simp only [State.doCanRecover, busOf_busNo]
  rw [if_pos (by rw [h]; rfl)]

end

/-- Settles O38: a transmit by the entry it adds or ends, the others by the receive queue or the controller they
change. -/
theorem canCommandsComplete : Obligations.CanCommandsComplete := by
  intro s r b
  refine ⟨fun fmt len id sdt vcid af data href hbuf hs hn => ?_, fun index stamp delay e he hb ho hs => ?_,
    fun p max_ min_ wait hp hread hmin hle hmax hw hw2 hfew => ?_, fun p q hq => ?_, fun p rseq hp => ?_,
    fun p hd hl => ?_, fun p i bits_ id mask sdt sdtMask vcid vcidMask hp => ?_, ?_, fun h => ?_⟩
  · refine .intro (exec_opCanTx s r _ fmt len id sdt vcid af data) ?_
    rw [s.doCanTx_accepted r b href hbuf hs hn]
    refine ⟨?_, ?_⟩
    · rw [fillBuffers_length, List.length_append]
      exact Nat.zero_add _
    · obtain ⟨x, hx, hsends⟩ := fillBuffers_sends (done := []) (List.mem_append_right s.can.tx (List.mem_singleton_self _))
      exact ⟨x, hx, congrArg (·.1) hsends, congrArg (·.2.1) hsends, congrArg (·.2.2) hsends⟩
  · obtain ⟨u, hu⟩ := s.txDone_completes r b (stamp := stamp) (delay := delay) he hb ho hs
    refine .intro (exec_canTxDone s b index stamp delay) ?_
    rw [hu]
    exact ⟨State.ok_answers _ _ _ _, State.ok_result _ _ _ _⟩
  · exact .intro (exec_opCanRxRead s r max_ min_ wait false)
      (s.doCanRxRead_waits r p hp hread hmin hle hmax hw hw2 hfew)
  · refine .intro (exec_rxReadWaitExpired s p) ?_
    rw [hq]
    exact ⟨(s.until q.dueAt).endRead_ends p, ((s.until q.dueAt).endRead_keeps p).now_eq.trans (s.until_now q.dueAt),
      fun h => (s.until q.dueAt).endRead_of_read_all p hq h⟩
  · exact .intro (exec_opCanRxAck s r rseq) (s.doCanRxAck_frees r p rseq hp)
  · exact .intro (exec_rxDroppedReport s p) (s.rxDropped_reports p hd hl)
  · exact .intro (exec_opCanFilterSet s r i.val bits_ id mask sdt sdtMask vcid vcidMask)
      (s.doCanFilterSet_sets r p i _ hp)
  · exact .intro (exec_opCanStatus s r _) (s.doCanStatus_answers r b)
  · refine .intro (exec_opCanRecover s r _) ?_
    rw [s.doCanRecover_recovers r b h, State.modCtl_canCtl]
    exact ⟨rfl, rfl⟩

end Sys2Proof.Machine
end

section
/-!
A command may raise an event only after another one of the same command has taken the last place in staging (R137: at
448 records only the events that always enter are staged). Then no record of the second event is staged, although
staging would have taken it when the command began.
-/

set_option Elab.async false

namespace Sys2Proof.Machine

/-- Is it the record of an event with a code? -/
def RecBody.isEvent (code : BitVec 10) : RecBody → Bool
  | .event c _ _ => c == code
  | _ => false

/-- No record of an event is staged. -/
def State.lacksEvent (s : State) (code : BitVec 10) : Bool :=
  (s.journal.stagedPrio ++ s.journal.stagedOrd).all fun r => !r.body.isEvent code

theorem not_raised_of_lacksEvent {s t : State} {code : BitVec 10} (hs : s.takesEvent code = true)
    (ht : t.lacksEvent code = true) (items : List Item) : ¬ Raised s t code items := by
  intro h
  obtain ⟨r, hr, core, hbody⟩ := h hs
  have hno := List.all_eq_true.mp ht r hr
  rw [hbody] at hno
  simp [RecBody.isEvent] at hno

theorem Does.elim {c : Instr} {s t : State} {P : State → Prop} (h : Does c s P) (ht : exec c s = .next t) : P t := by
  obtain ⟨u, hu, hp⟩ := h
  rw [ht] at hu
  cases hu
  exact hp

theorem exec_statusReq_next (s : State) (id : BitVec 29) (data : List Byte) :
    exec (.statusReq id data) s = .next (s.statusRequest id data) := rfl

/-- Staging with one place left for an event. -/
def JournalSt.oneLeft : JournalSt := { stagedOrd := List.replicate 447 { body := .gapUnstaged 0 0 0 } }

/-! ### The fallback set (R334) -/

/-- A port whose read of one entry waits for any frame. -/
def RxPort.awaits : RxPort :=
  { filters := .replicate 32 { bits := 0xFF },
    read := some { req := { party := .p0 }, max := 64, min := 1, bufLen := 1000, dueAt := 0 } }

/-- The fallback set is on, bus D hears, staging has one place left, and the next frame ends a read of a port that does
not run: its completion goes to the lay-by, and HR_LAYBY takes the place before MB_FALLBACK_REQ. -/
def State.readWaits : State :=
  { State.reset with
    params := [(0x520, 1), (0x560, 0xFFFF)],
    can := { ctl := .replicate 2 (.replicate 2 { state := .errorActive }), rx := .replicate 3 .awaits },
    journal := .oneLeft }

theorem State.readWaits_takes : State.readWaits.takesEvent Ev.MB_FALLBACK_REQ = true := by decide +kernel

theorem State.readWaits_request :
    State.readWaits.busHears .d = true ∧ State.readWaits.power.state ≠ .sleep ∧
      State.readWaits.fallbackFor (State.readWaits.fallbackId 6) 6 1 [1] = true ∧ byteAt [1] 0 ≤ 3 := by decide +kernel

theorem State.readWaits_lacks :
    (State.readWaits.statusRequest (State.readWaits.fallbackId 6) [1]).lacksEvent Ev.MB_FALLBACK_REQ = true := by
  decide +kernel

/-- Refutes O39: STATUS_REQ for one doorway, where the frame also ends a read and so raises HR_LAYBY first. -/
theorem not_fallbackCompletes : ¬ Obligations.FallbackCompletes := by
  intro h
  obtain ⟨-, -, -, -, hreq⟩ := h State.readWaits
  obtain ⟨hears, hpower, hfor, hq⟩ := State.readWaits_request
  obtain ⟨hraised, -⟩ := (hreq _ _ hears hpower hfor hq).elim (exec_statusReq_next ..)
  exact not_raised_of_lacksEvent State.readWaits_takes State.readWaits_lacks _ hraised

end Sys2Proof.Machine
end

section
/-!
The set-up of a host port's rings (R290): a write to an enabled ring changes nothing but enable, and setting enable
resets the ring.
-/

set_option Elab.async false

namespace Sys2Proof.Machine

/-! ### The ring RING_SEL selects -/

/-- The number RING_SEL holds. -/
theorem bits_ringSel (v : BitVec 5) : bits v.toNat 0 4 = v.toNat % 16 := by simp [bits]

theorem Ring.setBase_of_enabled {r : Ring} (h : r.enabled = true) (f : BitVec 64 → BitVec 64) : r.setBase f = r :=
  if_pos h

section
variable {t : PortSt} {q : Fin 16} (hq : q.val = t.ringSel.toNat % 16)
include hq

theorem PortSt.setRingBase_of_sq (f : BitVec 64 → BitVec 64) (hs : t.ringSel.getLsbD 4 = false) :
    t.setRingBase f = { t with sq := updV t.sq q fun r => r.setBase f } := by
  unfold PortSt.setRingBase
  extract_lets sel k
  have hk : k = q := Fin.ext ((bits_ringSel _).trans hq.symm)
  rw [if_neg (by rw [hs]; exact Bool.false_ne_true), hk]

theorem PortSt.setRingBase_of_cq (f : BitVec 64 → BitVec 64) (hs : t.ringSel.getLsbD 4 = true) :
    t.setRingBase f = { t with cq := updV t.cq q fun r => r.setBase f } := by
  unfold PortSt.setRingBase
  extract_lets sel k
  have hk : k = q := Fin.ext ((bits_ringSel _).trans hq.symm)
  rw [if_pos hs, hk]

theorem PortSt.setRingBase_sq_enabled (f : BitVec 64 → BitVec 64) (hs : t.ringSel.getLsbD 4 = false)
    (he : t.sq[q].enabled = true) : (t.setRingBase f).sq[q] = t.sq[q] := by
  rw [PortSt.setRingBase_of_sq hq f hs]
  exact (updV_self ..).trans (Ring.setBase_of_enabled he f)

theorem PortSt.setRingBase_cq_enabled (f : BitVec 64 → BitVec 64) (hs : t.ringSel.getLsbD 4 = true)
    (he : t.cq[q].enabled = true) : (t.setRingBase f).cq[q] = t.cq[q] := by
  rw [PortSt.setRingBase_of_cq hq f hs]
  exact (updV_self ..).trans (Ring.setBase_of_enabled he f)

end

/-- Offsets 0x04C and 0x050 are RING_BASE, 0x028 and 0x02C EVQ_BASE (Table HR-3). -/
theorem PortSt.writeReg_ringBase {o : BitVec 12} (ho : o = 0x04C ∨ o = 0x050) (t : PortSt) (v : BitVec 32) :
    ∃ f, t.writeReg o.toNat v = t.setRingBase f := by
  obtain rfl | rfl := ho
  · exact ⟨fun b => setLo b v, rfl⟩
  · exact ⟨fun b => setHi b v, rfl⟩

theorem PortSt.writeReg_evqBase {o : BitVec 12} (ho : o = 0x028 ∨ o = 0x02C) (t : PortSt) (v : BitVec 32) :
    ∃ f, t.writeReg o.toNat v = { t with evq := t.evq.setBase f } := by
  obtain rfl | rfl := ho
  · exact ⟨fun b => setLo b v, rfl⟩
  · exact ⟨fun b => setHi b v, rfl⟩

theorem plain_of_base {o : BitVec 12} (ho : o = 0x04C ∨ o = 0x050 ∨ o = 0x028 ∨ o = 0x02C) :
    o.toNat < 0x800 ∧ o.toNat ∉ [0x008, 0x030, 0x054, 0x0C0, 0x0C8] := by
  obtain rfl | rfl | rfl | rfl := ho <;> decide

/-! ### RING_CFG and EVQ_CFG -/

theorem Ring.write_of_enabled {r : Ring} (h : r.enabled = true) (good : Bool) (v : BitVec 32) :
    r.write good v = { r with cfg := if v.getLsbD 4 then r.cfg else r.cfg &&& ~~~0x10 } := by
  unfold Ring.write
  rw [if_pos h]
  split <;> rfl

theorem Ring.enabled_of_write {r : Ring} {v : BitVec 32} (he : r.enabled = false) (hv : v.getLsbD 4 = true) :
    (r.write true v).enabled = true := by
  rw [Ring.write_starts he hv]
  exact hv

section
variable (s : State) (p : HostPort) (v : BitVec 32)

theorem State.portError_rings (b : Nat) :
    (s.portError p b).ports[hostPort p].sq = s.ports[hostPort p].sq ∧
      (s.portError p b).ports[hostPort p].cq = s.ports[hostPort p].cq ∧
      (s.portError p b).ports[hostPort p].evq = s.ports[hostPort p].evq := by
  unfold State.portError
  rw [State.modPort_port]
  exact ⟨rfl, rfl, rfl⟩

theorem State.writeRingCfg_evq :
    (s.writeRingCfg p true v).ports[hostPort p].evq =
      s.ports[hostPort p].evq.write (cfgGood false s.ports[hostPort p].evq.base v.toNat) v := by
  unfold State.writeRingCfg
  extract_lets t sel q submission old good new starts s1
  have hnew : new = t.evq.write (cfgGood false t.evq.base v.toNat) v := by
    have hgood : good = cfgGood false t.evq.base v.toNat := Bool.and_true _
    rw [← hgood]
    rfl
  have h1 : s1.ports[hostPort p].evq = new := congrArg PortSt.evq (s.modPort_port (hostPort p) _)
  clear_value s1
  split
  · exact (s1.portError_rings p 4).2.2.trans (h1.trans hnew)
  · exact h1.trans hnew

variable {q : Fin 16} (hq : q.val = s.ports[hostPort p].ringSel.toNat % 16)
include hq

theorem State.writeRingCfg_sq (hs : s.ports[hostPort p].ringSel.getLsbD 4 = false) :
    (s.writeRingCfg p false v).ports[hostPort p].sq[q] = s.ports[hostPort p].sq[q].write
      (cfgGood true s.ports[hostPort p].sq[q].base v.toNat && s.ports[hostPort p].cq[(0 : Fin 16)].enabled) v := by
  unfold State.writeRingCfg
  extract_lets t sel k submission old good new starts s1
  have hk : k = q := Fin.ext ((bits_ringSel _).trans hq.symm)
  have hsub : submission = true := by
    show (!false && !s.ports[hostPort p].ringSel.getLsbD 4) = true
    rw [hs]
    rfl
  have hnew : new = t.sq[q].write (cfgGood true t.sq[q].base v.toNat && t.cq[(0 : Fin 16)].enabled) v := by
    simp only [new, good, old, hsub, hk, Bool.false_eq_true, if_false, if_true, Bool.not_true, Bool.false_or]
  have h1 : s1.ports[hostPort p].sq = t.sq.set q new := by
    simp only [s1, State.modPort_port, Bool.false_eq_true, if_false, hsub, if_true, hk]
    rfl
  clear_value s1
  have h2 : (if (!old.enabled && v.getLsbD 4 && !good) = true then s1.portError p 4 else s1).ports[hostPort p].sq =
      t.sq.set q new := by
    split
    · exact (s1.portError_rings p 4).1.trans h1
    · exact h1
  rw [← hnew]
  exact (congrArg (fun v : Vector Ring 16 => v[q]) h2).trans (Vector.getElem_set_self ..)

theorem State.writeRingCfg_cq (hs : s.ports[hostPort p].ringSel.getLsbD 4 = true) :
    (s.writeRingCfg p false v).ports[hostPort p].cq[q] = s.ports[hostPort p].cq[q].write
      (cfgGood false s.ports[hostPort p].cq[q].base v.toNat) v := by
  unfold State.writeRingCfg
  extract_lets t sel k submission old good new starts s1
  have hk : k = q := Fin.ext ((bits_ringSel _).trans hq.symm)
  have hsub : submission = false := by
    show (!false && !s.ports[hostPort p].ringSel.getLsbD 4) = false
    rw [hs]
    rfl
  have hnew : new = t.cq[q].write (cfgGood false t.cq[q].base v.toNat) v := by
    simp only [new, good, old, hsub, hk, Bool.false_eq_true, if_false, Bool.not_false, Bool.true_or, Bool.and_true]
  have h1 : s1.ports[hostPort p].cq = t.cq.set q new := by
    simp only [s1, State.modPort_port, Bool.false_eq_true, if_false, hsub, hk]
    rfl
  clear_value s1
  have h2 : (if (!old.enabled && v.getLsbD 4 && !good) = true then s1.portError p 4 else s1).ports[hostPort p].cq =
      t.cq.set q new := by
    split
    · exact (s1.portError_rings p 4).2.1.trans h1
    · exact h1
  rw [← hnew]
  exact (congrArg (fun v : Vector Ring 16 => v[q]) h2).trans (Vector.getElem_set_self ..)

end

theorem exec_ringCfgWrite_active (s : State) (p : HostPort) (evq : Bool) (v : BitVec 32) :
    exec (.ringCfgWrite p s.activeCore evq v) s = .next (s.writeRingCfg p evq v) := by
  rw [exec_ringCfgWrite, execRingCfgWrite, State.setUpWrite_active]

/-- Settles O51: what a write makes of the ring it reaches. -/
theorem ringsKeepTheirSetUp : Obligations.RingsKeepTheirSetUp := by
  intro s p v q hq
  have hcfg := exec_ringCfgWrite_active s p
  refine ⟨fun o ho => ⟨fun hs he => ?_, fun hs he => ?_⟩, fun o ho he => ?_, fun hs he => ?_, fun hs he => ?_, fun he => ?_,
    fun hv => ⟨fun hs he hc hg => ?_, fun hs he hg => ?_, fun he hg => ?_⟩⟩
  · obtain ⟨hlt, hn⟩ := plain_of_base (ho.imp_right Or.inl)
    obtain ⟨f, hf⟩ := PortSt.writeReg_ringBase ho s.ports[hostPort p] v
    refine .intro (exec_registerWrite_plain s p v hlt hn) ?_
    rw [State.modPort_port, hf, PortSt.setRingBase_sq_enabled hq f hs he]
  · obtain ⟨hlt, hn⟩ := plain_of_base (ho.imp_right Or.inl)
    obtain ⟨f, hf⟩ := PortSt.writeReg_ringBase ho s.ports[hostPort p] v
    refine .intro (exec_registerWrite_plain s p v hlt hn) ?_
    rw [State.modPort_port, hf, PortSt.setRingBase_cq_enabled hq f hs he]
  · obtain ⟨hlt, hn⟩ := plain_of_base (.inr (.inr ho))
    obtain ⟨f, hf⟩ := PortSt.writeReg_evqBase ho s.ports[hostPort p] v
    refine .intro (exec_registerWrite_plain s p v hlt hn) ?_
    rw [State.modPort_port, hf]
    exact Ring.setBase_of_enabled he f
  · exact .intro (hcfg false v) ((s.writeRingCfg_sq p v hq hs).trans (Ring.write_of_enabled he ..))
  · exact .intro (hcfg false v) ((s.writeRingCfg_cq p v hq hs).trans (Ring.write_of_enabled he ..))
  · exact .intro (hcfg true v) ((s.writeRingCfg_evq p v).trans (Ring.write_of_enabled he ..))
  · refine .intro (hcfg false v) ?_
    rw [s.writeRingCfg_sq p v hq hs, hg, hc, Bool.and_self]
    refine ⟨Ring.enabled_of_write he hv, ?_⟩
    rw [Ring.write_starts he hv]
    exact ⟨rfl, rfl⟩
  · refine .intro (hcfg false v) ?_
    rw [s.writeRingCfg_cq p v hq hs, hg]
    refine ⟨Ring.enabled_of_write he hv, ?_⟩
    rw [Ring.write_starts he hv]
    exact ⟨rfl, rfl, rfl⟩
  · refine .intro (hcfg true v) ?_
    rw [s.writeRingCfg_evq p v, hg]
    refine ⟨Ring.enabled_of_write he hv, ?_⟩
    rw [Ring.write_starts he hv]
    exact ⟨rfl, rfl, rfl⟩

end Sys2Proof.Machine
end

section
/-!
What events and completions leave of a port (R300 to R304): its submission rings, its links, its supply, and what was
last copied into a host buffer.
-/

set_option Elab.async false

namespace Sys2Proof.Machine

/-- A port but for its completion and event rings, their entries and what waits for them. -/
def PortSt.setUp (t : PortSt) : PortSt :=
  { t with evq := {}, evqEntries := [], statusWrites := 0, laybyEv := [], evDropped := 0, dropRun := 0, dropFirst := 0,
           dseqNext := 0, cq := .replicate 16 {}, cqEntries := .replicate 16 [], laybyCq := [], laybyReserved := 0,
           laybyRaised := 0, kept := [], fetchStopped := false }

theorem PortSt.setUp_apart (t : PortSt) : t.apart.setUp = t.setUp := rfl

theorem PortSt.setUp_kept (t : PortSt) (n : BitVec 32) (l : List Completion) :
    PortSt.setUp { t with dseqNext := n, kept := l } = t.setUp := rfl

theorem PortSt.deliver_setUp (t : PortSt) (own : Bool) (now : Nat) (c : Completion) :
    (t.deliver own now c).setUp = t.setUp := by
  unfold PortSt.deliver PortSt.unreserve
  dsimp only
  split
  · split <;> rfl
  · split <;> rfl

/-- From `s` to `t` every port stands, but for its completions and its events. -/
structure SameSetUp (s t : State) : Prop where
  get : ∀ p : PortId, t.ports[p].setUp = s.ports[p].setUp

namespace SameSetUp

variable {s t u : State}

theorem refl : SameSetUp s s := ⟨fun _ => rfl⟩

theorem trans (h : SameSetUp s t) (g : SameSetUp t u) : SameSetUp s u := ⟨fun p => (g.get p).trans (h.get p)⟩

theorem of_ports (h : t.ports = s.ports) : SameSetUp s t := ⟨fun p => by rw [h]⟩

theorem of_keeps {m : Nat} (h : KM m s t) (b : m.testBit 25 = false := by decide) : SameSetUp s t :=
  of_ports (h.ports_eq b)

theorem of_apart (h : SameApart s t) : SameSetUp s t :=
  ⟨fun p => by rw [← PortSt.setUp_apart, h.get p, PortSt.setUp_apart]⟩

theorem each {α : Type} (f : State → α → State) (hf : ∀ t a, SameSetUp t (f t a)) (l : List α) (s : State) :
    SameSetUp s (s.each l f) := by
  unfold State.each
  induction l generalizing s with
  | nil => exact refl
  | cons a l ih => exact (hf s a).trans (ih (f s a))

variable (s)

theorem modPort (p : PortId) (f : PortSt → PortSt) (hf : ∀ t, (f t).setUp = t.setUp) : SameSetUp s (s.modPort p f) := by
  refine ⟨fun k => ?_⟩
  rw [State.modPort_ports]
  by_cases hk : p = k
  · rw [hk, updV_self, hf]
  · rw [updV_other _ _ _ _ hk]

theorem raise (code : BitVec 10) (items : List Item) : SameSetUp s (s.raise code items) :=
  of_apart (SameApart.raise s code items)

theorem noteLayby (p : PortId) : SameSetUp s (s.noteLayby p) := by
  unfold State.noteLayby
  extract_lets t v
  split
  · exact refl
  · have h1 : SameSetUp s (s.modPort p fun t => { t with laybyRaised := v }) := modPort s p _ fun _ => rfl
    exact h1.trans (raise ..)

theorem emit (p : PortId) (c : Completion) : SameSetUp s (s.emit p c) := by
  unfold State.emit
  extract_lets t c' s1
  have h1 : SameSetUp s s1 := by
    refine modPort s p _ fun u => ?_
    exact u.setUp_kept ..
  split
  · exact h1.trans (of_ports (State.modPair_ports ..))
  · exact (h1.trans (modPort _ _ _ fun _ => PortSt.deliver_setUp ..)).trans (noteLayby ..)

theorem complete (r : Req) (oc : BitVec 15) (st : Byte) (d : Nat) (res : List Byte) :
    SameSetUp s (s.complete r oc st d res) := by
  unfold State.complete
  split
  · exact refl
  · exact emit ..

theorem completeAll (rs : List Req) (oc : BitVec 15) (st : Byte) (d : Nat) (res : List Byte) :
    SameSetUp s (s.completeAll rs oc st d res) := each _ (fun t r => complete t r oc st d res) rs s

/-! ### Operations of other chapters that only complete and raise -/

theorem judgeTiers (cause : Nat) : SameSetUp s (s.judgeTiers cause) := by
  have hframe : ∀ (u : State) (f : FrameSt), SameSetUp u { u with frame := f } := fun _ _ => of_ports rfl
  unfold State.judgeTiers
  extract_lets one s1 new old
  have hone : ∀ (u : State) (d : Doorway), SameSetUp u (one u d) := by
    intro u d
    unfold one
    extract_lets new old
    split
    · exact refl
    · exact (hframe u _).trans (raise ..)
  have h1 : SameSetUp s s1 := (hone s 0).trans (hone _ 1)
  clear_value s1
  split
  · exact h1
  · exact (h1.trans (hframe s1 _)).trans (raise ..)

theorem makeUncertain (a : Axis) (cause : Nat) : SameSetUp s (s.makeUncertain a cause) := by
  unfold State.makeUncertain
  split
  · exact refl
  · exact (of_ports (State.modAxis_ports ..)).trans (raise ..)

theorem endAxisCmd (a : Axis) (st : Byte) (d : Nat) (res : List Byte) : SameSetUp s (s.endAxisCmd a st d res) := by
  unfold State.endAxisCmd
  split
  · exact refl
  · exact (of_ports (State.modAxis_ports ..)).trans (completeAll ..)

theorem refFail (a : Axis) (reason : Nat) : SameSetUp s (s.refFail a reason) := by
  unfold State.refFail
  split
  · exact refl
  · extract_lets s1 s2 s3
    have h1 : SameSetUp s s1 :=
      (of_ports ((State.modAxMod_ports ..).trans (State.modAxis_ports ..))).trans (raise ..)
    have h2 : SameSetUp s s2 := by
      unfold s2
      split
      · exact h1
      · exact h1.trans (makeUncertain ..)
    have h3 : SameSetUp s s3 := h2.trans (endAxisCmd ..)
    clear_value s3
    split
    · split
      · extract_lets s4
        have h4 : SameSetUp s s4 := by
          unfold s4
          split
          · exact h3.trans (completeAll ..)
          · exact h3
        exact h4.trans (of_ports (State.modDoor_ports ..))
      · exact h3
    · exact h3

theorem setOwner (r : Resource) (p : Option Party) (reason : Nat) : SameSetUp s (s.setOwner r p reason) := by
  unfold State.setOwner
  extract_lets old rest doors s1 s2
  have h1 : SameSetUp s s1 := of_ports rfl
  have h2 : SameSetUp s s2 := by
    unfold s2
    split
    · split
      · exact h1.trans (of_ports (State.modDoor_ports ..))
      · exact h1
    · exact h1
  clear_value s2
  split
  · exact refl
  · exact h2.trans (raise ..)

theorem loseClaims (p : Party) (reason : Nat) : SameSetUp s (s.loseClaims p reason) := by
  refine (each _ (fun t r => (setOwner t r none reason).trans (of_keeps (State.dropCursor_keeps ..))) _ s).trans
    (each _ (fun t a => ?_) _ _)
  split
  · split
    · exact (of_keeps (t.rampStop_keeps a)).trans (refFail _ a 4)
    · exact refl
  · exact refl

end SameSetUp

theorem State.ok_lastBuf (s : State) (r : Req) (oc : BitVec 15) (res : List Byte) (p : PortId) :
    (s.ok r oc res).ports[p].lastBuf = s.ports[p].lastBuf :=
  (congrArg PortSt.lastBuf ((SameSetUp.complete s r oc ST_OK 0 res).get p) :)

/-! ### The general opcodes (R303, R307) -/

section
variable (s : State) (r : Req) {p : PortId} (hp : portOf r.party = some p)

theorem State.doHeartbeat_beats (h : r.party = .p2) : (s.doHeartbeat r).can.p2Beat = s.now := by
  unfold State.doHeartbeat
  rw [if_pos h, State.ok_can]
  rfl

theorem min?_of_eq_nil {l : List Nat} (h : l = []) : l.min? = none := by
  rw [h]
  rfl

theorem State.takeSet_sets (oc : BitVec 15) (ps : List (Nat × Nat)) :
    Answers (s.takeSet r oc ps) r oc ST_OK 0 ∧ (s.takeSet r oc ps).params = ps ∧
      (s.takeSet r oc ps).paramsValid = .replicate 2 true := by
  unfold State.takeSet
  exact ⟨State.ok_answers _ _ _ _, State.ok_params .., State.ok_paramsValid ..⟩

theorem State.doParamWrite_of_good {es : List (Nat × Nat)} (hne : es ≠ []) (hlen : es.length ≤ 5)
    (ho : s.notOwner r .paramSet = false) (hbad : badEntries es = [])
    (hset : s.checkSet (es.foldl (fun l e => paramPut l e.1 e.2) s.params) = none) :
    s.doParamWrite r es = s.takeSet r Opc.OP_PARAM_WRITE (es.foldl (fun l e => paramPut l e.1 e.2) s.params) := by
  have hcount : ¬(es.isEmpty = true ∨ 5 < es.length) := by
    rw [List.isEmpty_iff, not_or]
    exact ⟨hne, by omega⟩
  simp only [State.doParamWrite, if_neg hcount, ho, Bool.false_eq_true, if_false, min?_of_eq_nil hbad, hset]

theorem State.doParamSetLoad_of_good {bs : List Byte} (hlen : r.bufLen = 6148) (hbuf : r.buf = some bs)
    (ho : s.notOwner r .paramSet = false) (hcrc : (crc32 (slice bs 0 6144)).toNat = u32At bs 6144)
    (hset : s.checkSet (paramsFrom 0 ((List.range paramCount).map fun i => u32At bs (4 * i))) = none) :
    s.doParamSetLoad r = s.takeSet r Opc.OP_PARAM_SET_LOAD
      (paramsFrom 0 ((List.range paramCount).map fun i => u32At bs (4 * i))) := by
  simp only [State.doParamSetLoad, hlen, hbuf, ho, hcrc, hset, ne_eq, not_true_eq_false, Bool.false_eq_true, if_false]

include hp

theorem State.doReplay_of_open (first : BitVec 32) {count : Nat} (h1 : 1 ≤ count) (h2 : count ≤ 256)
    (ho : ownRings p = true ∨ s.ports[p].cq[(0 : Fin 16)].enabled = true) :
    Answers (s.doReplay r first count 0) r Opc.OP_COMPLETION_REPLAY ST_OK 0 := by
  have hcount : ¬(count = 0 ∨ 256 < count) := by omega
  have hring : (ownRings p && (0 : Fin 16) != 0 || !ownRings p && !s.ports[p].cq[(0 : Fin 16)].enabled) = false := by
    rcases ho with ho | ho
    · simp [ho]
    · rw [ho]
      simp
  simp only [State.doReplay, if_neg hcount, show asFin 16 0 = some 0 from rfl, hp, hring, Bool.false_eq_true, if_false]
  exact State.ok_answers _ _ _ _

/-- Data copied into the buffer of a request stands in its port once the request is complete. -/
theorem State.copyOut_ok_lastBuf (bs : List Byte) (oc : BitVec 15) (res : List Byte) :
    ((s.copyOut r bs).ok r oc res).ports[p].lastBuf = bs := by
  rw [State.ok_lastBuf]
  unfold State.copyOut
  rw [hp]
  exact congrArg PortSt.lastBuf (s.modPort_port p _)

theorem State.doParamRead_of_good {first count : Nat} (h1 : 1 ≤ count) (h2 : first + count ≤ paramCount)
    (hlen : r.bufLen = 4 * count) :
    Answers (s.doParamRead r first count) r Opc.OP_PARAM_READ ST_OK 0 ∧
      (s.doParamRead r first count).ports[p].lastBuf =
        (List.range count).flatMap fun i => leBytes 4 (s.param (first + i)) := by
  unfold State.doParamRead
  rw [if_neg (by omega), if_neg (by omega), if_neg (by omega)]
  exact ⟨State.ok_answers _ _ _ _, s.copyOut_ok_lastBuf r hp _ _ _⟩

theorem State.doParamSetRead_of_good (hlen : r.bufLen = 6148) :
    Answers (s.doParamSetRead r) r Opc.OP_PARAM_SET_READ ST_OK 0 ∧
      (s.doParamSetRead r).ports[p].lastBuf = s.setBytes ++ leBytes 4 (crc32 s.setBytes).toNat := by
  unfold State.doParamSetRead
  rw [if_neg (by omega)]
  exact ⟨State.ok_answers _ _ _ _, s.copyOut_ok_lastBuf r hp _ _ _⟩

end

/-- Settles O36: each opcode by its checks, and the parameters by the set that is taken. -/
theorem hostCommandsComplete : Obligations.HostCommandsComplete := by
  intro s r p hp
  refine ⟨?_, ?_, fun first count h1 h2 => ?_, fun first count h1 h2 hlen => ?_, fun es hne hlen ho hbad hset => ?_,
    fun bs hlen hbuf ho hcrc hset => ?_, fun hlen => ?_, ?_⟩
  · exact .intro (exec_opNop s r) (State.ok_answers _ _ _ _)
  · exact .intro (exec_opHeartbeat s r) ⟨State.ok_answers _ _ _ _, s.doHeartbeat_beats r⟩
  · exact .intro (exec_opCompletionReplay s r first count 0) (s.doReplay_of_open r hp first h1 h2)
  · exact .intro (exec_opParamRead s r first count) (s.doParamRead_of_good r hp h1 h2 hlen)
  · refine .intro (exec_opParamWrite s r es) ?_
    rw [s.doParamWrite_of_good r hne hlen ho hbad hset]
    exact s.takeSet_sets r _ _
  · refine .intro (exec_opParamSetLoad s r) ?_
    rw [s.doParamSetLoad_of_good r hlen hbuf ho hcrc hset]
    obtain ⟨hans, hparams, -⟩ := s.takeSet_sets r Opc.OP_PARAM_SET_LOAD
      (paramsFrom 0 ((List.range paramCount).map fun i => u32At bs (4 * i)))
    exact ⟨hans, hparams⟩
  · exact .intro (exec_opParamSetRead s r) (s.doParamSetRead_of_good r hp hlen)
  · exact .intro (exec_opIoRead s r) ⟨State.ok_answers _ _ _ _, State.ok_result _ _ _ _⟩

end Sys2Proof.Machine
end

section
/-!
Fetching from a host port, its lay-by and its rail (R287, R298, R300 to R304).
-/

set_option Elab.async false

namespace Sys2Proof.Machine

/-! ### What the checks at fetch read (R298) -/

/-- What the checks at fetch read of a port, and what places its request in a ring. -/
def PortSt.fetchView (t : PortSt) : Vector Ring 16 × Vector Ring 16 × Bool × List (BitVec 32) × BitVec 32 :=
  (t.sq, t.cq, t.hseqAny, t.hseqSeen, t.hseqConsumed)

theorem PortSt.fetchView_apart (t : PortSt) : t.apart.fetchView = t.fetchView := rfl

theorem State.raise_fetchView (s : State) (code : BitVec 10) (items : List Item) (p : PortId) :
    (s.raise code items).ports[p].fetchView = s.ports[p].fetchView := by
  rw [← PortSt.fetchView_apart, (SameApart.raise s code items).get p, PortSt.fetchView_apart]

theorem State.noteLayby_fetchView (s : State) (p : PortId) :
    (s.noteLayby p).ports[p].fetchView = s.ports[p].fetchView := by
  unfold State.noteLayby
  extract_lets t v
  split
  · rfl
  · rw [State.raise_fetchView, State.modPort_port]
    rfl

theorem State.stopFetching_fetchView (s : State) (p : PortId) (stop : Bool) :
    (s.stopFetching p stop).ports[p].fetchView = s.ports[p].fetchView := by
  unfold State.stopFetching
  rw [State.noteLayby_fetchView, State.modPort_port]
  rfl

theorem PortSt.duplicate_congr {t u : PortSt} (ha : u.hseqAny = t.hseqAny) (hs : u.hseqSeen = t.hseqSeen)
    (hc : u.hseqConsumed = t.hseqConsumed) (h : BitVec 32) : u.duplicate h = t.duplicate h := by
  unfold PortSt.duplicate
  rw [ha, hs, hc]

section
variable {s t : State} (hp : t.params = s.params)
include hp

theorem State.param_congr (i : Nat) : t.param i = s.param i := by
  unfold State.param
  rw [hp]

theorem State.axisArg_congr (a : Nat) : t.axisArg a = s.axisArg a := by
  have h : t.param = s.param := funext (State.param_congr hp)
  unfold State.axisArg State.axisOfLane State.twin
  rw [h]

theorem State.rangeBad_congr (p : PortId) (b : List Byte) (op : Op) : t.rangeBad p b op = s.rangeBad p b op := by
  unfold State.rangeBad State.doorArg
  simp only [State.param_congr hp, State.axisArg_congr hp]

theorem State.fetchRefusal_congr {p : PortId} (hu : t.update = s.update) (hc : t.pair.core = s.pair.core)
    (hcq : t.ports[p].cq = s.ports[p].cq) (ha : t.ports[p].hseqAny = s.ports[p].hseqAny)
    (hs : t.ports[p].hseqSeen = s.ports[p].hseqSeen) (hh : t.ports[p].hseqConsumed = s.ports[p].hseqConsumed)
    (core : CoreId) (b : List Byte) : t.fetchRefusal p core b = s.fetchRefusal p core b := by
  unfold State.fetchRefusal
  simp only [hu, State.activeCore_of_core hc, hcq, PortSt.duplicate_congr ha hs hh, State.rangeBad_congr hp]

end

theorem State.reqOf_congr {s t : State} {p : PortId} (hcq : t.ports[p].cq = s.ports[p].cq) (q : Fin 16) (core : CoreId)
    (b : List Byte) (buf : Option (List Byte)) (stamp : Option (BitVec 48)) :
    t.reqOf p q core b buf stamp = s.reqOf p q core b buf stamp := by
  unfold State.reqOf PortSt.ringFor
  simp only [hcq]

/-! ### Fetching (R298, R300) -/

section
variable (s : State)

/-- A submission ring with its head moved on by one. -/
def Ring.fetched (r : Ring) : Ring := { r with dev := (r.dev + 1) % r.size }

/-- The state in which a descriptor of a host port's ring is taken. -/
def State.fetched (s : State) (p : HostPort) (q : Fin 16) : State :=
  ((s.stopFetching (hostPort p) false).countFetch (hostPort p)).modPort (hostPort p) fun t =>
    { t with rotate := q.val, sq := updV t.sq q Ring.fetched }

theorem State.fetched_fetchView (p : HostPort) (q : Fin 16) :
    (s.fetched p q).ports[hostPort p].fetchView =
      (updV s.ports[hostPort p].sq q Ring.fetched, s.ports[hostPort p].fetchView.2) := by
  have h := s.stopFetching_fetchView (hostPort p) false
  unfold State.fetched
  rw [State.modPort_port, ← h]
  exact Prod.ext (congrArg (fun v => updV v q Ring.fetched) (congrArg Prod.fst h)) rfl

theorem State.fetched_outputs (p : HostPort) (q : Fin 16) :
    (s.fetched p q).params = s.params ∧ (s.fetched p q).update = s.update ∧
      (s.fetched p q).pair.core = s.pair.core := by
  have h0 : s.OutputsOnly (s.modPort (hostPort p) fun t => { t with fetchStopped := false }) :=
    s.modPort_outputs _ _ (fun _ => rfl) fun _ => rfl
  have h : s.OutputsOnly (s.stopFetching (hostPort p) false) := h0.trans (State.noteLayby_outputs ..)
  exact ⟨h.params, h.update, h.pairCore⟩

theorem State.fetched_fetchRefusal (p : HostPort) (q : Fin 16) (core : CoreId) (b : List Byte) :
    (s.fetched p q).fetchRefusal (hostPort p) core b = s.fetchRefusal (hostPort p) core b := by
  obtain ⟨hp, hu, hc⟩ := s.fetched_outputs p q
  have hv := congrArg Prod.snd (s.fetched_fetchView p q)
  exact State.fetchRefusal_congr hp hu hc (congrArg (·.1) hv) (congrArg (·.2.1) hv) (congrArg (·.2.2.1) hv)
    (congrArg (·.2.2.2) hv) core b

theorem State.fetched_reqOf (p : HostPort) (q k : Fin 16) (core : CoreId) (b : List Byte) (buf : Option (List Byte))
    (stamp : Option (BitVec 48)) :
    (s.fetched p q).reqOf (hostPort p) k core b buf stamp = s.reqOf (hostPort p) k core b buf stamp :=
  State.reqOf_congr (congrArg (·.2.1) (s.fetched_fetchView p q)) ..

theorem State.hostFetch_of_free {p : HostPort} {q : Fin 16} {b : List Byte} (buf : Option (List Byte))
    (hrun : s.ports[hostPort p].running = true) (hnext : s.ports[hostPort p].nextRing = some q)
    (hfree : s.slotFree (hostPort p) = true)
    (hroom : s.ports[hostPort p].canReserve false (s.ports[hostPort p].ringFor false b) = true) :
    s.hostFetch (hostPort p) q (some b) buf =
      (s.fetched p q).takeDescriptor (hostPort p) q s.activeCore b buf none := by
  unfold State.hostFetch
  extract_lets t
  have ht : (!t.running || t.nextRing != some q || !s.slotFree (hostPort p)) = false := by
    simp [t, -Fin.getElem_fin, hrun, hnext, hfree]
  rw [if_neg (by rw [ht]; exact Bool.false_ne_true)]
  exact if_neg (by simp [t, -Fin.getElem_fin, hroom])

/-- A fetch by a port of the host is its own. -/
theorem exec_descriptorFetch_host (p : HostPort) (q : Fin 16) (desc buf : Option (List Byte))
    (hc : s.coreReads = true) :
    exec (.descriptorFetch (hostPort p) q desc buf) s = .next (s.hostFetch (hostPort p) q desc buf) := by
  have h2 : (hostPort p == 2) = false := by revert p; decide
  have h3 : (hostPort p == 3) = false := by revert p; decide
  rw [exec_descriptorFetch, execDescriptorFetch]
  simp only [hc, h2, h3, Bool.not_true, Bool.false_eq_true, if_false]

/-- A port with a place taken and the sequence number consumed for a descriptor. -/
def PortSt.taken (t : PortSt) (own dup : Bool) (q : Fin 16) (b : List Byte) : PortSt :=
  let u := t.reserve own (t.ringFor own b)
  let v := if dup then u else u.consume (BitVec.ofNat 32 (u32At b 4))
  { v with sqLastHseq := updV v.sqLastHseq q fun _ => BitVec.ofNat 32 (u32At b 4), statusWrites := 1 }

theorem PortSt.taken_sq (t : PortSt) (own dup : Bool) (q : Fin 16) (b : List Byte) : (t.taken own dup q b).sq = t.sq := by
  have hr : (t.reserve own (t.ringFor own b)).sq = t.sq := by
    unfold PortSt.reserve
    split <;> rfl
  cases dup
  · exact hr
  · exact hr

/-- The state in which a fetched descriptor is completed or passed on. -/
def State.taken (s : State) (p : PortId) (q : Fin 16) (b : List Byte) (dup : Bool) : State :=
  s.modPort p fun t => t.taken (ownRings p) dup q b

theorem State.taken_sq (p : PortId) (q : Fin 16) (b : List Byte) (dup : Bool) :
    (s.taken p q b dup).ports[p].sq = s.ports[p].sq := by
  unfold State.taken
  rw [State.modPort_port, PortSt.taken_sq]

theorem State.complete_sq (r : Req) (oc : BitVec 15) (st : Byte) (d : Nat) (res : List Byte) (p : PortId) :
    (s.complete r oc st d res).ports[p].sq = s.ports[p].sq :=
  (congrArg PortSt.sq ((SameSetUp.complete s r oc st d res).get p) :)

variable (p : PortId) (q : Fin 16) (core : CoreId) (b : List Byte) (buf : Option (List Byte)) (stamp : Option (BitVec 48))

theorem State.takeDescriptor_of_refusal {st : Byte} {detail : Nat} (h : s.fetchRefusal p core b = some (st, detail)) :
    s.takeDescriptor p q core b buf stamp =
      if st == ST_DUPLICATE then
        ((s.taken p q b (st == ST_DUPLICATE)).fail (s.reqOf p q core b buf stamp) (BitVec.ofNat 15 (dOpcode b)) st
          detail).raise Ev.HR_DUPLICATE [.u8 (portNum p), .u32 (BitVec.ofNat 32 (u32At b 4) : BitVec 32).toNat]
      else (s.taken p q b (st == ST_DUPLICATE)).fail (s.reqOf p q core b buf stamp) (BitVec.ofNat 15 (dOpcode b)) st
        detail := by
  unfold State.takeDescriptor
  extract_lets own hseq refusal dup r s1
  have hr : refusal = some (st, detail) := h
  have hd : dup = (st == ST_DUPLICATE) := by
    unfold dup
    rw [hr, Option.any_some]
  clear_value dup refusal
  have hs : s1 = s.taken p q b dup := rfl
  clear_value s1
  subst hs hd hr
  rfl

theorem State.passOn_nop (r : Req) (hat : bit (byteAt b 2) 2 = false) (hlock : bit (byteAt b 2) 3 = false) :
    s.passOn p r .nop b = s.ok r Opc.OP_NOP [] := by
  have hres : opResolved .nop = false := rfl
  have hrun : s.runOp r .nop = s.ok r Opc.OP_NOP [] := rfl
  simp only [State.passOn, hat, hlock, hres, hrun, Bool.or_self, Bool.false_eq_true, if_false]

theorem State.takeDescriptor_of_nop (h : s.fetchRefusal p core b = none) (hop : opOf b = some .nop)
    (hat : bit (byteAt b 2) 2 = false) (hlock : bit (byteAt b 2) 3 = false) :
    s.takeDescriptor p q core b buf stamp =
      (s.taken p q b false).ok (s.reqOf p q core b buf stamp) Opc.OP_NOP [] := by
  unfold State.takeDescriptor
  extract_lets own hseq refusal dup r s1
  have hr : refusal = none := h
  have hd : dup = false := by
    unfold dup
    rw [hr, Option.any_none]
  clear_value dup refusal
  have hs : s1 = s.taken p q b dup := rfl
  clear_value s1
  subst hs hd hr
  simp only [hop]
  exact State.passOn_nop _ p b r hat hlock

theorem State.takeDescriptor_refused {st : Byte} {detail : Nat} (h : s.fetchRefusal p core b = some (st, detail)) :
    (s.takeDescriptor p q core b buf stamp).ports[p].sq = s.ports[p].sq ∧
      Answers (s.takeDescriptor p q core b buf stamp) (s.reqOf p q core b buf stamp) (BitVec.ofNat 15 (dOpcode b)) st
        detail := by
  rw [s.takeDescriptor_of_refusal p q core b buf stamp h]
  split
  · refine ⟨?_, (State.fail_answers _ _ _ _ _ : Answers _ _ _ _ _).raise _ _⟩
    rw [State.raise_sq, State.fail, State.complete_sq, State.taken_sq]
  · refine ⟨?_, State.fail_answers _ _ _ _ _⟩
    rw [State.fail, State.complete_sq, State.taken_sq]

theorem State.takeDescriptor_nop (h : s.fetchRefusal p core b = none) (hop : opOf b = some .nop)
    (hat : bit (byteAt b 2) 2 = false) (hlock : bit (byteAt b 2) 3 = false) :
    (s.takeDescriptor p q core b buf stamp).ports[p].sq = s.ports[p].sq ∧
      Answers (s.takeDescriptor p q core b buf stamp) (s.reqOf p q core b buf stamp) Opc.OP_NOP ST_OK 0 := by
  rw [s.takeDescriptor_of_nop p q core b buf stamp h hop hat hlock]
  refine ⟨?_, State.ok_answers _ _ _ _⟩
  rw [State.ok, State.complete_sq, State.taken_sq]

end

/-! ### The lay-by (R304) -/

theorem PortSt.drainEv_laybyCq (own : Bool) (now : Nat) : ∀ (es : List Event) (t : PortSt),
    (PortSt.drainEv own now es t).laybyCq = t.laybyCq
  | [], _ => rfl
  | e :: es, t => by
    unfold PortSt.drainEv
    split
    · exact PortSt.drainEv_laybyCq own now es _
    · rfl

theorem PortSt.drainCq_single {own : Bool} {now : Nat} {c : Completion} {q : Fin 16} {t : PortSt} (hq : c.cq.toNat = q.val)
    (hroom : 0 < t.cqRoom own q) : (PortSt.drainCq own now [c] [] t).laybyCq = [] := by
  unfold PortSt.drainCq
  extract_lets k
  have hk : k = q := Fin.ext hq
  rw [if_pos (by simp [hk, hroom])]
  rfl

theorem State.noteLayby_laybyCq (s : State) (p : PortId) : (s.noteLayby p).ports[p].laybyCq = s.ports[p].laybyCq := by
  unfold State.noteLayby
  extract_lets t v
  split
  · rfl
  · have h := (SameApart.raise (s.modPort p fun t => { t with laybyRaised := v }) Ev.HR_LAYBY
      [.u8 (portNum p), .u8 v]).get p
    rw [State.modPort_port] at h
    exact (congrArg PortSt.laybyCq h :)

theorem State.drainLayby_single (s : State) {p : PortId} {c : Completion} {q : Fin 16}
    (hrun : s.ports[p].running = true) (hone : s.ports[p].laybyCq = [c]) (hq : c.cq.toNat = q.val)
    (hroom : 0 < s.ports[p].cqRoom (ownRings p) q) : (s.drainLayby p).ports[p].laybyCq = [] := by
  unfold State.drainLayby
  extract_lets own t s1
  rw [if_neg (by simp [t, -Fin.getElem_fin, hrun]), State.noteLayby_laybyCq]
  unfold s1
  rw [State.modPort_port, hone]
  exact (PortSt.drainEv_laybyCq ..).trans (PortSt.drainCq_single hq hroom)

/-! ### Dropped events (R302) and the host rail (R287) -/

theorem State.reportDropped_raises (s : State) {p : PortId} (hrun : s.ports[p].running = true)
    (hrun0 : 0 < s.ports[p].dropRun) (hroom : 0 < s.ports[p].evRoom (ownRings p)) (hnone : s.ports[p].laybyEv = []) :
    Raised s (s.reportDropped p) Ev.HR_EVENTS_DROPPED
      [.u8 (portNum p), .u32 s.ports[p].dropFirst.toNat, .u16 (min 65535 s.ports[p].dropRun)] := by
  unfold State.reportDropped
  extract_lets t
  rw [if_pos (by simp [t, -Fin.getElem_fin, hrun, hrun0, hroom, hnone])]
  exact Raised.of_raise (State.modPort_params ..) (State.modPort_journal ..) (by simp)

section
variable (s : State) (p : HostPort)

/-- The rail and the links of a host port. -/
def PortSt.rail (t : PortSt) : Bool × Bool × Vector Bool 2 := (t.h12Tripped, t.h12On, t.links)

theorem PortSt.rail_iff {t : PortSt} {tripped on : Bool} {links : Vector Bool 2} :
    t.rail = (tripped, on, links) ↔ t.h12Tripped = tripped ∧ t.h12On = on ∧ t.links = links := by
  simp only [PortSt.rail, Prod.mk.injEq]

theorem PortSt.rail_setUp (t : PortSt) : t.setUp.rail = t.rail := rfl

theorem SameSetUp.rail {s t : State} (h : SameSetUp s t) (k : PortId) : t.ports[k].rail = s.ports[k].rail := by
  rw [← PortSt.rail_setUp, h.get k, PortSt.rail_setUp]

theorem State.modPort_rail (k : PortId) (f : PortSt → PortSt) (hf : ∀ t, (f t).rail = t.rail) :
    (s.modPort k f).ports[k].rail = s.ports[k].rail := by
  rw [State.modPort_port, hf]

theorem State.stopPort_rail (k : PortId) (reason : Nat) :
    (s.stopPort k reason).ports[k].rail = s.ports[k].rail := by
  unfold State.stopPort
  split
  · rw [(SameSetUp.raise ..).rail]
    exact s.modPort_rail k _ fun _ => rfl
  · exact s.modPort_rail k _ fun _ => rfl

theorem State.bothLinksDown_rail (reason : Nat) :
    (s.bothLinksDown p reason).ports[hostPort p].rail = s.ports[hostPort p].rail := by
  unfold State.bothLinksDown State.portDown
  extract_lets s1
  have h1 : s1.ports[hostPort p].rail = s.ports[hostPort p].rail :=
    ((SameSetUp.loseClaims ..).rail _).trans (s.stopPort_rail ..)
  clear_value s1
  exact (s1.modPort_rail (hostPort p) PortSt.linksDown fun _ => rfl).trans h1

theorem State.dropLinks_rail : (s.dropLinks p).ports[hostPort p].rail =
    (s.ports[hostPort p].h12Tripped, s.ports[hostPort p].h12On, .replicate 2 false) := by
  unfold State.dropLinks
  extract_lets t s1
  have h1 : SameSetUp s s1 := SameSetUp.each _ (fun u c => by
    split
    · exact .raise ..
    · exact .refl) _ s
  have hrail := h1.rail (hostPort p)
  clear_value s1
  obtain ⟨htrip, hon, -⟩ := PortSt.rail_iff.mp hrail
  rw [State.bothLinksDown_rail, State.modPort_port]
  exact PortSt.rail_iff.mpr ⟨htrip, hon, rfl⟩

/-- The state in which a card's links are dropped. -/
def State.railOff (s : State) (p : HostPort) (mA : Nat) : State :=
  ((s.modPort (hostPort p) fun t => { t with h12On := false, h12Tripped := true }).modSlot (hostSlot p) fun x =>
    { x with railsOn := false, inService := false }).raise Ev.HR_HOST_POWER [.u8 p.val, .u16 mA]

theorem exec_hostPowerTrip_trips {mA : Nat} (h : s.ports[hostPort p].h12Tripped = false) :
    exec (.hostPowerTrip p mA) s = .next (((s.railOff p mA).dropLinks p).judgeTiers (hostSlot p).val) := by
  rw [exec_hostPowerTrip, execHostPowerTrip, if_neg (by rw [h]; exact Bool.false_ne_true)]
  rfl

theorem State.railOff_rail (mA : Nat) : ((s.railOff p mA).ports[hostPort p].h12Tripped = true ∧
    (s.railOff p mA).ports[hostPort p].h12On = false) := by
  have h : (s.railOff p mA).ports[hostPort p].rail = (true, false, s.ports[hostPort p].links) :=
    ((SameSetUp.raise ..).rail _).trans (congrArg PortSt.rail (s.modPort_port (hostPort p) _))
  obtain ⟨htrip, hon, -⟩ := PortSt.rail_iff.mp h
  exact ⟨htrip, hon⟩

theorem State.railOff_slot (mA : Nat) : (s.railOff p mA).frame.slots[hostSlot p].inService = false := by
  unfold State.railOff
  rw [State.raise_slots]
  exact congrArg SlotSt.inService (updV_self ..)

end

/-- Settles O35: a fetch by the descriptor taken, the lay-by by its one entry, the rail by what it leaves of the card. -/
theorem hostFetchCompletes : Obligations.HostFetchCompletes := by
  intro s
  refine ⟨fun p q b buf hc hrun hnext hfree hroom => ?_, fun p c q hrun hone hq hroom => ?_,
    fun p hrun hdrop hroom hnone => ?_, fun p mA h => ?_⟩
  · have hexec := (exec_descriptorFetch_host s p q (some b) buf hc).trans
      (congrArg Host.Outcome.next (s.hostFetch_of_free buf hrun hnext hfree hroom))
    have hdev : ∀ {t : State}, t.ports[hostPort p].sq = (s.fetched p q).ports[hostPort p].sq →
        t.ports[hostPort p].sq[q].dev = (s.ports[hostPort p].sq[q].dev + 1) % s.ports[hostPort p].sq[q].size := by
      intro t ht
      rw [ht, show (s.fetched p q).ports[hostPort p].sq = _ from congrArg Prod.fst (s.fetched_fetchView p q)]
      exact congrArg Ring.dev (updV_self ..)
    have href := s.fetched_fetchRefusal p q s.activeCore b
    refine ⟨fun st detail hst => ?_, fun hnone hop hat hlock => ?_⟩
    · obtain ⟨hsq, hans⟩ := (s.fetched p q).takeDescriptor_refused (hostPort p) q s.activeCore b buf none (href.trans hst)
      rw [s.fetched_reqOf] at hans
      exact .intro hexec ⟨hdev hsq, hans⟩
    · obtain ⟨hsq, hans⟩ := (s.fetched p q).takeDescriptor_nop (hostPort p) q s.activeCore b buf none (href.trans hnone)
        hop hat hlock
      rw [s.fetched_reqOf] at hans
      exact .intro hexec ⟨hdev hsq, hans⟩
  · exact .intro (exec_laybyDrain s p) (s.drainLayby_single hrun hone hq hroom)
  · exact .intro (exec_eventsDroppedReport s p) (s.reportDropped_raises hrun hdrop hroom hnone)
  · have hrail := ((SameSetUp.judgeTiers ((s.railOff p mA).dropLinks p) (hostSlot p).val).rail (hostPort p)).trans
      ((s.railOff p mA).dropLinks_rail p)
    obtain ⟨htrip, hon⟩ := s.railOff_rail p mA
    rw [htrip, hon] at hrail
    obtain ⟨htrip, hon, hlinks⟩ := PortSt.rail_iff.mp hrail
    refine .intro (exec_hostPowerTrip_trips s p h) ⟨htrip, hon, hlinks, ?_⟩
    rw [State.judgeTiers_slots, ((s.railOff p mA).dropLinks_keeps p).slots_eq]
    exact s.railOff_slot p mA

end Sys2Proof.Machine
end

section
/-!
The panel bus (R340 to R352): the window of a disabled doorway, the mailbox, transfers and faults.
-/

set_option Elab.async false

namespace Sys2Proof.Machine

/-! ### The window (Tables PB-1, PB-2) -/

theorem slice_middle (a m b : List Byte) : slice (a ++ m ++ b) a.length m.length = m := by
  unfold slice
  simp

section
variable (s : State) (d : Doorway)

theorem State.panelDoor_length : (s.panelDoor d).length = 16 := by
  unfold State.panelDoor
  split <;> simp [leBytes]

theorem State.panelDoor_of_disabled (h : s.enabled d = false) :
    s.panelDoor d = [15, 15] ++ List.replicate 10 0 ++ leBytes 2 (s.doorId d.val) ++ [0, 0] := by
  unfold State.panelDoor
  rw [if_neg (by rw [h]; exact Bool.false_ne_true)]

/-- The bytes of the window before those of the doorways. -/
def State.panelHead (s : State) : List Byte :=
  [0x01, s.frameState] ++ leBytes 1 s.tick.toNat ++ [s.panel.reqHeld ||| s.panel.reqFlags]
    ++ leBytes 2 (s.param 0x080) ++ leBytes 1 (qualityCode s.time.quality) ++ leBytes 1 (0x30 + s.panel.inUse.toNat)
    ++ leBytes 8 s.tai

theorem State.panelHead_length : s.panelHead.length = 16 := by simp [State.panelHead, leBytes]

theorem State.panelWindow_doors : ∃ rest, s.panelWindow = s.panelHead ++ s.panelDoor 0 ++ s.panelDoor 1 ++ rest := by
  unfold State.panelWindow State.panelHead
  extract_lets p stamps
  simp only [List.append_assoc]
  exact ⟨_, rfl⟩

theorem State.panelWindow_door : slice s.panelWindow (0x10 + 16 * d.val) 16 = s.panelDoor d := by
  obtain ⟨rest, hw⟩ := s.panelWindow_doors
  have hh := s.panelHead_length
  have h0 := s.panelDoor_length 0
  have h1 := s.panelDoor_length 1
  rw [hw]
  match d with
  | 0 =>
    have h := slice_middle s.panelHead (s.panelDoor 0) (s.panelDoor 1 ++ rest)
    rw [hh, h0, ← List.append_assoc] at h
    exact h
  | 1 =>
    have h := slice_middle (s.panelHead ++ s.panelDoor 0) (s.panelDoor 1) rest
    rw [List.length_append, hh, h0, h1] at h
    exact h

/-- Settles O50: the window swapped in shows each doorway's bytes. -/
theorem disabledDoorwayOnThePanel : Obligations.DisabledDoorwayOnThePanel := by
  intro s d h
  unfold State.swapWindow
  extract_lets high shown s1 w
  rw [State.modPanel_panel]
  exact (s1.panelWindow_door d).trans (s1.panelDoor_of_disabled d h)

end

/-! ### The mailbox (R346 to R348) -/

/-- The command a row of the panel's table stands for. -/
def panelMade (cmd door arg : Nat) (seq : Byte) : PanelCmd :=
  { cmd := BitVec.ofNat 8 cmd, door := BitVec.ofNat 8 door, arg := BitVec.ofNat 8 arg, seq := seq,
    check := 0xFF ^^^ BitVec.ofNat 8 cmd ^^^ BitVec.ofNat 8 door ^^^ BitVec.ofNat 8 arg ^^^ seq }

theorem panelMade_checks (cmd door arg : Nat) (seq : Byte) : (panelMade cmd door arg seq).checks = true :=
  beq_self_eq_true _

section
variable (s : State) (d : Doorway)

/-- The mailbox with one more command taken. -/
def State.takenOne (s : State) : State := s.modPanel fun p => { p with taken := p.taken + 1 }

theorem State.panelRow_of_none (cmd arg : Nat) (hon : s.panelOn = true) (hw : s.panel.waiting = none) :
    s.panelRow cmd d.val arg = s.takenOne.collect (panelMade cmd d.val arg (s.panel.resultSeq + 1)) := by
  simp only [State.panelRow, hon, hw, Bool.not_true, Bool.false_eq_true, if_false]
  rfl

/-- A command that acts: its effect, then its result in the mailbox. -/
theorem State.collect_of_new (c : PanelCmd) (h : s.panel.last = none) :
    s.collect c = ((((s.panelEffect c).1.modPanel fun p => { p with
      last := some (c, s.now, BitVec.ofNat 8 (s.panelEffect c).2) }).panelResult c (s.panelEffect c).2).raise
        Ev.PB_MAILBOX_CMD [.u8 c.door.toNat, .u8 c.cmd.toNat, .u8 c.arg.toNat, .u8 (s.panelEffect c).2]) := by
  have hr : s.panelRepeat c = none := by simp only [State.panelRepeat, h]
  simp only [State.collect, hr]

theorem State.collect_panel (c : PanelCmd) (h : s.panel.last = none) :
    (s.collect c).panel.result = BitVec.ofNat 8 (s.panelEffect c).2 ∧ (s.collect c).panel.resultCmd = c.cmd ∧
      (s.collect c).panel.taken = (s.panelEffect c).1.panel.taken ∧
      (s.collect c).panel.intercom = (s.panelEffect c).1.panel.intercom := by
  rw [s.collect_of_new c h, State.raise_panel _ (by decide)]
  exact ⟨rfl, rfl, rfl, rfl⟩

theorem State.collect_doors (c : PanelCmd) (h : s.panel.last = none) :
    (s.collect c).doors = (s.panelEffect c).1.doors ∧ (s.collect c).obst = (s.panelEffect c).1.obst := by
  rw [s.collect_of_new c h]
  exact ⟨State.raise_doors .., State.raise_obst ..⟩

section
variable (hrun : s.power.state = .run) (hwake : s.power.wake = none) (hsvc : s.supply.serviceOnly = false)
  (he : s.enabled d = true) (seq : Byte)
include hrun hwake hsvc he

theorem State.panelEffect_made {cmd arg : Nat} (hc : 1 ≤ cmd) (hc3 : cmd ≤ 3) (ha : arg ≤ if cmd = 3 then 2 else 0) :
    s.panelEffect (panelMade cmd d.val arg seq) =
      if cmd = 1 then s.accessReq d else if cmd = 2 then s.panelObstacle d else (s.intercomInd d arg, 0) := by
  have harg : arg ≤ 2 := by split at ha <;> omega
  have hd : asFin 2 (BitVec.ofNat 8 d.val).toNat = some d := by
    rw [BitVec.toNat_ofNat, Nat.mod_eq_of_lt (by omega)]
    exact dif_pos d.isLt
  have hnarg : (BitVec.ofNat 8 arg).toNat = arg := by
    rw [BitVec.toNat_ofNat]
    omega
  unfold State.panelEffect
  rw [if_neg (by rw [panelMade_checks]; exact Bool.false_ne_true), if_neg (by simp [hrun, hwake, hsvc])]
  obtain rfl | rfl | rfl : cmd = 1 ∨ cmd = 2 ∨ cmd = 3 := by omega
  · have h0 : arg = 0 := by simpa using ha
    subst h0
    rw [if_neg (by simp [panelMade])]
    simp only [panelMade, hd, he, Bool.not_true, Bool.false_eq_true, if_false]
    rfl
  · have h0 : arg = 0 := by simpa using ha
    subst h0
    rw [if_neg (by simp [panelMade])]
    simp only [panelMade, hd, he, Bool.not_true, Bool.false_eq_true, if_false]
    rfl
  · rw [if_neg (by simp [panelMade])]
    simp only [panelMade, hd, he, hnarg, Bool.not_true, Bool.false_eq_true, if_false]
    rw [if_neg (by simpa using harg)]
    rfl

end

/-! ### What each command does (Table PB-6) -/

theorem State.accessReq_of_locked (hp : s.param (pPanelDoor d.val 0) ≠ 0)
    (hl : s.doors.door[d].leaf = .closedLocked) :
    (s.accessReq d).1.doors.door[d].stepRequest = true ∧ (s.accessReq d).1.panel = s.panel ∧ (s.accessReq d).2 = 0 := by
  unfold State.accessReq
  rw [if_neg hp]
  extract_lets l dead s1
  have hdead : dead = false := by
    unfold dead l
    rw [hl]
    rfl
  have h1 : s1 = (s.modDoor d fun x => { x with stepRequest := true }).buttonPressed d := by
    unfold s1
    rw [hdead]
    rfl
  have hk := (s.modDoor d fun x => { x with stepRequest := true }).buttonPressed_keeps d
  rw [hdead, h1]
  refine ⟨?_, ?_, rfl⟩
  · show (State.raise _ _ _).doors.door[d].stepRequest = true
    rw [State.raise_doors, hk.door_eq, State.modDoor_doors_door, updV_self]
  · show (State.raise _ _ _).panel = s.panel
    rw [State.raise_panel _ (by decide), hk.panel_eq, State.modDoor_panel]

theorem State.panelObstacle_of_moving (hp : s.op d 0x11 ≠ 0) (hl : s.closingOrLocking d = true) :
    (s.panelObstacle d).1.doors.door[d].leaf = .reopening ∧ (s.panelObstacle d).1.obst[d].lastSource = 6 ∧
      (s.panelObstacle d).2 = 0 := by
  have hleaf : s.doors.door[d].leaf = .closing ∨ s.doors.door[d].leaf = .locking := by
    simpa [State.closingOrLocking, -Fin.getElem_fin] using hl
  have he : s.panelObstacle d = (s.obstacle d 6, 0) := by
    unfold State.panelObstacle
    simp only [hp, hl, if_false, if_true]
  rw [he]
  exact ⟨s.obstacle_leaf d 6 hleaf, s.obstacle_lastSource d 6 hleaf, rfl⟩

theorem State.blink_panel : (s.blink d).panel.blinkOn[d] = !s.panel.blinkOn[d] ∧ (s.blink d).panel.blinkAt[d] = s.now :=
  ⟨updV_self .., updV_self ..⟩

theorem State.blink_now : (s.blink d).now = s.now := rfl

theorem State.intercomInd_intercom (st : Nat) : (s.intercomInd d st).panel.intercom[d] = st := by
  unfold State.intercomInd
  extract_lets old s1
  have h1 : s1.panel.intercom[d] = st := updV_self ..
  clear_value s1
  split
  · exact h1
  · exact (congrArg (fun p : PanelSt => p.intercom[d]) (State.raise_panel _ (by decide) _)).trans h1

end

/-! ### Transfers (R342, R349) -/

section
variable (s : State)

theorem State.refuseByte_mailbox (b : Byte) :
    (s.refuseByte b).panel.waiting = s.panel.waiting ∧ (s.refuseByte b).panel.taken = s.panel.taken := ⟨rfl, rfl⟩

theorem State.writeByte_mailbox (b : Byte) :
    (s.writeByte b).panel.waiting = s.panel.waiting ∧ (s.writeByte b).panel.taken = s.panel.taken := by
  unfold State.writeByte
  extract_lets o
  split
  · exact ⟨rfl, rfl⟩
  · split
    · exact ⟨rfl, rfl⟩
    · exact s.refuseByte_mailbox _

theorem State.eachByte_mailbox (bytes : List Byte) :
    (s.each bytes State.writeByte).panel.waiting = s.panel.waiting ∧
      (s.each bytes State.writeByte).panel.taken = s.panel.taken := by
  induction bytes generalizing s with
  | nil => exact ⟨rfl, rfl⟩
  | cons b bytes ih =>
    obtain ⟨hw, ht⟩ := s.writeByte_mailbox b
    obtain ⟨hw', ht'⟩ := ih (s.writeByte b)
    exact ⟨hw'.trans hw, ht'.trans ht⟩

theorem State.refusedTick_mailbox :
    s.refusedTick.panel.waiting = s.panel.waiting ∧ s.refusedTick.panel.taken = s.panel.taken ∧
      s.refusedTick.panel.box = s.panel.box ∧ s.refusedTick.panel.pointer = s.panel.pointer := by
  unfold State.refusedTick
  extract_lets due
  split
  · rw [State.raise_panel _ (by decide)]
    exact ⟨rfl, rfl, rfl, rfl⟩
  · exact ⟨rfl, rfl, rfl, rfl⟩

theorem panelCmdOf_bytes (data : List Byte) (h : data.length = 5) : (panelCmdOf data).bytes = data := by
  match data, h with
  | [_, _, _, _, _], _ => rfl

/-- A complete command in RUN with an empty mailbox is taken. -/
theorem State.checkByte_of_free (c : PanelCmd) (hw : s.panel.waiting = none) (hp : s.power.wake = none) :
    s.checkByte c = s.takeCmd c := by
  have hwake : (s.takeCmd c).power.wake = none := hp
  unfold State.checkByte
  rw [if_pos (by rw [hw]; rfl), hp]
  rfl

/-- Five bytes written from 0xE0 end in a check byte (R346). -/
theorem State.panelWrite_of_five (data : List Byte) (h : data.length = 5) :
    ∃ u : State, s.panelWrite (0xE0 :: data) = u.checkByte (panelCmdOf data) ∧
      u.panel.waiting = s.panel.waiting ∧ u.panel.taken = s.panel.taken ∧ u.panel.pointer = 0xE5 ∧
      u.power = s.power := by
  have hb := (s.modPanel fun p => { p with pointer := 0xE0, requestOn := false }).eachByte_mailbox (data.take 4)
  refine ⟨State.modPanel _ fun p => { p with pointer := 0xE5 }, ?_, hb.1, hb.2, rfl,
    State.each_same State.power _ _ (fun s b _ => (s.writeByte_keeps b).power_eq) _⟩
  refine (if_pos ⟨rfl, by omega⟩).trans ?_
  rw [List.drop_eq_nil_of_le (by omega)]
  rfl

theorem State.panelWrite_command (data : List Byte) (h : data.length = 5) (hw : s.panel.waiting = none)
    (hp : s.power.wake = none) :
    (s.panelWrite (0xE0 :: data)).panel.waiting = some (panelCmdOf data) ∧
      (s.panelWrite (0xE0 :: data)).panel.taken = s.panel.taken + 1 ∧
      (s.panelWrite (0xE0 :: data)).panel.box = data ∧ (s.panelWrite (0xE0 :: data)).panel.pointer = 0xE5 := by
  obtain ⟨u, hu, hwait, htaken, hptr, hpow⟩ := s.panelWrite_of_five data h
  rw [hu, u.checkByte_of_free _ (hwait.trans hw) ((congrArg PowerSt.wake hpow).trans hp)]
  exact ⟨rfl, congrArg (· + 1) htaken, panelCmdOf_bytes data h, hptr⟩

end

/-- Settles O40: each row through its own operation; a mailbox command through what it does before its result. -/
theorem panelCompletes : Obligations.PanelCompletes := by
  intro s d
  refine ⟨fun pins => ?_, fun hon hw hl hrun hwake hsvc he => ⟨fun hp hleaf => ?_, fun hp hleaf => ?_, fun st hst => ?_⟩,
    fun hb => ?_, fun data hon hw hp hlen _ => ?_, fun ptr hon => ?_, fun count hon => ?_, fun cmd k at_ hon hw hst => ?_,
    fun hon => ?_, fun lines hon hst => ?_, fun t0 hst => ?_, fun hm => ?_, fun hon hreq => ?_⟩
  · refine Does.intro (exec_panelAddrPoll s pins) ?_
    split
    · rw [State.raise_panel _ (by decide)]
      exact ⟨rfl, rfl, fun _ _ => Raised.of_raise rfl rfl (by simp)⟩
    next hn =>
      refine ⟨rfl, rfl, fun hon hne => (hn ?_).elim⟩
      rw [hon, bne_iff_ne.mpr hne]
      rfl
  · refine Does.intro (exec_accessReq s d) ?_
    rw [s.panelRow_of_none d 1 0 hon hw]
    have heff := s.takenOne.panelEffect_made d hrun hwake hsvc he (s.panel.resultSeq + 1) (cmd := 1) (arg := 0)
      (by omega) (by omega) (by simp)
    rw [if_pos rfl] at heff
    obtain ⟨hreq, hpan, hres⟩ := s.takenOne.accessReq_of_locked d hp hleaf
    obtain ⟨h1, h2, h3, -⟩ := s.takenOne.collect_panel (panelMade 1 d.val 0 (s.panel.resultSeq + 1)) hl
    obtain ⟨hd, -⟩ := s.takenOne.collect_doors (panelMade 1 d.val 0 (s.panel.resultSeq + 1)) hl
    rw [heff] at h1 h3 hd
    rw [h1, h2, h3, hd, hres, hpan]
    exact ⟨hreq, rfl, rfl, rfl⟩
  · refine Does.intro (exec_panelObstacle s d) ?_
    rw [s.panelRow_of_none d 2 0 hon hw]
    have heff := s.takenOne.panelEffect_made d hrun hwake hsvc he (s.panel.resultSeq + 1) (cmd := 2) (arg := 0)
      (by omega) (by omega) (by simp)
    rw [if_neg (by omega), if_pos rfl] at heff
    obtain ⟨hleaf', hsrc, hres⟩ := s.takenOne.panelObstacle_of_moving d hp hleaf
    obtain ⟨h1, h2, -, -⟩ := s.takenOne.collect_panel (panelMade 2 d.val 0 (s.panel.resultSeq + 1)) hl
    obtain ⟨hd, ho⟩ := s.takenOne.collect_doors (panelMade 2 d.val 0 (s.panel.resultSeq + 1)) hl
    rw [heff] at h1 hd ho
    rw [h1, h2, hd, ho, hres]
    exact ⟨hleaf', hsrc, rfl, rfl⟩
  · refine Does.intro (exec_intercomInd s d st) ?_
    rw [Nat.mod_eq_of_lt (by omega), s.panelRow_of_none d 3 st hon hw]
    have heff := s.takenOne.panelEffect_made d hrun hwake hsvc he (s.panel.resultSeq + 1) (cmd := 3) (arg := st)
      (by omega) (by omega) (by simpa using hst)
    rw [if_neg (by omega), if_neg (by omega)] at heff
    obtain ⟨h1, h2, -, h4⟩ := s.takenOne.collect_panel (panelMade 3 d.val st (s.panel.resultSeq + 1)) hl
    rw [heff] at h1 h4
    rw [h1, h2, h4, s.takenOne.intercomInd_intercom]
    exact ⟨rfl, rfl, rfl⟩
  · refine Does.intro (exec_intercomBlink s d) ?_
    rw [if_pos hb]
    obtain ⟨hon, hat⟩ := (s.until (s.panel.blinkAt[d] + 500 * msec)).blink_panel d
    rw [hon, hat, State.blink_now, State.until_now, State.until_panel]
    exact ⟨rfl, rfl, rfl⟩
  · refine Does.intro (exec_panelWriteTransfer s _) ?_
    rw [if_pos hon]
    obtain ⟨h1, h2, h3, h4⟩ := (s.panelWrite (0xE0 :: data)).refusedTick_mailbox
    rw [h1, h2, h3, h4]
    exact s.panelWrite_command data hlen hw hp
  · refine Does.intro (exec_panelWriteTransfer s _) ?_
    rw [if_pos hon]
    obtain ⟨h1, -, -, h4⟩ := (s.panelWrite [ptr]).refusedTick_mailbox
    rw [h1, h4]
    have he : s.panelWrite [ptr] = s.modPanel fun p => { p with pointer := ptr, requestOn := false } := by
      exact if_neg (by simp)
    rw [he]
    exact ⟨rfl, rfl⟩
  · refine Does.intro (exec_panelReadTransfer s count true) ?_
    rw [if_pos hon]
    exact ⟨rfl, rfl, rfl, rfl⟩
  · refine Does.intro (exec_stretchLimit s cmd) ?_
    rw [if_neg (by cases hx : s.panel.waiting <;> simp_all), hst]
    unfold State.notTaken
    refine ⟨?_, ?_, ?_, ?_, ?_⟩
    · rw [State.raise_panel _ (by decide)]
      rfl
    · rw [State.raise_panel _ (by decide)]
      rfl
    · rw [State.raise_panel _ (by decide)]
      rfl
    · rw [State.raise_panel _ (by decide)]
      rfl
    · rw [State.raise_now]
      exact s.until_now _
  · refine Does.intro (exec_pbBusTimeout s) ?_
    rw [if_pos hon]
    refine ⟨?_, ?_, Raised.of_raise rfl rfl (by simp)⟩ <;> rw [State.raise_panel _ (by decide)] <;> rfl
  · refine Does.intro (exec_pbBusStuck s lines) ?_
    rw [if_pos (by rw [hon, hst]; rfl)]
    refine ⟨?_, ?_, Raised.of_raise rfl rfl (by simp)⟩ <;> rw [State.raise_panel _ (by decide)] <;> rfl
  · refine Does.intro (exec_pbBusFree s) ?_
    rw [hst]
    refine ⟨?_, Raised.of_raise rfl rfl (by simp)⟩
    rw [State.raise_panel _ (by decide)]
    rfl
  · refine Does.intro (exec_panelRequest s) ?_
    rw [if_pos hm]
    exact ⟨rfl, rfl, rfl⟩
  · refine Does.intro (exec_requestCollision s) ?_
    rw [if_pos (by rw [hon, hreq]; rfl)]
    unfold State.collisionTick
    extract_lets due
    split
    · rw [State.raise_panel _ (by decide)]
      exact ⟨rfl, rfl⟩
    · exact ⟨rfl, rfl⟩

end Sys2Proof.Machine
end

section
/-!
Time (R356 to R375): what the choice of a source, the judgement of quality and a measured offset leave of the clock,
then the sources, the host set, and an action at its edge.
-/

set_option Elab.async false

namespace Sys2Proof.Machine

section
variable (s : State)

/-! ### What the shared operations change of the clock (R361 to R364, R366) -/

theorem State.judgeTime_time : s.judgeTime.time = { s.time with err := s.errNow, quality := s.qualityNow } := by
  unfold State.judgeTime
  extract_lets q old s1
  split
  · rfl
  · rw [State.raise_time]
    rfl

theorem State.judgeTime_now : s.judgeTime.now = s.now := s.judgeTime_keeps.now_eq

/-- Choosing a source changes what describes the source. -/
theorem State.selectSource_time : ∃ src ref e0 role hold err first unset, s.selectSource.time =
    { s.time with source := src, reference := ref, e0 := e0, roleErr := role, holdFrom := hold, srcErr := err,
                  stepFirst := first, unset := unset } := by
  unfold State.selectSource
  extract_lets old new e s1
  split
  · exact ⟨_, _, _, _, _, _, _, _, rfl⟩
  · rw [State.raise_time]
    exact ⟨_, _, _, _, _, _, _, _, rfl⟩

theorem State.takeTaiUtc_time (v : Nat) : (s.takeTaiUtc v).time = { s.time with taiUtc := some v } := by
  unfold State.takeTaiUtc
  extract_lets old s1
  split
  · rfl
  · rw [State.raise_time]
    rfl

/-- A source that ends is not valid, and the others stay as they are. -/
theorem State.sourceInvalid_time (k : Fin 3) :
    (s.sourceInvalid k).time.valid = updV s.time.valid k (fun _ => false) ∧
      (s.sourceInvalid k).time.labelRun = (if k = 0 then 0 else s.time.labelRun) ∧
      (s.sourceInvalid k).time.tpiRun = s.time.tpiRun := by
  obtain ⟨_, _, _, _, _, _, _, _, h⟩ := State.selectSource_time (s.modTime fun t => { t with
    valid := updV t.valid k fun _ => false, labelRun := if k = 0 then 0 else t.labelRun })
  unfold State.sourceInvalid
  rw [h]
  exact ⟨rfl, rfl, rfl⟩

theorem State.sourceInvalid_now (k : Fin 3) : (s.sourceInvalid k).now = s.now := (s.sourceInvalid_keeps k).now_eq

/-- A measured offset, whatever becomes of it. -/
theorem State.takeOffset_time (o : Int) :
    (s.takeOffset o).1.time.offset = o ∧ (s.takeOffset o).1.time.measuredAt = s.now ∧
      (s.takeOffset o).1.time.reference = none ∧ (s.takeOffset o).1.time.valid = s.time.valid ∧
      (s.takeOffset o).1.time.hostSetAt = s.time.hostSetAt := by
  unfold State.takeOffset
  extract_lets t good free steer s1 s2 begins s3
  split
  · split
    · exact ⟨rfl, rfl, rfl, rfl, rfl⟩
    · rw [State.raise_time]
      exact ⟨rfl, rfl, rfl, rfl, rfl⟩
  · split
    · rw [State.raise_time]
      exact ⟨rfl, rfl, rfl, rfl, rfl⟩
    · exact ⟨rfl, rfl, rfl, rfl, rfl⟩

/-- A small offset begins or continues a slew (R363). -/
theorem State.takeOffset_slews (o : Int) (hf : s.time.stepFirst = false) (ho : o.natAbs ≤ 2000000) :
    (s.takeOffset o).1.time.slewLeft = o * 10 ^ 9 ∧ (s.takeOffset o).1.time.slew = slewRate o ∧
      (s.takeOffset o).1.time.stepPending = none := by
  unfold State.takeOffset
  extract_lets t good free steer s1 s2 begins s3
  rw [if_neg (by simp [t, hf, ho])]
  split
  · rw [State.raise_time]
    exact ⟨rfl, rfl, rfl⟩
  · exact ⟨rfl, rfl, rfl⟩

/-- A large offset waits for a step (R364). -/
theorem State.takeOffset_steps (o : Int) (ho : 2000000 < o.natAbs) :
    (s.takeOffset o).1.time.stepPending = some o ∧ (s.takeOffset o).1.time.slew = 0 := by
  unfold State.takeOffset
  extract_lets t good free steer s1 s2 begins s3
  rw [if_pos (by simp [ho])]
  split
  · exact ⟨rfl, rfl⟩
  · rw [State.raise_time]
    exact ⟨rfl, rfl⟩

/-! ### Time frames and edges (R358, R359) -/

/-- The label of an edge changes the labels' run and the validity of source 1. -/
theorem State.takeLabel_time (label : Option Nat) : ∃ last run lab at_ valid, (s.takeLabel label).time =
    { s.time with lastLabel := last, labelRun := run, labelled := lab, lastLabelledAt := at_, valid := valid } := by
  unfold State.takeLabel
  split
  · exact ⟨_, _, _, _, _, rfl⟩
  · extract_lets t0 follows s1
    split
    · split <;> exact ⟨_, _, _, _, _, rfl⟩
    · rw [State.modTime_time, State.raise_time]
      exact ⟨_, _, _, _, _, rfl⟩

theorem State.tpiAccept_time (stamp : BitVec 48) :
    (s.tpiAccept stamp).time.tpiStamp = some stamp ∧ (s.tpiAccept stamp).time.tpiAt = s.now ∧
      (s.tpiAccept stamp).time.tpiRun = s.time.tpiRun + 1 := by
  unfold State.tpiAccept
  extract_lets label s1 s2 s3 here source
  obtain ⟨_, _, _, _, _, h2⟩ := s1.takeLabel_time label
  obtain ⟨_, _, _, _, _, _, _, _, h3⟩ := State.selectSource_time (s2.modTime fun t => { t with
    valid := if 3 ≤ t.tpiRun && t.tpiRunOk then updV t.valid 2 fun _ => true else t.valid })
  clear_value source
  rw [State.modTime_time, h3, State.modTime_time, h2]
  exact ⟨rfl, rfl, rfl⟩

theorem exec_timeFrame_of_heard (stamp : BitVec 48) (data : List Byte) (h : s.busHears .t = true) :
    ∃ u : State, u.time = s.time ∧ exec (.timeFrame stamp data) s = .next (u.timeFrame stamp data) :=
  ⟨_, (s.acceptFrame_keeps .t _).time_eq, by rw [exec_timeFrame, execTimeFrame, if_pos h]⟩

theorem State.timeFrame_of_good (stamp : BitVec 48) (data : List Byte) (h : timeFrameGood data = true)
    (hc : byteAt data 6 % 4 < 2) :
    (s.timeFrame stamp data).time = { s.time with
      taiUtc := some (byteAt data 5), labelled := some (leAt data 0 5, stamp), masterClass := byteAt data 6 % 4 } := by
  unfold State.timeFrame
  rw [if_neg (by simp [h])]
  extract_lets cls s1
  rw [if_neg (by simp only [cls]; omega), if_neg (by simp only [cls]; omega), State.modTime_time, State.takeTaiUtc_time]

/-- A frame of a master in free run ends source 1. -/
theorem State.timeFrame_of_freeMaster (stamp : BitVec 48) (data : List Byte) (h : timeFrameGood data = true)
    (hc : byteAt data 6 % 4 = 2) : (s.timeFrame stamp data).time.valid[(0 : Fin 3)] = false := by
  unfold State.timeFrame
  rw [if_neg (by simp [h])]
  extract_lets cls s1
  rw [if_pos hc, (State.sourceInvalid_time _ 0).1]
  exact updV_self ..

/-! ### A step and TPO (R364, R365) -/

theorem State.mem_stage_of_priority (r : Record) (h : r.priority = true) : r ∈ (s.stage r).journal.stagedPrio := by
  unfold State.stage
  rw [State.modJournal_journal, if_pos h]
  exact List.mem_append_right _ (List.mem_singleton.mpr rfl)

theorem State.doTimeStep_steps (o : Int) :
    (s.doTimeStep o).time.stepPending = none ∧ (s.doTimeStep o).time.lastStep = (s.stepTo o).toNat ∧
      (s.doTimeStep o).time.te = ((s.time.te : Int) - o * 10 ^ 9).toNat ∧
      ∃ r ∈ (s.doTimeStep o).journal.stagedPrio, r.body.type = 3 := by
  unfold State.doTimeStep
  extract_lets old new crossed s1 s2 s3 s4
  have h3 : s3.time = s2.time := by
    refine State.each_same State.time _ _ (fun u q _ => ?_) _
    rw [State.raise_time, State.fail_time]
  have h4 : s4.time = s2.time := (State.raise_time ..).trans h3
  have hend : ∀ r, (s4.stage r).time = s2.time := fun _ => h4
  rw [hend, State.judgeTime_time]
  exact ⟨rfl, rfl, rfl, _, s4.mem_stage_of_priority _ rfl, rfl⟩

theorem State.tpoRise_of_due (second : Nat) (hp : s.param 0x4E9 = 1) (hu : s.time.unset = false)
    (hs : s.time.tpoStepped = false) :
    (s.tpoRise second).time.tpo = true ∧ (s.tpoRise second).time.tpoSecond = second ∧
      (s.tpoRise second).time.rtcValid = true ∧ (s.tpoRise second).time.rtc = (s.tpoRise second).tai := by
  unfold State.tpoRise
  extract_lets late spaced
  have hsp : spaced = true := by
    unfold spaced
    split
    · rw [hs]
      rfl
    · rfl
  rw [if_pos (by simp [hp, hu, hsp])]
  exact ⟨rfl, rfl, rfl, rfl⟩

theorem exec_tpoPulse_passes :
    ∃ d, exec .tpoPulse s = .next ((s.pass d).tpoRise (max (s.time.tpoSecond + 1) (s.tai / sec))) :=
  ⟨_, exec_tpoPulse s⟩

end

/-- Settles O41: each row through what its operation changes of the clock. -/
theorem timeSourcesComplete : Obligations.TimeSourcesComplete := by
  intro s
  refine ⟨fun stamp data hh hg => ?_, fun stamp data hh hg hc => ?_, fun stamp data hh hg hc => ?_,
    fun stamp width hw hw' ht => ?_, fun stamp width hw => ?_, fun hv => ?_, fun hv => ?_, fun hv => ?_,
    fun o ho => ?_, fun o ho hq => ?_, fun hp hu hs => ?_⟩
  · obtain ⟨u, hu, he⟩ := exec_timeFrame_of_heard s stamp data hh
    refine Does.intro he ?_
    unfold State.timeFrame
    rw [if_pos (by simp [hg]), State.raise_time, State.modTime_time, hu]
    exact ⟨rfl, rfl⟩
  · obtain ⟨u, hu, he⟩ := exec_timeFrame_of_heard s stamp data hh
    refine Does.intro he ?_
    rw [u.timeFrame_of_good stamp data hg hc, hu]
    exact ⟨rfl, rfl, rfl, rfl⟩
  · obtain ⟨u, hu, he⟩ := exec_timeFrame_of_heard s stamp data hh
    exact Does.intro he (u.timeFrame_of_freeMaster stamp data hg hc)
  · refine Does.intro (t := s.tpiAccept stamp) ?_ (s.tpiAccept_time stamp)
    rw [exec_tpiEdge, execTpiEdge, ht]
    rw [if_neg (by simp; omega)]
    rfl
  · refine Does.intro (t := s.tpiFault 1) ?_ ?_
    · rw [exec_tpiEdge, execTpiEdge]
      exact congrArg _ (if_pos (by simpa using hw))
    · unfold State.tpiFault
      refine ⟨?_, ?_, Raised.of_raise rfl rfl (by simp)⟩ <;> rw [State.raise_time] <;> rfl
  · refine Does.intro (t := (s.until (s.time.lastLabelledAt + s.param 0x4E6 * sec)).sourceLost .frames) ?_ ?_
    · rw [exec_sourceLoss, execSourceLoss, State.lossDue, if_pos hv]
    · obtain ⟨h1, h2, -⟩ := (s.until (s.time.lastLabelledAt + s.param 0x4E6 * sec)).sourceInvalid_time 0
      unfold State.sourceLost
      rw [State.judgeTime_time, State.judgeTime_now, State.sourceInvalid_now, State.until_now]
      exact ⟨by rw [h1]; exact updV_self .., h2, rfl⟩
  · refine Does.intro (t := (s.until (s.time.tpiAt + s.param 0x4E6 * sec)).sourceLost .tpi) ?_ ?_
    · rw [exec_sourceLoss, execSourceLoss, State.lossDue, if_pos hv]
    · obtain ⟨h1, -, h3⟩ := ((s.until (s.time.tpiAt + s.param 0x4E6 * sec)).modTime fun t =>
        { t with tpiRun := 0, tpiStamp := none }).sourceInvalid_time 2
      unfold State.sourceLost
      rw [State.judgeTime_time, State.judgeTime_now, State.sourceInvalid_now, State.modTime_now, State.until_now]
      exact ⟨by rw [h1]; exact updV_self .., h3, rfl⟩
  · refine Does.intro
      (t := ((s.until (s.time.hostSetAt + s.param 0x4E5 * sec)).sourceInvalid 1).judgeTime) ?_ ?_
    · rw [exec_hostRefreshExpired, execHostRefreshExpired, State.refreshDue, if_pos hv]
    · obtain ⟨h1, -, -⟩ := (s.until (s.time.hostSetAt + s.param 0x4E5 * sec)).sourceInvalid_time 1
      rw [State.judgeTime_time, State.judgeTime_now, State.sourceInvalid_now, State.until_now]
      exact ⟨by rw [h1]; exact updV_self .., rfl⟩
  · refine Does.intro (t := (s.takeOffset o).1.judgeTime) ?_ ?_
    · rw [exec_offsetMeasure, execOffsetMeasure, State.measure, ho]
    · obtain ⟨h1, h2, h3, -, -⟩ := s.takeOffset_time o
      rw [State.judgeTime_time]
      exact ⟨h1, h2, h3, s.takeOffset_slews o, s.takeOffset_steps o⟩
  · refine Does.intro (t := s.doTimeStep o) ?_ (s.doTimeStep_steps o)
    rw [exec_timeStep, execTimeStep, State.stepTick, ho]
    exact congrArg _ (if_pos hq)
  · obtain ⟨d, he⟩ := exec_tpoPulse_passes s
    exact Does.intro he ((s.pass d).tpoRise_of_due _ hp hu hs)

/-! ### Commands of the hosts (R357, R360, R375) -/

section
variable (s : State) (r : Req)

/-- A set that is taken: the offset at its reference moment (R360). -/
theorem State.doTimeSet_eq (tai : Nat) (tick : BitVec 32) (err taiUtc : Nat) (h : (s.tick - tick).toNat ≤ 20000) :
    ∃ u : State, ∃ res, s.doTimeSet r tai tick err taiUtc = u.ok r Opc.OP_TIME_SET res ∧
      (s.time.valid[(0 : Fin 3)] = false → bit (s.param 0x4E0) 1 = true →
        u.time.valid[(1 : Fin 3)] = true ∧ u.time.hostSetAt = s.now ∧
          u.time.offset = s.setMoment r tick - (tai : Int)) ∧
      (s.time.valid[(0 : Fin 3)] = true → u.time.offset = s.time.offset ∧ u.time.hostSetAt = s.time.hostSetAt) := by
  unfold State.doTimeSet
  extract_lets oc host o e s1 out s2 s3
  rw [if_neg fun hc => absurd (of_decide_eq_true (Bool.and_eq_true_iff.mp hc).2) (Nat.not_lt.mpr h)]
  refine ⟨s3, _, rfl, ?_⟩
  have h2 : ∃ x, s2.time = { out.1.time with taiUtc := x } := by
    unfold s2
    split
    · exact ⟨_, State.takeTaiUtc_time ..⟩
    · exact ⟨_, rfl⟩
  obtain ⟨x, h2⟩ := h2
  have h3 : s3.time = { out.1.time with taiUtc := x, err := s2.errNow, quality := s2.qualityNow } := by
    unfold s3
    rw [State.raise_time, State.judgeTime_time, h2]
  rw [h3]
  constructor
  · intro hv hb
    have hout : out = s1.takeOffset o := if_neg (by simp [hv, hb, -Fin.getElem_fin])
    obtain ⟨ho, -, -, hval, hset⟩ := s1.takeOffset_time o
    obtain ⟨_, _, _, _, _, _, _, _, h1⟩ := State.selectSource_time (s.modTime fun t => { t with
      valid := updV t.valid 1 fun _ => true, hostSetAt := s.now, srcErr := e })
    have h1 : s1.time = _ := h1
    rw [hout]
    refine ⟨?_, ?_, ho⟩
    · show (s1.takeOffset o).1.time.valid[(1 : Fin 3)] = true
      rw [hval, h1]
      exact updV_self ..
    · show (s1.takeOffset o).1.time.hostSetAt = s.now
      rw [hset, h1]
      rfl
  · intro hv
    have hout : out = (s, 0) := if_pos (by simp [hv, -Fin.getElem_fin])
    rw [hout]
    exact ⟨rfl, rfl⟩

theorem State.copyOut_time (bs : List Byte) : (s.copyOut r bs).time = s.time := (s.copyOut_keeps r bs).time_eq

theorem State.doTimeRead_eq (h : r.bufLen = 0 ∨ r.bufLen = 48) :
    s.doTimeRead r = (if r.bufLen = 0 then s else s.copyOut r s.timeRecord).ok r Opc.OP_TIME_READ
      (leBytes 8 s.tai ++ leBytes 1 (qualityCode s.time.quality) ++ leBytes 1 (sourceNo s.time.source) ++
        leBytes 2 (min 65535 (s.time.err / 1000))) :=
  if_neg (by omega)

end

/-- Settles O42: each command through the state it answers from. -/
theorem timeCommandsComplete : Obligations.TimeCommandsComplete := by
  intro s r
  refine ⟨fun tai tick err taiUtc ht => ?_, fun hb => ?_, fun hseq q hq => ?_⟩
  · obtain ⟨u, res, he, hset, hkeep⟩ := s.doTimeSet_eq r tai tick err taiUtc ht
    refine Does.intro (exec_opTimeSet s r tai tick err taiUtc) ?_
    rw [he, State.ok_time]
    exact ⟨State.ok_answers _ _ _ _, hset, hkeep⟩
  · refine Does.intro (exec_opTimeRead s r) ?_
    rw [s.doTimeRead_eq r hb, State.ok_time]
    refine ⟨State.ok_answers _ _ _ _, State.ok_result _ _ _ _, ?_⟩
    split
    · rfl
    · exact s.copyOut_time r _
  · refine Does.intro (exec_opSchedCancel s r hseq) ?_
    unfold State.doSchedCancel
    extract_lets oc
    rw [hq]
    refine ⟨State.ok_answers _ _ _ _, ?_⟩
    rw [State.ok_time, State.raise_time, State.fail_time]
    rfl

/-! ### An action at its edge (R371, R372) -/

section
variable (s : State) (q : SchedAction)

theorem State.runSched_of_worse (hn : q.needLocked = true) (hq : s.time.quality ≠ .locked) :
    (s.runSched q).doors.requests = s.doors.requests ∧
      (s.runSched q).time.sched = s.time.sched.filter (fun x => !(x == q)) ∧
      Answers (s.runSched q) q.req (schedOpcode q.op) ST_TIME_QUALITY (qualityCode s.time.quality) := by
  unfold State.runSched
  extract_lets s1 port s2
  rw [if_pos (by simp [hn, hq])]
  refine ⟨?_, ?_, (State.fail_answers _ _ _ _ _).raise _ _⟩
  · rw [State.raise_doors, State.fail_doors]
    rfl
  · rw [State.raise_time, State.fail_time]
    rfl

theorem State.runSched_of_runs (h : q.needLocked = false ∨ s.time.quality = .locked) :
    (s.runSched q).doors.requests =
        aheadOf { req := { q.req with timed := true }, op := q.op } s.doors.requests ∧
      (s.runSched q).time.sched = s.time.sched.filter (fun x => !(x == q)) := by
  unfold State.runSched
  extract_lets s1 port s2
  rw [if_neg (by rcases h with h | h <;> simp [h])]
  refine ⟨?_, ?_⟩
  · rw [State.raise_doors]
    rfl
  · rw [State.raise_time]
    rfl

theorem exec_schedExec_passes {p : PortId} {hseq : BitVec 32}
    (hq : (s.time.sched.find? fun q => portOf q.req.party == some p && q.req.hseq == hseq) = some q) :
    ∃ d, exec (.schedExec p hseq) s = .next ((s.pass d).runSched q) :=
  ⟨_, by rw [exec_schedExec, execSchedExec, hq]⟩

end

/-- Settles O49: the time that passes until the edge leaves the quality, the schedule and the requests. -/
theorem actionAtItsEdge : Obligations.ActionAtItsEdge := by
  intro s p hseq q hq
  obtain ⟨d, he⟩ := exec_schedExec_passes s q hq
  exact ⟨fun hn hw => Does.intro he ((s.pass d).runSched_of_worse q hn hw),
    fun h => Does.intro he ((s.pass d).runSched_of_runs q h)⟩

end Sys2Proof.Machine
end

section
/-!
The journal (R382, R386, R387, R390 to R393): what programs, reads, the retention area and notes make of the state.
-/

set_option Elab.async false

namespace Sys2Proof.Machine

/-! ### What outputs leave of the journal -/

/-- The readers' cursors, the waiting reads and the copies asked for belong to one part. -/
theorem KM.readers_eq {m : Nat} {s t : State} (h : KM m s t) (b : m.testBit 33 = false := by decide) :
    t.journal.cursors = s.journal.cursors ∧ t.journal.waiting = s.journal.waiting ∧
      t.journal.retain = s.journal.retain := by
  have hlog : (_, _, _, _, _, _, _, _, _, _, _, _, _) = (_, _, _, _, _, _, _, _, _, _, _, _, _) := h.get .journalLog b
  simp only [Prod.mk.injEq] at hlog
  obtain ⟨-, -, -, -, -, hcursors, hwaiting, hretain, -⟩ := hlog
  exact ⟨hcursors, hwaiting, hretain⟩

section
variable (s : State)

theorem State.modNand_self (c : CoreId) (f : NandSt → NandSt) :
    (s.modNand c f).journal.nand[c] = f s.journal.nand[c] := updV_self ..

theorem State.modNand_other {c d : CoreId} (f : NandSt → NandSt) (h : c ≠ d) :
    (s.modNand c f).journal.nand[d] = s.journal.nand[d] := updV_other _ _ _ _ h

/-! ### Programs (R382, R386) -/

/-- What a program in progress depends on. -/
def NandSt.programView (n : NandSt) : Option (NandProgram × Nat) × Nat × List (Record × Nat) × Bool :=
  (n.program, n.failRun, n.image, n.faulted)

/-- The journal of a core as its programs see it. -/
def State.programView (s : State) (c : CoreId) : Option (NandProgram × Nat) × Nat × List (Record × Nat) × Bool :=
  s.journal.nand[c].programView

variable (c : CoreId)

theorem State.raise_programs (code : BitVec 10) (items : List Item) :
    (s.raise code items).programView c = s.programView c := by
  unfold State.programView
  rw [State.raise_nand]

theorem State.modNand_programs (f : NandSt → NandSt) (h : ∀ n, (f n).programView = n.programView) :
    (s.modNand c f).programView c = s.programView c := by
  unfold State.programView
  rw [s.modNand_self c f, h]

theorem State.recordCommitted_programs (r : Record) : (s.recordCommitted c r).programView c = s.programView c := by
  have hbody : ∀ u : State, (u = s ∨ (∃ code items, u = s.raise code items) ∨
      ∃ k, u = s.modNand c fun n => { n with lastShutdown := k }) → u.programView c = s.programView c := by
    rintro u (rfl | ⟨code, items, rfl⟩ | ⟨k, rfl⟩)
    · rfl
    · exact s.raise_programs c code items
    · exact s.modNand_programs c _ fun _ => rfl
  unfold State.recordCommitted
  extract_lets s1
  have h1 : s1.programView c = s.programView c := by
    refine hbody s1 ?_
    unfold s1
    split
    · exact .inr (.inr ⟨_, rfl⟩)
    · split
      · exact .inr (.inl ⟨_, _, rfl⟩)
      · exact .inl rfl
    · split
      · exact .inr (.inl ⟨_, _, rfl⟩)
      · exact .inl rfl
    · exact .inl rfl
  clear_value s1
  split
  · split
    · unfold State.programView at h1 ⊢
      rw [State.ok_nand, h1]
    · exact h1
  · exact h1

theorem State.commit_programs (n : Nat) : (s.commit c n).programView c =
    (s.journal.nand[c].program, s.journal.nand[c].failRun, s.journal.nand[c].image.drop n,
      s.journal.nand[c].faulted) := by
  unfold State.commit
  extract_lets x new page held dated
  rw [State.each_same (fun t => t.programView c) _ _ fun t r _ => t.recordCommitted_programs c r]
  unfold State.programView
  rw [State.modNand_self]
  rfl

/-- A tail image read back good is committed. -/
theorem State.programGood_tail {n : Nat} (h : s.journal.nand[c].program = some (.tail, n)) :
    (s.programGood c).programView c =
      (none, 0, s.journal.nand[c].image.drop n, s.journal.nand[c].faulted) := by
  unfold State.programGood
  rw [h]
  show (State.commit _ c n).programView c = _
  rw [State.commit_programs, State.modNand_self]

theorem State.retireBlock_programs (block : Nat) : (s.retireBlock c block).programView c = s.programView c := by
  unfold State.retireBlock
  extract_lets left s1
  have h1 : s1.programView c = s.programView c := by
    unfold s1
    rw [State.raise_programs]
    refine s.modNand_programs c _ fun n => ?_
    split <;> rfl
  split
  · rw [State.raise_programs, h1]
  · exact h1

/-- A page of the journal area not read back good stays in the image; the eighth failure in a row is the NAND's. -/
theorem State.programBad_journal {n : Nat} (page plane : Nat) (bad : Bool)
    (h : s.journal.nand[c].program = some (.journal, n)) :
    (s.programBad c page plane bad).programView c =
      (none, s.journal.nand[c].failRun + 1, s.journal.nand[c].image,
        s.journal.nand[c].faulted || s.journal.nand[c].failRun + 1 == 8) := by
  unfold State.programBad
  split
  next hp => exact absurd (hp.symm.trans h) (by simp)
  next kind k hp =>
  cases hp.symm.trans h
  extract_lets run s1 s2 s3 s4
  have h2 : s2.programView c = s.programView c := by
    unfold s2
    split
    · rw [State.retireBlock_programs]
      exact s.raise_programs c _ _
    · exact s.raise_programs c _ _
  have h3 : s3 = s2 := rfl
  simp only [State.programView, NandSt.programView, Prod.mk.injEq] at h2
  obtain ⟨-, -, himage, hfault⟩ := h2
  have h4 : s4.journal.nand[c] = { s2.journal.nand[c] with program := none, failRun := run } := by
    unfold s4
    rw [h3, State.modNand_self]
  clear_value s4
  split
  next h8 =>
    rw [State.raise_programs]
    show ((s4.modNand c fun x => { x with faulted := true })).programView c = _
    unfold State.programView
    rw [State.modNand_self, h4]
    simp only [NandSt.programView, himage]
    rw [show s.journal.nand[c].failRun + 1 = 8 from h8]
    simp [h8]
  next h8 =>
    unfold State.programView
    rw [h4]
    simp only [NandSt.programView, himage, hfault]
    rw [beq_eq_false_iff_ne.mpr (show s.journal.nand[c].failRun + 1 ≠ 8 from h8), Bool.or_false]

theorem State.startProgram_starts (kind : NandProgram) (hp : s.journal.nand[c].program = none)
    (hf : s.journal.nand[c].faulted = false) (hi : s.journal.nand[c].image ≠ []) :
    (s.startProgram c kind).journal.nand[c].program = some (kind, s.journal.nand[c].image.length) ∧
      (s.startProgram c kind).now = s.now := by
  unfold State.startProgram
  extract_lets x
  rw [if_neg (by simp [x, hp, hf, hi, -Fin.getElem_fin]), State.modNand_self]
  exact ⟨rfl, rfl⟩

theorem NandSt.image_of_oldest {n : NandSt} {priority : Bool} {t : Nat} (h : n.oldest priority = some t) :
    n.image ≠ [] := by
  intro hi
  simp [NandSt.oldest, hi] at h

end

/-! ### Reads (R390 to R392) -/

section
variable (s : State) (r : Req)

/-- A read changes no NAND, no waiting read, and no other reader's cursor. -/
theorem State.readNow_eq (reader : Fin 4) (mode area typeMask doorId count start : Nat) (bad : List Nat) :
    ∃ u : State, ∃ res, (s.readNow r reader mode area typeMask doorId count start bad).1 = u.ok r Opc.OP_JOURNAL_READ res ∧
      u.journal.waiting = s.journal.waiting ∧
      ∀ k : Fin 4, k ≠ reader → u.journal.cursors[k] = s.journal.cursors[k] := by
  unfold State.readNow
  extract_lets rs at_ copied port s1 s2 s3 s4 flags
  have h1 : KM 3003121664 s s1 := by
    unfold s1
    split
    · exact .refl
    · exact s.raise_keeps _ _
  have h12 : KM 3003121664 s1 s2 := .each .refl fun t n ht => ht.app (t.raise_keeps _ _) (by decide)
  obtain ⟨hc2, hw2, -⟩ := (h1.comp h12).readers_eq
  have h34 : KM 301989888 s3 s4 := by
    unfold s4
    split
    · exact .app .refl (s3.sendRecords_keeps _) (by decide)
    · exact .app .refl (s3.copyOut_keeps _ _) (by decide)
  obtain ⟨hc4, hw4, -⟩ := h34.readers_eq
  refine ⟨s4, _, rfl, ?_, ?_⟩
  · rw [hw4, ← hw2]
    unfold s3
    split <;> rfl
  · intro k hk
    rw [hc4, ← hc2]
    unfold s3
    split
    · exact updV_other _ _ _ _ hk.symm
    · rfl

/-- A read that is settled: its answer, and what it leaves. -/
theorem State.readNow_settles (reader : Fin 4) (mode area typeMask doorId count start : Nat) (bad : List Nat) :
    Answers (s.readNow r reader mode area typeMask doorId count start bad).1 r Opc.OP_JOURNAL_READ ST_OK 0 ∧
      (s.readNow r reader mode area typeMask doorId count start bad).1.journal.nand = s.journal.nand ∧
      (s.readNow r reader mode area typeMask doorId count start bad).1.journal.waiting = s.journal.waiting ∧
      ∀ k : Fin 4, k ≠ reader →
        (s.readNow r reader mode area typeMask doorId count start bad).1.journal.cursors[k] = s.journal.cursors[k] := by
  obtain ⟨u, res, he, hw, hc⟩ := s.readNow_eq r reader mode area typeMask doorId count start bad
  have hn := (s.readNow_keeps r reader mode area typeMask doorId count start bad).nand_eq
  obtain ⟨hcu, hwu, -⟩ := (u.ok_keeps r Opc.OP_JOURNAL_READ res).readers_eq
  rw [he] at hn ⊢
  rw [hwu, hcu]
  exact ⟨State.ok_answers _ _ _ _, hn, hw, hc⟩

/-- A read whose fields pass their checks waits, or is settled at once. -/
theorem State.doJournalRead_of_checked {reader : Fin 4} {mode area typeMask doorId count start wait : Nat}
    {bad : List Nat} (hm : mode ≤ 2) (ha : area ≤ 1) (hc : 1 ≤ count) (hc' : count ≤ 8192)
    (hb : r.party = .p2 ∨ r.bufLen = 128 * count) (hw : wait ≤ 10000) (hw' : mode = 2 ∨ wait = 0)
    (ho : s.notOwner r (.reader reader.val) = false) :
    s.doJournalRead r reader.val mode area typeMask doorId count start wait bad =
      if mode = 2 ∧ wait ≠ 0 ∧ !s.readReady r reader area typeMask doorId then
        s.modJournal fun j => { j with waiting := j.waiting ++ [{
          req := r, reader := reader, area := area, typeMask := typeMask, doorId := doorId, count := count,
          bufLen := r.bufLen, dueAt := s.now + wait * msec }] }
      else (s.readNow r reader mode area typeMask doorId count start bad).1 := by
  have hk : asFin 4 reader.val = some reader := dif_pos reader.isLt
  unfold State.doJournalRead
  extract_lets oc
  rw [hk]
  show ite _ _ _ = _
  rw [if_neg (by omega), if_neg (by omega), if_neg (by omega), if_neg (by tauto), if_neg (by omega),
    if_neg (by rw [ho]; exact Bool.false_ne_true)]

theorem State.endWait_settles (w : WaitingRead) :
    Answers (s.endWait w) w.req Opc.OP_JOURNAL_READ ST_OK 0 ∧
      (s.endWait w).journal.waiting = s.journal.waiting.filter (fun x => !(x == w)) ∧ (s.endWait w).now = s.now := by
  obtain ⟨hans, -, hw, -⟩ := State.readNow_settles
    (s.modJournal fun j => { j with waiting := j.waiting.filter fun x => !(x == w) }) w.req w.reader 2 w.area w.typeMask
    w.doorId w.count 0 []
  exact ⟨hans, hw, (s.endWait_keeps w).now_eq⟩

/-! ### Retention (R387) -/

theorem State.doJournalRetain_of_fits (first count : Nat) (hc : 1 ≤ count) (hl : s.lacksSetClaim r = false)
    (hh : s.journal.nand[s.activeCore].held ≠ []) (ho : oldestOf s.journal.nand[s.activeCore] ≤ first)
    (hn : first + count ≤ newestOf s.journal.nand[s.activeCore] + 1)
    (hfit : s.journal.nand[s.activeCore].retention.length + (s.journal.retain.foldl (fun k q => k + q.2.2) 0) + count
      ≤ retentionSize) :
    s.doJournalRetain r first count = s.modJournal fun j => { j with retain := j.retain ++ [(r, first, count)] } := by
  unfold State.doJournalRetain
  extract_lets oc n used
  have hempty : n.held.isEmpty = false := by simpa [n, -Fin.getElem_fin] using hh
  rw [if_neg (by omega), if_neg (by rw [hl]; exact Bool.false_ne_true), if_neg, if_neg]
  · simp only [used, n]
    omega
  · simp only [hempty, Bool.false_eq_true, or_false, n]
    omega

/-- The copies of a core's range end its retention area; the other core's stands. -/
theorem State.retainOn_retention (c : CoreId) (first count : Nat) :
    (s.pair.core[c].present = true → (s.retainOn c first count).journal.nand[c].retention =
      s.journal.nand[c].retention ++
        (s.journal.nand[c].area 0).filter fun x => decide (first ≤ x.number) && decide (x.number < first + count)) ∧
    ∀ d, c ≠ d → (s.retainOn c first count).journal.nand[d] = s.journal.nand[d] := by
  unfold State.retainOn
  split
  next h => exact ⟨fun hp => absurd h (by rw [hp]; exact Bool.false_ne_true), fun _ _ => rfl⟩
  next h =>
    extract_lets got s1
    have h1 : s1.journal.nand[c].retention = s.journal.nand[c].retention ++ got := by
      unfold s1
      rw [State.modNand_self]
    have hd : ∀ d, c ≠ d → s1.journal.nand[d] = s.journal.nand[d] := fun d hd => s.modNand_other _ hd
    clear_value s1
    split
    · have hn : ∀ items, (s1.raise Ev.JR_RETAIN items).journal.nand = s1.journal.nand := fun _ => State.raise_nand ..
      exact ⟨fun _ => (congrArg (fun v : Vector NandSt 2 => v[c].retention) (hn _)).trans h1,
        fun d hcd => (congrArg (fun v : Vector NandSt 2 => v[d]) (hn _)).trans (hd d hcd)⟩
    · exact ⟨fun _ => h1, hd⟩

theorem State.doJournalRelease_eq (h : s.lacksSetClaim r = false) :
    ∃ u : State, s.doJournalRelease r = u.ok r Opc.OP_JOURNAL_RELEASE [] ∧
      ∀ core : CoreId, u.journal.nand[core].retention = [] := by
  unfold State.doJournalRelease
  extract_lets oc n s1
  rw [if_neg (by rw [h]; exact Bool.false_ne_true)]
  refine ⟨_, rfl, fun core => ?_⟩
  rw [State.raise_nand]
  have h1 : s1 = (s.modNand 0 fun n => { n with retention := [] }).modNand 1 fun n => { n with retention := [] } := rfl
  rw [h1]
  match core with
  | 0 => rw [State.modNand_other _ _ (by decide), State.modNand_self]
  | 1 => rw [State.modNand_self]

/-! ### Notes (R393) -/

theorem State.doJournalNote_stages (code : BitVec 16) (text : List Byte) {p : PortId} (hp : portOf r.party = some p)
    (hn : s.journal.notes[p] < s.param 0x566) :
    (s.doJournalNote r code text).journal.stagedPrio = s.journal.stagedPrio ∧
      ∃ x, (s.doJournalNote r code text).journal.stagedOrd = s.journal.stagedOrd ++ [x] ∧ x.noteFor = some r ∧
        x.stamp = s.tai ∧ x.body = .note (BitVec.ofNat 8 (Party.code r.party)) code (slice text 0 44) := by
  unfold State.doJournalNote
  split
  next hnone => exact absurd (hnone.symm.trans hp) (by simp)
  next q hq =>
    cases hq.symm.trans hp
    extract_lets fresh sent s1
    have hsent : sent ≤ s.journal.notes[p] := by
      unfold sent
      split
      · exact Nat.zero_le _
      · exact Nat.le_refl _
    rw [if_neg (by omega)]
    exact ⟨rfl, _, rfl, rfl, rfl, rfl⟩

/-! ### The commands that first move the clock, and the copy that ends -/

theorem exec_priorityTailProgram_of_oldest {core : CoreId} {t : Nat} (h : s.journal.nand[core].oldest true = some t) :
    ∃ u : State, exec (.priorityTailProgram core) s = .next (u.startProgram core .tail) ∧ u.journal = s.journal ∧
      u.now = max s.now (t + msec) :=
  ⟨s.until (t + msec), by rw [exec_priorityTailProgram, execPriorityTailProgram, h], s.until_journal _, s.until_now _⟩

theorem exec_ordinaryWaitExpired_of_oldest {core : CoreId} {t : Nat}
    (h : s.journal.nand[core].oldest false = some t) :
    ∃ u : State, exec (.ordinaryWaitExpired core) s = .next (u.startProgram core .tail) ∧ u.journal = s.journal ∧
      u.now = max s.now (t + s.param 0x565 * msec) :=
  ⟨s.until (t + s.param 0x565 * msec), by rw [exec_ordinaryWaitExpired, execOrdinaryWaitExpired, h],
    s.until_journal _, s.until_now _⟩

theorem exec_journalReadWaitExpired_of_waiting {reader : Fin 4} {w : WaitingRead}
    (h : (s.journal.waiting.find? fun w => w.reader == reader) = some w) :
    ∃ u : State, exec (.journalReadWaitExpired reader) s = .next (u.endWait w) ∧ u.journal = s.journal ∧
      u.now = max s.now w.dueAt :=
  ⟨s.until w.dueAt, by rw [exec_journalReadWaitExpired, execJournalReadWaitExpired, h], s.until_journal _,
    s.until_now _⟩

/-- The running copy is done on both cores, and the next one runs. -/
theorem exec_retainCopyDone_of_running {q : Req} {first count : Nat} {rest : List (Req × Nat × Nat)}
    (h : s.journal.retain = (q, first, count) :: rest) :
    ∃ u : State, exec .retainCopyDone s = .next (u.ok q Opc.OP_JOURNAL_RETAIN []) ∧ u.journal.retain = rest ∧
      ∀ core : CoreId, s.pair.core[core].present = true → u.journal.nand[core].retention =
        s.journal.nand[core].retention ++
          (s.journal.nand[core].area 0).filter fun x => decide (first ≤ x.number) && decide (x.number < first + count) := by
  have hk0 := (s.modJournal fun j => { j with retain := rest }).retainOn_keeps 0 first count
  have hk1 := ((s.modJournal fun j => { j with retain := rest }).retainOn 0 first count).retainOn_keeps 1 first count
  have hk2 := (((s.modJournal fun j => { j with retain := rest }).retainOn 0 first count).retainOn 1 first
    count).raise_keeps Ev.JR_RETAIN [.u8 1, .u32 first, .u32 count]
  obtain ⟨h0, h0'⟩ := (s.modJournal fun j => { j with retain := rest }).retainOn_retention 0 first count
  obtain ⟨h1, h1'⟩ := ((s.modJournal fun j => { j with retain := rest }).retainOn 0 first count).retainOn_retention 1
    first count
  refine ⟨_, by rw [exec_retainCopyDone, execRetainCopyDone, h], ?_, fun core hp => ?_⟩
  · obtain ⟨-, -, hret⟩ := ((hk0.comp hk1).comp hk2).readers_eq
    exact hret
  · rw [State.raise_nand]
    match core, hp with
    | 0, hp => rw [h1' 0 (by decide), h0 hp]; rfl
    | 1, hp =>
      have hp' : ((s.modJournal fun j => { j with retain := rest }).retainOn 0 first count).pair.core[1].present
          = true := by
        have hcore : _ = s.pair.core := hk0.get .cores (by decide)
        rw [hcore]
        exact hp
      rw [h1 hp', h0' 1 (by decide)]
      rfl

end

/-- Settles O43: each row through its own operation on the journal. -/
theorem journalCompletes : Obligations.JournalCompletes := by
  intro s r
  refine ⟨fun core t0 ho hp hf => ?_, fun core t0 ho hp hf => ?_, fun core page plane bad n hp => ?_,
    fun core page bad n hp => ?_, fun reader mode area typeMask doorId count start bad hm ha hc hc' hb how => ?_,
    fun reader area typeMask doorId count start wait bad ha hc hc' hb how hw hw' hr => ?_, fun reader w hw => ?_,
    fun hb => ?_, fun first count hc hl hh ho hn hfit => ?_, fun q first count rest hq => ?_, fun hl => ?_,
    fun p code text hp hn => ?_⟩
  · obtain ⟨u, he, hj, hnow⟩ := exec_priorityTailProgram_of_oldest s ho
    rw [← hj] at ho hp hf ⊢
    obtain ⟨h1, h2⟩ := u.startProgram_starts core .tail hp hf (NandSt.image_of_oldest ho)
    exact Does.intro he ⟨h1, h2.trans hnow⟩
  · obtain ⟨u, he, hj, hnow⟩ := exec_ordinaryWaitExpired_of_oldest s ho
    rw [← hj] at ho hp hf ⊢
    obtain ⟨h1, h2⟩ := u.startProgram_starts core .tail hp hf (NandSt.image_of_oldest ho)
    exact Does.intro he ⟨h1, h2.trans hnow⟩
  · refine Does.intro (t := (s.programGood core).waitingTick) (exec_journalProgramDone ..) ?_
    have h := s.programGood_tail core hp
    simp only [State.programView, NandSt.programView, Prod.mk.injEq] at h
    obtain ⟨hprog, hrun, himage, -⟩ := h
    rw [(State.waitingTick_keeps _).nand_eq]
    exact ⟨hprog, hrun, himage⟩
  · refine Does.intro (t := (s.programBad core page 2 bad).waitingTick) (exec_journalProgramDone ..) ?_
    have h := s.programBad_journal core page 2 bad hp
    simp only [State.programView, NandSt.programView, Prod.mk.injEq] at h
    obtain ⟨hprog, hrun, himage, hfault⟩ := h
    rw [(State.waitingTick_keeps _).nand_eq]
    refine ⟨hprog, hrun, himage, fun h7 => ?_⟩
    rw [hfault, h7]
    exact Bool.or_true _
  · refine Does.intro (exec_opJournalRead ..) ?_
    rw [s.doJournalRead_of_checked r hm ha hc hc' hb (by omega) (.inr rfl) how, if_neg (by simp)]
    obtain ⟨hans, hnand, -, hcur⟩ := s.readNow_settles r reader mode area typeMask doorId count start bad
    exact ⟨hans, hnand, hcur⟩
  · refine Does.intro (exec_opJournalRead ..) ?_
    rw [s.doJournalRead_of_checked r (by omega) ha hc hc' hb hw' (.inl rfl) how,
      if_pos ⟨rfl, by omega, by rw [hr]; rfl⟩]
    rfl
  · obtain ⟨u, he, hj, hnow⟩ := exec_journalReadWaitExpired_of_waiting s hw
    obtain ⟨hans, hwait, hend⟩ := u.endWait_settles w
    exact Does.intro he ⟨hans, hwait.trans (by rw [hj]), hend.trans hnow⟩
  · refine Does.intro (exec_opJournalStatus ..) ⟨?_, (s.doJournalStatus_keeps r).nand_eq⟩
    unfold State.doJournalStatus
    extract_lets oc c n
    rw [if_neg (by omega)]
    exact State.ok_answers _ _ _ _
  · refine Does.intro (exec_opJournalRetain ..) ?_
    rw [s.doJournalRetain_of_fits r first count hc hl hh ho hn hfit]
    rfl
  · obtain ⟨u, he, hrest, hret⟩ := exec_retainCopyDone_of_running s hq
    obtain ⟨-, -, hkept⟩ := (u.ok_keeps q Opc.OP_JOURNAL_RETAIN []).readers_eq
    refine Does.intro he ?_
    rw [State.ok_nand, hkept]
    exact ⟨State.ok_answers _ _ _ _, hrest, hret⟩
  · obtain ⟨u, he, hret⟩ := s.doJournalRelease_eq r hl
    refine Does.intro (exec_opJournalRelease ..) ?_
    rw [he, State.ok_nand]
    exact ⟨State.ok_answers _ _ _ _, hret⟩
  · exact Does.intro (exec_opJournalNote ..) (s.doJournalNote_stages r code text hp hn)

end Sys2Proof.Machine
end

section
/-!
Firmware under update (R398 to R413): the pointer in force, the state of a slot, and what the update commands make of
them.
-/

set_option Elab.async false

namespace Sys2Proof.Machine

/-! ### The pointer in force (R398) -/

theorem updV_updV {α : Type} {n : Nat} (v : Vector α n) (i : Fin n) (f g : α → α) :
    updV (updV v i f) i g = updV v i fun x => g (f x) := by
  ext k hk
  simp only [updV_get]
  split <;> rfl

/-- A valid copy with the next seq written over the other one is in force. -/
theorem FirmSt.copy_of_next {f g : FirmSt} {c : Fin 2} {q : BootPtr} (hg : g.ptr = updV f.ptr (otherBank c) fun _ => q)
    (hv : q.valid = true) (hq : q.seq = f.ptr[c].seq + 1) : g.copy = otherBank c := by
  unfold FirmSt.copy
  rw [hg]
  match c with
  | 0 =>
    rw [show otherBank 0 = 1 from rfl, updV_self, updV_other _ _ _ _ (by decide), hv, hq]
    simp
  | 1 =>
    rw [show otherBank 1 = 0 from rfl, updV_self, updV_other _ _ _ _ (by decide), hv, hq]
    simp

theorem FirmSt.writePtr_copy (f : FirmSt) (p : BootPtr) : (f.writePtr p).copy = otherBank f.copy :=
  FirmSt.copy_of_next rfl rfl rfl

theorem FirmSt.writePtr_pointer (f : FirmSt) (p : BootPtr) :
    (f.writePtr p).pointer = { p with seq := f.pointer.seq + 1, valid := true } :=
  (congrArg (fun c : Fin 2 => (f.writePtr p).ptr[c]) (f.writePtr_copy p)).trans (updV_self ..)

section
variable (s : State)

/-! ### The state of a slot -/

theorem State.modFirm_self (k : Slot) (f : FirmSt → FirmSt) :
    (s.modFirm k f).update.firm[k] = f s.update.firm[k] := updV_self ..

theorem State.modFirm_other {k j : Slot} (f : FirmSt → FirmSt) (h : k ≠ j) :
    (s.modFirm k f).update.firm[j] = s.update.firm[j] := updV_other _ _ _ _ h

theorem State.updBecomes_update (k : Slot) (new : UpdState) :
    (s.updBecomes k new).update = (s.modFirm k fun f => { f with state := new }).update := by
  unfold State.updBecomes
  extract_lets old
  split
  next h =>
    have hid : updV s.update.firm k (fun f => { f with state := new }) = s.update.firm :=
      updV_of_same (by rw [← h])
    show s.update = { s.update with firm := updV s.update.firm k fun f => { f with state := new } }
    rw [hid]
  · rw [State.raise_update]

theorem State.updBecomes_self (k : Slot) (new : UpdState) :
    (s.updBecomes k new).update.firm[k] = { s.update.firm[k] with state := new } := by
  rw [s.updBecomes_update k new]
  exact s.modFirm_self k _

theorem State.updBecomes_other {k j : Slot} (new : UpdState) (h : k ≠ j) :
    (s.updBecomes k new).update.firm[j] = s.update.firm[j] := by
  rw [s.updBecomes_update k new]
  exact s.modFirm_other _ h

end

/-! ### The end of an activation -/

/-- A relation that every turn meets holds over all of them. -/
theorem State.each_related {α : Type} {R : State → State → Prop} (hrefl : ∀ s, R s s)
    (htrans : ∀ {s t u}, R s t → R t u → R s u) {f : State → α → State} (hf : ∀ s a, R s (f s a)) (l : List α)
    (s : State) : R s (s.each l f) := by
  unfold State.each
  induction l generalizing s with
  | nil => exact hrefl s
  | cons a l ih => exact htrans (hf s a) (ih (f s a))

/-- Slots that wait may become idle; nothing else about a slot changes. -/
def FreesWaiting (s t : State) : Prop :=
  ∀ k : Slot, t.update.firm[k] = s.update.firm[k] ∨
    (s.update.firm[k].state = .waiting ∧ t.update.firm[k] = { s.update.firm[k] with state := .idle })

namespace FreesWaiting
variable {s t u : State}

theorem of_eq (h : t.update.firm = s.update.firm) : FreesWaiting s t := fun k => .inl (by rw [h])

theorem trans (h : FreesWaiting s t) (g : FreesWaiting t u) : FreesWaiting s u := by
  intro k
  obtain hk | ⟨hw, hk⟩ := h k
  · obtain gk | ⟨gw, gk⟩ := g k
    · exact .inl (gk.trans hk)
    · rw [hk] at gw gk
      exact .inr ⟨gw, gk⟩
  · obtain gk | ⟨gw, -⟩ := g k
    · exact .inr ⟨hw, gk.trans hk⟩
    · rw [hk] at gw
      cases gw

theorem freeOne (s : State) (k : Slot) :
    FreesWaiting s (if s.update.firm[k].state = .waiting then s.updBecomes k .idle else s) := by
  split
  next hw =>
    intro j
    by_cases hj : k = j
    · subst hj
      exact .inr ⟨hw, s.updBecomes_self k .idle⟩
    · exact .inl (s.updBecomes_other .idle hj)
  · exact of_eq rfl

/-- The end of a command frees the slots that have not begun. -/
theorem endActivation (s : State) (st : Byte) (d : Nat) (res : List Byte) :
    FreesWaiting s (s.endActivation st d res) := by
  unfold State.endActivation
  split
  · exact of_eq rfl
  next a ha =>
    extract_lets s1
    have h1 : FreesWaiting s s1 := by
      refine (of_eq (t := s.modUpdate fun u => { u with activation := none }) rfl).trans ?_
      exact State.each_related (fun _ => of_eq rfl) trans freeOne _ _
    clear_value s1
    exact h1.trans (of_eq (by rw [State.complete_update]))

theorem state_idle (h : FreesWaiting s t) {k : Slot} (hk : s.update.firm[k].state = .idle) :
    t.update.firm[k] = s.update.firm[k] := by
  obtain h | ⟨hw, -⟩ := h k
  · exact h
  · rw [hk] at hw
    cases hw

/-- A type no slot of which is in an update stays so. -/
theorem typeBusy (h : FreesWaiting s t) {kind : Nat} (hb : s.typeBusy kind = none) : t.typeBusy kind = none := by
  unfold State.typeBusy at hb ⊢
  rw [List.find?_eq_none] at hb ⊢
  intro k hk hbusy
  refine hb k hk ?_
  obtain he | ⟨hw, he⟩ := h k
  · rw [he] at hbusy
    exact hbusy
  · rw [he] at hbusy
    simp at hbusy

end FreesWaiting

end Sys2Proof.Machine
end

section
/-!
The update commands (R399 to R402, R404 to R408, R413): download, check, activation, confirmation, and giving up.
-/

set_option Elab.async false

namespace Sys2Proof.Machine

section
variable (s : State) (r : Req)

/-! ### Download and check (R399 to R401) -/

theorem maxBody_of_header {h : List Byte} (hf : headerFail h = none) : maxBody (hdrType h) ≠ 0 := by
  unfold headerFail at hf
  split at hf
  · cases hf
  · split at hf
    · cases hf
    next hm => exact hm

theorem asFin_of_staged {kind : Nat} {g : Staged} (h : s.staged kind = some g) :
    ∃ i : Fin 7, asFin 7 kind = some i := by
  unfold State.staged at h
  split at h
  next i hi => exact ⟨i, hi⟩
  · cases h

/-- The staged image of a type that has one is replaced. -/
theorem State.stagedBecomes_of_staged {kind : Nat} {g : Staged} (h : s.staged kind = some g) (g' : Option Staged) :
    (s.stagedBecomes kind g').staged kind = g' := by
  obtain ⟨i, hi⟩ := asFin_of_staged s h
  have hset : (s.setStaged kind g').staged kind = g' := by
    simp only [State.setStaged, State.staged, hi, State.modUpdate_update]
    exact updV_self ..
  unfold State.stagedBecomes
  extract_lets old s1
  split
  · exact hset
  · exact (State.staged_congr (congrArg UpdateSt.staged (State.raise_update ..)) kind).trans hset

theorem State.ok_staged (oc : BitVec 15) (res : List Byte) (kind : Nat) :
    (s.ok r oc res).staged kind = s.staged kind :=
  State.staged_congr (congrArg UpdateSt.staged (State.ok_update ..)) kind

/-- A download begins (R400). -/
theorem State.doUpdateBegin_of_new {buf h : List Byte} (hd : s.updDenied r = false) (hl : r.bufLen = 256)
    (hb : r.buf = some buf) (hh : h = slice buf 0 256) (hf : headerFail h = none)
    (hsec : s.secCounter (hdrType h) ≤ hdrSec h) (hs : s.staged (hdrType h) = none) (ho : s.downloadOpen = false)
    (hbusy : s.typeBusy (hdrType h) = none) :
    ∃ res, s.doUpdateBegin r = ((s.stagedBecomes (hdrType h) (some { header := h })).modUpdate fun u =>
      { u with download := some (hdrType h) }).ok r Opc.OP_UPDATE_BEGIN res := by
  subst hh
  simp only [State.doUpdateBegin, hl, ne_eq, not_true_eq_false, if_false, hd, Bool.false_eq_true, hb, hf, hs, ho, hbusy,
    if_neg (Nat.not_lt.mpr hsec)]
  exact ⟨_, rfl⟩

theorem Staged.chunk_of_find {g : Staged} {index : Nat} {c : List Byte} (chunks : List (Nat × List Byte))
    (h : g.chunks = chunks.filter (fun x => x.1 != index) ++ [(index, c)]) : g.chunk index = some c := by
  have hnone : (chunks.filter fun x => x.1 != index).find? (fun x => x.1 == index) = none := by
    rw [List.find?_eq_none]
    intro x hx
    have := (List.mem_filter.mp hx).2
    simpa using this
  unfold Staged.chunk
  rw [h, List.find?_append, hnone]
  simp

/-- A chunk whose hash holds is held (R400). -/
theorem State.doUpdateChunk_of_good {index kind : Nat} {hash data : List Byte} {g : Staged}
    (hd : s.updDenied r = false) (hk : s.update.download = some kind) (hg : s.staged kind = some g)
    (hi : index < hdrChunks g.header) (hl : r.bufLen = chunkLen g.header index) (hb : r.buf = some data)
    (hh : sha256 (slice data 0 r.bufLen) = slice hash 0 32) :
    ∃ g' res, s.doUpdateChunk r index hash = (s.stagedBecomes kind (some g')).ok r Opc.OP_UPDATE_CHUNK res ∧
      g'.header = g.header ∧ g'.chunk index = some (slice data 0 r.bufLen) := by
  unfold State.doUpdateChunk
  extract_lets oc
  rw [hk]
  simp only [hd, Bool.false_eq_true, if_false, hg, if_neg (Nat.not_le.mpr hi), hl, ne_eq, not_true_eq_false, hb]
  rw [hl] at hh
  rw [if_neg (by rw [hh]; exact fun h => h rfl)]
  refine ⟨_, _, rfl, ?_, ?_⟩
  · split <;> rfl
  · split
    next hs => simpa using hs
    · exact Staged.chunk_of_find g.chunks rfl

theorem State.doUpdateChunk_of_bad {index kind : Nat} {hash data : List Byte} {g : Staged}
    (hd : s.updDenied r = false) (hk : s.update.download = some kind) (hg : s.staged kind = some g)
    (hi : index < hdrChunks g.header) (hl : r.bufLen = chunkLen g.header index) (hb : r.buf = some data)
    (hh : sha256 (slice data 0 r.bufLen) ≠ slice hash 0 32) :
    s.doUpdateChunk r index hash =
      (s.raise Ev.UD_CHUNK_FAIL [.u8 kind, .u16 index]).fail r Opc.OP_UPDATE_CHUNK ST_CHUNK index := by
  unfold State.doUpdateChunk
  extract_lets oc
  rw [hk]
  simp only [hd, Bool.false_eq_true, if_false, hg, if_neg (Nat.not_le.mpr hi), hl, ne_eq, not_true_eq_false, hb]
  rw [hl] at hh
  rw [if_pos hh]

/-- The check of an image whose checks hold (R401). -/
theorem State.doUpdateVerify_holds {kind : Nat} {g : Staged} (hk : maxBody kind ≠ 0) (hd : s.updDenied r = false)
    (hg : s.staged kind = some g) (hf : s.verifyFail g = none) :
    s.doUpdateVerify r kind =
      (s.stagedBecomes kind (some { g with verified := true })).ok r Opc.OP_UPDATE_VERIFY [] := by
  simp only [State.doUpdateVerify, if_neg hk, hd, Bool.false_eq_true, if_false, hg, hf]

/-! ### Activation (R402) -/

/-- Every slot of the list waits. -/
theorem State.each_waiting (l : List Slot) :
    (∀ k ∈ l, (s.each l fun s k => s.updBecomes k .waiting).update.firm[k].state = .waiting) ∧
      (∀ j, j ∉ l → (s.each l fun s k => s.updBecomes k .waiting).update.firm[j] = s.update.firm[j]) ∧
      (s.each l fun s k => s.updBecomes k .waiting).update.activation = s.update.activation ∧
      (s.each l fun s k => s.updBecomes k .waiting).update.asOne = s.update.asOne := by
  refine ⟨fun k hk => ?_, fun j hj => ?_, ?_, ?_⟩
  · refine State.each_brings (P := fun t => t.update.firm[k].state = .waiting) hk (fun t => ?_) (fun t ht b _ => ?_) s
    · rw [t.updBecomes_self]
    · by_cases hb : b = k
      · subst hb
        rw [t.updBecomes_self]
      · rw [t.updBecomes_other _ hb]
        exact ht
  · exact State.each_same (fun t => t.update.firm[j]) _ _
      (fun t k hk => t.updBecomes_other _ fun h => hj (h ▸ hk)) s
  · exact State.each_same (fun t => t.update.activation) _ _
      (fun t k _ => by rw [t.updBecomes_update k]; rfl) s
  · exact State.each_same (fun t => t.update.asOne) _ _
      (fun t k _ => by rw [t.updBecomes_update k]; rfl) s

/-- While another slot runs its update, none begins. -/
theorem State.startSlot_of_runs {k j : Slot} (hj : s.updRuns j = true) (hne : j ≠ k) (ho : s.update.asOne = false) :
    s.startSlot k = s := by
  have hturn : s.updTurn k = false := by
    have hall : ((List.finRange 14).all fun j =>
        j == k || !s.updRuns j || (s.update.asOne && imgType j == 1 && imgType k == 1)) = false := by
      rw [List.all_eq_false]
      exact ⟨j, List.mem_finRange j, by simp [hj, hne, ho]⟩
    unfold State.updTurn
    rw [hall, Bool.and_false, Bool.false_and]
  unfold State.startSlot
  rw [hturn]
  rfl

theorem State.each_startSlot_of_runs {j : Slot} (hj : s.updRuns j = true) (ho : s.update.asOne = false)
    (l : List Slot) (hl : j ∉ l) : s.each l State.startSlot = s := by
  unfold State.each
  induction l with
  | nil => rfl
  | cons k l ih =>
    rw [List.foldl_cons, s.startSlot_of_runs hj (fun h => hl (h ▸ List.mem_cons_self)) ho]
    exact ih fun h => hl (List.mem_cons_of_mem k h)

theorem State.updRuns_congr {t : State} {j : Slot} (h : t.update.firm[j] = s.update.firm[j]) :
    t.updRuns j = s.updRuns j := by
  unfold State.updRuns
  rw [h]

theorem mask_in_range {mask : BitVec 16} (hm : mask ≠ 0) (hm' : mask.toNat < 2 ^ 14) :
    ¬ (decide (mask = 0) || decide (2 ^ 14 ≤ mask.toNat)) = true := by
  rw [decide_eq_false hm, decide_eq_false (Nat.not_le.mpr hm')]
  exact Bool.false_ne_true

/-- An activation taken while another slot's update runs: its slots wait (R402). -/
theorem State.doUpdateActivate_of_running {kind : Nat} {mask : BitVec 16} {g : Staged} {j : Slot}
    (hd : s.updDenied r = false) (hk : maxBody kind ≠ 0) (hm : mask ≠ 0) (hm' : mask.toNat < 2 ^ 14)
    (hst : s.supply.onStore = false) (ha : s.update.activation = none)
    (hidle : ∀ k ∈ maskSlots mask.toNat, s.update.firm[k].state = .idle) (hg : s.staged kind = some g)
    (hv : g.verified = true) (hfit : ∀ k ∈ maskSlots mask.toNat, s.slotUnfit k g.header = none)
    (hpair : s.needsPairUpdate kind g.header = false) (hj : s.updRuns j = true) :
    (s.doUpdateActivate r kind mask).update.activation =
        some { req := r, kind := kind, slots := maskSlots mask.toNat, first := maskSlots mask.toNat } ∧
      ∀ k ∈ maskSlots mask.toNat, (s.doUpdateActivate r kind mask).update.firm[k].state = .waiting := by
  have hfind : ((maskSlots mask.toNat).find? fun k => s.update.firm[k].state != .idle) = none := by
    rw [List.find?_eq_none]
    intro k hk
    rw [hidle k hk]
    decide
  have hsome : ((maskSlots mask.toNat).findSome? fun k => s.slotUnfit k g.header) = none :=
    List.findSome?_eq_none_iff.mpr hfit
  have hnot : j ∉ maskSlots mask.toNat := by
    intro hmem
    have := hidle j hmem
    unfold State.updRuns at hj
    rw [this] at hj
    cases hj
  unfold State.doUpdateActivate
  extract_lets oc slots fitted
  rw [if_neg hk, if_neg (mask_in_range hm hm'), if_neg (by rw [hd]; exact Bool.false_ne_true),
    if_neg (by rw [hst]; exact Bool.false_ne_true), if_neg (by rw [ha]; exact Bool.false_ne_true)]
  split
  next k hfound => exact absurd (hfind.symm.trans hfound) (by simp)
  split
  next hnone => exact absurd (hg.symm.trans hnone) (by simp)
  next g' hg' =>
  cases hg.symm.trans hg'
  rw [if_neg (by simp [hv])]
  split
  next n hfound => exact absurd (hsome.symm.trans hfound) (by simp)
  extract_lets pair s1 s2
  have hp : pair = false := hpair
  rw [if_neg (by simp [hp]), if_neg (by simp [hp])]
  obtain ⟨hwait, hother, hact, hone⟩ := s1.each_waiting slots
  have hruns : s2.updRuns j = true := (s.updRuns_congr (hother j hnot)).trans hj
  have hone2 : s2.update.asOne = false := hone.trans hp
  rw [s2.each_startSlot_of_runs hruns hone2 _ fun h => hnot (by simpa using (List.mem_filter.mp h).2)]
  exact ⟨hact, hwait⟩

/-! ### Confirmation (R404) -/

/-- What every turn keeps stands after all of them. -/
theorem State.each_keeps_prop {α : Type} {P : State → Prop} {f : State → α → State}
    (hf : ∀ t a, P t → P (f t a)) (l : List α) {s : State} (h : P s) : P (s.each l f) :=
  State.each_related (R := fun s t => P s → P t) (fun _ => id) (fun h g => g ∘ h) hf l s h

/-- The slot is idle on an image that is no trial. -/
def State.confirmed (s : State) (k : Slot) : Prop :=
  s.update.firm[k].state = .idle ∧ s.update.firm[k].pointer.trial = false

theorem State.releaseStaged_firm (kind : Nat) : (s.releaseStaged kind).update.firm = s.update.firm := by
  have hset : (s.setStaged kind none).update.firm = s.update.firm := by
    unfold State.setStaged
    split <;> rfl
  have hbec : (s.stagedBecomes kind none).update.firm = s.update.firm := by
    unfold State.stagedBecomes
    extract_lets old s1
    split
    · exact hset
    · rw [State.raise_update]
      exact hset
  unfold State.releaseStaged
  split
  · rfl
  · exact hbec

/-- What a confirmation makes of the slots. -/
theorem State.confirmOne_firm (k : Slot) (how : Nat) : ∃ p : BootPtr, p.trial = false ∧
    (s.confirmOne k how).update.firm = updV s.update.firm k fun f => { f.writePtr p with state := .idle } := by
  unfold State.confirmOne
  extract_lets kind f img sv old s1 s2 s3
  have h1 : s1.update.firm = updV s.update.firm k fun f => { f.writePtr { f.pointer with
      trial := false, tries := 0, minSec := max f.pointer.minSec sv } with state := .idle } := by
    unfold s1
    rw [State.updBecomes_update, State.modFirm_update_firm, State.modFirm_update_firm, updV_updV]
  have h2 : s2.update.firm = s1.update.firm := by
    unfold s2
    split <;> rfl
  have h3 : s3.update.firm = s2.update.firm := by
    unfold s3
    split
    · rw [State.raise_update]
    · rfl
  refine ⟨{ f.pointer with trial := false, tries := 0, minSec := max f.pointer.minSec sv }, rfl, ?_⟩
  rw [State.raise_update, State.releaseStaged_firm, h3, h2, h1]
  exact updV_congr rfl

theorem State.confirmOne_self (k : Slot) (how : Nat) : (s.confirmOne k how).confirmed k := by
  obtain ⟨p, hp, h⟩ := s.confirmOne_firm k how
  unfold State.confirmed
  rw [h]
  have hk : (updV s.update.firm k fun f => { f.writePtr p with state := .idle })[k] = _ := updV_self ..
  refine ⟨?_, ?_⟩
  · rw [hk]
  · rw [hk]
    exact (congrArg BootPtr.trial (FirmSt.writePtr_pointer s.update.firm[k] p)).trans hp

theorem State.confirmOne_other {k j : Slot} (how : Nat) (hj : k ≠ j) :
    (s.confirmOne k how).update.firm[j] = s.update.firm[j] := by
  obtain ⟨p, -, h⟩ := s.confirmOne_firm k how
  rw [h]
  exact updV_other _ _ _ _ hj

/-- A slot that is on trial or confirmed stays so. -/
def State.settled (s : State) (k : Slot) : Prop := s.update.firm[k].state = .trial ∨ s.confirmed k

theorem State.confirmOne_confirmed {k j : Slot} (how : Nat) (h : s.confirmed j) :
    (s.confirmOne k how).confirmed j := by
  by_cases hj : k = j
  · subst hj
    exact s.confirmOne_self k how
  · unfold State.confirmed at h ⊢
    rw [s.confirmOne_other how hj]
    exact h

theorem State.confirmOne_settled {k j : Slot} (how : Nat) (h : s.settled j) : (s.confirmOne k how).settled j := by
  by_cases hj : k = j
  · subst hj
    exact .inr (s.confirmOne_self k how)
  · unfold State.settled State.confirmed at h ⊢
    rw [s.confirmOne_other how hj]
    exact h

/-- Confirming a slot on trial, alone or with its partner, confirms it and leaves the others settled. -/
theorem State.confirmSlot_confirmed {k : Slot} (how : Nat) (h : s.update.firm[k].state = .trial) :
    (s.confirmSlot k how).confirmed k := by
  unfold State.confirmSlot
  extract_lets ks
  have hk : k ∈ ks := by
    unfold ks
    split
    next hc =>
      refine List.mem_filter.mpr ⟨?_, by rw [h]; rfl⟩
      have hone : imgType k = 1 := by simp at hc; exact hc.2
      revert hone
      fin_cases k <;> decide
    · exact List.mem_singleton.mpr rfl
  exact State.each_brings (P := fun t => t.confirmed k) hk (fun t => t.confirmOne_self k how)
    (fun t ht b _ => t.confirmOne_confirmed how ht) s

theorem State.confirmSlot_settled {k j : Slot} (how : Nat) (h : s.settled j) :
    (s.confirmSlot k how).settled j ∧ (s.confirmed j → (s.confirmSlot k how).confirmed j) := by
  unfold State.confirmSlot
  extract_lets ks
  have hs : (s.each ks fun s k => s.confirmOne k how).settled j :=
    State.each_keeps_prop (P := fun t => t.settled j) (fun t k ht => t.confirmOne_settled how ht) _ h
  exact ⟨hs, fun hc => State.each_keeps_prop (P := fun t => t.confirmed j) (fun t k ht => t.confirmOne_confirmed how ht) _ hc⟩

/-- Each slot in its turn of a confirmation by command. -/
def State.confirmTurn (s : State) (k : Slot) : State :=
  if s.update.firm[k].state = .trial then s.confirmSlot k 1 else s

theorem State.confirmTurn_settled (k : Slot) {j : Slot} (h : s.settled j) :
    (s.confirmTurn k).settled j ∧ (s.confirmed j → (s.confirmTurn k).confirmed j) := by
  unfold State.confirmTurn
  split
  · exact s.confirmSlot_settled 1 h
  · exact ⟨h, id⟩

theorem State.confirmTurn_confirmed {k : Slot} (h : s.settled k) : (s.confirmTurn k).confirmed k := by
  unfold State.confirmTurn
  split
  next ht => exact s.confirmSlot_confirmed 1 ht
  next ht => exact h.resolve_left ht

/-- After every slot's turn each is confirmed. -/
theorem State.each_confirmTurn (l : List Slot) (h : ∀ k ∈ l, s.settled k) :
    ∀ k ∈ l, (s.each l State.confirmTurn).confirmed k := by
  intro k hk
  obtain ⟨before, after, rfl⟩ := List.append_of_mem hk
  have hb : (s.each before State.confirmTurn).settled k :=
    State.each_keeps_prop (P := fun t => t.settled k) (fun t j ht => (t.confirmTurn_settled j ht).1) _ (h k hk)
  have hc := State.confirmTurn_confirmed _ hb
  have ha := State.each_keeps_prop (P := fun t => t.confirmed k)
    (fun t j ht => (t.confirmTurn_settled j (.inr ht)).2 ht) after hc
  unfold State.each at ha ⊢
  rw [List.foldl_append, List.foldl_cons]
  exact ha

theorem State.doUpdateConfirm_eq {mask : BitVec 16} (hd : s.updDenied r = false) (hm : mask ≠ 0)
    (hm' : mask.toNat < 2 ^ 14) (hc : ∀ k ∈ maskSlots mask.toNat, s.mayConfirm k = true) :
    ∃ res, s.doUpdateConfirm r mask =
      (s.each (maskSlots mask.toNat) State.confirmTurn).ok r Opc.OP_UPDATE_CONFIRM res := by
  have hfind : ((maskSlots mask.toNat).find? fun k => !s.mayConfirm k) = none := by
    rw [List.find?_eq_none]
    intro k hk
    rw [hc k hk]
    decide
  unfold State.doUpdateConfirm
  extract_lets oc slots
  rw [if_neg (mask_in_range hm hm'), if_neg (by rw [hd]; exact Bool.false_ne_true)]
  split
  next k hfound => exact absurd (hfind.symm.trans hfound) (by simp)
  · exact ⟨_, rfl⟩

theorem State.settled_of_mayConfirm {k : Slot} (h : s.mayConfirm k = true) : s.settled k := by
  unfold State.mayConfirm at h
  simp only [Bool.and_eq_true, beq_iff_eq] at h
  exact .inl h.1.1.1

/-! ### Giving up (R408) -/

theorem State.releaseStaged_staged {kind : Nat} (hk : maxBody kind ≠ 0) (hb : s.typeBusy kind = none) :
    (s.releaseStaged kind).staged kind = none := by
  unfold State.releaseStaged
  rw [hb]
  exact State.stagedBecomes_staged (s := s) hk none

theorem State.doUpdateAbort_of_all {kind : Nat} (hk : maxBody kind ≠ 0) (hd : s.updDenied r = false)
    (hb : s.typeBusy kind = none) :
    ∃ u : State, s.doUpdateAbort r kind 0 = (u.releaseStaged kind).ok r Opc.OP_UPDATE_ABORT [] ∧
      u.typeBusy kind = none := by
  have hslots : maskSlots (0 : BitVec 16).toNat = [] := by decide
  unfold State.doUpdateAbort
  extract_lets oc slots discard ours s1 s2
  have hs : slots = [] := hslots
  rw [if_neg hk, if_neg (by rw [hs]; simp), if_neg (by rw [hd]; exact Bool.false_ne_true)]
  have hdisc : discard = true := by
    unfold discard
    rw [hs]
    rfl
  have h1 : FreesWaiting s s1 := by
    unfold s1
    split
    · exact .endActivation _ _ _ _
    · exact .of_eq rfl
  have h2 : s2 = s1 := by
    unfold s2
    rw [hs]
    rfl
  rw [if_pos hdisc]
  exact ⟨s2, rfl, by rw [h2]; exact h1.typeBusy hb⟩

end

/-- Settles O44: each command through the operation that answers it. -/
theorem updateCommandsComplete : Obligations.UpdateCommandsComplete := by
  intro s r
  refine ⟨fun hd => ⟨fun buf h hl hb hh hf hsec hs ho hbusy => ?_, fun index hash kind g data hk hg hi hl hb => ?_,
    fun kind g hk hg => ?_, fun kind mask g j hk hm hm' hst ha hidle hg hv hfit hpair hj => ?_,
    fun mask hm hm' hc => ?_, fun kind hk hb => ?_⟩, fun hb => ?_, fun b hl hb hkey => ?_⟩
  · obtain ⟨res, he⟩ := s.doUpdateBegin_of_new r hd hl hb hh hf hsec hs ho hbusy
    refine Does.intro (exec_opUpdateBegin s r) ?_
    rw [he, State.ok_staged, State.ok_update]
    exact ⟨State.ok_answers _ _ _ _, State.stagedBecomes_staged (s := s) (maxBody_of_header hf) _, rfl⟩
  · refine Does.intro (exec_opUpdateChunk s r index hash) ?_
    split
    next hh =>
      obtain ⟨g', res, he, hhead, hchunk⟩ := s.doUpdateChunk_of_good r hd hk hg hi hl hb hh
      rw [he]
      refine ⟨State.ok_answers _ _ _ _, g', ?_, hhead, hchunk⟩
      rw [State.ok_staged]
      exact s.stagedBecomes_of_staged hg _
    next hh =>
      rw [s.doUpdateChunk_of_bad r hd hk hg hi hl hb hh]
      exact ⟨State.fail_answers _ _ _ _ _, by rw [State.fail_update, State.raise_update]⟩
  · refine Does.intro (exec_opUpdateVerify s r kind) ?_
    cases hf : s.verifyFail g with
    | none =>
      rw [s.doUpdateVerify_holds r hk hd hg hf, State.ok_staged]
      exact ⟨State.stagedBecomes_staged (s := s) hk _, State.ok_answers _ _ _ _⟩
    | some f =>
      obtain ⟨st, detail, why⟩ := f
      obtain ⟨hans, hstaged⟩ := State.doUpdateVerify_fails hk hd hg hf
      exact ⟨hstaged, hans⟩
  · exact Does.intro (exec_opUpdateActivate s r kind mask)
      (s.doUpdateActivate_of_running r hd hk hm hm' hst ha hidle hg hv hfit hpair hj)
  · obtain ⟨res, he⟩ := s.doUpdateConfirm_eq r hd hm hm' hc
    refine Does.intro (exec_opUpdateConfirm s r mask) ?_
    rw [he, State.ok_update]
    exact ⟨State.ok_answers _ _ _ _, s.each_confirmTurn _ fun k hk => s.settled_of_mayConfirm (hc k hk)⟩
  · obtain ⟨u, he, hfree⟩ := s.doUpdateAbort_of_all r hk hd hb
    refine Does.intro (exec_opUpdateAbort s r kind 0) ?_
    rw [he, State.ok_staged]
    exact ⟨State.ok_answers _ _ _ _, u.releaseStaged_staged hk hfree⟩
  · refine Does.intro (exec_opUpdateStatus s r) ?_
    unfold State.doUpdateStatus
    extract_lets oc kind s1
    have h1 : s1.update.firm = s.update.firm := by
      unfold s1
      split
      · rfl
      · exact (s.copyOut_keeps r _).firm_eq
    rw [if_neg (by simp; omega), State.ok_update, h1]
    exact ⟨State.ok_answers _ _ _ _, rfl⟩
  · refine Does.intro (exec_opKeyProvision s r) ?_
    have he : s.doKeyProvision r = if (slice b 68 64).all fun x => x == 0 then
        ((s.modUpdate fun u => { u with key := some { key := slice b 0 64, ident := BitVec.ofNat 32 (u32At b 64) } }).raise
          Ev.UD_KEY [.u8 1, .u32 (u32At b 64)]).ok r Opc.OP_KEY_PROVISION (leBytes 4 (u32At b 64))
      else s.fail r Opc.OP_KEY_PROVISION ST_SIGNATURE 2 := by
      unfold State.doKeyProvision
      rw [if_neg (by simp [hl]), hb]
      simp only [hkey]
    rw [he]
    split
    · refine ⟨State.ok_answers _ _ _ _, ?_⟩
      rw [State.ok_update, State.raise_update]
      rfl
    · refine ⟨State.fail_answers _ _ _ _ _, ?_⟩
      rw [State.fail_update, hkey]

end Sys2Proof.Machine
end

section
/-!
What happens to a slot under update (R398, R402 to R406): it leaves service and keeps its state, its module restarts on
the image its pointer names, and its trial ends.
-/

set_option Elab.async false

namespace Sys2Proof.Machine

theorem State.firm_congr {s t : State} (h : t.update.firm = s.update.firm) (k : Slot) :
    t.update.firm[k] = s.update.firm[k] := by rw [h]

section
variable (s : State) (k : Slot)

/-! ### What leaves the firmware alone -/

theorem State.outForUpdate_firm : (s.outForUpdate k).update.firm = s.update.firm := (s.outForUpdate_keeps k).firm_eq

theorem State.restartModule_self :
    (s.restartModule k).update.firm[k] = { s.update.firm[k] with restarting := true, workTaken := false } := by
  unfold State.restartModule
  rw [(State.reIdentify_keeps _ k).firm_eq]
  exact s.modFirm_self k _

/-- Leaving service for an update does not end the update. -/
theorem State.leaveForUpdate_state :
    (s.leaveForUpdate k).update.firm[k].state = s.update.firm[k].state := by
  unfold State.leaveForUpdate
  extract_lets t s1
  have ht : t.update.firm[k].state = s.update.firm[k].state := by
    unfold t
    rw [State.modFirm_self]
    rfl
  have h1 : s1.update.firm[k].state = s.update.firm[k].state := by
    unfold s1
    split
    · rfl
    · split
      · exact (congrArg FirmSt.state (State.firm_congr (t.takeWork_keeps k).firm_eq k)).trans ht
      · exact ht
  clear_value s1
  split
  · exact (congrArg FirmSt.state (State.firm_congr (s1.outForUpdate_firm k) k)).trans h1
  · exact h1

theorem State.activationFails_self (st : Byte) (d : Nat) :
    (s.activationFails k st d).update.firm[k] = { s.update.firm[k] with state := .idle } := by
  have hidle := s.updBecomes_self k .idle
  unfold State.activationFails
  rw [(FreesWaiting.endActivation (s.updBecomes k .idle) st d []).state_idle (by rw [hidle]), hidle]

/-! ### The start of a slot (R402) -/

theorem State.startSlot_of_turn {g : Staged} (ht : s.updTurn k = true) (hst : s.supply.onStore = false)
    (hg : s.staged (imgType k) = some g) (ho : s.update.asOne = false) (hgate : s.updGate k = true)
    (hdrop : s.needsDrop k = false) (hk : k ≠ coreSlot s.activeCore) :
    s.startSlot k = match s.verifyFail g with
      | some (st, detail, why) => (s.raise Ev.UD_VERIFY_FAIL [.u8 k.val, .u8 why]).activationFails k st detail
      | none => ((s.updBecomes k .writing).modFirm k fun f => { f with
          outAt := s.now, fails := 0, trialRun := 0, reported := false, workTaken := false, armedAt := none }).leaveForUpdate
          k := by
  have hk' : (k == coreSlot s.activeCore) = false := beq_eq_false_iff_ne.mpr hk
  cases hf : s.verifyFail g <;>
    simp only [State.startSlot, ht, hst, hg, ho, hgate, hdrop, hk', hf, Bool.not_true, Bool.not_false, Bool.false_and,
      Bool.and_false, Bool.false_eq_true, if_false]

theorem State.startSlot_state {g : Staged} (ht : s.updTurn k = true) (hst : s.supply.onStore = false)
    (hg : s.staged (imgType k) = some g) (ho : s.update.asOne = false) (hgate : s.updGate k = true)
    (hdrop : s.needsDrop k = false) (hk : k ≠ coreSlot s.activeCore) :
    (s.startSlot k).update.firm[k].state = if (s.verifyFail g).isNone then .writing else .idle := by
  rw [s.startSlot_of_turn k ht hst hg ho hgate hdrop hk]
  cases s.verifyFail g with
  | some f => exact congrArg FirmSt.state (State.activationFails_self _ k _ _)
  | none =>
    refine (State.leaveForUpdate_state _ k).trans ?_
    rw [State.modFirm_self]
    exact congrArg FirmSt.state (s.updBecomes_self k .writing)

/-! ### The bank write (R406) -/

/-- The bank and the pointer an update writes. -/
def FirmSt.written (f : FirmSt) (g : Staged) : FirmSt :=
  ({ f with banks := updV f.banks f.spare fun _ => g.image }).writePtr
    { f.pointer with bank := f.spare, trial := true, tries := 0 }

theorem FirmSt.written_written (f : FirmSt) (g : Staged) :
    (f.written g).banks[f.spare] = g.image ∧ (f.written g).pointer.bank = f.spare ∧
      (f.written g).pointer.trial = true ∧ (f.written g).pointer.tries = 0 := by
  have hp := FirmSt.writePtr_pointer ({ f with banks := updV f.banks f.spare fun _ => g.image })
    { f.pointer with bank := f.spare, trial := true, tries := 0 }
  exact ⟨updV_self .., congrArg BootPtr.bank hp, congrArg BootPtr.trial hp, congrArg BootPtr.tries hp⟩

theorem State.bankWritten_good {g : Staged} (hw : s.update.firm[k].state = .writing) (ho : s.update.asOne = false)
    (hg : s.staged (imgType k) = some g) :
    (s.bankWritten k true).update.firm[k] =
      { s.update.firm[k].written g with restarting := true, workTaken := false } := by
  have hone : ∀ f, (s.modFirm k f).update.asOne = false := fun _ => ho
  have he : s.bankWritten k true = (if (s.modFirm k fun f => f.written g).inService k then
      (s.modFirm k fun f => f.written g).outForUpdate k else s.modFirm k fun f => f.written g).restartModule k := by
    unfold State.bankWritten
    extract_lets kind s1
    rw [if_neg (by simp [hw, -Fin.getElem_fin])]
    simp only [kind, hg]
    exact if_neg (by rw [hone]; simp)
  have hfirm : (if (s.modFirm k fun f => f.written g).inService k then
      (s.modFirm k fun f => f.written g).outForUpdate k else s.modFirm k fun f => f.written g).update.firm[k] =
      s.update.firm[k].written g := by
    split
    · exact (State.firm_congr (State.outForUpdate_firm _ k) k).trans (s.modFirm_self k _)
    · exact s.modFirm_self k _
  rw [he, State.restartModule_self, hfirm]

/-- The spare bank after programs that failed. -/
def FirmSt.spoiled (f : FirmSt) : FirmSt :=
  { f with banks := updV f.banks f.spare fun _ => { header := [0], body := [] }, fails := 3 }

/-- A bank write that failed for good ends the update of the slot on the old bank. -/
theorem State.bankWritten_bad (hw : s.update.firm[k].state = .writing) :
    (s.bankWritten k false).update.firm[k].state = .idle ∧
      (s.bankWritten k false).update.firm[k].pointer = s.update.firm[k].pointer ∧
      (s.bankWritten k false).update.firm[k].running = s.update.firm[k].running := by
  have hend : ∀ items, (((s.modFirm k FirmSt.spoiled).raise Ev.UD_VERIFY_FAIL items).activationFails k ST_IMAGE
      0).update.firm[k] = { s.update.firm[k].spoiled with state := .idle } := by
    intro items
    rw [State.activationFails_self, State.raise_update, State.modFirm_self]
  unfold State.bankWritten
  extract_lets kind s1 s2
  rw [if_neg (by simp [hw, -Fin.getElem_fin])]
  have h2 : s2.update.firm[k] = { s.update.firm[k].spoiled with state := .idle } := hend _
  clear_value s2
  show (ite _ s2 (s2.restartModule k)).update.firm[k].state = _ ∧ (ite _ s2 (s2.restartModule k)).update.firm[k].pointer = _ ∧
    (ite _ s2 (s2.restartModule k)).update.firm[k].running = _
  split
  · rw [h2]
    exact ⟨rfl, rfl, rfl⟩
  · rw [State.restartModule_self, h2]
    exact ⟨rfl, rfl, rfl⟩

/-! ### The boot (R398) -/

theorem State.bootModule_self (hi : imgType k ≠ 0) : ∃ st, (s.bootModule k).update.firm[k] =
    { s.update.firm[k].boot.1 with state := st } := by
  unfold State.bootModule
  rw [if_neg hi]
  extract_lets b s1 s2
  have h1 : s1.update.firm[k] = b.1 := s.modFirm_self k _
  have h2 : ∃ st, s2.update.firm[k] = { b.1 with state := st } := by
    unfold s2
    split
    · refine ⟨.idle, (State.updBecomes_self _ k .idle).trans ?_⟩
      rw [State.raise_update, h1]
    · exact ⟨b.1.state, h1⟩
  obtain ⟨st, h2⟩ := h2
  clear_value s2
  split
  · exact ⟨st, h2⟩
  · have hr : ∀ t : State, ∀ items, (t.raise Ev.UD_IMAGE_REFUSED items).update.firm = t.update.firm :=
      fun t items => congrArg UpdateSt.firm (State.raise_update ..)
    exact ⟨st, (State.firm_congr (hr _ _) k).trans h2⟩

/-! ### Memory frames (R406) -/

/-- The payload a module answers a memory request with (Table UD-5). -/
def memoryReply (op status off : Nat) (data : List Byte) : List Byte :=
  leBytes 1 op ++ leBytes 1 status ++ [0, 0] ++ leBytes 4 off ++ leBytes 2 data.length ++ List.replicate 6 0 ++ data

theorem State.memoryRequest_of_pointer {q : List Byte} (hop : byteAt q 0 = 5) (hb : byteAt q 1 ≤ 1)
    (h2 : u16At q 2 = 0) (hlen : u16At q 8 ≤ 224) :
    s.memoryRequest k q = s.modFirm k fun f =>
      { f with reply := memoryReply 5 0 (u32At q 4) s.update.firm[k].pointer.bytes } := by
  have hbad : (decide ((5 : Nat) = 0) || decide (6 < 5) || decide (224 < u16At q 8) || decide (1 < byteAt q 1) ||
      decide (u16At q 2 ≠ 0)) = false := by
    simp [Nat.not_lt.mpr hlen, Nat.not_lt.mpr hb, h2]
  unfold State.memoryRequest
  rw [hop]
  extract_lets op bank off len f reply room b
  exact (if_neg (by rw [hbad]; exact Bool.false_ne_true)).trans (if_neg (by simp [op]))

/-- A program of a module in service is refused. -/
theorem State.memoryRequest_of_inService {q : List Byte} (hop : byteAt q 0 = 2) (hb : byteAt q 1 ≤ 1)
    (h2 : u16At q 2 = 0) (hlen : u16At q 8 ≤ 224) (hs : s.inService k = true) :
    s.memoryRequest k q = s.modFirm k fun f => { f with reply := memoryReply 2 4 (u32At q 4) [] } := by
  have hbad : (decide ((2 : Nat) = 0) || decide (6 < 2) || decide (224 < u16At q 8) || decide (1 < byteAt q 1) ||
      decide (u16At q 2 ≠ 0)) = false := by
    simp [Nat.not_lt.mpr hlen, Nat.not_lt.mpr hb, h2]
  unfold State.memoryRequest
  rw [hop]
  extract_lets op bank off len f reply room b
  exact (if_neg (by rw [hbad]; exact Bool.false_ne_true)).trans (if_pos (by rw [hs]; rfl))

/-! ### The end of the trial (R404, R405) -/

theorem State.rollBack_self (why : Nat) :
    (s.rollBack k why).update.firm[k] = { s.update.firm[k].writePtr { s.update.firm[k].pointer with
        bank := otherBank s.update.firm[k].pointer.bank, trial := false, tries := 0 } with
      state := .idle, restarting := true, workTaken := false } := by
  unfold State.rollBack
  extract_lets s1
  have h1 : s1.update.firm[k] = s.update.firm[k].writePtr { s.update.firm[k].pointer with
      bank := otherBank s.update.firm[k].pointer.bank, trial := false, tries := 0 } := by
    unfold s1
    rw [State.raise_update]
    exact s.modFirm_self k _
  rw [State.restartModule_self, State.updBecomes_self, h1]

/-- What the tiers and the loop depend on: not the clock, the outputs, or the firmware. -/
def State.loopView (s : State) : State :=
  { s with now := 0, tick := 0, free := 0, ports := .replicate 4 {}, can := {}, panel := {}, time := {}, journal := {},
           update := {}, pair := { core := s.pair.core } }

theorem State.OutputsOnly.loopView {s t : State} (h : s.OutputsOnly t) : t.loopView = s.loopView := by
  simp only [State.loopView, h.params, h.paramsValid, h.frame, h.doors, h.obst, h.axes, h.axMods, h.field, h.load,
    h.supply, h.energy, h.power, h.pairCore, h.restart, h.pending]

theorem State.updBecomes_loopView (new : UpdState) : (s.updBecomes k new).loopView = s.loopView := by
  unfold State.updBecomes
  extract_lets old
  split
  · rfl
  · exact (State.raise_outputs _ _ _).loopView

/-! ### The commands -/

theorem exec_memoryFrame_of_good (core : CoreId) {frame : List Byte} (hp : s.frame.slots[k].pres = true)
    (hf : linkFrameGood k 3 frame = true) (h0 : imgType k ≠ 0) (h1 : imgType k ≠ 1) :
    ∃ u : State, exec (.memoryFrame k core frame) s =
        .next (u.memoryRequest k ((frame.drop 8).take (byteAt frame 5))) ∧
      u.update.firm = s.update.firm ∧ u.inService k = s.inService k := by
  refine ⟨s.commanded k, ?_, (s.commanded_keeps k).firm_eq, ?_⟩
  · rw [exec_memoryFrame, execMemoryFrame, if_pos (by rw [hp, hf, bne_iff_ne.mpr h0, bne_iff_ne.mpr h1]; rfl)]
  · unfold State.inService
    rw [(s.commanded_keeps k).slots_eq]

theorem exec_autoConfirm_of_due (hp : s.param 0x570 = 1) (h : s.mayConfirm k = true) :
    ∃ u : State, exec (.autoConfirm k) s = .next (u.confirmSlot k 2) ∧ u.update = s.update ∧
      u.now = max s.now (s.update.firm[k].serviceFrom + s.param 0x571 * sec) :=
  ⟨s.until (s.update.firm[k].serviceFrom + s.param 0x571 * sec),
    by rw [exec_autoConfirm, execAutoConfirm, if_pos (by rw [hp, h]; rfl)], s.until_update _, s.until_now _⟩

theorem State.until_loopView (n : Nat) : (s.until n).loopView = s.loopView := rfl

theorem State.modFirm_loopView (f : FirmSt → FirmSt) : (s.modFirm k f).loopView = s.loopView := rfl

/-- A trial that is over without confirmation: a rollback is due. -/
theorem exec_trialTimeout_of_trial (h : s.update.firm[k].state = .trial) :
    ∃ n, exec (.trialTimeout k) s = .next (((s.until n).modFirm k fun f => { f with trialRun := trialTicks }).startRollback
        k 1) ∧ max s.now n = s.now + (trialTicks - s.update.firm[k].trialRun) * tickNs := by
  refine ⟨s.now + (trialTicks - s.update.firm[k].trialRun) * tickNs, ?_, ?_⟩
  · rw [exec_trialTimeout, execTrialTimeout, if_pos h]
  · exact Nat.max_eq_right (Nat.le_add_right _ _)

/-- The state in which the trial is over. -/
theorem exec_trialTimeout_ends (h : s.update.firm[k].state = .trial) :
    ∃ u : State, exec (.trialTimeout k) s = .next (u.startRollback k 1) ∧ u.loopView = s.loopView ∧
      u.update.firm[k].pointer = s.update.firm[k].pointer ∧
      u.now = s.now + (trialTicks - s.update.firm[k].trialRun) * tickNs := by
  obtain ⟨n, he, hn⟩ := exec_trialTimeout_of_trial s k h
  refine ⟨_, he, ?_, ?_, ?_⟩
  · rw [State.modFirm_loopView, State.until_loopView]
  · rw [State.modFirm_self, State.until_update]
    rfl
  · rw [State.modFirm_now, State.until_now, hn]

/-- The state in which a rollback is tried. -/
def State.rollbackDue (s : State) (k : Slot) (why : Nat) : State :=
  (s.modFirm k fun f => { f with rollbackWhy := why, workTaken := false }).updBecomes k .rollbackPending

theorem State.startRollback_eq (why : Nat) : s.startRollback k why = (s.rollbackDue k why).tryRollback k := rfl

theorem State.rollbackDue_eq (why : Nat) : (s.rollbackDue k why).loopView = s.loopView ∧
    (s.rollbackDue k why).update.firm[k].pointer = s.update.firm[k].pointer ∧
    (s.rollbackDue k why).update.firm[k].state = .rollbackPending ∧ (s.rollbackDue k why).now = s.now := by
  unfold State.rollbackDue
  refine ⟨(State.updBecomes_loopView _ k _).trans rfl, ?_, ?_, (State.updBecomes_keeps _ k _).now_eq⟩
  · rw [State.updBecomes_self, State.modFirm_self]
    rfl
  · rw [State.updBecomes_self]

/-- A rollback of a module out of service runs at once, unless it is that of the active core. -/
theorem State.tryRollback_of_out (hs : s.inService k = false) (hk : k ≠ coreSlot s.activeCore) :
    ∃ why, s.tryRollback k = s.rollBack k why := by
  unfold State.tryRollback
  extract_lets why sHeld s1
  have h1 : s1 = s := if_neg (by rw [hs]; exact Bool.false_ne_true)
  rw [if_neg (by simp [hs]), if_neg (by simp [hk]), h1, if_neg (by rw [hs]; exact Bool.false_ne_true)]
  exact ⟨_, rfl⟩

/-- A rollback that reaches the loop waits for the zero-speed pair. -/
theorem State.tryRollback_of_loop (hs : s.inService k = true) (hd : s.dropsLoop k = true)
    (hz : s.zeroSpeed s.activeCore = false) : s.tryRollback k = s :=
  if_pos (by rw [hs, hd, hz]; rfl)

end

/-- What shows in `loopView` is the same for states with the same view. -/
theorem State.tiers_of_loopView {s t : State} (h : t.loopView = s.loopView) (k : Slot) :
    t.inService k = s.inService k ∧ t.activeCore = s.activeCore ∧ t.dropsLoop k = s.dropsLoop k ∧
      t.zeroSpeed t.activeCore = s.zeroSpeed s.activeCore := by
  have hin : t.loopView.inService k = s.loopView.inService k := by rw [h]
  have hcore : t.loopView.activeCore = s.loopView.activeCore := by rw [h]
  have hdrop : t.loopView.dropsLoop k = s.loopView.dropsLoop k := by rw [h]
  have hzero : t.loopView.zeroSpeed t.loopView.activeCore = s.loopView.zeroSpeed s.loopView.activeCore := by rw [h]
  exact ⟨hin, hcore, hdrop, hzero⟩

/-- Settles O45: each row through what its operation makes of the slot. -/
theorem updateEventsComplete : Obligations.UpdateEventsComplete := by
  intro s k
  refine ⟨fun g ht hst hg ho hgate hdrop hk => ?_, fun core frame q hp hf h0 h1 hq hb h2 hlen => ⟨fun hop => ?_,
    fun hop hs => ?_⟩, fun g hw ho hg => ?_, fun hw ho => ?_, fun hp hi => ?_, fun hp hc => ?_, fun ht hs hk => ?_,
    fun ht hs hd hz => ?_⟩
  · exact Does.intro (exec_slotActivationStart s k) (s.startSlot_state k ht hst hg ho hgate hdrop hk)
  · obtain ⟨u, he, hu, -⟩ := exec_memoryFrame_of_good s k core hp hf h0 h1
    subst hq
    refine Does.intro he ?_
    rw [u.memoryRequest_of_pointer k hop hb h2 hlen, State.modFirm_self, hu]
    rfl
  · obtain ⟨u, he, hu, hin⟩ := exec_memoryFrame_of_good s k core hp hf h0 h1
    subst hq
    refine Does.intro he ?_
    rw [u.memoryRequest_of_inService k hop hb h2 hlen (hin.trans hs), State.modFirm_self, hu]
    exact ⟨rfl, rfl⟩
  · refine Does.intro (exec_bankWriteDone s k true) ?_
    obtain ⟨hbank, hptr, htrial, htries⟩ := s.update.firm[k].written_written g
    rw [s.bankWritten_good k hw ho hg]
    exact ⟨hbank, hptr, htrial, htries, rfl⟩
  · exact Does.intro (exec_bankWriteDone s k false) (s.bankWritten_bad k hw)
  · refine Does.intro (t := s.bootModule k) ?_ ?_
    · rw [exec_moduleBoot, execModuleBoot, if_pos hp]
    · obtain ⟨st, he⟩ := s.bootModule_self k hi
      rw [he]
      exact ⟨rfl, rfl, rfl⟩
  · obtain ⟨u, he, hu, hnow⟩ := exec_autoConfirm_of_due s k hp hc
    have htrial : u.update.firm[k].state = .trial := by
      unfold State.mayConfirm at hc
      simp only [Bool.and_eq_true, beq_iff_eq] at hc
      rw [hu]
      exact hc.1.1.1
    obtain ⟨hidle, hptr⟩ := u.confirmSlot_confirmed 2 htrial
    exact Does.intro he ⟨hidle, hptr, (u.confirmSlot_keeps k 2).now_eq.trans hnow⟩
  · obtain ⟨u, he, hv, hptr, -⟩ := exec_trialTimeout_ends s k ht
    obtain ⟨hv', hptr', -, -⟩ := u.rollbackDue_eq k 1
    obtain ⟨hin, hcore, -, -⟩ := State.tiers_of_loopView (hv'.trans hv) k
    obtain ⟨why, hroll⟩ := State.tryRollback_of_out (u.rollbackDue k 1) k (hin.trans hs) (by rw [hcore]; exact hk)
    refine Does.intro he ?_
    rw [State.startRollback_eq, hroll, State.rollBack_self]
    have hp := FirmSt.writePtr_pointer (u.rollbackDue k 1).update.firm[k]
      { (u.rollbackDue k 1).update.firm[k].pointer with
        bank := otherBank (u.rollbackDue k 1).update.firm[k].pointer.bank, trial := false, tries := 0 }
    refine ⟨rfl, (congrArg BootPtr.bank hp).trans ?_, congrArg BootPtr.trial hp, rfl⟩
    exact congrArg (fun p : BootPtr => otherBank p.bank) (hptr'.trans hptr)
  · obtain ⟨u, he, hv, -, hnow⟩ := exec_trialTimeout_ends s k ht
    obtain ⟨hv', -, hstate, hnow'⟩ := u.rollbackDue_eq k 1
    obtain ⟨hin, -, hdrop, hzero⟩ := State.tiers_of_loopView (hv'.trans hv) k
    have hstay : (u.rollbackDue k 1).tryRollback k = u.rollbackDue k 1 :=
      State.tryRollback_of_loop _ k (hin.trans hs) (hdrop.trans hd) (hzero.trans hz)
    refine Does.intro he ?_
    rw [State.startRollback_eq, hstay]
    exact ⟨hstate, hnow'.trans hnow⟩

end Sys2Proof.Machine
end

section
/-!
The close of a session whose party holds a claim (R60, R419): the claim that ends takes the last place in staging.
-/

set_option Elab.async false

namespace Sys2Proof.Machine

/-- A session is open on C0, P4 holds the parameter set, and staging has one place left. -/
def State.sessionHolds : State :=
  { State.reset with
    params := [(0x560, 0xFFFF)],
    doors := { State.reset.doors with claims := [(.paramSet, .p4)] },
    update := { State.reset.update with session := .replicate 2 { level := 1 } },
    journal := .oneLeft }

theorem State.sessionHolds_takes : State.sessionHolds.takesEvent Ev.UD_SESSION_CLOSE = true := by decide +kernel

theorem State.sessionHolds_level : State.sessionHolds.update.session[(0 : CoreId)].level ≠ 0 := by decide +kernel

/-- DW_CLAIM of the claim that ends is staged before UD_SESSION_CLOSE, which finds no place. -/
theorem State.sessionHolds_lacks :
    (State.sessionHolds.doSessionClose { party := .p4 }).lacksEvent Ev.UD_SESSION_CLOSE = true := by
  decide +kernel

/-- Refutes O46: OP_SESSION_CLOSE of a session whose party holds a claim, with one place left in staging. -/
theorem not_sessionsComplete : ¬ Obligations.SessionsComplete := by
  intro h
  obtain ⟨-, -, -, hclose, -⟩ := h State.sessionHolds 0
  obtain ⟨-, -, hraised⟩ := (hclose { party := .p4 } State.sessionHolds_level).elim (exec_opSessionClose ..)
  exact not_raised_of_lacksEvent State.sessionHolds_takes State.sessionHolds_lacks _ hraised

end Sys2Proof.Machine
end
